-- ==== Sys2Proof/Word.lean ====
section
/-! DEFINITION. The word types of the block (R2, R10, R28) and their plainest arithmetic.
Dictionary registers are bit vectors of the width the spec gives them; counts, positions and times that
software cannot see as a word are natural numbers. -/
namespace Sys2Proof

/-- One byte. -/
abbrev Byte := BitVec 8
/-- The scalar types of R524. -/
abbrev U8 := BitVec 8
abbrev U16 := BitVec 16
abbrev U32 := BitVec 32
/-- The 40-bit native word (R10, R28). -/
abbrev U40 := BitVec 40
/-- A data-tree beat (R10). -/
abbrev Beat := BitVec 64
/-- A Hedgerow rule row (R97). -/
abbrev RuleRow := BitVec 128
/-- A stored 72-bit word of the (72,64) code (R33): bits 0–63 data, 64–71 check. -/
abbrev CodeWord := BitVec 72

/-- A saturating counter step (R38, R94, R131, R182, R214, R294, R436, R536: counters saturate at all ones). -/
def satInc {w : Nat} (x : BitVec w) : BitVec w := if x = BitVec.allOnes w then x else x + 1

/-- The six channels (R183). -/
abbrev Chan := Fin 6
/-- The two chip selects of a channel (R28). -/
abbrev Cs := Fin 2

end Sys2Proof
end

