-- ==== Sys2Proof/Syntax.lean ====
section
/-! DEFINITION. The commands the block takes: one constructor per row of spec/opcode_table.json, in its order, and
the operand types they carry. An operand is either what the command brings (an address, a value) or what the world
outside answers at that moment (a noise window, an eMMC outcome, a sensor value): log entry 2. -/
namespace Sys2Proof

/-- The ports that reach the dictionary (R46): MP0, MP1 and the runtime's internal port L. -/
inductive Port | mp0 | mp1 | l
deriving DecidableEq, Repr

/-- The board's management ports (R514). -/
abbrev MPort := Fin 2

/-- An error found in a stored word: the memory code of R38, the 72-bit word's index, the bits that flipped. -/
structure Upset where
  mem : Fin 8
  word : Nat
  mask : CodeWord
deriving DecidableEq, Repr

/-- What walker 1 resolved when the two walkers disagree (R120, R121): the row of R120 and walker 1's outcome. -/
structure TwinDiff where
  field : Fin 6
  rule1 : Option U16
  readMode1 : Fin 4
  policy1 : Fin 4
  class1 : Fin 8
deriving DecidableEq, Repr

/-- The circumstances of one host command on a channel, as the balls and the world give them (log entry 2). -/
structure HostCmd where
  ch : Chan
  /-- the byte sent on the falling edge of the first cycle in 8D-8D-8D (R59); ignored in SPI and QPI -/
  second : Byte := 0
  /-- the chip select rises on a byte boundary after the full address (R74) -/
  whole : Bool := true
  /-- the first data byte whose physical data is late at its edge (R73) -/
  lateAt : Option Nat := none
  /-- the first data byte carried by a data-fabric beat with a double-bit error (R36, R65) -/
  beatErr : Option Nat := none
  /-- the two walkers disagree (R120) -/
  twin : Option TwinDiff := none
  /-- the shadowing Fallow pipeline's verdict differs (R207) -/
  shadow : Bool := false
  /-- the code (R215) of a driven host-port ball that read back wrong (R198) -/
  hostBall : Option U8 := none
  /-- the code (R215) of a driven flash-port ball that read back wrong (R198) -/
  flashBall : Option U8 := none
  /-- errors that struck stored words before this command -/
  upsets : List Upset := []
deriving DecidableEq, Repr

/-- How a device-initiated flash operation ends (R196, R198). -/
inductive FlashEnd
  /-- completed -/
  | ok
  /-- its timeout won (R25), the flash reported an error, or DQS edges were missing (R196) -/
  | failed
  /-- a data-fabric beat of the read had a double-bit error (R36, R196) -/
  | beatErr
  /-- a host command aborted it (R93); `beats` whole beats had arrived (R164) -/
  | aborted (beats : Nat)
deriving DecidableEq, Repr

/-- How a physical program or erase ends; on a failure `cells` are the flash bytes that changed (log entry 2). -/
inductive PhysEnd
  | ok
  | failed (cells : List (Nat × Byte))
deriving DecidableEq, Repr

/-- What SFDP and ID reads find on a populated chip select (R84, R96, R232). -/
structure FlashFacts where
  /-- capacity in bytes, at most 2^32 -/
  capacity : Nat
  /-- the three bytes of 0x9F -/
  id : List Byte
  page256 : Bool
  /-- supports 0x12, 0xDC and 0xEC -/
  cmds4B : Bool
  /-- supports 0xEE-0x11 in 8D-8D-8D -/
  octal : Bool
  /-- supports QPI -/
  qpi : Bool
  /-- accepts the setup and high times of R92 -/
  meetsR92 : Bool
  erase4K : Bool
  erase32K : Bool
  /-- D_phys (R72) for the seven rows k of R72: 1-1-4, 1-4-4, 4-4-4, 8D at 200, 166, 133, 100 MHz -/
  dphys : List Nat
  /-- 0xEC support in 1-1-4, 1-4-4, 4-4-4 (R84) -/
  fast : List Bool
  /-- typical and maximum program time, µs -/
  progTyp : Nat
  progMax : Nat
  /-- typical and maximum time of the largest erase, µs -/
  eraseTyp : Nat
  eraseMax : Nat
deriving DecidableEq, Repr

/-- What one chip select answers at a discovery (R232): nothing with an SFDP signature, or facts. -/
inductive Found
  | empty
  | populated (f : FlashFacts)
  /-- the reads failed and so did their retries (R196, R232) -/
  | readFails
deriving DecidableEq, Repr

/-- One bring-up attempt of the eMMC device (R226, R249, R250). -/
inductive VaultTry
  /-- a required feature is absent (R250) -/
  | lacksFeature
  /-- CMD1 did not report ready within 1 s -/
  | initTimeout
  /-- the command of this index failed all its retries (R251) -/
  | cmdFails (index : U16)
  /-- up; whether the HS200 tuning and the HS400 switch succeeded -/
  | up (hs200 hs400 : Bool)
deriving DecidableEq, Repr

/-- What identification reads from the eMMC device (R249, R294). -/
structure EmmcInfo where
  userSectors : U40
  cid : List Byte
  /-- RPMB write counter of the device -/
  writeCounter : U32
deriving DecidableEq, Repr

/-- How an eMMC command ends (R251). -/
inductive EmmcEnd | ok | crcError | errorBit | timeout
deriving DecidableEq, Repr

/-- One noise source's start-up window: its 1,024 raw samples, sample 0 in bit 0 (R396, R399). -/
abbrev Window := BitVec 1024

/-- The outcome of the writes a boot step or sequence makes to the RPMB (R255, R316). -/
inductive WriteEnd | ok | failed
deriving DecidableEq, Repr

/-- The samples the ten monitors read at one tick (R441, R442): bit m is monitor m's condition. -/
structure HeathSample where
  cond : BitVec 10
  vbatMv : U16
deriving DecidableEq, Repr

/-- The values of one KAT run: how many of its attempts failed, 0 to 4 (R224), by KAT id and unit. -/
structure KatFail where
  id : Fin 11
  unit : Fin 8
  fails : Fin 5
deriving DecidableEq, Repr

/-- The fields of a PKE command word (R376). -/
structure PkWord where
  r : BitVec 6
  a : BitVec 6
  b : BitVec 6
  m : BitVec 6
  secret : Bool
  reserved : BitVec 4
  key : BitVec 6
deriving DecidableEq, Repr

/-- An SPDM request as received on a management port (R419): its version, its code and its parameters. -/
structure SpdmReq where
  port : MPort
  version : Byte
  param1 : Byte := 0
  param2 : Byte := 0
  /-- the bytes after the four header bytes -/
  body : List Byte := []
deriving DecidableEq, Repr

/-- The parts of a field-access read that the flash answers (R558). -/
inductive FaEnd | ok | failed
deriving DecidableEq, Repr

/-- One command. -/
inductive Instr where
  | porNRise (straps : BitVec 4)
  | porNFall
  | clock (waitedMs : Nat) (locked : Bool)
  | heath
  | lifecycle
  | kat (run : List KatFail)
  | entropy (ling sedge fescue : List Window)
  | vault (tries : List VaultTry) (info : EmmcInfo)
  | runtime (readErrA readErrB : Bool)
  | discovery (found : List Found) (scratchFails : List Chan)
  | policy (rpmb : WriteEnd)
  | coreReset (readErrA readErrB : Bool)
  | deviceReset (p : Port)
  | deviceResetTakesEffect
  | rtImageWrite (p : Port) (offset : U40) (data : List Byte)
  | rtInstall (p : Port)
  | refclkLoss
  | refclkReturn (periods : Nat)
  | pllLockLoss
  | pllRelock
  | tbUsWrap
  | paceRefresh (ps : U16)
  | sensorRefresh (tj : List Int) (railMv : List U16)
  | scrubRead (struck : Option CodeWord)
  | timeoutExpiry (t : Fin 14) (ch : Chan)
  | lateArrival (t : Fin 14) (ch : Chan)
  | fastRead (c : HostCmd) (addr : U32) (len : Nat)
  | fastRead4B (c : HostCmd) (addr : U32) (len : Nat)
  | quadOutputRead (c : HostCmd) (addr : U32) (len : Nat)
  | quadOutputRead4B (c : HostCmd) (addr : U32) (len : Nat)
  | quadIoRead (c : HostCmd) (addr : U32) (len : Nat)
  | quadIoRead4B (c : HostCmd) (addr : U32) (len : Nat)
  | octalDtrRead (c : HostCmd) (addr : U32) (len : Nat)
  | pageProgram (c : HostCmd) (addr : U32) (data : List Byte)
  | pageProgram4B (c : HostCmd) (addr : U32) (data : List Byte)
  | quadInputPageProgram (c : HostCmd) (addr : U32) (data : List Byte)
  | quadInputPageProgram4B (c : HostCmd) (addr : U32) (data : List Byte)
  | erase4K (c : HostCmd) (addr : U32)
  | erase4K4B (c : HostCmd) (addr : U32)
  | erase32K (c : HostCmd) (addr : U32)
  | erase32K4B (c : HostCmd) (addr : U32)
  | erase64K (c : HostCmd) (addr : U32)
  | erase64K4B (c : HostCmd) (addr : U32)
  | chipErase (c : HostCmd) (second : Bool)
  | writeEnable (c : HostCmd)
  | writeDisable (c : HostCmd)
  | readStatus (c : HostCmd) (len : Nat)
  | writeStatus (c : HostCmd)
  | clearFlags (c : HostCmd)
  | readId (c : HostCmd) (len : Nat)
  | readSfdp (c : HostCmd) (addr : U32) (len : Nat)
  | writeVolatileConfiguration (c : HostCmd) (addr : U32) (value : Byte)
  | enterQpi (c : HostCmd)
  | exitQpi (c : HostCmd)
  | resetEnable (c : HostCmd)
  | reset (c : HostCmd)
  | enter4ByteMode (c : HostCmd)
  | exit4ByteMode (c : HostCmd)
  | powerDown (c : HostCmd)
  | releasePowerDown (c : HostCmd)
  | unsupportedCommand (c : HostCmd) (op : Byte) (addr : U32)
  | physicalModeSync (ch : Chan)
  | physOpComplete (ch : Chan) (cs : Cs) (e : PhysEnd)
  | flashOpRetry (ch : Chan)
  | stageStoreExpiry (ch : Chan)
  | gapFill (ch : Chan)
  | pinFill (ch : Chan) (haddr : U32)
  | nodeFetch (ch : Chan) (cs : Cs) (line : BitVec 24)
  | gleaningRead (ch : Chan)
  | deviceReadComplete (ch : Chan) (e : FlashEnd) (ball : Option U8) (upsets : List Upset)
  | lineCheckComplete (ch : Chan) (cs : Cs) (line : BitVec 24)
  | lineStale (ch : Chan) (cs : Cs) (line : BitVec 24)
  | preloadComplete (ch : Chan)
  | flush (p : Port)
  | hayloftReqStateWrite (p : Port) (value : U8)
  | channelReqStateWrite (p : Port) (ch : Chan) (value : U8) (csLow : Bool)
  | reqStateBoundary (node : Fin 9)
  | rediscovery (ch : Chan) (found0 found1 : Found)
  | platPgFall (ch : Chan)
  | platPgRise (ch : Chan)
  | clearHold (p : Port) (ch : Chan)
  | reinstate (p : Port) (ch : Chan) (failing : Option (Fin 5))
  | fallowReinstate (p : Port) (failing : Option (Fin 5))
  | fallowReqStateWrite (p : Port) (value : U8)
  | hotTakeoverSwitch (ch : Chan)
  | coldTakeoverConnect (ch : Chan) (marchPass : Bool)
  | fallowHandback (ch : Chan)
  | indexWordReload (mem : Fin 8) (word : Nat)
  | channelRelease (ch : Chan) (gpio : BitVec 8)
  | relDelayExpiry (ch : Chan) (gpio : BitVec 8)
  | depTimeoutExpiry (ch : Chan)
  | commit (p : Port)
  | discard (p : Port)
  | check (p : Port)
  | ruleDataWrite (p : Port) (row : RuleRow)
  | ruleDomainWrite (p : Port) (offset : U40) (data : List Byte)
  | registerWrite (p : Port) (index : U16) (sub : U8) (value : List Byte)
  | writeBlock (p : Port) (index : U16) (sub : U8) (offset : U40) (data : List Byte)
  | configSetSave (e : WriteEnd)
  | vaultReqStateWrite (p : Port) (value : U8)
  | vaultReinstate (p : Port) (attempt : VaultTry) (info : EmmcInfo)
  | vaultIoComplete (e : EmmcEnd)
  | stileWriteComplete (e : WriteEnd)
  | archiveWrite (e : WriteEnd)
  | format (p : Port)
  | stageClear (p : Port)
  | restore (p : Port)
  | manifestWrite (p : Port) (offset : U40) (data : List Byte)
  | admitManifest (p : Port)
  | partDataWrite (p : Port) (offset : U40) (data : List Byte)
  | apply (p : Port)
  | applyPart (fail : Option (Cs × PhysEnd))
  | abort (p : Port)
  | activate (p : Port)
  | confirm (p : Port)
  | revert (p : Port)
  | trialExpiry
  | dgAlloc (p : Port)
  | dgDeclLength (p : Port) (b : Fin 8) (value : U40)
  | dgData (p : Port) (b : Fin 8) (offset : U40) (data : List Byte)
  | absorbKey (p : Port) (b : Fin 8) (value : U16)
  | dgFinish (p : Port) (b : Fin 8)
  | exportState (p : Port) (b : Fin 8)
  | importState (p : Port) (b : Fin 8)
  | dgRelease (p : Port) (b : Fin 8)
  | engineParityError (cipher : Bool) (unit : Fin 8)
  | cxAlloc (p : Port)
  | cxDeclLength (p : Port) (c : Fin 4) (value : U40)
  | cxData (p : Port) (c : Fin 4) (offset : U40) (data : List Byte)
  | cxFinish (p : Port) (c : Fin 4)
  | cxRelease (p : Port) (c : Fin 4)
  | ksGenerate (p : Port)
  | ksDerive (p : Port) (slot : U8)
  | ksWrap (p : Port) (slot : U8)
  | ksUnwrap (p : Port) (slot : U8)
  | ksImportPlain (p : Port)
  | ksClear (p : Port)
  | dssProvision (p : Port) (value : U8) (window : Option Window) (burnOk : Bool)
  | keyReload (p : Port)
  | pkSlotLimbsWrite (p : Port) (value : U8)
  | pkWipe (p : Port)
  | pkBufWrite (p : Port) (offset : U40) (data : List Byte)
  | add (p : Port) (w : PkWord)
  | sub (p : Port) (w : PkWord)
  | mul (p : Port) (w : PkWord)
  | inv (p : Port) (w : PkWord)
  | exp (p : Port) (w : PkWord)
  | expv (p : Port) (w : PkWord)
  | reduce (p : Port) (w : PkWord)
  | load (p : Port) (w : PkWord)
  | store (p : Port) (w : PkWord)
  | compare (p : Port) (w : PkWord)
  | keyload (p : Port) (w : PkWord)
  | keypub (p : Port) (w : PkWord)
  | rand (p : Port) (w : PkWord)
  | seal (p : Port) (w : PkWord)
  | verify (p : Port) (w : PkWord)
  | verifyGate (p : Port) (w : PkWord)
  | toKey (p : Port) (w : PkWord)
  | pkCommandDispatch
  | pkeParityError
  | startupTestComplete (src : Fin 3) (w : Window)
  | sourceAlarm (apt : Bool)
  | windowPass (w : Window)
  | autoReseed
  | drbgExpiry (byCount : Bool)
  | drbgParityError
  | reseed (p : Port) (w : Option Window)
  | srcReinstate (p : Port) (src : U8) (w : Window)
  | privateWireRequest (consumer : Fin 5) (delivered : Bool)
  | rawWordRead (p : Port)
  | rawBlockRead (p : Port) (count : U16)
  | rawSelectWrite (p : Port) (value : U8)
  | testPatternWrite (p : Port) (value : Bool)
  | getVersion (r : SpdmReq)
  | getCapabilities (r : SpdmReq)
  | negotiateAlgorithms (r : SpdmReq)
  | getDigests (r : SpdmReq)
  | getCertificate (r : SpdmReq)
  | spdmChallenge (r : SpdmReq)
  | getMeasurements (r : SpdmReq)
  | keyExchange (r : SpdmReq)
  | finish (r : SpdmReq)
  | endSession (r : SpdmReq)
  | spdmUnsupportedRequest (r : SpdmReq) (code : Byte)
  | securedMessage (port : MPort) (session : U32) (record : List Byte)
  | measurementRecompute (block : U8)
  | retainedClear (p : Port)
  | fence (p : Port)
  | mainPowerLoss
  | mainPowerReturn
  | heathPowerLoss
  | heathPowerUp
  | heathSampleTick (x : HeathSample)
  | monitorWindowExpiry (m : Fin 10)
  | heathOscMeasure (hz : U32)
  | tamperClear (p : Port)
  | cellArm (p : Port)
  | heathLock (p : Port)
  | wdCheckin (p : Port) (task : U8)
  | wdService (p : Port) (key : U16)
  | wdBite
  | wdLock (p : Port)
  | lockstepMismatch
  | sramDed
  | tuStart (p : Port) (u : Fin 8)
  | tuStop (p : Port) (u : Fin 8)
  | tuExpiry (u : Fin 8)
  | cuAlloc (p : Port)
  | cuStart (p : Port) (u : Fin 8)
  | cuFeed8 (p : Port) (u : Fin 8) (value : U8)
  | cuFeed16 (p : Port) (u : Fin 8) (value : U16)
  | cuFeed40 (p : Port) (u : Fin 8) (value : U40)
  | cuFeedBlock (p : Port) (u : Fin 8) (data : List Byte)
  | cuFinish (p : Port) (u : Fin 8)
  | cuRelease (p : Port) (u : Fin 8)
  | cuParityError (u : Fin 8)
  | lcAdvance (p : Port) (target : U8)
  | lcScrap (p : Port) (value : U40)
  | challenge (p : Port)
  | dbgUnlock (p : Port)
  | keyBurn (p : Port) (readback : Bool)
  | keyRevoke (p : Port) (slot : U8)
  | fuseBurn (p : Port)
  | tapReset
  | extest (cells : List Bool)
  | samplePreload (cells : List Bool)
  | idcode
  | tapChallenge
  | tapToken (token : List Byte)
  | dbgResult
  | coreDebug
  | bypass
  | mctpPacket (port : MPort) (pecOk : Bool) (packet : List Byte)
  | mgmtAssemblyExpiry (port : MPort)
  | responseRead (port : MPort)
  | responseExpiry (port : MPort)
  | setEndpointId (port : MPort) (op : Byte) (eid : U8)
  | getEndpointId (port : MPort)
  | getMctpVersionSupport (port : MPort) (msgType : Byte)
  | getMessageTypeSupport (port : MPort)
  | getVendorDefinedMessageSupport (port : MPort) (selector : Byte)
  | mctpUnsupportedCommand (port : MPort) (code : Byte)
  | entdaa (port : MPort) (da : U8)
  | setdasa (port : MPort) (static da : U8)
  | setnewda (port : MPort) (da : U8)
  | rstdaa (port : MPort)
  | getpid (port : MPort)
  | getbcr (port : MPort)
  | getdcr (port : MPort)
  | getstatus (port : MPort)
  | getmrl (port : MPort)
  | getmwl (port : MPort)
  | setmrl (port : MPort) (value : U16)
  | setmwl (port : MPort) (value : U16)
  | enec (port : MPort)
  | disec (port : MPort)
  | read (p : Port) (index : U16) (sub : U8)
  | readBlock (p : Port) (index : U16) (sub : U8) (offset : U40) (count : U16)
  | poll (p : Port) (entries : List (U16 × U8))
  | faWindowRead (p : Port) (offset : U40) (count : U16)
  | bist (p : Port) (m : Fin 8) (pass : Bool)
  | inject (p : Port) (m : Fin 8)
  | unitTest (p : Port) (code : U8) (pass : Bool)
  | pkCommandComplete
  | faReadExpiry (p : Port)
deriving DecidableEq, Repr

end Sys2Proof
end

