-- ==== Sys2Proof/WellFormed.lean ====
section
/-! DEFINITION. Which command terms can occur: the bounds the spec sets on what a command brings and on what the
world answers. -/
namespace Sys2Proof

/-- Words of the protected memories and fabrics by memory code (R38, R559). -/
def upsetWords : List Nat := [1572864, 262144, 131072, 262144, 32768, 262144, 1, 1]

/-- An error lies in a word that exists and flips some bit. -/
def Upset.wf (u : Upset) : Bool := decide (u.word < upsetWords.getD u.mem.val 0) && u.mask != 0

/-- Codes of a channel's host-port balls (R215). -/
def hostBallNamed (b : Option U8) : Bool :=
  match b with
  | none => true
  | some b => decide (2 ≤ b.toNat ∧ b.toNat ≤ 0x0A) || b == 0x20

/-- Codes of a channel's flash-port balls (R215). -/
def flashBallNamed (b : Option U8) : Bool :=
  match b with
  | none => true
  | some b => decide (0x10 ≤ b.toNat ∧ b.toNat ≤ 0x1B)

def HostCmd.wf (c : HostCmd) : Bool :=
  hostBallNamed c.hostBall && flashBallNamed c.flashBall && c.upsets.all Upset.wf

/-- A flash as SFDP describes it: a capacity of at most 2^32 bytes, a three-byte ID, D_phys for the seven rows of
R72. -/
def FlashFacts.wf (f : FlashFacts) : Bool :=
  decide (0 < f.capacity) && decide (f.capacity ≤ 2 ^ 32) && f.id.length == 3 && f.dphys.length == 7 && f.fast.length == 3

def Found.wf : Found → Bool
  | .populated f => f.wf
  | _ => true

def EmmcInfo.wf (i : EmmcInfo) : Bool := i.cid.length == 16

/-- An SPDM request of at most 4,096 bytes (R420). -/
def SpdmReq.wf (r : SpdmReq) : Bool := decide (r.body.length ≤ 4092)

/-- Data of a WRITE_BLOCK: LENGTH - 8 bytes, at least 1 (R521, R524). -/
def blockData (d : List Byte) : Bool := decide (0 < d.length) && decide (d.length ≤ 4088)

/-- What the spec bounds in each command. -/
def Instr.wf : Instr → Bool
  | .kat run => decide (run.length ≤ 88)
  | .vault tries info => decide (tries.length ≤ 3) && info.wf
  | .vaultReinstate _ _ info => info.wf
  | .discovery found _ => found.length == 12 && found.all Found.wf
  | .rediscovery _ f0 f1 => f0.wf && f1.wf
  | .sensorRefresh tj railMv => tj.length == 8 && railMv.length == 7
  | .rtImageWrite _ _ d | .ruleDomainWrite _ _ d | .writeBlock _ _ _ _ d | .manifestWrite _ _ d | .partDataWrite _ _ d
  | .dgData _ _ _ d | .cxData _ _ _ d | .pkBufWrite _ _ d | .cuFeedBlock _ _ d => blockData d
  | .registerWrite _ _ _ v => decide (0 < v.length) && decide (v.length ≤ 256)
  | .readBlock _ _ _ _ n | .faWindowRead _ _ n | .rawBlockRead _ n => decide (0 < n.toNat) && decide (n.toNat ≤ 4094)
  | .poll _ es => decide (0 < es.length) && decide (es.length ≤ 16)
  | .fastRead c _ _ | .fastRead4B c _ _ | .quadOutputRead c _ _ | .quadOutputRead4B c _ _ | .quadIoRead c _ _
  | .quadIoRead4B c _ _ | .octalDtrRead c _ _ | .pageProgram c _ _ | .pageProgram4B c _ _ | .quadInputPageProgram c _ _
  | .quadInputPageProgram4B c _ _ | .erase4K c _ | .erase4K4B c _ | .erase32K c _ | .erase32K4B c _ | .erase64K c _
  | .erase64K4B c _ | .chipErase c _ | .writeEnable c | .writeDisable c | .readStatus c _ | .writeStatus c
  | .clearFlags c | .readId c _ | .readSfdp c _ _ | .writeVolatileConfiguration c _ _ | .enterQpi c | .exitQpi c
  | .resetEnable c | .reset c | .enter4ByteMode c | .exit4ByteMode c | .powerDown c | .releasePowerDown c
  | .unsupportedCommand c _ _ => c.wf
  | .deviceReadComplete _ _ ball upsets => flashBallNamed ball && upsets.all Upset.wf
  | .getVersion r | .getCapabilities r | .negotiateAlgorithms r | .getDigests r | .getCertificate r | .spdmChallenge r
  | .getMeasurements r | .keyExchange r | .finish r | .endSession r | .spdmUnsupportedRequest r _ => r.wf
  | .securedMessage _ _ record => decide (record.length ≤ 4106)
  | .mctpPacket _ _ packet => decide (packet.length ≤ 255)
  | .tapToken token => token.length == 256
  | .indexWordReload mem word => decide (word < upsetWords.getD mem.val 0)
  | .porNRise _ | .porNFall | .clock _ _ | .heath | .lifecycle | .entropy _ _ _ | .runtime _ _ | .policy _ | .coreReset _ _
  | .deviceReset _ | .deviceResetTakesEffect | .rtInstall _ | .refclkLoss | .refclkReturn _ | .pllLockLoss | .pllRelock
  | .tbUsWrap | .paceRefresh _ | .scrubRead _ | .timeoutExpiry _ _ | .lateArrival _ _ | .physicalModeSync _
  | .physOpComplete _ _ _ | .flashOpRetry _ | .stageStoreExpiry _ | .gapFill _ | .pinFill _ _ | .nodeFetch _ _ _
  | .gleaningRead _ | .lineCheckComplete _ _ _ | .lineStale _ _ _ | .preloadComplete _ | .flush _
  | .hayloftReqStateWrite _ _ | .channelReqStateWrite _ _ _ _ | .reqStateBoundary _ | .platPgFall _ | .platPgRise _
  | .clearHold _ _ | .reinstate _ _ _ | .fallowReinstate _ _ | .fallowReqStateWrite _ _ | .hotTakeoverSwitch _
  | .coldTakeoverConnect _ _ | .fallowHandback _ | .channelRelease _ _ | .relDelayExpiry _ _ | .depTimeoutExpiry _
  | .commit _ | .discard _ | .check _ | .ruleDataWrite _ _ | .configSetSave _ | .vaultReqStateWrite _ _
  | .vaultIoComplete _ | .stileWriteComplete _ | .archiveWrite _ | .format _ | .stageClear _ | .restore _ | .admitManifest _
  | .apply _ | .applyPart _ | .abort _ | .activate _ | .confirm _ | .revert _ | .trialExpiry | .dgAlloc _
  | .dgDeclLength _ _ _ | .absorbKey _ _ _ | .dgFinish _ _ | .exportState _ _ | .importState _ _ | .dgRelease _ _
  | .engineParityError _ _ | .cxAlloc _ | .cxDeclLength _ _ _ | .cxFinish _ _ | .cxRelease _ _ | .ksGenerate _
  | .ksDerive _ _ | .ksWrap _ _ | .ksUnwrap _ _ | .ksImportPlain _ | .ksClear _ | .dssProvision _ _ _ _ | .keyReload _
  | .pkSlotLimbsWrite _ _ | .pkWipe _ | .add _ _ | .sub _ _ | .mul _ _ | .inv _ _ | .exp _ _ | .expv _ _ | .reduce _ _
  | .load _ _ | .store _ _ | .compare _ _ | .keyload _ _ | .keypub _ _ | .rand _ _ | .seal _ _ | .verify _ _
  | .verifyGate _ _ | .toKey _ _ | .pkCommandDispatch | .pkeParityError | .startupTestComplete _ _ | .sourceAlarm _
  | .windowPass _ | .autoReseed | .drbgExpiry _ | .drbgParityError | .reseed _ _ | .srcReinstate _ _ _
  | .privateWireRequest _ _ | .rawWordRead _ | .rawSelectWrite _ _ | .testPatternWrite _ _ | .measurementRecompute _
  | .retainedClear _ | .fence _ | .mainPowerLoss | .mainPowerReturn | .heathPowerLoss | .heathPowerUp | .heathSampleTick _
  | .monitorWindowExpiry _ | .heathOscMeasure _ | .tamperClear _ | .cellArm _ | .heathLock _ | .wdCheckin _ _
  | .wdService _ _ | .wdBite | .wdLock _ | .lockstepMismatch | .sramDed | .tuStart _ _ | .tuStop _ _ | .tuExpiry _
  | .cuAlloc _ | .cuStart _ _ | .cuFeed8 _ _ _ | .cuFeed16 _ _ _ | .cuFeed40 _ _ _ | .cuFinish _ _ | .cuRelease _ _
  | .cuParityError _ | .lcAdvance _ _ | .lcScrap _ _ | .challenge _ | .dbgUnlock _ | .keyBurn _ _ | .keyRevoke _ _
  | .fuseBurn _ | .tapReset | .extest _ | .samplePreload _ | .idcode | .tapChallenge | .dbgResult | .coreDebug | .bypass
  | .mgmtAssemblyExpiry _ | .responseRead _ | .responseExpiry _ | .setEndpointId _ _ _ | .getEndpointId _
  | .getMctpVersionSupport _ _ | .getMessageTypeSupport _ | .getVendorDefinedMessageSupport _ _
  | .mctpUnsupportedCommand _ _ | .entdaa _ _ | .setdasa _ _ _ | .setnewda _ _ | .rstdaa _ | .getpid _ | .getbcr _
  | .getdcr _ | .getstatus _ | .getmrl _ | .getmwl _ | .setmrl _ _ | .setmwl _ _ | .enec _ | .disec _ | .read _ _ _
  | .bist _ _ _ | .inject _ _ | .unitTest _ _ _ | .pkCommandComplete | .faReadExpiry _ => true

end Sys2Proof
end

