-- ==== Sys2Proof/Decode.lean ====
section
/-! DEFINITION. The command a table word spells. spec/opcode_table.json gives no row any bits (every row's "fields"
is empty), so no word spells a command (log entry 7). -/
namespace Sys2Proof

/-- The rows of the opcode table that give bits, as (number of bits, word, command): none. -/
def tableRows : List (Nat × Nat × Instr) := []

/-- The command that a word of `nbits` bits spells by the table. -/
def decodeTableWord (nbits w : Nat) : Option Instr :=
  (tableRows.find? (fun r => r.1 == nbits && r.2.1 == w)).map (fun r => r.2.2)

end Sys2Proof
end

