-- ==== Sys2Proof/Machine/Bits.lean ====
section
/-! DEFINITION. Byte-order, bit-field and byte-string helpers (R1, R2), and the two sparse containers of the
model: a table sorted by key, and a byte memory in canonical form. -/
namespace Sys2Proof.Machine

/-- The low `n` bytes of `v`, least significant first (R2). -/
def leBytes : Nat → Nat → List Byte
  | 0, _ => []
  | n + 1, v => BitVec.ofNat 8 v :: leBytes n (v / 256)

/-- The number that a byte string spells, least significant byte first (R2). -/
def leNat : List Byte → Nat
  | [] => 0
  | b :: bs => b.toNat + 256 * leNat bs

/-- The low `n` bytes of `v`, most significant first (published standards, R2). -/
def beBytes (n v : Nat) : List Byte := (leBytes n v).reverse

/-- The number that a byte string spells, most significant byte first. -/
def beNat (bs : List Byte) : Nat := bs.foldl (fun a b => a * 256 + b.toNat) 0

/-- `n` bytes of `bs` from offset `o`; absent bytes read 0. -/
def slice (bs : List Byte) (o n : Nat) : List Byte :=
  let t := (bs.drop o).take n
  t ++ List.replicate (n - t.length) 0

/-- The little-endian field of `n` bytes at offset `o`. -/
def fieldAt (bs : List Byte) (o n : Nat) : Nat := leNat (slice bs o n)

/-- The byte at offset `o`; absent bytes read 0. -/
def byteAt (bs : List Byte) (o : Nat) : Nat := (bs.getD o 0).toNat

/-- Bits [hi:lo] of a number (R1). -/
def bits (v hi lo : Nat) : Nat := (v / 2 ^ lo) % 2 ^ (hi + 1 - lo)

/-- Bit `b` of a number (R1). -/
def bit (v b : Nat) : Bool := (v / 2 ^ b) % 2 == 1

/-- `v` with bit `b` set or cleared. -/
def setBit (v b : Nat) (x : Bool) : Nat :=
  if bit v b == x then v else if x then v + 2 ^ b else v - 2 ^ b

/-- A Boolean as a bit. -/
def b2n (b : Bool) : Nat := if b then 1 else 0

/-- `n` bytes of zero. -/
def zeros (n : Nat) : List Byte := List.replicate n 0

/-- `bs` cut or zero-padded to `n` bytes. -/
def padTo (bs : List Byte) (n : Nat) : List Byte := slice bs 0 n

/-- Every byte of the string is 0 (reserved fields, R3). -/
def allZero (bs : List Byte) : Bool := bs.all (· == 0)

/-- `bs` with the bytes of `d` written at offset `o`. -/
def patch (bs : List Byte) (o : Nat) (d : List Byte) : List Byte :=
  slice bs 0 o ++ d ++ bs.drop (o + d.length)

/-- `v` rounded up to a multiple of `m`. -/
def roundUp (v m : Nat) : Nat := (v + m - 1) / m * m

/-- Quotient rounded up (R133). -/
def divUp (v m : Nat) : Nat := (v + m - 1) / m

/-- XOR of two byte strings, to the length of the shorter. -/
def xorBytes (a b : List Byte) : List Byte := List.zipWith (· ^^^ ·) a b

/-! ### Tables sorted by key -/

/-- The entry of key `k`. -/
def tget {α : Type} : List (Nat × α) → Nat → Option α
  | [], _ => none
  | (j, v) :: t, k => if j = k then some v else tget t k

/-- The table with key `k` set to `v`; keys stay strictly rising. -/
def tput {α : Type} : List (Nat × α) → Nat → α → List (Nat × α)
  | [], k, v => [(k, v)]
  | (j, w) :: t, k, v =>
    if k < j then (k, v) :: (j, w) :: t
    else if k = j then (k, v) :: t
    else (j, w) :: tput t k v

/-- The table without key `k`. -/
def tdel {α : Type} : List (Nat × α) → Nat → List (Nat × α)
  | [], _ => []
  | (j, w) :: t, k => if j = k then t else (j, w) :: tdel t k

/-! ### Byte memory (log entry 5)

A memory is a list of (address, byte) cells with addresses strictly rising and no cell equal to what an
unlisted address reads as. -/

/-- The byte at address `a` of a memory whose unlisted bytes read `d`. -/
def Mem.read (d : Byte) (m : List (Nat × Byte)) (a : Nat) : Byte := (tget m a).getD d

/-- The memory after byte `v` is written at `a`: writing what unlisted bytes read as removes the cell. -/
def Mem.write (d : Byte) (m : List (Nat × Byte)) (a : Nat) (v : Byte) : List (Nat × Byte) :=
  if v = d then tdel m a else tput m a v

/-- `n` bytes from address `a`. -/
def Mem.readN (d : Byte) (m : List (Nat × Byte)) (a : Nat) : Nat → List Byte
  | 0 => []
  | n + 1 => Mem.read d m a :: Mem.readN d m (a + 1) n

/-- The memory after a byte string is written from address `a` up. -/
def Mem.writeL (d : Byte) (m : List (Nat × Byte)) (a : Nat) : List Byte → List (Nat × Byte)
  | [] => m
  | b :: bs => Mem.writeL d (Mem.write d m a b) (a + 1) bs

/-- The memory with every byte of `[a, a + n)` back at the unlisted value. -/
def Mem.clear (m : List (Nat × Byte)) (a n : Nat) : List (Nat × Byte) :=
  m.filter (fun c => c.1 < a || a + n ≤ c.1)

/-- Keys strictly rising. -/
def sortedKeys {α : Type} : List (Nat × α) → Bool
  | [] => true
  | [_] => true
  | a :: b :: t => decide (a.1 < b.1) && sortedKeys (b :: t)

/-- The canonical form of a byte memory (log entry 5). -/
def Memory.wf (d : Byte) (m : List (Nat × Byte)) : Bool :=
  sortedKeys m && m.all (fun c => c.2 != d)

end Sys2Proof.Machine
end

