-- ==== Sys2Proof/Machine/Keccak.lean ====
section
/-! DEFINITION. The Keccak permutation and the sponge of SHA3-256, SHA3-384 and SHAKE256 (FIPS 202, cited by R328). -/
namespace Sys2Proof.Machine

/-- Round constants. -/
def keccakRC : List (BitVec 64) :=
  [0x0000000000000001, 0x0000000000008082, 0x800000000000808A, 0x8000000080008000, 0x000000000000808B] ++
  [0x0000000080000001, 0x8000000080008081, 0x8000000000008009, 0x000000000000008A, 0x0000000000000088] ++
  [0x0000000080008009, 0x000000008000000A, 0x000000008000808B, 0x800000000000008B, 0x8000000000008089] ++
  [0x8000000000008003, 0x8000000000008002, 0x8000000000000080, 0x000000000000800A, 0x800000008000000A] ++
  [0x8000000080008081, 0x8000000000008080, 0x0000000080000001, 0x8000000080008008]

/-- Rotation of the lane x + 5y. -/
def keccakRot : List Nat :=
  [0, 1, 62, 28, 27, 36, 44, 6, 55, 20, 3, 10, 43, 25, 39, 41, 45, 15, 21, 8, 18, 2, 61, 56, 14]

/-- One round on the 25 lanes, lane x + 5y. -/
def keccakRound (a : List (BitVec 64)) (rc : BitVec 64) : List (BitVec 64) :=
  let g := fun (l : List (BitVec 64)) (x y : Nat) => l.getD (x % 5 + 5 * (y % 5)) 0
  let c := (List.range 5).map (fun x => g a x 0 ^^^ g a x 1 ^^^ g a x 2 ^^^ g a x 3 ^^^ g a x 4)
  let d := (List.range 5).map (fun x => c.getD ((x + 4) % 5) 0 ^^^ (c.getD ((x + 1) % 5) 0).rotateLeft 1)
  let t := (a.zipIdx).map (fun v => v.1 ^^^ d.getD (v.2 % 5) 0)
  -- lane (x, y) of the next array comes from lane (x + 3y, x)
  let b := (List.range 25).map (fun i =>
    let x := i % 5
    let y := i / 5
    let j := (x + 3 * y) % 5 + 5 * x
    (t.getD j 0).rotateLeft (keccakRot.getD j 0))
  let e := (List.range 25).map (fun i => g b i (i / 5) ^^^ (~~~(g b (i % 5 + 1) (i / 5)) &&& g b (i % 5 + 2) (i / 5)))
  match e with
  | x :: r => (x ^^^ rc) :: r
  | [] => []

/-- The permutation on the 200 bytes of a state. -/
def keccakF (st : List Byte) : List Byte :=
  let lanes := (List.range 25).map (fun i => BitVec.ofNat 64 (fieldAt st (8 * i) 8))
  (keccakRC.foldl keccakRound lanes).flatMap (fun l => leBytes 8 l.toNat)

/-- Absorbs `n` whole blocks of `r` bytes. -/
def spongeBlocks (r : Nat) : Nat → List Byte → List Byte → List Byte
  | 0, st, _ => st
  | n + 1, st, bs => spongeBlocks r n (keccakF (xorBytes st (bs.take r ++ zeros (200 - r)))) (bs.drop r)

/-- Squeezes `n` blocks of `r` bytes. -/
def squeeze (r : Nat) : Nat → List Byte → List Byte
  | 0, _ => []
  | n + 1, st => st.take r ++ squeeze r n (keccakF st)

/-- The end of a sponge job: the buffered bytes with the domain byte and padding, then `out` bytes. -/
def spongeEnd (r : Nat) (dom : Byte) (st buf : List Byte) (out : Nat) : List Byte :=
  let p := padTo (buf ++ [dom]) r
  let p := p.take (r - 1) ++ [(p.getD (r - 1) 0) ^^^ 0x80]
  (squeeze r (divUp out r) (spongeBlocks r 1 st p)).take out

end Sys2Proof.Machine
end

