-- ==== Sys2Proof/Machine/Aes.lean ====
section
/-! DEFINITION. AES-256 and AES-128 (FIPS 197) and the modes the block uses: CTR (SP 800-38A), GCM (SP 800-38D), KW and
KWP (SP 800-38F), as R350 and R360 cite them. -/
namespace Sys2Proof.Machine

/-- The S-box of FIPS 197. -/
def aesSbox : List Byte :=
  [0x63, 0x7c, 0x77, 0x7b, 0xf2, 0x6b, 0x6f, 0xc5, 0x30, 0x01, 0x67, 0x2b, 0xfe, 0xd7, 0xab, 0x76] ++
  [0xca, 0x82, 0xc9, 0x7d, 0xfa, 0x59, 0x47, 0xf0, 0xad, 0xd4, 0xa2, 0xaf, 0x9c, 0xa4, 0x72, 0xc0] ++
  [0xb7, 0xfd, 0x93, 0x26, 0x36, 0x3f, 0xf7, 0xcc, 0x34, 0xa5, 0xe5, 0xf1, 0x71, 0xd8, 0x31, 0x15] ++
  [0x04, 0xc7, 0x23, 0xc3, 0x18, 0x96, 0x05, 0x9a, 0x07, 0x12, 0x80, 0xe2, 0xeb, 0x27, 0xb2, 0x75] ++
  [0x09, 0x83, 0x2c, 0x1a, 0x1b, 0x6e, 0x5a, 0xa0, 0x52, 0x3b, 0xd6, 0xb3, 0x29, 0xe3, 0x2f, 0x84] ++
  [0x53, 0xd1, 0x00, 0xed, 0x20, 0xfc, 0xb1, 0x5b, 0x6a, 0xcb, 0xbe, 0x39, 0x4a, 0x4c, 0x58, 0xcf] ++
  [0xd0, 0xef, 0xaa, 0xfb, 0x43, 0x4d, 0x33, 0x85, 0x45, 0xf9, 0x02, 0x7f, 0x50, 0x3c, 0x9f, 0xa8] ++
  [0x51, 0xa3, 0x40, 0x8f, 0x92, 0x9d, 0x38, 0xf5, 0xbc, 0xb6, 0xda, 0x21, 0x10, 0xff, 0xf3, 0xd2] ++
  [0xcd, 0x0c, 0x13, 0xec, 0x5f, 0x97, 0x44, 0x17, 0xc4, 0xa7, 0x7e, 0x3d, 0x64, 0x5d, 0x19, 0x73] ++
  [0x60, 0x81, 0x4f, 0xdc, 0x22, 0x2a, 0x90, 0x88, 0x46, 0xee, 0xb8, 0x14, 0xde, 0x5e, 0x0b, 0xdb] ++
  [0xe0, 0x32, 0x3a, 0x0a, 0x49, 0x06, 0x24, 0x5c, 0xc2, 0xd3, 0xac, 0x62, 0x91, 0x95, 0xe4, 0x79] ++
  [0xe7, 0xc8, 0x37, 0x6d, 0x8d, 0xd5, 0x4e, 0xa9, 0x6c, 0x56, 0xf4, 0xea, 0x65, 0x7a, 0xae, 0x08] ++
  [0xba, 0x78, 0x25, 0x2e, 0x1c, 0xa6, 0xb4, 0xc6, 0xe8, 0xdd, 0x74, 0x1f, 0x4b, 0xbd, 0x8b, 0x8a] ++
  [0x70, 0x3e, 0xb5, 0x66, 0x48, 0x03, 0xf6, 0x0e, 0x61, 0x35, 0x57, 0xb9, 0x86, 0xc1, 0x1d, 0x9e] ++
  [0xe1, 0xf8, 0x98, 0x11, 0x69, 0xd9, 0x8e, 0x94, 0x9b, 0x1e, 0x87, 0xe9, 0xce, 0x55, 0x28, 0xdf] ++
  [0x8c, 0xa1, 0x89, 0x0d, 0xbf, 0xe6, 0x42, 0x68, 0x41, 0x99, 0x2d, 0x0f, 0xb0, 0x54, 0xbb, 0x16]

def aesSub (b : Byte) : Byte := aesSbox.getD b.toNat 0

/-- The inverse S-box. -/
def aesInvSub (b : Byte) : Byte := BitVec.ofNat 8 (aesSbox.findIdx (· == b))

/-- Multiplication by x in GF(2^8). -/
def xtime (b : Byte) : Byte := (b <<< 1) ^^^ (if b.msb then 0x1B else 0)

/-- Multiplication in GF(2^8) by a constant below 16. -/
def gfMul (k : Nat) (b : Byte) : Byte :=
  (if bit k 0 then b else 0) ^^^ (if bit k 1 then xtime b else 0) ^^^ (if bit k 2 then xtime (xtime b) else 0) ^^^
  (if bit k 3 then xtime (xtime (xtime b)) else 0)

/-- The key schedule from word `i` on; words newest first. `nk` is the key length in words. -/
def aesExpand (nk : Nat) : Nat → Nat → Byte → List (List Byte) → List (List Byte)
  | 0, _, _, ws => ws
  | n + 1, i, rc, ws =>
    let t := ws.headD []
    let far := ws.getD (nk - 1) []
    if i % nk = 0 then
      let r := ((t.drop 1) ++ t.take 1).map aesSub
      let r := match r with | a :: l => (a ^^^ rc) :: l | [] => []
      aesExpand nk n (i + 1) (xtime rc) (xorBytes far r :: ws)
    else
      let t := if nk = 8 ∧ i % 8 = 4 then t.map aesSub else t
      aesExpand nk n (i + 1) rc (xorBytes far t :: ws)

/-- Byte string in pieces of `n` bytes. -/
def chunks (n : Nat) : Nat → List Byte → List (List Byte)
  | 0, _ => []
  | f + 1, bs => if bs = [] then [] else bs.take n :: chunks n f (bs.drop n)

/-- The round keys of a 16- or 32-byte key, 16 bytes each. -/
def aesKeys (key : List Byte) : List (List Byte) :=
  let nk := key.length / 4
  let ws := (aesExpand nk (4 * (nk + 7) - nk) nk 1 (chunks 4 nk key).reverse).reverse
  chunks 16 (nk + 7) ws.flatten

/-- ShiftRows, as the place each byte comes from (column-major state). -/
def aesShift (s : List Byte) : List Byte :=
  (List.range 16).map (fun i => s.getD ((i + 4 * (i % 4)) % 16) 0)

def aesInvShift (s : List Byte) : List Byte :=
  (List.range 16).map (fun i => s.getD ((i + 12 * (i % 4)) % 16) 0)

/-- A column mix with the given coefficients of the first row. -/
def aesMixBy (k : List Nat) (s : List Byte) : List Byte :=
  (List.range 16).map (fun i =>
    (List.range 4).foldl (fun a j => a ^^^ gfMul (k.getD ((j + 4 - i % 4) % 4) 0) (s.getD (i / 4 * 4 + j) 0)) 0)

/-- One block under round keys. -/
def aesBlock (ks : List (List Byte)) (b : List Byte) : List Byte :=
  let n := ks.length
  let s := (ks.drop 1).take (n - 2) |>.foldl
    (fun s k => xorBytes (aesMixBy [2, 3, 1, 1] (aesShift (s.map aesSub))) k) (xorBytes b (ks.headD []))
  xorBytes (aesShift (s.map aesSub)) (ks.getD (n - 1) [])

/-- The inverse of `aesBlock`. -/
def aesInvBlock (ks : List (List Byte)) (b : List Byte) : List Byte :=
  let n := ks.length
  let s := ((ks.drop 1).take (n - 2)).reverse.foldl
    (fun s k => aesMixBy [14, 11, 13, 9] (xorBytes ((aesInvShift s).map aesInvSub) k)) (xorBytes b (ks.getD (n - 1) []))
  xorBytes ((aesInvShift s).map aesInvSub) (ks.headD [])

/-! ### CTR and GCM -/

/-- The counter block `i` blocks on: the low `w` bits count. -/
def ctrBlock (w : Nat) (iv : List Byte) (i : Nat) : List Byte :=
  let v := beNat iv
  beBytes 16 (v / 2 ^ w * 2 ^ w + (v % 2 ^ w + i) % 2 ^ w)

/-- Key stream from block `i` on, XORed onto the data. -/
def ctrCrypt (ks : List (List Byte)) (w : Nat) (iv : List Byte) : Nat → Nat → List Byte → List Byte
  | 0, _, _ => []
  | f + 1, i, bs =>
    if bs = [] then []
    else xorBytes (bs.take 16) (aesBlock ks (ctrBlock w iv i)) ++ ctrCrypt ks w iv f (i + 1) (bs.drop 16)

/-- CTR over a whole string from the initial counter block. -/
def aesCtr (key : List Byte) (w : Nat) (iv data : List Byte) : List Byte :=
  ctrCrypt (aesKeys key) w iv (data.length / 16 + 1) 0 data

/-- Multiplication in the field of GHASH; bit 0 is the most significant bit of the first byte. -/
def ghashMul (x y : Nat) : Nat :=
  ((List.range 128).foldl (fun (a : Nat × Nat) i =>
    let z := if bit x (127 - i) then a.1 ^^^ a.2 else a.1
    let v := if bit a.2 0 then (a.2 / 2) ^^^ (0xE1 * 2 ^ 120) else a.2 / 2
    (z, v)) (0, y)).1

/-- GHASH over whole 16-byte blocks. -/
def ghash (h : Nat) (bs : List Byte) : Nat :=
  (chunks 16 (bs.length / 16) bs).foldl (fun y b => ghashMul (y ^^^ beNat b) h) 0

def pad16 (bs : List Byte) : List Byte := bs ++ zeros ((16 - bs.length % 16) % 16)

/-- The GCM tag over additional data and ciphertext for a 12-byte IV (SP 800-38D). -/
def gcmTag (key iv aad ct : List Byte) : List Byte :=
  let ks := aesKeys key
  let h := beNat (aesBlock ks (zeros 16))
  let s := ghash h (pad16 aad ++ pad16 ct ++ beBytes 8 (8 * aad.length) ++ beBytes 8 (8 * ct.length))
  xorBytes (beBytes 16 s) (aesBlock ks (iv.take 12 ++ [0, 0, 0, 1]))

/-- GCM's counter mode: the first data block uses counter 2. -/
def gcmCrypt (key iv data : List Byte) : List Byte := aesCtr key 32 (iv.take 12 ++ [0, 0, 0, 2]) data

/-! ### KW and KWP (SP 800-38F) -/

/-- One wrapping step: A and the list of semiblocks R1 … Rn. -/
def kwStep (ks : List (List Byte)) (a : List Byte × List (List Byte)) (t : Nat) : List Byte × List (List Byte) :=
  match a.2 with
  | [] => a
  | r :: rest =>
    let b := aesBlock ks (a.1 ++ r)
    (xorBytes (b.take 8) (beBytes 8 t), rest ++ [b.drop 8])

/-- W: wraps a first semiblock and n semiblocks. -/
def kwWrapW (key : List Byte) (a : List Byte) (rs : List (List Byte)) : List Byte :=
  let ks := aesKeys key
  let r := (List.range (6 * rs.length)).foldl (fun x i => kwStep ks x (i + 1)) (a, rs)
  r.1 ++ r.2.flatten

def kwInvStep (ks : List (List Byte)) (a : List Byte × List (List Byte)) (t : Nat) : List Byte × List (List Byte) :=
  match a.2.getLast? with
  | none => a
  | some r =>
    let b := aesInvBlock ks (xorBytes a.1 (beBytes 8 t) ++ r)
    (b.take 8, b.drop 8 :: a.2.dropLast)

/-- The inverse of W: first semiblock and the rest. -/
def kwUnwrapW (key : List Byte) (c : List Byte) : List Byte × List Byte :=
  let ks := aesKeys key
  let rs := chunks 8 (c.length / 8) (c.drop 8)
  let n := rs.length
  let r := (List.range (6 * n)).foldl (fun x i => kwInvStep ks x (6 * n - i)) (c.take 8, rs)
  (r.1, r.2.flatten)

def kwIcv : List Byte := List.replicate 8 0xA6

/-- AES-KW of a string of whole semiblocks. -/
def aesKw (key p : List Byte) : List Byte := kwWrapW key kwIcv (chunks 8 (p.length / 8) p)

/-- AES-KW unwrap: none when the integrity check fails. -/
def aesKwUnwrap (key c : List Byte) : Option (List Byte) :=
  let (a, p) := kwUnwrapW key c
  if a = kwIcv then some p else none

/-- AES-KWP of a string of 1 or more bytes. -/
def aesKwp (key p : List Byte) : List Byte :=
  let a := [0xA6, 0x59, 0x59, 0xA6] ++ beBytes 4 p.length
  let q := p ++ zeros ((8 - p.length % 8) % 8)
  if q.length = 8 then aesBlock (aesKeys key) (a ++ q) else kwWrapW key a (chunks 8 (q.length / 8) q)

/-- AES-KWP unwrap. -/
def aesKwpUnwrap (key c : List Byte) : Option (List Byte) :=
  let (a, p) := if c.length = 16 then
      let b := aesInvBlock (aesKeys key) c
      (b.take 8, b.drop 8)
    else kwUnwrapW key c
  let n := beNat (a.drop 4)
  if a.take 4 = [0xA6, 0x59, 0x59, 0xA6] ∧ p.length < n + 8 ∧ n ≤ p.length ∧ allZero (p.drop n) then some (p.take n)
  else none

end Sys2Proof.Machine
end

