-- ==== Sys2Proof/Config.lean ====
section
/-! DEFINITION. What an implementation fixes and the spec does not: the FREE VALUES.
Each is an opaque constant without a body, applied to a plain counter of the state (log entry 3), so that no
proof can see its value. -/
namespace Sys2Proof.Config

/-- The source of every free value of the model: the k-th draw, of any width (log entry 3). -/
opaque freeValue : Nat → Nat
/-- SHA-384 of the boot ROM image (measurement 0x01, R426): fixed by the silicon, not stated. -/
opaque bootRomDigest : List Byte
/-- The DER bytes of a certificate that R424 does not fix, as a function of the subject public key
and of the fields the spec does fix (log entry 40). -/
opaque certificateDer : Nat → List Byte → List Byte → List Byte
/-- The Maker's trim and test data in OTP bytes 0x400 to 0x7FF, by offset: no part of the interface, yet OTP_IMAGE shows
them (R491, R559). -/
opaque otpTrim : Nat → Byte
/-- What the runtime keeps in field-address space 0x1F, by offset: defined by the runtime, not stated (R28). -/
opaque internalByte : Nat → Byte
/-- The fixed signature of the logic test of R205 is not stated: what LOGIC_SIG captures (R559). -/
opaque logicSignature : Nat → BitVec 32

end Sys2Proof.Config
end

