-- ==== Sys2Proof/Machine/StateFlash.lean ====
section
/-! DEFINITION. State of the Flash domain: host ports, flash ports and the flashes behind them, channel states, the
Fallow pipeline, the Hedgerow and the Hayloft (chapters 02 to 05). A field's default is its value after reset. -/
namespace Sys2Proof.Machine

/-- The mode states of the virtual and of a physical flash (R56, R94). -/
inductive BusMode | spi | qpi | octal
deriving DecidableEq, Repr

/-- A physical program or erase (R74, R196). -/
inductive PhysOp
  /-- erase of the aligned block of 2^log2 bytes at `addr` -/
  | erase (addr log2 : Nat)
  /-- program of the bytes at their addresses, within one line -/
  | program (cells : List (Nat × Byte))
deriving DecidableEq, Repr

/-- Who ordered the operation that keeps a chip select busy (R79, R289). -/
inductive Busy
  | host (op : PhysOp)
  | device (op : PhysOp)
  /-- it timed out; the flash is still at work on it (R26, R286) -/
  | late (op : PhysOp)
deriving DecidableEq, Repr

/-- One physical flash of the board: the facts discovery read, its bytes, its mode and its busy operation. -/
structure Flash where
  /-- none: the chip select is empty, capacity 0 (R232) -/
  facts : Option FlashFacts := none
  /-- bytes; an unlisted byte reads 0xFF (log entry 6) -/
  cells : List (Nat × Byte) := []
  mode : BusMode := .spi
  busy : Option Busy := none
deriving DecidableEq, Repr

/-- A host program or erase held in the command store (R74, R289). -/
structure HostOp where
  cs : Cs
  op : PhysOp
  word : U40
  /-- issued to the flash; otherwise it waits with WIP 1 -/
  issued : Bool
  /-- its verdict is LOG: counted and recorded when it has been applied (R77) -/
  log : Bool
deriving DecidableEq, Repr

/-- A stage record on its way to the vault (R77, R78, R273). -/
structure StageOp where
  word : U40
  cls : Byte
  phys : U40
  time : U40
  eraseLog2 : Byte
  body : List Byte
deriving DecidableEq, Repr

/-- A device-initiated read in progress on a flash port (R162, R163). -/
inductive DevRead
  /-- beats `first` to `last` of a FILLING line -/
  | gapFill (cs : Cs) (line first last : Nat)
  /-- a whole line to be pinned, in a host gap (R154) -/
  | pinFill (cs : Cs) (line haddr : Nat)
  /-- a whole line to be pinned while PRELOADING (R152) -/
  | preload (cs : Cs) (line haddr : Nat)
  /-- a tree node of the flash tree area (R144); `waiter` is the line that waits -/
  | node (cs : Cs) (tree level index : Nat) (waiter : Cs × Nat)
  /-- the flash bytes behind a pinned context (R179) -/
  | glean (ctx : Nat)
  /-- a field-access read (R558) -/
  | field (p : Port) (cs : Cs) (addr count : Nat)
deriving DecidableEq, Repr

/-- A unit's fault account: the times of its last transients (R197), newest first, and its retirement. -/
structure UnitHealth where
  times : List Nat := []
  retired : Bool := false
deriving DecidableEq, Repr

/-- A streak of ball faults on one port (R198): for each ball the number of consecutive faulty commands. -/
abbrev BallStreak := List (Nat × Nat)

/-- The response classes' sequence on a channel (R174, R276): FLIP, RESTORE or HOLD. -/
inductive Tier | flip | restore | hold
deriving DecidableEq, Repr

/-- The stage a sequence has reached. -/
inductive SeqStage
  /-- FLIP: the stile write is pending (R277 step 2) -/
  | stile
  /-- RESTORE: image records are being read and checked (R279 steps 2, 3) -/
  | select
  /-- RESTORE: the SCRATCH record of the current block is being written (R279 step 5.1) -/
  | scratch
  /-- RESTORE: the current block's erase is in progress -/
  | erase
  /-- RESTORE: the listed lines of the current block remain to be programmed -/
  | program (lines : List Nat)
  /-- the rewrite or inversion is complete: the channel preloads and is released under its plan -/
  | preload
deriving DecidableEq, Repr

/-- An erase block of a restore: chip select, physical address, log2 of its size. -/
structure EraseBlock where
  cs : Cs
  addr : Nat
  log2 : Nat
deriving DecidableEq, Repr

/-- A running response sequence or ordered restore (R277, R279, R284). -/
structure Seq where
  tier : Tier
  stage : SeqStage
  /-- rules whose lines form the affected region (R173, R175) -/
  region : List Nat
  /-- bank bits this sequence inverts, each once (R278) -/
  bits : List Nat := []
  /-- ordered by a manager (R284) -/
  ordered : Bool := false
  /-- selected images: tree id and first sector of its record -/
  images : List (Nat × Nat) := []
  blocks : List EraseBlock := []
  /-- bytes of the current block as read before its erase (R279 step 5.1) -/
  saved : List Byte := []
  /-- tree concerned, for LAST_SEQ_RESULT -/
  tree : Nat := 0
deriving DecidableEq, Repr

/-- The effective states of a channel (R184). -/
inductive ChState | off | held | preloading | running | quarantined | recovering | retired
deriving DecidableEq, Repr

/-- Event counters of a channel (R94, R131, R182, R214, R248): U32, 0 at power-on reset, saturating. -/
structure ChCounts where
  unsup : U32 := 0
  deny : U32 := 0
  stage : U32 := 0
  log : U32 := 0
  subst : U32 := 0
  gapAbort : U32 := 0
  gapViol : U32 := 0
  twinFault : U32 := 0
  lookupDed : U32 := 0
  noRule : U32 := 0
  linesVerified : U32 := 0
  mismatch : U32 := 0
  stale : U32 := 0
  noContext : U32 := 0
  sealedMiss : U32 := 0
  gapFill : U32 := 0
  diverged : U32 := 0
  hostResets : U32 := 0
  plTransients : U32 := 0
  hpTransients : U32 := 0
  fpTransients : U32 := 0
  fpRetries : U32 := 0
  releases : U32 := 0
  fpLate : U32 := 0
deriving DecidableEq, Repr

/-- The virtual flash of a host port (R81, R85, R86, R88, R94). -/
structure VFlash where
  mode : BusMode := .spi
  subst : Bool := false
  staged : Bool := false
  deny : Bool := false
  wel : Bool := false
  /-- a reset-enable was the last command (R88) -/
  rstArmed : Bool := false
  /-- tick at which t_GAP began (R86); none: no gap is open -/
  gapStart : Option Nat := none
  /-- the physical flashes still have to follow a mode change (R86) -/
  syncDue : Bool := false
  /-- WINDOW_LOG2, XLATE_ADDR and VIRT_ID in force, taken at entry to PRELOADING (R94) -/
  windowLog2 : Nat := 20
  xlateAddr : Bool := false
  virtId : List Byte := [0xFF, 0xFF, 0xFF]
  /-- derived values of R95, set at each discovery -/
  derivedWindow : Nat := 20
  derivedId : List Byte := [0xFF, 0xFF, 0xFF]
  /-- ADV_DUMMY 0x00–0x06 (R72) -/
  advDummy : List U8 := [0, 0, 0, 0, 0, 0, 0]
  /-- the 256 SFDP bytes built at entry to PRELOADING (R84) -/
  sfdp : List Byte := []
  /-- bytes driven on the I/O balls by the last host command; empty: high impedance (R61, R63) -/
  driven : List Byte := []
deriving DecidableEq, Repr

/-- One channel (R183, R184, R191, R214, R236, R243, R248). -/
structure Channel where
  reqState : U8 := 0
  eff : ChState := .off
  quarPending : Bool := false
  class4 : Bool := false
  tamper : Bool := false
  activation : Bool := false
  takeover : Bool := false
  /-- QUARANTINED is in force (kept beneath higher-ranked states, R187) -/
  quarantined : Bool := false
  /-- filtered level of CHn_PLAT_PG (R190) -/
  pg : Bool := false
  /-- the host's chip select is low (R15) -/
  csLow : Bool := false
  /-- a newer request waits for the rise of the chip select: the request still acted on (R15) -/
  pendingReq : Option U8 := none
  vf : VFlash := {}
  counts : ChCounts := {}
  /-- R215 -/
  retireCause : U16 := 0
  retireTime : U40 := 0
  selftestResult : U8 := 0xFF
  pipeline : UnitHealth := {}
  hostPort : UnitHealth := {}
  flashPort : UnitHealth := {}
  hostBalls : BallStreak := []
  flashBalls : BallStreak := []
  /-- the crossbar connects the Fallow pipeline to this channel (R183) -/
  onFallow : Bool := false
  /-- a hot takeover waits for the chip select's rise (R208) -/
  hotPending : Bool := false
  /-- a handback waits for the chip select's rise (R212) -/
  handbackPending : Bool := false
  flash0 : Flash := {}
  flash1 : Flash := {}
  store : Option HostOp := none
  stageOp : Option StageOp := none
  devRead : Option DevRead := none
  /-- retries made for the failed device-initiated operation, and the operation to retry (R196) -/
  retries : Nat := 0
  failedRead : Option DevRead := none
  failedOp : Option (Cs × PhysOp) := none
  seq : Option Seq := none
  /-- rules of the regions whose failures made the quarantine or the class 4 hold (R186) -/
  holdRegion : List Nat := []
  seqProgress : U32 := 0
  lastSeqResult : U40 := 0
  /-- BOOT_FAULT bits (R243) -/
  depTaken : Bool := false
  discFault0 : Bool := false
  discFault1 : Bool := false
  compileFault : Bool := false
  retireReapplied : Bool := false
  releaseTime : U40 := 0
  /-- preload has completed (R186, R237) -/
  preloadDone : Bool := false
  /-- a first release after the reset has been made; REL_DELAY has elapsed (R237) -/
  released : Bool := false
  relDelayDone : Bool := false
  /-- DEP_TIMEOUT is armed for START_DEPS or for REL_DEPS; taken and counted as met (R238) -/
  depArmed : Bool := false
  depMet : Bool := false
  /-- the channel waits on START_DEPS, REL_DEPS or the GPIO condition -/
  depWaiting : Bool := false
  /-- a discovery has been made since OFF was last entered (R232) -/
  discovered : Bool := false
  lastMismatch : List Byte := List.replicate 16 0
  /-- SEALED lines for which a SEALED_MISS entry has been written since they left PINNED (R155) -/
  missLogged : List Nat := []
  /-- lines that failed with cause PLACEMENT (R170): chip select and line -/
  placeFailed : List (Nat × Nat) := []
deriving DecidableEq, Repr

/-- The Fallow pipeline (R206, R209, R213, R216). -/
structure Fallow where
  reqState : U8 := 0
  retired : Bool := false
  /-- the channel served in ACTIVE -/
  serving : Option Chan := none
  /-- the channel shadowed in STANDBY, and the tick since which SHADOW_DIFF is unchanged there (R209 step 4) -/
  standbySince : Option Nat := none
  /-- the cold takeover in progress needs the march test (R209 step 4) -/
  marchDue : Bool := false
  takeoversHot : U32 := 0
  takeoversCold : U32 := 0
  shadowDiff : U32 := 0
  transients : U32 := 0
  health : UnitHealth := {}
  selftestResult : U8 := 0xFF
deriving DecidableEq, Repr

/-- One entry run of an index node (R111): entries `first` to `first + len - 1` hold one value. -/
structure NodeRun where
  first : Nat
  len : Nat
  entry : U32
deriving DecidableEq, Repr

/-- The Hedgerow (R97, R110, R122, R131). -/
structure Hedgerow where
  /-- rule table: valid rows only, by rule number; every other row is empty (R97) -/
  table : List (Nat × RuleRow) := []
  /-- the rules compiled into the index in force -/
  index : List (Nat × RuleRow) := []
  /-- index memory: nodes in use by number, node 0 excluded (R110); each as runs of its non-NONE entries -/
  nodes : List (Nat × List NodeRun) := []
  /-- root pointers: host tries 0–5, physical tries 6 + 2n + m (R110) -/
  roots : List Nat := List.replicate 18 0
  indexGen : U32 := 0
  /-- words rewritten after a double-bit error: (memory, word) (R199) -/
  rewritten : List (Nat × Nat) := []
  /-- words remapped to spare words, per memory: Hedgerow table, index memory (R199) -/
  sparesTable : List Nat := []
  sparesIndex : List Nat := []
  /-- words whose reload is due (R122): (memory, word) -/
  reloadDue : List (Nat × Nat) := []
deriving DecidableEq, Repr

/-- A tree registry entry (R139). -/
structure TreeEntry where
  depth : Nat
  channel : Nat
  taCs : Nat
  hbase : Nat
  nlines : Nat
  taAddr : Nat
  vaultFa : U40
  root : List Byte
  areaDamaged : Bool := false
deriving DecidableEq, Repr

/-- The line states a context can hold; an absent context is EMPTY (R149, R150). -/
inductive LineState | filling | checking | verified | pinned | poisoned
deriving DecidableEq, Repr

/-- A context that is not EMPTY (R146 to R150, R157, R166). -/
structure Ctx where
  state : LineState
  space : Nat
  line : Nat
  pin : Bool
  /-- tree id verified under (R142, R151) -/
  tree : Nat
  /-- the 256 bytes; absent beats hold zero -/
  data : List Byte
  /-- the 32 beat-present bits (R157) -/
  present : BitVec 32
  /-- order of use: higher is more recent (R148) -/
  used : Nat
  /-- tick of the line's first read, and ticks added by Heath periods (R53, R166) -/
  start : Nat
  extra : Nat := 0
  /-- host address of the line at its first read -/
  haddr : Nat
  /-- nodes held in the path buffer of this check (R143): (level, index, bytes) -/
  path : List (Nat × Nat × List Byte) := []
  /-- this check has had to fetch a node (NODE_HITS counts the others, R182) -/
  fetched : Bool := false
deriving DecidableEq, Repr

/-- A node-cache way that holds an accepted node (R143). -/
structure CacheNode where
  tree : Nat
  level : Nat
  index : Nat
  data : List Byte
  used : Nat
deriving DecidableEq, Repr

/-- The Hayloft, the node cache and the tree registry (R139 to R182). -/
structure Hayloft where
  /-- contexts that are not EMPTY, by context number 16 × set + way (R146) -/
  ctxs : List (Nat × Ctx) := []
  retiredCtx : List Nat := []
  ctxHealth : List (Nat × UnitHealth) := []
  /-- node-cache ways in use, by 8 × set + way (R143) -/
  cache : List (Nat × CacheNode) := []
  retiredWay : List Nat := []
  wayHealth : List (Nat × UnitHealth) := []
  /-- registered trees by id (R139) -/
  trees : List (Nat × TreeEntry) := []
  /-- order-of-use counter -/
  useCount : Nat := 0
  /-- a BIST has left zeros in the whole memory since power-on or DEVICE reset (R560) -/
  wiped : Bool := false
  reqState : U8 := 0
  gleanPasses : U32 := 0
  gleanDiverged : U32 := 0
  /-- contexts still to be read in the gleaning pass in progress (R179) -/
  gleanPos : Nat := 0
  gleanLater : List Nat := []
  nodeHits : U32 := 0
  nodeMisses : U32 := 0
  nodeVault : U32 := 0
  nodeFails : U32 := 0
deriving DecidableEq, Repr

end Sys2Proof.Machine
end

