-- ==== Sys2Proof/Machine/StateCrypto.lean ====
section
/-! DEFINITION. State of the Crypto domain: digest banks, cipher contexts, key store, PKE, entropy sources and the DRBG
(chapters 09, 10, 11). -/
namespace Sys2Proof.Machine

/-- The states of a digest bank or cipher context (R329, R349). -/
inductive JobState | free | idle | absorbing | done | poisoned
deriving DecidableEq, Repr

/-- A digest bank (R328 to R346). -/
structure Bank where
  st : JobState := .free
  owner : Option Port := none
  alg : U8 := 0
  outLen : U8 := 0x20
  declLength : U40 := 0
  absorbed : U40 := 0
  keyed : Bool := false
  /-- the chaining value or Keccak state, as the STATE bytes of R341 -/
  chain : List Byte := []
  /-- the trailing partial block -/
  buffer : List Byte := []
  digest : List Byte := List.replicate 255 0
  blob : List Byte := List.replicate 232 0
  lastCode : U8 := 0
  /-- key-store slots whose keys the running job holds (R361) -/
  keys : List Nat := []
deriving DecidableEq, Repr

/-- A cipher context (R349 to R355). -/
structure CxJob where
  st : JobState := .free
  owner : Option Port := none
  mode : U8 := 0
  dir : U8 := 0
  keySlot : U8 := 0
  iv : List Byte := List.replicate 16 0
  aadLength : U40 := 0
  declLength : U40 := 0
  tag : List Byte := List.replicate 16 0
  /-- the key bound at the start of the job (R351) -/
  key : List Byte := []
  input : List Byte := []
  output : List Byte := []
  lastCode : U8 := 0
deriving DecidableEq, Repr

/-- A key-store slot (R356): its attribute word and its 256 bits. -/
structure KeySlot where
  attr : U32 := 0
  key : List Byte := List.replicate 32 0
deriving DecidableEq, Repr

/-- The key store and the custody of the DSS (R356 to R370). -/
structure KeyStore where
  /-- slots that are not EMPTY, by number -/
  slots : List (Nat × KeySlot) := []
  keyState : U8 := 0
  erases : U32 := 0
  /-- a new context wrap key is due at the next instantiation (R364, R413) -/
  wrapDue : Bool := false
  /-- the boot ROM's sequence or its key service runs (R358) -/
  romRuns : Bool := true
  /-- public keys of the loaded pairs, X then Y (R425, R436) -/
  dikPub : List Byte := List.replicate 96 0
  aliasPub : List Byte := List.replicate 96 0
deriving DecidableEq, Repr

/-- Slot classes of the PKE (R374). -/
inductive PkClass | pub | ecdh | sign | withheld
deriving DecidableEq, Repr

/-- One PKE operand slot (R372, R374, R387, R395). -/
structure PkSlot where
  value : Nat := 0
  cls : PkClass := .pub
  writes : U8 := 0
  /-- WITHHELD: partner, bound digest slot, bound key slot, and whether none of them was written since (R387) -/
  partner : Nat := 0
  bindM : Nat := 0
  bindR : Nat := 0
  bindClean : Bool := false
deriving DecidableEq, Repr

/-- A port's PKE area and registers (R371 to R373, R393). -/
structure PkPort where
  limbs : U8 := 10
  /-- slots that differ from the zeroed PUBLIC slot -/
  slots : List (Nat × PkSlot) := []
  buf : List Byte := []
  result : U40 := 0
  seq : U8 := 0
  select : U8 := 0
deriving DecidableEq, Repr

/-- A queued PKE command (R378): entry number, port, OP, word, sequence number. -/
structure PkEntry where
  entry : Nat
  port : Port
  op : Nat
  w : PkWord
  seq : U8
deriving DecidableEq, Repr

/-- The PKE (R371 to R395). -/
structure Pke where
  mp0 : PkPort := {}
  mp1 : PkPort := {}
  l : PkPort := {}
  queue : List PkEntry := []
  running : Option PkEntry := none
  /-- port of the last command run (R380) -/
  last : Port := .l
  commands : U32 := 0
  refusals : U32 := 0
  gateFails : U32 := 0
  transients : U32 := 0
  health : UnitHealth := {}
deriving DecidableEq, Repr

/-- A noise source (R396 to R403, R418). -/
structure Source where
  /-- 0 STOPPED, 1 STARTUP, 2 ACTIVE, 3 STANDBY, 4 RETIRED -/
  st : U8 := 0
  fails : U8 := 0
  rct : U32 := 0
  apt : U32 := 0
  passed : U32 := 0
  lastFail : U40 := 0
deriving DecidableEq, Repr

/-- The DRBG and the entropy sources (R396 to R418). -/
structure Random where
  ling : Source := {}
  sedge : Source := {}
  fescue : Source := {}
  switches : U32 := 0
  testPattern : Bool := false
  lfsrSeed : U32 := 1
  lfsr : U32 := 1
  /-- passed windows in the pool, oldest first, at most 2 (R404) -/
  pool : List (List Byte) := []
  /-- 0 UNINSTANTIATED, 1 READY, 2 EXPIRED, 3 DISABLED (R408) -/
  st : U8 := 0
  key : List Byte := List.replicate 32 0
  v : List Byte := List.replicate 16 0
  reseedCounter : U40 := 0
  reseeds : U32 := 0
  instantiations : U32 := 0
  lastReseed : U40 := 0
  wireTimeouts : U32 := 0
  late : U32 := 0
  /-- an automatic reseed is due (R409) -/
  autoDue : Bool := false
  /-- a reseed with prediction resistance waits: the ports whose raw port asked (R411, R415), and RESEED (R412) -/
  prWaiting : List Nat := []
  reseedWaiting : Bool := false
  /-- raw-port modes, PR flags, buffers and PR grants by port 0 MP0, 1 MP1, 2 L (R415) -/
  rawSelect : List U8 := [1, 1, 1]
  rawPr : List Bool := [false, false, false]
  rawBuf : List (List Byte) := [[], [], []]
  prFresh : List Bool := [false, false, false]
  /-- port of the last RAW buffer served (R404) -/
  rawLast : Nat := 2
  /-- wire requests waiting for delivery (R414): consumer codes of R413 -/
  wires : List Nat := []
  /-- wire requests whose timeout won and whose generate is still to finish (R414) -/
  wiresLate : List Nat := []
deriving DecidableEq, Repr

end Sys2Proof.Machine
end

