-- ==== Sys2Proof/Machine/StateMgmt.lean ====
section
/-! DEFINITION. State of the Platform, Supervision, Heath and Management domains: journal, Heath domain, watchdog,
timer units, timeouts, check-value units, life cycle, test port, SPDM responder, management ports
(chapters 12 to 18). -/
namespace Sys2Proof.Machine

/-- A journal entry (R429). -/
structure JEntry where
  source : U8
  retained : Bool
  frozen : Bool
  code : U16
  seq : U32
  fence : U40
  time : U40
  epoch : U16
  /-- 12 bytes -/
  data : List Byte
deriving DecidableEq, Repr

/-- The event journal (R428 to R436). -/
structure Journal where
  /-- routine ring by slot, P mod 6,144 -/
  ring : List (Nat × JEntry) := []
  /-- retained area by position -/
  kept : List (Nat × JEntry) := []
  head : U40 := 0
  retainedCount : U16 := 0
  retainedOverflow : U32 := 0
  fence : U40 := 0
  /-- next SEQ and DROPS by source id -/
  seqs : List (Nat × U32) := []
  drops : List (Nat × U32) := []
  /-- staging slots of sources that wait for the runtime (R41, R43, R52) -/
  staging : List (Nat × List JEntry) := []
deriving DecidableEq, Repr

/-- One Heath monitor's live registers (R443, R459). -/
structure Monitor where
  trips : U32 := 0
  alarms : U32 := 0
  last : U32 := 0
  windowOpen : Bool := false
  count : Nat := 0
  /-- after an alarm: waiting for a tick that finds the condition absent -/
  disarmed : Bool := false
  cfg : U16 := 0
  windowMs : U16 := 0
deriving DecidableEq, Repr

/-- A Heath record entry (R453). -/
structure HRec where
  monitor : U8
  responses : U8
  count : U8
  copied : Bool
  battery : Bool
  time : U32
deriving DecidableEq, Repr

/-- The Heath domain (R437 to R461). `powered` false: VBAT and main power both absent (R438). -/
structure Heath where
  powered : Bool := true
  mainPower : Bool := true
  counter : BitVec 47 := 0
  vbatMv : U16 := 0
  oscHz : U32 := 0
  locked : Bool := false
  holdLatch : Bool := false
  fresh : Bool := true
  /-- 0 VALID, 1 ERASED, 2 INVALID (R450) -/
  cellState : U8 := 2
  cellKey : List Byte := List.replicate 32 0
  canary : BitVec 64 := 0
  condition : BitVec 10 := 0
  monitors : List Monitor
  /-- a MON_CFG of CELL_REMOVED has been committed (R451) -/
  cellCfgSet : Bool := false
  hrec : List HRec := []
  hrecOverflow : U8 := 0
deriving DecidableEq, Repr

/-- The watchdog (R462 to R475). -/
structure Watchdog where
  running : Bool := false
  locked : Bool := false
  /-- tick s at which the window in progress started (R463) -/
  start : Nat := 0
  /-- lengths, task set and response of the window in progress (R463, R466, R471) -/
  prescale : Nat := 256
  closedLen : Nat := 0
  openLen : Nat := 48828
  tasks : U16 := 0
  response : U8 := 0
  recovery : Bool := false
  keyNext : U16 := 0xA55A
  present : U16 := 0
  duplicate : U16 := 0
  refused : U32 := 0
  lastUs : U40 := 0
  lastEpoch : U40 := 0
  evCause : U8 := 0
  evMissing : U16 := 0
  evDuplicate : U16 := 0
  evPc0 : U40 := 0
  evPc1 : U40 := 0
  evLastUs : U40 := 0
  evLastEpoch : U40 := 0
  evTime : U40 := 0
  bites : U32 := 0
deriving DecidableEq, Repr

/-- A timer unit (R480 to R483). -/
structure TimerUnit where
  mode : U8 := 0
  reload : U40 := 0
  /-- count when last loaded or stopped -/
  count : U40 := 0
  /-- tick of the last load -/
  start : Nat := 0
  expiries : U32 := 0
  /-- 0 STOPPED, 1 RUNNING, 2 EXPIRED -/
  st : U8 := 0
deriving DecidableEq, Repr

/-- The outcome registers of a device timeout (R476). -/
structure Timeout where
  expired : U32 := 0
  late : U32 := 0
  last : U8 := 0
deriving DecidableEq, Repr

/-- A check-value unit (R484 to R490). -/
structure CheckUnit where
  /-- 0 FREE, 1 IDLE, 2 RUNNING, 3 DONE, 4 RETIRED -/
  st : U8 := 0
  owner : Option Port := none
  width : U8 := 32
  poly : BitVec 64 := 0
  init : BitVec 64 := 0
  xorout : BitVec 64 := 0
  flags : U8 := 0
  alive : U8 := 0
  addr : U40 := 0
  seq : U32 := 0
  value : BitVec 64 := 0
  fed : U40 := 0
  /-- the CRC register -/
  reg : BitVec 64 := 0
  health : UnitHealth := {}
deriving DecidableEq, Repr

/-- Life cycle, tokens and debug (R491 to R513). -/
structure LifeCycle where
  /-- OTP bytes below 0x400; unlisted 0 (R491). Kept for ever. -/
  otp : List (Nat × Byte) := []
  /-- life-cycle state in force, 0 Maker to 4 Scrapped (R494, R496) -/
  state : U8 := 0
  vote : U16 := 0
  /-- nonces by path: 0 MP0, 1 MP1, 2 port L, 3 test port (R503) -/
  nonces : List (Nat × List Byte) := []
  /-- debug authorised by a token (R506); a Maker token has authorised it since power-on reset (R502) -/
  dbgToken : Bool := false
  dbgMaker : Bool := false
  /-- debug has been authorised since power-on reset (R363), though the authorisation may have ended (R500) -/
  dbgEver : Bool := false
  keySel : U8 := 0
deriving DecidableEq, Repr

/-- The test port (R507, R508, R569). -/
structure TestPort where
  ir : U8 := 0x02
  dbgResult : U8 := 0xFF
  boundary : List Bool := []
  /-- balls taken from the boundary register under EXTEST -/
  extestBalls : List Bool := []
  /-- the data register last captured -/
  dr : List Byte := []
deriving DecidableEq, Repr

/-- An open secured session (R422): its id, the tick of its last message, message counts, its keys. -/
structure Session where
  id : U32
  port : Nat
  lastTick : Nat
  reqCount : Nat := 0
  rspCount : Nat := 0
  finished : Bool := false
  /-- keys and IVs in use: of the handshake, then of the application phase (DSP0274) -/
  reqKey : List Byte := []
  reqIv : List Byte := []
  rspKey : List Byte := []
  rspIv : List Byte := []
  /-- the requester's finished key and the handshake secret -/
  finishKey : List Byte := []
  handshake : List Byte := []
  /-- the transcript up to the last message of the set-up, and the measurement transcript inside the session -/
  transcript : List Byte := []
  l1 : List Byte := []
deriving DecidableEq, Repr

/-- A management port's SPDM connection (R419, R421). -/
structure SpdmConn where
  /-- GET_VERSION, GET_CAPABILITIES, NEGOTIATE_ALGORITHMS answered so far: 0 to 3 -/
  stage : Nat := 0
  /-- message transcripts: VCA, and the L1/M1 accumulations -/
  vca : List Byte := []
  l1 : List Byte := []
  m1 : List Byte := []
deriving DecidableEq, Repr

/-- The SPDM responder (R419 to R427). -/
structure Spdm where
  conns : List SpdmConn := [{}, {}]
  sessions : List Session := []
  signatures : U32 := 0
  errors : U32 := 0
  /-- digest blocks whose recomputation is pending (R427) -/
  pendingBlocks : List Nat := []
  /-- the recomputed digest blocks by index -/
  blocks : List (Nat × List Byte) := []
  /-- the DIK certificate and the certificate chain of slot 0 (R424); empty: none -/
  dikCert : List Byte := []
  chain : List Byte := []
deriving DecidableEq, Repr

/-- A replay-cache entry (R527). -/
structure ReplayEntry where
  alive : U8
  crc : U32
  response : List Byte
deriving DecidableEq, Repr

/-- A queued response (R528, R529): the MCTP message, its tag and destination, and how much was read. -/
structure Response where
  msg : List Byte
  tag : Nat
  dest : Nat
  sent : Nat := 0
  /-- it holds a rung-6 credit -/
  credit : Bool
  /-- it answers a COMMIT (R518) -/
  ofCommit : Bool := false
deriving DecidableEq, Repr

/-- An assembled message that waits to be taken (R517, R520): its bytes, tag and source EID. -/
structure RxMsg where
  msg : List Byte
  tag : Nat
  src : Nat
deriving DecidableEq, Repr

/-- The IDP request that a port executes (R521, R527, R529); it outlives the command that brought it while its answer
waits for a flash read or a stile write. -/
structure LinkReq where
  alive : U8
  service : U8
  crc : U32
  tag : Nat
  dest : Nat
  /-- it came inside this secured session (R423) -/
  session : Option U32
deriving DecidableEq, Repr

/-- A management port (R514 to R536). -/
structure MgmtPort where
  mode : U8 := 0
  da : U8 := 0
  eid : U8 := 0
  /-- the effective SMBus address (R518) -/
  smbAddr : U8
  mrl : U16 := 69
  mwl : U16 := 69
  lastAlive : U8 := 0
  rxMessages : U32 := 0
  crcErrors : U32 := 0
  assemblyDrops : U32 := 0
  busyRefusals : U32 := 0
  replays : U32 := 0
  respExpired : U32 := 0
  lastFence : U40 := 0
  /-- partial message: bytes so far, tag, next packet sequence number, source EID -/
  partialMsg : Option (List Byte × Nat × Nat × Nat) := none
  /-- assembled messages that the runtime has not yet taken, at most 2 (R517) -/
  rx : List RxMsg := []
  /-- the request whose answer is still to come (R529) -/
  current : Option LinkReq := none
  /-- responses in order; the refusal slot before them -/
  responses : List Response := []
  refusal : Option Response := none
  cache : List ReplayEntry := []
  /-- the last bytes the port returned on the bus -/
  driven : List Byte := []
  /-- the last bus transfer was acknowledged -/
  acked : Bool := true
  /-- an SMB_ADDR committed and waiting for the COMMIT's response to be read (R518) -/
  addrDue : Option U8 := none
deriving DecidableEq, Repr

/-- Objects kept separately for each port (R542), and the outcome of the port's last request. -/
structure PortRegs where
  ruleSelect : U16 := 0
  treeSelect : U16 := 0
  ctxSelect : U16 := 0
  measSelect : U8 := 1
  ksSelect : U8 := 0
  arbSelect : U8 := 0
  partSelect : U16 := 0
  unitSelect : U8 := 0
  faBase : U40 := 0
  commitResult : U40 := 0
  compileResult : U40 := 0
  nodesNeeded : U16 := 0
  placeResult : U32 := 0
  dgGranted : U8 := 0xFF
  cxGranted : U8 := 0xFF
  cuGranted : U8 := 0xFF
  token : List Byte := List.replicate 256 0
  keyHashIn : List Byte := List.replicate 48 0
  ksReqAttr : U32 := 0
  ksLabel : List Byte := List.replicate 16 0
  ksContext : List Byte := List.replicate 48 0
  ksBlob : List Byte := List.replicate 64 0
  ksPlain : List Byte := List.replicate 48 0
  /-- staged RWC values by object key, and staged rule rows by rule number (R46, R123) -/
  staged : List (Nat × List Byte) := []
  stagedRules : List (Nat × RuleRow) := []
  /-- error code and result bytes of the last request executed (R523, R524) -/
  lastCode : U8 := 0
  lastData : List Byte := []
  /-- a field-access read of a channel space that waits for its flash port: channel, chip select, address, count (R558) -/
  faWait : Option (Chan × Cs × Nat × Nat) := none
deriving DecidableEq, Repr

end Sys2Proof.Machine
end

