-- ==== Sys2Proof/Machine/StateVault.lean ====
section
/-! DEFINITION. State of the Vault domain and of the update (chapters 07 and 08). -/
namespace Sys2Proof.Machine

/-- A vault operation waiting for its eMMC commands (R41 rung 3, R251). -/
inductive VaultOp
  /-- store the stage record of a channel (R273) -/
  | stage (ch : Chan)
  /-- the scan of partition type k after SERVICE (R268) -/
  | scan (k : Nat)
  /-- read and check the IMAGE records of a restore (R279 steps 2, 3) -/
  | images (ch : Chan)
  /-- write the SCRATCH record of a restore's block (R279 step 5.1) -/
  | scratch (ch : Chan)
  /-- read a tree node from the vault copy (R144) -/
  | node (ch : Chan) (tree level index : Nat) (waiter : Cs × Nat)
deriving DecidableEq, Repr

/-- The RPMB of the eMMC device (R254 to R259). -/
structure Rpmb where
  /-- units of 256 bytes: header 0, counters 1–4, stile slots 0x10–0x2F; bytes, unlisted 0 -/
  cells : List (Nat × Byte) := []
  /-- the key programmed into the device (R255); empty: not programmed -/
  key : List Byte := []
  /-- the device's write counter (R259) -/
  writeCounter : U32 := 0
deriving DecidableEq, Repr

/-- The vault (R249 to R294). -/
structure Vault where
  mode : U8 := 0
  userSectors : U40 := 0
  cid : List Byte := List.replicate 16 0
  reqState : U8 := 0
  /-- 0 ONLINE, 1 OFFLINE, 2 BRINGUP, 3 RETIRED -/
  eff : U8 := 2
  /-- a request for OFFLINE waits for the operation in progress (R252) -/
  pendingReq : Option U8 := none
  selftestResult : U8 := 0xFF
  /-- user area bytes; unlisted 0 (log entry 6) -/
  user : List (Nat × Byte) := []
  /-- boot partitions 1 and 2: runtime copies A and B (R253) -/
  bootA : List Byte := []
  bootB : List Byte := []
  /-- BOOT_PARTITION_ENABLE of EXT_CSD (R227) -/
  bootEnable : Nat := 0
  /-- boot partition with power-on write protection: 0 A, 1 B (R253) -/
  protectedCopy : Option Nat := none
  rpmb : Rpmb := {}
  /-- the RPMB was found foreign (R255) -/
  foreign : Bool := false
  /-- a counter block is accepted (R258), with its values -/
  counters : Option (List Nat) := none
  counterSeq : U32 := 0
  degraded : Bool := false
  configSaved : Bool := false
  nextSequence : U32 := 0
  late : U32 := 0
  transients : U32 := 0
  health : UnitHealth := {}
  recRejects : U32 := 0
  scanDone : Bool := false
  scansLeft : List Nat := []
  /-- retries made for the eMMC command in progress (R251) -/
  retries : Nat := 0
  ops : List VaultOp := []
  /-- accepted records found by the scans, by first sector: type, SEQUENCE, length in bytes on the medium -/
  records : List (Nat × (Nat × Nat × Nat)) := []
  stageRecords : U32 := 0
  stageFirstFa : U40 := 0
  archiveRecords : U32 := 0
  archiveMissed : U32 := 0
  archiveNewestFa : U40 := 0
  /-- journal position of the first routine entry not archived (R274) -/
  archivedTo : Nat := 0
  /-- retained entries already archived (R433) -/
  retainedArchived : Nat := 0
  /-- RESTORE_TARGET (R284), one for all ports -/
  restoreTarget : U16 := 0
  flips : U32 := 0
  restores : U32 := 0
  escalations : U32 := 0
deriving DecidableEq, Repr

/-- What a stile write in progress carries (R278, R315, R591). -/
structure StileJob where
  kind : Nat
  /-- volatile when the RPMB cannot take it (R277, R320) -/
  volatileJob : Bool
  /-- the 4,096 record bytes -/
  record : List Byte
  /-- channels whose flips it carries, with the bits -/
  flips : List (Nat × List Nat)
deriving DecidableEq, Repr

/-- The stages of an activation or a revert (R318, R320). -/
inductive ActStage | stile | preload
deriving DecidableEq, Repr

/-- An activation, confirm or revert in progress. -/
structure Activation where
  stage : ActStage
  /-- KIND of the stile record it writes (R313) -/
  kind : Nat
  /-- bits it inverts, and the trees of its SEED regions -/
  bits : List Nat := []
  seedTrees : List Nat := []
  /-- the fields of its stile record from offset 0x00C, VECTOR and PREV_VECTOR aside -/
  draft : List Byte := []
  /-- cause code of a revert (R320 step 4) -/
  cause : U8 := 0
  /-- the port whose CONFIRM waits for this stile write (R321) -/
  confirmPort : Option Port := none
deriving DecidableEq, Repr

/-- The update service (R299 to R327). -/
structure Update where
  state : U8 := 0
  lastResult : U40 := 0
  applyProgress : U32 := 0
  /-- bytes written to MANIFEST (R299) -/
  manifestBuf : List Byte := []
  /-- the admitted manifest and its record's SEQUENCE (R301) -/
  manifest : List Byte := []
  manifestSeq : U32 := 0
  manifestDigest : List Byte := List.replicate 48 0
  /-- per part: bytes received and PART_STATE (R302, R303) -/
  partData : List (Nat × List Byte) := []
  partState : List (Nat × U8) := []
  currentPart : Nat := 0
  /-- the effective active-bank vector (R311) -/
  vector : BitVec 256 := 0
  /-- the newest accepted stile record (R314); empty: none -/
  stile : List Byte := []
  locked : BitVec 256 := 0
  /-- a stile write in progress -/
  job : Option StileJob := none
  act : Option Activation := none
  /-- the affected channels and targeted bits of the activation or trial (R317, R319) -/
  affected : List Nat := []
  targetBits : List Nat := []
  /-- tick at which the trial timer started (R321) -/
  trialStart : Option Nat := none
  trialMs : Nat := 0
  /-- channels held by a SEED part (R307 step 1) -/
  seedHolds : List Nat := []
  /-- copy RT_TARGET tried and rejected in this power-up (R316) -/
  rtTried : List Nat := []
deriving DecidableEq, Repr

end Sys2Proof.Machine
end

