-- ==== Sys2Proof/Machine/State.lean ====
section
/-! DEFINITION. The state of the block, its faults and refusals, and the state after reset. A field's default is the
value the spec gives for a power-on reset (log entry 1 names every value the spec does not give). -/
namespace Sys2Proof.Machine

/-- The device phases (R229). -/
inductive Phase | start | service | test | recovery
deriving DecidableEq, Repr

/-- No command of the block ends in a fault: the spec gives every command an effect, an answer code or no occurrence.
The type is empty, so nobody raises a fault (safe). -/
inductive Fault
deriving DecidableEq, Repr

/-- Why a command has no meaning in the model. -/
inductive Refusal
  /-- raised by the dispatcher for a command whose meaning is not written yet; safe: nothing can be proved of it -/
  | notModelled (mnemonic : String)
deriving DecidableEq, Repr

/-- Default MON_CFG of monitor m while custody is not chosen (R441, R451). -/
def monCfgDefault : Nat → U16
  | 0 => 0xD200 | 1 => 0xB100 | 2 => 0xB200 | 3 => 0x9100
  | 4 => 0x3280 | 5 => 0x3280 | 6 => 0x3280 | 7 => 0x3280
  | 8 => 0x9100 | _ => 0x9100

/-- Default W of monitor m in milliseconds (R441). -/
def monWindowDefault : Nat → U16
  | 0 => 50 | 1 => 1 | 2 => 10 | 3 => 1 | 4 => 10 | 5 => 10 | 6 => 10 | 7 => 10 | 8 => 1 | _ => 1

/-- A monitor at its defaults (R438). -/
def monitorFresh (m : Nat) : Monitor := { cfg := monCfgDefault m, windowMs := monWindowDefault m }

/-- The Heath domain just powered up from nothing (R438, R450, R460). -/
def heathFresh : Heath := { monitors := (List.range 10).map monitorFresh }

/-- The whole state of the block. -/
structure State where
  /-- commands waiting, first in, first out -/
  pending : List Instr := []
  /-- the model's own: draws made from the free values (log entry 3) -/
  freeCount : Nat := 0
  -- time and clocks (R5, R18, R20, R52 to R54)
  /-- ticks of REFCLK since power-on reset -/
  now : Nat := 0
  /-- ticks since TB_US last rose -/
  subUs : Nat := 0
  tbUs : U40 := 0
  tbEpoch : U40 := 0
  refclk : Bool := false
  pllLock : Bool := false
  /-- Heath periods counted in the present REFCLK absence (R53) -/
  gapPeriods : Nat := 0
  refclkLosses : U32 := 0
  refclkLastGap : U32 := 0
  -- reset inputs and the boot sequence (R218 to R248)
  /-- the level of the ball POR_N; `porN` is that level while main power is present (R573) -/
  porPin : Bool := false
  porN : Bool := false
  straps : BitVec 4 := 0
  phase : Phase := .start
  /-- completed steps with TB_US at completion (R220) -/
  steps : List (Nat × U40) := []
  bootResult : U40 := 0
  resetCause : U8 := 0x01
  rtCopy : U8 := 0xFF
  deviceResets : U32 := 0
  coreRestarts : U32 := 0
  bootAttempts : U8 := 0
  /-- a DEVICE reset is due, with its RESET_CAUSE code (R244, R247, R318) -/
  deviceResetDue : Option U8 := none
  /-- the control cores are held in reset until CORE_RESET (R245, R469, R473) -/
  coresDown : Bool := false
  /-- the cores are left held (R474) -/
  coresHeld : Bool := false
  coreHealth : UnitHealth := {}
  /-- the sequence ended as Scrapped (R223) -/
  halted : Bool := false
  /-- the management ports answer (R223, R230) -/
  mgmtUp : Bool := false
  /-- TEST_REQ is honoured (R219) -/
  testHonoured : Bool := false
  /-- RECOVERY was entered under R227 or R228 (R231) -/
  recoveryByRuntime : Bool := false
  rtImage : List Byte := []
  rtInstallResult : U8 := 0xFF
  rtBuild : U40 := 0
  rtSvn : U8 := 0
  rtDigest : List Byte := List.replicate 48 0
  katResults : List U8 := List.replicate 10 0xFF
  /-- KAT retired the digest engine, the cipher or the DRBG (R224, R345, R407) -/
  digestHealth : UnitHealth := {}
  dgTransients : U32 := 0
  cipherHealth : UnitHealth := {}
  cxTransients : U32 := 0
  /-- FRESH was set at step HEATH (R457) -/
  freshAtHeath : Bool := false
  -- pace gauge and sensors (R21, R22, R550)
  pacePs : U16 := 0
  paceMaxPs : U16 := 0
  /-- the entry of R22 may be written again -/
  paceArmed : Bool := true
  tj : List Int := List.replicate 8 0
  tjMax : List Int := List.replicate 8 0
  railMv : List U16 := List.replicate 7 0
  railMin : List U16 := List.replicate 7 0xFFFF
  railMax : List U16 := List.replicate 7 0
  -- memory errors and the scrubber (R35 to R40, R559)
  secCount : List U32 := List.replicate 8 0
  dedCount : List U32 := List.replicate 8 0
  scrubPasses : U32 := 0
  scrubLast : U40 := 0
  scrubPos : Nat := 0
  /-- stored words that hold flipped bits -/
  upsets : List Upset := []
  bistResult : List U8 := List.replicate 8 0xFF
  injWord : List U40 := List.replicate 8 0
  injMask : List (List Byte) := List.replicate 8 (List.replicate 9 0)
  unitResult : U8 := 0xFF
  logicSig : U32 := 0
  -- configuration (R46, R270, R545)
  /-- committed RWC objects that differ from their defaults, by index × 256 + subindex -/
  cfg : List (Nat × List Byte) := []
  commits : U32 := 0
  lastCommitPort : U8 := 0xFF
  lastCommitUs : U40 := 0
  faReads : U32 := 0
  -- the domains
  chans : Vector Channel 6 := Vector.replicate 6 {}
  fallow : Fallow := {}
  hedgerow : Hedgerow := {}
  hayloft : Hayloft := {}
  vault : Vault := {}
  update : Update := {}
  banks : Vector Bank 8 := Vector.replicate 8 {}
  cxs : Vector CxJob 4 := Vector.replicate 4 {}
  keys : KeyStore := {}
  pke : Pke := {}
  random : Random := {}
  journal : Journal := {}
  heath : Heath := heathFresh
  wd : Watchdog := {}
  timers : Vector TimerUnit 8 := Vector.replicate 8 {}
  timeouts : Vector Timeout 14 := Vector.replicate 14 {}
  cus : Vector CheckUnit 8 := #v[
    { st := 1, owner := some .l }, { st := 1, owner := some .l }, {}, {}, {}, {},
    { st := 1, owner := some .l, width := 64 }, { st := 1, owner := some .l, width := 64 }]
  cuTransients : U32 := 0
  lc : LifeCycle := {}
  tap : TestPort := {}
  spdm : Spdm := {}
  mports : Vector MgmtPort 2 := #v[{ smbAddr := 0x4A }, { smbAddr := 0x4B }]
  ports : Vector PortRegs 3 := Vector.replicate 3 {}
deriving DecidableEq, Repr

/-- The block at power-on reset, POR_N low (R218): every field at its default. -/
def State.reset : State := {}

end Sys2Proof.Machine
end

