-- ==== Sys2Proof/Machine/Ops.lean ====
section
/-! DEFINITION. The named operations over the state that every family uses: access to the parts of the state, time,
free values, the answer of a dictionary operation, the configuration in force, stored words and their code, and the
journal. -/
namespace Sys2Proof.Machine

/-! ### Error codes (R535) -/

abbrev eOk : U8 := 0x00
abbrev eBusy : U8 := 0x01
abbrev eNotReady : U8 := 0x02
abbrev eAccess : U8 := 0x03
abbrev eState : U8 := 0x04
abbrev eLength : U8 := 0x05
abbrev eRange : U8 := 0x06
abbrev eClaim : U8 := 0x07
abbrev eNoObject : U8 := 0x08
abbrev eType : U8 := 0x09
abbrev eAuth : U8 := 0x0A
abbrev eRollback : U8 := 0x0B
abbrev eIntegrity : U8 := 0x0C
abbrev eEmpty : U8 := 0x0D
abbrev eRefused : U8 := 0x0E
abbrev eTimeout : U8 := 0x0F
abbrev eDuplicate : U8 := 0x10
abbrev eRetired : U8 := 0x11
abbrev eWithheld : U8 := 0x12

/-! ### Parts of the state -/

/-- The number of a port: 0 MP0, 1 MP1, 2 L (R330, R434, R532). -/
def portNo : Port → Fin 3
  | .mp0 => 0
  | .mp1 => 1
  | .l => 2

/-- The port of a number. -/
def portOf : Nat → Port
  | 0 => .mp0
  | 1 => .mp1
  | _ => .l

/-- The owner code of a port (R329, R330). -/
def ownerCode : Option Port → Nat
  | none => 0xFF
  | some p => (portNo p).val

def chanAt (s : State) (c : Chan) : Channel := s.chans[c]

def modChan (c : Chan) (f : Channel → Channel) (s : State) : State :=
  { s with chans := s.chans.set c.val (f s.chans[c]) c.isLt }

def modVf (c : Chan) (f : VFlash → VFlash) (s : State) : State :=
  modChan c (fun x => { x with vf := f x.vf }) s

def modCounts (c : Chan) (f : ChCounts → ChCounts) (s : State) : State :=
  modChan c (fun x => { x with counts := f x.counts }) s

/-- Applies a change to every channel in ascending order. -/
def allChans (f : Chan → State → State) (s : State) : State :=
  [(0 : Chan), 1, 2, 3, 4, 5].foldl (fun t c => f c t) s

def portRegs (s : State) (p : Port) : PortRegs := s.ports[portNo p]

def modPort (p : Port) (f : PortRegs → PortRegs) (s : State) : State :=
  { s with ports := s.ports.set (portNo p).val (f s.ports[portNo p]) (portNo p).isLt }

def mportAt (s : State) (p : MPort) : MgmtPort := s.mports[p]

def modMport (p : MPort) (f : MgmtPort → MgmtPort) (s : State) : State :=
  { s with mports := s.mports.set p.val (f s.mports[p]) p.isLt }

def modBank (b : Fin 8) (f : Bank → Bank) (s : State) : State :=
  { s with banks := s.banks.set b.val (f s.banks[b]) b.isLt }

def modCx (c : Fin 4) (f : CxJob → CxJob) (s : State) : State :=
  { s with cxs := s.cxs.set c.val (f s.cxs[c]) c.isLt }

def modTimer (u : Fin 8) (f : TimerUnit → TimerUnit) (s : State) : State :=
  { s with timers := s.timers.set u.val (f s.timers[u]) u.isLt }

def modCu (u : Fin 8) (f : CheckUnit → CheckUnit) (s : State) : State :=
  { s with cus := s.cus.set u.val (f s.cus[u]) u.isLt }

def modTimeout (t : Fin 14) (f : Timeout → Timeout) (s : State) : State :=
  { s with timeouts := s.timeouts.set t.val (f s.timeouts[t]) t.isLt }

def modHay (f : Hayloft → Hayloft) (s : State) : State := { s with hayloft := f s.hayloft }
def modHr (f : Hedgerow → Hedgerow) (s : State) : State := { s with hedgerow := f s.hedgerow }
def modVault (f : Vault → Vault) (s : State) : State := { s with vault := f s.vault }
def modUpd (f : Update → Update) (s : State) : State := { s with update := f s.update }
def modKeys (f : KeyStore → KeyStore) (s : State) : State := { s with keys := f s.keys }
def modPke (f : Pke → Pke) (s : State) : State := { s with pke := f s.pke }
def modRandom (f : Random → Random) (s : State) : State := { s with random := f s.random }
def modHeath (f : Heath → Heath) (s : State) : State := { s with heath := f s.heath }
def modWd (f : Watchdog → Watchdog) (s : State) : State := { s with wd := f s.wd }
def modLc (f : LifeCycle → LifeCycle) (s : State) : State := { s with lc := f s.lc }
def modTap (f : TestPort → TestPort) (s : State) : State := { s with tap := f s.tap }
def modSpdm (f : Spdm → Spdm) (s : State) : State := { s with spdm := f s.spdm }
/-- Digest blocks of the measurements become due for recomputation (R427). -/
def markBlocks (ks : List Nat) (s : State) : State :=
  modSpdm (fun x => { x with pendingBlocks := x.pendingBlocks ++ ks.filter (fun k => !x.pendingBlocks.contains k) }) s

/-- The blocks of an index switch: 0x07 and 0x12 + 4n. -/
def ruleBlocks : List Nat := [0x07, 0x12, 0x16, 0x1A, 0x1E, 0x22, 0x26]

/-- The blocks of a change of the registry or of the effective vector: 0x10 + 4n. -/
def rootBlocks : List Nat := [0x10, 0x14, 0x18, 0x1C, 0x20, 0x24]

/-- The effective active-bank vector changes (R311). -/
def setVector (v : BitVec 256) (s : State) : State :=
  if v = s.update.vector then s else markBlocks rootBlocks (modUpd (fun u => { u with vector := v }) s)

def modFallow (f : Fallow → Fallow) (s : State) : State := { s with fallow := f s.fallow }

/-- One flash of a channel. -/
def flashOf (c : Channel) (m : Cs) : Flash := if m = 0 then c.flash0 else c.flash1

def modFlash (c : Chan) (m : Cs) (f : Flash → Flash) (s : State) : State :=
  modChan c (fun x => if m = 0 then { x with flash0 := f x.flash0 } else { x with flash1 := f x.flash1 }) s

/-- The capacity of a chip select in bytes; 0 when it is empty (R232). -/
def capacityOf (c : Channel) (m : Cs) : Nat :=
  match (flashOf c m).facts with
  | some f => f.capacity
  | none => 0

/-- The populated chip selects of a channel. -/
def populated (c : Channel) : List FlashFacts :=
  (match c.flash0.facts with | some f => [f] | none => []) ++
  (match c.flash1.facts with | some f => [f] | none => [])

/-- `n` bytes of a physical flash from a byte address (erased bytes read 0xFF). -/
def flashRead (s : State) (c : Chan) (m : Cs) (a n : Nat) : List Byte :=
  Mem.readN 0xFF (flashOf (chanAt s c) m).cells a n

/-- The channel of a number below 6; other numbers name channel 0 and are not used. -/
def chanOf (n : Nat) : Chan := if h : n < 6 then ⟨n, h⟩ else 0

/-- The chip select of a number. -/
def csOf (n : Nat) : Cs := if n % 2 = 0 then 0 else 1

def unit8 (n : Nat) : Fin 8 := if h : n < 8 then ⟨n, h⟩ else 0

/-! ### Time (R5, R18, R20, R52) -/

/-- One period of REFCLK: 25 make a microsecond; TB_US stays at its last value until TB_US_WRAP takes it on (log
entry 8). While REFCLK is absent nothing that is paced in ticks moves. -/
def tick (s : State) : State :=
  if s.refclk && s.porN then
    let sub := s.subUs + 1
    if 25 ≤ sub ∧ s.tbUs ≠ BitVec.allOnes 40 then
      { s with now := s.now + 1, subUs := sub - 25, tbUs := s.tbUs + 1 }
    else { s with now := s.now + 1, subUs := sub }
  else s

/-- The control cores run the runtime or the boot ROM (R52, R245). -/
def coresRun (s : State) : Bool := s.porN && !s.coresDown && !s.coresHeld

/-- The runtime runs: step RUNTIME has completed and the cores are not held. -/
def runtimeUp (s : State) : Bool :=
  coresRun s && (s.phase == .service || s.phase == .test)

/-- The runtime and REFCLK are there: what waits for either (R52) can proceed. -/
def canWork (s : State) : Bool := runtimeUp s && s.refclk

def inService (s : State) : Bool := s.phase == .service

/-! ### Free values (log entry 3) -/

/-- Draws a free value of width `w`. -/
def draw (w : Nat) (s : State) : BitVec w × State :=
  (BitVec.ofNat w (Config.freeValue s.freeCount), { s with freeCount := s.freeCount + 1 })

/-- Draws a string of `n` free bytes. -/
def drawBytes : Nat → State → List Byte × State
  | 0, s => ([], s)
  | n + 1, s =>
    let (b, s) := draw 8 s
    let (bs, s) := drawBytes n s
    (b :: bs, s)

/-! ### The answer of a dictionary operation (R523) -/

/-- Records the error code and the result bytes of a request on its port. -/
def answer (p : Port) (code : U8) (data : List Byte) (s : State) : State :=
  modPort p (fun r => { r with lastCode := code, lastData := data }) s

/-- A request that ends with a code and no result bytes. -/
def reply (p : Port) (code : U8) (s : State) : State := answer p code [] s

/-! ### OTP flag bytes and custody (R491, R492) -/

def otpByte (s : State) (a : Nat) : Byte := (tget s.lc.otp a).getD 0

/-- Number of bits that are 1. -/
def ones (b : Byte) : Nat := ((List.range 8).filter (fun i => b.getLsbD i)).length

/-- What a flag byte reads (R492). -/
inductive Flag | clear | ambiguous | set
deriving DecidableEq, Repr

def flagOf (b : Byte) : Flag := if 6 ≤ ones b then .set else if ones b ≤ 2 then .clear else .ambiguous

def flagAt (s : State) (a : Nat) : Flag := flagOf (otpByte s a)

/-- CUSTODY: 0 not chosen, 1 CELL-KEPT, 2 FUSE-KEPT (R492). -/
def custody (s : State) : Nat :=
  let f := flagAt s 0x032
  let c := flagAt s 0x031
  if f = .set ∧ c = .clear then 2 else if f = .clear ∧ c = .clear then 0 else 1

/-- MON_CFG in force: that of CELL_REMOVED follows CUSTODY until a value is committed (R451). -/
def monCfg (s : State) (m : Nat) : U16 :=
  if m = 8 ∧ !s.heath.cellCfgSet then
    (match custody s with
     | 1 => 0xD100 | 2 => 0xB100 | _ => 0x9100)
  else (s.heath.monitors.getD m {}).cfg

/-- MON_CFG's default (R441, R451). -/
def monDefault (s : State) (m : Nat) : U16 :=
  if m = 8 then
    (match custody s with
     | 1 => 0xD100 | 2 => 0xB100 | _ => 0x9100)
  else monCfgDefault m

/-! ### The configuration in force (R46, R270, R545) -/

/-- The key of an object: index × 256 + subindex. -/
def objKey (index sub : Nat) : Nat := index * 256 + sub

/-- Default of TO_VALUE in microseconds (R477). -/
def timeoutDefault : Nat → Nat
  | 0x0 => 100 | 0x3 => 4000 | 0x4 => 20000 | 0x5 => 500000 | 0x6 => 1000000
  | 0x7 => 5000 | 0x8 => 5000 | 0x9 => 8000 | 0xA => 1000 | 0xD => 100000
  | _ => 0

/-- The default of an RWC object as its bytes (R94, R214, R216, R248, R294, R418, R459, R475, R477, R483, R536,
R546). WINDOW_LOG2 and VIRT_ID take the derived values of R95. -/
def rwcDefault (s : State) (index sub : Nat) : List Byte :=
  if 0x3000 ≤ index ∧ index < 0x3600 then
    let v := (chanAt s (chanOf (index / 256 - 0x30))).vf
    match index % 256, sub with
    | 0x00, 0x02 => [0x05]
    | 0x04, 0x00 => leBytes 5 0x4000000000
    | 0x10, 0x02 => [BitVec.ofNat 8 v.derivedWindow]
    | 0x10, 0x03 => [0]
    | 0x10, 0x04 => v.derivedId
    | _, _ => []
  else if 0x9010 ≤ index ∧ index ≤ 0x9019 then
    if sub = 0 then leBytes 2 (monDefault s (index - 0x9010)).toNat
    else leBytes 2 (monWindowDefault (index - 0x9010)).toNat
  else if 0xA100 ≤ index ∧ index < 0xA108 then (if index < 0xA102 then [0x02] else [0])
  else if 0xA110 ≤ index ∧ index < 0xA11E then leBytes 5 (timeoutDefault (index - 0xA110))
  else match index, sub with
    | 0x2000, 0x01 => [0]
    | 0x2001, 0x01 => [1]
    | 0x2000, 0x02 => [0x4A]
    | 0x2001, 0x02 => [0x4B]
    | 0x2003, 0x02 => leBytes 2 1000
    | 0x3600, 0x00 => [0]
    | 0x6000, 0x05 => zeros 96
    | 0x8030, 0x01 => leBytes 5 0x100000
    | 0x8030, 0x02 => leBytes 4 1000
    | 0x8030, 0x03 => leBytes 4 60000
    | 0xA000, 0x01 => [2]
    | 0xA000, 0x02 => [0, 0]
    | 0xA000, 0x03 => leBytes 2 48828
    | 0xA000, 0x04 => [0]
    | 0xA000, 0x05 => [0, 0]
    | 0xC020, _ => [0xFF]
    | _, _ => []

/-- The value in force of an RWC object (R544). The monitors' configuration lives in the Heath registers (R457). -/
def cfgBytes (s : State) (index sub : Nat) : List Byte :=
  if 0x9010 ≤ index ∧ index ≤ 0x9019 then
    match s.heath.monitors[index - 0x9010]? with
    | some m => if sub = 0 then leBytes 2 (monCfg s (index - 0x9010)).toNat else leBytes 2 m.windowMs.toNat
    | none => []
  else
    match tget s.cfg (objKey index sub) with
    | some v => v
    | none => rwcDefault s index sub

/-- The value in force of an RWC object as a number. -/
def cfgNat (s : State) (index sub : Nat) : Nat := leNat (cfgBytes s index sub)

/-- WINDOW_LOG2 and VIRT_ID: a committed value stays in force across later discoveries (R95). -/
def derivedObject (index sub : Nat) : Bool :=
  0x3000 ≤ index && index < 0x3600 && index % 256 == 0x10 && (sub == 2 || sub == 4)

/-- The configuration with an object at a value: a value equal to the default leaves no entry (R270). -/
def cfgPut (index sub : Nat) (v : List Byte) (s : State) : State :=
  if 0x9010 ≤ index ∧ index ≤ 0x9019 then
    modHeath (fun h => { h with
      cellCfgSet := h.cellCfgSet || (index == 0x9018 && sub == 0)
      monitors := h.monitors.modify (index - 0x9010) (fun m =>
      if sub = 0 then { m with cfg := BitVec.ofNat 16 (leNat v) }
      else { m with windowMs := BitVec.ofNat 16 (leNat v) }) }) s
  else if v == rwcDefault s index sub && !derivedObject index sub then
    { s with cfg := tdel s.cfg (objKey index sub) }
  else { s with cfg := tput s.cfg (objKey index sub) v }

/-- The value of a device timeout in microseconds (R477). -/
def timeoutUs (s : State) (t : Nat) : Nat := cfgNat s (0xA110 + t) 0

/-- A timeout's expiry (R476): TO_EXPIRED rises and TO_LAST reads EXPIRED. -/
def timeoutExpired (t : Fin 14) (s : State) : State :=
  modTimeout t (fun o => { o with expired := satInc o.expired, last := 2 }) s

/-- The awaited event wins (R27): TO_LAST reads ARRIVED. -/
def timeoutArrived (t : Fin 14) (s : State) : State := modTimeout t (fun o => { o with last := 1 }) s

/-! ### Roles and life cycle -/

/-- MP_ROLE of a management port (R531). -/
def roleOf (s : State) (p : MPort) : Nat := cfgNat s (0x2000 + p.val) 1

/-- Life-cycle states: 0 Maker, 1 Integrator, 2 Fielded, 3 Returned, 4 Scrapped (R496). -/
def lcMakerOrReturned (s : State) : Bool := s.lc.state == 0 || s.lc.state == 3

/-! ### Stored words (R32 to R38) -/

/-- The columns of the check matrix (R33). -/
def eccColumns : List Nat :=
  ((List.range 256).filter (fun v =>
    ((List.range 8).filter (fun b => bit v b)).length == 3)) ++
  [0x1F, 0x2F, 0x37, 0x3B, 0x3D, 0x3E, 0x4F, 0x57]

/-- The check byte of 64 data bits (R33). -/
def eccCheck (d : BitVec 64) : BitVec 8 :=
  (List.range 64).foldl (fun a i =>
    if d.getLsbD i then a ^^^ BitVec.ofNat 8 (eccColumns.getD i 0) else a) 0

/-- The stored word of 64 data bits. -/
def eccEncode (d : BitVec 64) : CodeWord := eccCheck d ++ d

/-- What a read finds in a stored word (R35). -/
inductive WordRead
  | correct
  | single
  | double
deriving DecidableEq, Repr

/-- The syndrome of a word whose bits `mask` have flipped (the code is linear). -/
def eccSyndrome (mask : CodeWord) : BitVec 8 :=
  eccCheck (mask.extractLsb' 0 64) ^^^ mask.extractLsb' 64 8

/-- What the read of a word finds, and the data bits that are still wrong in what it delivers (R35). -/
def eccRead (mask : CodeWord) : WordRead × BitVec 64 :=
  let y := eccSyndrome mask
  let d := mask.extractLsb' 0 64
  if y = 0 then (.correct, d)
  else match eccColumns.findIdx? (fun c => BitVec.ofNat 8 c == y) with
    | some i => (.single, d ^^^ ((1 : BitVec 64) <<< i))
    | none =>
      if ((List.range 8).filter (fun b => y.getLsbD b)).length = 1 then (.single, d) else (.double, d)

/-- The bits that have flipped in a stored word. -/
def flipsOf (s : State) (mem : Fin 8) (word : Nat) : CodeWord :=
  (s.upsets.filter (fun u => u.mem = mem ∧ u.word = word)).foldl (fun a u => a ^^^ u.mask) 0

/-- A word written anew holds no flipped bit. -/
def cleanWords (mem : Fin 8) (first n : Nat) (s : State) : State :=
  { s with upsets := s.upsets.filter (fun u => ¬(u.mem = mem ∧ first ≤ u.word ∧ u.word < first + n)) }

def countSec (mem : Fin 8) (s : State) : State :=
  { s with secCount := s.secCount.modify mem.val satInc }

def countDed (mem : Fin 8) (s : State) : State :=
  { s with dedCount := s.dedCount.modify mem.val satInc }

/-- A functional read of a stored word: its finding, with the error counted (R38) and a corrected word written back
(R36). -/
def readWord (mem : Fin 8) (word : Nat) (s : State) : WordRead × State :=
  let m := flipsOf s mem word
  if m = 0 then (.correct, s) else
  match (eccRead m).1 with
  | .correct => (.correct, s)
  | .single => (.single, cleanWords mem word 1 (countSec mem s))
  | .double => (.double, countDed mem s)

/-- The functional read of `n` words from `word`: double when any of them is. -/
def readWords (mem : Fin 8) (word : Nat) : Nat → State → Bool × State
  | 0, s => (false, s)
  | n + 1, s =>
    let (r, s) := readWord mem word s
    let (d, s) := readWords mem (word + 1) n s
    (r == .double || d, s)

/-- Errors that struck stored words. -/
def strike (us : List Upset) (s : State) : State := { s with upsets := s.upsets ++ us }

/-! ### The journal (R428 to R434) -/

/-- Sources marked hardware (R430). -/
def hardwareSource (src : Nat) : Bool :=
  src == 0x00 || (0x10 ≤ src && src ≤ 0x17) || src == 0x29 || src == 0x30 || src == 0x38

/-- An entry is written into the ring, and a retained-class entry into the retained area (R428). -/
def journalCommit (e : JEntry) (s : State) : State :=
  let j := s.journal
  let slot := j.head.toNat % 6144
  let j1 := { j with ring := tput j.ring slot e, head := j.head + 1 }
  let s1 := cleanWords 4 (slot * 4) 4 s
  if e.retained then
    if j.retainedCount.toNat < 2048 then
      cleanWords 4 (24576 + j.retainedCount.toNat * 4) 4
        { s1 with journal := { j1 with kept := tput j.kept j.retainedCount.toNat e,
                                       retainedCount := j.retainedCount + 1 } }
    else { s1 with journal := { j1 with retainedOverflow := satInc j.retainedOverflow } }
  else { s1 with journal := j1 }

/-- A new entry meets the two-entry staging slot of a source that waits (R41, R43). -/
def journalStage (e : JEntry) (s : State) : State :=
  let src := e.source.toNat
  let q := (tget s.journal.staging src).getD []
  let j := s.journal
  if q.length < 2 then { s with journal := { j with staging := tput j.staging src (q ++ [e]) } }
  else if e.retained ∧ q.any (fun x => !x.retained) then
    let i := q.findIdx (fun x => !x.retained)
    { s with journal := { j with staging := tput j.staging src (q.eraseIdx i ++ [e]) } }
  else
    { s with journal := { j with drops := tput j.drops src (satInc ((tget j.drops src).getD 0)) } }

/-- The time base has run since the power-on reset: step CLOCK has completed, or a reset that kept it has followed (log
entry 8). -/
def timeRan (s : State) : Bool := (tget s.steps 1).isSome || s.resetCause != 1

/-- An event is captured: its entry carries the source's next SEQ, the fence in force and the time (R429, R434). A
source that is not hardware waits while the cores restart (R430, R52). -/
def journal (src code : Nat) (retained : Bool) (data : List Byte) (s : State) : State :=
  let seq := (tget s.journal.seqs src).getD 0
  let e : JEntry := {
    source := BitVec.ofNat 8 src, retained := retained, frozen := !s.refclk && timeRan s, code := BitVec.ofNat 16 code,
    seq := seq, fence := s.journal.fence, time := s.tbUs, epoch := BitVec.ofNat 16 s.tbEpoch.toNat,
    data := padTo data 12 }
  let s := { s with journal := { s.journal with seqs := tput s.journal.seqs src (seq + 1) } }
  if hardwareSource src || !s.coresDown then journalCommit e s else journalStage e s

/-- A NOTICE entry (R431): the object that records the event, its value and a detail. -/
def notice (src : Nat) (retained : Bool) (index sub value detail : Nat) (s : State) : State :=
  journal src 0x0F00 retained (leBytes 2 index ++ leBytes 1 sub ++ leBytes 5 value ++ leBytes 4 detail) s

/-- The staged entries enter the journal when the cores run again, by source and in their order. -/
def journalDrain (s : State) : State :=
  let q := s.journal.staging
  let s := { s with journal := { s.journal with staging := [] } }
  q.foldl (fun t x => x.2.foldl (fun t e => journalCommit e t) t) s

/-- A host-transaction word (R31): opcode above a four-byte address. -/
def hostWord (op addr : Nat) : U40 := BitVec.ofNat 40 (op * 2 ^ 32 + addr % 2 ^ 32)

/-- A step of the power-up sequence completes (R220). -/
def stepDone (k : Nat) (s : State) : State :=
  if (tget s.steps k).isSome then s else { s with steps := tput s.steps k s.tbUs }

/-- A power-up failure: BOOT_RESULT reports the one with the lowest step code, and each leaves an entry of its own
(R241); a wait of step CLOCK that goes on only brings DETAIL up to date. -/
def bootFail (step : Nat) (code : U8) (detail : Nat) (s : State) : State :=
  let v : U40 := BitVec.ofNat 40 (step * 2 ^ 24 + code.toNat * 2 ^ 16 + detail % 2 ^ 16)
  let old := bits s.bootResult.toNat 31 24
  let s' := if old = 0 ∨ step < old ∨ (step = 1 ∧ old = 1) then { s with bootResult := v } else s
  if step = 1 ∧ old = 1 then s'
  else journal (if step ≤ 7 then 0x01 else 0x02) 0x0003 true (leBytes 5 v.toNat) s'

/-- The bytes of an entry (R429). -/
def entryBytes (e : JEntry) : List Byte :=
  [e.source, BitVec.ofNat 8 (b2n e.retained + 2 * b2n e.frozen)] ++ leBytes 2 e.code.toNat ++
  leBytes 4 e.seq.toNat ++ leBytes 5 e.fence.toNat ++ leBytes 5 e.time.toNat ++ leBytes 2 e.epoch.toNat ++ e.data

end Sys2Proof.Machine
end

