-- ==== Sys2Proof/Machine/Flags.lean ====
section
/-! DEFINITION. The status words the block computes: channel states and holds, DISAGREE, the virtual status register,
the release plan's fields. -/
namespace Sys2Proof.Machine

/-! ### The release plan (R236, R237) -/

/-- PLAN of channel `c` in force. -/
def planOf (s : State) (c : Chan) : Nat := cfgNat s (0x3004 + 0x100 * c.val) 0

def planBootState (v : Nat) : Nat := bits v 39 38
def planStartDeps (v : Nat) : Nat := bits v 37 32
def planRelDeps (v : Nat) : Nat := bits v 31 26
def planGpioEn (v : Nat) : Bool := bit v 25
def planGpioSel (v : Nat) : Nat := bits v 24 22
def planGpioLevel (v : Nat) : Bool := bit v 21
def planDepPolicy (v : Nat) : Bool := bit v 20
def planDepTimeout (v : Nat) : Nat := bits v 19 16
def planRelDelay (v : Nat) : Nat := bits v 15 0

/-- Every channel of a dependency field is RUNNING. -/
def depsRun (s : State) (deps : Nat) : Bool :=
  [(0 : Chan), 1, 2, 3, 4, 5].all (fun c => !bit deps c.val || (chanAt s c).eff == .running)

/-- The GPIO condition of a plan entry, for the levels of the eight GPIO balls (R236). -/
def gpioMet (v : Nat) (gpio : BitVec 8) : Bool :=
  !planGpioEn v || (gpio.getLsbD (planGpioSel v) == planGpioLevel v)

/-- A dependency wait that timed out under DEP_POLICY 1 counts as met (R238). -/
def startConditions (s : State) (c : Chan) : Bool :=
  let ch := chanAt s c
  (ch.depMet || depsRun s (planStartDeps (planOf s c))) &&
  ch.discovered && !ch.discFault0 && !ch.discFault1 && !ch.compileFault

/-- The release conditions of R237 but REL_DELAY. -/
def releaseDeps (s : State) (c : Chan) (gpio : BitVec 8) : Bool :=
  let v := planOf s c
  (chanAt s c).depMet || (depsRun s (planRelDeps v) && gpioMet v gpio)

/-! ### Channels (R184, R185, R191, R194) -/

/-- The value of a channel state (R184). -/
def chStateCode : ChState → Nat
  | .off => 0 | .held => 1 | .preloading => 2 | .running => 3
  | .quarantined => 4 | .recovering => 5 | .retired => 6

/-- A response sequence occupies the channel until its rewrite or inversion completes (R186). -/
def seqHolds (ch : Channel) : Bool :=
  match ch.seq with
  | some q => q.stage != .preload && q.tier != .hold
  | none => false

/-- HOLDS (R191). -/
def holdsByte (ch : Channel) : Nat :=
  b2n ch.quarPending + 2 * b2n ch.class4 + 4 * b2n ch.tamper + 8 * b2n ch.activation +
  16 * b2n ch.takeover + 32 * b2n (!ch.pg)

/-- BOOT_FAULT (R243). -/
def bootFault (ch : Channel) : Nat :=
  b2n ch.depTaken + 2 * b2n ch.discFault0 + 4 * b2n ch.discFault1 + 8 * b2n ch.compileFault + 16 * b2n ch.retireReapplied

/-- CHn_PLAT_HOLD_N is high only in RUNNING (R184). -/
def holdLevel (ch : Channel) : Bool := ch.eff == .running

/-- The life-cycle state holds every channel: Scrapped (R498). -/
def lifecycleHolds (s : State) : Bool := s.lc.state == 4

/-- DISAGREE of a channel: the highest-ranked cause (R14, R194). -/
def disagreeCh (s : State) (c : Chan) : Nat :=
  let ch := chanAt s c
  if ch.reqState.toNat = chStateCode ch.eff then 0x00
  else if lifecycleHolds s then 0x08
  else if ch.tamper then 0x07
  else if ch.eff = .retired then 0x06
  else if ch.eff = .recovering ∨ ch.quarantined ∨ ch.class4 then 0x05
  else if ch.takeover then 0x04
  else if !s.refclk && ((ch.eff == .off) || (ch.eff == .preloading && !ch.preloadDone) || !ch.discovered) then 0x03
  else if ch.pendingReq.isSome then 0x01
  else if ch.eff = .preloading ∨ !ch.pg ∨ ch.activation ∨ ch.eff = .held then 0x02
  else 0x01

/-- The host takes commands only in RUNNING (R63, R184). -/
def running (ch : Channel) : Bool := ch.eff == .running

/-! ### The other crossing nodes (R14, R180, R206, R213, R252) -/

def fallowEff (f : Fallow) : Nat :=
  if f.retired then 3 else if f.serving.isSome then 2 else if f.standbySince.isSome then 1 else 0

def disagreeFallow (f : Fallow) : Nat :=
  if f.retired then 0x06
  else if f.serving.isSome then 0x04
  else if f.reqState.toNat = fallowEff f then 0x00 else 0x01

/-- A gleaning read is in progress. -/
def gleaning (s : State) : Bool :=
  [(0 : Chan), 1, 2, 3, 4, 5].any (fun c => match (chanAt s c).devRead with | some (.glean _) => true | _ => false)

/-- EFF_STATE of the Hayloft: PRELOADING while a channel preloads; GLEANING needs REFCLK and ends with the read in
progress (R15, R180). -/
def hayloftEff (s : State) : Nat :=
  if [(0 : Chan), 1, 2, 3, 4, 5].any (fun c => (chanAt s c).eff == .preloading) then 2
  else if gleaning s || (s.hayloft.reqState == 1 && s.refclk) then 1 else 0

def disagreeHayloft (s : State) : Nat :=
  if hayloftEff s = s.hayloft.reqState.toNat then 0x00
  else if s.hayloft.reqState = 1 ∧ !s.refclk then 0x03 else 0x01

def disagreeVault (s : State) : Nat :=
  if s.vault.eff.toNat = s.vault.reqState.toNat then 0x00
  else if s.vault.eff.toNat = 3 then 0x06
  else if !s.refclk then 0x03 else 0x01

/-- The vault's I/O runs (R252). -/
def vaultOnline (s : State) : Bool := s.vault.eff == 0

/-! ### The virtual status register (R81, R89) -/

def busModeCode : BusMode → Nat
  | .spi => 0 | .qpi => 1 | .octal => 2

/-- A program, erase or stage record of this host is in progress (R82, R89). -/
def wipOf (ch : Channel) : Bool := ch.store.isSome || ch.stageOp.isSome

/-- VSR (R81). -/
def vsrByte (ch : Channel) : Nat :=
  b2n (wipOf ch) + 2 * b2n ch.vf.wel + 32 * b2n ch.vf.deny + 64 * b2n ch.vf.staged + 128 * b2n ch.vf.subst

/-! ### Recovery (R290) and phases (R229) -/

def phaseCode : Phase → Nat
  | .start => 0 | .service => 1 | .test => 2 | .recovery => 3

end Sys2Proof.Machine
end

