-- ==== Sys2Proof/Machine/Hedgerow.lean ====
section
/-! DEFINITION. The Hedgerow (chapter 03): the rule, the governing rule of a line, translation, the compile checks,
the index and the lookups that walk it. Lines are counted by address bits [31:8]. -/
namespace Sys2Proof.Machine

/-! ### The rule (R97, R99) -/

def rField (r : RuleRow) (hi lo : Nat) : Nat := (r.extractLsb' lo (hi + 1 - lo)).toNat
def rValid (r : RuleRow) : Bool := r.getLsbD 127
def rChannel (r : RuleRow) : Nat := rField r 126 124
def rBase (r : RuleRow) : Nat := rField r 123 100
def rLines (r : RuleRow) : Nat := rField r 99 76 + 1
/-- 0 OPEN, 1 WATCHED, 2 SEALED, 3 BARRED. -/
def rReadMode (r : RuleRow) : Nat := rField r 75 74
/-- 0 ALLOW, 1 LOG, 2 STAGE, 3 DENY. -/
def rPolicy (r : RuleRow) : Nat := rField r 73 72
def rClass (r : RuleRow) : Nat := rField r 71 69
def rPriority (r : RuleRow) : Nat := rField r 68 65
def rTranslate (r : RuleRow) : Bool := r.getLsbD 64
def rBanked (r : RuleRow) : Bool := r.getLsbD 63
def rBankId (r : RuleRow) : Nat := rField r 62 55
def rCsA (r : RuleRow) : Nat := rField r 54 54
def rXoffA (r : RuleRow) : Nat := rField r 53 38
def rCsB (r : RuleRow) : Nat := rField r 37 37
def rXoffB (r : RuleRow) : Nat := rField r 36 21
def rTree (r : RuleRow) : Nat := rField r 20 9

/-- A rule that a single write accepts (R99, with the reserved bits of R3). -/
def ruleAcceptable (r : RuleRow) : Bool :=
  if !rValid r then r == 0
  else
    rChannel r < 6 && rClass r < 5 && rField r 8 0 == 0 &&
    rBase r + rLines r ≤ 2 ^ 24 &&
    (rTranslate r || (!rBanked r && rBankId r == 0 && rXoffA r == 0 && rCsB r == 0 && rXoffB r == 0)) &&
    (rBanked r || (rBankId r == 0 && rCsB r == 0 && rXoffB r == 0)) &&
    !(rBanked r && rCsB r == rCsA r && rXoffB r == rXoffA r) &&
    !((rReadMode r == 0 || rReadMode r == 3) && rTree r != 0) &&
    !(rBanked r && (rReadMode r == 1 || rReadMode r == 2) && rTree r % 2 == 1)

def rowOfBytes (bs : List Byte) : RuleRow := BitVec.ofNat 128 (leNat bs)
def rowBytes (r : RuleRow) : List Byte := leBytes 16 r.toNat

/-- The translation tuple (R105). -/
def rTuple (r : RuleRow) : Bool × Nat × Nat × Bool × Nat × Nat × Nat :=
  (rTranslate r, rCsA r, rXoffA r, rBanked r, rBankId r, rCsB r, rXoffB r)

/-! ### The governing rule (R101) -/

def covers (r : RuleRow) (ch line : Nat) : Bool :=
  rValid r && rChannel r == ch && rBase r ≤ line && line < rBase r + rLines r

/-- The governing rule of a line: the covering rule of highest priority. -/
def governing (rules : List (Nat × RuleRow)) (ch line : Nat) : Option (Nat × RuleRow) :=
  rules.foldl (fun best x =>
    if covers x.2 ch line then
      match best with
      | none => some x
      | some b => if rPriority b.2 < rPriority x.2 then some x else best
    else best) none

/-- A run of lines [lo, hi) with one governing rule. -/
structure Seg where
  lo : Nat
  hi : Nat
  rule : Nat
  row : RuleRow
deriving DecidableEq, Repr

/-- Inserts a number into a rising list without repeats. -/
def insertNat (x : Nat) : List Nat → List Nat
  | [] => [x]
  | y :: ys => if x < y then x :: y :: ys else if x = y then y :: ys else y :: insertNat x ys

/-- The line numbers at which the covering rules of a channel change. -/
def segBounds (rules : List (Nat × RuleRow)) (ch : Nat) : List Nat :=
  rules.foldl (fun a x =>
    if rValid x.2 && rChannel x.2 == ch then
      insertNat (rBase x.2) (insertNat (rBase x.2 + rLines x.2) a) else a) []

/-- The governed runs of a channel in ascending order. -/
def segsOf (rules : List (Nat × RuleRow)) (ch : Nat) : List Seg :=
  let b := segBounds rules ch
  (b.zip (b.drop 1)).filterMap (fun (lo, hi) =>
    (governing rules ch lo).map (fun x => ⟨lo, hi, x.1, x.2⟩))

/-- The banks a rule can select: (chip select, offset of address [31:16]) (R103). -/
def banksOf (r : RuleRow) : List (Nat × Nat) :=
  if !rTranslate r then [(rCsA r, 0)]
  else if rBanked r then [(rCsA r, rXoffA r), (rCsB r, rXoffB r)] else [(rCsA r, rXoffA r)]

/-- The physical runs of a run of host lines in one bank: a sum beyond 0xFFFF wraps. -/
def physRuns (g : Seg) (xoff : Nat) : List (Nat × Nat) :=
  let lo := g.lo + xoff * 256
  let hi := g.hi + xoff * 256
  if hi ≤ 2 ^ 24 then [(lo, hi)]
  else if 2 ^ 24 ≤ lo then [(lo - 2 ^ 24, hi - 2 ^ 24)]
  else [(lo, 2 ^ 24), (0, hi - 2 ^ 24)]

/-! ### Lookup (R103, R112, R115) -/

/-- What a lookup finds for a line: the fields of the verdict and the physical place. -/
structure Verdict where
  rule : Option (Nat × RuleRow)
  readMode : Nat
  policy : Nat
  cls : Nat
  cs : Cs
  phys : Nat
  tree : Nat
deriving DecidableEq, Repr

/-- The no-rule verdict (R101). -/
def noRule (line : Nat) : Verdict :=
  { rule := none, readMode := 3, policy := 3, cls := 0, cs := 0, phys := line, tree := 0 }

/-- Bank B is selected by a one in the effective active-bank vector (R103). -/
def bankB (s : State) (r : RuleRow) : Bool :=
  rTranslate r && rBanked r && s.update.vector.getLsbD (rBankId r)

/-- Chip select and physical line of a host line under its rule (R103). -/
def translate (r : RuleRow) (b : Bool) (line : Nat) : Cs × Nat :=
  if !rTranslate r then (csOf (rCsA r), line)
  else
    let x := if b then rXoffB r else rXoffA r
    (csOf (if b then rCsB r else rCsA r), ((line / 256 + x) % 65536) * 256 + line % 256)

/-- The verdict of a line under its rule. -/
def verdictOf (s : State) (g : Option (Nat × RuleRow)) (line : Nat) : Verdict :=
  match g with
  | none => noRule line
  | some (n, r) =>
    let b := bankB s r
    let t := translate r b line
    { rule := some (n, r), readMode := rReadMode r, policy := rPolicy r, cls := rClass r,
      cs := t.1, phys := t.2, tree := rTree r + b2n b }

/-- The verdict of a line by the index in force, with no memory error (R101, R103). -/
def verdictAt (s : State) (c : Chan) (line : Nat) : Verdict :=
  verdictOf s (governing s.hedgerow.index c.val line) line

/-- The rule of a physical line, by its physical trie: rule, whether bank B, host line (R115). -/
def physGoverning (s : State) (c : Chan) (m : Cs) (pline : Nat) : Option (Nat × RuleRow × Bool × Nat) :=
  let rules := s.hedgerow.index
  rules.foldl (fun best x =>
    match best with
    | some _ => best
    | none =>
      if rValid x.2 && rChannel x.2 == c.val then
        (List.range (banksOf x.2).length).foldl (fun b2 i =>
          match b2 with
          | some _ => b2
          | none =>
            let (cs, xoff) := (banksOf x.2).getD i (0, 0)
            let host := ((pline / 256 + 65536 - xoff) % 65536) * 256 + pline % 256
            if cs == m.val && (governing rules c.val host == some x) then some (x.1, x.2, i == 1, host)
            else none) none
      else none) none

/-- The value of an index entry in a node's runs (R111). -/
def entryOf (runs : List NodeRun) (i : Nat) : U32 :=
  match runs.find? (fun r => r.first ≤ i && i < r.first + r.len) with
  | some r => r.entry
  | none => 0

def entryKind (e : U32) : Nat := (e >>> 30).toNat
def entryNode (e : U32) : Nat := (e.extractLsb' 16 11).toNat
def entryRule (e : U32) : Nat := (e.extractLsb' 0 16).toNat

/-- The index words (node × 128 + entry / 2) a walk reads below its root, and the rule it ends at (R112). -/
def walkFrom (nodes : List (Nat × List NodeRun)) (line : Nat) : Nat → Nat → List Nat × Option Nat
  | 0, _ => ([], none)
  | k + 1, node =>
    let i := (line / 256 ^ k) % 256
    let e := entryOf ((tget nodes node).getD []) i
    let word := node * 128 + i / 2
    if entryKind e = 1 then ([word], some (entryRule e))
    else if entryKind e = 2 then
      let (ws, r) := walkFrom nodes line k (entryNode e)
      (word :: ws, r)
    else ([word], none)

/-- The stored words a host lookup depends on: index words below the root, whose copy the pipeline holds (R183), and
the two words of the rule row. -/
def lookupWords (s : State) (c : Chan) (line : Nat) : List (Fin 8 × Nat) :=
  let (ws, r) := walkFrom s.hedgerow.nodes line 3 (s.hedgerow.roots.getD c.val 0)
  (ws.drop 1).map (fun w => (3, w)) ++
    (match r with | some n => [((2 : Fin 8), 2 * n), (2, 2 * n + 1)] | none => [])

/-- The word is due for reload after a double-bit error (R122). -/
def markReload (mem : Fin 8) (word : Nat) (s : State) : State :=
  modHr (fun h => if h.reloadDue.contains (mem.val, word) then h
    else { h with reloadDue := h.reloadDue ++ [(mem.val, word)] }) s

/-- A host lookup of one line: a double-bit error in a word it reads gives the no-rule verdict (R122). The answer says
whether it met one. -/
def lookup (c : Chan) (line : Nat) (s : State) : Verdict × Bool × State :=
  let (bad, s) := (lookupWords s c line).foldl (fun (a : Bool × State) w =>
    let (r, t) := readWord w.1 w.2 a.2
    if r == .double then (true, markReload w.1 w.2 t) else (a.1, t)) (false, s)
  if bad then
    (noRule line, true, modCounts c (fun k => { k with lookupDed := satInc k.lookupDed }) s)
  else (verdictAt s c line, false, s)

/-! ### The minimal index (R110 to R114) -/

/-- Runs that meet [lo, hi). -/
def segsIn (g : List Seg) (lo hi : Nat) : List Seg := g.filter (fun x => x.lo < hi && lo < x.hi)

/-- The rule of every line of [lo, hi) when one value governs them all: `some none` when no line is governed. -/
def uniformOf (g : List Seg) (lo hi : Nat) : Option (Option Nat) :=
  match g with
  | [] => some none
  | x :: rest =>
    if rest.all (fun y => y.rule == x.rule) && x.lo ≤ lo &&
       (g.zip (g.drop 1)).all (fun (a, b) => a.hi == b.lo) &&
       (match g.getLast? with | some y => hi ≤ y.hi | none => false)
    then some (some x.rule) else none

/-- Index entries in runs of equal value, NONE left out. -/
def runsOf (es : List (Nat × U32)) : List NodeRun :=
  (es.foldl (fun (a : List NodeRun) (i, e) =>
    if e = 0 then a else
    match a with
    | r :: t => if r.entry = e ∧ r.first + r.len = i then { r with len := r.len + 1 } :: t else ⟨i, 1, e⟩ :: a
    | [] => [⟨i, 1, e⟩]) []).reverse

/-- The lowest number from `k` up that names no node. -/
def freeNode (nodes : List (Nat × List NodeRun)) : Nat → Nat → Nat
  | 0, k => k
  | f + 1, k => if (tget nodes k).isSome then freeNode nodes f (k + 1) else k

/-- A node of the given content: an equal one is used where there is one (R113). -/
def internNode (runs : List NodeRun) (nodes : List (Nat × List NodeRun)) : Nat × List (Nat × List NodeRun) :=
  if runs = [] then (0, nodes)
  else match nodes.find? (fun x => x.2 == runs) with
    | some x => (x.1, nodes)
    | none =>
      let k := freeNode nodes nodes.length 1
      (k, tput nodes k runs)

/-- Builds the node of level 4 - k that covers 256^k lines from `base` (k is 3 at the root). -/
def buildNode (g : List Seg) : Nat → Nat → List (Nat × List NodeRun) → Nat × List (Nat × List NodeRun)
  | 0, _, nodes => (0, nodes)
  | k + 1, base, nodes =>
    let size := 256 ^ k
    let (es, nodes) := (List.range 256).foldl (fun (a : List (Nat × U32) × List (Nat × List NodeRun)) i =>
      let lo := base + i * size
      let sub := segsIn g lo (lo + size)
      match uniformOf sub lo (lo + size) with
      | some none => a
      | some (some r) => (a.1 ++ [(i, BitVec.ofNat 32 (0x40000000 + r))], a.2)
      | none =>
        let (n, nodes) := buildNode sub k lo a.2
        let x := if k = 1 then
            (match sub with | y :: _ => 0x20000000 + y.rule | [] => 0) else 0
        (a.1 ++ [(i, BitVec.ofNat 32 (0x80000000 + n * 65536 + x))], nodes)) ([], nodes)
    internNode (runsOf es) nodes

/-- Inserts a run into a list rising by `lo`. -/
def insertSeg (x : Seg) : List Seg → List Seg
  | [] => [x]
  | y :: ys => if x.lo ≤ y.lo then x :: y :: ys else y :: insertSeg x ys

/-- The runs of a physical trie. -/
def physSegs (rules : List (Nat × RuleRow)) (ch cs : Nat) : List Seg :=
  (segsOf rules ch).foldl (fun a g =>
    (banksOf g.row).foldl (fun a b =>
      if b.1 = cs then (physRuns g b.2).foldl (fun a r => insertSeg ⟨r.1, r.2, g.rule, g.row⟩ a) a else a) a) []

/-- The index of a rule set over the nodes of the generation in force: roots in the order of R110, and all nodes. -/
def buildIndex (rules : List (Nat × RuleRow)) (old : List (Nat × List NodeRun)) :
    List Nat × List (Nat × List NodeRun) :=
  let maps := (List.range 6).map (fun c => segsOf rules c) ++
    (List.range 12).map (fun i => physSegs rules (i / 2) (i % 2))
  maps.foldl (fun (a : List Nat × List (Nat × List NodeRun)) g =>
    let (n, nodes) := buildNode g 3 0 a.2
    (a.1 ++ [n], nodes)) ([], old)

/-- Nodes reachable from a node, by number. -/
def reach (nodes : List (Nat × List NodeRun)) : Nat → Nat → List Nat → List Nat
  | 0, n, acc => if n = 0 then acc else insertNat n acc
  | k + 1, n, acc =>
    if n = 0 then acc else
    ((tget nodes n).getD []).foldl (fun a r => if entryKind r.entry = 2 then reach nodes k (entryNode r.entry) a else a)
      (insertNat n acc)

/-- Nodes reachable from the roots, node 0 left out. -/
def reachable (nodes : List (Nat × List NodeRun)) (roots : List Nat) : List Nat :=
  roots.foldl (fun a r => reach nodes 2 r a) []

/-- NODES_USED: node 0 included (R131). -/
def nodesUsed (h : Hedgerow) : Nat := (reachable h.nodes h.roots).length + 1

/-! ### The compile checks (R105 to R108, R126) -/

/-- A failed check: reason, lowest-numbered rule involved where one is, code, resource. -/
structure CompileFail where
  reason : Nat
  rule : Option Nat
  code : U8
  resource : Nat
deriving DecidableEq, Repr

def minRule (rs : List Nat) : Option Nat :=
  rs.foldl (fun a r => match a with | none => some r | some b => some (min r b)) none

/-- A check over rules: fails with the lowest of the rules involved. -/
def failOn (reason : Nat) (code : U8) (rs : List Nat) : Option CompileFail :=
  match minRule rs with
  | none => none
  | some r => some ⟨reason, some r, code, 0⟩

/-- What the checks need beside the rules: window and XLATE_ADDR per channel, staged or committed. -/
structure CompileEnv where
  window : List Nat
  xlate : List Bool
deriving DecidableEq, Repr

/-- The rules that tie at the highest priority on some line (R126 reason 0x03). -/
def tieRules (rules : List (Nat × RuleRow)) (ch : Nat) : List Nat :=
  (segsOf rules ch).foldl (fun a g =>
    let t := rules.filter (fun x => covers x.2 ch g.lo && rPriority x.2 == rPriority g.row)
    if 2 ≤ t.length then a ++ t.map (·.1) else a) []

/-- The 64 KiB blocks in which adjacent runs have different translations. -/
def mixedRules (g : List Seg) : List Nat :=
  let blocks := (g.zip (g.drop 1)).filterMap (fun (a, b) =>
    if (a.hi - 1) / 256 = b.lo / 256 ∧ rTuple a.row ≠ rTuple b.row then some (b.lo / 256) else none)
  blocks.foldl (fun a k => a ++ (segsIn g (k * 256) (k * 256 + 256)).map (·.rule)) []

/-- Governed lines of a 64 KiB block. -/
def governedIn (g : List Seg) (k : Nat) : Nat :=
  (segsIn g (k * 256) (k * 256 + 256)).foldl (fun a x => a + (min x.hi (k * 256 + 256) - max x.lo (k * 256))) 0

def misalignedRules (g : List Seg) : List Nat :=
  g.filterMap (fun x =>
    if rTranslate x.row && (governedIn g (x.lo / 256) != 256 || governedIn g ((x.hi - 1) / 256) != 256)
    then some x.rule else none)

/-- Every physical run of a channel with its chip select and rule. -/
def allPhys (g : List Seg) : List (Nat × Nat × Nat × Nat) :=
  g.foldl (fun a x => (banksOf x.row).foldl (fun a b =>
    a ++ (physRuns x b.2).map (fun r => (b.1, r.1, r.2, x.rule))) a) []

def aliasRules : List (Nat × Nat × Nat × Nat) → List Nat
  | [] => []
  | (cs, lo, hi, r) :: t =>
    (t.foldl (fun a y =>
      if y.1 = cs ∧ y.2.1 < hi ∧ lo < y.2.2.1 then r :: y.2.2.2 :: a else a) []) ++ aliasRules t

def rangeRules (s : State) (c : Chan) (g : List Seg) : List Nat :=
  g.filterMap (fun x =>
    if (banksOf x.row).any (fun b =>
      0xFFFF < (x.hi - 1) / 256 + b.2 || capacityOf (chanAt s c) (csOf b.1) < (x.hi + b.2 * 256) * 256)
    then some x.rule else none)

def bankMismatchRules (rules : List (Nat × RuleRow)) (ch : Nat) : List Nat :=
  let b := rules.filter (fun x => rValid x.2 && rBanked x.2)
  b.foldl (fun a x => b.foldl (fun a y =>
    if rBankId x.2 = rBankId y.2 ∧ (rChannel x.2 = ch ∨ rChannel y.2 = ch) ∧
       (rChannel x.2 ≠ rChannel y.2 ∨ rTuple x.2 ≠ rTuple y.2) then x.1 :: y.1 :: a else a) a) []

def offsetRules (g : List Seg) : List Nat :=
  g.filterMap (fun x => if (banksOf x.row).any (fun b => b.2 != 0) then some x.rule else none)

def unknownTreeRules (s : State) (rules : List (Nat × RuleRow)) (ch : Nat) : List Nat :=
  rules.filterMap (fun x =>
    if rValid x.2 && rChannel x.2 == ch && (rReadMode x.2 == 1 || rReadMode x.2 == 2) &&
       (tget s.hayloft.trees (rTree x.2)).isNone then some x.1 else none)

def outsideRules (env : CompileEnv) (rules : List (Nat × RuleRow)) (ch : Nat) : List Nat :=
  rules.filterMap (fun x =>
    if rValid x.2 && rChannel x.2 == ch && 2 ^ (env.window.getD ch 32 - 8) < rBase x.2 + rLines x.2
    then some x.1 else none)

/-- The rules that one of checks 0x02 to 0x0B finds involved, for one channel. -/
def checkRules (s : State) (env : CompileEnv) (rules : List (Nat × RuleRow)) (reason : Nat) (c : Chan) : List Nat :=
  let g := segsOf rules c.val
  match reason with
  | 0x02 => outsideRules env rules c.val
  | 0x03 => tieRules rules c.val
  | 0x04 => mixedRules g
  | 0x05 => misalignedRules g
  | 0x06 => aliasRules (allPhys g)
  | 0x07 => rangeRules s c g
  | 0x08 => bankMismatchRules rules c.val
  | 0x09 => if env.xlate.getD c.val false then [] else offsetRules g
  | 0x0A =>
    let ch := chanAt s c
    if ch.eff = .off ∨ ch.eff = .held ∨ ch.vf.xlateAddr then [] else offsetRules g
  | 0x0B => unknownTreeRules s rules c.val
  | _ => []

/-- The code of a check of R126. -/
def reasonCode (reason : Nat) : U8 :=
  if reason = 0x0A ∨ reason = 0x0B ∨ reason = 0x01 then eState else eRange

/-- Checks 0x02 to 0x0B in order, over the given channels. -/
def mapChecks (s : State) (env : CompileEnv) (rules : List (Nat × RuleRow)) (cs : List Chan) : Option CompileFail :=
  ([0x02, 0x03, 0x04, 0x05, 0x06, 0x07, 0x08, 0x09, 0x0A, 0x0B] : List Nat).foldl (fun a reason =>
    match a with
    | some f => some f
    | none => failOn reason (reasonCode reason) (cs.flatMap (checkRules s env rules reason))) none

/-- Governed SEALED lines of a rule set, over all channels (R126 reason 0x0C). -/
def sealedLines (rules : List (Nat × RuleRow)) : Nat :=
  (List.range 6).foldl (fun a c =>
    (segsOf rules c).foldl (fun a g => if rReadMode g.row = 2 then a + (g.hi - g.lo) else a) a) 0

/-- The nodes a new generation adds (R128, R129). -/
def nodesAdded (s : State) (rules : List (Nat × RuleRow)) : Nat :=
  let old := reachable s.hedgerow.nodes s.hedgerow.roots
  let (roots, nodes) := buildIndex rules s.hedgerow.nodes
  ((reachable nodes roots).filter (fun n => !old.contains n)).length

/-- Checks 0x0C and 0x0D. -/
def capacityChecks (s : State) (rules : List (Nat × RuleRow)) : Option CompileFail :=
  if 40960 < sealedLines rules then some ⟨0x0C, none, eClaim, 0x20⟩
  else if 2048 < nodesUsed s.hedgerow + nodesAdded s rules then some ⟨0x0D, none, eClaim, 0x22⟩
  else none

/-- COMPILE_RESULT (R130). -/
def compileResult (f : Option CompileFail) : U40 :=
  match f with
  | none => 0
  | some f =>
    BitVec.ofNat 40 ((match f.rule with | some r => 2 ^ 39 + r * 65536 | none => 0) + f.reason * 256 + f.code.toNat)

/-- The index of a compiled table put in force (R127 steps 1 and 3): new rows and nodes, the roots; emptied rows and
unreachable nodes go. POLICY's compile (R233) does this and counts no switch (log entry 48). -/
def setIndex (table compiled : List (Nat × RuleRow)) (s : State) : State :=
  let (roots, nodes) := buildIndex compiled s.hedgerow.nodes
  let live := reachable nodes roots
  markBlocks ruleBlocks <| modHr (fun h => { h with
    table := table, index := compiled, roots := roots,
    nodes := nodes.filter (fun x => live.contains x.1) }) s

/-- The switch (R127): the new index and INDEX_GEN. -/
def switchIndex (table compiled : List (Nat × RuleRow)) (s : State) : State :=
  modHr (fun h => { h with indexGen := h.indexGen + 1 }) (setIndex table compiled s)

/-- The rows of a table after staged rows are applied; empty rows leave the table. -/
def applyRows (table staged : List (Nat × RuleRow)) : List (Nat × RuleRow) :=
  staged.foldl (fun t x => if rValid x.2 then tput t x.1 x.2 else tdel t x.1) table

/-- The rules of the given channels. -/
def rulesOf (rules : List (Nat × RuleRow)) (cs : List Nat) : List (Nat × RuleRow) :=
  rules.filter (fun x => cs.contains (rChannel x.2))

/-- Channels whose rules are in force: those without a compile fault. -/
def compiledChannels (s : State) : List Nat :=
  ([(0 : Chan), 1, 2, 3, 4, 5].filter (fun c => !(chanAt s c).compileFault)).map (·.val)

/-- The window and XLATE_ADDR in force of each channel (R126). -/
def envInForce (s : State) : CompileEnv :=
  { window := (List.range 6).map (fun c => cfgNat s (0x3010 + 0x100 * c) 2),
    xlate := (List.range 6).map (fun c => cfgNat s (0x3010 + 0x100 * c) 3 == 1) }

end Sys2Proof.Machine
end

