-- ==== Sys2Proof/Machine/Sha.lean ====
section
/-! DEFINITION. SHA-256, SHA-384 and SHA-512 (FIPS 180-4, cited by R132, R134, R328), block by block. -/
namespace Sys2Proof.Machine

/-- Round constants of SHA-256. -/
def sha256K : List (BitVec 32) :=
  [0x428a2f98, 0x71374491, 0xb5c0fbcf, 0xe9b5dba5, 0x3956c25b, 0x59f111f1, 0x923f82a4, 0xab1c5ed5] ++
  [0xd807aa98, 0x12835b01, 0x243185be, 0x550c7dc3, 0x72be5d74, 0x80deb1fe, 0x9bdc06a7, 0xc19bf174] ++
  [0xe49b69c1, 0xefbe4786, 0x0fc19dc6, 0x240ca1cc, 0x2de92c6f, 0x4a7484aa, 0x5cb0a9dc, 0x76f988da] ++
  [0x983e5152, 0xa831c66d, 0xb00327c8, 0xbf597fc7, 0xc6e00bf3, 0xd5a79147, 0x06ca6351, 0x14292967] ++
  [0x27b70a85, 0x2e1b2138, 0x4d2c6dfc, 0x53380d13, 0x650a7354, 0x766a0abb, 0x81c2c92e, 0x92722c85] ++
  [0xa2bfe8a1, 0xa81a664b, 0xc24b8b70, 0xc76c51a3, 0xd192e819, 0xd6990624, 0xf40e3585, 0x106aa070] ++
  [0x19a4c116, 0x1e376c08, 0x2748774c, 0x34b0bcb5, 0x391c0cb3, 0x4ed8aa4a, 0x5b9cca4f, 0x682e6ff3] ++
  [0x748f82ee, 0x78a5636f, 0x84c87814, 0x8cc70208, 0x90befffa, 0xa4506ceb, 0xbef9a3f7, 0xc67178f2]

/-- Round constants of SHA-384 and SHA-512. -/
def sha512K : List (BitVec 64) :=
  [0x428a2f98d728ae22, 0x7137449123ef65cd, 0xb5c0fbcfec4d3b2f, 0xe9b5dba58189dbbc, 0x3956c25bf348b538] ++
  [0x59f111f1b605d019, 0x923f82a4af194f9b, 0xab1c5ed5da6d8118, 0xd807aa98a3030242, 0x12835b0145706fbe] ++
  [0x243185be4ee4b28c, 0x550c7dc3d5ffb4e2, 0x72be5d74f27b896f, 0x80deb1fe3b1696b1, 0x9bdc06a725c71235] ++
  [0xc19bf174cf692694, 0xe49b69c19ef14ad2, 0xefbe4786384f25e3, 0x0fc19dc68b8cd5b5, 0x240ca1cc77ac9c65] ++
  [0x2de92c6f592b0275, 0x4a7484aa6ea6e483, 0x5cb0a9dcbd41fbd4, 0x76f988da831153b5, 0x983e5152ee66dfab] ++
  [0xa831c66d2db43210, 0xb00327c898fb213f, 0xbf597fc7beef0ee4, 0xc6e00bf33da88fc2, 0xd5a79147930aa725] ++
  [0x06ca6351e003826f, 0x142929670a0e6e70, 0x27b70a8546d22ffc, 0x2e1b21385c26c926, 0x4d2c6dfc5ac42aed] ++
  [0x53380d139d95b3df, 0x650a73548baf63de, 0x766a0abb3c77b2a8, 0x81c2c92e47edaee6, 0x92722c851482353b] ++
  [0xa2bfe8a14cf10364, 0xa81a664bbc423001, 0xc24b8b70d0f89791, 0xc76c51a30654be30, 0xd192e819d6ef5218] ++
  [0xd69906245565a910, 0xf40e35855771202a, 0x106aa07032bbd1b8, 0x19a4c116b8d2d0c8, 0x1e376c085141ab53] ++
  [0x2748774cdf8eeb99, 0x34b0bcb5e19b48a8, 0x391c0cb3c5c95a63, 0x4ed8aa4ae3418acb, 0x5b9cca4f7763e373] ++
  [0x682e6ff3d6b2b8a3, 0x748f82ee5defb2fc, 0x78a5636f43172f60, 0x84c87814a1f0ab72, 0x8cc702081a6439ec] ++
  [0x90befffa23631e28, 0xa4506cebde82bde9, 0xbef9a3f7b2c67915, 0xc67178f2e372532b, 0xca273eceea26619c] ++
  [0xd186b8c721c0c207, 0xeada7dd6cde0eb1e, 0xf57d4f7fee6ed178, 0x06f067aa72176fba, 0x0a637dc5a2c898a6] ++
  [0x113f9804bef90dae, 0x1b710b35131c471b, 0x28db77f523047d84, 0x32caab7b40c72493, 0x3c9ebe0a15c9bebc] ++
  [0x431d67c49c100d4c, 0x4cc5d4becb3e42b6, 0x597f299cfc657e2a, 0x5fcb6fab3ad6faec, 0x6c44198c4a475817]

/-- Initial value of SHA-256. -/
def sha256Init : List (BitVec 32) :=
  [0x6a09e667, 0xbb67ae85, 0x3c6ef372, 0xa54ff53a, 0x510e527f, 0x9b05688c, 0x1f83d9ab, 0x5be0cd19]

/-- Initial value of SHA-384. -/
def sha384Init : List (BitVec 64) :=
  [0xcbbb9d5dc1059ed8, 0x629a292a367cd507, 0x9159015a3070dd17, 0x152fecd8f70e5939] ++
  [0x67332667ffc00b31, 0x8eb44a8768581511, 0xdb0c2e0d64f98fa7, 0x47b5481dbefa4fa4]

/-- Initial value of SHA-512. -/
def sha512Init : List (BitVec 64) :=
  [0x6a09e667f3bcc908, 0xbb67ae8584caa73b, 0x3c6ef372fe94f82b, 0xa54ff53a5f1d36f1] ++
  [0x510e527fade682d1, 0x9b05688c2b3e6c1f, 0x1f83d9abfb41bd6b, 0x5be0cd19137e2179]

/-- The big-endian words of `n` bytes each of a byte string. -/
def beWords (w n : Nat) (bs : List Byte) : List (BitVec w) :=
  (List.range (bs.length / n)).map (fun i => BitVec.ofNat w (beNat ((bs.drop (i * n)).take n)))

/-- The bytes of big-endian words of `n` bytes. -/
def wordBytes {w : Nat} (n : Nat) (ws : List (BitVec w)) : List Byte := ws.flatMap (fun x => beBytes n x.toNat)

/-- The four functions that differ between the 32-bit and the 64-bit members. -/
structure ShaParams (w : Nat) where
  s0 : Nat × Nat × Nat
  s1 : Nat × Nat × Nat
  e0 : Nat × Nat × Nat
  e1 : Nat × Nat × Nat

def sha256P : ShaParams 32 := ⟨(7, 18, 3), (17, 19, 10), (2, 13, 22), (6, 11, 25)⟩
def sha512P : ShaParams 64 := ⟨(1, 8, 7), (19, 61, 6), (28, 34, 39), (14, 18, 41)⟩

/-- σ: two rotations and a shift. -/
def shaSmall {w : Nat} (k : Nat × Nat × Nat) (x : BitVec w) : BitVec w :=
  x.rotateRight k.1 ^^^ x.rotateRight k.2.1 ^^^ (x >>> k.2.2)

/-- Σ: three rotations. -/
def shaBig {w : Nat} (k : Nat × Nat × Nat) (x : BitVec w) : BitVec w :=
  x.rotateRight k.1 ^^^ x.rotateRight k.2.1 ^^^ x.rotateRight k.2.2

/-- The message schedule, newest word first. -/
def shaSchedule {w : Nat} (p : ShaParams w) : Nat → List (BitVec w) → List (BitVec w)
  | 0, ws => ws
  | n + 1, ws =>
    let g := fun i => ws.getD i 0
    shaSchedule p n ((shaSmall p.s1 (g 1) + g 6 + shaSmall p.s0 (g 14) + g 15) :: ws)

/-- One round on the eight working words. -/
def shaRound {w : Nat} (p : ShaParams w) (v : List (BitVec w)) (kw : BitVec w × BitVec w) : List (BitVec w) :=
  match v with
  | [a, b, c, d, e, f, g, h] =>
    let t1 := h + shaBig p.e1 e + ((e &&& f) ^^^ (~~~e &&& g)) + kw.1 + kw.2
    let t2 := shaBig p.e0 a + ((a &&& b) ^^^ (a &&& c) ^^^ (b &&& c))
    [t1 + t2, a, b, c, d + t1, e, f, g]
  | v => v

/-- The compression of one block. -/
def shaCompress {w : Nat} (p : ShaParams w) (ks : List (BitVec w)) (h block : List (BitVec w)) : List (BitVec w) :=
  let ws := (shaSchedule p (ks.length - 16) block.reverse).reverse
  List.zipWith (· + ·) h ((ks.zip ws).foldl (shaRound p) h)

/-- Absorbs `n` whole blocks of a byte string into a 32-bit chaining value. -/
def sha256Blocks : Nat → List (BitVec 32) → List Byte → List (BitVec 32)
  | 0, h, _ => h
  | n + 1, h, bs => sha256Blocks n (shaCompress sha256P sha256K h (beWords 32 4 (bs.take 64))) (bs.drop 64)

/-- Absorbs `n` whole blocks of a byte string into a 64-bit chaining value. -/
def sha512Blocks : Nat → List (BitVec 64) → List Byte → List (BitVec 64)
  | 0, h, _ => h
  | n + 1, h, bs => sha512Blocks n (shaCompress sha512P sha512K h (beWords 64 8 (bs.take 128))) (bs.drop 128)

/-- The padding that ends a message of `total` bytes, for blocks of `b` bytes with a length field of `l` bytes. -/
def shaPad (b l total : Nat) : List Byte :=
  0x80 :: zeros ((2 * b - 1 - l - total % b) % b) ++ beBytes l (8 * total)

/-- The end of a SHA-256 job: the buffered bytes of a message of `total` bytes, padded and absorbed. -/
def sha256End (h : List (BitVec 32)) (buf : List Byte) (total : Nat) : List Byte :=
  let m := buf ++ shaPad 64 8 total
  wordBytes 4 (sha256Blocks (m.length / 64) h m)

/-- The end of a SHA-384 or SHA-512 job: the whole 64-byte chaining value. -/
def sha512End (h : List (BitVec 64)) (buf : List Byte) (total : Nat) : List Byte :=
  let m := buf ++ shaPad 128 16 total
  wordBytes 8 (sha512Blocks (m.length / 128) h m)

def sha256 (m : List Byte) : List Byte := sha256End sha256Init m m.length
def sha384 (m : List Byte) : List Byte := (sha512End sha384Init m m.length).take 48
def sha512 (m : List Byte) : List Byte := sha512End sha512Init m m.length

/-- HMAC over a hash of block length `b` (FIPS 198-1). -/
def hmac (hash : List Byte → List Byte) (b : Nat) (key msg : List Byte) : List Byte :=
  let k := padTo (if b < key.length then hash key else key) b
  hash (k.map (· ^^^ 0x5C) ++ hash (k.map (· ^^^ 0x36) ++ msg))

def hmacSha256 (key msg : List Byte) : List Byte := hmac sha256 64 key msg
def hmacSha384 (key msg : List Byte) : List Byte := hmac sha384 128 key msg

end Sys2Proof.Machine
end

