-- ==== Sys2Proof/Machine/Hayloft.lean ====
section
/-! DEFINITION. Line trees, the node cache and the contexts of the Hayloft (chapter 04): digests, placement, lookup and
replacement. -/
namespace Sys2Proof.Machine

/-! ### Unit fault accounts (R197) -/

/-- Microseconds since the power-on reset (R20). -/
def absUs (s : State) : Nat := s.tbEpoch.toNat * 2 ^ 40 + s.tbUs.toNat

/-- A transient fault enters a unit's account; it is permanent when 16 fall within 10 s (R197). -/
def chargeHealth (s : State) (h : UnitHealth) : UnitHealth × Bool :=
  let t := absUs s
  ({ h with times := (t :: h.times).take 16 },
   match h.times[14]? with
   | some u => t - u ≤ 10000000
   | none => false)

/-- A RETIRE entry: unit and number as in R270, cause as in R202 and R215. -/
def journalRetire (src unit number cause : Nat) (s : State) : State :=
  journal src 0x0108 true (leBytes 1 unit ++ leBytes 2 number ++ leBytes 2 cause) s

/-! ### Trees (R132 to R141) -/

/-- The digest of a leaf (R132). -/
def leafDigest (tree haddr : Nat) (line : List Byte) : List Byte :=
  sha256 (0x00 :: leBytes 2 tree ++ leBytes 4 haddr ++ line)

/-- The digest of a node (R134). -/
def nodeDigest (tree level index : Nat) (slots : List Byte) : List Byte :=
  sha256 (0x01 :: leBytes 2 tree ++ leBytes 1 level ++ leBytes 4 index ++ slots)

/-- COUNT(L) (R133). -/
def levelCount (nlines level : Nat) : Nat := divUp nlines (16 ^ level)

/-- The smallest depth that covers `nlines` lines (R135). -/
def minDepth (nlines : Nat) : Nat := ((List.range 8).find? (fun d => 1 ≤ d && nlines ≤ 16 ^ d)).getD 8

/-- DEPTH and NLINES satisfy R135. -/
def treeShapeOk (depth nlines : Nat) : Bool :=
  1 ≤ nlines && nlines ≤ 2 ^ 24 && minDepth nlines ≤ depth && depth ≤ 7

/-- B(L), the first block of a level (R136). -/
def levelBlock (depth nlines level : Nat) : Nat :=
  1 + (List.range (depth - level)).foldl (fun a i => a + levelCount nlines (depth - i)) 0

/-- NBLOCKS (R136). -/
def treeBlocks (depth nlines : Nat) : Nat :=
  1 + (List.range depth).foldl (fun a i => a + levelCount nlines (i + 1)) 0

/-- Byte offset of a node in its tree area (R136). -/
def nodeOffset (t : TreeEntry) (level index : Nat) : Nat :=
  512 * (levelBlock t.depth t.nlines level + index)

/-- The 512 bytes of a tree-area header (R137). -/
def treeHeader (id : Nat) (t : TreeEntry) : List Byte :=
  leBytes 4 0x54414C48 ++ leBytes 1 1 ++ leBytes 1 t.depth ++ leBytes 2 id ++ leBytes 4 t.hbase ++
  leBytes 4 t.nlines ++ leBytes 4 (treeBlocks t.depth t.nlines) ++ zeros 12 ++ padTo t.root 32 ++ zeros 448

/-- The 64 bytes of a registry entry (R139). -/
def treeEntryBytes (t : TreeEntry) : List Byte :=
  leBytes 1 (1 + 2 * b2n t.areaDamaged) ++ leBytes 1 t.depth ++ leBytes 1 (t.channel + 16 * t.taCs) ++ [0] ++
  leBytes 4 t.hbase ++ leBytes 4 t.nlines ++ leBytes 4 t.taAddr ++ leBytes 5 t.vaultFa.toNat ++ zeros 11 ++
  padTo t.root 32

/-- A registry entry from its 64 bytes. -/
def treeEntryOf (bs : List Byte) : TreeEntry :=
  { depth := byteAt bs 1, channel := byteAt bs 2 % 8, taCs := (byteAt bs 2 / 16) % 2, hbase := fieldAt bs 4 4,
    nlines := fieldAt bs 8 4, taAddr := fieldAt bs 0x0C 4, vaultFa := BitVec.ofNat 40 (fieldAt bs 0x10 5),
    root := slice bs 0x20 32, areaDamaged := bit (byteAt bs 0) 1 }

/-- The tree covers the line (R141). -/
def treeCovers (s : State) (tree : Nat) (c : Chan) (haddr : Nat) : Bool :=
  match tget s.hayloft.trees tree with
  | none => false
  | some t => t.channel == c.val && t.hbase ≤ haddr && haddr < t.hbase + 256 * t.nlines

/-! ### The node cache (R143 to R145) -/

def cacheSet (tree level index : Nat) : Nat := (index + 64 * level + 7 * tree) % 512

/-- The way that holds an accepted node. -/
def cacheFind (s : State) (tree level index : Nat) : Option (Nat × CacheNode) :=
  let set := cacheSet tree level index
  (List.range 8).foldl (fun a w =>
    match a with
    | some _ => a
    | none =>
      match tget s.hayloft.cache (8 * set + w) with
      | some n => if n.tree = tree ∧ n.level = level ∧ n.index = index then some (8 * set + w, n) else none
      | none => none) none

/-- The leaf index of a host address in its tree. -/
def leafIndex (t : TreeEntry) (haddr : Nat) : Nat := (haddr - t.hbase) / 256

/-- The node index of a leaf's path at a level. -/
def pathIndex (leaf level : Nat) : Nat := leaf / 16 ^ level

/-- A check in progress uses the node (R143). -/
def nodeInUse (s : State) (tree level index : Nat) : Bool :=
  match tget s.hayloft.trees tree with
  | none => false
  | some t => s.hayloft.ctxs.any (fun x =>
      x.2.state == .checking && x.2.tree == tree && pathIndex (leafIndex t x.2.haddr) level == index)

/-- An accepted node enters the cache; `none` when every way of its set is in use (R143). -/
def cacheInsert (tree level index : Nat) (data : List Byte) (s : State) : Option State :=
  let set := cacheSet tree level index
  let ways := ((List.range 8).map (fun w => 8 * set + w)).filter (fun k => !s.hayloft.retiredWay.contains k)
  let free := ways.find? (fun k => (tget s.hayloft.cache k).isNone)
  let lru := ways.foldl (fun (a : Option (Nat × Nat)) k =>
    match tget s.hayloft.cache k with
    | some n =>
      if nodeInUse s n.tree n.level n.index then a else
      match a with
      | some (_, u) => if n.used < u then some (k, n.used) else a
      | none => some (k, n.used)
    | none => a) none
  let go := fun k => some (cleanWords 1 (k * 64) 64 (modHay (fun h => { h with
    cache := tput h.cache k ⟨tree, level, index, data, h.useCount⟩, useCount := h.useCount + 1 }) s))
  match free with
  | some k => go k
  | none => match lru with
    | some (k, _) => go k
    | none => none

/-- A fault of a node-cache way (R177, R178). -/
def chargeWay (k : Nat) (s : State) : State :=
  let (h, perm) := chargeHealth s ((tget s.hayloft.wayHealth k).getD {})
  let s := modHay (fun y => { y with wayHealth := tput y.wayHealth k h }) s
  if perm then journalRetire 0x17 0x06 k 0x0200 (modHay (fun y => { y with retiredWay := insertNat k y.retiredWay }) s)
  else s

/-- A way whose word has a double-bit error gives its node up (R177). -/
def wayDouble (k : Nat) (s : State) : State :=
  chargeWay k (cleanWords 1 (k * 64) 64 (modHay (fun h => { h with cache := tdel h.cache k }) s))

/-- Uses a cached node: its stored words are read, a double-bit error discards it (R177). -/
def cacheUse (tree level index : Nat) (s : State) : Option (List Byte) × State :=
  match cacheFind s tree level index with
  | none => (none, s)
  | some (k, n) =>
    let (bad, s) := readWords 1 (k * 64) 64 s
    if bad then (none, wayDouble k s)
    else (some n.data, modHay (fun h => { h with
      cache := tput h.cache k { n with used := h.useCount }, useCount := h.useCount + 1 }) s)

/-- The node is at hand for a check: in the path buffer or the cache. -/
def nodeAtHand (s : State) (x : Ctx) (level index : Nat) : Bool :=
  x.path.any (fun p => p.1 == level && p.2.1 == index) || (cacheFind s x.tree level index).isSome

/-- The bytes of a node at hand. -/
def nodeBytes (s : State) (x : Ctx) (level index : Nat) : Option (List Byte) :=
  match x.path.find? (fun p => p.1 == level && p.2.1 == index) with
  | some p => some p.2.2
  | none => (cacheFind s x.tree level index).map (·.2.data)

/-- The node the check has to fetch next, top down from the deepest ancestor present (R144). -/
def nextNode (s : State) (x : Ctx) : Option (Nat × Nat) :=
  match tget s.hayloft.trees x.tree with
  | none => none
  | some t =>
    let leaf := leafIndex t x.haddr
    let lowest := ((List.range t.depth).map (· + 1)).find? (fun l => nodeAtHand s x l (pathIndex leaf l))
    match lowest with
    | some 1 => none
    | some l => some (l - 1, pathIndex leaf (l - 1))
    | none => some (t.depth, 0)

/-- A node's bytes are accepted against its parent or ROOT (R144). -/
def nodeAccepted (s : State) (x : Ctx) (level index : Nat) (data : List Byte) : Bool :=
  match tget s.hayloft.trees x.tree with
  | none => false
  | some t =>
    let d := nodeDigest x.tree level index data
    if level = t.depth then d == t.root
    else match nodeBytes s x (level + 1) (index / 16) with
      | some p => d == slice p (32 * (index % 16)) 32
      | none => false

/-! ### Contexts (R146 to R150) -/

def spaceOf (c : Chan) (m : Cs) : Nat := 2 * c.val + m.val
def spaceChan (sp : Nat) : Chan := chanOf (sp / 2)
def spaceCs (sp : Nat) : Cs := csOf sp
def ctxSet (space line : Nat) : Nat := (line + 256 * space) % 3072

/-- The context that holds a line. -/
def findCtx (s : State) (space line : Nat) : Option (Nat × Ctx) :=
  let set := ctxSet space line
  (List.range 16).foldl (fun a w =>
    match a with
    | some _ => a
    | none =>
      match tget s.hayloft.ctxs (16 * set + w) with
      | some x => if x.space = space ∧ x.line = line then some (16 * set + w, x) else none
      | none => none) none

/-- The line state a context shows; EMPTY has no context. -/
def ctxState (s : State) (space line : Nat) : Option LineState := (findCtx s space line).map (fun x => x.2.state)

def putCtx (k : Nat) (x : Ctx) (s : State) : State :=
  modHay (fun h => { h with ctxs := tput h.ctxs k x }) s

/-- A context returns to EMPTY. -/
def dropCtx (k : Nat) (s : State) : State :=
  cleanWords 0 (k * 32) 32 (modHay (fun h => { h with ctxs := tdel h.ctxs k }) s)

/-- Every context that meets a condition returns to EMPTY. -/
def dropCtxs (p : Ctx → Bool) (s : State) : State :=
  (s.hayloft.ctxs.filter (fun x => p x.2)).foldl (fun t x => dropCtx x.1 t) s

/-- The context is the most recently used. -/
def touchCtx (k : Nat) (x : Ctx) (s : State) : State :=
  modHay (fun h => { h with ctxs := tput h.ctxs k { x with used := h.useCount }, useCount := h.useCount + 1 }) s

/-- The outcome of taking a way (R148). -/
inductive WayTaken
  | way (k : Nat)
  /-- a way of the set is FILLING or CHECKING: a line being pinned waits -/
  | waits
  /-- every way that is not retired is pinned, or none can be taken -/
  | none
deriving DecidableEq, Repr

/-- The context of smallest order of use among those that meet a condition. -/
def oldestCtx (xs : List (Nat × Ctx)) (p : Ctx → Bool) : Option Nat :=
  (xs.foldl (fun (a : Option (Nat × Nat)) x =>
    if p x.2 then
      match a with
      | some (_, u) => if x.2.used < u then some (x.1, x.2.used) else a
      | none => some (x.1, x.2.used)
    else a) none).map (·.1)

/-- The way a line takes in its set (R148). -/
def takeWay (s : State) (space line : Nat) : WayTaken :=
  let set := ctxSet space line
  let ways := ((List.range 16).map (fun w => 16 * set + w)).filter (fun k => !s.hayloft.retiredCtx.contains k)
  match ways.find? (fun k => (tget s.hayloft.ctxs k).isNone) with
  | some k => .way k
  | none =>
    let xs := ways.filterMap (fun k => (tget s.hayloft.ctxs k).map (fun x => (k, x)))
    match oldestCtx xs (fun x => x.state == .verified && !x.pin) with
    | some k => .way k
    | none =>
      match oldestCtx xs (fun x => x.state == .poisoned && !x.pin) with
      | some k => .way k
      | none => if xs.any (fun x => x.2.state == .filling || x.2.state == .checking) then .waits else .none

/-- A new FILLING context in a way. -/
def newCtx (s : State) (space line haddr tree : Nat) (pin : Bool) : Ctx :=
  { state := .filling, space := space, line := line, pin := pin, tree := tree, data := zeros 256, present := 0,
    used := s.hayloft.useCount, start := s.now, haddr := haddr }

def openCtx (k : Nat) (x : Ctx) (s : State) : State :=
  cleanWords 0 (k * 32) 32 (modHay (fun h => { h with ctxs := tput h.ctxs k x, useCount := h.useCount + 1 }) s)

/-- Lines of a channel in FILLING or CHECKING. -/
def busyLines (s : State) (c : Chan) : Nat :=
  (s.hayloft.ctxs.filter (fun x =>
    x.2.space / 2 == c.val && (x.2.state == .filling || x.2.state == .checking))).length

/-- A rung-2 credit is free for another line of the channel: 8 of its own, 16 shared (R41, R161). -/
def fillCredit (s : State) (c : Chan) : Bool :=
  busyLines s c < 8 ||
  ([(0 : Chan), 1, 2, 3, 4, 5].foldl (fun a d => a + (busyLines s d - 8)) 0) < 16

/-- A fault of a context (R178): when it becomes permanent the context leaves its set. -/
def chargeCtx (k : Nat) (s : State) : State :=
  let (h, perm) := chargeHealth s ((tget s.hayloft.ctxHealth k).getD {})
  let s := modHay (fun y => { y with ctxHealth := tput y.ctxHealth k h }) s
  if perm then
    journalRetire 0x17 0x05 k 0x0200 (dropCtx k (modHay (fun y => { y with retiredCtx := insertNat k y.retiredCtx }) s))
  else s

/-- What a double-bit error in a stored beat does (R176). -/
def ctxDouble (k : Nat) (x : Ctx) (beat : Nat) (s : State) : State :=
  let s := cleanWords 0 (k * 32 + beat) 1 s
  let miss := x.present &&& ~~~((1 : BitVec 32) <<< beat)
  let s := match x.state with
    | .filling | .checking => putCtx k { x with state := .filling, present := miss, path := [] } s
    | .pinned => putCtx k { x with state := .filling, present := 0, path := [], fetched := false } s
    | .verified | .poisoned => dropCtx k s
  chargeCtx k s

/-- Reads the stored beats `first` to `first + n - 1` of a context, in order; the answer says whether all were good. -/
def readBeats (k first : Nat) : Nat → State → Bool × State
  | 0, s => (true, s)
  | n + 1, s =>
    match tget s.hayloft.ctxs k with
    | none => (false, s)
    | some x =>
      let (r, s) := readWord 0 (k * 32 + first) s
      if r = .double then (false, ctxDouble k x first s) else readBeats k (first + 1) n s

/-- Whether every beat of a context is present. -/
def allPresent (x : Ctx) : Bool := x.present == BitVec.allOnes 32

/-- The beats `first` to `last` arrive whole with the given bytes: missing ones are stored; the answer says whether one
that was held differs (R159). -/
def captureBeats (x : Ctx) (first last : Nat) (bytes : List Byte) : Ctx × Bool :=
  (List.range (last + 1 - first)).foldl (fun (a : Ctx × Bool) i =>
    let b := first + i
    let d := slice bytes (8 * i) 8
    if a.1.present.getLsbD b then (a.1, a.2 || slice a.1.data (8 * b) 8 != d)
    else ({ a.1 with data := patch a.1.data (8 * b) d, present := a.1.present ||| ((1 : BitVec 32) <<< b) }, a.2))
    (x, false)

/-- FILLING with its last beat present goes to CHECKING (R150). -/
def fillDone (x : Ctx) : Ctx := if x.state = .filling ∧ allPresent x then { x with state := .checking } else x

/-! ### SEALED lines (R126, R147, R152, R154) -/

/-- The governed SEALED runs of a channel, by ascending rule number (R152). -/
def sealedRuns (s : State) (c : Chan) : List Seg :=
  let g := (segsOf s.hedgerow.index c.val).filter (fun x => rReadMode x.row == 2)
  (s.hedgerow.index.map (·.1)).flatMap (fun r => g.filter (fun x => x.rule == r))

/-- The governed SEALED lines of a channel in preload order: host lines. -/
def sealedHostLines (s : State) (c : Chan) : List Nat :=
  (sealedRuns s c).flatMap (fun g => (List.range (g.hi - g.lo)).map (· + g.lo))

/-- The state of a governed line's context for the bank in force. -/
def lineState (s : State) (c : Chan) (hline : Nat) : Option LineState :=
  let v := verdictAt s c hline
  ctxState s (spaceOf c v.cs) v.phys

/-- A line that failed with cause PLACEMENT (R170). -/
def placementFailed (s : State) (c : Chan) (hline : Nat) : Bool :=
  let v := verdictAt s c hline
  (chanAt s c).placeFailed.contains (v.cs.val, v.phys)

/-- The rule governs a targeted region of the activation in progress (R318 step 4). -/
def targetedRule (a : Activation) (r : RuleRow) : Bool :=
  (rBanked r && a.bits.contains (rBankId r)) || a.seedTrees.contains (rTree r)

/-- The channel preloads under an activation's hold (R318 step 4, R320 step 3). -/
def actPreloads (s : State) (c : Chan) : Bool :=
  match s.update.act with
  | some a => a.stage == .preload && s.update.affected.contains c.val && (chanAt s c).eff != .off &&
      (chanAt s c).eff != .retired
  | none => false

/-- The lines a preload of the channel pins, in order: under an activation's hold those of the targeted regions. -/
def preloadLines (s : State) (c : Chan) : List Nat :=
  match s.update.act with
  | some a =>
    if actPreloads s c then
      ((sealedRuns s c).filter (fun g => targetedRule a g.row)).flatMap
        (fun g => (List.range (g.hi - g.lo)).map (· + g.lo))
    else sealedHostLines s c
  | none => sealedHostLines s c

/-- The next line a preload reads: no context yet, or one that is FILLING (R152). -/
def nextPreload (s : State) (c : Chan) : Option Nat :=
  (preloadLines s c).find? (fun l =>
    !placementFailed s c l && (lineState s c l == none || lineState s c l == some .filling))

/-- Every governed SEALED line is PINNED, or POISONED under a rule of class 0 (R186). -/
def preloadReady (s : State) (c : Chan) : Bool :=
  (sealedHostLines s c).all (fun l =>
    lineState s c l == some .pinned ||
    ((verdictAt s c l).cls == 0 && (lineState s c l == some .poisoned || placementFailed s c l)))

/-- The pinned lines that map to each set under a rule set for the bank in force (R147): demand of one set. -/
def setDemand (s : State) (rules : List (Nat × RuleRow)) (set : Nat) : Nat :=
  [(0 : Chan), 1, 2, 3, 4, 5].foldl (fun a c =>
    (segsOf rules c.val).foldl (fun a g =>
      if rReadMode g.row = 2 then
        let (m, p) := translate g.row (bankB s g.row) g.lo
        -- lines p … p + n - 1 are consecutive: count those whose set is `set`
        let n := g.hi - g.lo
        let first := (set + 3072 - ctxSet (spaceOf c m) p) % 3072
        if first < n then a + (n - first - 1) / 3072 + 1 else a
      else a) a) 0

/-- The placement check (R147): PLACE_RESULT. -/
def placeResult (s : State) (rules : List (Nat × RuleRow)) : U32 :=
  match (List.range 3072).find? (fun set => 14 < setDemand s rules set) with
  | some set => BitVec.ofNat 32 (2 ^ 31 + set * 2 ^ 16 + min 31 (setDemand s rules set))
  | none => 0

/-! ### Busy-safe (R287, R290) -/

/-- Chip select `m` of a channel is busy-safe under the configuration in force (R287). -/
def busySafe (s : State) (c : Chan) (m : Cs) : Bool :=
  (segsOf s.hedgerow.index c.val).all (fun g =>
    let (cs, _) := translate g.row (bankB s g.row) g.lo
    cs != m || rReadMode g.row == 3 ||
    (rReadMode g.row == 2 && (List.range (g.hi - g.lo)).all (fun i => lineState s c (g.lo + i) == some .pinned))) &&
  s.hedgerow.index.all (fun x =>
    !(rChannel x.2 == c.val && rReadMode x.2 == 1) ||
    match tget s.hayloft.trees (rTree x.2 + b2n (bankB s x.2)) with
    | some t => t.taCs != m.val
    | none => true)

end Sys2Proof.Machine
end

