-- ==== Sys2Proof/Machine/Sfdp.lean ====
section
/-! DEFINITION. What the virtual flash advertises: window, ID, dummy cycles (R58, R72, R95) and the SFDP table (R84).
The bit positions inside a DWORD are those of JESD216 (log entry 12, PRESUMED). -/
namespace Sys2Proof.Machine

/-- WINDOW_LOG2 derived at a discovery (R95). -/
def derivedWindow (caps : List Nat) : Nat :=
  let c := caps.foldl max 0
  (((List.range 13).map (· + 20)).find? (fun k => c ≤ 2 ^ k)).getD 32

/-- VIRT_ID derived at a discovery (R95). -/
def derivedId (c : Channel) : List Byte :=
  match c.flash0.facts, c.flash1.facts with
  | some f, _ => padTo f.id 3
  | none, some f => padTo f.id 3
  | none, none => [0xFF, 0xFF, 0xFF]

/-- D_phys of row k of R72: the larger value of the populated chip selects. -/
def dPhys (c : Channel) (k : Nat) : Nat := (populated c).foldl (fun a f => max a (f.dphys.getD k 0)) 0

/-- ADV_DUMMY 0x00 to 0x06 (R72). -/
def advDummyOf (c : Channel) (xlate : Bool) : List U8 :=
  (List.range 7).map (fun k =>
    BitVec.ofNat 8 (max 8 (dPhys c k + (if (k = 1 ∨ k = 2) ∧ xlate then 5 else 2))))

/-- Every populated chip select has a property, and one is populated. -/
def allPopulated (c : Channel) (p : FlashFacts → Bool) : Bool :=
  !(populated c).isEmpty && (populated c).all p

/-- A time as (count, unit index): the smallest of the units in which count + 1 units reach it, 5-bit count. -/
def timeField (units : List Nat) (t : Nat) : Nat × Nat :=
  match (units.zipIdx).find? (fun x => divUp t x.1 ≤ 32) with
  | some (u, i) => (divUp t u - 1, i)
  | none => (31, units.length - 1)

/-- The multiplier field from typical to maximum: maximum = 2 × (field + 1) × typical. -/
def multField (typ mx : Nat) : Nat := min 15 (divUp mx (2 * max typ 1) - 1)

/-- The 20 DWORDs of the Basic Flash Parameter Table (R84). -/
def bfpt (c : Channel) (window : Nat) (adv : List U8) : List Nat :=
  let pop := populated c
  let e4 := allPopulated c (·.erase4K)
  let e32 := allPopulated c (·.erase32K)
  let f114 := allPopulated c (fun f => f.fast.getD 0 false)
  let f144 := allPopulated c (fun f => f.fast.getD 1 false)
  let f444 := allPopulated c (fun f => f.fast.getD 2 false)
  let qpi := allPopulated c (·.qpi)
  let dm := fun k => (adv.getD k 8).toNat
  let eTyp := max 20000 (pop.foldl (fun a f => max a f.eraseTyp) 0)
  let eMax := max 20000 (pop.foldl (fun a f => max a f.eraseMax) 0)
  let pTyp := max 20000 (pop.foldl (fun a f => max a f.progTyp) 0)
  let pMax := max 20000 (pop.foldl (fun a f => max a f.progMax) 0)
  let (ec, eu) := timeField [1000, 16000, 128000, 1000000] eTyp
  let eTypSaid := (ec + 1) * ([1000, 16000, 128000, 1000000].getD eu 1)
  let (pc, pu) := timeField [8, 64] pTyp
  let pTypSaid := (pc + 1) * ([8, 64].getD pu 1)
  let et := ec + 32 * eu
  let d1 := (if e4 then 1 else 3) + 4 + 0xE0 + 256 * (if e4 then 0x20 else 0xFF) + 65536 * (2 * 2) +
    2 ^ 21 * b2n f144 + 2 ^ 22 * b2n f114 + 0xFF800000
  let d2 := if window + 3 ≤ 31 then 2 ^ (window + 3) - 1 else 2 ^ 31 + (window + 3)
  let d3 := (if f144 then (dm 1 - 2) % 32 + 32 * 2 + 256 * 0xEC else 0) +
    (if f114 then 65536 * (dm 0 % 32) + 2 ^ 24 * 0x6C else 0)
  let d5 := 0xFFFFFFEE + 16 * b2n f444
  let d7 := 0xFFFF + (if f444 then 65536 * ((dm 2 - 2) % 32 + 32 * 2) + 2 ^ 24 * 0xEC else 0)
  let d8 := (if e4 then 12 + 256 * 0x20 else 0) + 65536 * (if e32 then 15 + 256 * 0x52 else 0)
  let d9 := 16 + 256 * 0xD8
  let d10 := multField eTypSaid eMax + 16 * (if e4 then et else 0) + 2 ^ 11 * (if e32 then et else 0) + 2 ^ 18 * et
  let d11 := multField pTypSaid pMax + 16 * 8 + 256 * (pc + 32 * pu) + 2 ^ 14 * (15 + 16) + 2 ^ 19 * (15 + 16) +
    2 ^ 24 * (ec + 32 * eu) + 2 ^ 31
  let d12 := 0xFFFFFFFF
  let d14 := 2 ^ 31 + 4 + 3
  let d15 := (if qpi then 2 + 16 * 2 else 0) + 0xFF000000
  let d16 := 2 ^ 30 + 2 ^ 12 + 128
  [d1, d2, d3, 0, d5, 0xFFFF, d7, d8, d9, d10, d11, d12, 0xFFFFFFFF, d14, d15, d16, 0, 0, 0, 0]

/-- The two DWORDs of the 4-byte Address Instruction Table: 0x0C, 0x6C, 0xEC, 0x12, 0x34 and the erase types (R84). -/
def fourByteTable (c : Channel) : List Nat :=
  let e4 := allPopulated c (·.erase4K)
  let e32 := allPopulated c (·.erase32K)
  [2 ^ 1 + 2 ^ 4 + 2 ^ 5 + 2 ^ 6 + 2 ^ 7 + 2 ^ 9 * b2n e4 + 2 ^ 10 * b2n e32 + 2 ^ 11 + 0xFFF00000,
   (if e4 then 0x21 else 0xFF) + 256 * (if e32 then 0x5C else 0xFF) + 65536 * 0xDC + 2 ^ 24 * 0xFF]

/-- The xSPI Profile 1.0 table: 8 DWORDs of space, 5 in use (R84, log entry 12). -/
def xspiTable (adv : List U8) : List Nat :=
  let dm := fun k => (adv.getD k 8).toNat % 32
  [0xEE * 256 + 2 ^ 30 + 2 ^ 31 + 2 ^ 29, 0, 0, 2 ^ 7 * dm 3,
   2 ^ 27 * dm 4 + 2 ^ 17 * dm 5 + 2 ^ 7 * dm 6, 0xFFFFFFFF, 0xFFFFFFFF, 0xFFFFFFFF]

/-- The octal DDR entry sequence: 0x06, then 0x81 with address 0x000000 and data 0xE7 (R84). -/
def octalSequence : List Byte :=
  [0x00, 0x00, 0x06, 0x01, 0x00, 0x00, 0x00, 0x00, 0x00, 0x00, 0x81, 0x05, 0xE7, 0x00, 0x00, 0x00] ++ zeros 48

/-- A parameter header. -/
def paramHeader (idLsb minor len ptr idMsb : Nat) : List Byte :=
  leBytes 1 idLsb ++ leBytes 1 minor ++ leBytes 1 1 ++ leBytes 1 len ++ leBytes 3 ptr ++ leBytes 1 idMsb

def dwords (ds : List Nat) : List Byte := ds.flatMap (leBytes 4)

/-- The SFDP table built at entry to PRELOADING; beyond it every byte reads 0xFF (R84). -/
def sfdpTable (c : Channel) (window : Nat) (adv : List U8) : List Byte :=
  let oct := allPopulated c (·.octal)
  leBytes 4 0x50444653 ++ [0x08, 0x01, 0x03, 0xFF] ++
  paramHeader 0x00 8 20 0x30 0xFF ++ paramHeader 0x84 0 2 0x80 0xFF ++
  paramHeader 0x05 0 5 0x90 0xFF ++ paramHeader 0x0A 0 8 0xB0 0xFF ++
  List.replicate 8 0xFF ++
  dwords (bfpt c window adv) ++ dwords (fourByteTable c) ++ List.replicate 8 0xFF ++
  (if oct then dwords (xspiTable adv) ++ octalSequence else List.replicate 96 0xFF)

/-- The values of R94 that take effect on entry to PRELOADING, the advertised dummy cycles and the SFDP table. -/
def fixVirtual (s : State) (c : Chan) : State :=
  let i := 0x3010 + 0x100 * c.val
  let w := cfgNat s i 2
  let x := cfgNat s i 3 == 1
  modChan c (fun ch =>
    let adv := advDummyOf ch x
    { ch with vf := { ch.vf with windowLog2 := w, xlateAddr := x, virtId := padTo (cfgBytes s i 4) 3,
                                 advDummy := adv, sfdp := sfdpTable ch w adv } }) s

end Sys2Proof.Machine
end

