-- ==== Sys2Proof/Machine/Channels.lean ====
section
/-! DEFINITION. Channel transitions, host resets, fault charging, retirement and the settling of every channel to the
state its conditions give (R184 to R216). -/
namespace Sys2Proof.Machine

def chSrc (c : Chan) : Nat := 0x10 + c.val

/-! ### The virtual flash at a hold or reset (R88, R90) -/

/-- Each physical flash returns to SPI; one that is busy follows when its operation ends. -/
def flashesToSpi (ch : Channel) : Channel :=
  let f := fun (x : Flash) => if x.busy.isNone then { x with mode := .spi } else x
  { ch with flash0 := f ch.flash0, flash1 := f ch.flash1 }

/-- A reset of the virtual flash (R82, R88). -/
def resetVf (v : VFlash) : VFlash :=
  { v with mode := .spi, subst := false, staged := false, deny := false, wel := false, rstArmed := false }

/-- The reset that a hold or a fall of PLAT_PG makes: no t_GAP follows, the flashes are returned at once (R88, R90). -/
def resetByHold (c : Chan) (s : State) : State :=
  modChan c (fun ch =>
    let busy := ch.flash0.busy.isSome || ch.flash1.busy.isSome
    flashesToSpi { ch with vf := { resetVf ch.vf with gapStart := none, syncDue := busy } }) s

/-- A host reset (R192): counted; a pending quarantine takes effect. -/
def hostReset (c : Chan) (s : State) : State :=
  modChan c (fun ch =>
    { ch with counts := { ch.counts with hostResets := satInc ch.counts.hostResets },
              quarantined := ch.quarantined || ch.quarPending, quarPending := false }) s

/-- RESET_SENSE (R192). -/
def resetSense (s : State) (c : Chan) : Nat := cfgNat s (0x3000 + 0x100 * c.val) 2

/-! ### Changing the effective state (R186, R188) -/

/-- What the flash port and the preload drop on entry into a state (R154, R184). -/
def stopReads (new : ChState) (ch : Channel) : Channel :=
  match new with
  | .off | .retired =>
    { ch with devRead := none, failedRead := none, retries := 0 }
  | .quarantined | .recovering =>
    let keep := fun (r : Option DevRead) =>
      match r with
      | some (.pinFill ..) | some (.preload ..) => none
      | r => r
    { ch with devRead := keep ch.devRead, failedRead := keep ch.failedRead }
  | _ => ch

/-- The channel enters a state: the CHANNEL_STATE entry (R431), the reset of the virtual flash in every state but
RUNNING (R88), and what entry into OFF and PRELOADING sets. -/
def setEff (c : Chan) (new : ChState) (s : State) : State :=
  let old := (chanAt s c).eff
  if old = new then s else
  let s := modChan c (fun ch => stopReads new { ch with
    eff := new, depMet := false, depWaiting := false, depArmed := false,
    preloadDone := false, relDelayDone := false,
    discovered := ch.discovered && new != .off }) s
  let s := if new = .running then s else resetByHold c s
  let s := if new = .preloading then fixVirtual s c else s
  let s := if old = .off then
      dropCtxs (fun x => x.state == .poisoned && x.space / 2 == c.val)
        (modChan c (fun ch => { ch with placeFailed := [] }) s)
    else s
  let ch := chanAt s c
  journal (chSrc c) 0x0107 false
    [BitVec.ofNat 8 (chStateCode old), BitVec.ofNat 8 (chStateCode new), BitVec.ofNat 8 (holdsByte ch),
     BitVec.ofNat 8 (disagreeCh s c)] s

/-- The request the channel acts on: a newer one waits for the chip select's rise (R15). -/
def reqInForce (ch : Channel) : Nat :=
  match ch.pendingReq with
  | some r => r.toNat
  | none => ch.reqState.toNat

/-- The conditions of R186 under which a held channel starts. -/
def canStart (s : State) (c : Chan) : Bool :=
  let ch := chanAt s c
  reqInForce ch == 3 && ch.pg && !ch.class4 && !ch.tamper && !ch.activation && !ch.takeover && !ch.quarantined &&
  !lifecycleHolds s && inService s && coresRun s && startConditions s c

/-- The state that ranks highest among those whose conditions hold (R187). -/
def rankedState (s : State) (c : Chan) : ChState :=
  let ch := chanAt s c
  if ch.eff = .retired then .retired
  else if ch.tamper then .held
  else if seqHolds ch && !(ch.seq.any (fun q => q.ordered && (ch.quarantined || ch.eff == .held))) then .recovering
  else if ch.class4 then .held
  else if ch.quarantined then .quarantined
  else if ch.takeover || lifecycleHolds s then .held
  else if reqInForce ch = 0 then .off
  else match ch.eff with
    | .preloading | .running => if !ch.pg || ch.activation || reqInForce ch != 3 || !inService s then .held else ch.eff
    | .recovering => if canStart s c then .preloading else .held
    | _ => .held

/-- The channel leaves what no longer holds. A fall of the hold out of RUNNING is a host reset where RESET_SENSE says
so, unless a quarantine made it fall or the event has been counted already (R192). -/
def settleDown (counted : Bool) (c : Chan) (s : State) : State :=
  let was := (chanAt s c).eff
  let t := rankedState s c
  if was = t then s else
  let s := if was = .running ∧ !counted ∧ t ≠ .quarantined ∧ bit (resetSense s c) 2 then hostReset c s else s
  setEff c (rankedState s c) s

/-- A held channel whose conditions hold enters PRELOADING (R186). -/
def settleUp (c : Chan) (s : State) : State :=
  if (chanAt s c).eff = .held ∧ canStart s c then setEff c .preloading s else s

/-- The dependency wait begins or ends (R238). -/
def settleWait (c : Chan) (s : State) : State :=
  let ch := chanAt s c
  let v := planOf s c
  let waits :=
    match ch.eff with
    | .held => inService s && reqInForce ch == 3 && !ch.depMet && !depsRun s (planStartDeps v)
    | .preloading => ch.preloadDone && !ch.depMet && (!depsRun s (planRelDeps v) || planGpioEn v)
    | _ => false
  if waits = ch.depWaiting then s
  else
    let s := if ch.depArmed && !waits then timeoutArrived 0xB s else s
    modChan c (fun x => { x with depWaiting := waits, depArmed := waits && planDepTimeout v != 0 }) s

/-- The read of the next line of a preload starts when the flash port is free (R152). -/
def kickPreload (c : Chan) (s : State) : State :=
  let ch := chanAt s c
  if (ch.eff = .preloading ∨ actPreloads s c) ∧ ch.devRead = none ∧ ch.failedRead = none ∧ canWork s ∧ s.pllLock then
    match nextPreload s c with
    | none => s
    | some l =>
      let v := verdictAt s c l
      let sp := spaceOf c v.cs
      let start := modChan c (fun x => { x with devRead := some (.preload v.cs v.phys (l * 256)) })
      match findCtx s sp v.phys with
      | some _ => start s
      | none =>
        match takeWay s sp v.phys with
        | .way k => start (openCtx k (newCtx s sp v.phys (l * 256) v.tree true) s)
        | .waits => s
        | .none => start s
  else s

/-- Every channel takes the state its conditions give. -/
def settleAll (s : State) : State :=
  allChans kickPreload (allChans settleWait (allChans settleUp (allChans (settleDown false) s)))

/-! ### Retirement (R202, R203, R208 to R212) -/

/-- The set in force no longer equals the newest saved set (R271). -/
def unsaved (s : State) : State := modVault (fun v => { v with configSaved := false }) s

/-- A channel becomes RETIRED: its sequence is abandoned (R203). -/
def retireChannel (c : Chan) (s : State) : State :=
  setEff c .retired (modChan c (fun ch => { ch with seq := none, takeover := false, hotPending := false }) s)

/-- RETIRE_CAUSE and RETIRE_TIME of a channel (R202, R215). -/
def setCause (c : Chan) (cause : Nat) (s : State) : State :=
  modChan c (fun ch => { ch with retireCause := BitVec.ofNat 16 cause, retireTime := s.tbUs }) s

/-- The Fallow pipeline is granted to a channel whose takeover is not complete. -/
def fallowGranted (s : State) : Bool :=
  [(0 : Chan), 1, 2, 3, 4, 5].any (fun c => (chanAt s c).hotPending || (chanAt s c).takeover)

def standbyCh (s : State) : Nat := cfgNat s 0x3600 0

/-- Filter pipeline `c` is retired (R202): the Fallow pipeline takes over, or the channel is retired. -/
def retirePipeline (c : Chan) (rule : Nat) (s : State) : State :=
  let cause := 0x1000 + rule * 256
  let s := modChan c (fun ch => { ch with pipeline := { ch.pipeline with retired := true } }) s
  let s := journalRetire (chSrc c) 0x01 c.val cause (setCause c cause (unsaved s))
  let f := s.fallow
  if f.retired ∨ f.serving.isSome then retireChannel c s
  else if fallowGranted s then
    retireChannel c (journal 0x16 0x0109 true [BitVec.ofNat 8 c.val, 3] s)
  else if f.standbySince.isSome ∧ standbyCh s = c.val then modChan c (fun ch => { ch with hotPending := true }) s
  else
    let fresh := f.standbySince.any (fun t => 25000000 ≤ s.now - t)
    modFallow (fun f => { f with standbySince := none, marchDue := !fresh })
      (modChan c (fun ch => { ch with takeover := true }) s)

/-- The Fallow pipeline leaves a channel it served and goes to its requested state (R212). -/
def fallowReturn (s : State) : State :=
  modFallow (fun f => { f with serving := none, standbySince := if f.reqState = 1 then some s.now else none }) s

/-- Host port (unit 2) or flash port (unit 3) `c` is retired, and the channel with it (R202). -/
def retirePort (c : Chan) (unit rule ball : Nat) (s : State) : State :=
  let cause := unit * 0x1000 + rule * 256 + ball
  let s := modChan c (fun ch =>
    if unit = 2 then { ch with hostPort := { ch.hostPort with retired := true } }
    else { ch with flashPort := { ch.flashPort with retired := true } }) s
  let s := journalRetire (chSrc c) unit c.val cause (setCause c cause (unsaved s))
  let s := if s.fallow.serving = some c then
      modChan c (fun ch => { ch with onFallow := false, handbackPending := false }) (fallowReturn s) else s
  retireChannel c s

/-- The Fallow pipeline is retired, and the channel it serves with it (R202). -/
def retireFallow (rule : Nat) (s : State) : State :=
  let s := modFallow (fun f => { f with retired := true, standbySince := none }) (unsaved s)
  match s.fallow.serving with
  | some c =>
    let cause := 0x4000 + rule * 256
    let s := journalRetire 0x16 0x04 0 cause (setCause c cause s)
    retireChannel c (modChan c (fun ch => { ch with onFallow := false, handbackPending := false })
      (modFallow (fun f => { f with serving := none }) s))
  | none =>
    -- a takeover it was granted for cannot complete: that channel is retired (R202, R209 step 4)
    allChans (fun c t => if (chanAt t c).hotPending || (chanAt t c).takeover then retireChannel c t else t)
      (journalRetire 0x16 0x04 0 (rule * 256) s)

/-! ### Transient faults (R195, R197, R198) -/

/-- A transient fault of the Fallow pipeline. -/
def chargeFallow (s : State) : State :=
  if s.fallow.retired then s else
  let (h, perm) := chargeHealth s s.fallow.health
  let s := modFallow (fun f => { f with health := h, transients := satInc f.transients }) s
  if perm then retireFallow 2 s else s

/-- A transient fault of the pipeline that serves the channel (R195). -/
def chargePipe (c : Chan) (s : State) : State :=
  let s := modCounts c (fun k => { k with plTransients := satInc k.plTransients }) s
  if (chanAt s c).onFallow then chargeFallow s
  else if (chanAt s c).pipeline.retired then s
  else
    let (h, perm) := chargeHealth s (chanAt s c).pipeline
    let s := modChan c (fun ch => { ch with pipeline := h }) s
    if perm then retirePipeline c 2 s else s

/-- A transient fault of the host port. -/
def chargeHostPort (c : Chan) (s : State) : State :=
  let (h, perm) := chargeHealth s (chanAt s c).hostPort
  let s := modChan c (fun ch => { ch with
    hostPort := h, counts := { ch.counts with hpTransients := satInc ch.counts.hpTransients } }) s
  if perm ∧ !(chanAt s c).hostPort.retired then retirePort c 2 2 0 s else s

/-- A transient fault of the flash port. -/
def chargeFlashPort (c : Chan) (s : State) : State :=
  let (h, perm) := chargeHealth s (chanAt s c).flashPort
  let s := modChan c (fun ch => { ch with
    flashPort := h, counts := { ch.counts with fpTransients := satInc ch.counts.fpTransients } }) s
  if perm ∧ !(chanAt s c).flashPort.retired then retirePort c 3 2 0 s else s

/-- The streak of ball faults after a command or transfer (R198): only the same ball in the next one goes on. -/
def nextStreak (b : BallStreak) (ball : Option Nat) : BallStreak :=
  match ball with
  | none => []
  | some x => [(x, (tget b x).getD 0 + 1)]

/-- A host-port ball's read-back in a command: a fault is transient; the third in a row on one ball is permanent. -/
def hostBallCheck (c : Chan) (ball : Option U8) (s : State) : State :=
  let st := nextStreak (chanAt s c).hostBalls (ball.map (·.toNat))
  let s := modChan c (fun ch => { ch with hostBalls := st }) s
  match ball with
  | none => s
  | some b =>
    let s := chargeHostPort c s
    if 3 ≤ (tget st b.toNat).getD 0 ∧ !(chanAt s c).hostPort.retired then retirePort c 2 3 b.toNat s else s

/-- The same for a flash-port ball, in a command or a device-initiated transfer. -/
def flashBallCheck (c : Chan) (ball : Option U8) (s : State) : State :=
  let st := nextStreak (chanAt s c).flashBalls (ball.map (·.toNat))
  let s := modChan c (fun ch => { ch with flashBalls := st }) s
  match ball with
  | none => s
  | some b =>
    let s := chargeFlashPort c s
    if 3 ≤ (tget st b.toNat).getD 0 ∧ !(chanAt s c).flashPort.retired then retirePort c 3 3 b.toNat s else s

end Sys2Proof.Machine
end

