-- ==== Sys2Proof/Machine/Crc.lean ====
section
/-! DEFINITION. The CRC register of a check-value unit (R484 to R487) and the fixed codes built on it. -/
namespace Sys2Proof.Machine

/-- One bit into a CRC register of `w` bits, most significant bit first; `poly` has no top bit. -/
def crcBit (w : Nat) (poly : Nat) (reg : Nat) (b : Bool) : Nat :=
  let top := bit reg (w - 1) != b
  let r := (reg * 2) % 2 ^ w
  if top then r ^^^ (poly % 2 ^ w) else r

/-- One byte into the register: least significant bit first when the input is reflected. -/
def crcByte (w poly : Nat) (refin : Bool) (reg : Nat) (b : Byte) : Nat :=
  let order := if refin then [0, 1, 2, 3, 4, 5, 6, 7] else [7, 6, 5, 4, 3, 2, 1, 0]
  order.foldl (fun r i => crcBit w poly r (b.getLsbD i)) reg

def crcBytes (w poly : Nat) (refin : Bool) (reg : Nat) (bs : List Byte) : Nat :=
  bs.foldl (crcByte w poly refin) reg

/-- The `w` bits of a number in reverse order. -/
def reflect (w v : Nat) : Nat := (List.range w).foldl (fun a i => if bit v i then a + 2 ^ (w - 1 - i) else a) 0

/-- The value of a register at the end: output reflection, then the final mask. -/
def crcEnd (w : Nat) (refout : Bool) (xorout reg : Nat) : Nat :=
  (if refout then reflect w reg else reg) ^^^ (xorout % 2 ^ w)

/-- CRC-64 of R260 over a byte string. -/
def crc64 (bs : List Byte) : Nat :=
  crcEnd 64 false (2 ^ 64 - 1) (crcBytes 64 0x42F0E1EBA9EA3693 false (2 ^ 64 - 1) bs)

/-- CRC-64 with a field address and a sequence number folded in first (R260). -/
def crc64At (fa seq : Nat) (bs : List Byte) : Nat := crc64 (leBytes 5 fa ++ leBytes 4 seq ++ bs)

/-- CRC-32C of the management link, with ALIVE folded in once more (R484, R522). -/
def crc32c (bs : List Byte) : Nat :=
  crcEnd 32 true 0xFFFFFFFF (crcBytes 32 0x1EDC6F41 true 0xFFFFFFFF bs)

end Sys2Proof.Machine
end

