-- ==== Sys2Proof/Machine/Stile.lean ====
section
/-! DEFINITION. The active-bank vector and the stile record (R311 to R315), flips (R277, R278), the start of a stile
write, and the RPMB's writability (R255). -/
namespace Sys2Proof.Machine

/-! ### The record (R312 to R314) -/

def stileKind (r : List Byte) : Nat := byteAt r 5
def stileSeq (r : List Byte) : Nat := fieldAt r 8 4
def stileTrialMs (r : List Byte) : Nat := fieldAt r 0x0C 4
def stileVector (r : List Byte) : BitVec 256 := BitVec.ofNat 256 (fieldAt r 0x10 32)
def stilePrev (r : List Byte) : BitVec 256 := BitVec.ofNat 256 (fieldAt r 0x30 32)
def stileManifestSeq (r : List Byte) : Nat := fieldAt r 0x80 4
/-- RT_TARGET; 0xFF with no record (R314). -/
def stileRtTarget (r : List Byte) : Nat := if r = [] then 0xFF else byteAt r 0x84
def stileRtPrev (r : List Byte) : Nat := if r = [] then 0xFF else byteAt r 0x85

/-- (counter, value) of each entry of COUNTERS. -/
def stileCounters (r : List Byte) : List (Nat × Nat) :=
  (List.range (byteAt r 0x86)).map (fun i => (byteAt r (0x88 + 8 * i), fieldAt r (0x88 + 8 * i + 3) 5))

/-- First RPMB unit of a stile slot (R254). -/
def stileUnit (slot : Nat) : Nat := 0x10 + 0x10 * slot

/-- A whole record for a slot: `mid` holds the bytes from MF_DIGEST to the end of COUNTERS. -/
def stileRecord (kind flags seq trialMs : Nat) (v p : BitVec 256) (mid : List Byte) (slot : Nat) : List Byte :=
  let body := leBytes 4 0x54535651 ++ leBytes 1 1 ++ leBytes 1 kind ++ leBytes 1 flags ++ [0] ++ leBytes 4 seq ++
    leBytes 4 trialMs ++ leBytes 32 v.toNat ++ leBytes 32 p.toNat ++ padTo mid 552 ++ zeros 3456
  body ++ leBytes 8 (crc64At (0xFC00000000 + stileUnit slot) seq body)

/-- The bytes of a record from MF_DIGEST to the end of COUNTERS. -/
def stileMid (r : List Byte) : List Byte := slice r 0x50 552

/-- A stile record is accepted (R314), its MAC aside. -/
def stileAccepted (slot : Nat) (r : List Byte) : Bool :=
  r.length == 4096 && fieldAt r 0 4 == 0x54535651 && byteAt r 4 == 1 && 1 ≤ stileKind r && stileKind r ≤ 6 &&
  byteAt r 6 < 2 && byteAt r 7 == 0 && byteAt r 0x87 == 0 && byteAt r 0x86 ≤ 62 &&
  allZero (slice r 0x278 3456) &&
  (List.range 62).all (fun i => allZero (slice r (0x88 + 8 * i + 1) 2) &&
    (i < byteAt r 0x86 || allZero (slice r (0x88 + 8 * i) 8))) &&
  fieldAt r 0xFF8 8 == crc64At (0xFC00000000 + stileUnit slot) (stileSeq r) (r.take 0xFF8)

/-! ### The RPMB (R254, R255) -/

/-- `n` bytes of the RPMB from a unit. -/
def rpmbRead (s : State) (unit n : Nat) : List Byte := Mem.readN 0 s.vault.rpmb.cells (unit * 256) n

/-- An authenticated write of whole units; the device's write counter rises. -/
def rpmbWrite (unit : Nat) (bs : List Byte) (s : State) : State :=
  modVault (fun v => { v with rpmb := { v.rpmb with
    cells := Mem.writeL 0 v.rpmb.cells (unit * 256) bs, writeCounter := satInc v.rpmb.writeCounter } }) s

/-- The RPMB is writable (R255). -/
def rpmbWritable (s : State) : Bool :=
  !s.vault.foreign && s.vault.counters.isSome && !s.vault.degraded &&
  s.vault.rpmb.writeCounter != BitVec.allOnes 32 && s.vault.eff != 3

/-- The slot of the newest accepted record with the record; its MAC passes unless the RPMB is foreign, and is not
checked in the degraded state (R292, R314). -/
def newestStile (s : State) : Option (Nat × List Byte) :=
  if s.vault.foreign then none else
  let r0 := rpmbRead s 0x10 4096
  let r1 := rpmbRead s 0x20 4096
  match stileAccepted 0 r0, stileAccepted 1 r1 with
  | true, true => if stileSeq r0 < stileSeq r1 then some (1, r1) else some (0, r0)
  | true, false => some (0, r0)
  | false, true => some (1, r1)
  | false, false => none

/-- The slot the next record goes to (R314). -/
def nextStileSlot (s : State) : Nat :=
  match newestStile s with
  | some (0, _) => 1
  | _ => 0

/-! ### Flips (R277, R278) -/

/-- Bit `b` of a vector inverted. -/
def flipBit (v : BitVec 256) (b : Nat) : BitVec 256 := v ^^^ ((1 : BitVec 256) <<< b)

def flipBits (v : BitVec 256) (bs : List Nat) : BitVec 256 := bs.foldl flipBit v

/-- The flips whose stile write is pending: channel and bits. -/
def pendingFlips (s : State) : List (Nat × List Nat) :=
  [(0 : Chan), 1, 2, 3, 4, 5].filterMap (fun c =>
    match (chanAt s c).seq with
    | some q => if q.tier == .flip && q.stage == .stile then some (c.val, q.bits) else none
    | none => none)

/-- The context holds a line of one of the rules, in either bank. -/
def ctxOfRules (s : State) (rules : List Nat) (x : Ctx) : Bool :=
  match physGoverning s (spaceChan x.space) (spaceCs x.space) x.line with
  | some (r, _) => rules.contains r
  | none => false

/-- Contexts of the region return to EMPTY (R174, R279 step 6). -/
def dropRegion (c : Chan) (rules : List Nat) (s : State) : State :=
  let gone := s.hayloft.ctxs.filter (fun x => x.2.space / 2 == c.val && ctxOfRules s rules x.2)
  let s := gone.foldl (fun t x => dropCtx x.1 t) s
  modChan c (fun ch => { ch with placeFailed := [] }) s

/-- A flip has taken effect on a channel: step 4 of R277. A sequence that was abandoned meanwhile has none left. -/
def flipLanded (c : Chan) (s : State) : State :=
  match (chanAt s c).seq with
  | some q =>
    if q.tier = .flip ∧ q.stage = .stile then
      let s := dropRegion c q.region s
      modVault (fun v => { v with flips := satInc v.flips })
        (modChan c (fun ch => { ch with seq := some { q with stage := .preload } }) s)
    else s
  | none => s

/-- The vector takes the flips, and each channel's sequence goes on. -/
def flipsLand (fs : List (Nat × List Nat)) (s : State) : State :=
  fs.foldl (fun t f => flipLanded (chanOf f.1) t) s

/-- Flips that the RPMB cannot take are volatile (R277): a retained STILE entry with volatile 1. -/
def volatileFlips (fs : List (Nat × List Nat)) (s : State) : State :=
  let s := setVector (fs.foldl (fun v f => flipBits v f.2) s.update.vector) s
  let s := journal 0x20 0x0601 true (leBytes 1 6 ++ leBytes 4 (stileSeq s.update.stile) ++ [1]) s
  flipsLand fs s

/-! ### Starting a stile write (R278, R315, R318 step 2, R320 step 2, R321) -/

/-- The record an activation, confirm or revert writes, with the flips it carries. -/
def actRecord (s : State) (a : Activation) (fs : List (Nat × List Nat)) (slot : Nat) : List Byte :=
  let cur := s.update.vector
  let new := s.update.stile
  let (v, p) :=
    if a.kind = 5 then (stilePrev new, cur)
    else if a.kind = 4 then (stileVector new, stilePrev new)
    else (flipBits cur a.bits, cur)
  let f := fun x => fs.foldl (fun v f => flipBits v f.2) x
  stileRecord a.kind 0 (stileSeq new + 1) (fieldAt a.draft 0 4) (f v) (f p) (a.draft.drop 4) slot

/-- The record flips alone write: kind FLIP, or in a trial a TRIAL record with FLIPPED set (R315). -/
def flipRecord (s : State) (fs : List (Nat × List Nat)) (slot : Nat) : List Byte :=
  let new := s.update.stile
  let f := fun x => fs.foldl (fun v f => flipBits v f.2) x
  if s.update.state = 6 then
    stileRecord 2 1 (stileSeq new + 1) (stileTrialMs new) (f (stileVector new)) (f (stilePrev new)) (stileMid new) slot
  else
    stileRecord 6 0 (stileSeq new + 1) 0 (f s.update.vector) s.update.vector
      (zeros 48 ++ zeros 4 ++ [0xFF, 0xFF, 0, 0] ++ zeros 496) slot

/-- The write can be made now: the vault is ONLINE with its keys loaded, the runtime and REFCLK are there (R255). -/
def rpmbReady (s : State) : Bool := canWork s && vaultOnline s && s.keys.keyState != 2

/-- A stile write starts when one is due and none is in progress. Where the RPMB is not writable a flip is volatile
at once (R277); an activation that meets that waits for STILE_WRITE_COMPLETE to fail it. -/
def kickStile (s : State) : State :=
  let fs := pendingFlips s
  let actDue := s.update.act.any (fun a => a.stage == .stile)
  if s.update.job.isSome || !canWork s then s
  else if !rpmbWritable s then
    if actDue then
      modUpd (fun u => { u with job := some ⟨(u.act.map (·.kind)).getD 0, true, [], fs⟩ }) s
    else if fs.isEmpty then s else volatileFlips fs s
  else if !rpmbReady s then s
  else match s.update.act with
    | some a =>
      if a.stage = .stile then
        modUpd (fun u => { u with job := some ⟨a.kind, false, actRecord s a fs (nextStileSlot s), fs⟩ }) s
      else if fs.isEmpty then s
      else modUpd (fun u => { u with job := some ⟨6, false, flipRecord s fs (nextStileSlot s), fs⟩ }) s
    | none =>
      if fs.isEmpty then s
      else modUpd (fun u => { u with job := some ⟨6, false, flipRecord s fs (nextStileSlot s), fs⟩ }) s

/-- What follows every command that can move a channel: states settle, a due stile write starts, and a flip that
landed lets its channel move on. -/
def finish (s : State) : State := settleAll (kickStile (settleAll s))

end Sys2Proof.Machine
end

