-- ==== Sys2Proof/Machine/Response.lean ====
section
/-! DEFINITION. What a failed line does: its record, its response class, and the tiers that follow one another
(R170 to R175, R276, R284, R319, R590). -/
namespace Sys2Proof.Machine

/-- Causes of a line failure (R170). -/
abbrev causeData : Nat := 1
abbrev causeReread : Nat := 2
abbrev causeTree : Nat := 3
abbrev causeStale : Nat := 4
abbrev causeDiverged : Nat := 5
abbrev causePlacement : Nat := 6

/-- The affected region of a failure: the rules whose lines form it (R173). -/
def regionOf (s : State) (rule : Nat) (row : RuleRow) : List Nat :=
  if rBanked row then
    (s.hedgerow.index.filter (fun x => rBanked x.2 && rBankId x.2 == rBankId row)).map (·.1)
  else [rule]

def union (a b : List Nat) : List Nat := b.foldl (fun x y => insertNat y x) a

/-- The record of a failure: counters, LAST_MISMATCH and the retained entry (R171, R172). -/
def recordFail (c : Chan) (haddr tree rule cause cls : Nat) (s : State) : State :=
  let m := leBytes 4 haddr ++ leBytes 2 tree ++ leBytes 2 rule ++ leBytes 1 cause ++ leBytes 1 cls ++ [0] ++
    leBytes 5 s.tbUs.toNat
  let s := modChan c (fun ch => { ch with
    lastMismatch := m
    counts :=
      if cause = causeStale then { ch.counts with stale := satInc ch.counts.stale }
      else if cause = causeDiverged then { ch.counts with diverged := satInc ch.counts.diverged }
      else { ch.counts with mismatch := satInc ch.counts.mismatch } }) s
  journal (chSrc c) 0x0106 true (m.take 11) s

/-- LAST_SEQ_RESULT (R294): tier ended in, code, tree. -/
def seqResult (tier : Nat) (code : U8) (tree : Nat) : U40 :=
  BitVec.ofNat 40 (tier * 2 ^ 24 + code.toNat * 2 ^ 16 + tree)

def countEscalation (s : State) : State :=
  modVault (fun v => { v with escalations := satInc v.escalations }) s

/-- The channel goes to HOLD: CLASS4 is set, its sequence ends there (R186, R276). -/
def toHold (c : Chan) (region : List Nat) (code : U8) (tree : Nat) (s : State) : State :=
  modChan c (fun ch => { ch with
    class4 := true, seq := none, holdRegion := union ch.holdRegion region
    lastSeqResult := seqResult 4 code tree }) s

/-- Operations of the vault that belong to a channel's restore end with it. -/
def dropRestoreOps (c : Chan) (s : State) : State :=
  modVault (fun v => { v with ops := v.ops.filter (fun o => o != .images c && o != .scratch c) }) s

/-- A RESTORE sequence starts, or starts again from its selection, over a region (R279). The vault being RETIRED takes
it to HOLD (R276). -/
def toRestore (c : Chan) (region : List Nat) (ordered : Bool) (tree : Nat) (s : State) : State :=
  let s := dropRestoreOps c s
  if s.vault.eff = 3 then toHold c region eRetired tree (countEscalation s)
  else
    modVault (fun v => { v with ops := v.ops ++ [.images c] })
      (modChan c (fun ch => { ch with
        seq := some { tier := .restore, stage := .select, region := region, ordered := ordered, tree := tree }
        seqProgress := 0 }) s)

/-- A FLIP sequence starts (R277 step 1), or class 3 applies in its place (R174, R276). -/
def toFlip (c : Chan) (row : RuleRow) (region : List Nat) (s : State) : State :=
  let other := rTree row + b2n (!bankB s row)
  -- a locked bit's other bank counts as not registered (R306)
  let ok := rBanked row && !s.update.locked.getLsbD (rBankId row) && (match tget s.hayloft.trees other with
    | some t => t.channel == c.val
    | none => false)
  if ok then
    modChan c (fun ch => { ch with
      seq := some { tier := .flip, stage := .stile, region := region, bits := [rBankId row], tree := rTree row } }) s
  else toRestore c region false (rTree row + b2n (bankB s row)) (countEscalation s)

/-- A failure meets a running sequence (R175, R276). -/
def joinFail (c : Chan) (q : Seq) (cls : Nat) (region : List Nat) (tree : Nat) (s : State) : State :=
  let all := union q.region region
  if cls < 2 then s
  else if cls = 4 then
    toHold c all eIntegrity tree (dropRestoreOps c (if q.stage = .preload then countEscalation s else s))
  else if q.stage = .preload then
    match q.tier with
    | .flip => toRestore c all false tree (countEscalation s)
    | _ => toHold c all eIntegrity tree (dropRestoreOps c (countEscalation s))
  else match q.tier with
    | .flip =>
      if cls = 3 then toRestore c all false tree s
      else modChan c (fun ch => { ch with seq := some { q with region := all } }) s
    | _ => toRestore c all q.ordered tree s

/-- The response class of a rule acts on its channel (R174, R186, R590). -/
def respond (c : Chan) (rule : Nat) (row : RuleRow) (tree : Nat) (s : State) : State :=
  let ch := chanAt s c
  let cls := rClass row
  let region := regionOf s rule row
  if ch.eff = .retired ∨ ch.eff = .off ∨ ch.eff = .quarantined ∨ (ch.eff = .held ∧ ch.class4) then s
  else match ch.seq with
    | some q => joinFail c q cls region tree s
    | none =>
      if cls = 1 then
        modChan c (fun x =>
          let x := { x with holdRegion := union x.holdRegion region }
          if ch.eff = .preloading then { x with quarantined := true } else { x with quarPending := true }) s
      else if cls = 2 then toFlip c row region s
      else if cls = 3 then toRestore c region false tree s
      else if cls = 4 then toHold c region eIntegrity tree s
      else s

/-! ### Reverts (R319, R320) -/

/-- The fields a REVERT record carries beside the vectors: RT_TARGET is RT_PREV, no counters (R320 step 2). -/
def revertDraft (s : State) : List Byte :=
  let r := s.update.stile
  leBytes 4 0 ++ slice r 0x50 48 ++ slice r 0x80 4 ++ leBytes 1 (stileRtPrev r) ++ leBytes 1 (stileRtTarget r) ++
    [0, 0] ++ zeros 496

/-- A revert starts: ACTIVATION on every affected channel at one instant, then its stile write (R320). -/
def startRevert (cause : U8) (s : State) : State :=
  let hit := s.update.affected
  let s := allChans (fun c t =>
    if hit.contains c.val ∧ (chanAt t c).eff ≠ .retired then modChan c (fun ch => { ch with activation := true }) t
    else t) s
  modUpd (fun u => { u with
    state := 5, trialStart := none
    act := some { stage := .stile, kind := 5, bits := u.targetBits, draft := revertDraft s, cause := cause } }) s

/-- The line belongs to a targeted BANK region of the activation or trial in hand (R319). -/
def targetedBank (s : State) (row : RuleRow) : Bool :=
  rBanked row && s.update.targetBits.contains (rBankId row)

/-- The activation in step 4 is not itself a revert. -/
def activating (s : State) : Bool :=
  match s.update.act with
  | some a => a.stage == .preload && a.kind != 5
  | none => false

/-! ### A line fails (R170, R171) -/

/-- A context becomes POISONED. -/
def poison (k : Nat) (s : State) : State :=
  modHay (fun h =>
    match tget h.ctxs k with
    | some x => { h with ctxs := tput h.ctxs k { x with state := .poisoned, path := [], used := h.useCount },
                         useCount := h.useCount + 1 }
    | none => h) s

/-- A line fails: it is POISONED (but for DIVERGED and PLACEMENT), recorded, and its rule's class applies (but for
DIVERGED). -/
def lineFail (c : Chan) (m : Cs) (pline haddr tree cause : Nat) (s : State) : State :=
  let v := verdictAt s c (haddr / 256)
  let (rule, row) := v.rule.getD (0, 0)
  let s := if cause = causeDiverged then s
    else if cause = causePlacement then
      modChan c (fun ch => { ch with placeFailed := ch.placeFailed ++ [(m.val, pline)] }) s
    else match findCtx s (spaceOf c m) pline with
      | some (k, _) => poison k s
      | none => s
  let s := recordFail c haddr tree rule cause (if cause = causeDiverged then 0 else v.cls) s
  if cause = causeDiverged ∨ v.rule = none then s
  else if targetedBank s row ∧ (activating s ∨ (s.update.state = 6 ∧ s.update.act = none)) then
    if s.update.state = 6 ∧ v.cls = 0 then s else startRevert eIntegrity s
  else respond c rule row tree s

end Sys2Proof.Machine
end

