-- ==== Sys2Proof/Machine/HostRead.lean ====
section
/-! DEFINITION. Host commands: what is common to all (R59 to R63, R87, R93, R120, R198) and the reads (R64 to R67, R155
to R161, R169). -/
namespace Sys2Proof.Machine

/-! ### What is common to every host command -/

/-- A command falls within t_GAP: 2 µs from a mode change, or until the physical flashes have followed (R86, log
entry 8). -/
def gapOpen (s : State) (c : Chan) : Bool :=
  match (chanAt s c).vf.gapStart with
  | some t => s.now < t + 50
  | none => false

/-- A device-initiated read is cut off by a host command after `beats` whole beats (R93, R164): a gap fill or pin fill
keeps those beats and is started anew later; other reads go on in the next gap. -/
def abortRead (c : Chan) (beats : Nat) (s : State) : State :=
  let ch := chanAt s c
  let keep := fun (m : Cs) (line first last : Nat) (s : State) =>
    let s := modChan c (fun x => { x with devRead := none, retries := 0 }) s
    match findCtx s (spaceOf c m) line with
    | some (k, x) =>
      if beats = 0 then s
      else
        let e := min (first + beats - 1) last
        let bytes := flashRead s c m (line * 256 + first * 8) ((e + 1 - first) * 8)
        putCtx k (fillDone (captureBeats x first e bytes).1) s
    | none => s
  match ch.devRead with
  | some (.gapFill m line first last) =>
    modCounts c (fun k => { k with gapAbort := satInc k.gapAbort }) (keep m line first last s)
  | some (.pinFill m line _) => keep m line 0 31 s
  | _ => s

/-- The command is listed for the mode state in force; in 8D-8D-8D its second byte is the complement (R59, R60). -/
def listed (s : State) (c : HostCmd) (op : Nat) (spi qpi octal : Bool) : Bool :=
  match (chanAt s c.ch).vf.mode with
  | .spi => spi
  | .qpi => qpi
  | .octal => octal && c.second == ~~~(BitVec.ofNat 8 op)

def drive (c : Chan) (bs : List Byte) (s : State) : State := modVf c (fun v => { v with driven := bs }) s

/-- An unsupported command (R61): high impedance, counted and recorded. -/
def unsupported (c : Chan) (op addr : Nat) (s : State) : State :=
  journal (chSrc c) 0x0100 false (leBytes 5 (hostWord op addr).toNat)
    (modCounts c (fun k => { k with unsup := satInc k.unsup }) (drive c [] s))

/-- The record of a twin disagreement (R121, R431): walker 0's rule and walker 1's. -/
def twinRecord (c : Chan) (word : Nat) (field : Nat) (r0 r1 : Option Nat) (s : State) : State :=
  let nr := b2n r0.isNone + 2 * b2n r1.isNone
  let s := modCounts c (fun k => { k with twinFault := satInc k.twinFault }) s
  let s := journal (chSrc c) 0x0105 true
    (leBytes 5 word ++ leBytes 2 (r0.getD 0) ++ leBytes 2 (r1.getD 0) ++ leBytes 1 field ++ leBytes 1 nr) s
  chargePipe c s

/-- The combined verdict of the two walkers (R120), with the record it makes. -/
def combine (c : Chan) (word : Nat) (t : Option TwinDiff) (v : Verdict) (s : State) : Verdict × State :=
  match t with
  | none => (v, s)
  | some d =>
    let r0 := v.rule.map (·.1)
    let r1 := if d.field.val = 2 then d.rule1.map (·.toNat) else r0
    let s' := twinRecord c word d.field.val r0 r1 s
    match d.field.val with
    | 2 => ({ v with readMode := 3, policy := 3, cls := max v.cls d.class1.val }, s')
    | 3 => ({ v with readMode := max v.readMode d.readMode1.val }, s')
    | 4 => ({ v with policy := max v.policy d.policy1.val }, s')
    | 5 => ({ v with cls := max v.cls d.class1.val }, s')
    | _ => (v, s)

/-- The chip select rises: a request that waited for it takes effect (R15, R185). -/
def csRise (c : Chan) (s : State) : State := modChan c (fun ch => { ch with csLow := false, pendingReq := none }) s

/-- A difference of the shadowing Fallow pipeline's verdict (R207). -/
def shadowCheck (c : Chan) (differs : Bool) (s : State) : State :=
  if differs ∧ !s.fallow.retired ∧ s.fallow.serving = none ∧ s.fallow.standbySince.isSome ∧ standbyCh s = c.val then
    chargeFallow (modFallow (fun f => { f with shadowDiff := satInc f.shadowDiff, standbySince := some s.now }) s)
  else s

/-- One host command from the fall of the chip select to its rise. `walks` says whether its class walks the index
(R102); `body` is what the command does when it is supported, given whether it falls within t_GAP. -/
def hostRun (c : HostCmd) (op addr : Nat) (spi qpi octal walks : Bool) (body : Bool → State → State) (s : State) :
    State :=
  let s := strike c.upsets s
  if !running (chanAt s c.ch) then finish (csRise c.ch (drive c.ch [] s))
  else
    let s := abortRead c.ch 0 s
    let gap := gapOpen s c.ch
    let armed := (chanAt s c.ch).vf.rstArmed
    let s := if gap ∧ !(op = 0x66 ∨ (op = 0x99 ∧ armed)) then
        modCounts c.ch (fun k => { k with gapViol := satInc k.gapViol }) s else s
    let ok := listed s c op spi qpi octal
    let classTwin := c.twin.any (fun d => d.field.val == 1)
    let s :=
      if !ok then unsupported c.ch op addr s
      else if classTwin then
        unsupported c.ch op addr (twinRecord c.ch (hostWord op addr).toNat 1
          (if walks then (verdictAt s c.ch (addr / 256)).rule.map (·.1) else none)
          (c.twin.bind (fun d => d.rule1.map (·.toNat))) s)
      else body gap s
    let s := modVf c.ch (fun v => { v with rstArmed := ok && !classTwin && op == 0x66 }) s
    let s := if ok ∧ walks then shadowCheck c.ch c.shadow s else s
    let s := flashBallCheck c.ch c.flashBall (hostBallCheck c.ch c.hostBall s)
    finish (csRise c.ch s)

/-! ### Reads (R64 to R67) -/

/-- What a read has done so far. -/
structure ReadRun where
  /-- bytes driven, in order -/
  bytes : List Byte := []
  /-- substitution has begun: every later byte is 0xFF (R65) -/
  subst : Bool := false
  /-- the previous line's chip select and physical line (R67) -/
  prev : Option (Cs × Nat) := none
  first : Bool := true
  noRule : Bool := false
  missed : Bool := false
  noContext : Bool := false
deriving DecidableEq, Repr

/-- The pieces of a read: line, first byte in the line, count; the window wraps (R58). -/
def readPieces (window : Nat) : Nat → Nat → Nat → List (Nat × Nat × Nat)
  | 0, _, _ => []
  | f + 1, a, n =>
    let o := a % 256
    let k := min (256 - o) n
    if n ≤ k then [(a / 256, o, k)] else (a / 256, o, k) :: readPieces window f ((a + k) % 2 ^ window) (n - k)

/-- Bytes [o, o + n) of a line served from its context; each stored beat passes the code (R155, R176). -/
def serveHayloft (k : Nat) (x : Ctx) (o n : Nat) (s : State) : Option (List Byte) × State :=
  let (ok, s) := readBeats k (o / 8) (if n = 0 then 0 else (o + n - 1) / 8 + 1 - o / 8) s
  if ok then (some (slice x.data o n), s) else (none, s)

/-- A WATCHED line captures what a command carried (R157 to R160): `got` bytes from byte `o`, the beats of `bad` left
out. Whole beats are stored or compared; of a beat carried in part only the bytes carried are compared. -/
def capture (x : Ctx) (o : Nat) (got : List Byte) : Ctx × Bool :=
  let e := o + got.length
  (List.range 32).foldl (fun (a : Ctx × Bool) b =>
    let lo := max o (8 * b)
    let hi := min e (8 * b + 8)
    if hi ≤ lo then a
    else
      let d := slice got (lo - o) (hi - lo)
      if a.1.present.getLsbD b then (a.1, a.2 || slice a.1.data lo (hi - lo) != d)
      else if hi - lo = 8 then
        ({ a.1 with data := patch a.1.data (8 * b) d, present := a.1.present ||| ((1 : BitVec 32) <<< b) }, a.2)
      else a) (x, false)

/-- The command met an unpinned SEALED line (R155): counted once, recorded the first time since the line left PINNED. -/
def sealedMiss (c : Chan) (op : Nat) (space pline haddr : Nat) (r : ReadRun) (s : State) : State :=
  let s := if r.missed then s else modCounts c (fun k => { k with sealedMiss := satInc k.sealedMiss }) s
  let key := space * 2 ^ 24 + pline
  if (chanAt s c).missLogged.contains key then s
  else journal (chSrc c) 0x0104 false (leBytes 5 (hostWord op haddr).toNat)
    (modChan c (fun ch => { ch with missLogged := insertNat key ch.missLogged }) s)

/-- The rest of a read is substituted (R65). -/
def substRest (r : ReadRun) (n : Nat) : ReadRun :=
  { r with subst := r.subst || n != 0, bytes := r.bytes ++ List.replicate n 0xFF }

/-- The bytes of a piece that come from the flash: those before the first late byte and the first bad beat, which are
counted from the start of the data phase (R65, R73). The answer is their number and whether a bad beat ended them. -/
def physGood (h : HostCmd) (done n : Nat) : Nat × Bool :=
  let l := match h.lateAt with | some i => if i < done then 0 else min n (i - done) | none => n
  match h.beatErr with
  | some i => if done ≤ i ∧ i < done + n ∧ i - done < l then (i - done, true) else (l, false)
  | none => (l, false)

/-- The flash can serve a piece in time: no gap is open, it is not busy, it is in the virtual flash's mode, and the line
follows the one before. -/
def pieceInTime (ch : Channel) (gap : Bool) (r : ReadRun) (v : Verdict) : Bool :=
  let f := flashOf ch v.cs
  !gap && f.busy.isNone && f.mode == ch.vf.mode &&
    (match r.prev with | some (m, p) => m == v.cs && (p + 1) % 2 ^ 24 == v.phys | none => true)

/-- The bytes a piece takes from the physical read: those that arrive in time and whole. -/
def physicalBytes (h : HostCmd) (gap : Bool) (r : ReadRun) (v : Verdict) (o n : Nat) (s : State) : List Byte × State :=
  if !pieceInTime (chanAt s h.ch) gap r v then ([], s)
  else
    let (g, bad) := physGood h r.bytes.length n
    let s := if bad then chargePipe h.ch (countDed 6 s) else s
    (flashRead s h.ch v.cs (v.phys * 256 + o) g, s)

/-- The bytes of a piece go out; from the first one missing on, substitution data follows. -/
def emitBytes (r : ReadRun) (bs : List Byte) (n : Nat) (s : State) : ReadRun × State :=
  let r1 := { r with bytes := r.bytes ++ bs }
  if bs.length < n then (substRest r1 (n - bs.length), s) else (r1, s)

/-- A piece served from a context. -/
def hayloftPiece (r : ReadRun) (k : Nat) (x : Ctx) (o n : Nat) (s : State) : ReadRun × State :=
  match serveHayloft k x o n s with
  | (some bs, s) => ({ r with bytes := r.bytes ++ bs }, s)
  | (none, s) => (substRest r n, s)

/-- A piece in SEALED: from a PINNED line or not at all. -/
def sealedPiece (h : HostCmd) (op : Nat) (r next : ReadRun) (v : Verdict) (line o n : Nat) (s : State) : ReadRun × State :=
  let miss := fun (s : State) =>
    (substRest { next with missed := true } n, sealedMiss h.ch op (spaceOf h.ch v.cs) v.phys (line * 256 + o) r s)
  match findCtx s (spaceOf h.ch v.cs) v.phys with
  | some (k, x) => if x.state = .pinned then hayloftPiece next k x o n s else miss s
  | none => miss s

/-- The bytes of a piece are captured in a context as they pass. -/
def takePiece (h : HostCmd) (gap : Bool) (r next : ReadRun) (v : Verdict) (o n k : Nat) (x : Ctx) (s : State) :
    ReadRun × State :=
  let (bs, s) := physicalBytes h gap r v o n s
  let (x, differs) := capture x o bs
  let s := putCtx k (fillDone x) s
  let s := if differs then lineFail h.ch v.cs v.phys x.haddr x.tree causeReread s else s
  emitBytes next bs n s

/-- A piece in VERIFIED: from a VERIFIED line, or through with a context that captures it. -/
def verifiedPiece (h : HostCmd) (gap : Bool) (r next : ReadRun) (v : Verdict) (line o n : Nat) (s : State) :
    ReadRun × State :=
  let sp := spaceOf h.ch v.cs
  match findCtx s sp v.phys with
  | some (k, x) =>
    match x.state with
    | .verified => hayloftPiece next k x o n (touchCtx k x s)
    | .poisoned => (substRest next n, s)
    | _ => takePiece h gap r next v o n k x s
  | none =>
    match takeWay s sp v.phys with
    | .way k =>
      if fillCredit s h.ch then
        let x := newCtx s sp v.phys (line * 256) v.tree false
        takePiece h gap r next v o n k x (openCtx k x s)
      else (substRest { next with noContext := true } n, s)
    | _ => (substRest { next with noContext := true } n, s)

/-- One piece of a read. -/
def readPiece (h : HostCmd) (op : Nat) (gap : Bool) (piece : Nat × Nat × Nat) (a : ReadRun × State) :
    ReadRun × State :=
  let (r, s) := a
  let (line, o, n) := piece
  if r.subst then (substRest r n, s)
  else
    let (v, ded, s) := lookup h.ch line s
    let (v, s) := if r.first then combine h.ch (hostWord op (line * 256 + o)).toNat h.twin v s else (v, s)
    let r := { r with first := false, noRule := r.noRule || (v.rule.isNone && !ded) }
    let next := { r with prev := some (v.cs, v.phys) }
    if v.readMode = 0 then let (bs, s) := physicalBytes h gap r v o n s; emitBytes next bs n s
    else if v.readMode = 2 then sealedPiece h op r next v line o n s
    else if v.readMode = 1 then verifiedPiece h gap r next v line o n s
    else (substRest next n, s)

/-- A read of `len` bytes from a host address (R64): what the host receives is in `driven`. -/
def readBody (h : HostCmd) (op addr len : Nat) (gap : Bool) (s : State) : State :=
  let w := (chanAt s h.ch).vf.windowLog2
  let (r, s) := (readPieces w (len / 256 + 2) (addr % 2 ^ w) len).foldl
    (fun a p => readPiece h op gap p a) (({} : ReadRun), s)
  let s := drive h.ch r.bytes s
  let s := if r.subst then
      modVf h.ch (fun v => { v with subst := true })
        (modCounts h.ch (fun k => { k with subst := satInc k.subst }) s) else s
  let s := if r.noRule then modCounts h.ch (fun k => { k with noRule := satInc k.noRule }) s else s
  if r.noContext then modCounts h.ch (fun k => { k with noContext := satInc k.noContext }) s else s

/-- A read command with the mode states that list it (R60). -/
def hostRead (h : HostCmd) (op : Nat) (addr : U32) (len : Nat) (spi qpi octal : Bool) (s : State) :
    Host.Outcome State Fault Refusal :=
  .next (hostRun h op addr.toNat spi qpi octal true (readBody h op addr.toNat len) s)

/-- FAST_READ 0x0B (R60, R64). -/
def execFastRead (c : HostCmd) (addr : U32) (len : Nat) (s : State) : Host.Outcome State Fault Refusal :=
  hostRead c 0x0B addr len true false false s

/-- FAST_READ_4B 0x0C (R60, R64). -/
def execFastRead4B (c : HostCmd) (addr : U32) (len : Nat) (s : State) : Host.Outcome State Fault Refusal :=
  hostRead c 0x0C addr len true false false s

/-- QUAD_OUTPUT_READ 0x6B (R60, R64). -/
def execQuadOutputRead (c : HostCmd) (addr : U32) (len : Nat) (s : State) : Host.Outcome State Fault Refusal :=
  hostRead c 0x6B addr len true false false s

/-- QUAD_OUTPUT_READ_4B 0x6C (R60, R64). -/
def execQuadOutputRead4B (c : HostCmd) (addr : U32) (len : Nat) (s : State) : Host.Outcome State Fault Refusal :=
  hostRead c 0x6C addr len true false false s

/-- QUAD_IO_READ 0xEB (R60, R64). -/
def execQuadIoRead (c : HostCmd) (addr : U32) (len : Nat) (s : State) : Host.Outcome State Fault Refusal :=
  hostRead c 0xEB addr len true true false s

/-- QUAD_IO_READ_4B 0xEC (R60, R64). -/
def execQuadIoRead4B (c : HostCmd) (addr : U32) (len : Nat) (s : State) : Host.Outcome State Fault Refusal :=
  hostRead c 0xEC addr len true true false s

/-- OCTAL_DTR_READ 0xEE-0x11 (R60, R64). -/
def execOctalDtrRead (c : HostCmd) (addr : U32) (len : Nat) (s : State) : Host.Outcome State Fault Refusal :=
  hostRead c 0xEE addr len false false true s

end Sys2Proof.Machine
end

