-- ==== Sys2Proof/Machine/Lms.lean ====
section
/-! DEFINITION. LMS verification (RFC 8554) for LMS_SHA256_M32_H20 over LMOTS_SHA256_N32_W8, as R296 uses it. -/
namespace Sys2Proof.Machine

/-- The chain of one Winternitz digit: from step `a` to step 254, `n` hashes. -/
def otsChain (pre : List Byte) (i : Nat) : Nat → Nat → List Byte → List Byte
  | 0, _, t => t
  | n + 1, a, t => otsChain pre i n (a + 1) (sha256 (pre ++ beBytes 2 i ++ beBytes 1 a ++ t))

/-- The LM-OTS public key candidate K from a signature (RFC 8554 algorithm 4b): 34 digits of 8 bits. -/
def otsCandidate (ident q : List Byte) (c : List Byte) (ys : List Byte) (msg : List Byte) : List Byte :=
  let pre := ident ++ q
  let d := sha256 (pre ++ [0x81, 0x81] ++ c ++ msg)
  let sum := d.foldl (fun a b => a + (255 - b.toNat)) 0
  let digits := d ++ beBytes 2 sum
  let zs := (List.range 34).flatMap (fun i =>
    let a := byteAt digits i
    otsChain pre i (255 - a) a (slice ys (32 * i) 32))
  sha256 (pre ++ [0x80, 0x80] ++ zs)

/-- The root from a leaf and its path (RFC 8554 algorithm 6a). -/
def lmsClimb (ident : List Byte) (node : Nat) : Nat → List Byte → List Byte → List Byte
  | 0, _, t => t
  | n + 1, path, t =>
    let sib := path.take 32
    let t := if node % 2 = 1 then sha256 (ident ++ beBytes 4 (node / 2) ++ [0x83, 0x83] ++ sib ++ t)
      else sha256 (ident ++ beBytes 4 (node / 2) ++ [0x83, 0x83] ++ t ++ sib)
    lmsClimb ident (node / 2) n (path.drop 32) t

/-- LMS verification of a message under a 56-byte public key with a 1,772-byte signature. -/
def lmsVerify (pub sig msg : List Byte) : Bool :=
  let ident := slice pub 8 16
  let q := slice sig 0 4
  if beNat (slice pub 0 4) ≠ 8 ∨ beNat (slice pub 4 4) ≠ 4 ∨ beNat (slice sig 4 4) ≠ 4 ∨
     beNat (slice sig 1128 4) ≠ 8 ∨ 2 ^ 20 ≤ beNat q then false
  else
    let k := otsCandidate ident q (slice sig 8 32) (slice sig 40 1088) msg
    let leaf := sha256 (ident ++ beBytes 4 (2 ^ 20 + beNat q) ++ [0x82, 0x82] ++ k)
    lmsClimb ident (2 ^ 20 + beNat q) 20 (slice sig 1132 640) leaf == slice pub 24 32

end Sys2Proof.Machine
end

