-- ==== Sys2Proof/Machine/P384.lean ====
section
/-! DEFINITION. Arithmetic modulo a number, the curve P-384 (SP 800-186), and ECDSA over it (FIPS 186-5), as R296, R364, R383,
R423 and R504 use them. -/
namespace Sys2Proof.Machine

/-! ### Modular arithmetic -/

/-- The bits of a number of at most `n` bits, most significant first. -/
def bitsDown (n v : Nat) : List Bool := (List.range n).map (fun i => bit v (n - 1 - i))

/-- b^e mod m for an exponent of at most `n` bits. -/
def powMod (m b n e : Nat) : Nat :=
  (bitsDown n e).foldl (fun a x => if x then a * a % m * b % m else a * a % m) (1 % m)

/-- Difference modulo m of residues. -/
def subMod (m a b : Nat) : Nat := (a + m - b) % m

/-! ### The curve -/

def p384 : Nat := 2 ^ 384 - 2 ^ 128 - 2 ^ 96 + 2 ^ 32 - 1
/-- The group order. -/
def n384 : Nat := 0xFFFFFFFFFFFFFFFFFFFFFFFFFFFFFFFFFFFFFFFFFFFFFFFFC7634D81F4372DDF581A0DB248B0A77AECEC196ACCC52973
def b384 : Nat := 0xB3312FA7E23EE7E4988E056BE3F82D19181D9C6EFE8141120314088F5013875AC656398D8A2ED19D2A85C8EDD3EC2AEF
def gx384 : Nat := 0xAA87CA22BE8B05378EB1C71EF320AD746E1D3B628BA79B9859F741E082542A385502F25DBF55296C3A545E3872760AB7
def gy384 : Nat := 0x3617DE4A96262C6F5D9E98BF9292DC29F8F41DBD289A147CE9DA3113B5F0B8C00A60B1CE1D7E819D7A431D7C90EA0E5F

/-- The inverse of a residue modulo a prime of 384 bits. -/
def invMod (m a : Nat) : Nat := powMod m (a % m) 384 (m - 2)

/-- A point in Jacobian coordinates; Z = 0 is the point at infinity. -/
structure Jac where
  x : Nat
  y : Nat
  z : Nat

def jacZero : Jac := ⟨1, 1, 0⟩

/-- Point doubling for a = −3. -/
def jacDouble (q : Jac) : Jac :=
  if q.z = 0 ∨ q.y = 0 then jacZero
  else
    let p := p384
    let d := q.z * q.z % p
    let g := q.y * q.y % p
    let be := q.x * g % p
    let al := 3 * (subMod p q.x d * ((q.x + d) % p) % p) % p
    let x := subMod p (al * al % p) (8 * be % p)
    let yz := (q.y + q.z) % p
    let z := subMod p (subMod p (yz * yz % p) g) d
    let y := subMod p (al * subMod p (4 * be % p) x % p) (8 * (g * g % p) % p)
    ⟨x, y, z⟩

/-- Point addition. -/
def jacAdd (a b : Jac) : Jac :=
  if a.z = 0 then b
  else if b.z = 0 then a
  else
    let p := p384
    let z1 := a.z * a.z % p
    let z2 := b.z * b.z % p
    let u1 := a.x * z2 % p
    let u2 := b.x * z1 % p
    let s1 := a.y * b.z % p * z2 % p
    let s2 := b.y * a.z % p * z1 % p
    if u1 = u2 then (if s1 = s2 then jacDouble a else jacZero)
    else
      let h := subMod p u2 u1
      let r := subMod p s2 s1
      let h2 := h * h % p
      let h3 := h2 * h % p
      let v := u1 * h2 % p
      let x := subMod p (subMod p (r * r % p) h3) (2 * v % p)
      let y := subMod p (r * subMod p v x % p) (s1 * h3 % p)
      ⟨x, y, a.z * b.z % p * h % p⟩

/-- k·Q for a scalar of at most 384 bits. -/
def jacMul (k : Nat) (q : Jac) : Jac :=
  (bitsDown 384 k).foldl (fun a x => if x then jacAdd (jacDouble a) q else jacDouble a) jacZero

/-- Affine coordinates; `none` at infinity. -/
def jacAffine (q : Jac) : Option (Nat × Nat) :=
  if q.z = 0 then none
  else
    let i := invMod p384 q.z
    let i2 := i * i % p384
    some (q.x * i2 % p384, q.y * i2 % p384 * i % p384)

def g384 : Jac := ⟨gx384, gy384, 1⟩

/-- The affine point lies on the curve. -/
def onCurve (x y : Nat) : Bool :=
  x < p384 && y < p384 && y * y % p384 == (subMod p384 (x * x % p384 * x % p384) (3 * x % p384) + b384) % p384

/-- A point as X then Y, 48 bytes each, big-endian (R295). -/
def pointBytes (x y : Nat) : List Byte := beBytes 48 x ++ beBytes 48 y

/-- d·G as X then Y. -/
def pubOf (d : Nat) : List Byte :=
  match jacAffine (jacMul d g384) with
  | some (x, y) => pointBytes x y
  | none => zeros 96

/-- The X coordinate of d·Q for a public key given as X then Y; `none` where the key is no point of the curve. -/
def ecdh (d : Nat) (pub : List Byte) : Option (List Byte) :=
  let x := beNat (slice pub 0 48)
  let y := beNat (slice pub 48 48)
  if !onCurve x y then none
  else (jacAffine (jacMul d ⟨x, y, 1⟩)).map (fun q => beBytes 48 q.1)

/-- ECDSA verification of a 48-byte digest (FIPS 186-5). -/
def ecdsaVerify (pub digest sig : List Byte) : Bool :=
  let x := beNat (slice pub 0 48)
  let y := beNat (slice pub 48 48)
  let r := beNat (slice sig 0 48)
  let t := beNat (slice sig 48 48)
  if r = 0 ∨ t = 0 ∨ n384 ≤ r ∨ n384 ≤ t ∨ !onCurve x y then false
  else
    let w := invMod n384 t
    let u1 := beNat digest % n384 * w % n384
    let u2 := r * w % n384
    match jacAffine (jacAdd (jacMul u1 g384) (jacMul u2 ⟨x, y, 1⟩)) with
    | some (x, _) => x % n384 == r
    | none => false

/-- ECDSA signature of a digest with a private key and a nonce k in [1, n − 1]; `none` where r or s is 0. -/
def ecdsaSign (d k : Nat) (digest : List Byte) : Option (List Byte) :=
  match jacAffine (jacMul k g384) with
  | none => none
  | some (x, _) =>
    let r := x % n384
    let t := invMod n384 k * ((beNat digest + r * d) % n384) % n384
    if r = 0 ∨ t = 0 then none else some (beBytes 48 r ++ beBytes 48 t)

end Sys2Proof.Machine
end

