-- ==== Sys2Proof/Machine/Otp.lean ====
section
/-! DEFINITION. The OTP: its bytes, burns, flag bytes, life-cycle decoding, key hashes, and the signature block that both
manifests and runtime images carry (R295, R296, R491 to R511). -/
namespace Sys2Proof.Machine

/-! ### Bytes and burns (R491, R492) -/

def otpRead (s : State) (a n : Nat) : List Byte := (List.range n).map (fun i => otpByte s (a + i))

/-- A burn sets bits and clears none. -/
def otpBurn (a : Nat) (bs : List Byte) (s : State) : State :=
  modLc (fun l => { l with otp := (bs.zipIdx).foldl (fun m x =>
    Mem.write 0 m (a + x.2) (((tget m (a + x.2)).getD 0) ||| x.1)) l.otp }) s

/-- Set, or ambiguous where that counts as set. -/
def flagSet (s : State) (a : Nat) : Bool := flagAt s a != .clear

/-- The burn of a flag byte. -/
def burnFlag (a : Nat) (s : State) : State := otpBurn a [0xFF] s

/-! ### Identity, custody, options (R491, R492, R513) -/

def uidOf (s : State) : List Byte := otpRead s 0x020 16

def wdtStart (s : State) : Bool := flagSet s 0x030
def cellArmed (s : State) : Bool := flagSet s 0x033

/-- FUSES (R513). -/
def fusesByte (s : State) : Nat :=
  b2n (wdtStart s) + 2 * custody s + 8 * b2n (cellArmed s) +
  16 * b2n ((List.range 4).any (fun i => flagAt s (0x030 + i) == .ambiguous))

/-! ### Key hashes (R509, R510) -/

def keyHash (s : State) (k : Nat) : List Byte := otpRead s (0x050 + 48 * k) 48
def keyBurned (s : State) (k : Nat) : Bool := !allZero (keyHash s k)
def keyRevoked (s : State) (k : Nat) : Bool := flagSet s (0x038 + k)

/-- A burned slot that is not revoked. -/
def keyLive (s : State) (k : Nat) : Bool := keyBurned s k && !keyRevoked s k

/-- KEY_STATUS (R512). -/
def keyStatus (s : State) : Nat :=
  (List.range 10).foldl (fun a k => a + 2 ^ k * b2n (keyBurned s k) + 2 ^ (16 + k) * b2n (keyRevoked s k)) 0

/-- The runtime counter: leading RT_COUNTER bytes that are set (R511). -/
def rtCounter (s : State) : Nat :=
  ((List.range 255).find? (fun i => !flagSet s (0x300 + i))).getD 255

/-- A raise of the runtime counter, one byte at a time (R511, R323). -/
def raiseRtCounter (v : Nat) (s : State) : State :=
  (List.range (min v 255)).foldl (fun t i => if flagSet t (0x300 + i) then t else burnFlag (0x300 + i) t) s

/-! ### DSS slots (R501) -/

def dssUsed (s : State) (k : Nat) : Bool := flagSet s (0x230 + 48 * k + 40)
def dssSpent (s : State) (k : Nat) : Bool := flagSet s (0x230 + 48 * k + 41)

/-- The slot in use: the highest one with USED set and SPENT clear. -/
def dssSlot (s : State) : Option Nat := [3, 2, 1, 0].find? (fun k => dssUsed s k && !dssSpent s k)

/-- The next unused slot: the lowest one with USED clear. -/
def dssNext (s : State) : Option Nat := [0, 1, 2, 3].find? (fun k => !dssUsed s k)

/-! ### Life cycle (R493 to R496) -/

def lcCopy (s : State) (i : Nat) : List Flag := (otpRead s (0x008 + 8 * i) 5).map flagOf

/-- The set prefixes of R493: how many of B0, B1, B2 are set, where they form a prefix. -/
def lcPrefix (fs : List Flag) : Option Nat :=
  match fs.take 3 with
  | [.clear, .clear, .clear] => some 0
  | [.set, .clear, .clear] => some 1
  | [.set, .set, .clear] => some 2
  | [.set, .set, .set] => some 3
  | _ => none

/-- A copy's state; none: invalid. -/
def lcDecode (fs : List Flag) : Option Nat :=
  match lcPrefix fs, fs.drop 3 with
  | some n, [.clear, .clear] => some n
  | some _, [.set, .clear] => some 4
  | _, _ => none

/-- The byte a transition to `t` burns. -/
def lcByte (t : Nat) : Nat := t - 1

/-- A copy fits an interrupted transition from `a` to `t` (R495). -/
def lcFits (fs : List Flag) (a t : Nat) : Bool :=
  lcDecode fs == some a || lcDecode fs == some t ||
  (fs.getD (lcByte t) .clear == .ambiguous && lcDecode (fs.set (lcByte t) .clear) == some a)

/-- What R494 and R495 find. -/
inductive LcVote
  | majority (st : Nat)
  | interrupted (t : Nat)
  | probeFailed
  | noMajority
deriving DecidableEq, Repr

def lcVote (s : State) : LcVote :=
  if fieldAt (otpRead s 0 5) 0 5 ≠ 0x5AC3A53C96 then .probeFailed
  else
    let cs := [lcCopy s 0, lcCopy s 1, lcCopy s 2]
    let ds := cs.map lcDecode
    match (List.range 5).find? (fun st => 2 ≤ (ds.filter (· == some st)).length) with
    | some st => .majority st
    | none =>
      let pairs := [(0, 1), (1, 2), (2, 3), (0, 4), (1, 4), (2, 4), (3, 4)]
      match pairs.find? (fun p => cs.all (fun c => lcFits c p.1 p.2) && ds.any (· == some p.2)) with
      | some p => .interrupted p.2
      | none => .noMajority

/-- A majority of the copies decodes to a state. -/
def lcAgrees (s : State) (t : Nat) : Bool :=
  2 ≤ ([0, 1, 2].filter (fun i => lcDecode (lcCopy s i) == some t)).length

/-- Every copy decodes to a state. -/
def lcAll (s : State) (t : Nat) : Bool := [0, 1, 2].all (fun i => lcDecode (lcCopy s i) == some t)

/-- LC_VOTE (R496). -/
def lcVoteWord (s : State) (cause : Nat) : U16 :=
  BitVec.ofNat 16 ([0, 1, 2].foldl (fun a i => a + ((lcDecode (lcCopy s i)).getD 7) * 2 ^ (4 + 4 * i)) cause)

/-! ### Signature blocks (R295, R296) -/

/-- An ECDSA signature verifies on the PKE; a retired PKE verifies none (R392). -/
def ecdsaPasses (s : State) (pub digest sig : List Byte) : Bool := !s.pke.health.retired && ecdsaVerify pub digest sig

/-- Reserved fields of a signature block are 0 and its slots are 0 to 3. -/
def sigShapeOk (g : List Byte) : Bool :=
  allZero (slice g 6 2) && allZero (slice g 0x7EC 20) && byteAt g 4 < 4 && byteAt g 5 < 4

/-- The four checks of R296, in order, on an object and its 2,048-byte signature block: the number of the first that
fails, from 1; none: accepted. -/
def sigCheck (s : State) (obj g : List Byte) : Option Nat :=
  let lms := slice g 8 56
  let pub := slice g 0x40 96
  let lk := byteAt g 4
  let ek := 4 + byteAt g 5
  let m := obj ++ slice g 0 0xA0
  if 4 ≤ lk ∨ sha384 lms ≠ keyHash s lk ∨ keyRevoked s lk then some 1
  else if 8 ≤ ek ∨ sha384 pub ≠ keyHash s ek ∨ keyRevoked s ek then some 2
  else if !lmsVerify lms (slice g 0x100 1772) m then some 3
  else if !ecdsaPasses s pub (sha384 m) (slice g 0xA0 96) then some 4
  else none

/-! ### The runtime image (R227, R324) -/

def rtSvnOf (img : List Byte) : Nat := byteAt img 5
def rtBuildOf (img : List Byte) : Nat := fieldAt img 0x0C 5
def rtCodeLen (img : List Byte) : Nat := fieldAt img 8 4

/-- The bytes of a copy as its LENGTH gives them. -/
def rtWhole (img : List Byte) : Nat := 0x40 + rtCodeLen img + 2048

end Sys2Proof.Machine
end

