-- ==== Sys2Proof/Machine/Vault.lean ====
section
/-! DEFINITION. The vault's formats: derived keys, records, the partition table, the logs and what they protect, the
configuration set (R254 to R275, R362). -/
namespace Sys2Proof.Machine

/-! ### Keys (R357, R362) -/

/-- The key of a key-store slot. -/
def slotKey (s : State) (n : Nat) : List Byte :=
  match tget s.keys.slots n with
  | some k => k.key
  | none => zeros 32

/-- A 16-byte label, ASCII and zero-padded. -/
def kdfLabel (l : String) : List Byte := padTo (l.toList.map (fun c => BitVec.ofNat 8 c.toNat)) 16

/-- The KDF in counter mode with HMAC-SHA-384 (R362): `n` bytes of output. -/
def kdf (key label context : List Byte) (n : Nat) : List Byte :=
  ((List.range (divUp n 48)).flatMap (fun i =>
    hmacSha384 key (beBytes 4 (i + 1) ++ padTo label 16 ++ [0] ++ padTo context 48 ++ beBytes 4 (8 * n)))).take n

/-- The vault's record I/O and RPMB access run: ONLINE, keys not ABSENT, runtime and REFCLK there (R252, R369). -/
def vaultReady (s : State) : Bool := canWork s && vaultOnline s && s.keys.keyState != 2

/-! ### The user area (R28, R264) -/

/-- The field address of a sector (R28). -/
def sectorFa (n : Nat) : Nat := 0x8000000000 + n

def userRead (s : State) (sector n : Nat) : List Byte := Mem.readN 0 s.vault.user (sector * 512) n

def userWrite (sector : Nat) (bs : List Byte) (s : State) : State :=
  modVault (fun v => { v with user := Mem.writeL 0 v.user (sector * 512) bs }) s

/-- A partition: its type, first sector and length in sectors. -/
structure Part where
  kind : Nat
  start : Nat
  sectors : Nat
deriving DecidableEq, Repr

/-- The six ENTRIES of a partition table. -/
def partsOf (es : List Byte) : List Part :=
  (List.range 6).map (fun i => ⟨byteAt es (16 * i), fieldAt es (16 * i + 4) 4, fieldAt es (16 * i + 8) 4⟩)

def partsBytes (ps : List Part) : List Byte :=
  ps.flatMap (fun p => leBytes 1 p.kind ++ zeros 3 ++ leBytes 4 p.start ++ leBytes 4 p.sectors ++ zeros 4)

/-- A layout satisfies R264; partitions lie in the user area. -/
def layoutOk (user : Nat) (es : List Byte) : Bool :=
  let ps := partsOf es
  (List.range 6).all (fun i =>
    allZero (slice es (16 * i + 1) 3) && allZero (slice es (16 * i + 12) 4)) &&
  (List.range 6).all (fun k => (ps.filter (fun p => p.kind == k + 1)).length == 1) &&
  ps.all (fun p => p.start % 8 == 0 && 2048 ≤ p.start && p.start + p.sectors ≤ user &&
    ps.all (fun q => q.kind == p.kind || p.start + p.sectors ≤ q.start || q.start + q.sectors ≤ p.start))

/-- The default layout (R265). -/
def defaultLayout (user : Nat) : List Part :=
  let tree := user / 8 / 2048 * 2048
  [⟨1, 2048, 131072⟩, ⟨6, 133120, 2048⟩, ⟨4, 135168, 131072⟩, ⟨5, 266240, 524288⟩, ⟨3, 790528, tree⟩,
   ⟨2, 790528 + tree, user - (790528 + tree)⟩]

/-- A table copy in a sector is accepted (R264). -/
def tableAccepted (s : State) (sector : Nat) : Option (Nat × List Part) :=
  let b := userRead s sector 512
  if fieldAt b 0 4 = 0x54505651 ∧ byteAt b 4 = 1 ∧ byteAt b 5 = 6 ∧ fieldAt b 8 5 = s.vault.userSectors.toNat ∧
     allZero (slice b 0x0D 19) ∧ allZero (slice b 0x80 376) ∧ layoutOk s.vault.userSectors.toNat (slice b 0x20 96) ∧
     fieldAt b 0x1F8 8 = crc64At (sectorFa sector) 0 (b.take 0x1F8)
  then some (fieldAt b 6 2, partsOf (slice b 0x20 96)) else none

/-- The partition table in force: FORMAT_SEQ and the partitions. -/
def partTable (s : State) : Option (Nat × List Part) :=
  match tableAccepted s 0, tableAccepted s 1 with
  | some a, some b => if a.1 < b.1 then some b else some a
  | some a, none => some a
  | none, b => b

/-- The partition of a type. -/
def partOf (s : State) (kind : Nat) : Option Part :=
  match partTable s with
  | some (_, ps) => ps.find? (fun p => p.kind == kind)
  | none => none

def formatSeq (s : State) : Nat := match partTable s with | some (f, _) => f | none => 0

/-- A table sector for a layout. -/
def tableSector (sector fseq user : Nat) (ps : List Part) : List Byte :=
  let b := leBytes 4 0x54505651 ++ [1, 6] ++ leBytes 2 fseq ++ leBytes 5 user ++ zeros 19 ++
    padTo (partsBytes ps) 96 ++ zeros 376
  b ++ leBytes 8 (crc64At (sectorFa sector) 0 b)

/-! ### Records (R260 to R263) -/

def recType (h : List Byte) : Nat := byteAt h 4
def recFlags (h : List Byte) : Nat := byteAt h 5
def recLength (h : List Byte) : Nat := fieldAt h 8 5
def recSeq (h : List Byte) : Nat := fieldAt h 0x10 4

/-- Bytes a record takes on the medium. -/
def recSize (length : Nat) : Nat := roundUp (0x78 + length) 4096

/-- The partition of a record type (R263). -/
def recPart : Nat → Nat
  | 1 => 1 | 2 => 2 | 3 => 2 | 4 => 2 | 5 => 4 | 6 => 5 | _ => 6

/-- The bytes of TYPE_FIELDS a type uses: (offset in the record, size) (R270 to R275, R301). -/
def recUsed : Nat → List (Nat × Nat)
  | 2 => [(0x14, 2), (0x18, 40)]
  | 4 => [(0x14, 6), (0x1C, 5)]
  | 5 => [(0x14, 2), (0x18, 5), (0x20, 5), (0x28, 6)]
  | 6 => [(0x14, 2), (0x18, 5), (0x20, 2)]
  | 7 => [(0x14, 2), (0x18, 4), (0x20, 32)]
  | _ => []

/-- Reserved fields of a header are 0. -/
def recReservedOk (h : List Byte) : Bool :=
  recFlags h < 4 && allZero (slice h 0x0D 3) &&
  (List.range 44).all (fun i =>
    (recUsed (recType h)).any (fun u => u.1 ≤ 0x14 + i && 0x14 + i < u.1 + u.2) || byteAt h (0x14 + i) == 0)

/-- LENGTH is consistent with the type. -/
def recLengthOk (h : List Byte) : Bool :=
  let n := recLength h
  match recType h with
  | 2 => n == 256 * fieldAt h 0x1C 4
  | 3 => 2112 < n && n ≤ 71744 && (n - 2112) % 272 == 0
  | 4 => if fieldAt h 0x18 2 = 0xFFFF then n == 40 else n ≤ 0x100000
  | 5 => if byteAt h 0x15 = 1 then n == 288 else n == 0
  | 6 => 1 ≤ fieldAt h 0x14 2 && fieldAt h 0x14 2 ≤ 512 && n == 32 * fieldAt h 0x14 2
  | 7 => n == 2 ^ byteAt h 0x15
  | _ => n ≤ 0x100000000

/-- Check 1 of R261 on a header. -/
def recHeadOk (s : State) (h : List Byte) : Bool :=
  fieldAt h 0 4 == 0x44525651 && 1 ≤ recType h && recType h ≤ 7 && fieldAt h 6 2 == formatSeq s && recReservedOk h

/-- Check 2 of R261 on a header at a sector. -/
def recFits (s : State) (sector : Nat) (h : List Byte) : Bool :=
  recLengthOk h &&
  (match partOf s (recPart (recType h)) with
   | some p => p.start ≤ sector && sector + recSize (recLength h) / 512 ≤ p.start + p.sectors
   | none => false)

/-- The sections of a CONFIG_SET body: kind and data; none where it is not a sequence of whole sections. -/
def cfgSections : Nat → List Byte → Option (List (Nat × List Byte))
  | 0, _ => none
  | f + 1, b =>
    if b.isEmpty then some []
    else
      let n := fieldAt b 4 4
      let all := 8 + roundUp n 8
      if b.length < all then none
      else match cfgSections f (b.drop all) with
        | some t => some ((byteAt b 0, slice b 8 n) :: t)
        | none => none

/-- A CONFIG_SET body has every kind once and no other (R270). -/
def cfgBodyOk (b : List Byte) : Bool :=
  match cfgSections (b.length + 1) b with
  | some t => t.length == 5 && (List.range 5).all (fun k => t.any (fun x => x.1 == k + 1))
  | none => false

/-- The body of a record as stored. -/
def recStored (s : State) (sector : Nat) (h : List Byte) : List Byte :=
  (userRead s sector (0x40 + recLength h)).drop 0x40

/-- The initial counter block of an ENCRYPTED body (R260). -/
def recIv (sector seq : Nat) : List Byte := leBytes 5 (sectorFa sector) ++ leBytes 4 seq ++ zeros 3 ++ beBytes 4 1

/-- The body of a record in plain. -/
def recBody (s : State) (sector : Nat) : List Byte :=
  let h := userRead s sector 64
  let b := recStored s sector h
  if bit (recFlags h) 1 then aesCtr (slotKey s 6) 32 (recIv sector (recSeq h)) b else b

/-- The checks of R261 in order on the record at a sector; `none`: accepted. -/
def recCheck (s : State) (sector : Nat) : Option U8 :=
  let h := userRead s sector 64
  if !recHeadOk s h then some eRange
  else if recType h = 1 ∧ recFits s sector h ∧ !cfgBodyOk (recStored s sector h) then some eRange
  else if !recFits s sector h then some eLength
  else
    let n := 0x40 + recLength h
    let all := userRead s sector (n + 56)
    let mac := slice all n 48
    if fieldAt all (n + 48) 8 ≠ crc64At (sectorFa sector) (recSeq h) (all.take (n + 48)) then some eIntegrity
    else if s.vault.degraded then (if bit (recFlags h) 1 then some eAuth else none)
    else if bit (recFlags h) 0 then some eAuth
    else if mac ≠ hmacSha384 (slotKey s 5) (all.take n) then some eAuth
    else none

/-- A rejected record (R261). -/
def recReject (sector : Nat) (code : U8) (s : State) : State :=
  let h := userRead s sector 64
  journal 0x20 0x0201 false (leBytes 1 (recType h) ++ [code] ++ leBytes 5 (sectorFa sector))
    (modVault (fun v => { v with recRejects := satInc v.recRejects }) s)

/-- A whole record for a sector (R260). -/
def recBytes (s : State) (sector typ seq : Nat) (tf body : List Byte) (encrypt : Bool) : List Byte :=
  let enc := encrypt && !s.vault.degraded
  let stored := if enc then aesCtr (slotKey s 6) 32 (recIv sector seq) body else body
  let b := leBytes 4 0x44525651 ++ leBytes 1 typ ++ leBytes 1 (b2n s.vault.degraded + 2 * b2n enc) ++
    leBytes 2 (formatSeq s) ++ leBytes 5 body.length ++ zeros 3 ++ leBytes 4 seq ++ padTo tf 44 ++ stored
  let m := b ++ (if s.vault.degraded then zeros 48 else hmacSha384 (slotKey s 5) b)
  padTo (m ++ leBytes 8 (crc64At (sectorFa sector) seq m)) (recSize body.length)

/-! ### Logs (R267 to R269) -/

/-- The records found in a partition: first sector, type, SEQUENCE, bytes. -/
def recsIn (s : State) (kind : Nat) : List (Nat × (Nat × Nat × Nat)) :=
  s.vault.records.filter (fun r => recPart r.2.1 == kind)

/-- The newest of some records by SEQUENCE. -/
def newestRec (rs : List (Nat × (Nat × Nat × Nat))) : Option (Nat × (Nat × Nat × Nat)) :=
  rs.foldl (fun a r =>
    match a with
    | none => some r
    | some b => if b.2.2.1 < r.2.2.1 then some r else a) none

/-- Inserts a record in descending SEQUENCE. -/
def insertRec (r : Nat × (Nat × Nat × Nat)) : List (Nat × (Nat × Nat × Nat)) → List (Nat × (Nat × Nat × Nat))
  | [] => [r]
  | q :: qs => if q.2.2.1 ≤ r.2.2.1 then r :: q :: qs else q :: insertRec r qs

def sortRecs (rs : List (Nat × (Nat × Nat × Nat))) : List (Nat × (Nat × Nat × Nat)) := rs.foldl (fun a r => insertRec r a) []

/-- The newest accepted configuration set: its first sector (R234, R267). -/
def newestConfig (s : State) : Option Nat :=
  ((sortRecs (recsIn s 1)).find? (fun r => recCheck s r.1 == none)).map (·.1)

/-- The candidates for a tree in descending SEQUENCE (R280). -/
def imageCands (s : State) (t : TreeEntry) (tree : Nat) : List Nat :=
  ((sortRecs (s.vault.records.filter (fun r => r.2.1 == 2))).filter (fun r =>
    let h := userRead s r.1 64
    fieldAt h 0x14 2 == tree && fieldAt h 0x18 4 == t.hbase && fieldAt h 0x1C 4 == t.nlines &&
      slice h 0x20 32 == padTo t.root 32)).map (·.1)

/-- The record R280 selects for a registered tree, without recording the rejections. -/
def imageSelected (s : State) (tree : Nat) : Option Nat :=
  match tget s.hayloft.trees tree with
  | some t => (imageCands s t tree).find? (fun k => recCheck s k == none)
  | none => none

/-- Selection with its records of rejection (R280): the sector, or the code reported. -/
def selectImage (tree : Nat) (s : State) : Option Nat × U8 × State :=
  match tget s.hayloft.trees tree with
  | none => (none, eEmpty, s)
  | some t =>
    (imageCands s t tree).foldl (fun (a : Option Nat × U8 × State) k =>
      match a.1 with
      | some _ => a
      | none =>
        match recCheck s k with
        | none => (some k, eOk, a.2.2)
        | some c => (none, c, recReject k c a.2.2)) (none, eEmpty, s)

/-- The trees of the IMAGE records R267 protects. -/
def protectedTrees (s : State) : List Nat := s.hayloft.trees.map (·.1)

/-- The protected records of R267, by first sector. -/
def protectedRecs (s : State) : List Nat :=
  (match newestConfig s with | some k => [k] | none => []) ++
  (protectedTrees s).filterMap (imageSelected s) ++
  (s.vault.records.filterMap (fun r =>
    if r.2.1 = 3 then
      if (s.update.state ≠ 0 ∧ r.2.2.1 = s.update.manifestSeq.toNat) ∨
         (s.update.stile ≠ [] ∧ r.2.2.1 = stileManifestSeq s.update.stile) then some r.1 else none
    else if r.2.1 = 4 then
      let h := userRead s r.1 64
      let part := fieldAt h 0x18 2
      -- a part that is EMPTY has released its records (R303)
      if s.update.state ≠ 0 ∧ fieldAt h 0x14 4 = s.update.manifestSeq.toNat ∧
         (part = 0xFFFF ∨ ((tget s.update.partState part).getD 0) ≠ 0) then some r.1 else none
    else none))

/-- The place of the next record of a log: after its newest record, or at its start when it does not fit (R267);
STAGING does not wrap (R273). -/
def nextPlace (s : State) (kind size : Nat) : Option Nat :=
  match partOf s kind with
  | none => none
  | some p =>
    let n := size / 512
    let at_ := match newestRec (recsIn s kind) with
      | some r => r.1 + r.2.2.2 / 512
      | none => p.start
    if at_ + n ≤ p.start + p.sectors then some at_
    else if kind = 4 ∨ p.sectors < n then none
    else some p.start

/-- A record's sectors meet a range. -/
def recMeets (r : Nat × (Nat × Nat × Nat)) (at_ n : Nat) : Bool := r.1 < at_ + n && at_ < r.1 + r.2.2.2 / 512

/-- The code with which a record write is refused before anything is written (R262, R264, R267, R273). -/
def placeRecord (s : State) (typ length : Nat) : Except U8 Nat :=
  if s.vault.nextSequence = 0 then .error eRange
  else match nextPlace s (recPart typ) (recSize length) with
    | none => .error eRefused
    | some k =>
      let ps := protectedRecs s
      if (s.vault.records.filter (fun r => recMeets r k (recSize length / 512))).any (fun r => ps.contains r.1)
      then .error eRefused else .ok k

/-- The record enters the medium and the runtime's table at a sector. -/
def putRecord (typ : Nat) (tf body : List Byte) (encrypt : Bool) (k : Nat) (s : State) : State :=
  let seq := s.vault.nextSequence.toNat
  let size := recSize body.length
  let bs := recBytes s k typ seq tf body encrypt
  let s := userWrite k bs s
  modVault (fun v => { v with
    records := tput (v.records.filter (fun r => !recMeets r k (size / 512))) k (typ, seq, size)
    nextSequence := v.nextSequence + 1 }) s

/-- A record is written (R262, R267, R269): its first sector and the state after, or the code. -/
def storeRecord (typ : Nat) (tf body : List Byte) (encrypt : Bool) (s : State) : Except U8 (Nat × State) :=
  if !s.vault.scanDone then .error eNotReady
  else match placeRecord s typ body.length with
    | .error c => .error c
    | .ok k => .ok (k, putRecord typ tf body encrypt k s)

/-- Sectors a partition holds free (R294): those that no record, tree copy or occupied slot takes. -/
def partFree (s : State) (kind : Nat) : Nat :=
  match partOf s kind with
  | none => 0
  | some p =>
    let used := if kind = 3 then
        s.hayloft.trees.foldl (fun a t =>
          if t.2.vaultFa = 0 then a else a + treeBlocks t.2.depth t.2.nlines) 0
      else (recsIn s kind).foldl (fun a r => a + r.2.2.2 / 512) 0
    p.sectors - used

/-! ### Counters (R257, R259) -/

/-- A counter block (R257). -/
def counterBlock (unit seq : Nat) (vs : List Nat) : List Byte :=
  let b := leBytes 4 seq ++ zeros 4 ++ padTo (vs.flatMap (fun v => leBytes 5 v ++ zeros 3)) 496
  b ++ leBytes 8 (crc64At (0xFC00000000 + unit) seq b)

/-- Both copies of the counter block are written: A, then B (R259). -/
def putCounters (seq : Nat) (vs : List Nat) (s : State) : State :=
  let s := rpmbWrite 3 (counterBlock 3 seq vs) (rpmbWrite 1 (counterBlock 1 seq vs) s)
  modVault (fun v => { v with counters := some vs, counterSeq := BitVec.ofNat 32 seq }) s

/-! ### The RPMB's key and header (R254, R255) -/

/-- The header unit for a DSS slot. -/
def rpmbHeader (dss : Nat) : List Byte :=
  let b := leBytes 4 0x42525651 ++ [1, BitVec.ofNat 8 dss] ++ zeros 242
  b ++ leBytes 8 (crc64At 0xFC00000000 0 b)

/-- The RPMB is found with the keys loaded: an unprogrammed key is programmed in the Integrator and Fielded states and the
header written; another key or another slot's header makes the RPMB foreign (R255). -/
def rpmbAttach (s : State) : State :=
  match dssSlot s with
  | none => s
  | some k =>
    if s.keys.keyState ≠ 1 ∨ s.vault.eff = 3 then s
    else if s.vault.rpmb.key.isEmpty then
      if s.lc.state = 1 ∨ s.lc.state = 2 then
        rpmbWrite 0 (rpmbHeader k)
          (modVault (fun v => { v with foreign := false, rpmb := { v.rpmb with key := slotKey s 7 } }) s)
      else s
    else modVault (fun v => { v with foreign := v.rpmb.key != slotKey s 7 || byteAt (rpmbRead s 0 256) 5 != k }) s

/-! ### Scans (R268) -/

/-- The record positions a partition's scan can meet: 4 KiB boundaries that hold a first MAGIC byte. -/
def scanPlaces (s : State) (p : Part) : List Nat :=
  s.vault.user.filterMap (fun c =>
    if c.1 % 512 = 0 ∧ p.start ≤ c.1 / 512 ∧ c.1 / 512 < p.start + p.sectors ∧ (c.1 / 512 - p.start) % 8 = 0 ∧ c.2 = 0x51
    then some (c.1 / 512) else none)

/-- A scan steps over each record whose header passes checks 1 and 2 by its length. -/
def scanPart (s : State) (kind : Nat) : List (Nat × (Nat × Nat × Nat)) :=
  match partOf s kind with
  | none => []
  | some p =>
    ((scanPlaces s p).foldl (fun (a : List (Nat × (Nat × Nat × Nat)) × Nat) k =>
      let h := userRead s k 64
      if a.2 ≤ k ∧ recHeadOk s h ∧ recFits s k h ∧ recPart (recType h) = kind then
        (a.1 ++ [(k, (recType h, recSeq h, recSize (recLength h)))], k + recSize (recLength h) / 512)
      else a) ([], 0)).1

/-- The runtime's table after the scan of a partition. -/
def scanInto (kind : Nat) (s : State) : State :=
  let found := scanPart s kind
  modVault (fun v => { v with
    records := found.foldl (fun t r => tput t r.1 r.2) (v.records.filter (fun r => recPart r.2.1 != kind)) }) s

/-- NEXT_SEQUENCE after the scans (R262); it stays 0 when no SEQUENCE is left. -/
def setNextSeq (s : State) : State :=
  modVault (fun v => { v with
    nextSequence := BitVec.ofNat 32 ((v.records.foldl (fun a r => max a r.2.2.1) 0) + 1) }) s

/-- STAGE_RECORDS and STAGE_FIRST_FA follow the table (R273). -/
def countStages (s : State) : State :=
  let st := recsIn s 4
  modVault (fun v => { v with
    stageRecords := BitVec.ofNat 32 st.length
    stageFirstFa := match st with | r :: _ => BitVec.ofNat 40 (sectorFa r.1) | [] => 0 }) s

/-! ### Stage and scratch records (R273, R275) -/

/-- TYPE_FIELDS of a STAGE record. -/
def stageFields (c : Chan) (x : StageOp) : List Byte :=
  [BitVec.ofNat 8 c.val, x.cls, 0, 0] ++ leBytes 5 x.word.toNat ++ zeros 3 ++ leBytes 5 x.phys.toNat ++ zeros 3 ++
  leBytes 5 x.time.toNat ++ [x.eraseLog2] ++ zeros 18

/-- First sector of a channel's SCRATCH slot. -/
def scratchSector (s : State) (c : Chan) : Option Nat := (partOf s 6).map (fun p => p.start + 136 * c.val)

/-- TYPE_FIELDS of a SCRATCH record: space, block, and the lines to keep. -/
def scratchFields (c : Chan) (b : EraseBlock) (keep : List Nat) : List Byte :=
  [BitVec.ofNat 8 (spaceOf c b.cs), BitVec.ofNat 8 b.log2, 0, 0] ++ leBytes 4 b.addr ++ zeros 4 ++
  leBytes 32 (keep.foldl (fun a i => a + 2 ^ i) 0)

/-- The SCRATCH record of a channel is written into its slot. -/
def putScratch (c : Chan) (b : EraseBlock) (keep : List Nat) (body : List Byte) (s : State) : State :=
  match scratchSector s c with
  | none => s
  | some k =>
    let seq := s.vault.nextSequence.toNat
    let s := userWrite k (recBytes s k 7 seq (scratchFields c b keep) body false) s
    modVault (fun v => { v with
      records := tput v.records k (7, seq, recSize body.length), nextSequence := v.nextSequence + 1 }) s

/-- The slot's first sector is zeroed. -/
def clearScratch (c : Chan) (s : State) : State :=
  match scratchSector s c with
  | none => s
  | some k => modVault (fun v => { v with
      user := Mem.clear v.user (k * 512) 512, records := tdel v.records k }) s

/-! ### The configuration set (R203, R270) -/

/-- The retirements in force, as units and numbers. -/
def retirements (s : State) : List (Nat × Nat) :=
  let cs := [(0 : Chan), 1, 2, 3, 4, 5]
  (cs.filter (fun c => (chanAt s c).pipeline.retired)).map (fun c => (1, c.val)) ++
  (cs.filter (fun c => (chanAt s c).hostPort.retired)).map (fun c => (2, c.val)) ++
  (cs.filter (fun c => (chanAt s c).flashPort.retired)).map (fun c => (3, c.val)) ++
  (if s.fallow.retired then [(4, 0)] else []) ++
  s.hayloft.retiredCtx.map (fun k => (5, k)) ++ s.hayloft.retiredWay.map (fun k => (6, k))

/-- A section: KIND, LENGTH, data and padding. -/
def cfgSection (kind : Nat) (d : List Byte) : List Byte :=
  leBytes 1 kind ++ zeros 3 ++ leBytes 4 d.length ++ padTo d (roundUp d.length 8)

/-- The monitors' committed objects that differ from their defaults. -/
def monCfgEntries (s : State) : List (Nat × List Byte) :=
  (List.range 10).flatMap (fun m => [0, 1].filterMap (fun k =>
    let v := cfgBytes s (0x9010 + m) k
    if v == rwcDefault s (0x9010 + m) k then none else some (objKey (0x9010 + m) k, v)))

/-- The body of the set that holds the configuration in force. -/
def configBody (s : State) : List Byte :=
  let objs := (monCfgEntries s).foldl (fun t x => tput t x.1 x.2) s.cfg
  cfgSection 1 (objs.flatMap (fun x =>
    leBytes 2 (x.1 / 256) ++ leBytes 1 (x.1 % 256) ++ leBytes 1 x.2.length ++ x.2)) ++
  cfgSection 2 (s.hedgerow.table.flatMap (fun x => leBytes 2 x.1 ++ zeros 2 ++ rowBytes x.2)) ++
  cfgSection 3 (s.hayloft.trees.flatMap (fun x => leBytes 2 x.1 ++ zeros 2 ++ treeEntryBytes x.2)) ++
  cfgSection 4 ((retirements s).flatMap (fun x => leBytes 1 x.1 ++ [0] ++ leBytes 2 x.2)) ++
  cfgSection 5 (leBytes 4 s.hedgerow.indexGen.toNat ++ zeros 4)

/-- Data of a section kind of a body. -/
def cfgData (b : List Byte) (kind : Nat) : List Byte :=
  match cfgSections (b.length + 1) b with
  | some t => match t.find? (fun x => x.1 == kind) with | some x => x.2 | none => []
  | none => []

/-- The entries of kind 0x01. -/
def cfgObjects : Nat → List Byte → List (Nat × Nat × List Byte)
  | 0, _ => []
  | f + 1, b =>
    if b.length < 4 then []
    else
      let n := byteAt b 3
      (fieldAt b 0 2, byteAt b 2, slice b 4 n) :: cfgObjects f (b.drop (4 + n))

def cfgRules (b : List Byte) : List (Nat × RuleRow) :=
  (List.range (b.length / 20)).map (fun i => (fieldAt b (20 * i) 2, rowOfBytes (slice b (20 * i + 4) 16)))

def cfgTrees (b : List Byte) : List (Nat × TreeEntry) :=
  (List.range (b.length / 68)).map (fun i => (fieldAt b (68 * i) 2, treeEntryOf (slice b (68 * i + 4) 64)))

def cfgRetired (b : List Byte) : List (Nat × Nat) :=
  (List.range (b.length / 4)).map (fun i => (byteAt b (4 * i), fieldAt b (4 * i + 2) 2))

end Sys2Proof.Machine
end

