-- ==== Sys2Proof/Machine/HostWrite.lean ====
section
/-! DEFINITION. Host programs and erases (R74 to R80, R167, R273): judged at the rise of the chip select, then applied,
staged or denied. -/
namespace Sys2Proof.Machine

/-! ### Physical operations (R74, R75, R167, R168, R289) -/

/-- The physical lines an operation covers: first line and count. -/
def opLines : PhysOp → Nat × Nat
  | .erase a k => (a / 256, 2 ^ k / 256)
  | .program cells => (match cells with | x :: _ => x.1 / 256 | [] => 0, 1)

/-- Unpinned contexts of the covered lines return to EMPTY (R167, R168). -/
def dropCovered (c : Chan) (m : Cs) (op : PhysOp) (s : State) : State :=
  let (l, n) := opLines op
  dropCtxs (fun x => x.space == spaceOf c m && l ≤ x.line && x.line < l + n && !x.pin) s

/-- What a completed operation does to the flash: an erase leaves 0xFF, a program clears bits (log entry 15). -/
def flashApply (op : PhysOp) (f : Flash) : Flash :=
  match op with
  | .erase a k => { f with cells := Mem.clear f.cells a (2 ^ k) }
  | .program cells =>
    { f with cells := cells.foldl (fun m x => Mem.write 0xFF m x.1 (Mem.read 0xFF m x.1 &&& x.2)) f.cells }

/-- The waiting host command is issued when its chip select is free and the PLL clock is there (R74, R289). -/
def issueStore (c : Chan) (s : State) : State :=
  match (chanAt s c).store with
  | some o =>
    if !o.issued && (flashOf (chanAt s c) o.cs).busy.isNone && s.refclk && s.pllLock then
      dropCovered c o.cs o.op
        (modFlash c o.cs (fun f => { f with busy := some (.host o.op) })
          (modChan c (fun ch => { ch with store := some { o with issued := true } }) (abortRead c 0 s)))
    else s
  | none => s

/-! ### Verdicts (R76, R77) -/

/-- A program or erase reported as DENY (R77, R79). -/
def denyHost (c : Chan) (word : Nat) (s : State) : State :=
  journal (chSrc c) 0x0101 false (leBytes 5 word)
    (modCounts c (fun k => { k with deny := satInc k.deny })
      (modVf c (fun v => { v with deny := true, staged := false }) s))

/-- What the lookups of the covered lines found so far. -/
structure WriteRun where
  policy : Nat := 0
  /-- the first line's place -/
  place : Option (Cs × Nat) := none
  noRule : Bool := false
deriving DecidableEq, Repr

/-- One more line of the block: the most restrictive policy; BARRED and an ungoverned line count as DENY. -/
def judgeLine (h : HostCmd) (word line : Nat) (a : WriteRun × State) : WriteRun × State :=
  let (r, s) := a
  let (v, ded, s) := lookup h.ch line s
  let (v, s) := if r.place.isNone then combine h.ch word h.twin v s else (v, s)
  let pol := if v.readMode = 3 ∨ v.rule.isNone then 3 else v.policy
  ({ policy := max r.policy pol, place := some (r.place.getD (v.cs, v.phys)),
     noRule := r.noRule || (v.rule.isNone && !ded) }, s)

/-- A stage verdict can be stored (R78, R252, R269, R273, R369). -/
def canStage (s : State) (length : Nat) : Bool :=
  s.refclk && vaultOnline s && s.keys.keyState != 2 && s.vault.scanDone && inService s &&
  (match placeRecord s 5 length with | .ok _ => true | .error _ => false)

/-- The command is on its way to the vault; WIP reads 1 until it is stored. -/
def stageHost (c : Chan) (x : StageOp) (s : State) : State :=
  if canStage s x.body.length then
    modVault (fun v => { v with ops := v.ops ++ [.stage c] }) (modChan c (fun ch => { ch with stageOp := some x }) s)
  else denyHost c x.word.toNat s

/-- The bytes a program leaves in its line, by offset: a later byte replaces an earlier one (R75). -/
def programLine (o : Nat) (data : List Byte) : List (Nat × Byte) :=
  ((List.range data.length).zip data).foldl (fun t x => tput t ((o + x.1) % 256) x.2) []

/-- The considered command takes its verdict. -/
def applyVerdict (h : HostCmd) (word : Nat) (r : WriteRun) (op : Nat → PhysOp) (stage : StageOp) (s : State) : State :=
  let c := h.ch
  let s := if r.noRule then modCounts c (fun k => { k with noRule := satInc k.noRule }) s else s
  if 3 ≤ r.policy then denyHost c word s
  else
    let (m, pline) := r.place.getD (0, 0)
    if r.policy = 2 then
      stageHost c { stage with phys := BitVec.ofNat 40 (spaceOf c m * 2 ^ 35 + pline * 256 + stage.phys.toNat) } s
    else
      let s := modVf c (fun v => { v with staged := false }) s
      issueStore c (modChan c (fun ch => { ch with
        store := some ⟨m, op pline, BitVec.ofNat 40 word, false, r.policy == 1⟩ }) s)

/-- A program or erase is considered (R74): outside t_GAP, whole, with WEL 1 and WIP 0. -/
def considered (h : HostCmd) (gap : Bool) (s : State) : Bool :=
  !gap && h.whole && (chanAt s h.ch).vf.wel && !wipOf (chanAt s h.ch)

def clearWel (c : Chan) (s : State) : State := modVf c (fun v => { v with wel := false }) s

/-- A program (R74, R75). -/
def programBody (h : HostCmd) (op addr : Nat) (data : List Byte) (gap : Bool) (s : State) : State :=
  if data.isEmpty ∧ !gap ∧ h.whole then clearWel h.ch s
  else if !considered h gap s then s
  else
    let s := clearWel h.ch s
    let a := addr % 2 ^ (chanAt s h.ch).vf.windowLog2
    let word := (hostWord op addr).toNat
    let bytes := programLine (a % 256) data
    let (r, s) := judgeLine h word (a / 256) (({} : WriteRun), s)
    let map := bytes.foldl (fun m x => m + 2 ^ x.1) 0
    let line := bytes.foldl (fun l x => patch l x.1 [x.2]) (List.replicate 256 (0xFF : Byte))
    applyVerdict h word r (fun p => .program (bytes.map (fun x => (p * 256 + x.1, x.2))))
      { word := BitVec.ofNat 40 word, cls := 1, phys := BitVec.ofNat 40 (a % 256), time := s.tbUs, eraseLog2 := 0,
        body := leBytes 32 map ++ line } s

/-- An erase of the aligned block of 2^k bytes (R76). -/
def eraseBody (h : HostCmd) (op addr k : Nat) (gap : Bool) (s : State) : State :=
  if !considered h gap s then s
  else
    let s := clearWel h.ch s
    let a := addr % 2 ^ (chanAt s h.ch).vf.windowLog2
    let word := (hostWord op addr).toNat
    let first := a / 2 ^ k * 2 ^ k / 256
    let (r, s) := (List.range (2 ^ k / 256)).foldl (fun x i => judgeLine h word (first + i) x) (({} : WriteRun), s)
    applyVerdict h word r (fun p => .erase (p * 256) k)
      { word := BitVec.ofNat 40 word, cls := 2, phys := 0, time := s.tbUs, eraseLog2 := BitVec.ofNat 8 k, body := [] } s

def hostProgram (h : HostCmd) (op : Nat) (addr : U32) (data : List Byte) (spi qpi octal : Bool) (s : State) :
    Host.Outcome State Fault Refusal :=
  .next (hostRun h op addr.toNat spi qpi octal true (fun gap t => programBody h op addr.toNat data gap (drive h.ch [] t)) s)

def hostErase (h : HostCmd) (op : Nat) (addr : U32) (k : Nat) (octal : Bool) (s : State) :
    Host.Outcome State Fault Refusal :=
  .next (hostRun h op addr.toNat true true octal true (fun gap t => eraseBody h op addr.toNat k gap (drive h.ch [] t)) s)

/-- PAGE_PROGRAM 0x02 (R60, R74). -/
def execPageProgram (c : HostCmd) (addr : U32) (data : List Byte) (s : State) : Host.Outcome State Fault Refusal :=
  hostProgram c 0x02 addr data true true false s

/-- PAGE_PROGRAM_4B 0x12, 8D 0x12-0xED (R60, R74). -/
def execPageProgram4B (c : HostCmd) (addr : U32) (data : List Byte) (s : State) : Host.Outcome State Fault Refusal :=
  hostProgram c 0x12 addr data true true true s

/-- QUAD_INPUT_PAGE_PROGRAM 0x32 (R60, R74). -/
def execQuadInputPageProgram (c : HostCmd) (addr : U32) (data : List Byte) (s : State) :
    Host.Outcome State Fault Refusal := hostProgram c 0x32 addr data true false false s

/-- QUAD_INPUT_PAGE_PROGRAM_4B 0x34 (R60, R74). -/
def execQuadInputPageProgram4B (c : HostCmd) (addr : U32) (data : List Byte) (s : State) :
    Host.Outcome State Fault Refusal := hostProgram c 0x34 addr data true false false s

/-- ERASE_4K 0x20 (R60, R76). -/
def execErase4K (c : HostCmd) (addr : U32) (s : State) : Host.Outcome State Fault Refusal :=
  hostErase c 0x20 addr 12 false s

/-- ERASE_4K_4B 0x21 (R60, R76). -/
def execErase4K4B (c : HostCmd) (addr : U32) (s : State) : Host.Outcome State Fault Refusal :=
  hostErase c 0x21 addr 12 true s

/-- ERASE_32K 0x52 (R60, R76). -/
def execErase32K (c : HostCmd) (addr : U32) (s : State) : Host.Outcome State Fault Refusal :=
  hostErase c 0x52 addr 15 false s

/-- ERASE_32K_4B 0x5C (R60, R76). -/
def execErase32K4B (c : HostCmd) (addr : U32) (s : State) : Host.Outcome State Fault Refusal :=
  hostErase c 0x5C addr 15 true s

/-- ERASE_64K 0xD8 (R60, R76). -/
def execErase64K (c : HostCmd) (addr : U32) (s : State) : Host.Outcome State Fault Refusal :=
  hostErase c 0xD8 addr 16 false s

/-- ERASE_64K_4B 0xDC (R60, R76). -/
def execErase64K4B (c : HostCmd) (addr : U32) (s : State) : Host.Outcome State Fault Refusal :=
  hostErase c 0xDC addr 16 true s

/-- CHIP_ERASE 0x60 or 0xC7: always DENY when it is considered (R76). -/
def execChipErase (c : HostCmd) (second : Bool) (s : State) : Host.Outcome State Fault Refusal :=
  let op := if second then 0xC7 else 0x60
  .next (hostRun c op 0 true true true false (fun gap t =>
    let t := drive c.ch [] t
    if considered c gap t then denyHost c.ch (hostWord op 0).toNat (clearWel c.ch t) else t) s)

end Sys2Proof.Machine
end

