-- ==== Sys2Proof/Machine/HostVirtual.lean ====
section
/-! DEFINITION. Host commands completed inside the block: the virtual status register, identification, SFDP, mode
changes and reset (R60, R81 to R90). -/
namespace Sys2Proof.Machine

/-- A command that walks no index. -/
def hostVirtual (h : HostCmd) (op addr : Nat) (spi qpi octal : Bool) (body : Bool → State → State) (s : State) :
    Host.Outcome State Fault Refusal :=
  .next (hostRun h op addr spi qpi octal false (fun gap t => body gap (drive h.ch [] t)) s)

/-- A mode change or reset command starts t_GAP; the physical flashes follow within it (R86, R88). -/
def startGap (c : Chan) (s : State) : State :=
  modVf c (fun v => { v with gapStart := some s.now, syncDue := true }) s

/-- Every populated chip select supports the mode state (R85, R96). -/
def modeSupported (s : State) (c : Chan) (m : BusMode) : Bool :=
  match m with
  | .spi => true
  | .qpi => allPopulated (chanAt s c) (·.qpi)
  | .octal => allPopulated (chanAt s c) (·.octal)

/-- Enters a mode state from the next command on, or counts as unsupported (R85). -/
def changeMode (c : Chan) (m : BusMode) (op addr : Nat) (s : State) : State :=
  if modeSupported s c m then startGap c (modVf c (fun v => { v with mode := m }) s) else unsupported c op addr s

/-- WRITE_ENABLE 0x06: sets WEL, clears DENY and STAGED (R60, R82). -/
def execWriteEnable (c : HostCmd) (s : State) : Host.Outcome State Fault Refusal :=
  hostVirtual c 0x06 0 true true true (fun _ t =>
    modVf c.ch (fun v => { v with wel := true, deny := false, staged := false }) t) s

/-- WRITE_DISABLE 0x04: clears WEL (R60). -/
def execWriteDisable (c : HostCmd) (s : State) : Host.Outcome State Fault Refusal :=
  hostVirtual c 0x04 0 true true true (fun _ t => clearWel c.ch t) s

/-- READ_STATUS 0x05: the virtual status register, sampled once (R83). -/
def execReadStatus (c : HostCmd) (len : Nat) (s : State) : Host.Outcome State Fault Refusal :=
  hostVirtual c 0x05 0 true true true (fun _ t =>
    drive c.ch (List.replicate len (BitVec.ofNat 8 (vsrByte (chanAt t c.ch)))) t) s

/-- WRITE_STATUS 0x01: absorbed, clears WEL (R60). -/
def execWriteStatus (c : HostCmd) (s : State) : Host.Outcome State Fault Refusal :=
  hostVirtual c 0x01 0 true true true (fun _ t => clearWel c.ch t) s

/-- CLEAR_FLAGS 0x50: clears SUBST, STAGED and DENY (R82). -/
def execClearFlags (c : HostCmd) (s : State) : Host.Outcome State Fault Refusal :=
  hostVirtual c 0x50 0 true true true (fun _ t =>
    modVf c.ch (fun v => { v with subst := false, staged := false, deny := false }) t) s

/-- READ_ID 0x9F: VIRT_ID, then 0xFF (R60). -/
def execReadId (c : HostCmd) (len : Nat) (s : State) : Host.Outcome State Fault Refusal :=
  hostVirtual c 0x9F 0 true true true (fun _ t =>
    drive c.ch (((chanAt t c.ch).vf.virtId ++ List.replicate len (0xFF : Byte)).take len) t) s

/-- READ_SFDP 0x5A: the table of R84; every address above it reads 0xFF. -/
def execReadSfdp (c : HostCmd) (addr : U32) (len : Nat) (s : State) : Host.Outcome State Fault Refusal :=
  hostVirtual c 0x5A addr.toNat true true true (fun _ t =>
    drive c.ch ((List.range len).map (fun i => (chanAt t c.ch).vf.sfdp.getD (addr.toNat + i) 0xFF)) t) s

/-- WRITE_VOLATILE_CONFIGURATION 0x81: octal DTR in and out with WEL, else absorbed; clears WEL (R85). A mode change
within t_GAP has no effect and leaves WEL (R87). -/
def execWriteVolatileConfiguration (c : HostCmd) (addr : U32) (value : Byte) (s : State) :
    Host.Outcome State Fault Refusal :=
  hostVirtual c 0x81 addr.toNat true true true (fun gap t =>
    let v := (chanAt t c.ch).vf
    let change := v.wel && addr == 0 && c.whole &&
      ((value == 0xE7 && v.mode != .octal) || (value == 0xFF && v.mode == .octal))
    if change then
      if gap then t
      else changeMode c.ch (if value = 0xE7 then .octal else .spi) 0x81 addr.toNat (clearWel c.ch t)
    else clearWel c.ch t) s

/-- ENTER_QPI 0x38 in SPI (R85). -/
def execEnterQpi (c : HostCmd) (s : State) : Host.Outcome State Fault Refusal :=
  hostVirtual c 0x38 0 true false false (fun gap t => if gap then t else changeMode c.ch .qpi 0x38 0 t) s

/-- EXIT_QPI 0xF5 in QPI (R85). -/
def execExitQpi (c : HostCmd) (s : State) : Host.Outcome State Fault Refusal :=
  hostVirtual c 0xF5 0 false true false (fun gap t => if gap then t else changeMode c.ch .spi 0xF5 0 t) s

/-- RESET_ENABLE 0x66 arms the reset (R88). -/
def execResetEnable (c : HostCmd) (s : State) : Host.Outcome State Fault Refusal :=
  hostVirtual c 0x66 0 true true true (fun _ t => t) s

/-- RESET 0x99 right after a reset-enable: the virtual flash resets and t_GAP starts (R87, R88); a host reset where
RESET_SENSE says so (R192). -/
def execReset (c : HostCmd) (s : State) : Host.Outcome State Fault Refusal :=
  hostVirtual c 0x99 0 true true true (fun _ t =>
    if (chanAt t c.ch).vf.rstArmed then
      let t := startGap c.ch (modVf c.ch resetVf t)
      if bit (resetSense t c.ch) 1 then hostReset c.ch t else t
    else t) s

/-- ENTER_4BYTE_MODE 0xB7: absorbed (R57). -/
def execEnter4ByteMode (c : HostCmd) (s : State) : Host.Outcome State Fault Refusal :=
  hostVirtual c 0xB7 0 true true false (fun _ t => t) s

/-- EXIT_4BYTE_MODE 0xE9: absorbed (R57). -/
def execExit4ByteMode (c : HostCmd) (s : State) : Host.Outcome State Fault Refusal :=
  hostVirtual c 0xE9 0 true true false (fun _ t => t) s

/-- POWER_DOWN 0xB9: absorbed (R60). -/
def execPowerDown (c : HostCmd) (s : State) : Host.Outcome State Fault Refusal :=
  hostVirtual c 0xB9 0 true true false (fun _ t => t) s

/-- RELEASE_POWER_DOWN 0xAB: absorbed, no data (R60). -/
def execReleasePowerDown (c : HostCmd) (s : State) : Host.Outcome State Fault Refusal :=
  hostVirtual c 0xAB 0 true true false (fun _ t => t) s

/-- UNSUPPORTED_COMMAND: an opcode outside the table of R60, or not marked for the mode state (R61). -/
def execUnsupportedCommand (c : HostCmd) (op : Byte) (addr : U32) (s : State) : Host.Outcome State Fault Refusal :=
  hostVirtual c op.toNat addr.toNat false false false (fun _ t => t) s

end Sys2Proof.Machine
end

