-- ==== Sys2Proof/Machine/Reply.lean ====
section
/-! DEFINITION. Responses of the management link: IDP messages, secured records, the response queue and the replay cache
(R421 to R423, R519 to R529). -/
namespace Sys2Proof.Machine

/-- The management port of a dictionary port; port L has none. -/
def mportOf : Port → Option MPort
  | .mp0 => some 0
  | .mp1 => some 1
  | .l => none

/-- The dictionary port of a management port. -/
def portOfM (m : MPort) : Port := if m = 0 then .mp0 else .mp1

/-- The message type and enterprise number of IDP (R519, R521). -/
def idpPrefix : List Byte := [0x7F, 0x00, 0x01, 0xA3, 0xC5]

/-- CRC of an IDP message: VERSION to the last PAYLOAD byte, then ALIVE once more (R522). -/
def idpCrc (body : List Byte) (alive : U8) : Nat := crc32c (body ++ [alive])

/-- An IDP response message (R521, R523): FLAGS has RESPONSE 1. -/
def idpResponse (alive service : U8) (payload : List Byte) : List Byte :=
  let body := [0x01, alive, service, 0x01] ++ leBytes 2 payload.length ++ payload
  idpPrefix ++ body ++ leBytes 4 (idpCrc body alive)

/-- Free credits of rung 6 on a port (R528). -/
def creditsFree (m : MgmtPort) : Nat :=
  4 - ((m.responses.filter (·.credit)).length + b2n m.current.isSome + m.rx.length)

/-! ### Secured messages (R422, R423) -/

/-- The IV of a secured message: the session's IV with the sequence number folded in (log entry 44). -/
def sessionIv (iv : List Byte) (seq : Nat) : List Byte := xorBytes iv (padTo (leBytes 8 seq) 12)

/-- A secured message in the form of DSP0277 on MCTP: session id, sequence number, length, sealed data, tag (log
entry 44). -/
def sealRecord (key iv : List Byte) (id : U32) (seq : Nat) (app : List Byte) : List Byte :=
  let plain := leBytes 2 app.length ++ app
  let head := leBytes 4 id.toNat ++ leBytes 2 seq ++ leBytes 2 (plain.length + 16)
  let n := sessionIv iv seq
  let ct := gcmCrypt key n plain
  head ++ ct ++ gcmTag key n head ct

/-- A message leaves inside an open session; one whose session has ended leaves nothing. -/
def sealFor (id : U32) (app : List Byte) (s : State) : Option (List Byte) × State :=
  match s.spdm.sessions.find? (fun x => x.id == id) with
  | none => (none, s)
  | some x =>
    (some ([0x06] ++ sealRecord x.rspKey x.rspIv id x.rspCount app),
      modSpdm (fun d => { d with
        sessions := d.sessions.map (fun y => if y.id = id then { y with rspCount := y.rspCount + 1 } else y) }) s)

/-- A message goes to the end of the port's responses, in the clear or inside a session (R423, R529). -/
def queueResponse (m : MPort) (session : Option U32) (msg : List Byte) (tag dest : Nat) (ofCommit : Bool) (s : State) :
    State :=
  let put := fun (bs : List Byte) (s : State) => modMport m (fun x => { x with
    responses := x.responses ++ [{ msg := bs, tag := tag, dest := dest, credit := true, ofCommit := ofCommit }] }) s
  match session with
  | none => put msg s
  | some id =>
    match sealFor id msg s with
    | (some bs, s) => put bs s
    | (none, s) => s

/-- The executed request's response: queued, and kept in the replay cache of the last 4 (R527). -/
def deliver (m : MPort) (r : LinkReq) (payload : List Byte) (ofCommit : Bool) (s : State) : State :=
  let s := modMport m (fun x => { x with
    current := none
    cache := ({ alive := r.alive, crc := r.crc, response := payload } :: x.cache).take 4 }) s
  queueResponse m r.session (idpResponse r.alive r.service payload) r.tag r.dest ofCommit s

/-- The answer of a request that had to wait: recorded on its port and, when the link carried it, sent. -/
def answerLate (p : Port) (code : U8) (data : List Byte) (s : State) : State :=
  let s := answer p code data s
  match mportOf p with
  | none => s
  | some m =>
    match (mportAt s m).current with
    | some r => deliver m r ([code, 0x00] ++ data) false s
    | none => s

end Sys2Proof.Machine
end

