-- ==== Sys2Proof/Machine/Restore.lean ====
section
/-! DEFINITION. The RESTORE sequence (R279 to R284): selection, erase blocks, SCRATCH, erase, program, read-back, and what
ends it. -/
namespace Sys2Proof.Machine

/-! ### Affected lines (R279) -/

/-- A run of physical lines that a restore rewrites, with the host line of its first line and the tree. -/
structure RestoreRun where
  cs : Cs
  lo : Nat
  hi : Nat
  host : Nat
  tree : Nat
deriving DecidableEq, Repr

/-- The part of a run of host lines that lies in its tree's range. -/
def clipToTree (s : State) (c : Chan) (tree lo hi : Nat) : Nat × Nat :=
  match tget s.hayloft.trees tree with
  | some t =>
    if t.channel = c.val then (max lo (t.hbase / 256), min hi (t.hbase / 256 + t.nlines)) else (lo, lo)
  | none => (lo, lo)

/-- The rewritten runs of a region for the bank in force. -/
def restoreRuns (s : State) (c : Chan) (region : List Nat) : List RestoreRun :=
  (segsOf s.hedgerow.index c.val).flatMap (fun g =>
    if region.contains g.rule && (rReadMode g.row == 1 || rReadMode g.row == 2) then
      let b := bankB s g.row
      let tree := rTree g.row + b2n b
      let (lo, hi) := clipToTree s c tree g.lo g.hi
      if hi ≤ lo then []
      else
        let bank := (banksOf g.row).getD (b2n b) (0, 0)
        let off := bank.2 * 256
        (physRuns ⟨lo, hi, g.rule, g.row⟩ bank.2).map (fun r =>
          ⟨csOf bank.1, r.1, r.2, (r.1 + 2 ^ 24 - off) % 2 ^ 24, tree⟩)
    else [])

/-- The trees a region names for the bank in force, in ascending rule order. -/
def regionTrees (s : State) (c : Chan) (region : List Nat) : List Nat :=
  (s.hedgerow.index.filter (fun x => region.contains x.1 && rChannel x.2 == c.val &&
    (rReadMode x.2 == 1 || rReadMode x.2 == 2))).foldl (fun a x =>
      let t := rTree x.2 + b2n (bankB s x.2)
      if a.contains t then a else a ++ [t]) []

/-- The rewritten run that holds a physical line. -/
def runAt (rs : List RestoreRun) (m : Cs) (line : Nat) : Option RestoreRun :=
  rs.find? (fun r => r.cs == m && r.lo ≤ line && line < r.hi)

/-- Every line of [lo, lo + n) is rewritten. -/
def allRewritten (rs : List RestoreRun) (m : Cs) (lo n : Nat) : Bool :=
  (List.range n).all (fun i => (runAt rs m (lo + i)).isSome)

/-- Erase sizes present on a channel, as logarithms, largest first (R84). -/
def eraseSizes (ch : Channel) : List Nat :=
  [16] ++ (if allPopulated ch (·.erase32K) then [15] else []) ++ (if allPopulated ch (·.erase4K) then [12] else [])

/-- The 64 KiB block numbers that hold rewritten lines on a chip select, ascending. -/
def blockNumbers (rs : List RestoreRun) (m : Cs) : List Nat :=
  rs.foldl (fun a r =>
    if r.cs = m then (List.range ((r.hi - 1) / 256 + 1 - r.lo / 256)).foldl (fun a i => insertNat (r.lo / 256 + i) a) a
    else a) []

/-- Aligned blocks of 2^k bytes inside a 64 KiB block. -/
def subBlocks (m : Cs) (b k : Nat) : List EraseBlock :=
  (List.range (2 ^ (16 - k))).map (fun i => ⟨m, b * 65536 + i * 2 ^ k, k⟩)

/-- The largest erase size of which some aligned block is rewritten whole (R279 step 4). -/
def coverSize (rs : List RestoreRun) (ch : Channel) : Option Nat :=
  (eraseSizes ch).find? (fun k => [(0 : Cs), 1].any (fun m => (blockNumbers rs m).any (fun b =>
    (subBlocks m b k).any (fun e => allRewritten rs m (e.addr / 256) (2 ^ k / 256)))))

/-- The erase blocks of a restore: whole ones of the largest fitting size, the rest of the smallest size (R279). -/
def coverBlocks (rs : List RestoreRun) (ch : Channel) : List EraseBlock :=
  let small := ((eraseSizes ch).getLast?).getD 16
  let big := (coverSize rs ch).getD small
  let touched := fun (e : EraseBlock) =>
    (List.range (2 ^ e.log2 / 256)).any (fun i => (runAt rs e.cs (e.addr / 256 + i)).isSome)
  [(0 : Cs), 1].flatMap (fun m => (blockNumbers rs m).flatMap (fun b =>
    (subBlocks m b big).flatMap (fun e =>
      if allRewritten rs m (e.addr / 256) (2 ^ big / 256) then [e]
      else ((subBlocks m b small).filter (fun x => e.addr ≤ x.addr && x.addr < e.addr + 2 ^ big)).filter touched)))

/-! ### One block (R279 step 5) -/

/-- The content an affected line takes: image bytes where it is rewritten, else the bytes saved before the erase. -/
def restoredLine (s : State) (q : Seq) (rs : List RestoreRun) (b : EraseBlock) (line : Nat) : List Byte :=
  match runAt rs b.cs line with
  | some r =>
    match q.images.find? (fun i => i.1 == r.tree), tget s.hayloft.trees r.tree with
    | some i, some t => slice (recBody s i.2) (256 * (r.host + (line - r.lo) - t.hbase / 256)) 256
    | _, _ => []
  | none => slice q.saved ((line - b.addr / 256) * 256) 256

def blockLines (b : EraseBlock) : List Nat := (List.range (2 ^ b.log2 / 256)).map (fun i => b.addr / 256 + i)

/-- Indices of the lines of a block that are kept. -/
def keptLines (rs : List RestoreRun) (b : EraseBlock) : List Nat :=
  (List.range (2 ^ b.log2 / 256)).filter (fun i => (runAt rs b.cs (b.addr / 256 + i)).isNone)

/-- A line is all 0xFF: it is not programmed. -/
def blank (l : List Byte) : Bool := l.all (· == 0xFF)

def setSeq (c : Chan) (f : Seq → Seq) (s : State) : State := modChan c (fun ch => { ch with seq := ch.seq.map f }) s

/-- A restore's rewrite is complete (R279 step 6, R284, R186). An ordered one on a channel that stays held or
quarantined clears what its region covers and ends there; others end at release. -/
def restoreDone (c : Chan) (q : Seq) (s : State) : State :=
  let s := dropRegion c q.region s
  let s := modVault (fun v => { v with restores := satInc v.restores }) s
  let s := if (chanAt s c).holdRegion.all (q.region.contains ·) then
      modChan c (fun ch => { ch with quarantined := false, class4 := false, holdRegion := [] }) s else s
  let s := setSeq c (fun q => { q with stage := .preload, blocks := [] }) s
  if q.ordered ∧ ((chanAt s c).eff = .held ∨ (chanAt s c).eff = .quarantined) then
    modChan c (fun ch => { ch with seq := none, lastSeqResult := seqResult 3 eOk q.tree }) s
  else s

/-- The next block of a restore starts, or the rewrite is complete. -/
def nextBlock (c : Chan) (s : State) : State :=
  match (chanAt s c).seq with
  | none => s
  | some q =>
    match q.blocks with
    | [] => restoreDone c q s
    | b :: _ =>
      let kept := keptLines (restoreRuns s c q.region) b
      if kept.isEmpty then setSeq c (fun q => { q with stage := .erase, saved := [] }) s
      else
        let old := flashRead s c b.cs b.addr (2 ^ b.log2)
        modVault (fun v => { v with ops := v.ops ++ [.scratch c] })
          (setSeq c (fun q => { q with stage := .scratch, saved := old }) s)

/-- A block is read back and equals what was written: it is done (R279 steps 5.4, 5.5). -/
def blockDone (c : Chan) (s : State) : State :=
  match (chanAt s c).seq with
  | none => s
  | some q =>
    match q.blocks with
    | [] => s
    | b :: rest =>
      let rs := restoreRuns s c q.region
      if (blockLines b).all (fun l => flashRead s c b.cs (l * 256) 256 == restoredLine s q rs b l) then
        let s := if q.saved.isEmpty then s else clearScratch c s
        let s := modChan c (fun ch => { ch with seqProgress := satInc ch.seqProgress }) s
        nextBlock c (setSeq c (fun q => { q with blocks := rest, saved := [] }) s)
      else
        modChan c (fun ch => { ch with failedOp := some (b.cs, .erase b.addr b.log2) })
          (setSeq c (fun q => { q with stage := .erase }) s)

/-- A running restore of the channel. -/
def restoring (ch : Channel) : Bool :=
  match ch.seq with
  | some q => q.tier == .restore && q.stage != .preload
  | none => false

/-- The next erase or program of a restore is issued when its chip select is free (R279, R286, R289). -/
def kickSeq (c : Chan) (s : State) : State :=
  let ch := chanAt s c
  let idle := canWork s && s.pllLock && ch.failedOp.isNone && ch.devRead.isNone && !ch.store.any (fun o => !o.issued)
  let issue := fun (m : Cs) (op : PhysOp) (s : State) =>
    dropCovered c m op (modFlash c m (fun f => { f with busy := some (.device op) }) s)
  match ch.seq with
  | some q =>
    match q.blocks with
    | b :: _ =>
      if !(q.tier == .restore && idle && (flashOf ch b.cs).busy.isNone) then s
      else match q.stage with
        | .erase => issue b.cs (.erase b.addr b.log2) s
        | .program (l :: _) =>
          let d := restoredLine s q (restoreRuns s c q.region) b l
          issue b.cs (.program ((List.range 256).map (fun i => (l * 256 + i, d.getD i 0)))) s
        | _ => s
    | [] => s
  | none => s

/-- A device-initiated operation of the channel's restore has succeeded. -/
def seqOpDone (c : Chan) (op : PhysOp) (s : State) : State :=
  match (chanAt s c).seq with
  | none => s
  | some q =>
    match q.blocks with
    | [] => s
    | b :: _ =>
      match op, q.stage with
      | .erase .., .erase =>
        let rs := restoreRuns s c q.region
        let ls := (blockLines b).filter (fun l => !blank (restoredLine s q rs b l))
        if ls.isEmpty then blockDone c s else setSeq c (fun q => { q with stage := .program ls }) s
      | .program .., .program (_ :: rest) =>
        if rest.isEmpty then blockDone c s else setSeq c (fun q => { q with stage := .program rest }) s
      | _, _ => s

/-- Selection of a restore (R279 steps 2 to 4, R280). -/
def restoreSelect (c : Chan) (s : State) : State :=
  match (chanAt s c).seq with
  | none => s
  | some q =>
    if !(q.tier == .restore && q.stage == .select) then s
    else
      let (bad, images, s) := (regionTrees s c q.region).foldl
        (fun (a : Option (Nat × U8) × List (Nat × Nat) × State) t =>
          match a.1 with
          | some _ => a
          | none =>
            match selectImage t a.2.2 with
            | (some k, _, s) => (none, a.2.1 ++ [(t, k)], s)
            | (none, code, s) => (some (t, code), a.2.1, s)) (none, [], s)
      match bad with
      | some (t, code) =>
        if q.ordered then
          -- it ends before any erase, as if the rewrite had completed (R284)
          modChan c (fun ch => { ch with seq := none, lastSeqResult := seqResult 3 code t }) s
        else toHold c q.region code t (countEscalation s)
      | none =>
        let bs := coverBlocks (restoreRuns s c q.region) (chanAt s c)
        nextBlock c (setSeq c (fun q => { q with images := images, blocks := bs }) s)

/-- A permanent flash-port fault in a device-initiated operation: a restore escalates (R276), the port is retired. -/
def permFlash (c : Chan) (s : State) : State :=
  let ch := chanAt s c
  let s := match ch.seq with
    | some q => if restoring ch then toHold c q.region eIntegrity q.tree (dropRestoreOps c (countEscalation s)) else s
    | none => s
  retirePort c 3 1 0 (modChan c (fun x => { x with failedRead := none, failedOp := none, retries := 0 }) s)

/-! ### Starting device-initiated reads (R162, R163) -/

/-- The flash port can start a device-initiated read on a chip select; a preload read gives way. -/
def portFree (s : State) (c : Chan) (m : Cs) : Bool :=
  let ch := chanAt s c
  let waits := match ch.devRead with | none => true | some (.preload ..) => true | _ => false
  waits && !ch.csLow && ch.failedRead.isNone && ch.failedOp.isNone && (flashOf ch m).busy.isNone &&
  s.refclk && s.pllLock && ch.eff != .off && ch.eff != .retired && s.phase != .start

def startRead (c : Chan) (r : DevRead) (s : State) : State := modChan c (fun ch => { ch with devRead := some r }) s

/-- A read that a field access makes. -/
def isField : Option DevRead → Bool
  | some (.field ..) => true
  | _ => false

/-- A port's field-access read takes its flash port as soon as it is free (R162, R558). -/
def kickField (p : Port) (s : State) : State :=
  match (portRegs s p).faWait with
  | none => s
  | some (c, m, a, n) =>
    if portFree s c m ∧ !isField (chanAt s c).devRead then startRead c (.field p m a n) s else s

/-- Every channel's waiting work is taken up: host commands held in the store first, then restores, then field-access
reads. -/
def kickAll (s : State) : State :=
  kickField .l (kickField .mp1 (kickField .mp0 (allChans kickSeq (allChans issueStore s))))

/-- What follows every command that can move a channel or free a flash port. -/
def finishAll (s : State) : State := kickAll (finish s)

end Sys2Proof.Machine
end

