-- ==== Sys2Proof/Machine/FlashPort.lean ====
section
/-! DEFINITION. The flash ports: physical mode changes, the end of programs and erases, retries, and device-initiated
reads (R80, R86, R141 to R145, R150 to R166, R176 to R179, R196). -/
namespace Sys2Proof.Machine

/-! ### Physical modes and operations -/

/-- PHYSICAL_MODE_SYNC: the flashes of the populated chip selects take the mode state; one that is busy waits (R86, R87,
R90). -/
def execPhysicalModeSync (ch : Chan) (s : State) : Host.Outcome State Fault Refusal :=
  let x := chanAt s ch
  if x.vf.syncDue ∧ s.refclk ∧ s.pllLock then
    let m := x.vf.mode
    let set := fun (f : Flash) => if f.busy.isNone then { f with mode := m } else f
    let busy := x.flash0.busy.isSome || x.flash1.busy.isSome
    .next (finishAll (modChan ch (fun y => { y with
      flash0 := set y.flash0, flash1 := set y.flash1
      vf := { y.vf with syncDue := busy, gapStart := if busy then y.vf.gapStart else none } }) s))
  else .next s

/-- A flash whose operation ends follows a mode change that waited for it (R87). -/
def flashIdle (c : Chan) (m : Cs) (s : State) : State := modFlash c m (fun f => { f with busy := none }) s

/-- The flash bytes that a failed operation changed. -/
def flashPatch (cells : List (Nat × Byte)) (f : Flash) : Flash :=
  { f with cells := cells.foldl (fun m x => Mem.write 0xFF m x.1 x.2) f.cells }

/-- What a host operation's end does (R74, R77, R79): WIP clears; LOG counts when applied, a failure reads DENY. -/
def hostOpEnd (c : Chan) (ok : Bool) (s : State) : State :=
  match (chanAt s c).store with
  | none => s
  | some o =>
    let s := modChan c (fun ch => { ch with store := none }) s
    if !ok then chargeFlashPort c (denyHost c o.word.toNat s)
    else if o.log then
      journal (chSrc c) 0x0102 false (leBytes 5 o.word.toNat)
        (modCounts c (fun k => { k with log := satInc k.log }) s)
    else s

/-- A device-initiated operation fails (R196). -/
def deviceOpFail (c : Chan) (m : Cs) (op : PhysOp) (s : State) : State :=
  if (chanAt s c).retries = 3 then permFlash c s
  else modChan c (fun ch => { ch with failedOp := some (m, op) }) s

/-- A device-initiated operation that needed retries has succeeded (R196). -/
def retryWon (c : Chan) (s : State) : State :=
  if (chanAt s c).retries = 0 then s
  else chargeFlashPort c (modChan c (fun ch => { ch with retries := 0 }) s)

/-- Timeout number of a physical operation (R477): 1 program, 2 erase. -/
def opTimeout : PhysOp → Fin 14
  | .program _ => 1
  | .erase .. => 2

/-- PHYS_OP_COMPLETE: a physical program or erase ends (R77, R79, R196, R286, R289). -/
def execPhysOpComplete (ch : Chan) (cs : Cs) (e : PhysEnd) (s : State) : Host.Outcome State Fault Refusal :=
  let f := flashOf (chanAt s ch) cs
  let body := fun (op : PhysOp) (s : State) =>
    match e with
    | .ok => modFlash ch cs (flashApply op) (flashIdle ch cs s)
    | .failed cells => modFlash ch cs (flashPatch cells) (flashIdle ch cs s)
  let ok := e == .ok
  match f.busy with
  | none => .next s
  | some (.host op) =>
    .next (finishAll (hostOpEnd ch ok (timeoutArrived (opTimeout op) (body op s))))
  | some (.device op) =>
    let s := timeoutArrived (opTimeout op) (body op s)
    .next (finishAll (if ok then seqOpDone ch op (retryWon ch s) else deviceOpFail ch cs op s))
  | some (.late op) => .next (finishAll (body op s))

/-- FLASH_OP_RETRY: a failed device-initiated operation is issued again (R196). -/
def execFlashOpRetry (ch : Chan) (s : State) : Host.Outcome State Fault Refusal :=
  let x := chanAt s ch
  let count := modChan ch (fun y => { y with
    retries := y.retries + 1, counts := { y.counts with fpRetries := satInc y.counts.fpRetries } })
  let idle : Cs → Bool := fun m => match (flashOf x m).busy with | some (.late _) => true | b => b.isNone
  if !(s.refclk && s.pllLock) then .next s
  else match x.failedOp, x.failedRead with
    | some (m, op), _ =>
      if coresRun s ∧ idle m ∧ x.devRead.isNone then
        .next (dropCovered ch m op (modFlash ch m (fun f => { f with busy := some (.device op) })
          (modChan ch (fun y => { y with failedOp := none }) (count s))))
      else .next s
    | none, some r =>
      if x.devRead.isNone ∧ !x.csLow then
        .next (modChan ch (fun y => { y with devRead := some r, failedRead := none }) (count s))
      else .next s
    | none, none => .next s

/-- The stage record was not stored in time (R78). -/
def stageExpire (ch : Chan) (s : State) : State :=
  match (chanAt s ch).stageOp with
  | some x =>
    finishAll (denyHost ch x.word.toNat (timeoutExpired 4
      (modVault (fun v => { v with ops := v.ops.filter (fun o => o != .stage ch) })
        (modChan ch (fun y => { y with stageOp := none }) s))))
  | none => s

/-- STAGE_STORE_EXPIRY. -/
def execStageStoreExpiry (ch : Chan) (s : State) : Host.Outcome State Fault Refusal := .next (stageExpire ch s)

/-! ### Starting device-initiated reads (R162, R163) -/

/-- Ticks of its staleness budget a line has used (R53, R166). -/
def lineAge (s : State) (x : Ctx) : Nat := s.now - x.start + x.extra

/-- The channel's unpinned FILLING line of earliest deadline; among equals the lower address. -/
def fillDue (s : State) (c : Chan) : Option Ctx :=
  s.hayloft.ctxs.foldl (fun (a : Option Ctx) k =>
    let x := k.2
    if x.state = .filling ∧ !x.pin ∧ x.space / 2 = c.val ∧ (flashOf (chanAt s c) (spaceCs x.space)).busy.isNone then
      match a with
      | none => some x
      | some y =>
        if lineAge s y < lineAge s x ∨ (lineAge s x = lineAge s y ∧ x.line < y.line) then some x else a
    else a) none

/-- First and last missing beats of a context. -/
def missingBeats (x : Ctx) : Option (Nat × Nat) :=
  let ms := (List.range 32).filter (fun b => !x.present.getLsbD b)
  match ms, ms.getLast? with
  | a :: _, some b => some (a, b)
  | _, _ => none

/-- GAP_FILL: the missing beats of a FILLING line are read in a host gap (R162 to R164). -/
def execGapFill (ch : Chan) (s : State) : Host.Outcome State Fault Refusal :=
  match fillDue s ch with
  | some x =>
    match missingBeats x with
    | some (a, b) =>
      if portFree s ch (spaceCs x.space) then
        .next (modCounts ch (fun k => { k with gapFill := satInc k.gapFill })
          (startRead ch (.gapFill (spaceCs x.space) x.line a b) s))
      else .next s
    | none => .next s
  | none => .next s

/-- PIN_FILL: a governed SEALED line of a RUNNING channel is read whole to be pinned (R148, R154). -/
def execPinFill (ch : Chan) (haddr : U32) (s : State) : Host.Outcome State Fault Refusal :=
  let v := verdictAt s ch (haddr.toNat / 256)
  let sp := spaceOf ch v.cs
  let go := startRead ch (.pinFill v.cs v.phys (haddr.toNat / 256 * 256))
  if v.readMode = 2 ∧ (chanAt s ch).eff = .running ∧ inService s ∧ portFree s ch v.cs then
    match findCtx s sp v.phys with
    | some (_, x) => if x.state = .filling ∧ x.pin then .next (go s) else .next s
    | none =>
      match takeWay s sp v.phys with
      | .way k =>
        .next (go (openCtx k (newCtx s sp v.phys (haddr.toNat / 256 * 256) v.tree true)
          (modChan ch (fun y => { y with placeFailed := y.placeFailed.filter (· != (v.cs.val, v.phys)) }) s)))
      | .waits => .next s
      | .none =>
        if (chanAt s ch).placeFailed.contains (v.cs.val, v.phys) then .next s
        else .next (finishAll (lineFail ch v.cs v.phys (haddr.toNat / 256 * 256) v.tree causePlacement s))
  else .next s

/-- The deepest ancestor present is read; one that a double-bit error discards is missing too (R144, R177). -/
def soundAncestor : Nat → Ctx → State → State
  | 0, _, s => s
  | n + 1, x, s =>
    match nextNode s x, tget s.hayloft.trees x.tree with
    | some (l, i), some t =>
      if l < t.depth && !(x.path.any (fun p => p.1 == l + 1 && p.2.1 == i / 16)) then
        let (d, s) := cacheUse x.tree (l + 1) (i / 16) s
        if d.isNone then soundAncestor n x s else s
      else s
    | _, _ => s

/-- NODE_FETCH: the runtime reads the next missing node of a CHECKING line from its tree area (R144). -/
def execNodeFetch (ch : Chan) (cs : Cs) (line : BitVec 24) (s : State) : Host.Outcome State Fault Refusal :=
  match findCtx s (spaceOf ch cs) line.toNat with
  | some (k, x) =>
    match nextNode s x, tget s.hayloft.trees x.tree with
    | some _, some t =>
      if x.state = .checking ∧ treeCovers s x.tree ch x.haddr ∧ canWork s ∧ portFree s ch (csOf t.taCs) then
        let s := soundAncestor 7 x s
        match nextNode s x with
        | some (l, i) =>
          .next (modHay (fun h => { h with nodeMisses := satInc h.nodeMisses })
            (startRead ch (.node (csOf t.taCs) x.tree l i (cs, line.toNat)) (putCtx k { x with fetched := true } s)))
        | none => .next s
      else .next s
    | _, _ => .next s
  | none => .next s

/-! ### Gleaning (R179) -/

/-- A context number still to be read in the pass: pinned, and not yet passed. -/
def gleanNext (s : State) : Option Nat :=
  match s.hayloft.ctxs.find? (fun x => s.hayloft.gleanPos ≤ x.1 && x.2.state == .pinned) with
  | some x => some x.1
  | none => s.hayloft.gleanLater.find? (fun k => (tget s.hayloft.ctxs k).any (fun x => x.state == .pinned))

/-- A context has had its turn in the pass. -/
def gleanPassed (k : Nat) (s : State) : State :=
  let s := modHay (fun h => { h with gleanPos := max h.gleanPos (k + 1), gleanLater := h.gleanLater.filter (· != k) }) s
  if s.hayloft.reqState ≠ 1 then modHay (fun h => { h with gleanPos := 0, gleanLater := [] }) s
  else match gleanNext s with
    | some _ => s
    | none => modHay (fun h => { h with gleanPos := 0, gleanLater := [], gleanPasses := satInc h.gleanPasses }) s

/-- GLEANING_READ: the flash behind the pass's next pinned line is read in a gap of its channel; a line whose chip
select is busy is left for later in the pass (R179). -/
def execGleaningRead (ch : Chan) (s : State) : Host.Outcome State Fault Refusal :=
  if hayloftEff s ≠ 1 ∨ s.hayloft.reqState ≠ 1 ∨ !canWork s then .next s
  else match gleanNext s with
    | none => .next s
    | some k =>
      match tget s.hayloft.ctxs k with
      | none => .next s
      | some x =>
        if x.space / 2 ≠ ch.val then .next s
        else if (flashOf (chanAt s ch) (spaceCs x.space)).busy.isSome then
          .next (modHay (fun h => { h with
            gleanPos := max h.gleanPos (k + 1)
            gleanLater := (h.gleanLater.filter (· != k)) ++ [k] }) s)
        else if (chanAt s ch).devRead.isNone ∧ portFree s ch (spaceCs x.space) then .next (startRead ch (.glean k) s)
        else .next s

/-- The gleaned bytes are compared with the pinned ones (R176, R179). -/
def gleanDone (c : Chan) (k : Nat) (s : State) : State :=
  match tget s.hayloft.ctxs k with
  | none => gleanPassed k s
  | some x =>
    if x.state = .pinned then
      let (ok, s) := readBeats k 0 32 s
      let flash := flashRead s c (spaceCs x.space) (x.line * 256) 256
      let s := if ok ∧ flash ≠ padTo x.data 256 then
          lineFail c (spaceCs x.space) x.line x.haddr x.tree causeDiverged
            (modHay (fun h => { h with gleanDiverged := satInc h.gleanDiverged }) s)
        else s
      gleanPassed k s
    else gleanPassed k s

/-! ### Nodes (R143 to R145) -/

/-- The lines that wait on a node: CHECKING under its tree, with the node on their path. -/
def waitsOn (s : State) (c : Chan) (tree level index : Nat) (x : Ctx) : Bool :=
  x.state == .checking && x.tree == tree && x.space / 2 == c.val &&
  (match tget s.hayloft.trees tree with
   | some t => pathIndex (leafIndex t x.haddr) level == index
   | none => false)

/-- The node fails, and every line waiting on it fails with cause TREE. -/
def nodeFail (c : Chan) (tree level index : Nat) (s : State) : State :=
  let xs := s.hayloft.ctxs.filter (fun k => waitsOn s c tree level index k.2)
  xs.foldl (fun t k => lineFail c (spaceCs k.2.space) k.2.line k.2.haddr tree causeTree t)
    (modHay (fun h => { h with nodeFails := satInc h.nodeFails }) s)

/-- An accepted node enters the cache, or the path buffer of the check that fetched it (R143). -/
def nodeEnter (c : Chan) (tree level index : Nat) (data : List Byte) (waiter : Cs × Nat) (s : State) : State :=
  match cacheInsert tree level index data s with
  | some s => s
  | none =>
    match findCtx s (spaceOf c waiter.1) waiter.2 with
    | some (k, x) => putCtx k { x with path := x.path ++ [(level, index, data)] } s
    | none => s

/-- The waiting line, for the node's acceptance: its path buffer and tree. -/
def waiterCtx (s : State) (c : Chan) (tree : Nat) (waiter : Cs × Nat) : Ctx :=
  match findCtx s (spaceOf c waiter.1) waiter.2 with
  | some (_, x) => { x with tree := tree }
  | none => newCtx s 0 0 0 tree false

/-- A node read from flash: accepted, or read again from the vault copy (R144, R145). -/
def nodeArrived (c : Chan) (tree level index : Nat) (waiter : Cs × Nat) (s : State) : State :=
  match tget s.hayloft.trees tree with
  | none => s
  | some t =>
    let data := flashRead s c (csOf t.taCs) (t.taAddr + nodeOffset t level index) 512
    if nodeAccepted s (waiterCtx s c tree waiter) level index data then nodeEnter c tree level index data waiter s
    else if vaultReady s then
      modVault (fun v => { v with ops := v.ops ++ [.node c tree level index waiter] }) s
    else nodeFail c tree level index s

/-- A node read from the vault copy (R145). -/
def nodeFromVault (c : Chan) (tree level index : Nat) (waiter : Cs × Nat) (s : State) : State :=
  match tget s.hayloft.trees tree with
  | none => s
  | some t =>
    let data := userRead s (t.vaultFa.toNat + nodeOffset t level index / 512) 512
    if nodeAccepted s (waiterCtx s c tree waiter) level index data then
      let s := modHay (fun h => { h with
        nodeVault := satInc h.nodeVault, trees := tput h.trees tree { t with areaDamaged := true } }) s
      nodeEnter c tree level index data waiter
        (journal 0x17 0x0200 true (leBytes 2 tree ++ leBytes 1 level ++ leBytes 4 index) s)
    else nodeFail c tree level index s

/-! ### The end of a read -/

/-- A line's beats arrive whole; FILLING with its last beat present goes to CHECKING (R150, R164). -/
def beatsArrive (c : Chan) (m : Cs) (line first last : Nat) (s : State) : State :=
  match findCtx s (spaceOf c m) line with
  | some (k, x) =>
    if x.state = .filling then
      let bytes := flashRead s c m (line * 256 + first * 8) ((last + 1 - first) * 8)
      putCtx k (fillDone (captureBeats x first last bytes).1) s
    else s
  | none => s

/-- A whole line read by a preload; one that could take no way tries again, and fails with cause PLACEMENT when every
way is pinned (R148, R152, R170). -/
def preloadArrive (c : Chan) (m : Cs) (line haddr : Nat) (s : State) : State :=
  match findCtx s (spaceOf c m) line with
  | some _ => beatsArrive c m line 0 31 s
  | none =>
    let v := verdictAt s c (haddr / 256)
    match takeWay s (spaceOf c m) line with
    | .way k => beatsArrive c m line 0 31 (openCtx k (newCtx s (spaceOf c m) line haddr v.tree true) s)
    | .waits => s
    | .none => lineFail c m line haddr v.tree causePlacement s

/-- What a completed read delivers. -/
def readArrive (c : Chan) (r : DevRead) (s : State) : State :=
  match r with
  | .gapFill m line a b => beatsArrive c m line a b s
  | .pinFill m line _ => beatsArrive c m line 0 31 s
  | .preload m line haddr => preloadArrive c m line haddr s
  | .node _ tree level index w => nodeArrived c tree level index w s
  | .glean k => gleanDone c k s
  | .field p m addr n =>
    -- the port's field-access read is complete (R556, R558)
    answerLate p eOk (flashRead s c m addr n)
      { modPort p (fun r => { r with faWait := none }) s with faReads := satInc s.faReads }

/-- A device-initiated read fails: it will be retried, or its retries are used up (R196). -/
def deviceReadFail (c : Chan) (r : DevRead) (s : State) : State :=
  let s := modChan c (fun x => { x with devRead := none }) s
  if (chanAt s c).retries = 3 then permFlash c s else modChan c (fun x => { x with failedRead := some r }) s

/-- DEVICE_READ_COMPLETE: a device-initiated read ends: its bytes arrive, it fails and will be retried, or a host command
cuts it off (R162 to R164, R196, R198). -/
def execDeviceReadComplete (ch : Chan) (e : FlashEnd) (ball : Option U8) (upsets : List Upset) (s : State) :
    Host.Outcome State Fault Refusal :=
  let s := strike upsets s
  match (chanAt s ch).devRead with
  | none => .next s
  | some r =>
    match e with
    | .aborted n => .next (finishAll (abortRead ch n s))
    | .ok =>
      let s := modChan ch (fun x => { x with devRead := none }) (timeoutArrived 0 s)
      .next (finishAll (flashBallCheck ch ball (readArrive ch r (retryWon ch s))))
    | f =>
      let s := if f = .beatErr then countDed 6 s else s
      .next (finishAll (flashBallCheck ch ball (deviceReadFail ch r s)))

/-! ### Checks (R141, R150, R165, R166) -/

/-- The outcome of a check whose nodes are at hand. -/
def checkLine (c : Chan) (m : Cs) (k : Nat) (x : Ctx) (s : State) : State :=
  match tget s.hayloft.trees x.tree with
  | none => lineFail c m x.line x.haddr x.tree causeTree s
  | some t =>
    let leaf := leafIndex t x.haddr
    let (ok, s) := readBeats k 0 32 s
    if !ok then s
    else match (match x.path.find? (fun p => p.1 == 1 && p.2.1 == pathIndex leaf 1) with
        | some p => (some p.2.2, s)
        | none => cacheUse x.tree 1 (pathIndex leaf 1) s) with
      | (none, s) => s
      | (some node, s) =>
        let s := if x.fetched then s else modHay (fun h => { h with nodeHits := satInc h.nodeHits }) s
        if leafDigest x.tree x.haddr (padTo x.data 256) == slice node (32 * (leaf % 16)) 32 then
          let done := { x with path := [], fetched := false, used := s.hayloft.useCount }
          let s := modHay (fun h => { h with useCount := h.useCount + 1 }) s
          if x.pin then
            modChan c (fun ch => { ch with missLogged := ch.missLogged.filter (· != x.space * 2 ^ 24 + x.line) })
              (putCtx k { done with state := .pinned } s)
          else
            modCounts c (fun n => { n with linesVerified := satInc n.linesVerified })
              (timeoutArrived 9 (putCtx k { done with state := .verified } s))
        else lineFail c m x.line x.haddr x.tree causeData (if x.pin then s else timeoutArrived 9 s)

/-- LINE_CHECK_COMPLETE: the leaf digest of a CHECKING line meets its slot (R141, R150); a missing node is waited for. -/
def execLineCheckComplete (ch : Chan) (cs : Cs) (line : BitVec 24) (s : State) : Host.Outcome State Fault Refusal :=
  match findCtx s (spaceOf ch cs) line.toNat with
  | some (k, x) =>
    if x.state ≠ .checking then .next s
    else if !treeCovers s x.tree ch x.haddr then
      .next (finishAll (lineFail ch cs x.line x.haddr x.tree causeTree s))
    else if (nextNode s x).isSome then .next s
    else .next (finishAll (checkLine ch cs k x s))
  | none => .next s

/-- A WATCHED line's staleness time wins (R166). -/
def lineStale (ch : Chan) (cs : Cs) (line : Nat) (s : State) : State :=
  match findCtx s (spaceOf ch cs) line with
  | some (_, x) =>
    if !x.pin ∧ (x.state = .filling ∨ x.state = .checking) then
      finishAll (lineFail ch cs x.line x.haddr x.tree causeStale (timeoutExpired 9 s))
    else s
  | none => s

/-- LINE_STALE. -/
def execLineStale (ch : Chan) (cs : Cs) (line : BitVec 24) (s : State) : Host.Outcome State Fault Refusal :=
  .next (lineStale ch cs line.toNat s)

end Sys2Proof.Machine
end

