-- ==== Sys2Proof/Machine/Operands.lean ====
section
/-! DEFINITION. The object dictionary (chapter 17): its 1,403 entries with type, access and rights, and checks 8 to 11 of
R525 that every operation on an object passes first. -/
namespace Sys2Proof.Machine

/-- Object access (R524). -/
inductive Acc | ro | rw | rwc | wo | x
deriving DecidableEq, Repr

/-- Rights classes (R538); `any` is FA_BASE (R542, R556). -/
inductive Rights | a | h | c | p | u | l | t | any
deriving DecidableEq, Repr

/-- An entry: TYPE code of R524, size of a value or of a domain in bytes, access, rights. -/
structure Entry where
  ty : Nat
  size : Nat
  acc : Acc
  rights : Rights
deriving DecidableEq, Repr

/-- The services of R524 that name an object. -/
inductive Svc | read | write | readBlock | writeBlock | exec | poll
deriving DecidableEq, Repr

/-! ### Types -/

def eB (a : Acc) (r : Rights) : Entry := ⟨1, 1, a, r⟩
def e8 (a : Acc) (r : Rights) : Entry := ⟨2, 1, a, r⟩
def e16 (a : Acc) (r : Rights) : Entry := ⟨3, 2, a, r⟩
def e32 (a : Acc) (r : Rights) : Entry := ⟨4, 4, a, r⟩
def e40 (a : Acc) (r : Rights) : Entry := ⟨5, 5, a, r⟩
def eI (a : Acc) (r : Rights) : Entry := ⟨6, 5, a, r⟩
def eTk (a : Acc) (r : Rights) : Entry := ⟨7, 5, a, r⟩
def eUs (a : Acc) (r : Rights) : Entry := ⟨8, 5, a, r⟩
def eO (n : Nat) (a : Acc) (r : Rights) : Entry := ⟨9, n, a, r⟩
def eD (n : Nat) (a : Acc) (r : Rights) : Entry := ⟨10, n, a, r⟩

/-- `n` entries of one kind. -/
def rep (n : Nat) (e : Entry) : List Entry := List.replicate n e

/-- A page of entries from a first subindex. -/
abbrev Page := Nat × List Entry

/-! ### The map (R546, R547, R550 to R556, R559) -/

def pageIdentity (i : Nat) : Page :=
  match i with
  | 0x1000 => (0, [eO 6 .ro .a, eO 6 .ro .a, eO 6 .ro .a, eO 12 .ro .a, e8 .ro .a, e32 .ro .a])
  | 0x1001 => (0, [e40 .ro .a, e40 .ro .a, e8 .ro .a, eO 48 .ro .a])
  | 0x1002 => (0, [e8 .ro .a, e16 .ro .a, e8 .ro .a])
  | 0x1003 => (0, rep 32 (e40 .ro .a))
  | 0x1004 => (0, rep 16 (e32 .ro .a))
  | 0x1008 => (0, [e32 .ro .a])
  | _ => (0, [])

def pageBoot (i : Nat) : Page :=
  match i with
  | 0x1101 => (0, [e8 .ro .a, e8 .ro .a, e8 .ro .a, e40 .ro .a, e8 .ro .a, e8 .ro .a, e32 .ro .a, e32 .ro .a,
      eB .x .p, e8 .ro .a])
  | 0x1102 => (1, rep 11 (e40 .ro .a))
  | 0x1103 => (0, [eD 0x200840 .wo .p, eB .x .p, e8 .ro .p])
  | 0x1104 => (1, rep 10 (e8 .ro .a))
  | 0x1110 => (0, rep 2 (e16 .ro .a))
  | 0x1120 => (0, [eB .ro .a, eB .ro .a, eUs .ro .a, e40 .ro .a, e32 .ro .a, e32 .ro .a])
  | 0x1130 => (0, rep 8 (eI .ro .a))
  | 0x1131 => (0, rep 8 (eI .ro .a))
  | 0x1132 => (0, rep 7 (e16 .ro .a))
  | 0x1133 => (0, rep 7 (e16 .ro .a))
  | 0x1134 => (0, rep 7 (e16 .ro .a))
  | 0x1140 => (0, rep 8 (e32 .ro .h))
  | 0x1141 => (0, rep 8 (e32 .ro .h))
  | 0x1142 => (0, [e32 .ro .h, e40 .ro .h])
  | _ => (0, [])

def pageLife (i : Nat) : Page :=
  match i with
  | 0x1200 => (0, [e8 .ro .a, e16 .ro .h, e8 .x .p, e40 .x .p])
  | 0x1201 => (0, [eO 64 .ro .p, eO 256 .wo .p, eB .x .p, e8 .ro .a])
  | 0x1202 => (0, [e8 .ro .h, e8 .rw .p, eO 48 .wo .p, eB .x .p, e8 .x .p, e32 .ro .h, eB .x .p, e8 .ro .h])
  | 0x1203 => (0, [eO 16 .ro .a])
  | _ => (0, [])

def pageLink (i : Nat) : Page :=
  let port : Page := (0, [e8 .ro .a, e8 .rwc .a, e8 .rwc .a, e8 .ro .a, e8 .ro .a, e8 .ro .a, e8 .ro .a] ++
    rep 6 (e32 .ro .a) ++ [e40 .ro .a])
  match i with
  | 0x2000 => port
  | 0x2001 => port
  | 0x2002 => (0, [e8 .ro .a, e8 .ro .a])
  | 0x2003 => (0, [e8 .ro .a, e16 .ro .a, e16 .rwc .a])
  | 0x2100 => (0, [e40 .ro .h, e16 .ro .h, e32 .ro .h, eB .x .h, e40 .ro .h])
  | 0x2101 => (0, [eD 196608 .ro .h])
  | 0x2102 => (0, [eD 65536 .ro .h])
  | _ => (0, [])

/-- The channel block, by the low byte of the index (R552). -/
def pageChannel (k : Nat) : Page :=
  match k with
  | 0x00 => (0, [eB .ro .c, eB .ro .c, e8 .rwc .c, e8 .ro .c, e32 .ro .c])
  | 0x01 => (0, [e8 .rw .c, e8 .ro .c, e8 .ro .c])
  | 0x02 => (0, rep 4 (e32 .ro .c) ++ [e16 .ro .c, e40 .ro .c])
  | 0x03 => (0, [eB .x .c, eB .x .c, e8 .ro .c])
  | 0x04 => (0, [e40 .rwc .c, e8 .ro .c, e40 .ro .c, e32 .ro .c])
  | 0x10 => (0, [e8 .ro .c, e8 .ro .c, e8 .rwc .c, eB .rwc .c, eO 3 .rwc .c])
  | 0x11 => (0, rep 7 (e8 .ro .c))
  | 0x12 => (0, rep 7 (e32 .ro .c))
  | 0x13 => (0, rep 3 (e32 .ro .c))
  | 0x14 => (0, rep 8 (e32 .ro .c))
  | 0x15 => (0, [eO 16 .ro .c])
  | _ => (0, [])

def pageFlashTree (i : Nat) : Page :=
  match i with
  | 0x3600 => (0, [e8 .rwc .h, e8 .ro .h] ++ rep 4 (e32 .ro .h))
  | 0x3601 => (0, [e8 .rw .h, e8 .ro .h, e8 .ro .h])
  | 0x3602 => (0, [eB .x .h, e8 .ro .h])
  | 0x4000 => (0, [e8 .ro .h, e32 .ro .h, e16 .ro .h, e16 .ro .h, e32 .ro .h, e32 .ro .h, e40 .ro .h, eB .x .h,
      e16 .ro .h])
  | 0x4100 => (0, [e16 .rw .h, eO 16 .rwc .h, eO 16 .ro .h, e32 .ro .h])
  | 0x4101 => (0, [eD 0x100000 .rwc .h])
  | 0x5000 => (0, [e32 .ro .h, e32 .ro .h, e32 .ro .h, e32 .ro .h, e16 .ro .h, e32 .ro .h, eB .x .h, e32 .ro .h,
      e32 .ro .h])
  | 0x5001 => (0, [e8 .rw .h, e8 .ro .h, e8 .ro .h])
  | 0x5002 => (0, rep 4 (e32 .ro .h))
  | 0x5003 => (0, [e16 .rw .t, e40 .ro .t])
  | 0x5100 => (0, [e16 .rw .h, eO 64 .ro .h, e16 .ro .h])
  | 0x5101 => (0, [eD 262144 .ro .h])
  | _ => (0, [])

def pageVault (i : Nat) : Page :=
  match i with
  | 0x6000 => (0, [e8 .ro .h, e40 .ro .h, eO 16 .ro .h, eB .ro .h, eB .ro .h, eO 96 .rwc .h, eB .x .h, e32 .ro .h,
      e32 .ro .h, e32 .ro .h, e32 .ro .h, e32 .ro .h, eB .ro .h])
  | 0x6001 => (0, [e8 .rw .h, e8 .ro .h, e8 .ro .h])
  | 0x6002 => (0, [eB .x .h, e8 .ro .h])
  | 0x6003 => (1, rep 6 (e40 .ro .h))
  | 0x6004 => (0, [e8 .rw .h, e40 .ro .h])
  | 0x6005 => (0, [e32 .ro .h, eB .x .h, e40 .ro .h])
  | 0x6006 => (0, [e32 .ro .h, e32 .ro .h, e40 .ro .h])
  | 0x6100 => (0, [e16 .rw .h, eB .x .h])
  | 0x6101 => (0, rep 6 (e8 .ro .c))
  | 0x6102 => (0, rep 6 (e32 .ro .c))
  | 0x6103 => (0, rep 6 (e40 .ro .c))
  | 0x6104 => (0, rep 3 (e32 .ro .h))
  | 0x6105 => (0, rep 6 (e8 .ro .c))
  | 0x7000 => (0, [e8 .ro .h] ++ rep 6 (eB .x .h) ++ [e40 .ro .h, e32 .ro .h, e32 .ro .h, eB .ro .h])
  | 0x7001 => (0, [eD 71744 .wo .h, eO 48 .ro .h])
  | 0x7002 => (0, [e16 .rw .h, eD (2 ^ 40) .wo .h, e40 .ro .h, e8 .ro .h])
  | 0x7010 => (0, [eO 32 .ro .h, eO 32 .ro .h, eO 32 .ro .h, e32 .ro .h, e8 .ro .h, eB .ro .h])
  | _ => (0, [])

def pageRandom (i : Nat) : Page :=
  let src : Page := (0, [e8 .ro .h, e8 .ro .h, e32 .ro .h, e32 .ro .h, e32 .ro .h, e40 .ro .h])
  match i with
  | 0x8000 => (0, [e8 .ro .h, e8 .ro .h, e32 .ro .h, eB .rw .p, e32 .rw .p, e8 .x .p])
  | 0x8010 => src
  | 0x8011 => src
  | 0x8012 => src
  | 0x8020 => (0, [e8 .rw .u, eB .ro .u, e40 .ro .u, eD 4096 .ro .u, eB .rw .u])
  | 0x8030 => (0, [e8 .ro .h, e40 .rwc .h, e32 .rwc .h, e32 .rwc .h, eB .x .h, e40 .ro .h, e32 .ro .h, e32 .ro .h,
      e40 .ro .h, e32 .ro .h, e32 .ro .h])
  | _ => (0, [])

def bankPage : Page :=
  (0, [e8 .ro .u, e8 .ro .u, e8 .rw .u, e8 .rw .u, e40 .rw .u, e40 .ro .u, eD (2 ^ 40) .wo .u, e16 .x .u, eB .x .u,
    eO 255 .ro .u, eB .x .u, eO 232 .rw .u, eB .x .u, eB .x .u, eB .ro .u, e8 .ro .u])

def ctxPage : Page :=
  (0, [e8 .ro .u, e8 .ro .u, e8 .rw .u, e8 .rw .u, e8 .rw .u, eO 16 .rw .u, e40 .rw .u, e40 .rw .u,
    eD (2 ^ 40) .rw .u, eO 16 .rw .u, eB .x .u, eB .x .u, e40 .ro .u, e40 .ro .u, e8 .ro .u])

def unitPage : Page :=
  (0, [e8 .ro .u, e8 .ro .u, e8 .rw .u, eO 8 .rw .u, eO 8 .rw .u, eO 8 .rw .u, e8 .rw .u, e8 .rw .u, e40 .rw .u,
    e32 .rw .u, eB .x .u, e8 .x .u, e16 .x .u, e40 .x .u, eD (2 ^ 40) .wo .u, eB .x .u, eO 8 .ro .u, eB .x .u,
    e40 .ro .u])

def pageCrypto (i : Nat) : Page :=
  match i with
  | 0x8100 => (0, [e8 .ro .u, eB .x .u, e8 .ro .u, e32 .ro .u])
  | 0x8200 => (0, [e8 .ro .u, eB .x .u, e8 .ro .u, e32 .ro .u])
  | 0x8300 => (0, [e8 .rw .u, e32 .ro .u, e32 .rw .u, eB .x .u, e8 .x .u, eO 16 .rw .u, eO 48 .rw .u, e8 .x .u,
      e8 .x .u, eO 64 .rw .u, eO 48 .wo .u, eB .x .u, eB .x .u, e8 .ro .h, e8 .ro .h, e8 .ro .h, e8 .x .p, eB .x .p,
      e32 .ro .h])
  | 0x8400 => (0, [e8 .ro .h, e8 .ro .h, e32 .ro .h, e32 .ro .h, e32 .ro .h, e32 .ro .h])
  | 0x8401 => (0, [e8 .rw .u, e8 .ro .u, e40 .x .u, e8 .ro .u, e40 .ro .u, e8 .ro .u, eD 1024 .rw .u, e8 .rw .u,
      e16 .ro .u, eB .x .u])
  | 0x8500 => (0, [e8 .ro .u, eB .x .u, e8 .ro .u, e32 .ro .u])
  | _ =>
    if 0x8110 ≤ i ∧ i < 0x8118 then bankPage
    else if 0x8210 ≤ i ∧ i < 0x8214 then ctxPage
    else if 0x8510 ≤ i ∧ i < 0x8518 then unitPage
    else (0, [])

def pageSupervision (i : Nat) : Page :=
  match i with
  | 0x9000 => (0, [e32 .ro .h, e32 .ro .h, e16 .ro .h, eB .x .h, eB .x .h, e16 .ro .h, e32 .ro .h])
  | 0x9001 => (0, [eO 128 .ro .h, e8 .ro .h, e8 .ro .h])
  | 0x9002 => (0, [e8 .ro .h, eB .x .h])
  | 0xA000 => (0, [e8 .ro .h, e8 .rwc .h, e16 .rwc .h, e16 .rwc .h, e8 .rwc .h, e16 .rwc .h, eB .x .h, e8 .ro .h])
  | 0xA001 => (0, [e8 .x .l, e16 .x .l, e16 .ro .h, e16 .ro .h, e16 .ro .h, eTk .ro .h, e32 .ro .h, eUs .ro .h,
      e40 .ro .h])
  | 0xA002 => (0, [e8 .ro .h, e16 .ro .h, e16 .ro .h, e40 .ro .h, e40 .ro .h, eUs .ro .h, e40 .ro .h, eUs .ro .h,
      e32 .ro .h])
  | 0xA120 => (0, rep 6 (e32 .ro .c))
  | _ =>
    if 0x9010 ≤ i ∧ i ≤ 0x9019 then (0, [e16 .rwc .h, e16 .rwc .h, e32 .ro .h, e32 .ro .h, e32 .ro .h])
    else if 0xA100 ≤ i ∧ i < 0xA108 then
      (0, [e8 .rwc .u, e8 .rw .u, eTk .rw .u, eTk .ro .u, eB .x .u, eB .x .u, e32 .ro .u, e8 .ro .u])
    else if 0xA110 ≤ i ∧ i < 0xA11E then
      (0, [eUs (if [0, 1, 2, 5, 0xD].contains (i - 0xA110) then .rwc else .ro) .h, e32 .ro .h, e32 .ro .h, e8 .ro .h])
    else (0, [])

def pageTop (i : Nat) : Page :=
  match i with
  | 0xB000 => (0, [e8 .ro .a, eO 96 .ro .a, eO 96 .ro .a, e32 .ro .a, e32 .ro .a])
  | 0xB001 => (0, [eD 65536 .ro .a])
  | 0xB002 => (0, [e8 .rw .a, eO 55 .ro .a])
  | 0xC001 => (0, [eB .x .u, e40 .ro .u, eB .x .u, e16 .ro .u])
  | 0xC002 => (0, [e32 .ro .h, e8 .ro .h, eUs .ro .h])
  | 0xC020 => (0, [e8 .rwc .p, e8 .rwc .p])
  | 0xD000 => (0, [e40 .rw .any, eD (2 ^ 32) .ro .any, e32 .ro .h])
  | 0xE000 => (0, [eD 2048 .ro .t, e32 .ro .t])
  | 0xE002 => (0, [e8 .rw .t, e8 .x .t, e8 .ro .t])
  | _ =>
    if 0xE010 ≤ i ∧ i < 0xE018 then (0, [eB .x .t, e8 .ro .t, e40 .rw .t, eO 9 .rw .t, eB .x .t])
    else (0, [])

/-- The page of an index. -/
def pageOf (i : Nat) : Page :=
  match i / 256 with
  | 0x10 => pageIdentity i
  | 0x11 => pageBoot i
  | 0x12 => pageLife i
  | 0x20 => pageLink i
  | 0x21 => pageLink i
  | 0x30 => pageChannel (i % 256)
  | 0x31 => pageChannel (i % 256)
  | 0x32 => pageChannel (i % 256)
  | 0x33 => pageChannel (i % 256)
  | 0x34 => pageChannel (i % 256)
  | 0x35 => pageChannel (i % 256)
  | 0x36 => pageFlashTree i
  | 0x40 => pageFlashTree i
  | 0x41 => pageFlashTree i
  | 0x50 => pageFlashTree i
  | 0x51 => pageFlashTree i
  | 0x60 => pageVault i
  | 0x61 => pageVault i
  | 0x70 => pageVault i
  | 0x80 => pageRandom i
  | 0x81 => pageCrypto i
  | 0x82 => pageCrypto i
  | 0x83 => pageCrypto i
  | 0x84 => pageCrypto i
  | 0x85 => pageCrypto i
  | 0x90 => pageSupervision i
  | 0xA0 => pageSupervision i
  | 0xA1 => pageSupervision i
  | 0xB0 => pageTop i
  | 0xC0 => pageTop i
  | 0xD0 => pageTop i
  | 0xE0 => pageTop i
  | _ => (0, [])

/-- Journal sources with a DROPS entry (R430). -/
def journalSources : List Nat :=
  [0x00, 0x01, 0x02, 0x10, 0x11, 0x12, 0x13, 0x14, 0x15, 0x16, 0x17, 0x18, 0x20, 0x28, 0x29, 0x30, 0x31, 0x38, 0x40, 0x41,
   0x48]

/-- Claim ids (R45, R546). -/
def claimIds : List Nat :=
  [0x01, 0x02, 0x04, 0x05, 0x06, 0x07, 0x10, 0x11, 0x12, 0x13, 0x14, 0x15, 0x16, 0x17, 0x20, 0x21, 0x22]

/-- The entry of an index.subindex (R537). -/
def entryAt (i sub : Nat) : Option Entry :=
  if i = 0x2103 then (if journalSources.contains sub then some (e32 .ro .h) else none)
  else if i = 0xC010 then (if claimIds.contains sub then some (e8 .ro .h) else none)
  else
    let (first, es) := pageOf i
    if sub < first then none else es[sub - first]?

/-! ### Check 8: the phase (R230, R543) -/

/-- Early objects (R230). -/
def earlyObject (i sub : Nat) : Bool :=
  (0x1000 ≤ i && i < 0x1100) || (i == 0x1101 && sub ≤ 9) || (i == 0x1102 && 1 ≤ sub && sub ≤ 11) ||
  (i == 0x1200 && sub == 0) || (i == 0x2100 && sub == 0)

/-- Ranges that TEST phase opens to writes (R543). -/
def testWritable (i : Nat) : Bool :=
  (0x1000 ≤ i && i < 0x1300) || (0x2000 ≤ i && i < 0x2200) || (0x8000 ≤ i && i < 0x8600) ||
  (0x9000 ≤ i && i < 0xA200) || (0xB000 ≤ i && i < 0xB100) || (0xD000 ≤ i && i < 0xD100) || (0xE000 ≤ i && i < 0xE100)

def Svc.reads : Svc → Bool
  | .read | .readBlock | .poll => true
  | _ => false

/-- The phase admits the request (R230, R499, R543). Port L is not a management port. -/
def phaseAdmits (s : State) (p : Port) (v : Svc) (i sub : Nat) : Bool :=
  if p = .l then true
  else match s.phase with
    | .service => true
    | .test =>
      if i = 0x1103 then false
      else v.reads || testWritable i
    | _ =>
      let recovery := s.phase == .recovery
      ((v == .read || v == .readBlock) && earlyObject i sub) ||
      (recovery && v.reads && 0x2100 ≤ i && i < 0x2200) ||
      (recovery && i == 0x1103) ||
      (i == 0x1101 && sub == 8 && v == .exec) ||
      (recovery && i == 0x1200 && (sub == 2 || sub == 3) && v == .exec)

/-! ### Check 10: rights (R538 to R542) -/

/-- Selectors take the read rights of their window (R542). -/
def isSelector (i sub : Nat) : Bool :=
  [(0x4100, 0), (0x5100, 0), (0x5003, 0), (0xB002, 0), (0x8300, 0), (0x6004, 0), (0x7002, 0), (0x8401, 7), (0xE002, 0),
   (0xD000, 0)].contains (i, sub)

/-- The channel of an entry of class C. -/
def entryChannel (i sub : Nat) : Nat := if 0x3000 ≤ i ∧ i < 0x3600 then i / 256 - 0x30 else sub

/-- TU_OWNER code of a port (R480). -/
def timerCode : Port → Nat
  | .mp0 => 0x40
  | .mp1 => 0x41
  | .l => 0x02

/-- The owner of the unit an entry of class U belongs to admits the port (R331, R349, R480, R488). -/
def ownerAdmits (s : State) (p : Port) (reads : Bool) (i sub : Nat) : Bool :=
  if 0x8110 ≤ i ∧ i < 0x8118 then sub ≤ 1 || (s.banks[unit8 (i - 0x8110)]).owner == some p
  else if 0x8210 ≤ i ∧ i < 0x8214 then
    sub ≤ 1 || (s.cxs.toList.getD (i - 0x8210) {}).owner == some p
  else if 0x8510 ≤ i ∧ i < 0x8518 then sub ≤ 1 || (s.cus[unit8 (i - 0x8510)]).owner == some p
  else if 0xA100 ≤ i ∧ i < 0xA108 then
    let owner := cfgNat s i 0
    sub == 0 || owner == timerCode p || (owner == 0 && !reads && (sub == 1 || sub == 2 || sub == 4))
  else true

/-- The port's role and the life-cycle state grant the service (R531, R538, R539). -/
def roleGrants (s : State) (p : Port) (e : Entry) (reads : Bool) (i sub : Nat) : Bool :=
  match p with
  | .l => true
  | p =>
    let k := if p = .mp0 then 0 else 1
    let role := cfgNat s (0x2000 + k) 1
    let bound := cfgNat s 0xC020 k
    let reads := reads || isSelector i sub
    match e.rights with
    | .a => reads || role == 0
    | .h => if reads then role ≤ 1 else role == 0
    | .c => if reads then role ≤ 1 || (role == 2 && bound == entryChannel i sub) else role == 0
    | .p => role == 0
    | .u => role ≤ 1
    | .l => false
    | .t => role == 0 && lcMakerOrReturned s
    | .any => true

/-! ### Check 11: access and type -/

/-- The service suits the access and type; `n` is the size of the value or data that came with it. -/
def suits (e : Entry) (v : Svc) (n : Nat) : U8 :=
  match v with
  | .read | .poll =>
    if e.acc = .wo ∨ e.acc = .x then eAccess else if e.ty = 10 then eType else eOk
  | .readBlock =>
    if e.acc = .wo ∨ e.acc = .x then eAccess else if e.ty ≠ 10 then eType else eOk
  | .write =>
    if e.acc = .ro ∨ e.acc = .x then eAccess else if e.ty = 10 ∨ n ≠ e.size then eType else eOk
  | .writeBlock =>
    if e.acc = .ro ∨ e.acc = .x then eAccess else if e.ty ≠ 10 then eType else eOk
  | .exec => if e.acc ≠ .x then eAccess else if n ≠ e.size then eType else eOk

/-- Checks 8 to 11 of R525. -/
def opCheck (s : State) (p : Port) (v : Svc) (i sub n : Nat) : U8 :=
  if !phaseAdmits s p v i sub then eNotReady
  else match entryAt i sub with
    | none => eNoObject
    | some e =>
      if !(roleGrants s p e v.reads i sub && ownerAdmits s p v.reads i sub) then eAccess
      else suits e v n

/-! ### Requests -/

/-- A port's request reaches the dictionary: a management port answers after LIFECYCLE while the cores run; port L is the
runtime (R230, R517). -/
def reachable? (s : State) (p : Port) : Bool :=
  match p with
  | .l => runtimeUp s || (coresRun s && s.phase == .recovery)
  | _ => coresRun s && s.mgmtUp

/-- A request of the port has been executed and its answer is still to come (R529). -/
def portBusy (s : State) (p : Port) : Bool :=
  (portRegs s p).faWait.isSome || s.update.act.any (fun a => a.confirmPort == some p) ||
  (match mportOf p with | some m => (mportAt s m).current.isSome | none => false)

/-- The port takes a request now: it is reached, and no earlier request of it is in progress (R529). -/
def servable (s : State) (p : Port) : Bool := reachable? s p && !portBusy s p

/-- The control fabric carries the request: an error injected into its next word is met here (R36, R560); the answer
says whether the word was lost. -/
def fabricWord (s : State) : Bool × State :=
  let (r, s) := readWord 7 0 s
  (r == .double, if r = .double then cleanWords 7 0 1 s else s)

/-- A request and its checks up to the object's own rule. -/
def request (p : Port) (v : Svc) (i sub n : Nat) (s : State) : U8 × State :=
  let (lost, s) := fabricWord s
  (if lost then eIntegrity else opCheck s p v i sub n, s)

/-- A request that carries no result: its checks, then the object's own rule, which answers with a code and the state
after. -/
def requestOp (p : Port) (v : Svc) (i sub n : Nat) (rule : State → U8 × State) (s : State) :
    Host.Outcome State Fault Refusal :=
  if !servable s p then .next s
  else
    let (c, s) := request p v i sub n s
    if c ≠ eOk then .next (reply p c s)
    else let (c, t) := rule s; .next (reply p c t)

/-- An EXEC. -/
def execOp (p : Port) (i sub n : Nat) (rule : State → U8 × State) (s : State) : Host.Outcome State Fault Refusal :=
  requestOp p .exec i sub n rule s

/-- A WRITE of a value. -/
def writeOp (p : Port) (i sub n : Nat) (rule : State → U8 × State) (s : State) : Host.Outcome State Fault Refusal :=
  requestOp p .write i sub n rule s

/-- A WRITE_BLOCK. -/
def blockOp (p : Port) (i sub n : Nat) (rule : State → U8 × State) (s : State) : Host.Outcome State Fault Refusal :=
  requestOp p .writeBlock i sub n rule s

/-- A READ or READ_BLOCK: its checks, then the object's rule, which also gives the bytes. -/
def readOp (p : Port) (v : Svc) (i sub : Nat) (rule : State → U8 × List Byte × State) (s : State) :
    Host.Outcome State Fault Refusal :=
  if !servable s p then .next s
  else
    let (c, s) := request p v i sub 0 s
    if c ≠ eOk then .next (reply p c s)
    else let (c, d, t) := rule s; .next (answer p c d t)

/-- The number of entries in the map: 1,403 (R537). -/
def entryCount : Nat :=
  (List.range 0xE100).foldl (fun a i =>
    if i = 0x2103 then a + journalSources.length else if i = 0xC010 then a + claimIds.length
    else a + (pageOf i).2.length) 0

end Sys2Proof.Machine
end

