-- ==== Sys2Proof/Machine/Digest.lean ====
section
/-! DEFINITION. The digest engine: grants, jobs, keyed banks, export and import (R328 to R346). -/
namespace Sys2Proof.Machine

/-! ### Algorithms (R328, R341) -/

/-- Block size in bytes; 0 for a code that names no algorithm. -/
def algBlock (alg : Nat) : Nat :=
  match alg with
  | 1 => 64 | 2 => 128 | 3 => 128 | 4 => 136 | 5 => 104 | 6 => 136 | _ => 0

/-- Bytes of the chaining value or Keccak state. -/
def algState (alg : Nat) : Nat :=
  match alg with
  | 1 => 32 | 2 => 64 | 3 => 64 | 4 => 200 | 5 => 200 | 6 => 200 | _ => 0

/-- The initial value. -/
def algInit (alg : Nat) : List Byte :=
  match alg with
  | 1 => wordBytes 4 sha256Init
  | 2 => wordBytes 8 sha384Init
  | 3 => wordBytes 8 sha512Init
  | _ => zeros 200

/-- Absorbs whole blocks. -/
def algAbsorb (alg : Nat) (st bs : List Byte) : List Byte :=
  let n := bs.length / algBlock alg
  match alg with
  | 1 => wordBytes 4 (sha256Blocks n (beWords 32 4 st) bs)
  | 2 => wordBytes 8 (sha512Blocks n (beWords 64 8 st) bs)
  | 3 => wordBytes 8 (sha512Blocks n (beWords 64 8 st) bs)
  | _ => spongeBlocks (algBlock alg) n st bs

/-- Pads, absorbs the rest and gives the digest. -/
def algEnd (alg outLen : Nat) (st buf : List Byte) (total : Nat) : List Byte :=
  match alg with
  | 1 => sha256End (beWords 32 4 st) buf total
  | 2 => (sha512End (beWords 64 8 st) buf total).take 48
  | 3 => sha512End (beWords 64 8 st) buf total
  | 4 => spongeEnd 136 0x06 st buf 32
  | 5 => spongeEnd 104 0x06 st buf 48
  | _ => spongeEnd 136 0x1F st buf outLen

/-! ### Banks -/

def bankAt (s : State) (b : Fin 8) : Bank := s.banks[b]

/-- An operation on a bank: LAST_CODE records its code (R346). -/
def bankOp (b : Fin 8) (f : Bank → U8 × Bank) (s : State) : U8 × State :=
  let (c, k) := f (bankAt s b)
  (c, modBank b (fun _ => { k with lastCode := c }) s)

/-- The bank's job holds bytes in order: whole blocks are compressed, the rest is kept (R334). -/
def bankAbsorb (data : List Byte) (k : Bank) : Bank :=
  let all := k.buffer ++ data
  let n := all.length / algBlock k.alg.toNat * algBlock k.alg.toNat
  { k with
    chain := algAbsorb k.alg.toNat k.chain (all.take n), buffer := all.drop n
    absorbed := k.absorbed + BitVec.ofNat 40 data.length }

def poisoned (k : Bank) : Bank := { k with st := .poisoned, keys := [] }

/-- RELEASE's effect: the bank is FREE and what it held is zero (R336). -/
def freeBank (k : Bank) : Bank :=
  { k with st := .free, owner := none, chain := [], buffer := [], digest := zeros 255, blob := zeros 232,
           keyed := false, keys := [] }

/-! ### DG_ALLOC (R330, R331, R345) -/

/-- Free banks in the order a port is granted them. -/
def bankChoice (s : State) (p : Port) : Option (Fin 8) :=
  let order : List (Fin 8) := if p = .l then [0, 1, 2, 3, 4, 5, 6, 7] else [1, 2, 3, 4, 5, 6, 7]
  let held := (s.banks.toList.filter (fun k => k.owner == some p)).length
  if p ≠ .l ∧ 3 ≤ held then none else order.find? (fun b => (bankAt s b).st == .free)

def dgAllocRule (p : Port) (s : State) : U8 × State :=
  let put := fun (v : U8) (s : State) => modPort p (fun r => { r with dgGranted := v }) s
  if s.digestHealth.retired then (eRetired, s)
  else match bankChoice s p with
    | some b =>
      (eOk, put (BitVec.ofNat 8 b.val) (modBank b (fun k => { k with st := .idle, owner := some p }) s))
    | none => (eBusy, put 0xFF s)

/-- DG_ALLOC. -/
def execDgAlloc (p : Port) (s : State) : Host.Outcome State Fault Refusal := execOp p 0x8100 1 1 (dgAllocRule p) s

/-! ### Jobs (R333 to R337) -/

/-- Writes to ALG, OUT_LEN and BLOB (R328, R333, R346). -/
def bankWriteRule (b : Fin 8) (sub : Nat) (v : List Byte) (s : State) : U8 × State :=
  let n := leNat v
  bankOp b (fun k =>
    if k.st = .poisoned then (eState, k)
    else if sub = 2 then
      if k.st = .absorbing then (eState, k) else if algBlock n = 0 then (eRange, k)
      else (eOk, { k with alg := BitVec.ofNat 8 n })
    else if sub = 3 then
      if k.st = .absorbing then (eState, k) else if n = 0 then (eRange, k)
      else (eOk, { k with outLen := BitVec.ofNat 8 n })
    else if k.st = .idle ∨ k.st = .done then (eOk, { k with blob := padTo v 232 }) else (eState, k)) s

def dgDeclRule (b : Fin 8) (v : U40) (s : State) : U8 × State :=
  bankOp b (fun k =>
    if k.st ≠ .idle ∧ k.st ≠ .done then (eState, k)
    else if algBlock k.alg.toNat = 0 then (eState, k)
    else (eOk, { k with
      st := .absorbing, declLength := v, absorbed := 0, keyed := false, keys := [], buffer := []
      chain := algInit k.alg.toNat })) s

/-- DG_DECL_LENGTH starts a job. -/
def execDgDeclLength (p : Port) (b : Fin 8) (value : U40) (s : State) : Host.Outcome State Fault Refusal :=
  writeOp p (0x8110 + b.val) 4 5 (dgDeclRule b value) s

def dgDataRule (b : Fin 8) (off : Nat) (data : List Byte) (s : State) : U8 × State :=
  bankOp b (fun k =>
    if k.st ≠ .absorbing then (eState, k)
    else if off ≠ k.absorbed.toNat then (eRange, k)
    else if k.declLength.toNat < off + data.length then (eLength, poisoned k)
    else (eOk, bankAbsorb data k)) s

/-- DG_DATA. -/
def execDgData (p : Port) (b : Fin 8) (offset : U40) (data : List Byte) (s : State) :
    Host.Outcome State Fault Refusal :=
  blockOp p (0x8110 + b.val) 6 data.length (dgDataRule b offset.toNat data) s

def dgFinishRule (b : Fin 8) (s : State) : U8 × State :=
  bankOp b (fun k =>
    if k.st ≠ .absorbing then (eState, k)
    else if k.absorbed.toNat < k.declLength.toNat then (eLength, poisoned k)
    else
      let d := algEnd k.alg.toNat k.outLen.toNat k.chain k.buffer k.absorbed.toNat
      (eOk, { k with st := .done, digest := padTo d 255, keys := [] })) s

/-- DG_FINISH. -/
def execDgFinish (p : Port) (b : Fin 8) (s : State) : Host.Outcome State Fault Refusal :=
  execOp p (0x8110 + b.val) 8 1 (dgFinishRule b) s

def dgReleaseRule (b : Fin 8) (s : State) : U8 × State := bankOp b (fun k => (eOk, freeBank k)) s

/-- DG_RELEASE. -/
def execDgRelease (p : Port) (b : Fin 8) (s : State) : Host.Outcome State Fault Refusal :=
  execOp p (0x8110 + b.val) 0xD 1 (dgReleaseRule b) s

/-! ### Key-store slots as other blocks see them (R356 to R358) -/

def keySlot (s : State) (n : Nat) : KeySlot := (tget s.keys.slots n).getD {}

def ksState (a : U32) : Nat := bits a.toNat 31 29
def ksSize (a : U32) : Nat := bits a.toNat 28 27
def ksOwner (a : U32) : Nat := bits a.toNat 23 22
def ksInternal (a : U32) : Bool := a.getLsbD 10
def ksRomOnly (a : U32) : Bool := a.getLsbD 9

/-- The slot holds a key (an odd half is no key of its own). -/
def ksLoaded (s : State) (n : Nat) : Bool := ksState (keySlot s n).attr == 1

/-- A port may use a slot (R358). -/
def ksUsable (s : State) (p : Port) (n : Nat) : Bool :=
  let a := (keySlot s n).attr
  if n < 16 then p == .l && (!ksRomOnly a || s.keys.romRuns) && !ksInternal a else ksOwner a == (portNo p).val

/-- The key bytes of a slot: 16, 32, or 48 from a pair. -/
def ksKey (s : State) (n : Nat) : List Byte :=
  let k := keySlot s n
  match ksSize k.attr with
  | 0 => k.key.take 16
  | 1 => k.key
  | _ => k.key ++ (keySlot s (n + 1)).key.take 16

/-! ### ABSORB_KEY (R338, R339) -/

def absorbKeyRule (p : Port) (b : Fin 8) (v : U16) (s : State) : U8 × State :=
  let slot := bits v.toNat 5 0
  let pad := bits v.toNat 15 8
  bankOp b (fun k =>
    let n := algBlock k.alg.toNat
    if k.st ≠ .absorbing ∨ k.absorbed.toNat % n ≠ 0 then (eState, k)
    else if bits v.toNat 7 6 ≠ 0 ∨ !(pad == 0 || pad == 0x36 || pad == 0x5C) then (eRange, k)
    else if !(ksLoaded s slot && (keySlot s slot).attr.getLsbD 0 && ksUsable s p slot) then (eAccess, k)
    else if b ≠ 0 ∧ !inService s then (eState, k)
    else if k.declLength.toNat < k.absorbed.toNat + n then (eLength, poisoned k)
    else
      let block := (padTo (ksKey s slot) n).map (· ^^^ BitVec.ofNat 8 pad)
      let k := bankAbsorb block k
      (eOk, { k with keyed := true, keys := insertNat slot k.keys })) s

/-- ABSORB_KEY. -/
def execAbsorbKey (p : Port) (b : Fin 8) (value : U16) (s : State) : Host.Outcome State Fault Refusal :=
  execOp p (0x8110 + b.val) 7 2 (absorbKeyRule p b value) s

/-! ### EXPORT and IMPORT (R340 to R342) -/

/-- The state blob in plain (R341). -/
def plainBlob (k : Bank) : List Byte :=
  leBytes 1 k.alg.toNat ++ leBytes 1 (b2n k.keyed) ++ leBytes 1 k.outLen.toNat ++ zeros 5 ++
  leBytes 5 k.declLength.toNat ++ zeros 3 ++ leBytes 5 k.absorbed.toNat ++ zeros 3 ++ padTo k.chain (algState k.alg.toNat)

/-- A wrapped blob is required (R340). -/
def wrapRequired (s : State) (b : Fin 8) : Bool := inService s || b == 0

def exportRule (b : Fin 8) (s : State) : U8 × State :=
  bankOp b (fun k =>
    if k.st ≠ .absorbing ∨ k.absorbed.toNat % algBlock k.alg.toNat ≠ 0 then (eState, k)
    else if !wrapRequired s b then (eOk, { k with blob := padTo (plainBlob k) 232 })
    else if !ksLoaded s 8 then (eNotReady, k)
    else (eOk, { k with blob := padTo (aesKw (ksKey s 8) (plainBlob k)) 232 })) s

/-- EXPORT. -/
def execExportState (p : Port) (b : Fin 8) (s : State) : Host.Outcome State Fault Refusal :=
  execOp p (0x8110 + b.val) 0xA 1 (exportRule b) s

/-- The plain blob that a wrapped one holds: one of the three lengths unwraps. -/
def unwrapBlob (key blob : List Byte) : Option (List Byte) :=
  [64, 96, 232].foldl (fun a n => match a with | some x => some x | none => aesKwUnwrap key (blob.take n)) none

/-- A plain blob has no fault of R342. -/
def blobOk (d : List Byte) : Bool :=
  let n := algBlock (byteAt d 0)
  n != 0 && byteAt d 1 < 2 && allZero (slice d 3 5) && allZero (slice d 0x0D 3) && allZero (slice d 0x15 3) &&
  byteAt d 2 != 0 && fieldAt d 0x10 5 ≤ fieldAt d 8 5 && fieldAt d 0x10 5 % n == 0

/-- The bank takes a blob's fields. -/
def loadBlob (d : List Byte) (k : Bank) : Bank :=
  { k with
    st := .absorbing, alg := BitVec.ofNat 8 (byteAt d 0), keyed := bit (byteAt d 1) 0
    outLen := BitVec.ofNat 8 (byteAt d 2), declLength := BitVec.ofNat 40 (fieldAt d 8 5)
    absorbed := BitVec.ofNat 40 (fieldAt d 0x10 5), chain := slice d 0x18 (algState (byteAt d 0)), buffer := [], keys := [] }

def importRule (b : Fin 8) (s : State) : U8 × State :=
  bankOp b (fun k =>
    if k.st ≠ .idle ∧ k.st ≠ .done then (eState, k)
    else if wrapRequired s b then
      match (if ksLoaded s 8 then unwrapBlob (ksKey s 8) k.blob else none) with
      | none => (eAuth, k)
      | some d => if blobOk d && d.length == 24 + algState (byteAt d 0) then (eOk, loadBlob d k) else (eRange, k)
    else if bit (byteAt k.blob 1) 0 then (eRefused, k)
    else if !blobOk k.blob then (eRange, k)
    else (eOk, loadBlob k.blob k)) s

/-- IMPORT. -/
def execImportState (p : Port) (b : Fin 8) (s : State) : Host.Outcome State Fault Refusal :=
  execOp p (0x8110 + b.val) 0xC 1 (importRule b) s

end Sys2Proof.Machine
end

