-- ==== Sys2Proof/Machine/Drbg.lean ====
section
/-! DEFINITION. CTR_DRBG with AES-256 and the derivation function (SP 800-90A), its state, the health tests on a window, the
entropy pool and the private wires (R396 to R414). -/
namespace Sys2Proof.Machine

/-! ### CTR_DRBG (R405) -/

/-- Block_Cipher_df: 48 bytes from an input string. -/
def dfBlocks (ks : List (List Byte)) : Nat → List Byte → List Byte → List Byte
  | 0, c, _ => c
  | n + 1, c, bs => dfBlocks ks n (aesBlock ks (xorBytes c (bs.take 16))) (bs.drop 16)

def dfChain (ks : List (List Byte)) : Nat → List Byte → List Byte
  | 0, _ => []
  | n + 1, x => let y := aesBlock ks x; y ++ dfChain ks n y

def drbgDf (input : List Byte) : List Byte :=
  let t := beBytes 4 input.length ++ beBytes 4 48 ++ input ++ [0x80]
  let t := pad16 t
  let ks := aesKeys ((List.range 32).map (BitVec.ofNat 8))
  let temp := (List.range 3).flatMap (fun i => dfBlocks ks (t.length / 16 + 1) (zeros 16) (beBytes 4 i ++ zeros 12 ++ t))
  dfChain (aesKeys (temp.take 32)) 3 (slice temp 32 16)

/-- Counter blocks V + 1, V + 2, … encrypted. -/
def drbgStream (key v : List Byte) (n : Nat) : List Byte :=
  let ks := aesKeys key
  (List.range n).flatMap (fun i => aesBlock ks (beBytes 16 ((beNat v + i + 1) % 2 ^ 128)))

/-- The update function: the new key and V. -/
def drbgUpdate (data key v : List Byte) : List Byte × List Byte :=
  let t := xorBytes (drbgStream key v 3) (padTo data 48)
  (t.take 32, t.drop 32)

/-! ### Windows (R396, R397, R399) -/

def sampleAt (w : Window) (i : Nat) : Bool := w.getLsbD i

/-- Longest run of identical samples. -/
def longestRun (w : Window) : Nat :=
  ((List.range 1024).foldl (fun (a : Nat × Nat) i =>
    let n := if i ≠ 0 ∧ sampleAt w i = sampleAt w (i - 1) then a.1 + 1 else 1
    (n, max a.2 n)) (0, 0)).2

/-- Samples equal to the first. -/
def sameAsFirst (w : Window) : Nat := ((List.range 1024).filter (fun i => sampleAt w i == sampleAt w 0)).length

def rctCutoff (src : Nat) : Nat := if src = 2 then 46 else 81
def aptCutoff (src : Nat) : Nat := if src = 2 then 664 else 832

/-- The test of R397 that a window fails: 1 repetition count, 2 adaptive proportion. -/
def windowFails (src : Nat) (w : Window) : Option Nat :=
  if rctCutoff src ≤ longestRun w then some 1
  else if aptCutoff src ≤ sameAsFirst w then some 2 else none

/-- The bytes of a window: bit 0 of each byte is its earliest sample. -/
def windowBytes (w : Window) : List Byte := leBytes 128 w.toNat

/-! ### Sources -/

def sourceAt (s : State) (i : Nat) : Source :=
  match i with
  | 0 => s.random.ling
  | 1 => s.random.sedge
  | _ => s.random.fescue

def modSource (i : Nat) (f : Source → Source) (s : State) : State :=
  modRandom (fun r =>
    match i with
    | 0 => { r with ling := f r.ling }
    | 1 => { r with sedge := f r.sedge }
    | _ => { r with fescue := f r.fescue }) s

/-- The source that is ACTIVE. -/
def activeSource (s : State) : Option Nat := [0, 1, 2].find? (fun i => (sourceAt s i).st == 2)

def allSourcesRetired (s : State) : Bool := [0, 1, 2].all (fun i => (sourceAt s i).st == 4)

/-! ### The DRBG's state (R405 to R412) -/

/-- The personalisation string (R406). -/
def personalisation (s : State) : List Byte :=
  if s.random.testPattern then zeros 32
  else uidOf s ++ leBytes 5 s.tbUs.toNat ++ leBytes 4 s.deviceResets.toNat ++ [s.resetCause] ++ zeros 6

/-- DRBG_STATE changes that leave an entry (R431). -/
def journalDrbg (st cause : Nat) (s : State) : State := journal 0x29 0x0302 true [BitVec.ofNat 8 st, BitVec.ofNat 8 cause] s

/-- A generate request of n bytes on a working state: the bytes and the new key and V. -/
def drbgBytes (r : Random) (n : Nat) : List Byte × List Byte × List Byte :=
  let blocks := divUp n 16
  let v := beBytes 16 ((beNat r.v + blocks) % 2 ^ 128)
  let (k, v) := drbgUpdate (zeros 48) r.key v
  ((drbgStream r.key r.v blocks).take n, k, v)

/-- A reseed from a window's bytes; EXPIRED returns to READY. -/
def drbgReseed (w : List Byte) (s : State) : State :=
  modRandom (fun r =>
    let (k, v) := drbgUpdate (drbgDf w) r.key r.v
    { r with key := k, v := v, st := 1, reseedCounter := 0, reseeds := satInc r.reseeds, lastReseed := s.tbUs, autoDue := false }) s

/-- The automatic reseed that is due takes the oldest window of the pool (R409). -/
def kickReseed (s : State) : State :=
  match s.random.pool with
  | w :: rest =>
    if s.random.autoDue ∧ (s.random.st = 1 ∨ s.random.st = 2) then
      drbgReseed w (modRandom (fun r => { r with pool := rest }) s)
    else s
  | [] => s

/-- Entry into EXPIRED (R409). -/
def drbgExpire (s : State) : State :=
  kickReseed (journalDrbg 2 1 (modRandom (fun r => { r with st := 2, autoDue := true }) s))

/-- RESEED_COUNTER's thresholds after a generate request (R409). -/
def drbgThresholds (s : State) : State :=
  let n := s.random.reseedCounter.toNat
  let limit := cfgNat s 0x8030 1
  if limit ≤ n then drbgExpire s
  else if limit / 2 ≤ n then kickReseed (modRandom (fun r => { r with autoDue := true }) s)
  else s

/-- A generate request: the bytes, where the DRBG is READY. -/
def drbgGenerate (n : Nat) (s : State) : Option (List Byte × State) :=
  if s.random.st = 1 then
    let (out, k, v) := drbgBytes s.random n
    some (out, drbgThresholds (modRandom (fun r => { r with key := k, v := v, reseedCounter := r.reseedCounter + 1 }) s))
  else none

/-! ### Private wires (R413, R414) -/

/-- The attribute word of the context wrap key (R357). -/
def wrapKeyAttr : U32 := 0x2BC00418

/-- Output for a waiting consumer: 1 is the context wrap key (R364). -/
def wireDeliver (consumer : Nat) (s : State) : State :=
  match drbgGenerate 32 s with
  | none => s
  | some (bs, s) =>
    if consumer = 1 then
      modKeys (fun k => { k with slots := tput k.slots 8 { attr := wrapKeyAttr, key := bs }, wrapDue := false }) s
    else s

/-- The requests that wait are served once the DRBG is READY; those whose timeout won are discarded (R26, R414). -/
def serveWires (s : State) : State :=
  if s.random.st = 1 then
    let late := s.random.wiresLate
    let due := s.random.wires
    let s := modRandom (fun r => { r with wires := [], wiresLate := [] }) s
    let s := late.foldl (fun t _ =>
      match drbgGenerate 32 t with
      | some (_, t) => modTimeout 7 (fun o => { o with late := satInc o.late })
          (modRandom (fun r => { r with late := satInc r.late }) t)
      | none => t) s
    due.foldl (fun t c => wireDeliver c t) s
  else s

/-- A private-wire request's timeout has won (R414). -/
def wireTimeout (consumer : Nat) (s : State) : State :=
  modTimeout 7 (fun o => { o with expired := satInc o.expired, last := 2 })
    (modRandom (fun r => { r with wireTimeouts := satInc r.wireTimeouts, wiresLate := r.wiresLate ++ [consumer] }) s)

/-- A generate request over a private wire: served at once, or its 5 ms pass (R413, R414). -/
def wireGenerate (consumer n : Nat) (s : State) : Option (List Byte) × State :=
  match drbgGenerate n s with
  | some (bs, s) => (some bs, s)
  | none => (none, if s.random.st = 3 then s else wireTimeout consumer s)

/-- Instantiation from a window's bytes; the context wrap key is drawn next (R408, R413). -/
def drbgInstantiate (w : List Byte) (s : State) : State :=
  let (k, v) := drbgUpdate (drbgDf (w ++ personalisation s)) (zeros 32) (zeros 16)
  let s := modRandom (fun r => { r with
    key := k, v := v, st := 1, reseedCounter := 0, instantiations := satInc r.instantiations, lastReseed := s.tbUs, autoDue := false }) s
  serveWires (wireDeliver 1 s)

/-- The DRBG is instantiated from the oldest window of the pool, once LIFECYCLE has completed (R408). -/
def kickInstantiate (s : State) : State :=
  match s.random.pool with
  | w :: rest =>
    if s.random.st = 0 ∧ (tget s.steps 3).isSome then drbgInstantiate w (modRandom (fun r => { r with pool := rest }) s)
    else s
  | [] => s

/-- A reseed with prediction resistance from a window, or an instantiation where there is no state (R411, R412). -/
def drbgFresh (w : List Byte) (s : State) : State :=
  if s.random.st = 0 then drbgInstantiate w s else serveWires (drbgReseed w s)

/-- The working state is zeroed and UNINSTANTIATED; a DISABLED DRBG stays so (R408, R416). -/
def drbgZero (s : State) : State :=
  modRandom (fun r => { r with
    key := zeros 32, v := zeros 16, reseedCounter := 0, autoDue := false, st := if r.st = 3 then 3 else 0 }) s

/-- A tamper erase's part here (R416). -/
def eraseRandom (s : State) : State :=
  drbgZero (modRandom (fun r => { r with pool := [], rawBuf := [[], [], []] }) s)

/-! ### Windows find their place (R404) -/

/-- The port whose RAW buffer takes the next window: round robin after the last one served. -/
def rawTaker (r : Random) : Option Nat :=
  ([1, 2, 3].map (fun k => (r.rawLast + k) % 3)).find? (fun p => r.rawSelect.getD p 1 == 0 && (r.rawBuf.getD p []).isEmpty)

/-- A passed window of the ACTIVE source is assigned. -/
def assignWindow (w : List Byte) (s : State) : State :=
  let r := s.random
  if (!r.prWaiting.isEmpty || r.reseedWaiting) && r.st != 3 then
    let ports := r.prWaiting
    let s := drbgFresh w s
    modRandom (fun r => { r with
      prWaiting := [], reseedWaiting := false, prFresh := ports.foldl (fun l p => l.set p true) r.prFresh }) s
  else if r.pool.isEmpty then serveWires (kickReseed (kickInstantiate (modRandom (fun r => { r with pool := [w] }) s)))
  else match rawTaker r with
    | some p => kickInstantiate (modRandom (fun r => { r with rawBuf := r.rawBuf.set p w, rawLast := p }) s)
    | none =>
      let s := if r.pool.length < 2 then modRandom (fun r => { r with pool := r.pool ++ [w] }) s else s
      serveWires (kickReseed (kickInstantiate s))

/-! ### Failures and switching (R400, R401) -/

/-- The next source in the cycle enters STARTUP; the failed one itself where every other is retired. -/
def nextSource (from_ : Nat) (s : State) : State :=
  match [(from_ + 1) % 3, (from_ + 2) % 3, from_].find? (fun i => (sourceAt s i).st != 4) with
  | some i => modSource i (fun x => { x with st := 1 }) (modRandom (fun r => { r with switches := satInc r.switches }) s)
  | none => s

/-- Steps 2 and 3 of R401: the failure is counted and recorded, and the source leaves service. -/
def countSourceFail (i test : Nat) (apt : Bool) (s : State) : State :=
  let s := modSource i (fun x =>
    let f := satInc x.fails
    { x with fails := f, lastFail := s.tbUs, st := if 3 ≤ f.toNat then 4 else 3
             rct := if apt then x.rct else satInc x.rct, apt := if apt then satInc x.apt else x.apt }) s
  journal 0x29 0x0301 true [BitVec.ofNat 8 i, BitVec.ofNat 8 test, (sourceAt s i).fails] s

/-- The pool and the RAW buffers of ports in RAW mode are discarded (R401 step 1). -/
def dropRaw (s : State) : State :=
  modRandom (fun r => { r with
    pool := []
    rawBuf := (List.range 3).map (fun p => if r.rawSelect.getD p 1 == 0 then [] else r.rawBuf.getD p []) }) s

/-- The ACTIVE source fails. -/
def sourceAlarm (i : Nat) (apt : Bool) (s : State) : State :=
  nextSource i (countSourceFail i (if apt then 2 else 1) apt (dropRaw s))

/-- A start-up test ends (R399 to R401). At power-up a source that failed runs the test again at once. -/
def startupEnd (i : Nat) (w : Window) (s : State) : State :=
  match windowFails i w with
  | none => modSource i (fun x => { x with st := if (activeSource s).isSome then 3 else 2 }) s
  | some t =>
    let s := countSourceFail i 3 (t == 2) s
    if (tget s.steps 5).isNone then
      if (sourceAt s i).st = 4 then s else modSource i (fun x => { x with st := 1 }) s
    else nextSource i s

/-- Step ENTROPY completes: the DRBG is instantiated or cannot be, and every source has ended its first start-up run
(R225, R242, R400). -/
def entropyStep (s : State) : State :=
  let ran := [0, 1, 2].all (fun i => (sourceAt s i).st != 0 && ((sourceAt s i).st != 1 || (sourceAt s i).fails != 0))
  if (tget s.steps 5).isSome ∨ (tget s.steps 3).isNone ∨ !ran then s
  else if s.random.st = 0 then
    if allSourcesRetired s then stepDone 5 (bootFail 5 eEmpty 7 s) else s
  else stepDone 5 s

end Sys2Proof.Machine
end

