-- ==== Sys2Proof/Machine/Random.lean ====
section
/-! DEFINITION. The commands of the entropy sources, the DRBG and the raw port (R396 to R418). -/
namespace Sys2Proof.Machine

/-! ### Sources -/

def sourceNo (v : Nat) : Bool := v < 3

/-- STARTUP_TEST_COMPLETE: the 1,024th start-up sample of a source in STARTUP has arrived (R399 to R401). -/
def execStartupTestComplete (src : Fin 3) (w : Window) (s : State) : Host.Outcome State Fault Refusal :=
  if (sourceAt s src.val).st = 1 then .next (entropyStep (kickInstantiate (startupEnd src.val w s))) else .next s

/-- SOURCE_ALARM: a health test fails on the ACTIVE source (R401). -/
def execSourceAlarm (apt : Bool) (s : State) : Host.Outcome State Fault Refusal :=
  match activeSource s with
  | some i => .next (sourceAlarm i apt s)
  | none => .next s

/-- The LFSR of R417 after one sample. -/
def lfsrStep (x : U32) : U32 :=
  let fb := x.getLsbD 0 ^^ x.getLsbD 1 ^^ x.getLsbD 2 ^^ x.getLsbD 22
  (x >>> 1) ||| (BitVec.ofNat 32 (b2n fb) <<< 31)

/-- `n` samples of the LFSR, the first in the lowest bit, and the state after them. -/
def lfsrRun : Nat → U32 → Nat × U32
  | 0, x => (0, x)
  | n + 1, x =>
    let (rest, y) := lfsrRun n (lfsrStep x)
    (b2n (x.getLsbD 0) + 2 * rest, y)

/-- WINDOW_PASS: a window of the ACTIVE source passes (R397, R404); under the test pattern it is the LFSR's (R417). A
window that fails a test is no pass. -/
def execWindowPass (w : Window) (s : State) : Host.Outcome State Fault Refusal :=
  match activeSource s with
  | none => .next s
  | some i =>
    let (n, x) := if s.random.testPattern then lfsrRun 1024 s.random.lfsr else (w.toNat, s.random.lfsr)
    let w : Window := BitVec.ofNat 1024 n
    if (windowFails i w).isSome then .next s
    else
      let s := modRandom (fun r => { r with lfsr := x }) s
      .next (entropyStep (assignWindow (windowBytes w) (modSource i (fun y => { y with passed := satInc y.passed }) s)))

def srcReinstateRule (src : Nat) (w : Window) (s : State) : U8 × State :=
  if !sourceNo src then (eRange, s)
  else if (sourceAt s src).st ≠ 4 then (eState, s)
  else if (windowFails src w).isSome then (eIntegrity, s)
  else (eOk, modSource src (fun x => { x with fails := 0, st := if (activeSource s).isSome then 3 else 2 }) s)

/-- SRC_REINSTATE (R403). -/
def execSrcReinstate (p : Port) (src : U8) (w : Window) (s : State) : Host.Outcome State Fault Refusal :=
  execOp p 0x8000 5 1 (srcReinstateRule src.toNat w) s

/-! ### The DRBG -/

/-- AUTO_RESEED: AUTO_RESEED_MS has elapsed (R409). -/
def execAutoReseed (s : State) : Host.Outcome State Fault Refusal :=
  if (s.random.st = 1 ∨ s.random.st = 2) ∧ s.refclk then
    .next (serveWires (kickReseed (modRandom (fun r => { r with autoDue := true }) s)))
  else .next s

/-- DRBG_EXPIRY: RESEED_COUNTER has reached RESEED_INTERVAL, or RESEED_LIMIT_MS has elapsed (R409). -/
def execDrbgExpiry (byCount : Bool) (s : State) : Host.Outcome State Fault Refusal :=
  let due := if byCount then decide (cfgNat s 0x8030 1 ≤ s.random.reseedCounter.toNat) else s.refclk
  if s.random.st = 1 ∧ due then .next (serveWires (drbgExpire s)) else .next s

/-- DRBG_PARITY_ERROR (R408). -/
def execDrbgParityError (s : State) : Host.Outcome State Fault Refusal :=
  if s.random.st = 1 ∨ s.random.st = 2 then .next (kickInstantiate (journalDrbg 0 2 (drbgZero s))) else .next s

/-- The window that passes within the limit, if any, goes to the waiting reseed (R404, R411). -/
def windowNow (w : Option Window) (s : State) : Option (Nat × Window) :=
  match activeSource s, w with
  | some i, some w => if (windowFails i w).isSome then none else some (i, w)
  | _, _ => none

def reseedRule (w : Option Window) (s : State) : U8 × State :=
  if s.random.st = 3 then (eState, s)
  else match windowNow w s with
    | none => (eNotReady, timeoutExpired 8 s)
    | some (i, w) =>
      let s := modSource i (fun y => { y with passed := satInc y.passed }) s
      (eOk, timeoutArrived 8 (assignWindow (windowBytes w) (modRandom (fun r => { r with reseedWaiting := true }) s)))

/-- RESEED (R412). -/
def execReseed (p : Port) (w : Option Window) (s : State) : Host.Outcome State Fault Refusal :=
  execOp p 0x8030 4 1 (reseedRule w) s

/-- PRIVATE_WIRE_REQUEST: a consumer asks for output (R413, R414). `delivered`: the output comes before the 5 ms pass. -/
def execPrivateWireRequest (consumer : Fin 5) (delivered : Bool) (s : State) : Host.Outcome State Fault Refusal :=
  let c := consumer.val
  let s := if c = 1 then modKeys (fun k => { k with wrapDue := true }) s else s
  if s.random.st = 3 then .next s
  else if s.random.st = 1 ∧ c ≠ 2 then .next (timeoutArrived 7 (wireDeliver c s))
  else if c = 4 then .next s
  else if delivered then
    .next (modRandom (fun r => { r with wires := r.wires ++ [c], reseedWaiting := r.reseedWaiting || c == 2 }) s)
  else .next (wireTimeout c s)

/-! ### The raw port (R415) -/

def rawModeOf (s : State) (p : Port) : Nat := (s.random.rawSelect.getD (portNo p).val 1).toNat

/-- A DRBG-mode read on a port may be served: the DRBG is READY and RAW_PR has its reseed. -/
def rawDrbgReady (s : State) (p : Port) : Bool :=
  let k := (portNo p).val
  s.random.st == 1 && (!s.random.rawPr.getD k false || s.random.prFresh.getD k false)

/-- RAW_VALID. -/
def rawValid (s : State) (p : Port) : Bool :=
  if rawModeOf s p = 1 then rawDrbgReady s p else 5 ≤ (s.random.rawBuf.getD (portNo p).val []).length

/-- `n` bytes from a port's copy of the raw port; a read that cannot be served whole consumes nothing, and under RAW_PR
starts a reseed. -/
def rawTake (p : Port) (n : Nat) (s : State) : Option (List Byte) × State :=
  let k := (portNo p).val
  if rawModeOf s p = 1 then
    if rawDrbgReady s p then
      match drbgGenerate n s with
      | some (bs, s) => (some bs, modRandom (fun r => { r with prFresh := r.prFresh.set k false }) s)
      | none => (none, s)
    else if s.random.rawPr.getD k false && !s.random.prFresh.getD k false && s.random.st != 3 then
      (none, modRandom (fun r => { r with prWaiting := insertNat k r.prWaiting }) s)
    else (none, s)
  else
    let b := s.random.rawBuf.getD k []
    if b.length < n then (none, s)
    else (some (b.take n), modRandom (fun r => { r with rawBuf := r.rawBuf.set k (b.drop n) }) s)

def rawWordRule (p : Port) (s : State) : U8 × List Byte × State :=
  match rawTake p 5 s with
  | (some bs, s) => (eOk, bs, s)
  | (none, s) => (eEmpty, zeros 5, s)

/-- RAW_WORD_READ. -/
def execRawWordRead (p : Port) (s : State) : Host.Outcome State Fault Refusal := readOp p .read 0x8020 2 (rawWordRule p) s

def rawBlockRule (p : Port) (count : Nat) (s : State) : U8 × List Byte × State :=
  if count = 0 then (eRange, [], s)
  else if (if rawModeOf s p = 1 then 1024 else 128) < count then (eLength, [], s)
  else match rawTake p count s with
    | (some bs, s) => (eOk, bs, s)
    | (none, s) => (eEmpty, [], s)

/-- RAW_BLOCK_READ. -/
def execRawBlockRead (p : Port) (count : U16) (s : State) : Host.Outcome State Fault Refusal :=
  readOp p .readBlock 0x8020 3 (rawBlockRule p count.toNat) s

def rawSelectRule (p : Port) (v : U8) (s : State) : U8 × State :=
  if 1 < v.toNat then (eRange, s)
  else (eOk, modRandom (fun r => { r with
    rawSelect := r.rawSelect.set (portNo p).val v, rawBuf := r.rawBuf.set (portNo p).val [] }) s)

/-- RAW_SELECT_WRITE. -/
def execRawSelectWrite (p : Port) (value : U8) (s : State) : Host.Outcome State Fault Refusal :=
  writeOp p 0x8020 0 1 (rawSelectRule p value) s

/-! ### The test pattern (R417) -/

/-- The DRBG is zeroed and waits for the next window. -/
def patternSwitch (on : Bool) (s : State) : State :=
  let s := drbgZero (modRandom (fun r => { r with testPattern := on, pool := [] }) s)
  journalDrbg s.random.st.toNat 4 s

def patternOn (s : State) : State := modRandom (fun r => { r with lfsr := r.lfsrSeed }) (patternSwitch true s)

/-- A write of 0: the real source restarts with a start-up test. -/
def patternOff (s : State) : State :=
  if s.random.testPattern then
    match activeSource s with
    | some i => modSource i (fun x => { x with st := 1 }) (patternSwitch false s)
    | none => patternSwitch false s
  else s

def testPatternRule (v : Bool) (s : State) : U8 × State :=
  if v then
    if s.lc.state ≠ 0 then (eState, s) else if s.random.testPattern then (eOk, s) else (eOk, patternOn s)
  else (eOk, patternOff s)

/-- TEST_PATTERN_WRITE. -/
def execTestPatternWrite (p : Port) (value : Bool) (s : State) : Host.Outcome State Fault Refusal :=
  writeOp p 0x8000 3 1 (testPatternRule value) s

end Sys2Proof.Machine
end

