-- ==== Sys2Proof/Machine/Cipher.lean ====
section
/-! DEFINITION. The cipher's contexts and jobs, and the parity errors of the two engines (R345, R349 to R355). -/
namespace Sys2Proof.Machine

def cxAt (s : State) (c : Fin 4) : CxJob := s.cxs[c]

/-- An operation on a context: LAST_CODE records its code (R355). -/
def cxOp (c : Fin 4) (f : CxJob → U8 × CxJob) (s : State) : U8 × State :=
  let (code, k) := f (cxAt s c)
  (code, modCx c (fun _ => { k with lastCode := code }) s)

def cxPoisoned (k : CxJob) : CxJob := { k with st := .poisoned, key := [], input := [], output := [] }

/-- RELEASE's effect. -/
def freeCx (k : CxJob) : CxJob :=
  { k with st := .free, owner := none, key := [], input := [], output := [], tag := zeros 16, iv := zeros 16 }

/-! ### CX_ALLOC (R349) -/

def cxChoice (s : State) (p : Port) : Option (Fin 4) :=
  let order : List (Fin 4) := if p = .l then [0, 1, 2, 3] else [1, 2, 3]
  let held := (s.cxs.toList.filter (fun k => k.owner == some p)).length
  if p ≠ .l ∧ 2 ≤ held then none else order.find? (fun c => (cxAt s c).st == .free)

def cxAllocRule (p : Port) (s : State) : U8 × State :=
  let put := fun (v : U8) (s : State) => modPort p (fun r => { r with cxGranted := v }) s
  if s.cipherHealth.retired then (eRetired, s)
  else match cxChoice s p with
    | some c => (eOk, put (BitVec.ofNat 8 c.val) (modCx c (fun k => { k with st := .idle, owner := some p }) s))
    | none => (eBusy, put 0xFF s)

/-- CX_ALLOC. -/
def execCxAlloc (p : Port) (s : State) : Host.Outcome State Fault Refusal := execOp p 0x8200 1 1 (cxAllocRule p) s

/-! ### Jobs (R350 to R353) -/

/-- Writes to MODE, DIR, KEY_SLOT, IV, AAD_LENGTH and TAG. -/
def cxWriteRule (c : Fin 4) (sub : Nat) (v : List Byte) (s : State) : U8 × State :=
  let n := leNat v
  cxOp c (fun k =>
    if k.st = .poisoned ∨ (k.st = .absorbing ∧ sub ≠ 9) then (eState, k)
    else match sub with
      | 2 => (eOk, { k with mode := BitVec.ofNat 8 n })
      | 3 => (eOk, { k with dir := BitVec.ofNat 8 n })
      | 4 => (eOk, { k with keySlot := BitVec.ofNat 8 n })
      | 5 => (eOk, { k with iv := padTo v 16 })
      | 6 => (eOk, { k with aadLength := BitVec.ofNat 40 n })
      | _ => (eOk, { k with tag := padTo v 16 })) s

/-- Check 1 of R351: the mode, the direction and the lengths lie within R350. -/
def cxFormOk (k : CxJob) (n : Nat) : Bool :=
  let aad := k.aadLength.toNat
  k.dir.toNat ≤ 1 &&
  match k.mode.toNat with
  | 1 => aad == 0 && 1 ≤ n && n ≤ 65536 && beNat (slice k.iv 12 4) + divUp n 16 ≤ 2 ^ 32
  | 2 => aad ≤ n && n ≤ 65536 && allZero (slice k.iv 12 4)
  | 3 => aad == 0 && n % 8 == 0 && (if k.dir = 0 then 16 ≤ n && n ≤ 4096 else 24 ≤ n && n ≤ 4104)
  | 4 => aad == 0 && (if k.dir = 0 then 1 ≤ n && n ≤ 4096 else n % 8 == 0 && 16 ≤ n && n ≤ 4104)
  | _ => false

/-- The USAGE bit a job needs: ENCRYPT 1, DECRYPT 2, WRAP 3, UNWRAP 4 (R351). -/
def cxUsage (k : CxJob) : Nat := (if k.mode.toNat ≤ 2 then 1 else 3) + k.dir.toNat

/-- Fresh masks at a job start; the cipher never waits for them (R413). -/
def maskRefresh (s : State) : State :=
  match drbgGenerate 32 s with
  | some (_, s) => s
  | none => s

def cxDeclRule (p : Port) (c : Fin 4) (v : U40) (s : State) : U8 × State :=
  let slot := (cxAt s c).keySlot.toNat
  let (code, t) := cxOp c (fun k =>
    if k.st ≠ .idle ∧ k.st ≠ .done then (eState, k)
    else if !cxFormOk k v.toNat then (eRange, k)
    else if !(ksLoaded s slot && ksUsable s p slot) then (eAccess, k)
    else if !(keySlot s slot).attr.getLsbD (cxUsage k) then (eAccess, k)
    else if 2 ≤ ksSize (keySlot s slot).attr then (eType, k)
    else (eOk, { k with st := .absorbing, declLength := v, key := ksKey s slot, input := [], output := [] })) s
  (code, if code = eOk then maskRefresh t else t)

/-- CX_DECL_LENGTH starts a job. -/
def execCxDeclLength (p : Port) (c : Fin 4) (value : U40) (s : State) : Host.Outcome State Fault Refusal :=
  writeOp p (0x8210 + c.val) 7 5 (cxDeclRule p c value) s

/-- The output that the input delivered so far produces in CTR and in GCM. -/
def cxStream (k : CxJob) (input : List Byte) : List Byte :=
  if k.mode = 1 then aesCtr k.key 32 k.iv input
  else if k.mode = 2 then gcmCrypt k.key k.iv (input.drop k.aadLength.toNat)
  else []

def cxDataRule (c : Fin 4) (off : Nat) (data : List Byte) (s : State) : U8 × State :=
  cxOp c (fun k =>
    if k.st ≠ .absorbing then (eState, k)
    else if off ≠ k.input.length then (eRange, k)
    else if k.declLength.toNat < off + data.length then (eLength, cxPoisoned k)
    else
      let input := k.input ++ data
      (eOk, { k with input := input, output := cxStream k input })) s

/-- CX_DATA. -/
def execCxData (p : Port) (c : Fin 4) (offset : U40) (data : List Byte) (s : State) :
    Host.Outcome State Fault Refusal :=
  blockOp p (0x8210 + c.val) 8 data.length (cxDataRule c offset.toNat data) s

/-- Output bytes readable (R350, R352). -/
def cxProduced (k : CxJob) : Nat :=
  if k.st = .done ∨ (k.st = .absorbing ∧ (k.mode = 1 ∨ (k.mode = 2 ∧ k.dir = 0))) then k.output.length else 0

/-- A read of DATA. -/
def cxReadRule (c : Fin 4) (off count : Nat) (s : State) : U8 × List Byte × State :=
  let k := cxAt s c
  let code :=
    if k.mode = 2 ∧ k.dir = 1 ∧ k.st ≠ .done then eWithheld
    else if k.st = .poisoned then eState
    else if cxProduced k < off + count then eRange else eOk
  (code, if code = eOk then slice k.output off count else [], modCx c (fun k => { k with lastCode := code }) s)

def cxFinished (k : CxJob) : CxJob := { k with st := .done, key := [] }

/-- A failed check: E_AUTH, the output zeroed, the context POISONED (R353). -/
def cxAuthFail (k : CxJob) : U8 × CxJob := (eAuth, cxPoisoned k)

def cxFinishRule (c : Fin 4) (s : State) : U8 × State :=
  cxOp c (fun k =>
    let aad := k.input.take k.aadLength.toNat
    let body := k.input.drop k.aadLength.toNat
    if k.st ≠ .absorbing then (eState, k)
    else if k.input.length < k.declLength.toNat then (eLength, cxPoisoned k)
    else match k.mode.toNat, k.dir.toNat with
      | 2, 0 => (eOk, { cxFinished k with tag := gcmTag k.key k.iv aad k.output })
      | 2, _ => if gcmTag k.key k.iv aad body == k.tag then (eOk, cxFinished k) else cxAuthFail k
      | 3, 0 => (eOk, { cxFinished k with output := aesKw k.key k.input })
      | 4, 0 => (eOk, { cxFinished k with output := aesKwp k.key k.input })
      | 3, _ => match aesKwUnwrap k.key k.input with
        | some o => (eOk, { cxFinished k with output := o })
        | none => cxAuthFail k
      | 4, _ => match aesKwpUnwrap k.key k.input with
        | some o => (eOk, { cxFinished k with output := o })
        | none => cxAuthFail k
      | _, _ => (eOk, cxFinished k)) s

/-- CX_FINISH. -/
def execCxFinish (p : Port) (c : Fin 4) (s : State) : Host.Outcome State Fault Refusal :=
  execOp p (0x8210 + c.val) 0xA 1 (cxFinishRule c) s

def cxReleaseRule (c : Fin 4) (s : State) : U8 × State := cxOp c (fun k => (eOk, freeCx k)) s

/-- CX_RELEASE. -/
def execCxRelease (p : Port) (c : Fin 4) (s : State) : Host.Outcome State Fault Refusal :=
  execOp p (0x8210 + c.val) 0xB 1 (cxReleaseRule c) s

/-! ### Parity errors (R345) -/

/-- The digest engine is retired: a RETIRE entry with the cause code of `rule` (R197, R202). -/
def retireDigest (rule : Nat) (s : State) : State :=
  journalRetire 0x28 0 0 (rule * 256) { s with digestHealth := { s.digestHealth with retired := true } }

def retireCipher (rule : Nat) (s : State) : State :=
  journalRetire 0x28 0 0 (rule * 256) { s with cipherHealth := { s.cipherHealth with retired := true } }

def chargeDigest (s : State) : State :=
  let (h, perm) := chargeHealth s s.digestHealth
  let s := { s with digestHealth := h, dgTransients := satInc s.dgTransients }
  if perm && !h.retired then retireDigest 2 s else s

def chargeCipher (s : State) : State :=
  let (h, perm) := chargeHealth s s.cipherHealth
  let s := { s with cipherHealth := h, cxTransients := satInc s.cxTransients }
  if perm && !h.retired then retireCipher 2 s else s

/-- ENGINE_PARITY_ERROR in a bank's or a context's registers. -/
def execEngineParityError (cipher : Bool) (unit : Fin 8) (s : State) : Host.Outcome State Fault Refusal :=
  if cipher then
    if h : unit.val < 4 then
      .next (chargeCipher (modCx ⟨unit.val, h⟩ (fun k =>
        if k.st = .free then k else { cxPoisoned k with lastCode := eIntegrity }) s))
    else .next s
  else
    .next (chargeDigest (modBank unit (fun k =>
      if k.st = .free then k else { poisoned k with lastCode := eIntegrity }) s))

end Sys2Proof.Machine
end

