-- ==== Sys2Proof/Machine/ChannelCmds.lean ====
section
/-! DEFINITION. Commands on the crossing nodes: requested states and their boundaries, discovery of one channel,
power-good, holds, reinstatement, the Fallow pipeline's takeovers, word reloads, and releases (R180 to R217, R232 to
R240). -/
namespace Sys2Proof.Machine

/-! ### The Hayloft -/

/-- Unpinned VERIFIED and POISONED contexts return to EMPTY (R181). -/
def flushRule (s : State) : U8 × State :=
  (eOk, finishAll (dropCtxs (fun x => !x.pin && (x.state == .verified || x.state == .poisoned)) s))

/-- FLUSH. -/
def execFlush (p : Port) (s : State) : Host.Outcome State Fault Refusal := execOp p 0x5000 6 1 flushRule s

/-- 0 SERVING or 1 GLEANING (R180); a pass ends when no gleaning read is in progress. -/
def hayloftReqRule (value : U8) (s : State) : U8 × State :=
  if 1 < value.toNat then (eRange, s)
  else
    let s := modHay (fun h => { h with reqState := value }) s
    (eOk, if value = 0 ∧ !gleaning s then modHay (fun h => { h with gleanPos := 0, gleanLater := [] }) s else s)

/-- HAYLOFT_REQ_STATE_WRITE. -/
def execHayloftReqStateWrite (p : Port) (value : U8) (s : State) : Host.Outcome State Fault Refusal :=
  writeOp p 0x5001 0 1 (hayloftReqRule value) s

/-! ### Requested states of a channel (R15 to R17, R185) -/

/-- The value is stored; while the host's chip select is low the request acted on stays the one before it (R15). -/
def channelReqRule (ch : Chan) (value : U8) (csLow : Bool) (s : State) : U8 × State :=
  if !(value = 0 ∨ value = 1 ∨ value = 3) then (eRange, s)
  else if (chanAt s ch).eff = .retired then (eRetired, s)
  else if lifecycleHolds s then (eState, s)
  else
    (eOk, finishAll (modChan ch (fun x => { x with
      reqState := value, csLow := csLow
      pendingReq := if csLow then some (BitVec.ofNat 8 (reqInForce x)) else none }) s))

/-- CHANNEL_REQ_STATE_WRITE. -/
def execChannelReqStateWrite (p : Port) (ch : Chan) (value : U8) (csLow : Bool) (s : State) :
    Host.Outcome State Fault Refusal :=
  writeOp p (0x3001 + 0x100 * ch.val) 0 1 (channelReqRule ch value csLow) s

/-- A vault operation is in progress (R252). -/
def vaultBusy (s : State) : Bool :=
  (!s.vault.ops.isEmpty && canWork s && s.keys.keyState != 2) || s.update.job.any (fun j => !j.volatileJob)

/-- The vault follows its request: OFFLINE waits for the operation in progress; `ended` says that one has just ended. Both
changes need the runtime and REFCLK (R15, R18, R252). -/
def vaultFollow (ended : Bool) (s : State) : State :=
  let v := s.vault
  if !canWork s then s
  else if v.eff = 1 ∧ v.reqState = 0 then modVault (fun v => { v with eff := 0, pendingReq := none }) s
  else if v.eff = 0 ∧ v.reqState = 1 then
    if ended ∨ !vaultBusy s then modVault (fun v => { v with eff := 1, pendingReq := none }) s
    else modVault (fun v => { v with pendingReq := some 1 }) s
  else modVault (fun v => { v with pendingReq := none }) s

/-- REQ_STATE_BOUNDARY: nodes 0 to 5 are the channels, 6 the Fallow pipeline, 7 the Hayloft, 8 the vault (R11, R15). -/
def execReqStateBoundary (node : Fin 9) (s : State) : Host.Outcome State Fault Refusal :=
  if node.val < 6 then .next (finishAll (csRise (chanOf node.val) s))
  else if node.val = 8 then
    .next (finishAll (vaultFollow false s))
  else .next s

/-! ### Discovery of one channel (R95, R96, R232, R235) -/

/-- A flash fails R96. -/
def failsR96 (f : FlashFacts) : Bool := !(f.page256 && f.cmds4B && f.meetsR92)

/-- The bytes an aborted operation leaves are free values (log entry 3). -/
def abortOp (op : PhysOp) (f : Flash) (s : State) : Flash × State :=
  match op with
  | .program cells =>
    let (bs, s) := drawBytes cells.length s
    ({ f with cells := (cells.zip bs).foldl (fun m x => Mem.write 0xFF m x.1.1 x.2) f.cells }, s)
  | .erase a k =>
    let (bs, s) := drawBytes (2 ^ k) s
    ({ f with cells := Mem.writeL 0xFF f.cells a bs }, s)

/-- The reset pair that opens a discovery aborts what the flash was doing and returns it to SPI (R232, R246). -/
def resetFlash (c : Chan) (m : Cs) (s : State) : State :=
  let f := flashOf (chanAt s c) m
  let (f, s) := match f.busy with
    | some (.host op) | some (.device op) | some (.late op) => abortOp op f s
    | none => (f, s)
  modFlash c m (fun _ => { f with busy := none, mode := .spi }) s

/-- One chip select is discovered. -/
def discoverCs (c : Chan) (m : Cs) (x : Found) (s : State) : State :=
  let s := resetFlash c m s
  let put := fun (facts : Option FlashFacts) (bad : Bool) (s : State) =>
    modChan c (fun ch => if m = 0 then { ch with discFault0 := bad } else { ch with discFault1 := bad })
      (modFlash c m (fun f => { f with facts := facts }) s)
  match x with
  | .empty => put none false s
  | .populated f => put (some f) (failsR96 f) s
  | .readFails => retirePort c 3 1 0 (put none false s)

/-- The values derived from the discovered flashes (R95). -/
def deriveIds (c : Chan) (s : State) : State :=
  modChan c (fun ch => { ch with discovered := true, vf := { ch.vf with
    derivedWindow := derivedWindow ((populated ch).map (·.capacity)), derivedId := derivedId ch } }) s

/-- Both chip selects of a channel are discovered. -/
def discoverChan (c : Chan) (x0 x1 : Found) (s : State) : State :=
  let s := discoverCs c 0 x0 s
  let s := if (chanAt s c).eff = .retired then s else discoverCs c 1 x1 s
  deriveIds c s

/-- Check of one channel's rules on their own (R234). -/
def channelCheck (s : State) (c : Chan) : Option CompileFail :=
  mapChecks s (envInForce s) (rulesOf s.hedgerow.table [c.val]) [c]

/-- Channels whose rules pass checks 0x01 to 0x0B on their own. -/
def passingChannels (s : State) : List Nat :=
  ([(0 : Chan), 1, 2, 3, 4, 5].filter (fun c => (channelCheck s c).isNone)).map (·.val)

/-- The checks over the passing channels' rules together: capacity, then placement (R147, R234). -/
def jointCheck (s : State) (rules : List (Nat × RuleRow)) : Option CompileFail :=
  match capacityChecks s rules with
  | some f => some f
  | none => if placeResult s rules = 0 then none else some ⟨0, none, eClaim, 0x20⟩

/-- Contexts after an index switch (R150, R151): a line keeps its context while it stays in a verifying mode under the
same tree id with the same pin flag. -/
def resettleCtxs (s : State) : State :=
  s.hayloft.ctxs.foldl (fun t y =>
    let (k, x) := y
    match physGoverning t (spaceChan x.space) (spaceCs x.space) x.line with
    | none => dropCtx k t
    | some (_, row, isB, _) =>
      let tree := rTree row + b2n isB
      let inForce := isB == bankB t row
      let pinNow := rReadMode row == 2 && inForce
      if (rReadMode row == 1 || rReadMode row == 2) && tree == x.tree && x.pin == pinNow && (rReadMode row == 1 || inForce)
      then t
      else if x.state == .pinned && rReadMode row == 1 && tree == x.tree && inForce then
        putCtx k { x with state := .verified, pin := false } t
      else dropCtx k t) s

/-- The compile fault of a channel is set; each failure writes a retained entry (R235, R243). -/
def setCompileFault (c : Chan) (f : CompileFail) (s : State) : State :=
  let s := modChan c (fun ch => { ch with compileFault := true }) s
  notice 0x02 true (0x3004 + 0x100 * c.val) 1 (bootFault (chanAt s c)) f.reason s

/-- The recompile after a rediscovery (R235). -/
def recompile (c : Chan) (s : State) : State :=
  let pass := passingChannels s
  let rules := rulesOf s.hedgerow.table pass
  match jointCheck s rules with
  | some f => setCompileFault c f s
  | none =>
    let s := switchIndex s.hedgerow.table rules s
    let s := allChans (fun d t =>
      if pass.contains d.val then modChan d (fun ch => { ch with compileFault := false }) t else t) s
    let s := match channelCheck s c with
      | some f => setCompileFault c f s
      | none => s
    resettleCtxs s

/-- REDISCOVERY: a channel that has left OFF is discovered again, then the index is recompiled (R95, R232, R235). -/
def execRediscovery (ch : Chan) (found0 found1 : Found) (s : State) : Host.Outcome State Fault Refusal :=
  let x := chanAt s ch
  if x.eff ≠ .off ∧ x.eff ≠ .retired ∧ !x.discovered ∧ canWork s ∧ s.pllLock ∧ inService s then
    let s := discoverChan ch found0 found1 s
    let y := chanAt s ch
    .next (finishAll (if y.eff = .retired ∨ y.discFault0 ∨ y.discFault1 then s else recompile ch s))
  else .next s

/-! ### Power-good (R189, R192) -/

/-- PLAT_PG_FALL: the virtual flash is reset, the channel is held, one host reset is counted where RESET_SENSE says so. -/
def execPlatPgFall (ch : Chan) (s : State) : Host.Outcome State Fault Refusal :=
  if s.porN ∧ (chanAt s ch).pg then
    let sense := resetSense s ch
    let s := modChan ch (fun x => { x with pg := false }) s
    let s := if bit sense 0 ∨ (bit sense 2 ∧ (chanAt s ch).eff = .running) then hostReset ch s else s
    .next (finishAll (settleDown true ch (resetByHold ch s)))
  else .next (modChan ch (fun x => { x with pg := false }) s)

/-- PLAT_PG_RISE: a held channel whose other conditions hold starts (R186). -/
def execPlatPgRise (ch : Chan) (s : State) : Host.Outcome State Fault Refusal :=
  let s := modChan ch (fun x => { x with pg := true }) s
  .next (if s.porN then finishAll s else s)

/-! ### Holds and reinstatement (R193, R204) -/

/-- The channel's POISONED lines may be tried again. -/
def dropPoisoned (c : Chan) (s : State) : State :=
  dropCtxs (fun x => x.state == .poisoned && x.space / 2 == c.val) (modChan c (fun x => { x with placeFailed := [] }) s)

/-- The hold or the pending quarantine of a channel ends (R193). -/
def clearHoldRule (ch : Chan) (s : State) : U8 × State :=
  let x := chanAt s ch
  if x.eff = .quarantined ∨ (x.eff = .held ∧ x.class4) then
    let s := dropPoisoned ch (modChan ch (fun y => { y with quarantined := false, class4 := false, holdRegion := [] }) s)
    (eOk, finishAll (setEff ch .held s))
  else if x.eff = .running ∧ x.quarPending then
    (eOk, finishAll (dropPoisoned ch (modChan ch (fun y => { y with quarPending := false, holdRegion := [] }) s)))
  else (eState, s)

/-- CLEAR_HOLD. -/
def execClearHold (p : Port) (ch : Chan) (s : State) : Host.Outcome State Fault Refusal :=
  execOp p (0x3003 + 0x100 * ch.val) 0 1 (clearHoldRule ch) s

/-- A unit comes back with an empty list of transient times. -/
def healed : UnitHealth := {}

/-- The self-test code that fails, among those of the retired units (R205). -/
def failingTest (x : Channel) (failing : Option (Fin 5)) : Option Nat :=
  match failing with
  | none => none
  | some k =>
    if ((k.val = 1 ∨ k.val = 2) ∧ x.pipeline.retired) ∨ (k.val = 3 ∧ x.hostPort.retired) ∨
       (k.val = 4 ∧ x.flashPort.retired) then some k.val else none

/-- A reinstated pipeline ends the takeover that its retirement began (R212). -/
def endTakeover (c : Chan) (s : State) : State :=
  let x := chanAt s c
  if x.onFallow then
    if s.fallow.serving = some c then modChan c (fun y => { y with handbackPending := true }) s else s
  else if x.takeover ∨ x.hotPending then
    fallowReturn (modChan c (fun y => { y with takeover := false, hotPending := false }) s)
  else s

/-- The retired units of a channel run their self-tests and come back (R16, R204, R205, R212). -/
def reinstateRule (ch : Chan) (failing : Option (Fin 5)) (s : State) : U8 × State :=
  let x := chanAt s ch
  if !(inService s && s.refclk) then (eNotReady, s)
  else if !(x.pipeline.retired || x.hostPort.retired || x.flashPort.retired) then (eState, s)
  else match failingTest x failing with
    | some k => (eIntegrity, modChan ch (fun y => { y with selftestResult := BitVec.ofNat 8 k }) s)
    | none =>
      let fix := fun (u : UnitHealth) => if u.retired then healed else u
      let s := modChan ch (fun y => { y with
        selftestResult := 0, pipeline := fix y.pipeline, hostPort := fix y.hostPort, flashPort := fix y.flashPort
        hostBalls := if y.hostPort.retired then [] else y.hostBalls
        flashBalls := if y.flashPort.retired then [] else y.flashBalls }) (unsaved s)
      let s := if x.pipeline.retired then endTakeover ch s else s
      (eOk, finishAll (if x.eff = .retired then setEff ch .held s else s))

/-- REINSTATE of a channel. -/
def execReinstate (p : Port) (ch : Chan) (failing : Option (Fin 5)) (s : State) : Host.Outcome State Fault Refusal :=
  execOp p (0x3003 + 0x100 * ch.val) 1 1 (reinstateRule ch failing) s

/-- The Fallow pipeline runs its self-tests and comes back (R204, R212). -/
def fallowReinstateRule (failing : Option (Fin 5)) (s : State) : U8 × State :=
  if !(inService s && s.refclk) then (eNotReady, s)
  else if !s.fallow.retired then (eState, s)
  else match failing with
    | some 1 => (eIntegrity, modFallow (fun f => { f with selftestResult := 1 }) s)
    | some 2 => (eIntegrity, modFallow (fun f => { f with selftestResult := 2 }) s)
    | _ =>
      (eOk, finishAll (fallowReturn (modFallow (fun f => { f with
        retired := false, health := healed, selftestResult := 0 }) (unsaved s))))

/-- FALLOW_REINSTATE. -/
def execFallowReinstate (p : Port) (failing : Option (Fin 5)) (s : State) : Host.Outcome State Fault Refusal :=
  execOp p 0x3602 0 1 (fallowReinstateRule failing) s

/-! ### The Fallow pipeline (R206 to R213) -/

/-- 0 IDLE or 1 STANDBY; while it serves or is being connected the request is stored (R213). -/
def fallowReqRule (value : U8) (s : State) : U8 × State :=
  if 1 < value.toNat then (eRange, s)
  else if s.fallow.retired then (eRetired, s)
  else
    let busy := s.fallow.serving.isSome || fallowGranted s
    (eOk, modFallow (fun f => { f with
      reqState := value
      standbySince := if busy then f.standbySince
        else if value = 1 then (if f.standbySince.isSome then f.standbySince else some s.now) else none }) s)

/-- FALLOW_REQ_STATE_WRITE. -/
def execFallowReqStateWrite (p : Port) (value : U8) (s : State) : Host.Outcome State Fault Refusal :=
  writeOp p 0x3601 0 1 (fallowReqRule value) s

/-- The Fallow pipeline serves a channel. -/
def fallowServes (c : Chan) (kind : Nat) (s : State) : State :=
  let s := modChan c (fun x => { x with onFallow := true, takeover := false, hotPending := false }) s
  let s := modFallow (fun f => { f with serving := some c, standbySince := none, marchDue := false }) s
  journal 0x16 0x0109 true [BitVec.ofNat 8 c.val, BitVec.ofNat 8 kind] s

/-- HOT_TAKEOVER_SWITCH: the chip select rises and the Fallow pipeline takes the channel over (R208). -/
def execHotTakeoverSwitch (ch : Chan) (s : State) : Host.Outcome State Fault Refusal :=
  if (chanAt s ch).hotPending ∧ !s.fallow.retired then
    .next (finishAll (modFallow (fun f => { f with takeoversHot := satInc f.takeoversHot })
      (fallowServes ch 1 (csRise ch s))))
  else .next s

/-- COLD_TAKEOVER_CONNECT: connection, load, march test where it is due, and the end of TAKEOVER (R209, R210). -/
def execColdTakeoverConnect (ch : Chan) (marchPass : Bool) (s : State) : Host.Outcome State Fault Refusal :=
  if (chanAt s ch).takeover ∧ !s.fallow.retired ∧ canWork s then
    let s := if (chanAt s ch).csLow then timeoutExpired 0xA s else timeoutArrived 0xA s
    if s.fallow.marchDue ∧ !marchPass then .next (finishAll (retireFallow 0 s))
    else .next (finishAll (modFallow (fun f => { f with takeoversCold := satInc f.takeoversCold }) (fallowServes ch 2 s)))
  else .next s

/-- FALLOW_HANDBACK: at a rise of the chip select the channel returns to its own pipeline (R212). -/
def execFallowHandback (ch : Chan) (s : State) : Host.Outcome State Fault Refusal :=
  if (chanAt s ch).handbackPending then
    .next (finishAll (fallowReturn (modChan ch (fun x => { x with onFallow := false, handbackPending := false })
      (csRise ch s))))
  else .next s

/-! ### Words of the Hedgerow (R122, R199) -/

/-- INDEX_WORD_RELOAD: the runtime rewrites the word; one that fails again after a rewrite moves to a spare word. -/
def execIndexWordReload (mem : Fin 8) (word : Nat) (s : State) : Host.Outcome State Fault Refusal :=
  let h := s.hedgerow
  let w := (mem.val, word)
  if h.reloadDue.contains w ∧ runtimeUp s then
    let s := cleanWords mem word 1 (modHr (fun h => { h with reloadDue := h.reloadDue.filter (· != w) }) s)
    let spares := if mem = 2 then h.sparesTable else h.sparesIndex
    if !h.rewritten.contains w then .next (modHr (fun h => { h with rewritten := h.rewritten ++ [w] }) s)
    else if spares.length < 64 then
      let s := modHr (fun h =>
        let h := { h with rewritten := h.rewritten.filter (· != w) }
        if mem = 2 then { h with sparesTable := h.sparesTable ++ [word] }
        else { h with sparesIndex := h.sparesIndex ++ [word] }) s
      .next (notice 0x18 true 0x1141 mem.val (s.dedCount.getD mem.val 0).toNat word s)
    else .next s
  else .next s

/-! ### Release (R186, R236 to R239) -/

/-- Everything a release needs but REL_DELAY: the preload has completed and the release conditions hold. -/
def releaseReady (s : State) (c : Chan) (gpio : BitVec 8) : Bool :=
  (chanAt s c).eff == .preloading && (chanAt s c).preloadDone && releaseDeps s c gpio

/-- Tier number of a sequence (R276, R294). -/
def tierCode : Tier → Nat
  | .flip => 2 | .restore => 3 | .hold => 4

/-- CHANNEL_RELEASE: the hold rises and the channel is RUNNING; its sequence, if any, has ended (R186, R239). -/
def execChannelRelease (ch : Chan) (gpio : BitVec 8) (s : State) : Host.Outcome State Fault Refusal :=
  let x := chanAt s ch
  if releaseReady s ch gpio ∧ coresRun s ∧ inService s ∧
     (x.released ∨ planRelDelay (planOf s ch) = 0 ∨ x.relDelayDone) then
    let s := if x.depArmed then timeoutArrived 0xB s else s
    let s := setEff ch .running s
    let s := modChan ch (fun y => { y with
      seq := none, released := true, releaseTime := s.tbUs
      lastSeqResult := match y.seq with
        | some q => seqResult (tierCode q.tier) eOk q.tree
        | none => y.lastSeqResult
      counts := { y.counts with releases := satInc y.counts.releases } }) s
    .next (finishAll (journal 0x02 0x010A false [BitVec.ofNat 8 ch.val, BitVec.ofNat 8 (bootFault (chanAt s ch))]
      (stepDone 0x0B s)))
  else .next s

/-- REL_DELAY_EXPIRY: the delay of the first release after a reset has elapsed (R237). -/
def execRelDelayExpiry (ch : Chan) (gpio : BitVec 8) (s : State) : Host.Outcome State Fault Refusal :=
  if releaseReady s ch gpio ∧ !(chanAt s ch).released ∧ planRelDelay (planOf s ch) ≠ 0 ∧ s.refclk then
    .next (modChan ch (fun x => { x with relDelayDone := true }) s)
  else .next s

/-- DEP_TIMEOUT wins against a dependency wait (R238). -/
def depExpire (ch : Chan) (s : State) : State :=
  if (chanAt s ch).depArmed ∧ s.refclk then
    let s := timeoutExpired 0xB s
    let s := modChan ch (fun x => { x with
      depTaken := true, depArmed := false, depMet := planDepPolicy (planOf s ch) }) s
    finishAll (notice 0x02 true (0x3004 + 0x100 * ch.val) 1 (bootFault (chanAt s ch)) 0 s)
  else s

/-- DEP_TIMEOUT_EXPIRY. -/
def execDepTimeoutExpiry (ch : Chan) (s : State) : Host.Outcome State Fault Refusal := .next (depExpire ch s)

end Sys2Proof.Machine
end

