-- ==== Sys2Proof/Machine/Timers.lean ====
section
/-! DEFINITION. The timer units TU0 to TU7 (R480 to R483). -/
namespace Sys2Proof.Machine

/-- Ticks of a prescaled period for a code (R463, R483). -/
def prescaleTicks : Nat → Nat
  | 0 => 1 | 1 => 16 | 2 => 256 | _ => 4096

/-- A window of the watchdog starts now. -/
def wdBegin (recovery : Bool) (prescale closedLen openLen : Nat) (s : State) : State :=
  modWd (fun w => { w with
    running := true, recovery := recovery, start := s.now
    prescale := prescale, closedLen := closedLen, openLen := openLen
    tasks := BitVec.ofNat 16 (cfgNat s 0xA000 5), response := BitVec.ofNat 8 (cfgNat s 0xA000 4)
    keyNext := if w.running then w.keyNext else 0xA55A }) s

/-- An ordinary window, under the configuration in force (R463, R471). -/
def wdWindow (s : State) : State :=
  wdBegin false (prescaleTicks (cfgNat s 0xA000 1)) (cfgNat s 0xA000 2) (cfgNat s 0xA000 3) s

/-- A recovery window (R464). -/
def wdRecovery (s : State) : State := wdBegin true 256 0 48828 s

/-- Owner code of a timer unit in force (R480). -/
def timerOwner (s : State) (u : Fin 8) : Nat := cfgNat s (0xA100 + u.val) 0

/-- Periods left (R483). -/
def timerCount (s : State) (t : TimerUnit) : Nat :=
  if t.st = 1 then t.count.toNat - (s.now - t.start) / prescaleTicks (bits t.mode.toNat 3 2) else t.count.toNat

/-- The unit stops and keeps its count. -/
def timerHalt (u : Fin 8) (s : State) : State :=
  modTimer u (fun t => { t with st := 0, count := BitVec.ofNat 40 (timerCount s t) }) s

/-- The count is loaded from TU_RELOAD. -/
def timerLoad (s : State) (t : TimerUnit) : TimerUnit := { t with st := 1, count := t.reload, start := s.now }

def tuStartRule (u : Fin 8) (s : State) : U8 × State :=
  if timerOwner s u = 0 then (eState, s)
  else if (s.timers[u]).reload = 0 then (eRange, s)
  else (eOk, modTimer u (timerLoad s) s)

def tuStopRule (u : Fin 8) (s : State) : U8 × State := (eOk, timerHalt u s)

/-- A write of TU_MODE or TU_RELOAD. -/
def tuWriteRule (u : Fin 8) (sub v : Nat) (s : State) : U8 × State :=
  if timerOwner s u = 0 then (eState, s)
  else if sub = 1 then
    if 16 ≤ v then (eRange, s)
    else
      let left := timerCount s s.timers[u]
      (eOk, modTimer u (fun t => if t.st = 1 then
          { t with mode := BitVec.ofNat 8 v, count := BitVec.ofNat 40 left, start := s.now }
        else { t with mode := BitVec.ofNat 8 v }) s)
  else (eOk, modTimer u (fun t => { t with reload := BitVec.ofNat 40 v }) s)

/-- TU_START (R481). -/
def execTuStart (p : Port) (u : Fin 8) (s : State) : Host.Outcome State Fault Refusal :=
  execOp p (0xA100 + u.val) 4 1 (tuStartRule u) s

/-- TU_STOP (R481). -/
def execTuStop (p : Port) (u : Fin 8) (s : State) : Host.Outcome State Fault Refusal :=
  execOp p (0xA100 + u.val) 5 1 (tuStopRule u) s

/-- TU_EXPIRY: the count reaches 0 (R481). -/
def execTuExpiry (u : Fin 8) (s : State) : Host.Outcome State Fault Refusal :=
  let t := s.timers[u]
  if t.st = 1 ∧ s.refclk then
    let n := satInc t.expiries
    let s := modTimer u (fun t =>
      let t := { t with expiries := n }
      if bit t.mode.toNat 0 then timerLoad s t else { t with st := 2, count := 0 }) s
    .next (if bit t.mode.toNat 1 then notice 0x38 false (0xA100 + u.val) 6 n.toNat 0 s else s)
  else .next s

end Sys2Proof.Machine
end

