-- ==== Sys2Proof/Machine/Commit.lean ====
section
/-! DEFINITION. Staging and COMMIT (R46 to R50, R123 to R130, R240, R410, R457, R471, R479, R480, R518, R531, R541,
R544, R545). -/
namespace Sys2Proof.Machine

/-! ### The single value (R544) -/

/-- Range of a TO_VALUE (R477). -/
def timeoutInRange (t v : Nat) : Bool :=
  match t with
  | 0 => 10 ≤ v && v ≤ 10000
  | 1 => v == 0 || (1000 ≤ v && v ≤ 1000000)
  | 2 => v == 0 || (10000 ≤ v && v ≤ 60000000)
  | 5 => 100000 ≤ v && v ≤ 2000000
  | 0xD => 10000 ≤ v && v ≤ 1000000
  | _ => false

/-- The check made when an RWC value is written: its range where the owning table states one for the single value, the
reserved bits of R3, and who may stage a timer's owner (R185 to R544). -/
def rwcCheck (s : State) (p : Port) (i sub : Nat) (v : Nat) : U8 :=
  let inRange := fun (b : Bool) => if b then eOk else eRange
  if 0x3000 ≤ i ∧ i < 0x3600 then
    let c := i / 256 - 0x30
    match i % 256, sub with
    | 0x00, 2 => inRange (v < 8)
    | 0x04, 0 => inRange (planBootState v != 3 && !bit (planStartDeps v) c && !bit (planRelDeps v) c)
    | 0x10, 2 => inRange (20 ≤ v && v ≤ 32)
    | 0x10, 3 => inRange (v ≤ 1)
    | _, _ => eOk
  else if 0xA100 ≤ i ∧ i < 0xA108 then
    if v = timerCode p ∨ (v = 0 ∧ cfgNat s i 0 = timerCode p) then eOk else eAccess
  else if 0xA110 ≤ i ∧ i < 0xA11E then inRange (timeoutInRange (i - 0xA110) v)
  else match i, sub with
    | 0x2000, 1 => inRange (v ≤ 2)
    | 0x2001, 1 => inRange (v ≤ 2)
    | 0x2000, 2 => inRange (v < 128)
    | 0x2001, 2 => inRange (v < 128)
    | 0x3600, 0 => inRange (v < 6)
    | _, _ => eOk

/-- A value is staged; a port holds at most 1,024 entries (R544). -/
def stageRule (p : Port) (i sub : Nat) (v : List Byte) (s : State) : U8 × State :=
  let c := rwcCheck s p i sub (leNat v)
  let st := (portRegs s p).staged
  if c ≠ eOk then (c, s)
  else if 1024 ≤ st.length ∧ (tget st (objKey i sub)).isNone then (eRefused, s)
  else (eOk, modPort p (fun r => { r with staged := tput r.staged (objKey i sub) v }) s)

/-! ### Rules (R123, R124) -/

/-- A single rule is staged (R99, R123). -/
def ruleDataRule (p : Port) (row : RuleRow) (s : State) : U8 × State :=
  if !ruleAcceptable row then (eRange, s)
  else (eOk, modPort p (fun r => { r with stagedRules := tput r.stagedRules r.ruleSelect.toNat row }) s)

/-- The rows of a block. -/
def blockRows (data : List Byte) : List RuleRow :=
  (List.range (data.length / 16)).map (fun i => rowOfBytes (slice data (16 * i) 16))

/-- A block of rules is staged whole or refused (R124). -/
def ruleDomainRule (p : Port) (off : Nat) (data : List Byte) (s : State) : U8 × State :=
  if off % 16 ≠ 0 ∨ data.length % 16 ≠ 0 ∨ 0x100000 < off + data.length then (eRange, s)
  else
    let rows := blockRows data
    if !rows.all ruleAcceptable then (eRange, s)
    else
      let nums := (List.range rows.length).map (· + off / 16)
      (eOk, modPort p (fun r => { r with
        stagedRules := (nums.zip rows).foldl (fun t x => tput t x.1 x.2) r.stagedRules }) s)

/-- RULE_DATA_WRITE. -/
def execRuleDataWrite (p : Port) (row : RuleRow) (s : State) : Host.Outcome State Fault Refusal :=
  writeOp p 0x4100 1 16 (ruleDataRule p row) s

/-- RULE_DOMAIN_WRITE. -/
def execRuleDomainWrite (p : Port) (offset : U40) (data : List Byte) (s : State) : Host.Outcome State Fault Refusal :=
  blockOp p 0x4101 0 data.length (ruleDomainRule p offset.toNat data) s

/-! ### COMMIT: what a failure says (R50) -/

/-- A failed COMMIT: code, resource, item. -/
structure CommitFail where
  code : U8
  resource : Nat
  item : Nat
deriving DecidableEq, Repr

def commitResultOf (f : Option CommitFail) : U40 :=
  match f with
  | none => 0
  | some f => BitVec.ofNat 40 (f.item * 65536 + f.resource * 256 + f.code.toNat)

/-- The first failure of a list of checks. -/
def firstFail (fs : List (Option CommitFail)) : Option CommitFail :=
  match fs with
  | [] => none
  | some f :: _ => some f
  | none :: t => firstFail t

/-- The state with a port's staged objects in force, for the checks that span values. -/
def withStaged (p : Port) (s : State) : State :=
  (portRegs s p).staged.foldl (fun t x => cfgPut (x.1 / 256) (x.1 % 256) x.2 t) s

/-! ### Step 1: values and locks -/

/-- SMBus addresses that are refused (R518). -/
def smbReserved (a : Nat) : Bool :=
  a ≤ 8 || a == 0x0C || a == 0x28 || a == 0x37 || a == 0x61 || 0x78 ≤ a

/-- A monitor is watched on battery (R441). -/
def onBattery (m : Nat) : Bool := [0, 1, 2, 4, 5, 9].contains m

/-- MON_CFG and W of a monitor satisfy R457 and R441. -/
def monitorOk (m cfg w : Nat) : Bool :=
  let n := bits cfg 11 8
  let loop := 4 ≤ m && m ≤ 7
  n != 0 && 1 ≤ w && w ≤ 16000 && bits cfg 5 0 == 0 && (loop || bits cfg 7 6 == 0) && bit cfg 12 &&
  !(m == 0 && !(bit cfg 15 && bit cfg 14 && !bit cfg 13)) &&
  !((m == 6 || m == 7) && bit cfg 6) && !(m == 9 && (bit cfg 14 || bit cfg 13)) &&
  (n - 1) * (if onBattery m then 4 else 1) ≤ w

/-- The watchdog values satisfy R471. -/
def wdValuesOk (t : State) : Bool :=
  cfgNat t 0xA000 1 ≤ 3 && cfgNat t 0xA000 3 != 0 &&
  25000 ≤ cfgNat t 0xA000 3 * prescaleTicks (cfgNat t 0xA000 1) && cfgNat t 0xA000 4 ≤ 1

/-- The DRBG values satisfy R410. -/
def drbgValuesOk (t : State) : Bool :=
  let i := cfgNat t 0x8030 1
  let a := cfgNat t 0x8030 2
  let l := cfgNat t 0x8030 3
  1024 ≤ i && i ≤ 0x100000000 && 10 ≤ a && a ≤ 60000 && 20 ≤ l && l ≤ 3600000 && 2 * a ≤ l

/-- The check of one staged object; `t` has the whole staged set in force. -/
def valueCheck (s t : State) (i sub : Nat) : Option CommitFail :=
  let bad := fun (b : Bool) (item : Nat) => if b then some ⟨eRange, 0, item⟩ else none
  if 0x9010 ≤ i ∧ i ≤ 0x9019 then
    if !monitorOk (i - 0x9010) (cfgNat t i 0) (cfgNat t i 1) then some ⟨eRange, 0, i⟩
    else if s.heath.locked then some ⟨eState, 0, i⟩ else none
  else if i = 0xA000 then
    if s.wd.locked then some ⟨eState, 0, 0xA000⟩ else bad (!wdValuesOk t) 0xA000
  else match i, sub with
    | 0x2000, 1 => bad (cfgNat t 0x2000 1 != 0 && cfgNat t 0x2001 1 != 0) 0x2000
    | 0x2001, 1 => bad (cfgNat t 0x2000 1 != 0 && cfgNat t 0x2001 1 != 0) 0x2000
    | 0x2000, 2 => bad (smbReserved (cfgNat t 0x2000 2) || cfgNat t 0x2000 2 == cfgNat t 0x2001 2) 0x2000
    | 0x2001, 2 => bad (smbReserved (cfgNat t 0x2001 2) || cfgNat t 0x2000 2 == cfgNat t 0x2001 2) 0x2001
    | 0x2003, 2 => bad (cfgNat t 0x2003 2 < 100 || 10000 < cfgNat t 0x2003 2) 0x2003
    | 0x6000, 5 => bad (!(allZero (cfgBytes t 0x6000 5) ||
        layoutOk s.vault.userSectors.toNat (cfgBytes t 0x6000 5))) 0x6000
    | 0x8030, _ => bad (!drbgValuesOk t) 0x8030
    | 0xC020, _ => bad (6 ≤ cfgNat t 0xC020 sub && cfgNat t 0xC020 sub ≤ 0xFE) 0xC020
    | _, _ => none

def valueStep (s t : State) (p : Port) : Option CommitFail :=
  firstFail ((portRegs s p).staged.map (fun x => valueCheck s t (x.1 / 256) (x.1 % 256)))

/-! ### Steps 2 and 3: the rules (R125, R126, R147) -/

/-- LIVE_CHANGE: a committed valid rule changed by anything but the empty row (R125). -/
def liveChange (s : State) (staged : List (Nat × RuleRow)) : Option CompileFail :=
  failOn 0x01 eState (staged.filterMap (fun (x : Nat × RuleRow) =>
    match tget s.hedgerow.table x.1 with
    | some r => if x.2 != (0 : RuleRow) && x.2 != r then some x.1 else none
    | none => none))

/-- What the Hedgerow checks find: the failing check, and the nodes a switch would add. -/
def compileStep (s t : State) (p : Port) : Option CompileFail × Nat :=
  let staged := (portRegs s p).stagedRules
  let rules := applyRows s.hedgerow.table staged
  match liveChange s staged with
  | some f => (some f, 0)
  | none =>
    match mapChecks s (envInForce t) rules [0, 1, 2, 3, 4, 5] with
    | some f => (some f, 0)
    | none =>
      if 40960 < sealedLines rules then (some ⟨0x0C, none, eClaim, 0x20⟩, 0)
      else (capacityChecks s rules, nodesAdded s rules)

def compileToCommit (f : CompileFail) : CommitFail := ⟨f.code, f.resource, if f.rule.isSome then 0x4100 else 0⟩

/-- COMPILE_RESULT and NODES_NEEDED of the port. -/
def setCompile (p : Port) (r : Option CompileFail × Nat) (s : State) : State :=
  modPort p (fun x => { x with compileResult := compileResult r.1, nodesNeeded := BitVec.ofNat 16 r.2 }) s

/-- Steps 2 and 3: the failure, and the state with the port's results set. -/
def ruleSteps (t : State) (p : Port) (s : State) : Option CommitFail × State :=
  let r := compileStep s t p
  let s' := setCompile p r s
  match r.1 with
  | some f => (some (compileToCommit f), s')
  | none =>
    let pr := placeResult s (applyRows s.hedgerow.table (portRegs s p).stagedRules)
    (if pr = 0 then none else some ⟨eClaim, 0x20, 0⟩, modPort p (fun x => { x with placeResult := pr }) s')

/-! ### Step 4: the release plan (R240) -/

/-- Channels a plan depends on, as a bit set. -/
def planDeps (v : Nat) : List Nat := (List.range 6).filter (fun c => bit (planStartDeps v) c || bit (planRelDeps v) c)

/-- Channels reached from `c` by at most `n` dependencies. -/
def depReach (t : State) : Nat → Nat → List Nat
  | 0, _ => []
  | n + 1, c => (planDeps (planOf t (chanOf c))).flatMap (fun d => d :: depReach t n d)

/-- The first channel that meets a condition fails the check. -/
def planFail (code : U8) (res : Nat → Nat) (p : Nat → Bool) : Option CommitFail :=
  ((List.range 6).find? p).map (fun c => ⟨code, res c, 0x3004 + 0x100 * c⟩)

/-- LOOP2 and LOOP3 stand on GPIO0 and GPIO1; a loop claims its ball while it is enabled (R45, R457). -/
def loopEnabled (s : State) (g : Nat) : Bool := bit (cfgNat s (0x9016 + g) 0) 15

def planStep (s t : State) : Option CommitFail :=
  let plan := fun c => planOf t (chanOf c)
  firstFail [
    planFail eRange (fun _ => 0) (fun c => (depReach t 6 c).contains c),
    planFail eRange (fun _ => 0) (fun c => (planDeps (plan c)).any (fun d => planBootState (plan d) == 0)),
    planFail eClaim (fun c => planGpioSel (plan c) + 1) (fun c =>
      planGpioEn (plan c) && planGpioSel (plan c) < 2 &&
      loopEnabled s (planGpioSel (plan c)) && loopEnabled t (planGpioSel (plan c)))]

/-! ### Step 5: the remaining claims -/

/-- A committed plan entry names the GPIO (R45). -/
def gpioNamed (t : State) (g : Nat) : Bool :=
  (List.range 6).any (fun c => planGpioEn (planOf t (chanOf c)) && planGpioSel (planOf t (chanOf c)) == g)

/-- A staged claim on a unit that another owner holds (R480). -/
def timerClaim (s t : State) (p : Port) (u : Nat) : Option CommitFail :=
  let old := cfgNat s (0xA100 + u) 0
  if cfgNat t (0xA100 + u) 0 ≠ old ∧ old ≠ 0 ∧ old ≠ timerCode p then some ⟨eClaim, 0x10 + u, 0xA100 + u⟩ else none

def claimStep (s t : State) (p : Port) : Option CommitFail :=
  firstFail ([0, 1].map (fun g =>
      if loopEnabled t g && gpioNamed t g then some ⟨eClaim, 1 + g, 0x9016 + g⟩ else none) ++
    (List.range 8).map (timerClaim s t p))

/-! ### COMMIT (R47 to R49, R127, R545) -/

/-- Units freed by the COMMIT stop (R482). -/
def stopFreed (old : State) (s : State) : State :=
  (List.range 8).foldl (fun t u =>
    if timerOwner old (unit8 u) ≠ 0 ∧ timerOwner t (unit8 u) = 0 then timerHalt (unit8 u) t else t) s

/-- A committed SMB_ADDR waits for the response to the COMMIT (R518). -/
def smbDue (old : State) (s : State) : State :=
  [(0 : MPort), 1].foldl (fun t p =>
    let a := cfgNat t (0x2000 + p.val) 2
    if cfgNat old (0x2000 + p.val) 2 = a then t
    else modMport p (fun m => { m with addrDue := some (BitVec.ofNat 8 a) }) t) s

/-- A committed SMB_ADDR takes effect. -/
def smbApply (s : State) : State :=
  [(0 : MPort), 1].foldl (fun t p => modMport p (fun m =>
    match m.addrDue with
    | some a => { m with smbAddr := a, addrDue := none }
    | none => m) t) s

/-- The whole set is taken at one instant; the index switches when it differs (R48, R127, R545). -/
def applyCommit (p : Port) (t : State) (s : State) : State :=
  let rules := applyRows s.hedgerow.table (portRegs s p).stagedRules
  let new := smbDue s (stopFreed s t)
  let new := allChans (fun c u => modChan c (fun ch => { ch with compileFault := false }) u) new
  let new := if rules ≠ s.hedgerow.index then resettleCtxs (switchIndex rules rules new)
    else modHr (fun h => { h with table := rules }) new
  -- under software start the first COMMIT of a watchdog object starts it (R462)
  let wd := (portRegs s p).staged.any (fun x => objKey 0xA000 1 ≤ x.1 && x.1 ≤ objKey 0xA000 5)
  let new := if wd && !s.wd.running && !wdtStart s then wdWindow new else new
  let new := modPort p (fun r => { r with staged := [], stagedRules := [] }) new
  let new := if configBody new = configBody s then new else unsaved new
  { new with commits := satInc s.commits, lastCommitPort := BitVec.ofNat 8 (portNo p).val, lastCommitUs := s.tbUs }

/-- COMMIT on a port. -/
def commitRule (p : Port) (s : State) : U8 × State :=
  let result := fun (f : Option CommitFail) (s : State) =>
    modPort p (fun r => { r with commitResult := commitResultOf f }) s
  if !inService s then (eNotReady, result (some ⟨eNotReady, 0, 0⟩) s)
  else
    let t := withStaged p s
    match valueStep s t p with
    | some f => (f.code, result (some f) s)
    | none =>
      let (rf, s) := ruleSteps t p s
      match rf, planStep s t, claimStep s t p with
      | some f, _, _ => (f.code, result (some f) s)
      | none, some f, _ => (f.code, result (some f) s)
      | none, none, some f => (f.code, result (some f) s)
      | none, none, none =>
        (eOk, finishAll (result none (applyCommit p (withStaged p s) s)))

/-- DISCARD empties the port's staged set (R47). -/
def discardRule (p : Port) (s : State) : U8 × State :=
  (eOk, modPort p (fun r => { r with staged := [], stagedRules := [] }) s)

/-- CHECK (R129). -/
def checkRule (p : Port) (s : State) : U8 × State :=
  if !inService s then (eNotReady, s)
  else
    let (f, s) := ruleSteps (withStaged p s) p s
    (match f with | some f => f.code | none => eOk, s)

/-- COMMIT: the response is part of this command, so a committed SMB_ADDR is in effect after it (R518). -/
def execCommit (p : Port) (s : State) : Host.Outcome State Fault Refusal :=
  execOp p 0xC001 0 1 (fun s => let (c, s) := commitRule p s; (c, smbApply s)) s

/-- DISCARD. -/
def execDiscard (p : Port) (s : State) : Host.Outcome State Fault Refusal := execOp p 0xC001 2 1 (discardRule p) s

/-- CHECK. -/
def execCheck (p : Port) (s : State) : Host.Outcome State Fault Refusal := execOp p 0x4000 7 1 (checkRule p) s

end Sys2Proof.Machine
end

