-- ==== Sys2Proof/Machine/UpdateOps.lean ====
section
/-! DEFINITION. The update's data: manifests, part entries, Swath deltas, line trees built from data, places of tree copies,
registration, counters, and the manifest found again after a reset (R297 to R316, R322 to R325). -/
namespace Sys2Proof.Machine

/-! ### LAST_RESULT (R327) -/

/-- LAST_RESULT is set, with its UPDATE entry (R431). -/
def setLast (step : Nat) (code : U8) (detail : Nat) (s : State) : State :=
  let v := BitVec.ofNat 40 (step * 2 ^ 24 + code.toNat * 2 ^ 16 + detail)
  journal 0x02 0x0600 true (leBytes 5 v.toNat) (modUpd (fun u => { u with lastResult := v }) s)

/-! ### Manifests (R297, R298) -/

def mfCount (m : List Byte) : Nat := fieldAt m 6 2
def mfEncrypt (m : List Byte) : Bool := bit (byteAt m 5) 0
def mfLength (m : List Byte) : Nat := fieldAt m 8 4
def mfTrial (m : List Byte) : Nat := fieldAt m 0x0C 4
def mfVersion (m : List Byte) : Nat := fieldAt m 0x10 5

/-- A part entry. -/
structure MPart where
  no : Nat
  kind : Nat
  chan : Nat
  bank : Nat
  flags : Nat
  counter : Nat
  target : Nat
  version : Nat
  base : Nat
  deltaLen : Nat
  targetLen : Nat
  baseRoot : List Byte
  baseDigest : List Byte
  targetDigest : List Byte
  deltaDigest : List Byte
  entry : List Byte
  reservedOk : Bool
deriving DecidableEq, Repr

def partAt (m : List Byte) (i : Nat) : MPart :=
  let e := slice m (64 + 272 * i) 272
  { no := i, kind := byteAt e 0, chan := byteAt e 1, bank := byteAt e 2, flags := byteAt e 3, counter := byteAt e 4
    target := fieldAt e 6 2, version := fieldAt e 8 5, base := fieldAt e 0x0E 2, deltaLen := fieldAt e 0x10 5
    targetLen := fieldAt e 0x18 5, baseRoot := slice e 0x20 32, baseDigest := slice e 0x40 48
    targetDigest := slice e 0x70 48, deltaDigest := slice e 0xA0 48, entry := slice e 0xD0 64
    reservedOk := byteAt e 5 == 0 && byteAt e 0x0D == 0 && allZero (slice e 0x15 3) && allZero (slice e 0x1D 3) }

def mfParts (m : List Byte) : List MPart := (List.range (mfCount m)).map (partAt m)

/-- BANK or SEED: it rewrites lines. -/
def MPart.lines (p : MPart) : Bool := p.kind == 1 || p.kind == 2

/-- Checks 4 and 5 of R299 on the header and the signature block. -/
def mfLengthOk (m : List Byte) : Bool :=
  mfLength m == 64 + 272 * mfCount m + 2048 && mfLength m == m.length

def mfHeadOk (m : List Byte) : Bool :=
  let g := slice m (64 + 272 * mfCount m) 2048
  fieldAt m 0 4 == 0x464D5651 && byteAt m 4 == 1 && 1 ≤ mfCount m && mfCount m ≤ 256 &&
  (mfTrial m == 0 || (1000 ≤ mfTrial m && mfTrial m ≤ 604800000)) && byteAt m 5 < 2 &&
  allZero (slice m 0x15 3) && allZero (slice m 0x28 24) && fieldAt g 0 4 == 0x47535651 && sigShapeOk g

/-- The signature block of a manifest and what it signs. -/
def mfSig (s : State) (m : List Byte) : Option Nat :=
  let n := 64 + 272 * mfCount m
  sigCheck s (slice m 0 n) (slice m n 2048)

/-! ### Banks and rules of a part (R298, R300) -/

/-- The bank a part writes under a rule: a BANK part the one not in force, a SEED part the one in force. -/
def targetBank (s : State) (p : MPart) (row : RuleRow) : Bool :=
  if p.kind = 1 then !bankB s row else bankB s row

def verifies (row : RuleRow) : Bool := rReadMode row == 1 || rReadMode row == 2

/-- TARGET_ENTRY is a legal unregistered entry (R139, R140, R300). -/
def entryOk (s : State) (p : MPart) : Bool :=
  let t := treeEntryOf p.entry
  byteAt p.entry 0 == 1 && byteAt p.entry 3 == 0 && allZero (slice p.entry 0x10 16) &&
  byteAt p.entry 2 == t.channel + 16 * t.taCs && t.channel == p.chan && treeShapeOk t.depth t.nlines &&
  t.hbase % 256 == 0 && t.hbase + 256 * t.nlines ≤ 2 ^ 32 && t.taAddr % 4096 == 0 &&
  t.taAddr + 512 * treeBlocks t.depth t.nlines ≤ capacityOf (chanAt s (chanOf p.chan)) (csOf t.taCs) &&
  p.targetLen == 256 * t.nlines

/-- A part's fields are as R298 and R300 require. -/
def partOk (s : State) (m : List Byte) (p : MPart) : Bool :=
  let rules := s.hedgerow.table
  let noTree := p.base == 0xFFFF || p.base == 0xFFFE
  let common := p.reservedOk && 16 ≤ p.deltaLen && (p.base < 4096 || p.base == 0xFFFF || (p.base == 0xFFFE && p.kind == 3)) &&
    (!noTree || allZero p.baseRoot) && (p.base != 0xFFFF || allZero p.baseDigest)
  let lineSide := p.chan < 6 && p.flags == 0 && 1 ≤ p.counter && p.counter ≤ 61 && p.target < 4096 && entryOk s p
  common && (match p.kind with
    | 1 =>
      let banked := rules.filter (fun x => rChannel x.2 == p.chan && rBanked x.2 && rBankId x.2 == p.bank)
      let b := !s.update.vector.getLsbD p.bank
      lineSide && banked.any (fun x => rTree x.2 + b2n b == p.target) &&
      rules.all (fun x => !(rBanked x.2 && rBankId x.2 == p.bank && verifies x.2) ||
        (mfParts m).any (fun q => q.lines && q.target == rTree x.2 + b2n b))
    | 2 =>
      lineSide && p.bank == 0 && mfTrial m == 0 &&
      rules.any (fun x => rChannel x.2 == p.chan && verifies x.2 && rTree x.2 + b2n (bankB s x.2) == p.target)
    | 3 =>
      p.chan == 0 && p.bank == 0 && p.flags < 2 && p.counter == 0 && p.target == 0 && p.version == 0 &&
      allZero p.entry && p.targetLen ≤ 64 + 0x200000 + 2048
    | _ => false)

/-- Check 13 of R299: an earlier part has the same target, or is the RUNTIME part. -/
def partDuplicate (m : List Byte) (p : MPart) : Bool :=
  ((mfParts m).take p.no).any (fun q =>
    (p.lines && q.lines && q.target == p.target) || (p.kind == 3 && q.kind == 3))

/-! ### The runtime copies (R227, R253, R324) -/

def bootCopy (s : State) (c : Nat) : List Byte := if c = 0 then s.vault.bootA else s.vault.bootB

/-- The bytes of copy RT_COPY, as its LENGTH gives them. -/
def rtBytes (s : State) : List Byte :=
  let b := bootCopy s s.rtCopy.toNat
  b.take (rtWhole b)

/-- The acceptance checks of R227 on an image: the DETAIL code of R242 and the error code; none: accepted. -/
def rtReject (s : State) (img : List Byte) : Option (Nat × U8) :=
  let n := rtCodeLen img
  if n = 0 ∨ 0x200000 < n ∨ img.length < rtWhole img then some (2, eLength)
  else match sigCheck s (img.take (0x40 + n)) (slice img (0x40 + n) 2048) with
    | some 1 => some (3, eAuth)
    | some 2 => some (4, eAuth)
    | some 3 => some (3, eAuth)
    | some _ => some (4, eAuth)
    | none => if rtSvnOf img < rtCounter s then some (5, eRollback) else none

/-! ### Bases (R299 check 14, R305, R307 step 2) -/

/-- Check 14 of R299. -/
def baseOk (s : State) (p : MPart) : Bool :=
  if p.base = 0xFFFF then true
  else if p.base = 0xFFFE then sha384 (rtBytes s) == p.baseDigest
  else match tget s.hayloft.trees p.base with
    | some t => t.channel == p.chan && padTo t.root 32 == p.baseRoot
    | none => false

/-- The base length; none: no base. -/
def baseLen (s : State) (p : MPart) : Option Nat :=
  if p.base = 0xFFFF then none
  else if p.base = 0xFFFE then some (rtBytes s).length
  else match tget s.hayloft.trees p.base with
    | some t => some (256 * t.nlines)
    | none => some 0

/-! ### Swath deltas (R304, R305) -/

/-- An operation of a delta. -/
inductive Swath
  | copy (arg count : Nat)
  | add (arg count : Nat) (data : List Byte)
  | literal (data : List Byte)
  | fill (b : Byte) (count : Nat)
deriving DecidableEq, Repr

/-- The operations from offset `o`, with `n` bytes produced so far. -/
def swathOps (bs : List Byte) (base : Option Nat) (target : Nat) : Nat → Nat → Nat → Except U8 (List Swath)
  | 0, _, _ => .error eLength
  | f + 1, o, n =>
    if bs.length < o + 8 then .error eLength
    else
      let w := fieldAt bs o 8
      let op := w / 2 ^ 60
      let arg := w % 2 ^ 32
      let count := bits w 51 32 + 1
      let padded := roundUp count 8
      let data := slice bs (o + 8) count
      let next := fun (x : Swath) (o' : Nat) =>
        match swathOps bs base target f o' (n + count) with
        | .ok t => .ok (x :: t)
        | .error e => .error e
      if 4 < op ∨ bits w 59 52 ≠ 0 then .error eRange
      else if op = 0 then
        if w ≠ 0 then .error eRange
        else if n ≠ target ∨ o + 8 ≠ bs.length then .error eLength
        else .ok []
      else if (op = 3 ∧ arg ≠ 0) ∨ (op = 4 ∧ 255 < arg) then .error eRange
      else if (op = 1 ∨ op = 2) ∧ base.all (fun k => decide (k < arg + count)) then .error eRange
      else if target < n + count then .error eLength
      else if (op = 2 ∨ op = 3) ∧ bs.length < o + 8 + padded then .error eLength
      else if (op = 2 ∨ op = 3) ∧ !allZero (slice bs (o + 8 + count) (padded - count)) then .error eRange
      else if op = 1 then next (.copy arg count) (o + 8)
      else if op = 2 then next (.add arg count data) (o + 8 + padded)
      else if op = 3 then next (.literal data) (o + 8 + padded)
      else next (.fill (BitVec.ofNat 8 arg) count) (o + 8)

/-- The parse of a whole delta. -/
def swathParse (bs : List Byte) (base : Option Nat) (target : Nat) : Except U8 (List Swath) :=
  if fieldAt bs 0 4 ≠ 0x57535651 ∨ byteAt bs 4 ≠ 1 ∨ !allZero (slice bs 5 3) then .error eRange
  else swathOps bs base target (bs.length / 8 + 1) 8 0

/-- The bytes one operation produces. -/
def swathBytes (base : List Byte) : Swath → List Byte
  | .copy a n => slice base a n
  | .add a n d => List.zipWith (· + ·) (slice base a n) d
  | .literal d => d
  | .fill b n => List.replicate n b

/-- The target a delta builds. -/
def swathRun (base : List Byte) (ops : List Swath) : List Byte := ops.flatMap (swathBytes base)

/-! ### Trees from data (R132 to R138) -/

/-- Digests in nodes of 16 slots. -/
def nodesOf : Nat → List (List Byte) → List (List Byte)
  | 0, _ => []
  | f + 1, ds => if ds = [] then [] else padTo (ds.take 16).flatten 512 :: nodesOf f (ds.drop 16)

/-- The nodes of the levels from `level` to `level + n - 1` above some digests. -/
def treeLevels (tree : Nat) : Nat → Nat → List (List Byte) → List (List (List Byte))
  | 0, _, _ => []
  | n + 1, level, ds =>
    let ns := nodesOf ds.length ds
    ns :: treeLevels tree n (level + 1) ((ns.zipIdx).map (fun x => nodeDigest tree level x.2 x.1))

/-- The leaf digests of a tree's content. -/
def leavesOf (tree : Nat) (t : TreeEntry) (content : List Byte) : List (List Byte) :=
  (List.range t.nlines).map (fun i => leafDigest tree (t.hbase + 256 * i) (slice content (256 * i) 256))

/-- The nodes of a tree, levels 1 to DEPTH. -/
def nodesFor (tree : Nat) (t : TreeEntry) (content : List Byte) : List (List (List Byte)) :=
  treeLevels tree t.depth 1 (leavesOf tree t content)

/-- The root of a tree's content (R134). -/
def rootOf (tree : Nat) (t : TreeEntry) (content : List Byte) : List Byte :=
  match (nodesFor tree t content).getLast? with
  | some (n :: _) => nodeDigest tree t.depth 0 n
  | _ => []

/-- The bytes of a tree area (R136, R137). -/
def areaBytes (tree : Nat) (t : TreeEntry) (content : List Byte) : List Byte :=
  treeHeader tree t ++ ((nodesFor tree t content).reverse.flatMap (·.flatten))

/-! ### Places of tree copies (R140, R299 check 16, R307 step 4) -/

/-- Sectors of the registered trees' copies: first sector and length. -/
def copiesUsed (s : State) : List (Nat × Nat) :=
  s.hayloft.trees.filterMap (fun t =>
    if t.2.vaultFa = 0 then none
    else some (t.2.vaultFa.toNat - 0x8000000000, treeBlocks t.2.depth t.2.nlines))

/-- The lowest place for `n` sectors beside those in use. -/
def firstFit (p : Part) (used : List (Nat × Nat)) (n : Nat) : Option Nat :=
  let free := fun a => p.start ≤ a && a + n ≤ p.start + p.sectors &&
    used.all (fun u => a + n ≤ u.1 || u.1 + u.2 ≤ a)
  ((used.map (fun u => u.1 + u.2)).foldl (fun (a : Option Nat) c =>
    if free c then (match a with | none => some c | some b => some (min b c)) else a)
    (if free p.start then some p.start else none))

/-- A tree that is registered exactly as a part's entry gives it keeps its copy's place. -/
def placedAlready (s : State) (p : MPart) : Option Nat :=
  match tget s.hayloft.trees p.target with
  | some t =>
    if t.vaultFa ≠ 0 ∧ { t with vaultFa := 0, areaDamaged := false } = treeEntryOf p.entry
    then some (t.vaultFa.toNat - 0x8000000000) else none
  | none => none

/-- The sector of each target tree's copy, in part order. -/
def copyPlaces (s : State) (m : List Byte) : List (Nat × Option Nat) :=
  match partOf s 3 with
  | none => (mfParts m).map (fun p => (p.no, none))
  | some tp =>
    ((mfParts m).foldl (fun (a : List (Nat × Option Nat) × List (Nat × Nat)) p =>
      if !p.lines then a
      else match placedAlready s p with
        | some k => (a.1 ++ [(p.no, some k)], a.2)
        | none =>
          let t := treeEntryOf p.entry
          let n := treeBlocks t.depth t.nlines
          let k := firstFit tp a.2 n
          (a.1 ++ [(p.no, k)], match k with | some k => (k, n) :: a.2 | none => a.2)) ([], copiesUsed s)).1

def copyPlace (s : State) (m : List Byte) (p : MPart) : Option Nat :=
  ((copyPlaces s m).find? (fun x => x.1 == p.no)).bind (·.2)

/-- Body lengths of the records a manifest will write in IMAGE. -/
def mfRecords (m : List Byte) : List Nat :=
  m.length :: (mfParts m).flatMap (fun p =>
    (List.range (divUp p.deltaLen 0x100000)).map (fun i => min 0x100000 (p.deltaLen - i * 0x100000)) ++
    (if p.lines then [p.targetLen] else []) ++ [40])

/-- The IMAGE log takes records of these lengths without overwriting a protected record or each other (check 16). -/
def logHolds (s : State) (lens : List Nat) : Bool :=
  match partOf s 2 with
  | none => false
  | some p =>
    let prot := (s.vault.records.filter (fun r => (protectedRecs s).contains r.1)).map (fun r => (r.1, r.2.2.2 / 512))
    let start := match newestRec (recsIn s 2) with | some r => r.1 + r.2.2.2 / 512 | none => p.start
    (lens.foldl (fun (a : Option (Nat × List (Nat × Nat))) len =>
      match a with
      | none => none
      | some (k, used) =>
        let n := recSize len / 512
        let k := if k + n ≤ p.start + p.sectors then k else p.start
        if p.sectors < n ∨ used.any (fun u => k < u.1 + u.2 ∧ u.1 < k + n) then none
        else some (k + n, (k, n) :: used)) (some (start, prot))).isSome

/-- Check 16 of R299. -/
def roomOk (s : State) (m : List Byte) : Bool :=
  logHolds s (mfRecords m) && (copyPlaces s m).all (fun x => x.2.isSome)

/-! ### Registration (R140, R142) -/

/-- A tree header matches an entry. -/
def headerMatches (h : List Byte) (tree : Nat) (t : TreeEntry) : Bool :=
  slice h 0 0x14 == slice (treeHeader tree t) 0 0x14 && slice h 0x20 32 == padTo t.root 32

/-- The conditions of R140 on an entry. -/
def registrable (s : State) (tree : Nat) (t : TreeEntry) : Bool :=
  let c := chanOf t.channel
  let n := treeBlocks t.depth t.nlines
  let k := t.vaultFa.toNat - 0x8000000000
  tree < 4096 && t.channel < 6 && treeShapeOk t.depth t.nlines && t.hbase % 256 == 0 &&
  t.hbase + 256 * t.nlines ≤ 2 ^ 32 && t.taAddr % 4096 == 0 &&
  t.taAddr + 512 * n ≤ capacityOf (chanAt s c) (csOf t.taCs) && 0x8000000000 ≤ t.vaultFa.toNat &&
  (match partOf s 3 with
   | some p => p.start ≤ k && k + n ≤ p.start + p.sectors
   | none => false) &&
  headerMatches (flashRead s c (csOf t.taCs) t.taAddr 64) tree t && headerMatches (userRead s k 64) tree t

/-- The nodes of a tree leave the node cache, and its unpinned contexts return to EMPTY (R142). -/
def forgetTree (tree : Nat) (s : State) : State :=
  let s := modHay (fun h => { h with cache := h.cache.filter (fun x => x.2.tree != tree) }) s
  dropCtxs (fun x => x.tree == tree && !x.pin) s

/-- An accepted MANIFEST record names the tree and its ROOT, with signatures that verify (R292). -/
def manifestNames (s : State) (tree : Nat) (t : TreeEntry) : Bool :=
  (scanPart s 4).any (fun r => r.2.1 == 3 && recCheck s r.1 == none &&
    (let m := recBody s r.1
     (mfSig s m).isNone &&
      (mfParts m).any (fun p => p.lines && p.target == tree && padTo (treeEntryOf p.entry).root 32 == padTo t.root 32)))

/-- An entry enters the registry where R140 admits it; in the degraded state it needs a signed manifest (R292). -/
def registerTree (tree : Nat) (t : TreeEntry) (s : State) : State :=
  if registrable s tree t && (!s.vault.degraded || manifestNames s tree t) then
    let s := if (tget s.hayloft.trees tree).isSome then forgetTree tree s else s
    markBlocks rootBlocks (modHay (fun h => { h with trees := tput h.trees tree t }) s)
  else s

/-- The target entries of a manifest are registered (R318 step 3, R316). -/
def registerTargets (m : List Byte) (s : State) : State :=
  let places := copyPlaces s m
  unsaved ((mfParts m).foldl (fun t p =>
    if p.lines then
      match (places.find? (fun x => x.1 == p.no)).bind (·.2) with
      | some k => registerTree p.target { treeEntryOf p.entry with vaultFa := BitVec.ofNat 40 (sectorFa k) } t
      | none => t
    else t) s)

/-! ### Counters (R322, R323) -/

def counterNow (s : State) (k : Nat) : Nat :=
  match s.vault.counters with
  | some vs => if s.vault.foreign then 0 else vs.getD k 0
  | none => 0

/-- COUNTERS of an activation's stile record: MF_VERSION, and each COUNTER with the largest VERSION. -/
def mfCounters (m : List Byte) : List (Nat × Nat) :=
  (mfParts m).foldl (fun t p =>
    if p.lines then tput t p.counter (max p.version ((tget t p.counter).getD 0)) else t) [(0, mfVersion m)]

/-- The counters rise to a record's values; a write that cannot be made leaves a retained entry (R322). -/
def raiseCounters (cs : List (Nat × Nat)) (s : State) : State :=
  match s.vault.counters with
  | some vs =>
    let new := cs.foldl (fun v c => v.set c.1 (max c.2 (v.getD c.1 0))) vs
    if new = vs then s
    else if rpmbWritable s && rpmbReady s then putCounters (s.vault.counterSeq.toNat + 1) new s
    else notice 0x20 true 0x6004 1 (counterNow s 0) 0 s
  | none => notice 0x20 true 0x6004 1 0 0 s

/-- The OTP counter rises to RT_SVN of the runtime in force where a RUNTIME part asks for it (R323). -/
def raiseOtp (m : List Byte) (s : State) : State :=
  if (mfParts m).any (fun p => p.kind == 3 && bit p.flags 0) then raiseRtCounter (rtSvnOf (rtBytes s)) s else s

/-! ### Progress and the manifest found again (R301, R310, R325) -/

/-- A progress record is written. -/
def putProgress (s : State) : State :=
  let bm := s.update.partState.foldl (fun a x => if x.2 = 4 then a + 2 ^ x.1 else a) 0
  let body := [s.update.state, 0, 0, 0] ++ leBytes 2 s.update.currentPart ++ [0, 0] ++ leBytes 32 bm
  match storeRecord 4 (leBytes 4 s.update.manifestSeq.toNat ++ leBytes 2 0xFFFF) body false s with
  | .ok (_, s) => s
  | .error _ => s

/-- The update is over: UPD_STATE is IDLE and the manifest's records are released. -/
def updateIdle (s : State) : State :=
  modUpd (fun u => { u with
    state := 0, act := none, affected := [], targetBits := [], trialStart := none, locked := 0, seedHolds := []
    partData := [], partState := [], currentPart := 0 }) (putProgress (modUpd (fun u => { u with state := 0 }) s))

/-- The bits a manifest's BANK parts target. -/
def mfBits (m : List Byte) : List Nat := ((mfParts m).filter (fun p => p.kind == 1)).foldl (fun a p => insertNat p.bank a) []

def lockBits (m : List Byte) : BitVec 256 := (mfBits m).foldl (fun v b => v ||| ((1 : BitVec 256) <<< b)) 0

/-- The bytes of a part that its UPDATE_PART records hold, in the order they were written. -/
def partFromRecords (s : State) (seq part : Nat) : List Byte :=
  let rs := ((sortRecs (s.vault.records.filter (fun r => r.2.1 == 4))).reverse).filter (fun r =>
    let h := userRead s r.1 64
    fieldAt h 0x14 4 == seq && fieldAt h 0x18 2 == part && recCheck s r.1 == none)
  rs.foldl (fun a r =>
    let o := fieldAt (userRead s r.1 64) 0x1C 5
    if o = 0 then recBody s r.1 else if o = a.length then a ++ recBody s r.1 else a) []

/-- The newest progress record of a manifest: its body. -/
def progressOf (s : State) (seq : Nat) : Option (List Byte) :=
  ((sortRecs (s.vault.records.filter (fun r => r.2.1 == 4))).find? (fun r =>
    let h := userRead s r.1 64
    fieldAt h 0x14 4 == seq && fieldAt h 0x18 2 == 0xFFFF && recCheck s r.1 == none)).map (fun r => recBody s r.1)

/-- The manifest in progress is found again after a power-up (R310). One that the newest stile record names, or whose
progress record says IDLE, is not in progress. -/
def resumeUpdate (s : State) : State :=
  match (sortRecs (s.vault.records.filter (fun r => r.2.1 == 3))).find? (fun r => recCheck s r.1 == none) with
  | none => s
  | some r =>
    let m := recBody s r.1
    let seq := r.2.2.1
    let prog := progressOf s seq
    let st := match prog with | some b => byteAt b 0 | none => 1
    if s.update.state ≠ 0 ∨ st = 0 ∨ (s.update.stile ≠ [] ∧ stileManifestSeq s.update.stile = seq) then s
    else
      let bm := match prog with | some b => fieldAt b 8 32 | none => 0
      let ps := mfParts m
      let data := ps.map (fun p => (p.no, partFromRecords s seq p.no))
      let state := ps.map (fun (p : MPart) =>
        let d : List Byte := (tget data p.no).getD []
        let v : U8 := if bit bm p.no then 4 else if d.length = p.deltaLen ∧ sha384 d = p.deltaDigest then 2
          else if d = [] then 0 else 1
        (p.no, v))
      let started := prog.isSome
      let ust : U8 := if st = 3 then 3 else if state.all (fun x => x.2 == 4) then 4
        else if state.all (fun x => 2 ≤ x.2.toNat) then 2 else 1
      let cur := match prog with | some b => fieldAt b 4 2 | none => 0
      let seeds := (ps.filter (fun p => p.kind == 2 && started && (bit bm p.no || (st == 3 && p.no == cur)))).map (·.chan)
      let s := modUpd (fun u => { u with
        state := ust, manifest := m, manifestSeq := BitVec.ofNat 32 seq, manifestDigest := sha384 m
        partData := data, partState := state, currentPart := cur
        locked := if started then lockBits m else 0, seedHolds := seeds }) s
      seeds.foldl (fun t c => modChan (chanOf c) (fun ch => { ch with activation := true }) t) s

end Sys2Proof.Machine
end

