-- ==== Sys2Proof/Machine/VaultCmds.lean ====
section
/-! DEFINITION. Commands on the vault: its requested state, bring-up as a self-test, the end of eMMC commands, the saving of
configuration sets, archiving, FORMAT, STAGE_CLEAR and ordered restores (R249 to R285). -/
namespace Sys2Proof.Machine

/-! ### Bring-up (R226, R249) -/

/-- VAULT_MODE that a successful attempt reaches: 1 52 MHz SDR, 2 HS200, 3 HS400 (R226, R294). -/
def vaultModeOf (s : State) (hs200 hs400 : Bool) : Nat :=
  if !hs200 then 1 else if hs400 && !s.straps.getLsbD 1 then 3 else 2

/-- The device is up: its mode, what identification reads, and a retained entry for each fallback (R226). -/
def vaultUp (src : Nat) (hs200 hs400 : Bool) (info : EmmcInfo) (s : State) : State :=
  let m := vaultModeOf s hs200 hs400
  let s := modVault (fun v => { v with
    mode := BitVec.ofNat 8 m, userSectors := info.userSectors, cid := padTo info.cid 16
    rpmb := { v.rpmb with writeCounter := info.writeCounter } }) s
  let s := if hs200 ∧ !hs400 ∧ !s.straps.getLsbD 1 then notice src true 0x6000 0 m 0 s else s
  if !hs200 then notice src true 0x6000 0 m 0 s else s

/-! ### Retirement of the vault (R251, R276) -/

/-- The vault is retired: stage verdicts become DENY, running restores go to HOLD, a stile write in progress fails. -/
def retireVault (rule : Nat) (s : State) : State :=
  let ops := s.vault.ops
  let s := modVault (fun v => { v with
    eff := 3, pendingReq := none, retries := 0
    ops := v.ops.filter (fun o => match o with | .scan _ => true | _ => false) }) s
  let s := journalRetire 0x20 0 0 (rule * 256) s
  let s := modUpd (fun u => { u with job := u.job.map (fun j => { j with volatileJob := true }) }) s
  let s := ops.foldl (fun t o =>
    match o with
    | .node c tree level index _ => nodeFail c tree level index t
    | _ => t) s
  allChans (fun c t =>
    let ch := chanAt t c
    let t := match ch.stageOp with
      | some x => denyHost c x.word.toNat (modChan c (fun y => { y with stageOp := none }) t)
      | none => t
    match ch.seq with
    | some q => if restoring ch then toHold c q.region eRetired q.tree (countEscalation t) else t
    | none => t) s

/-- A transient fault of the vault. -/
def chargeVault (s : State) : State :=
  let (h, perm) := chargeHealth s s.vault.health
  let s := modVault (fun v => { v with health := h, transients := satInc v.transients }) s
  if perm then retireVault 2 s else s

/-! ### VAULT_REQ_STATE_WRITE and VAULT_REINSTATE (R252) -/

def vaultReqRule (value : U8) (s : State) : U8 × State :=
  if 1 < value.toNat then (eRange, s)
  else if s.vault.eff = 3 then (eRetired, s)
  else
    let s := vaultFollow false (modVault (fun v => { v with reqState := value }) s)
    (eOk, finishAll (if vaultReady s then rpmbAttach s else s))

/-- VAULT_REQ_STATE_WRITE: 0 ONLINE or 1 OFFLINE. -/
def execVaultReqStateWrite (p : Port) (value : U8) (s : State) : Host.Outcome State Fault Refusal :=
  writeOp p 0x6001 0 1 (vaultReqRule value) s

def vaultReinstateRule (attempt : VaultTry) (info : EmmcInfo) (s : State) : U8 × State :=
  if s.vault.eff ≠ 3 then (eState, s)
  else if !(inService s && s.refclk) then (eNotReady, s)
  else match attempt with
    | .up hs200 hs400 =>
      let s := vaultUp 0x20 hs200 hs400 info s
      (eOk, finishAll (modVault (fun v => { v with
        eff := v.reqState, health := {}, selftestResult := 0, retries := 0 }) s))
    | _ => (eIntegrity, modVault (fun v => { v with selftestResult := 1 }) s)

/-- VAULT_REINSTATE: one bring-up attempt is the self-test. -/
def execVaultReinstate (p : Port) (attempt : VaultTry) (info : EmmcInfo) (s : State) :
    Host.Outcome State Fault Refusal :=
  execOp p 0x6002 0 1 (vaultReinstateRule attempt info) s

/-! ### VAULT_IO_COMPLETE (R251, R268, R273, R279) -/

/-- The stage record is stored: WIP clears and STAGED reads 1; or it cannot be, and the command reads DENY (R77, R78). -/
def stageDone (c : Chan) (s : State) : State :=
  match (chanAt s c).stageOp with
  | none => s
  | some x =>
    let s := modChan c (fun ch => { ch with stageOp := none }) s
    let seq := s.vault.nextSequence.toNat
    match storeRecord 5 (stageFields c x) x.body false s with
    | .error _ => denyHost c x.word.toNat s
    | .ok (_, s) =>
      let s := timeoutArrived 4 (countStages s)
      let s := modCounts c (fun k => { k with stage := satInc k.stage })
        (modVf c (fun v => { v with staged := true, deny := false }) s)
      journal (chSrc c) 0x0103 false (leBytes 5 x.word.toNat ++ leBytes 4 seq) s

/-- A partition has been scanned; with the last one SCAN_DONE reads 1 (R268). -/
def scanDoneStep (k : Nat) (s : State) : State :=
  let s := scanInto k s
  let s := modVault (fun v => { v with scansLeft := v.scansLeft.filter (· != k) }) s
  if s.vault.scansLeft.isEmpty then
    let s := countStages (setNextSeq (modVault (fun v => { v with scanDone := true }) s))
    resumeUpdate (match newestRec (recsIn s 5) with
    | some r => modVault (fun v => { v with archiveNewestFa := BitVec.ofNat 40 (sectorFa r.1) }) s
    | none => s)
  else s

/-- The SCRATCH record of a restore's block is written; its erase follows. -/
def scratchDone (c : Chan) (s : State) : State :=
  match (chanAt s c).seq with
  | none => s
  | some q =>
    match q.blocks with
    | [] => s
    | b :: _ =>
      let s := putScratch c b (keptLines (restoreRuns s c q.region) b) q.saved s
      setSeq c (fun q => { q with stage := .erase }) s

def vaultOpDone (o : VaultOp) (s : State) : State :=
  match o with
  | .stage c => stageDone c s
  | .scan k => scanDoneStep k s
  | .images c => restoreSelect c s
  | .scratch c => scratchDone c s
  | .node c tree level index waiter => nodeFromVault c tree level index waiter s

/-- An eMMC command of the vault fails: it is retried up to 3 times, and then the vault is retired (R251). -/
def vaultCmdFail (s : State) : State :=
  if s.vault.retries = 3 then finishAll (retireVault 1 s) else modVault (fun v => { v with retries := v.retries + 1 }) s

/-- VAULT_IO_COMPLETE: the eMMC command of the operation at the head ends. -/
def execVaultIoComplete (e : EmmcEnd) (s : State) : Host.Outcome State Fault Refusal :=
  match s.vault.ops with
  | [] => .next s
  | o :: rest =>
    if !vaultReady s then .next s
    else
      match e with
      | .ok =>
        let s := timeoutArrived 5 (modVault (fun v => { v with ops := rest }) s)
        let again := s.vault.retries != 0
        let s := modVault (fun v => { v with retries := 0 }) s
        let s := vaultOpDone o s
        let s := if s.vault.rpmb.key.isEmpty then rpmbAttach s else s
        .next (finishAll (vaultFollow true (if again then chargeVault s else s)))
      | e =>
        .next (vaultCmdFail (if e = .timeout then timeoutExpired 5 s else timeoutArrived 5 s))

/-! ### CONFIG_SET_SAVE (R271) -/

/-- The configuration in force is written as a new set. -/
def saveConfig (s : State) : State :=
  match storeRecord 1 [] (configBody s) false s with
  | .ok (_, s) => modVault (fun v => { v with configSaved := true }) s
  | .error _ => s

/-- CONFIG_SET_SAVE: due while CONFIG_SAVED is 0 in SERVICE phase; a write that fails leaves it 0. -/
def execConfigSetSave (e : WriteEnd) (s : State) : Host.Outcome State Fault Refusal :=
  if !s.vault.configSaved ∧ inService s ∧ vaultReady s ∧ e = .ok then .next (saveConfig s) else .next s

/-! ### ARCHIVE_WRITE (R274) -/

/-- Journal position of the oldest entry the ring still holds. -/
def ringLow (s : State) : Nat := s.journal.head.toNat - 6144

/-- Ring entries that are not archived, oldest first. -/
def unarchived (s : State) : List JEntry :=
  let lo := max s.vault.archivedTo (ringLow s)
  (List.range (s.journal.head.toNat - lo)).filterMap (fun i => tget s.journal.ring ((lo + i) % 6144))

/-- Retained entries that are not archived and no longer in the ring: they are archived from the retained area. -/
def keptOnly (s : State) : List JEntry :=
  let us := unarchived s
  (s.journal.kept.filterMap (fun x =>
    if s.vault.retainedArchived ≤ x.1 && !us.contains x.2 then some x.2 else none))

/-- Entries overwritten in the ring before they were archived, since the last count. -/
def missedNow (s : State) : Nat :=
  let lost := ringLow s - s.vault.archivedTo
  lost - min lost (keptOnly s).length

/-- How far the retained area is archived after a batch. -/
def keptArchived (kept : List (Nat × JEntry)) (batch : List JEntry) (n : Nat) : Nat :=
  batch.foldl (fun n e => if tget kept n == some e then n + 1 else n) n

/-- An ARCHIVE record of up to 512 entries is written. -/
def archive (s : State) : State :=
  let first := keptOnly s
  let batch := (first ++ unarchived s).take 512
  let missed := missedNow s
  match batch with
  | [] => s
  | e :: _ =>
    let tf := leBytes 2 batch.length ++ zeros 2 ++ leBytes 5 e.time.toNat ++ zeros 3 ++ leBytes 2 e.epoch.toNat
    match storeRecord 6 tf (batch.flatMap entryBytes) false s with
    | .error _ => s
    | .ok (k, s) =>
      modVault (fun v => { v with
        archiveRecords := satInc v.archiveRecords
        archiveMissed := BitVec.ofNat 32 (min (2 ^ 32 - 1) (v.archiveMissed.toNat + missed))
        archiveNewestFa := BitVec.ofNat 40 (sectorFa k)
        archivedTo := max v.archivedTo (ringLow s) + (batch.length - min batch.length first.length)
        retainedArchived := keptArchived s.journal.kept batch v.retainedArchived }) s

/-- ARCHIVE_WRITE: an ARCHIVE record of unarchived entries. -/
def execArchiveWrite (e : WriteEnd) (s : State) : Host.Outcome State Fault Refusal :=
  if inService s ∧ vaultReady s ∧ e = .ok then .next (archive s) else .next s

/-! ### FORMAT and STAGE_CLEAR (R258, R266, R273) -/

/-- The layout FORMAT writes: the committed VPT_LAYOUT, the default one when it is all zero (R265). -/
def layoutInForce (s : State) : List Part :=
  let l := cfgBytes s 0x6000 5
  if allZero l then defaultLayout s.vault.userSectors.toNat else partsOf l

def formatRule (s : State) : U8 × State :=
  if !((s.lc.state == 0 || s.lc.state == 1) && inService s) then (eState, s)
  else if !vaultReady s then (eNotReady, s)
  else
    let s := rpmbAttach s
    let f := (formatSeq s + 1) % 65536
    let u := s.vault.userSectors.toNat
    let ps := layoutInForce s
    let s := userWrite 1 (tableSector 1 f u ps) (userWrite 0 (tableSector 0 f u ps) s)
    let s := countStages (unsaved (modVault (fun v => { v with records := [] }) s))
    let s := if s.vault.counters.isNone ∧ !s.vault.foreign ∧ !s.vault.degraded ∧
        s.vault.rpmb.writeCounter ≠ BitVec.allOnes 32 then putCounters 0 (List.replicate 62 0) s else s
    (eOk, finishAll s)

/-- FORMAT. -/
def execFormat (p : Port) (s : State) : Host.Outcome State Fault Refusal := execOp p 0x6000 6 1 formatRule s

/-- STAGING is emptied: the first sector of each of its records is zeroed. -/
def stageClearRule (s : State) : U8 × State :=
  if !vaultReady s ∨ !s.vault.scanDone then (eNotReady, s)
  else
    let st := recsIn s 4
    (eOk, countStages (modVault (fun v => { v with
      user := st.foldl (fun m r => Mem.clear m (r.1 * 512) 512) v.user
      records := v.records.filter (fun r => recPart r.2.1 != 4) }) s))

/-- STAGE_CLEAR. -/
def execStageClear (p : Port) (s : State) : Host.Outcome State Fault Refusal := execOp p 0x6005 1 1 stageClearRule s

/-! ### RESTORE (R284) -/

/-- The rules an ordered restore covers. -/
def orderedRegion (s : State) (c : Chan) (all : Bool) (tree : Nat) : List Nat :=
  (s.hedgerow.index.filter (fun x => rChannel x.2 == c.val && (rReadMode x.2 == 1 || rReadMode x.2 == 2) &&
    (all || rTree x.2 + b2n (bankB s x.2) == tree))).map (·.1)

def restoreRule (s : State) : U8 × State :=
  let v := s.vault.restoreTarget.toNat
  let c := chanOf (bits v 14 12)
  let ch := chanAt s c
  let all := bit v 15
  let region := orderedRegion s c all (bits v 11 0)
  if 6 ≤ bits v 14 12 ∨ (!all ∧ region.isEmpty) then (eRange, s)
  else if ch.eff = .off ∨ ch.eff = .recovering ∨ ch.seq.any (fun q => q.ordered && q.stage != .preload) then (eState, s)
  else if ch.eff = .retired then (eRetired, s)
  else if !vaultReady s ∨ !s.vault.scanDone then (eNotReady, s)
  else
    let trees := regionTrees s c region
    if trees.any (fun t => match tget s.hayloft.trees t with
      | some e => (imageCands s e t).isEmpty
      | none => true) then (eEmpty, s)
    else
      let joined := match ch.seq with | some q => union q.region region | none => region
      (eOk, finishAll (toRestore c joined true ((trees.head?).getD (bits v 11 0)) s))

/-- RESTORE. -/
def execRestore (p : Port) (s : State) : Host.Outcome State Fault Refusal := execOp p 0x6100 1 1 restoreRule s

end Sys2Proof.Machine
end

