-- ==== Sys2Proof/Machine/Update.lean ====
section
/-! DEFINITION. Commands of the update: manifests, parts, apply, activation, trial, confirm and revert, and the end of stile
writes (R299 to R323). -/
namespace Sys2Proof.Machine

/-! ### MANIFEST_WRITE and ADMIT (R299 to R301) -/

def manifestRule (off : Nat) (data : List Byte) (s : State) : U8 × State :=
  if s.update.state ≠ 0 then (eState, s)
  else if 71744 < off + data.length then (eRange, s)
  else (eOk, modUpd (fun u => { u with
    manifestBuf := if off = 0 then data else patch u.manifestBuf off data }) s)

/-- MANIFEST_WRITE: a write at offset 0 begins a manifest that replaces one not admitted. -/
def execManifestWrite (p : Port) (offset : U40) (data : List Byte) (s : State) : Host.Outcome State Fault Refusal :=
  blockOp p 0x7001 0 data.length (manifestRule offset.toNat data) s

/-- The first check of R299 that fails: code and detail. -/
def admitCheck (s : State) (m : List Byte) : Option (U8 × Nat) :=
  let part := fun (code : U8) (bad : MPart → Bool) =>
    ((mfParts m).find? bad).map (fun (p : MPart) => (code, p.no))
  let v := s.vault
  if !(inService s && vaultReady s && v.scanDone) then some (eNotReady, 0xFF00)
  else if s.update.state ≠ 0 then some (eState, 0xFF00)
  else if v.degraded ∨ v.foreign ∨ v.counters.isNone then some (eState, 0xFF00)
  else if !mfLengthOk m then some (eLength, 0xFF00)
  else if !mfHeadOk m then some (eRange, 0xFF00)
  else match mfSig s m with
    | some k => some (eAuth, 0xFF00 + k)
    | none =>
      let uid := slice m 0x18 16
      if !allZero uid ∧ uid ≠ uidOf s then some (eRefused, 0xFF00)
      else if mfVersion m < counterNow s 0 then some (eRollback, 0xFF00)
      else match part eRange (fun p => !partOk s m p) with
        | some x => some x
        | none => match part eDuplicate (partDuplicate m) with
          | some x => some x
          | none => match part eState (fun p => !baseOk s p) with
            | some x => some x
            | none => match part eRollback (fun p => p.lines && p.version < counterNow s p.counter) with
              | some x => some x
              | none => if roomOk s m then none else some (eRefused, 0xFF00)

def admitRule (s : State) : U8 × State :=
  let m := s.update.manifestBuf
  let bad := fun (code : U8) (detail : Nat) => (code, setLast 1 code detail s)
  match admitCheck s m with
  | some (code, detail) => bad code detail
  | none =>
    match storeRecord 3 [] m false s with
    | .error code => bad code 0xFF00
    | .ok (_, t) =>
      (eOk, setLast 1 eOk 0 (modUpd (fun u => { u with
        state := 1, manifest := m, manifestSeq := s.vault.nextSequence, manifestDigest := sha384 m
        partData := [], partState := [], currentPart := 0, applyProgress := 0 }) t))

/-- ADMIT. -/
def execAdmitManifest (p : Port) (s : State) : Host.Outcome State Fault Refusal := execOp p 0x7000 1 1 admitRule s

/-! ### PART_DATA_WRITE (R302, R303) -/

/-- A write is stored as UPDATE_PART records of at most 1 MiB. -/
def storePart (part : Nat) : Nat → Nat → List Byte → State → Except U8 State
  | 0, _, _, s => .ok s
  | f + 1, off, data, s =>
    if data = [] then .ok s
    else match storeRecord 4 (leBytes 4 s.update.manifestSeq.toNat ++ leBytes 2 part ++ zeros 2 ++ leBytes 5 off)
        (data.take 0x100000) false s with
      | .error c => .error c
      | .ok (_, s) => storePart part f (off + 0x100000) (data.drop 0x100000) s

def setPart (part : Nat) (st : U8) (data : List Byte) (s : State) : State :=
  modUpd (fun u => { u with partState := tput u.partState part st, partData := tput u.partData part data }) s

/-- The whole delta has arrived: its checks, and STAGED when every part is RECEIVED. -/
def partArrived (p : MPart) (data : List Byte) (s : State) : U8 × State :=
  let bad := fun (c : U8) => (c, setLast 2 c p.no (setPart p.no 0 [] s))
  if sha384 data ≠ p.deltaDigest then bad eIntegrity
  else match swathParse data (baseLen s p) p.targetLen with
    | .error c => bad c
    | .ok _ =>
      let s := setLast 2 eOk p.no (setPart p.no 2 data s)
      let all := (mfParts s.update.manifest).all (fun q => (tget s.update.partState q.no).getD 0 == 2)
      (eOk, if all then modUpd (fun u => { u with state := 2 }) s else s)

def partDataRule (part off : Nat) (data : List Byte) (s : State) : U8 × State :=
  let u := s.update
  let p := partAt u.manifest part
  let old := (tget u.partData part).getD []
  if u.state ≠ 1 ∨ mfCount u.manifest ≤ part ∨ (tget u.partState part).getD 0 = 2 then (eState, s)
  else if off ≠ old.length then (eRange, s)
  else if p.deltaLen < old.length + data.length then (eLength, s)
  else if !vaultReady s then (eNotReady, s)
  else match storePart part (data.length / 0x100000 + 1) off data s with
    | .error c => (c, s)
    | .ok t =>
      let all := old ++ data
      let t := setPart part 1 all t
      if all.length = p.deltaLen then partArrived p all t else (eOk, t)

/-- PART_DATA_WRITE: to the part that the port selects. -/
def execPartDataWrite (p : Port) (offset : U40) (data : List Byte) (s : State) : Host.Outcome State Fault Refusal :=
  blockOp p 0x7002 1 data.length (partDataRule (portRegs s p).partSelect.toNat offset.toNat data) s

/-! ### APPLY (R306, R308) -/

/-- The apply is suspended (R308). -/
def suspended (s : State) : Bool :=
  s.update.state == 3 &&
  (!vaultOnline s || !s.refclk || [(0 : Chan), 1, 2, 3, 4, 5].any (fun c => restoring (chanAt s c)))

/-- The first part that is not VERIFIED. -/
def nextPart (u : Update) : Option Nat :=
  (List.range (mfCount u.manifest)).find? (fun i => (tget u.partState i).getD 0 != 4)

def applyRule (s : State) : U8 × State :=
  if s.update.state ≠ 2 then (eState, setLast 3 eState 0 s)
  else
    let s := modUpd (fun u => { u with
      state := 3, locked := lockBits u.manifest, currentPart := (nextPart u).getD 0 }) s
    (eOk, setLast 3 eOk 0 (putProgress s))

/-- APPLY. -/
def execApply (p : Port) (s : State) : Host.Outcome State Fault Refusal := execOp p 0x7000 2 1 applyRule s

/-! ### APPLY_PART (R288, R307, R308) -/

/-- The physical runs of a part's target lines; none: some line is not mapped to the target (R115). -/
def targetRuns (s : State) (p : MPart) (t : TreeEntry) : Option (List RestoreRun) :=
  let lo := t.hbase / 256
  let hi := lo + t.nlines
  let gs := (segsIn (segsOf s.hedgerow.index p.chan) lo hi).map (fun g => { g with lo := max g.lo lo, hi := min g.hi hi })
  let mapped := gs.foldl (fun a g => a + (g.hi - g.lo)) 0
  if mapped ≠ t.nlines ∨ !gs.all (fun g => verifies g.row && rTree g.row + b2n (targetBank s p g.row) == p.target) then none
  else some (gs.flatMap (fun g =>
    let bank := (banksOf g.row).getD (b2n (targetBank s p g.row)) (0, 0)
    let off := bank.2 * 256
    (physRuns g bank.2).map (fun r => ⟨csOf bank.1, r.1, r.2, (r.1 + 2 ^ 24 - off) % 2 ^ 24, p.target⟩)))

/-- Every line of an erase block is mapped to a rule (R115). -/
def blockMapped (s : State) (c : Chan) (e : EraseBlock) : Bool :=
  let lo := e.addr / 256
  let hi := lo + 2 ^ e.log2 / 256
  (segsIn (physSegs s.hedgerow.index c.val e.cs.val) lo hi).foldl (fun a g => a + (min g.hi hi - max g.lo lo)) 0
    == hi - lo

/-- The runs' bytes of a content that starts at a host line are written; other lines of the erase blocks are kept. -/
def writeRuns (c : Chan) (first : Nat) (content : List Byte) (rs : List RestoreRun) (s : State) : State :=
  rs.foldl (fun t r =>
    let d := slice content (256 * (r.host - first)) (256 * (r.hi - r.lo))
    let t := modFlash c r.cs (fun f => { f with cells := Mem.writeL 0xFF f.cells (256 * r.lo) d }) t
    dropCtxs (fun x => x.space == spaceOf c r.cs && r.lo ≤ x.line && x.line < r.hi) t) s

/-- The content the flash holds in the runs, in host order. -/
def readRuns (s : State) (c : Chan) (rs : List RestoreRun) : List Byte :=
  rs.flatMap (fun r => flashRead s c r.cs (256 * r.lo) (256 * (r.hi - r.lo)))

/-- The base of a part, checked (R307 step 2). -/
def partBase (p : MPart) (s : State) : Except U8 (List Byte) × State :=
  if p.base = 0xFFFF then (.ok [], s)
  else if p.base = 0xFFFE then
    (if sha384 (rtBytes s) = p.baseDigest then .ok (rtBytes s) else .error eIntegrity, s)
  else match selectImage p.base s with
    | (some k, _, s) =>
      let b := recBody s k
      (if sha384 b = p.baseDigest then .ok b else .error eIntegrity, s)
    | (none, code, s) => (.error code, s)

/-- A RUNTIME part: its image goes into the boot partition that does not hold RT_COPY (R307). -/
def buildRuntime (p : MPart) (content : List Byte) (s : State) : U8 × State :=
  let s := modVault (fun v => if s.rtCopy = 0 then { v with bootB := content } else { v with bootA := content }) s
  if sha384 content ≠ p.targetDigest then (eIntegrity, s)
  else match rtReject s content with
    | some (_, code) => (code, s)
    | none => (if content.length = rtWhole content then eOk else eLength, s)

/-- TYPE_FIELDS of an IMAGE record (R272). -/
def imageFields (tree : Nat) (t : TreeEntry) : List Byte :=
  leBytes 2 tree ++ [0, 0] ++ leBytes 4 t.hbase ++ leBytes 4 t.nlines ++ padTo t.root 32

/-- A BANK or SEED part: target lines, IMAGE record, tree area, vault copy, proof (R307 steps 3 to 5). -/
def buildLines (p : MPart) (content : List Byte) (fail : Option (Cs × PhysEnd)) (s : State) : U8 × State :=
  let c := chanOf p.chan
  let t := treeEntryOf p.entry
  match targetRuns s p t with
  | none => (eAccess, s)
  | some rs =>
    let n := treeBlocks t.depth t.nlines
    let area : List RestoreRun := [⟨csOf t.taCs, t.taAddr / 256, t.taAddr / 256 + 2 * n, 0, p.target⟩]
    let blocks := coverBlocks rs (chanAt s c) ++ coverBlocks area (chanAt s c)
    if !blocks.all (blockMapped s c) then (eAccess, s)
    else match fail with
      | some (m, .failed cells) =>
        -- a permanent flash-port fault (R308)
        (eIntegrity, permFlash c (modFlash c m (flashPatch cells) s))
      | _ =>
        let s := modUpd (fun u => { u with applyProgress := BitVec.ofNat 32 blocks.length }) s
        let s := writeRuns c (t.hbase / 256) content rs s
        match storeRecord 2 (imageFields p.target t) content (mfEncrypt s.update.manifest) s with
        | .error code => (code, s)
        | .ok (_, s) =>
          match copyPlace s s.update.manifest p with
          | none => (eRefused, s)
          | some k =>
            let bytes := areaBytes p.target t content
            let s := userWrite k bytes (writeRuns c 0 bytes area s)
            let got := readRuns s c rs
            let ok := flashRead s c (csOf t.taCs) t.taAddr (512 * n) == areaBytes p.target t got &&
              rootOf p.target t got == padTo t.root 32 && sha384 got == p.targetDigest
            (if ok then eOk else eIntegrity, s)

/-- A part is built and proven. -/
def buildPart (p : MPart) (fail : Option (Cs × PhysEnd)) (s : State) : U8 × State :=
  match partBase p s with
  | (.error code, s) => (code, s)
  | (.ok base, s) =>
    match swathParse ((tget s.update.partData p.no).getD []) (baseLen s p) p.targetLen with
    | .error code => (code, s)
    | .ok ops =>
      let content := swathRun base ops
      if p.kind = 3 then buildRuntime p content s else buildLines p content fail s

/-- SEED: the host is held and every context of the target tree's lines goes to EMPTY (R307 step 1). -/
def seedHold (p : MPart) (s : State) : State :=
  if p.kind = 2 then
    let s := modUpd (fun u => { u with seedHolds := insertNat p.chan u.seedHolds }) s
    settleAll (dropCtxs (fun x => x.tree == p.target) (modChan (chanOf p.chan) (fun ch => { ch with activation := true }) s))
  else s

/-- Chip selects a part programs. -/
def partChips (s : State) (p : MPart) : List Cs :=
  if p.lines then
    let t := treeEntryOf p.entry
    csOf t.taCs :: ((targetRuns s p t).getD []).map (·.cs)
  else []

/-- The part ends (R307 step 6, R309). -/
def partEnd (p : MPart) (code : U8) (s : State) : State :=
  if code = eOk then
    let s := modUpd (fun u =>
      let u := { u with partState := tput u.partState p.no 4 }
      match nextPart u with
      | some k => { u with currentPart := k }
      | none => { u with state := 4 }) s
    setLast 3 eOk p.no (putProgress s)
  else
    setLast 3 code p.no (putProgress (modUpd (fun u => { u with state := 2, partState := tput u.partState p.no 2 }) s))

/-- APPLY_PART: the current part is rebuilt and proven. A flash operation may fail for good. -/
def execApplyPart (fail : Option (Cs × PhysEnd)) (s : State) : Host.Outcome State Fault Refusal :=
  if s.update.state = 3 ∧ !suspended s ∧ vaultReady s ∧ s.pllLock then
    let p := partAt s.update.manifest s.update.currentPart
    let s := modUpd (fun u => { u with partState := tput u.partState p.no 3, applyProgress := 0 }) s
    let s := seedHold p s
    let c := chanOf p.chan
    let unsafeChip := (chanAt s c).eff == .running && (partChips s p).any (fun m => !busySafe s c m)
    let s := if unsafeChip then settleAll (modChan c (fun ch => { ch with activation := true }) s) else s
    let (code, s) := buildPart p fail s
    let s := if unsafeChip then modChan c (fun ch => { ch with activation := false }) s else s
    .next (finishAll (vaultFollow true (partEnd p code s)))
  else .next s

/-! ### ABORT (R309) -/

def clearActivation (cs : List Nat) (s : State) : State :=
  cs.foldl (fun t c => modChan (chanOf c) (fun ch => { ch with activation := false }) t) s

def abortRule (s : State) : U8 × State :=
  let st := s.update.state.toNat
  if st = 0 ∨ 5 ≤ st then (eState, setLast 7 eState 0 s)
  else (eOk, finishAll (setLast 7 eOk 0 (updateIdle (clearActivation s.update.seedHolds s))))

/-- ABORT. -/
def execAbort (p : Port) (s : State) : Host.Outcome State Fault Refusal := execOp p 0x7000 6 1 abortRule s

/-! ### ACTIVATE (R317, R318) -/

/-- The affected channels (R317). -/
def affectedBy (m : List Byte) : List Nat :=
  if (mfParts m).any (fun p => p.kind == 3) then List.range 6
  else (mfParts m).foldl (fun a p => insertNat p.chan a) []

/-- The fields of an activation's stile record from TRIAL_MS on, the vectors left out. -/
def activationDraft (s : State) : List Byte :=
  let m := s.update.manifest
  let rt := (mfParts m).any (fun p => p.kind == 3)
  let cs := mfCounters m
  leBytes 4 (mfTrial m) ++ padTo s.update.manifestDigest 48 ++ leBytes 4 s.update.manifestSeq.toNat ++
  [if rt then 1 - BitVec.ofNat 8 s.rtCopy.toNat else 0xFF, if rt then s.rtCopy else 0xFF, BitVec.ofNat 8 cs.length, 0] ++
  padTo (cs.flatMap (fun c => leBytes 1 c.1 ++ zeros 2 ++ leBytes 5 c.2)) 496

/-- ACTIVATION is set on channels at one instant. -/
def holdAffected (cs : List Nat) (s : State) : State :=
  cs.foldl (fun t c =>
    if (chanAt t (chanOf c)).eff = .retired then t else modChan (chanOf c) (fun ch => { ch with activation := true }) t) s

def activateRule (s : State) : U8 × State :=
  let m := s.update.manifest
  let hit := affectedBy m
  let any := fun (e : ChState) => hit.any (fun c => (chanAt s (chanOf c)).eff == e)
  let bad := fun (c : U8) => (c, setLast 4 c 0 s)
  if s.update.state ≠ 4 ∨ s.vault.degraded ∨ !rpmbWritable s then bad eState
  else if any .retired then bad eRetired
  else if any .recovering then bad eBusy
  else
    let rt := (mfParts m).any (fun p => p.kind == 3)
    let kind := if mfTrial m = 0 then 1 else if rt then 3 else 2
    let seeds := ((mfParts m).filter (fun p => p.kind == 2)).map (·.target)
    let s := modUpd (fun u => { u with
      state := 5, affected := hit, targetBits := mfBits m
      act := some { stage := .stile, kind := kind, bits := mfBits m, seedTrees := seeds, draft := activationDraft s } }) s
    (eOk, finishAll (setLast 4 eOk 0 (holdAffected hit s)))

/-- ACTIVATE. -/
def execActivate (p : Port) (s : State) : Host.Outcome State Fault Refusal := execOp p 0x7000 3 1 activateRule s

/-! ### The end of a stile write (R278, R315, R318 step 3, R319, R320 step 3, R321) -/

/-- Step 4 of R318: the targeted regions' contexts go to EMPTY. -/
def dropTargeted (a : Activation) (s : State) : State :=
  let rules := (s.hedgerow.index.filter (fun x => rBanked x.2 && a.bits.contains (rBankId x.2))).map (·.1)
  dropCtxs (fun x => a.seedTrees.contains x.tree) (allChans (fun c t => dropRegion c rules t) s)

/-- The runtime changes with the stile record: the boot partition and a DEVICE reset (R318 step 3). -/
def switchRuntime (rt : Nat) (s : State) : State :=
  if rt = 0xFF ∨ rt = s.rtCopy.toNat then s
  else { modVault (fun v => { v with bootEnable := rt + 1 }) s with deviceResetDue := some 0x07 }

/-- The CONFIRM that waits for this write gets its answer (R321). -/
def answerConfirm (a : Activation) (code : U8) (s : State) : State :=
  match a.confirmPort with
  | some p => answerLate p code [] (setLast 5 code 0 s)
  | none => setLast 5 code 0 s

/-- The activation, confirm or revert that a written record carries goes on. -/
def stileCarried (a : Activation) (record : List Byte) (s : State) : State :=
  if a.kind = 4 then
    answerConfirm a eOk (updateIdle (raiseOtp s.update.manifest (raiseCounters (stileCounters record) (timeoutArrived 0xC s))))
  else
    let s := if a.kind = 5 then s else modUpd (fun u => { u with locked := 0 }) (registerTargets s.update.manifest s)
    let s := modUpd (fun u => { u with act := some { a with stage := .preload } }) s
    switchRuntime (stileRtTarget record) (dropTargeted a s)

/-- The write has completed: the record is the newest, and every bit it carries takes effect. -/
def stileWritten (j : StileJob) (s : State) : State :=
  let slot := nextStileSlot s
  let due := s.update.act.filter (fun a => a.stage == .stile)
  let s := rpmbWrite (stileUnit slot) j.record s
  let s := setVector (stileVector j.record) (modUpd (fun u => { u with job := none, stile := j.record }) s)
  let s := journal 0x20 0x0601 true (leBytes 1 (stileKind j.record) ++ leBytes 4 (stileSeq j.record) ++ [0]) s
  let s := flipsLand j.flips s
  match due with
  | some a => if a.kind = j.kind then stileCarried a j.record s else s
  | none => s

/-- The write has failed: its flips are volatile, an activation is undone, a CONFIRM answers E_INTEGRITY, a revert is
volatile. -/
def stileFailed (j : StileJob) (s : State) : State :=
  let due := s.update.act.filter (fun a => a.stage == .stile)
  let s := modUpd (fun u => { u with job := none }) s
  let s := if j.flips.isEmpty then s else volatileFlips j.flips s
  match due with
  | none => s
  | some a =>
    if a.kind ≠ j.kind then s
    else if a.kind = 4 then answerConfirm a eIntegrity (modUpd (fun u => { u with act := none, state := 6 }) s)
    else if a.kind = 5 then
      let prev := j.flips.foldl (fun v f => flipBits v f.2) (stilePrev s.update.stile)
      let s := setVector prev (modUpd (fun u => { u with act := some { a with stage := .preload } }) s)
      let s := journal 0x20 0x0601 true (leBytes 1 5 ++ leBytes 4 (stileSeq s.update.stile) ++ [1]) s
      switchRuntime (stileRtPrev s.update.stile) (dropTargeted a s)
    else
      setLast 4 eIntegrity 0 (clearActivation s.update.affected (modUpd (fun u => { u with
        state := 4, act := none, affected := [], targetBits := [] }) s))

/-- STILE_WRITE_COMPLETE. A write that fails has failed all its retries, which retires the vault (R251). -/
def execStileWriteComplete (e : WriteEnd) (s : State) : Host.Outcome State Fault Refusal :=
  match s.update.job with
  | none => .next s
  | some j =>
    if !canWork s ∨ (!j.volatileJob ∧ !rpmbReady s) then .next s
    else if j.volatileJob then .next (finishAll (stileFailed j s))
    else if e = .ok then .next (finishAll (vaultFollow true (stileWritten j s)))
    else .next (finishAll (stileFailed j (retireVault 1 s)))

/-! ### PRELOAD_COMPLETE (R186, R318 step 5) -/

/-- A targeted line is PINNED, or it has failed and its failure has been dealt with (R186, R320). -/
def targetedReady (s : State) (c : Chan) : Bool :=
  let ch := chanAt s c
  (preloadLines s c).all (fun l =>
    lineState s c l == some .pinned ||
    ((lineState s c l == some .poisoned || placementFailed s c l) &&
      ((verdictAt s c l).cls == 0 || ch.quarantined || ch.class4)))

/-- Every affected channel that preloads has its targeted lines PINNED. -/
def activationReady (s : State) : Bool :=
  s.deviceResetDue.isNone && s.update.affected.all (fun c => !actPreloads s (chanOf c) || targetedReady s (chanOf c))

/-- The hold causes that an activation's regions cover are cleared (R186, R318 step 5). -/
def clearCovered (a : Activation) (c : Nat) (s : State) : State :=
  let ch := chanAt s (chanOf c)
  let covered := ch.holdRegion.all (fun r => match tget s.hedgerow.index r with
    | some row => targetedRule a row
    | none => false)
  if !ch.holdRegion.isEmpty && covered then
    modChan (chanOf c) (fun x => { x with quarantined := false, quarPending := false, class4 := false, holdRegion := [] }) s
  else s

/-- Step 5 of R318 and step 4 of R320. -/
def activationDone (a : Activation) (s : State) : State :=
  let hit := s.update.affected
  let s := clearActivation hit (hit.foldl (fun t c => clearCovered a c t) s)
  if a.kind = 1 then
    updateIdle (raiseOtp s.update.manifest (raiseCounters (stileCounters s.update.stile) s))
  else if a.kind = 5 then setLast 6 a.cause 0 (updateIdle s)
  else modUpd (fun u => { u with
    state := 6, act := none, seedHolds := [], trialStart := some s.now, trialMs := stileTrialMs u.stile }) s

/-- PRELOAD_COMPLETE: under an activation's hold the last affected channel ends it; in PRELOADING the channel moves on. -/
def execPreloadComplete (ch : Chan) (s : State) : Host.Outcome State Fault Refusal :=
  match s.update.act with
  | some a =>
    if actPreloads s ch ∧ (chanAt s ch).eff ≠ .preloading then
      if activationReady s ∧ canWork s then .next (finishAll (activationDone a s)) else .next s
    else if (chanAt s ch).eff = .preloading ∧ preloadReady s ch then
      .next (finishAll (modChan ch (fun x => { x with preloadDone := true }) s))
    else .next s
  | none =>
    if (chanAt s ch).eff = .preloading ∧ preloadReady s ch then
      .next (finishAll (modChan ch (fun x => { x with preloadDone := true }) s))
    else .next s

/-! ### CONFIRM, REVERT and the trial timer (R320, R321) -/

/-- The fields a CONFIRM record copies from the newest record. -/
def confirmDraft (s : State) : List Byte :=
  let r := s.update.stile
  leBytes 4 (stileTrialMs r) ++ stileMid r

/-- What CONFIRM finds at once; none: it waits for its write. -/
def confirmStart (p : Port) (s : State) : Option U8 × State :=
  if s.update.state ≠ 6 then (some eState, setLast 5 eState 0 s)
  else if s.update.act.isSome then (some eBusy, s)
  else
    (none, finishAll (modUpd (fun u => { u with
      act := some { stage := .stile, kind := 4, draft := confirmDraft s, confirmPort := some p } }) s))

/-- CONFIRM: its answer comes with the end of the stile write (STILE_WRITE_COMPLETE). -/
def execConfirm (p : Port) (s : State) : Host.Outcome State Fault Refusal :=
  if !servable s p then .next s
  else
    let (c, s) := request p .exec 0x7000 4 1 s
    if c ≠ eOk then .next (reply p c s)
    else match confirmStart p s with
      | (some code, t) => .next (reply p code t)
      | (none, t) => .next t

/-- A trial ends in a revert: a CONFIRM that waits loses (R321). -/
def endTrial (cause confirmCode : U8) (s : State) : State :=
  let s := match s.update.act with
    | some a => answerConfirm a confirmCode (modUpd (fun u => { u with act := none, job := none }) s)
    | none => s
  finishAll (startRevert cause s)

def revertRule (s : State) : U8 × State :=
  if s.update.state ≠ 6 then (eState, setLast 6 eState 0 s)
  else (eOk, endTrial eOk eState (setLast 6 eOk 0 s))

/-- REVERT. -/
def execRevert (p : Port) (s : State) : Host.Outcome State Fault Refusal := execOp p 0x7000 5 1 revertRule s

/-- The trial timer wins (R321). -/
def trialExpire (s : State) : State :=
  if s.update.state = 6 ∧ s.update.trialStart.isSome ∧ s.refclk then
    endTrial eTimeout eTimeout (timeoutExpired 0xC s)
  else s

/-- TRIAL_EXPIRY. -/
def execTrialExpiry (s : State) : Host.Outcome State Fault Refusal := .next (trialExpire s)

end Sys2Proof.Machine
end

