-- ==== Sys2Proof/Machine/Keys.lean ====
section
/-! DEFINITION. The key store, the device keys and the custody of the DSS (R356 to R370), and what a tamper erase does to
them (R368). -/
namespace Sys2Proof.Machine

/-! ### Attributes (R356) -/

/-- The word of a loaded slot: STATE 1, then SIZE and USAGE as requested, ORIGIN and OWNER as given. -/
def ksAttr (req origin owner : Nat) : U32 :=
  BitVec.ofNat 32 (2 ^ 29 + bits req 28 27 * 2 ^ 27 + origin * 2 ^ 24 + owner * 2 ^ 22 + bits req 10 0)

/-- A key is loaded into a slot; a 384-bit key takes the odd slot after it too. -/
def ksLoad (slot req origin owner : Nat) (key : List Byte) (s : State) : State :=
  let a := ksAttr req origin owner
  modKeys (fun k =>
    let m := tput k.slots slot { attr := a, key := padTo key 32 }
    let odd : KeySlot := { attr := a + BitVec.ofNat 32 (2 ^ 29), key := padTo (key.drop 32) 32 }
    { k with slots := if bits req 28 27 = 2 then tput m (slot + 1) odd else m }) s

/-- A slot is emptied and its key zeroed. -/
def ksDrop (slot : Nat) (s : State) : State := modKeys (fun k => { k with slots := tdel k.slots slot }) s

/-- Bytes drawn or derived for a SIZE: 16, 32, or 56 for a scalar (R359). -/
def ksDraw : Nat → Nat
  | 0 => 16 | 1 => 32 | _ => 56

/-- A P-384 scalar from 448 bits (R362). -/
def scalarOf (c : List Byte) : Nat := beNat c % (n384 - 1) + 1

/-- The key that drawn or derived bytes give. -/
def ksForm (size : Nat) (bs : List Byte) : List Byte := if size = 2 then beBytes 48 (scalarOf bs) else bs

/-- Refusals of the attributes a general slot is to take (R359). -/
def ksReqOk (req : Nat) : Bool :=
  let size := bits req 28 27
  bits req 21 9 == 0 && size != 3 &&
  (if size = 2 then bits req 4 0 == 0 && !bit req 6 else !bit req 5 && !bit req 8)

/-- The selected slot can take a key of a SIZE: general (E_ACCESS), even for a pair (E_RANGE), and EMPTY (E_STATE). -/
def ksTarget (s : State) (slot size : Nat) : U8 :=
  if slot < 16 then eAccess
  else if (tget s.keys.slots slot).isSome ∨ (size = 2 ∧ slot % 2 = 0 ∧ (tget s.keys.slots (slot + 1)).isSome) then eState
  else eOk

/-- A slot that a port may use with a USAGE bit. -/
def ksWith (s : State) (p : Port) (slot usage : Nat) : Bool :=
  ksLoaded s slot && ksUsable s p slot && (keySlot s slot).attr.getLsbD usage

/-- The checks of the loading operations that take KS_REQ_ATTR, in the order of R359; a pair needs an even slot. -/
def ksLoadCheck (s : State) (p : Port) : U8 :=
  let r := portRegs s p
  let slot := r.ksSelect.toNat
  let req := r.ksReqAttr.toNat
  let t := ksTarget s slot (bits req 28 27)
  if t ≠ eOk then t
  else if !ksReqOk req ∨ (bits req 28 27 = 2 ∧ slot % 2 = 1) then eRange
  else eOk

/-! ### The operations (R359 to R361) -/

def ksGenerateRule (p : Port) (s : State) : U8 × State :=
  let c := ksLoadCheck s p
  let r := portRegs s p
  let req := r.ksReqAttr.toNat
  if c ≠ eOk then (c, s)
  else match wireGenerate 0 (ksDraw (bits req 28 27)) s with
    | (some bs, s) => (eOk, ksLoad r.ksSelect.toNat req 3 (portNo p).val (ksForm (bits req 28 27) bs) s)
    | (none, s) => (eNotReady, s)

/-- KS_GENERATE. -/
def execKsGenerate (p : Port) (s : State) : Host.Outcome State Fault Refusal := execOp p 0x8300 3 1 (ksGenerateRule p) s

def ksDeriveRule (p : Port) (src : Nat) (s : State) : U8 × State :=
  let r := portRegs s p
  let req := r.ksReqAttr.toNat
  let c := ksLoadCheck s p
  if r.ksSelect.toNat < 16 ∨ !ksWith s p src 6 then (eAccess, s)
  else if c ≠ eOk then (c, s)
  else if src < 16 ∧ bit req 7 then (eRange, s)
  else
    let out := kdf (ksKey s src) r.ksLabel r.ksContext (ksDraw (bits req 28 27))
    (eOk, ksLoad r.ksSelect.toNat req 2 (portNo p).val (ksForm (bits req 28 27) out) s)

/-- KS_DERIVE: its value names the source slot. -/
def execKsDerive (p : Port) (slot : U8) (s : State) : Host.Outcome State Fault Refusal :=
  execOp p 0x8300 4 1 (ksDeriveRule p slot.toNat) s

/-- The plaintext of a key blob (R360). -/
def blobPlain (s : State) (slot : Nat) : List Byte :=
  let a := (keySlot s slot).attr.toNat
  leBytes 4 (bits a 28 27 * 2 ^ 27 + bits a 10 0) ++ zeros 4 ++ padTo (ksKey s slot) 48

def ksWrapRule (p : Port) (w : Nat) (s : State) : U8 × State :=
  let slot := (portRegs s p).ksSelect.toNat
  if !ksWith s p w 3 ∨ !ksWith s p slot 7 then (eAccess, s)
  else (eOk, modPort p (fun r => { r with ksBlob := padTo (aesKw (ksKey s w) (blobPlain s slot)) 64 }) s)

/-- KS_WRAP: its value names the wrapping slot. -/
def execKsWrap (p : Port) (slot : U8) (s : State) : Host.Outcome State Fault Refusal :=
  execOp p 0x8300 7 1 (ksWrapRule p slot.toNat) s

def ksUnwrapRule (p : Port) (w : Nat) (s : State) : U8 × State :=
  let r := portRegs s p
  let slot := r.ksSelect.toNat
  if slot < 16 ∨ !ksWith s p w 4 then (eAccess, s)
  else if (tget s.keys.slots slot).isSome then (eState, s)
  else match aesKwUnwrap (ksKey s w) r.ksBlob with
    | none => (eAuth, s)
    | some d =>
      let req := fieldAt d 0 4
      if bits req 31 29 ≠ 0 ∨ bits req 26 22 ≠ 0 ∨ !allZero (slice d 4 4) ∨ !ksReqOk req ∨
          (bits req 28 27 = 2 ∧ slot % 2 = 1) then (eRange, s)
      else if ksTarget s slot (bits req 28 27) ≠ eOk then (eState, s)
      else (eOk, ksLoad slot req 4 (portNo p).val ((slice d 8 48).take (min 48 (ksDraw (bits req 28 27)))) s)

/-- KS_UNWRAP: its value names the unwrapping slot. -/
def execKsUnwrap (p : Port) (slot : U8) (s : State) : Host.Outcome State Fault Refusal :=
  execOp p 0x8300 8 1 (ksUnwrapRule p slot.toNat) s

/-- KS_PLAIN is zeroed whatever the result (R370). -/
def ksImportRule (p : Port) (s : State) : U8 × State :=
  let r := portRegs s p
  let req := r.ksReqAttr.toNat
  let c := if s.lc.state = 0 ∨ s.phase = .test then ksLoadCheck s p else eState
  let t := modPort p (fun r => { r with ksPlain := zeros 48 }) s
  (c, if c = eOk then
      ksLoad r.ksSelect.toNat req 5 (portNo p).val (r.ksPlain.take (min 48 (ksDraw (bits req 28 27)))) t
    else t)

/-- KS_IMPORT_PLAIN. -/
def execKsImportPlain (p : Port) (s : State) : Host.Outcome State Fault Refusal :=
  execOp p 0x8300 0xB 1 (ksImportRule p) s

/-- A running digest, cipher or PKE job holds the key (R361): KEYLOAD is OP 0x0B, KEYPUB 0x0C. -/
def keyInUse (s : State) (slot : Nat) : Bool :=
  s.banks.toList.any (fun b => b.st == .absorbing && b.keys.contains slot) ||
  s.cxs.toList.any (fun k => k.st == .absorbing && k.keySlot.toNat == slot) ||
  s.pke.running.any (fun e => (e.op == 0x0B || e.op == 0x0C) && e.w.key.toNat == slot)

def ksClearRule (p : Port) (s : State) : U8 × State :=
  let slot := (portRegs s p).ksSelect.toNat
  let slot := if ksState (keySlot s slot).attr = 2 then slot - 1 else slot
  if slot < 16 then (eAccess, s)
  else if (tget s.keys.slots slot).isNone then (eOk, s)
  else if !ksUsable s p slot then (eAccess, s)
  else if keyInUse s slot then (eBusy, s)
  else (eOk, if ksSize (keySlot s slot).attr = 2 then ksDrop (slot + 1) (ksDrop slot s) else ksDrop slot s)

/-- KS_CLEAR. -/
def execKsClear (p : Port) (s : State) : Host.Outcome State Fault Refusal := execOp p 0x8300 0xC 1 (ksClearRule p) s

/-! ### From DSS to alias key (R362 to R364) -/

/-- DBG of the CDI context: debug is open or has been authorised since power-on reset (R363, R506). -/
def dbgFlag (s : State) : Bool := s.lc.state == 0 || s.lc.dbgToken || s.lc.dbgEver

/-- UID ‖ Z32. -/
def uidContext (s : State) : List Byte := uidOf s ++ zeros 32

/-- A scalar under a label. -/
def deriveScalar (key : List Byte) (label : String) (context : List Byte) : Nat :=
  scalarOf (kdf key (kdfLabel label) context 56)

/-- The DER bytes of a certificate: 0 DIK, 1 alias (R424). What R424 does not fix, its signature's nonce among it, makes
them free (log entry 40). -/
def certificate (kind : Nat) (pub fields : List Byte) (s : State) : List Byte × State :=
  (Config.certificateDer (2 * s.freeCount + kind) pub fields, { s with freeCount := s.freeCount + 1 })

/-- The chain of slot 0: header with length and RootHash, DIK certificate, alias certificate (R424). -/
def certChain (dik alias_ : List Byte) : List Byte :=
  leBytes 2 (52 + dik.length + alias_.length) ++ [0, 0] ++ sha384 dik ++ dik ++ alias_

/-- The alias certificate is built, and the chain with it. -/
def buildAliasCert (s : State) : State :=
  let flags := b2n (dbgFlag s) + 2 * b2n (lcMakerOrReturned s)
  let (c, s) := certificate 1 s.keys.aliasPub (uidOf s ++ s.keys.dikPub ++ [s.rtSvn] ++ s.rtDigest ++ [BitVec.ofNat 8 flags]) s
  modSpdm (fun x => { x with chain := certChain x.dikCert c }) s

/-- Slots 2 to 4: CDI and the alias pair, with its public key and its certificate. -/
def deriveAlias (s : State) : State :=
  let dss := slotKey s 9
  let cdi := kdf dss (kdfLabel "QV-CDI") (sha384 (s.rtDigest ++ [s.lc.state, BitVec.ofNat 8 (b2n (dbgFlag s))])) 32
  let d := deriveScalar cdi "QV-ALIAS" (zeros 48)
  let s := ksLoad 4 (2 ^ 27 + 2 ^ 6) 2 3 cdi s
  buildAliasCert (modKeys (fun k => { k with aliasPub := pubOf d }) (ksLoad 2 (2 ^ 28 + 2 ^ 5) 2 3 (beBytes 48 d) s))

/-- Every key of R363 from the DSS in slot 9. -/
def deriveKeys (s : State) : State :=
  let dss := slotKey s 9
  let u := uidContext s
  let d := deriveScalar dss "QV-DIK" u
  let s := modKeys (fun k => { k with dikPub := pubOf d }) (ksLoad 0 (2 ^ 28 + 2 ^ 9 + 2 ^ 5) 2 3 (beBytes 48 d) s)
  let s := ksLoad 5 (2 ^ 27 + 1) 2 3 (kdf dss (kdfLabel "QV-VAULT-MAC") u 32) s
  let s := ksLoad 6 (2 ^ 27 + 2 ^ 1 + 2 ^ 2) 2 3 (kdf dss (kdfLabel "QV-VAULT-ENC") u 32) s
  let s := ksLoad 7 (2 ^ 27 + 1) 2 3 (kdf dss (kdfLabel "QV-RPMB") u 32) s
  -- a reload of the same DSS finds the certificate of step RUNTIME (R424)
  let s := if s.spdm.dikCert.isEmpty then
      (let (c, s) := certificate 0 s.keys.dikPub (uidOf s) s
       modSpdm (fun x => { x with dikCert := c }) s) else s
  deriveAlias s

/-! ### Custody (R365 to R367) -/

/-- MASK of a DSS slot, from the Heath cell key. -/
def dssMask (s : State) (k : Nat) : List Byte :=
  kdf s.heath.cellKey (kdfLabel "QV-DSS-MASK") (uidOf s ++ [BitVec.ofNat 8 k] ++ zeros 31) 32

def dssCheck (s : State) (dss : List Byte) : List Byte := kdf dss (kdfLabel "QV-DSS-CHECK") (uidContext s) 8

/-- VALUE for a DSS, or the DSS for a VALUE, in the custody mode (R365). -/
def dssMasked (s : State) (mode k : Nat) (v : List Byte) : List Byte := if mode = 2 then v else xorBytes v (dssMask s k)

/-- The DSS of the slot in use, where it can be recovered. -/
def dssRecover (s : State) (k : Nat) : Option (List Byte) :=
  if custody s ≠ 2 ∧ s.heath.cellState ≠ 0 then none
  else
    let dss := dssMasked s (custody s) k (otpRead s (0x230 + 48 * k) 32)
    if dssCheck s dss == otpRead s (0x230 + 48 * k + 32) 8 then some dss else none

/-- The DSS enters slot 9 and every key of R363 is derived. -/
def keysLoaded (dss : List Byte) (s : State) : State :=
  let s := deriveKeys (ksLoad 9 (2 ^ 27 + 2 ^ 9 + 2 ^ 6) 1 3 dss s)
  modVault (fun v => { v with degraded := false }) (modKeys (fun k => { k with keyState := 1 }) s)

def keysLost (s : State) : State :=
  modSpdm (fun x => { x with dikCert := [], chain := [] }) <| modVault (fun v => { v with degraded := true }) (modKeys (fun k => { k with keyState := 3 }) s)

/-- The boot ROM loads the DSS and sets KEY_STATE (R367). -/
def dssLoad (s : State) : State :=
  match dssSlot s with
  | none => modVault (fun v => { v with degraded := true }) (modKeys (fun k => { k with keyState := 0 }) s)
  | some k => match dssRecover s k with
    | some dss => keysLoaded dss s
    | none => keysLost s

/-- What waited for the keys goes on: the RPMB is found again, waiting writes and sequences move (R255, R369). -/
def keysBack (s : State) : State := finishAll (if vaultReady s then rpmbAttach s else s)

def keyReloadRule (s : State) : U8 × State :=
  if s.keys.keyState ≠ 2 ∨ [(0 : Chan), 1, 2, 3, 4, 5].any (fun c => (chanAt s c).tamper) then (eState, s)
  else match (dssSlot s).bind (dssRecover s) with
    | some dss => (eOk, keysBack (keysLoaded dss s))
    | none => (eIntegrity, finishAll (keysLost s))

/-- KEY_RELOAD (R369). -/
def execKeyReload (p : Port) (s : State) : Host.Outcome State Fault Refusal := execOp p 0x8300 0x11 1 keyReloadRule s

/-- Output with prediction resistance over the private wire: a reseed from the window that passes, then a generate. -/
def wireFresh (n : Nat) (w : Option Window) (s : State) : Option (List Byte) × State :=
  if s.random.st = 3 then (none, s)
  else match windowNow w s with
    | none => (none, wireTimeout 2 s)
    | some (i, w) =>
      let s := modSource i (fun y => { y with passed := satInc y.passed }) s
      wireGenerate 2 n (assignWindow (windowBytes w) (modRandom (fun r => { r with reseedWaiting := true }) s))

/-- DSS_PROVISION is accepted (R366, R502). -/
def provisionAllowed (s : State) : Bool :=
  (dssSlot s).isNone && (s.lc.state == 1 || (s.lc.state == 3 && s.lc.dbgMaker && (dssNext s).isSome))

def dssProvisionRule (value : Nat) (w : Option Window) (burnOk : Bool) (s : State) : U8 × State :=
  let have_ := custody s
  let mode := if value = 0 then have_ else value
  match dssNext s with
  | none => if provisionAllowed s then (eRefused, s) else (eState, s)
  | some k =>
    if !provisionAllowed s then (eState, s)
    else if 2 < value ∨ mode = 0 ∨ (have_ ≠ 0 ∧ mode ≠ have_) then (eRange, s)
    else if mode = 1 ∧ s.heath.cellState ≠ 0 then (eState, s)
    else match wireFresh 32 w s with
      | (none, s) => (eNotReady, s)
      | (some dss, s) =>
        let at_ := 0x230 + 48 * k
        let s := burnFlag (at_ + 40) s
        let s := if have_ = 0 then burnFlag (if mode = 1 then 0x031 else 0x032) s else s
        let content := dssMasked s mode k dss ++ dssCheck s dss
        if burnOk then (eOk, keysBack (keysLoaded dss (otpBurn at_ content s)))
        else
          -- which bits were burned is not known (log entry 3)
          let (m, s) := drawBytes 40 s
          let part := List.zipWith (fun (a b : Byte) => a &&& b) content m
          (eIntegrity, burnFlag (at_ + 41) (otpBurn at_ part s))

/-- DSS_PROVISION (R366). -/
def execDssProvision (p : Port) (value : U8) (window : Option Window) (burnOk : Bool) (s : State) :
    Host.Outcome State Fault Refusal :=
  execOp p 0x8300 0x10 1 (dssProvisionRule value.toNat window burnOk) s

/-! ### Erase (R344, R368, R416) -/

/-- Digest banks, cipher contexts, the key store, the DRBG and the Heath cell key under a tamper erase; `lost`: the
CELL-KEPT column applies. -/
def eraseKeys (lost : Bool) (s : State) : State :=
  let s := { s with
    banks := s.banks.map (fun k => if k.st = .free then freeBank k else
      { freeBank k with st := .poisoned, owner := k.owner, absorbed := k.absorbed })
    cxs := s.cxs.map (fun k => if k.st = .free then freeCx k else { freeCx k with st := .poisoned, owner := k.owner }) }
  let lost := lost || custody s != 2
  let s := modKeys (fun k => { k with
    slots := [], erases := satInc k.erases, wrapDue := true, dikPub := zeros 96, aliasPub := zeros 96
    keyState := if k.keyState = 0 then 0 else if lost then 3 else if k.keyState = 1 then 2 else k.keyState }) s
  let s := if s.keys.keyState = 3 then
      modSpdm (fun x => { x with dikCert := [], chain := [] }) (modVault (fun v => { v with degraded := true }) s) else s
  eraseRandom (modHeath (fun h => { h with cellKey := zeros 32, canary := 0, cellState := 1 }) s)

end Sys2Proof.Machine
end

