-- ==== Sys2Proof/Machine/Pke.lean ====
section
/-! DEFINITION. The public-key engine: operand slots, the queue, the commands, and what faults and erases do to it (R371 to
R395). -/
namespace Sys2Proof.Machine

/-! ### Areas and slots (R371 to R375) -/

def pkPort (s : State) (p : Port) : PkPort :=
  match p with
  | .mp0 => s.pke.mp0
  | .mp1 => s.pke.mp1
  | .l => s.pke.l

def modPk (p : Port) (f : PkPort → PkPort) (s : State) : State :=
  modPke (fun k =>
    match p with
    | .mp0 => { k with mp0 := f k.mp0 }
    | .mp1 => { k with mp1 := f k.mp1 }
    | .l => { k with l := f k.l }) s

/-- Limbs of a port's area. -/
def pkArea : Port → Nat
  | .l => 4096
  | _ => 2048

/-- PK_SLOT_COUNT. -/
def pkSlots (s : State) (p : Port) : Nat := min 64 (pkArea p / (pkPort s p).limbs.toNat)

def pkSlot (k : PkPort) (n : Nat) : PkSlot := (tget k.slots n).getD {}

/-- The bindings that rest on slot `n` know that it was written (R387). -/
def unbind (n : Nat) (k : PkPort) : PkPort :=
  { k with slots := k.slots.map (fun x =>
      if x.2.cls == .withheld && (x.2.bindM == n || x.2.bindR == n || x.2.bindR + 1 == n) then
        (x.1, { x.2 with bindClean := false }) else x) }

/-- A slot is written: a WITHHELD slot's partner is zeroed (R375). -/
def pkPut (n v : Nat) (cls : PkClass) (k : PkPort) : PkPort :=
  let old := pkSlot k n
  let k := if old.cls = .withheld then
      let w := pkSlot k old.partner
      unbind old.partner { k with slots := tput k.slots old.partner { value := 0, writes := w.writes } } else k
  unbind n { k with slots := tput k.slots n { value := v, cls := cls, writes := old.writes + 1 } }

/-- The port's area zeroed, every slot PUBLIC. -/
def pkClear (k : PkPort) : PkPort := { k with slots := [] }

/-- Commands of the port queued or running (R393). -/
def pkPending (s : State) (p : Port) : Nat :=
  (s.pke.queue.filter (fun e => e.port == p)).length + b2n (s.pke.running.any (fun e => e.port == p))

/-- PK_BUF's size. -/
def pkBufSize (k : PkPort) : Nat := 5 * k.limbs.toNat

def pkLimbsRule (p : Port) (v : U8) (s : State) : U8 × State :=
  if v = 0 ∨ 128 < v.toNat then (eRange, s)
  else if pkPending s p ≠ 0 then (eBusy, s)
  else (eOk, modPk p (fun k => pkClear { k with limbs := v, buf := zeros (5 * v.toNat) }) s)

/-- PK_SLOT_LIMBS_WRITE. -/
def execPkSlotLimbsWrite (p : Port) (value : U8) (s : State) : Host.Outcome State Fault Refusal :=
  writeOp p 0x8401 0 1 (pkLimbsRule p value) s

def pkWipeRule (p : Port) (s : State) : U8 × State :=
  if pkPending s p ≠ 0 then (eBusy, s) else (eOk, modPk p pkClear s)

/-- PK_WIPE. -/
def execPkWipe (p : Port) (s : State) : Host.Outcome State Fault Refusal := execOp p 0x8401 9 1 (pkWipeRule p) s

def pkBufRule (p : Port) (off : Nat) (data : List Byte) (s : State) : U8 × State :=
  if pkPending s p ≠ 0 then (eBusy, s)
  else if off ≠ 0 then (eRange, s)
  else if data.length ≠ pkBufSize (pkPort s p) then (eLength, s)
  else (eOk, modPk p (fun k => { k with buf := data }) s)

/-- PK_BUF_WRITE (R373). -/
def execPkBufWrite (p : Port) (offset : U40) (data : List Byte) (s : State) : Host.Outcome State Fault Refusal :=
  blockOp p 0x8401 6 data.length (pkBufRule p offset.toNat data) s

/-- A read of PK_BUF returns the whole buffer. -/
def pkBufRead (p : Port) (off count : Nat) (s : State) : U8 × List Byte :=
  let k := pkPort s p
  if pkPending s p ≠ 0 then (eBusy, [])
  else if off ≠ 0 then (eRange, [])
  else if count ≠ pkBufSize k then (eLength, [])
  else (eOk, padTo k.buf (pkBufSize k))

/-! ### Submission (R376 to R379) -/

/-- Which fields a command uses (R377): R, A, B, M, KEY; R + 1 too. -/
structure PkUse where
  r : Bool := false
  a : Bool := false
  b : Bool := false
  m : Bool := false
  key : Bool := false
  r2 : Bool := false
  secret : Bool := false
deriving DecidableEq, Repr

def pkUse (op : Nat) : PkUse :=
  match op with
  | 0x01 | 0x02 | 0x03 | 0x05 | 0x06 => { r := true, a := true, b := true, m := true }
  | 0x04 | 0x07 => { r := true, a := true, m := true }
  | 0x08 => { r := true }
  | 0x09 => { a := true }
  | 0x0A => { a := true, b := true }
  | 0x0B => { r := true, key := true }
  | 0x0C => { r := true, r2 := true, key := true }
  | 0x0D => { r := true, m := true, secret := true }
  | 0x0E | 0x0F | 0x10 => { r := true, r2 := true, a := true, b := true, m := true }
  | _ => { a := true, key := true }

/-- Check 2 of R379. -/
def pkFieldsOk (s : State) (p : Port) (op : Nat) (w : PkWord) : Bool :=
  let u := pkUse op
  let n := pkSlots s p
  let fits := fun (used : Bool) (x : BitVec 6) => if used then x.toNat < n else x == 0
  1 ≤ op && op ≤ 0x11 && w.reserved == 0 && fits u.r w.r && fits u.a w.a && fits u.b w.b && fits u.m w.m &&
  (!u.r2 || w.r.toNat + 1 < n) && (u.secret || !w.secret) && (u.key || w.key == 0)

/-- SEAL, VERIFY and VERIFY_GATE. -/
def pkSigOp (op : Nat) : Bool := op == 0x0E || op == 0x0F || op == 0x10

/-- Check 3 of R379: the signature slots meet each other or another slot. -/
def pkOverlap (w : PkWord) : Bool :=
  let hits := fun (x : BitVec 6) => x == w.m || x == w.r || x.toNat == w.r.toNat + 1
  w.a == w.b || hits w.a || hits w.b

/-- The entry R378 admits. -/
def pkEntryFor (s : State) (p : Port) : Option Nat :=
  let q := s.pke.queue
  let free := fun (n : Nat) => !q.any (fun e => e.entry == n)
  let shared := q.any (fun e => e.port == p && e.entry != 0)
  if p = .l ∧ free 0 then some 0
  else if shared then none
  else [1, 2, 3].find? free

def pkSubmitRule (p : Port) (op : Nat) (w : PkWord) (s : State) : U8 × State :=
  let k := pkPort s p
  if s.pke.health.retired then (eRetired, s)
  else if !pkFieldsOk s p op w then (eRange, s)
  else if pkSigOp op && pkOverlap w then (eRange, s)
  else if k.limbs.toNat < 10 ∧ (op = 0x0B ∨ op = 0x0C ∨ pkSigOp op ∨ op = 0x11) then (eRange, s)
  else match pkEntryFor s p with
    | none => (eBusy, s)
    | some n =>
      let seq := k.seq + 1
      (eOk, modPk p (fun k => { k with seq := seq })
        (modPke (fun k => { k with queue := k.queue ++ [⟨n, p, op, w, seq⟩] }) s))

/-- A command word's fields (R376): OP and the rest. -/
def pkWordOf (v : U40) : Nat × PkWord :=
  (bits v.toNat 39 35, {
    r := v.extractLsb' 29 6, a := v.extractLsb' 23 6, b := v.extractLsb' 17 6, m := v.extractLsb' 11 6
    secret := v.getLsbD 10, reserved := v.extractLsb' 6 4, key := v.extractLsb' 0 6 })

/-- PK_SUBMIT with a command word of code `op`. -/
def pkSubmit (p : Port) (op : Nat) (w : PkWord) (s : State) : Host.Outcome State Fault Refusal :=
  execOp p 0x8401 2 5 (pkSubmitRule p op w) s

/-- ADD: R ← (A + B) mod M. -/
def execAdd (p : Port) (w : PkWord) (s : State) : Host.Outcome State Fault Refusal := pkSubmit p 0x01 w s
/-- SUB: R ← (A − B) mod M. -/
def execSub (p : Port) (w : PkWord) (s : State) : Host.Outcome State Fault Refusal := pkSubmit p 0x02 w s
/-- MUL: R ← A × B mod M. -/
def execMul (p : Port) (w : PkWord) (s : State) : Host.Outcome State Fault Refusal := pkSubmit p 0x03 w s
/-- INV: R ← A⁻¹ mod M. -/
def execInv (p : Port) (w : PkWord) (s : State) : Host.Outcome State Fault Refusal := pkSubmit p 0x04 w s
/-- EXP: R ← A^B mod M. -/
def execExp (p : Port) (w : PkWord) (s : State) : Host.Outcome State Fault Refusal := pkSubmit p 0x05 w s
/-- EXPV: R ← A^B mod M, public exponent. -/
def execExpv (p : Port) (w : PkWord) (s : State) : Host.Outcome State Fault Refusal := pkSubmit p 0x06 w s
/-- REDUCE: R ← A mod M. -/
def execReduce (p : Port) (w : PkWord) (s : State) : Host.Outcome State Fault Refusal := pkSubmit p 0x07 w s
/-- LOAD: R ← PK_BUF. -/
def execLoad (p : Port) (w : PkWord) (s : State) : Host.Outcome State Fault Refusal := pkSubmit p 0x08 w s
/-- STORE: PK_BUF ← A. -/
def execStore (p : Port) (w : PkWord) (s : State) : Host.Outcome State Fault Refusal := pkSubmit p 0x09 w s
/-- COMPARE. -/
def execCompare (p : Port) (w : PkWord) (s : State) : Host.Outcome State Fault Refusal := pkSubmit p 0x0A w s
/-- KEYLOAD: R ← private scalar. -/
def execKeyload (p : Port) (w : PkWord) (s : State) : Host.Outcome State Fault Refusal := pkSubmit p 0x0B w s
/-- KEYPUB: (R, R + 1) ← public key. -/
def execKeypub (p : Port) (w : PkWord) (s : State) : Host.Outcome State Fault Refusal := pkSubmit p 0x0C w s
/-- RAND: R ← uniform in [1, M − 1]. -/
def execRand (p : Port) (w : PkWord) (s : State) : Host.Outcome State Fault Refusal := pkSubmit p 0x0D w s
/-- SEAL withholds (A, B). -/
def execSeal (p : Port) (w : PkWord) (s : State) : Host.Outcome State Fault Refusal := pkSubmit p 0x0E w s
/-- VERIFY. -/
def execVerify (p : Port) (w : PkWord) (s : State) : Host.Outcome State Fault Refusal := pkSubmit p 0x0F w s
/-- VERIFY_GATE. -/
def execVerifyGate (p : Port) (w : PkWord) (s : State) : Host.Outcome State Fault Refusal := pkSubmit p 0x10 w s
/-- TO_KEY: key pair KEY ← A. -/
def execToKey (p : Port) (w : PkWord) (s : State) : Host.Outcome State Fault Refusal := pkSubmit p 0x11 w s

/-! ### Completion (R380, R384, R394) -/

/-- PK_RESULT's word. -/
def pkResultWord (seq : U8) (code : U8) (cmp : Nat) : U40 :=
  BitVec.ofNat 40 (seq.toNat * 2 ^ 24 + code.toNat * 2 ^ 16 + cmp * 2 ^ 14)

/-- The PKE is retired; what is queued is discarded. -/
def retirePke (rule : Nat) (s : State) : State :=
  journalRetire 0x28 0 0 (rule * 256)
    (modPke (fun k => { k with health := { k.health with retired := true }, queue := [] }) s)

/-- A transient fault of the PKE. -/
def chargePke (s : State) : State :=
  let (h, perm) := chargeHealth s s.pke.health
  let s := modPke (fun k => { k with health := h, transients := satInc k.transients }) s
  if perm && !h.retired then retirePke 2 s else s

/-- An input of class ECDH or SIGN. -/
def pkSecretInput (s : State) (e : PkEntry) : Bool :=
  let k := pkPort s e.port
  let u := pkUse e.op
  let hot := fun (used : Bool) (x : BitVec 6) =>
    used && ((pkSlot k x.toNat).cls == .ecdh || (pkSlot k x.toNat).cls == .sign)
  hot u.a e.w.a || hot u.b e.w.b

/-- A command completes with a code: PK_RESULT, the refusal's counts, and after a failure the port's queue (R380, R384). -/
def pkEnd (e : PkEntry) (code : U8) (cmp : Nat) (s : State) : State :=
  let secret := pkSecretInput s e
  let s := modPk e.port (fun k => { k with result := pkResultWord e.seq code cmp }) s
  let s := modPke (fun k => { k with
    running := none, last := e.port
    queue := if code = eOk then k.queue else k.queue.filter (fun x => x.port != e.port)
    refusals := if code = eRefused then satInc k.refusals else k.refusals }) s
  if code = eRefused ∧ secret then chargePke s else s

/-! ### The checks at the start (R381, R382) -/

/-- The values A, B, M of a command. -/
structure PkVals where
  a : Nat
  b : Nat
  m : Nat
  x : Nat
  y : Nat
deriving DecidableEq, Repr

def pkVals (k : PkPort) (w : PkWord) : PkVals :=
  ⟨(pkSlot k w.a.toNat).value, (pkSlot k w.b.toNat).value, (pkSlot k w.m.toNat).value, (pkSlot k w.r.toNat).value,
   (pkSlot k (w.r.toNat + 1)).value⟩

/-- Check 4: classes. -/
def pkClassOk (k : PkPort) (op : Nat) (w : PkWord) : Bool :=
  let cls := fun (x : BitVec 6) => (pkSlot k x.toNat).cls
  let pub := fun (n : Nat) => (pkSlot k n).cls == .pub
  let q := pub w.r.toNat && pub (w.r.toNat + 1)
  (!(pkUse op).m || cls w.m == .pub) &&
  match op with
  | 0x06 => cls w.b == .pub
  | 0x09 => cls w.a != .ecdh && cls w.a != .sign
  | 0x0A => cls w.a == .pub && cls w.b == .pub
  | 0x0E => cls w.a == .sign && cls w.b == .sign && q
  | 0x0F => cls w.a == .pub && cls w.b == .pub && q
  | 0x11 => cls w.a == .ecdh
  | _ => true

/-- Check 5: an input is WITHHELD. -/
def pkWithheldInput (k : PkPort) (op : Nat) (w : PkWord) : Bool :=
  let u := pkUse op
  op != 0x10 && ((u.a && (pkSlot k w.a.toNat).cls == .withheld) || (u.b && (pkSlot k w.b.toNat).cls == .withheld))

/-- Check 6: R388 holds. -/
def pkGateOk (k : PkPort) (w : PkWord) : Bool :=
  let a := pkSlot k w.a.toNat
  let b := pkSlot k w.b.toNat
  a.cls == .withheld && b.cls == .withheld && a.partner == w.b.toNat && b.partner == w.a.toNat &&
  a.bindM == w.m.toNat && a.bindR == w.r.toNat && a.bindClean && b.bindClean

/-- Check 9: the ranges of R382. -/
def pkRangeOk (op : Nat) (v : PkVals) : Bool :=
  match op with
  | 0x01 | 0x02 | 0x03 | 0x05 | 0x06 => v.a < v.m && v.b < v.m
  | 0x04 => v.a < v.m
  | 0x07 => v.a < 2 * v.m
  | 0x0E | 0x0F | 0x10 =>
    v.a < 2 ^ 384 && v.b < 2 ^ 384 && v.m < 2 ^ 384 && v.x < 2 ^ 384 && v.y < 2 ^ 384
  | 0x11 => v.a < 2 ^ 384
  | _ => true

/-- Check 10: the values that are refused. -/
def pkValueOk (op : Nat) (v : PkVals) : Bool :=
  match op with
  | 0x03 | 0x05 | 0x06 => 1 < v.a && 1 < v.b
  | 0x04 => 1 < v.a
  | 0x0E => v.a != 0 && v.b != 0
  | _ => true

/-- The code of the first check of R381 that fails. -/
def pkCheck (s : State) (e : PkEntry) : U8 :=
  let k := pkPort s e.port
  let w := e.w
  let op := e.op
  let key := w.key.toNat
  let v := pkVals k w
  let a := (keySlot s key).attr
  let reads := op == 0x0B || op == 0x0C
  if reads && !(ksLoaded s key && ksUsable s e.port key && (a.getLsbD 5 || a.getLsbD 8)) then eAccess
  else if op = 0x11 ∧ (key < 16 ∨ key % 2 = 1) then eAccess
  else if reads && ksSize a != 2 then eType
  else if op = 0x11 ∧ ((tget s.keys.slots key).isSome ∨ (tget s.keys.slots (key + 1)).isSome) then eState
  else if !pkClassOk k op w then eAccess
  else if pkWithheldInput k op w then eWithheld
  else if op = 0x10 && !pkGateOk k w then eState
  else if (pkUse op).m && v.m ≤ 1 then eRefused
  else if (op = 0x05 ∨ op = 0x06) ∧ v.m % 2 = 0 then eRange
  else if !pkRangeOk op v then eRange
  else if !pkValueOk op v then eRefused
  else eOk

/-- The next command: the ports in round-robin order after the last one, each port's in order of submission (R380). -/
def pkNext (s : State) : Option PkEntry :=
  let l := (portNo s.pke.last).val
  ([1, 2, 3].map (fun i => portOf ((l + i) % 3))).findSome? (fun p => s.pke.queue.find? (fun e => e.port == p))

/-- PK_COMMAND_DISPATCH: the next command starts; one that fails a check of R381 completes with its code. -/
def execPkCommandDispatch (s : State) : Host.Outcome State Fault Refusal :=
  match s.pke.running, pkNext s with
  | none, some e =>
    let s := modPke (fun k => { k with
      queue := k.queue.filter (fun x => x.entry != e.entry), commands := satInc k.commands, running := some e }) s
    let c := pkCheck s e
    if c = eOk then .next s
    else
      let s := if e.op = 0x09 ∧ c = eWithheld then
          modPk e.port (fun k => { k with buf := zeros (pkBufSize k) }) s else s
      .next (pkEnd e c 0 s)
  | _, _ => .next s

/-! ### The operations (R377, R383, R387 to R389) -/

/-- One step of Euclid's algorithm on (r0, r1) with the factors of the first operand, modulo `m`. -/
def euclid (m : Nat) : Nat → Nat × Nat → Nat × Nat → Option Nat
  | 0, _, _ => none
  | n + 1, (r0, r1), (t0, t1) =>
    if r1 = 0 then (if r0 = 1 then some t0 else none)
    else euclid m n (r1, r0 % r1) (t1, (t0 + m * (r0 / r1) - (r0 / r1) * t1 % m) % m)

/-- The inverse of `a` modulo `m`, where there is one (any modulus). -/
def inverse (m a : Nat) : Option Nat := euclid m 15000 (m, a % m) (0, 1)

/-- The higher of two classes (R374, R375). -/
def pkHigher (a b : PkClass) : PkClass :=
  if a = .sign ∨ b = .sign then .sign else if a = .ecdh ∨ b = .ecdh then .ecdh else .pub

/-- The ECDSA verification of slots A and B over M under (R, R + 1). -/
def pkVerify (v : PkVals) : Bool :=
  ecdsaVerify (pointBytes v.x v.y) (beBytes 48 v.m) (beBytes 48 v.a ++ beBytes 48 v.b)

/-- The value an arithmetic command gives; none: no inverse. -/
def pkArith (op limbs : Nat) (v : PkVals) : Option Nat :=
  match op with
  | 0x01 => some ((v.a + v.b) % v.m)
  | 0x02 => some ((v.a + v.m - v.b) % v.m)
  | 0x03 => some (v.a * v.b % v.m)
  | 0x04 => inverse v.m v.a
  | 0x05 | 0x06 => some (powMod v.m v.a (40 * limbs) v.b)
  | _ => some (v.a % v.m)

/-- The command in progress has run: its code, its comparison, and the state with its effect. -/
def pkRun (e : PkEntry) (s : State) : U8 × Nat × State :=
  let k := pkPort s e.port
  let w := e.w
  let v := pkVals k w
  let put := fun (n x : Nat) (c : PkClass) (s : State) => modPk e.port (pkPut n x c) s
  let key := w.key.toNat
  match e.op with
  | 0x08 => (eOk, 0, put w.r.toNat (leNat (padTo k.buf (pkBufSize k))) .pub s)
  | 0x09 => (eOk, 0, modPk e.port (fun k => { k with buf := leBytes (pkBufSize k) v.a }) s)
  | 0x0A => (eOk, if v.a < v.b then 1 else if v.a = v.b then 2 else 3, s)
  | 0x0B =>
    (eOk, 0, put w.r.toNat (beNat (ksKey s key)) (if (keySlot s key).attr.getLsbD 5 then .sign else .ecdh) s)
  | 0x0C =>
    let q := pubOf (beNat (ksKey s key))
    (eOk, 0, put (w.r.toNat + 1) (beNat (q.drop 48)) .pub (put w.r.toNat (beNat (q.take 48)) .pub s))
  | 0x0D =>
    match wireGenerate 3 (5 * k.limbs.toNat + 8) s with
    | (some bs, s) => (eOk, 0, put w.r.toNat (beNat bs % (v.m - 1) + 1) (if w.secret then .sign else .pub) s)
    | (none, s) => (eNotReady, 0, s)
  | 0x0E =>
    let sealed := fun (n other : Nat) (k : PkPort) =>
      { k with slots := tput k.slots n { pkSlot k n with
          cls := .withheld, partner := other, bindM := w.m.toNat, bindR := w.r.toNat, bindClean := true } }
    (eOk, 0, modPk e.port (fun k => sealed w.b.toNat w.a.toNat (sealed w.a.toNat w.b.toNat k)) s)
  | 0x0F => (if pkVerify v then eOk else eAuth, 0, s)
  | 0x10 =>
    let open_ := fun (keep : Bool) (n : Nat) (k : PkPort) =>
      { k with slots := tput k.slots n { value := if keep then (pkSlot k n).value else 0, writes := (pkSlot k n).writes } }
    if pkVerify v then (eOk, 0, modPk e.port (fun k => open_ true w.b.toNat (open_ true w.a.toNat k)) s)
    else
      let s := modPk e.port (fun k => open_ false w.b.toNat (open_ false w.a.toNat k)) s
      let s := modPke (fun k => { k with gateFails := satInc k.gateFails }) s
      (eAuth, 0, chargePke (journal 0x28 0x0303 true [e.seq, BitVec.ofNat 8 (portNo e.port).val] s))
  | 0x11 => (eOk, 0, ksLoad key (2 ^ 28 + 2 ^ 6 + 1) 2 (portNo e.port).val (beBytes 48 v.a) s)
  | op =>
    let one := fun (used : Bool) (x : BitVec 6) => if used then (pkSlot k x.toNat).cls else PkClass.pub
    match pkArith op k.limbs.toNat v with
    | some x => (eOk, 0, put w.r.toNat x (pkHigher (one true w.a) (one (pkUse op).b w.b)) s)
    | none => (eRefused, 0, s)

/-- PK_COMMAND_COMPLETE: the running command ends. -/
def execPkCommandComplete (s : State) : Host.Outcome State Fault Refusal :=
  match s.pke.running with
  | some e => let (c, cmp, s) := pkRun e s; .next (pkEnd e c cmp s)
  | none => .next s

/-! ### Faults, resets and erase (R390 to R392) -/

/-- The result slots of a command. -/
def pkResults (e : PkEntry) : List Nat :=
  if pkSigOp e.op ∨ !(pkUse e.op).r then [] else if e.op = 0x0C then [e.w.r.toNat, e.w.r.toNat + 1] else [e.w.r.toNat]

/-- PKE_PARITY_ERROR (R392). -/
def execPkeParityError (s : State) : Host.Outcome State Fault Refusal :=
  match s.pke.running with
  | some e =>
    let s := modPk e.port (fun k => (pkResults e).foldl (fun k n => pkPut n 0 .pub k) k) s
    .next (chargePke (pkEnd e eIntegrity 0 s))
  | none => .next (chargePke s)

/-- A CORE reset: port L's commands, area and buffer (R390). -/
def pkeCoreReset (s : State) : State :=
  modPke (fun k => { k with
    l := { k.l with limbs := 10, slots := [], buf := [] }
    queue := k.queue.filter (fun e => e.port != .l)
    running := if k.running.any (fun e => e.port == .l) then none else k.running }) s

/-- A tamper erase (R391). -/
def erasePke (s : State) : State :=
  let s := match s.pke.running with
    | some e => modPk e.port (fun k => { k with result := pkResultWord e.seq eState 0 }) s
    | none => s
  let wipe := fun (k : PkPort) => { k with slots := [], buf := [] }
  modPke (fun k => { k with mp0 := wipe k.mp0, mp1 := wipe k.mp1, l := wipe k.l, queue := [], running := none }) s

/-- The tamper erase of R368: every item of its table. -/
def tamperErase (lost : Bool) (s : State) : State := erasePke (eraseKeys lost s)

end Sys2Proof.Machine
end

