-- ==== Sys2Proof/Machine/Heath.lean ====
section
/-! DEFINITION. The Heath domain: the sample tick, alarms and their execution, the record, the cell key, and the supply
events (R437 to R461). -/
namespace Sys2Proof.Machine

/-! ### Sessions (R422, R431) -/

/-- An entry for a secured session that opens (1) or ends (2 by END_SESSION, 3 otherwise). -/
def journalSession (id : U32) (event : Nat) (s : State) : State :=
  journal 0x48 0x0700 false (leBytes 4 id.toNat ++ [BitVec.ofNat 8 event]) s

/-- Every secured session ends. -/
def endSessions (s : State) : State :=
  let open_ := s.spdm.sessions
  open_.foldl (fun t x => journalSession x.id 3 t) (modSpdm (fun p => { p with sessions := [] }) s)

/-! ### Alarms (R444 to R448, R453, R454) -/

/-- The life-cycle state that the OTP copies give (R494, R495). -/
def lcInOtp (s : State) : Nat :=
  match lcVote s with
  | .majority st => st
  | .interrupted t => t
  | _ => 4

/-- HEATH_SECONDS (R440). -/
def heathSeconds (h : Heath) : U32 := h.counter.extractLsb' 15 32

/-- HEATH_EVENT's DATA. -/
def heathData (e : HRec) : List Byte := [e.monitor, e.responses, e.count, 0] ++ leBytes 4 e.time.toNat

/-- The oldest copied entry of the record: its slot. -/
def oldestCopied (r : List HRec) : Option Nat :=
  (r.zipIdx).foldl (fun a x =>
    if !x.1.copied then a
    else match a with
      | none => some x.2
      | some i => if x.1.time.toNat < (r.getD i x.1).time.toNat then some x.2 else a) none

/-- The first free slot, else the place of the oldest copied entry, else the entry is dropped. -/
def hrecPut (e : HRec) (h : Heath) : Heath :=
  if h.hrec.length < 16 then { h with hrec := h.hrec ++ [e] }
  else match oldestCopied h.hrec with
    | some i => { h with hrec := h.hrec.set i e }
    | none => { h with hrecOverflow := if h.hrecOverflow = 0xFF then 0xFF else h.hrecOverflow + 1 }

/-- An alarm is recorded: a Heath record entry, and with main power a journal entry. -/
def recordAlarm (maker found : Bool) (m count : Nat) (s : State) : State :=
  let cfg := (monCfg s m).toNat
  let main := s.heath.mainPower
  let e : HRec := {
    monitor := BitVec.ofNat 8 m
    responses := BitVec.ofNat 8 (1 + 2 * b2n (bit cfg 13 && !maker) + 4 * b2n (bit cfg 14 && !maker) + 8 * b2n maker +
      16 * b2n found)
    count := BitVec.ofNat 8 count, copied := main, battery := !main, time := heathSeconds s.heath }
  let s := modHeath (hrecPut e) s
  if main then journal 0x30 0x0400 true (heathData e) s else s

/-- On battery an erase takes the cell key and the canary (R445). -/
def eraseCell (s : State) : State := modHeath (fun h => { h with cellKey := zeros 32, canary := 0, cellState := 1 }) s

/-- An erase with main power: every item of R368, and every session (R422). -/
def eraseAll (lost : Bool) (s : State) : State := endSessions (tamperErase lost s)

/-- TAMPER is set in every channel (R446). -/
def tamperAll (s : State) : State := finishAll (allChans (fun c t => modChan c (fun x => { x with tamper := true }) t) s)

/-- A hold: the latch, and with main power the hosts. -/
def heathHold (s : State) : State :=
  let s := modHeath (fun h => { h with holdLatch := true }) s
  if s.heath.mainPower then tamperAll s else s

/-- One execution of the alarms of a tick, as monitor and count: erase, hold, record. -/
def heathExecute (alarms : List (Nat × Nat)) (s : State) : State :=
  let maker := lcInOtp s == 0
  let wants := fun (b : Nat) => alarms.any (fun a => bit (monCfg s a.1).toNat b) && !maker
  let hold := wants 13
  let s := if wants 14 then (if s.heath.mainPower then eraseAll false s else eraseCell s) else s
  let s := if hold then heathHold s else s
  alarms.foldl (fun t a => recordAlarm maker false a.1 a.2 t) s

/-! ### The sample tick (R441 to R443) -/

/-- Monitors watched on battery. -/
def batteryMask : BitVec 10 := 0b1000110111

/-- One monitor at a tick: the monitor after it, and the count of an alarm. -/
def monitorTick (cfg : Nat) (cond : Bool) (secs : U32) (m : Monitor) : Monitor × Option Nat :=
  if !cond then ({ m with disarmed := false }, none)
  else if m.disarmed then (m, none)
  else
    let n := if m.windowOpen then m.count + 1 else 1
    let m := { m with trips := satInc m.trips, windowOpen := true, count := n }
    if bits cfg 11 8 ≤ n then
      ({ m with alarms := satInc m.alarms, last := secs, windowOpen := false, count := 0, disarmed := true }, some n)
    else (m, none)

/-- Heath periods counted in a REFCLK absence: they go to the gap's length and to the lines in progress (R53). -/
def gapCount (n : Nat) (s : State) : State :=
  modHay (fun h => { h with ctxs := h.ctxs.map (fun y =>
    if y.2.state == .filling || y.2.state == .checking then (y.1, { y.2 with extra := y.2.extra + 761 * n }) else y) })
    { s with gapPeriods := s.gapPeriods + n }

/-- HEATH_SAMPLE_TICK: all monitors are sampled together. Heath periods counted in a REFCLK absence go to the lines in
progress (R53). -/
def execHeathSampleTick (x : HeathSample) (s : State) : Host.Outcome State Fault Refusal :=
  if !s.heath.powered then .next s
  else
    let main := s.heath.mainPower
    let n := if main then 33 else 131
    let watched := if main then BitVec.allOnes 10 else batteryMask
    let c := x.cond &&& watched
    let s := modHeath (fun h => { h with
      counter := h.counter + BitVec.ofNat 47 n, condition := c, vbatMv := if main then x.vbatMv else h.vbatMv }) s
    let s := if s.porN && !s.refclk then gapCount n s else s
    let secs := heathSeconds s.heath
    let (ms, alarms) := (s.heath.monitors.zipIdx).foldl (fun (a : List Monitor × List (Nat × Nat)) y =>
      let cfg := (monCfg s y.2).toNat
      if bit cfg 15 && watched.getLsbD y.2 then
        let (m, al) := monitorTick cfg (c.getLsbD y.2) secs y.1
        (a.1 ++ [m], match al with | some k => a.2 ++ [(y.2, k)] | none => a.2)
      else (a.1 ++ [y.1], a.2)) ([], [])
    let s := modHeath (fun h => { h with monitors := ms }) s
    .next (if alarms.isEmpty then s else heathExecute alarms s)

/-- MONITOR_WINDOW_EXPIRY: the window ends with the count below N (R443). -/
def execMonitorWindowExpiry (m : Fin 10) (s : State) : Host.Outcome State Fault Refusal :=
  if s.heath.powered then
    .next (modHeath (fun h => { h with monitors := h.monitors.modify m.val (fun x =>
      if x.windowOpen then { x with windowOpen := false, count := 0 } else x) }) s)
  else .next s

/-- HEATH_OSC_MEASURE: the oscillator measured against REFCLK (R439). -/
def execHeathOscMeasure (hz : U32) (s : State) : Host.Outcome State Fault Refusal :=
  if s.porN ∧ s.refclk ∧ s.heath.powered then .next (modHeath (fun h => { h with oscHz := hz }) s) else .next s

/-! ### Managers' commands (R447, R449, R458) -/

/-- An enabled monitor with HOLD had its condition at the last tick. -/
def holdCondition (s : State) : Bool :=
  (List.range 10).any (fun m =>
    let cfg := (monCfg s m).toNat
    bit cfg 15 && bit cfg 13 && s.heath.condition.getLsbD m)

def tamperClearRule (s : State) : U8 × State :=
  if !inService s ∨ holdCondition s then (eState, s)
  else
    let s := modHeath (fun h => { h with holdLatch := false }) s
    (eOk, finishAll (allChans (fun c t => modChan c (fun x => { x with tamper := false }) t) s))

/-- TAMPER_CLEAR. -/
def execTamperClear (p : Port) (s : State) : Host.Outcome State Fault Refusal := execOp p 0x9000 4 1 tamperClearRule s

/-- CELL_STATE of a cell key just armed (R450). -/
def cellStateOf (key : List Byte) : U8 := if allZero key then 2 else 0

def cellArmRule (s : State) : U8 × State :=
  if !((s.lc.state == 0 || s.lc.state == 1 || s.lc.state == 3) && (s.phase == .service || s.phase == .test)) ∨
      (custody s = 1 ∧ s.keys.keyState = 1) then (eState, s)
  else match wireGenerate 0 32 s with
    | (none, s) => (eNotReady, s)
    | (some key, s) =>
      let s := modHeath (fun h => { h with cellKey := key, canary := BitVec.ofNat 64 (crc64 key), cellState := cellStateOf key }) s
      (eOk, if s.lc.state ≠ 0 ∧ !cellArmed s then burnFlag 0x033 s else s)

/-- CELL_ARM. -/
def execCellArm (p : Port) (s : State) : Host.Outcome State Fault Refusal := execOp p 0x9002 1 1 cellArmRule s

def heathLockRule (s : State) : U8 × State := (eOk, modHeath (fun h => { h with locked := true }) s)

/-- HEATH_LOCK. -/
def execHeathLock (p : Port) (s : State) : Host.Outcome State Fault Refusal := execOp p 0x9000 3 1 heathLockRule s

/-! ### HEATH (R222, R451, R455) -/

/-- The step's work: copy, then one execution, then the record is emptied. -/
def heathStep (s : State) : State :=
  let h := s.heath
  let maker := lcInOtp s == 0
  let found := h.cellState == 2 && cellArmed s && !maker
  let cfg := (monCfg s 8).toNat
  let s := { s with freshAtHeath := h.fresh }
  let s := if found then
      modHeath (fun h => { h with monitors := h.monitors.modify 8 (fun m =>
        { m with alarms := satInc m.alarms, last := heathSeconds h }) }) s else s
  let s := (h.hrec.filter (fun e => !e.copied)).foldl (fun t e => journal 0x31 0x0400 true (heathData e) t) s
  let s := if h.hrecOverflow = 0 then s else notice 0x31 true 0x9001 2 h.hrecOverflow.toNat 0 s
  let erase := h.hrec.any (fun e => e.battery && e.responses.getLsbD 2) || (found && bit cfg 14)
  let s := if erase && !maker then eraseAll false s else s
  let s := if (found && bit cfg 13) || (h.holdLatch && !maker) then heathHold s else s
  let s := if found then recordAlarm maker true 8 1 s else s
  modHeath (fun h => { h with hrec := [], hrecOverflow := 0, fresh := false }) s

/-! ### Supply of the domain (R437, R438) -/

/-- The domain powers up from nothing: the cell key's content is undefined (log entry 3). -/
def heathFromNothing (main : Bool) (s : State) : State :=
  let (k, s) := drawBytes 32 s
  { s with heath := { heathFresh with mainPower := main, cellKey := k } }

/-- HEATH_POWER_LOSS: VBAT and main power are both absent; every content is lost. -/
def execHeathPowerLoss (s : State) : Host.Outcome State Fault Refusal :=
  if s.heath.powered ∧ !s.heath.mainPower then
    .next { s with heath := { heathFresh with powered := false, mainPower := false } }
  else .next s

/-- HEATH_POWER_UP on battery. -/
def execHeathPowerUp (s : State) : Host.Outcome State Fault Refusal :=
  if s.heath.powered then .next s else .next (heathFromNothing false s)

end Sys2Proof.Machine
end

