-- ==== Sys2Proof/Machine/Supervision.lean ====
section
/-! DEFINITION. The watchdog, the control-core faults, the check-value units, the sensors, the scrubber and the clock
events that belong to no other family (R20 to R22, R39, R462 to R490, R550, R577). -/
namespace Sys2Proof.Machine

/-! ### Check-value units after a reset (R484, R488, R489) -/

def cuAt (s : State) (u : Fin 8) : CheckUnit := s.cus[u]

/-- A unit in its state at reset. -/
def cuReset (u : Nat) : CheckUnit :=
  if u < 2 then { st := 1, owner := some .l } else if u < 6 then {} else { st := 1, owner := some .l, width := 64 }

/-- A retired CU0 or CU1 waits for a replacement: fewer general units are port L's than small ones are retired (R489). -/
def cuOwed (s : State) : Bool :=
  let gone := ([0, 1].filter (fun (u : Fin 8) => (cuAt s u).st == 4)).length
  ([2, 3, 4, 5].filter (fun (u : Fin 8) => (cuAt s u).owner == some .l)).length < gone

/-- Port L takes the lowest-numbered FREE general unit for a retired CU0 or CU1. -/
def cuReplace (s : State) : State :=
  if cuOwed s then
    match ([2, 3, 4, 5] : List (Fin 8)).find? (fun u => (cuAt s u).st == 0) with
    | some u => modCu u (fun k => { k with st := 1, owner := some .l }) s
    | none => s
  else s

/-! ### What a CORE reset drops at once (R52, R245, R343, R361, R390, R414, R422, R482, R488, R527) -/

/-- The runtime's jobs, areas, keys and timers, every staged set, and what the management ports hold of messages. -/
def coreDrop (s : State) : State :=
  let s := pkeCoreReset { s with
    banks := s.banks.map (fun k => if k.owner = some .l then {} else k)
    cxs := s.cxs.map (fun k => if k.owner = some .l then {} else k)
    ports := s.ports.map (fun r => { r with staged := [], stagedRules := [], commitResult := 0, faWait := none })
    chans := s.chans.map (fun c => { c with
      devRead := if isField c.devRead then none else c.devRead
      failedRead := if isField c.failedRead then none else c.failedRead
      retries := if isField c.failedRead then 0 else c.retries })
    mports := s.mports.map (fun m => { m with
      partialMsg := none, rx := [], current := none, responses := [], refusal := none, cache := []
      smbAddr := m.addrDue.getD m.smbAddr, addrDue := none }) }
  let s := modKeys (fun k => { k with
    slots := k.slots.filter (fun x => x.1 < 16 || bits x.2.attr.toNat 23 22 != 2) }) s
  let s := modRandom (fun r => { r with
    rawBuf := r.rawBuf.set 2 [], prFresh := r.prFresh.set 2 false, prWaiting := r.prWaiting.filter (· != 2) }) s
  let s := modSpdm (fun x => { x with conns := x.conns.map (fun _ => {}) }) s
  let s := ([0, 1, 2, 3, 4, 5, 6, 7] : List (Fin 8)).foldl (fun t u =>
    if timerOwner t u = timerCode .l then timerHalt u t else t) s
  let s := ([2, 3, 4, 5] : List (Fin 8)).foldl (fun t u =>
    let k := cuAt t u
    if k.owner = some .l ∧ k.st ≠ 4 then modCu u (fun k => { cuReset u.val with health := k.health }) t else t) s
  cuReplace (cuReplace s)

/-! ### Restarts (R244, R245, R469) -/

/-- RESET entry (R431). -/
def journalReset (s : State) : State := journal 0x00 0x0002 true [s.resetCause, s.bootAttempts] s

/-- Step RUNTIME has completed. -/
def runtimeDone (s : State) : Bool := (tget s.steps 7).isSome

/-- A CORE-kind reset: the cores are held; before step RUNTIME has completed it is a DEVICE reset (R245). A stopped
watchdog stays stopped (R462, R464). -/
def coreReset (cause : Nat) (s : State) : State :=
  if runtimeDone s then
    let s := if s.wd.running then wdRecovery s else s
    coreDrop (journalReset { s with
      coresDown := true, resetCause := BitVec.ofNat 8 cause, coreRestarts := satInc s.coreRestarts })
  else { s with coresDown := true, deviceResetDue := some (BitVec.ofNat 8 cause) }

/-! ### The watchdog (R462 to R472) -/

/-- The task set check-ins are judged against (R466). -/
def wdTaskSet (s : State) : U16 :=
  if s.wd.recovery then BitVec.ofNat 16 (cfgNat s 0xA000 5) else s.wd.tasks

/-- Ticks of the closed phase's end and of the open end, from the window's start (R463). -/
def wdClosedEnd (w : Watchdog) : Nat := max 1 (w.closedLen * w.prescale)
def wdOpenEnd (w : Watchdog) : Nat := (w.closedLen + w.openLen) * w.prescale

/-- The evidence of R470; the program counters are not ours to know (log entry 3). -/
def wdEvidence (cause : Nat) (s : State) : State :=
  let (pc0, s) := draw 40 s
  let (pc1, s) := draw 40 s
  let missing := wdTaskSet s &&& ~~~s.wd.present
  let s := modWd (fun w => { w with
    evCause := BitVec.ofNat 8 cause, evMissing := missing, evDuplicate := w.duplicate, evPc0 := pc0, evPc1 := pc1
    evLastUs := w.lastUs, evLastEpoch := w.lastEpoch, evTime := s.tbUs }) s
  journal 0x38 0x0500 true ([BitVec.ofNat 8 cause] ++ leBytes 2 missing.toNat ++ leBytes 2 s.wd.duplicate.toNat) s

/-- A bite (R469). A bite in a recovery window is answered as DEVICE. -/
def wdBite (cause : Nat) (s : State) : State :=
  let device := s.wd.recovery || s.wd.response != 0
  let s := modWd (fun w => { w with bites := satInc w.bites }) (wdEvidence cause s)
  if device then { s with coresDown := true, deviceResetDue := some 5 } else coreReset 2 s

/-- The cause of a bite at the open end (R468). -/
def wdOpenCause (s : State) : Nat := if !s.wd.recovery && (s.wd.tasks &&& ~~~s.wd.present) != 0 then 2 else 1

/-- WD_BITE: the open end of a window without a valid service. -/
def execWdBite (s : State) : Host.Outcome State Fault Refusal :=
  if s.wd.running ∧ s.refclk ∧ s.porN ∧ s.deviceResetDue = none then .next (wdBite (wdOpenCause s) s) else .next s

def wdCheckinRule (task : Nat) (s : State) : U8 × State :=
  if !s.refclk then (eNotReady, s)
  else if !s.wd.running then (eState, s)
  else if 15 < task ∨ !(wdTaskSet s).getLsbD task then (eRange, s)
  else
    let b : U16 := (1 : U16) <<< task
    (eOk, modWd (fun w => if w.present.getLsbD task then { w with duplicate := w.duplicate ||| b }
      else { w with present := w.present ||| b }) s)

/-- WD_CHECKIN (R466). -/
def execWdCheckin (p : Port) (task : U8) (s : State) : Host.Outcome State Fault Refusal :=
  execOp p 0xA001 0 1 (wdCheckinRule task.toNat) s

/-- Ticks from the window's start to the tick at which a service written now is sampled: at least one (R465). -/
def wdElapsed (s : State) : Nat := max 1 (s.now - s.wd.start)

def wdServiceRule (key : U16) (s : State) : U8 × State :=
  let w := s.wd
  let t := wdElapsed s
  if !s.refclk then (eNotReady, s)
  else if !w.running then (eState, s)
  else if key ≠ w.keyNext then (eState, wdBite 4 s)
  else if t < wdClosedEnd w then (eState, wdBite 3 s)
  else if wdOpenEnd w ≤ t then (eState, wdBite (wdOpenCause s) s)
  else if !w.recovery && (w.tasks &&& ~~~w.present) != 0 then
    (eState, modWd (fun w => { w with refused := satInc w.refused }) s)
  else
    (eOk, wdWindow (modWd (fun w => { w with
      lastUs := s.tbUs, lastEpoch := s.tbEpoch, present := 0, duplicate := 0
      keyNext := if w.keyNext = 0xA55A then 0x5AA5 else 0xA55A }) s))

/-- WD_SERVICE (R467). -/
def execWdService (p : Port) (key : U16) (s : State) : Host.Outcome State Fault Refusal :=
  execOp p 0xA001 1 2 (wdServiceRule key) s

def wdLockRule (s : State) : U8 × State :=
  if s.wd.running then (eOk, modWd (fun w => { w with locked := true }) s) else (eState, s)

/-- WD_LOCK (R472). -/
def execWdLock (p : Port) (s : State) : Host.Outcome State Fault Refusal := execOp p 0xA000 6 1 wdLockRule s

/-! ### Control-core faults (R473, R474) -/

/-- A lockstep mismatch or a double-bit error of the runtime SRAM: evidence, BITE entry, one transient, the reset. When the
faults are permanent the cores are left held after the reset, under a running watchdog (R474). -/
def coreFault (cause code : Nat) (s : State) : State :=
  let s := wdEvidence cause s
  let (h, perm) := chargeHealth s s.coreHealth
  let s := coreReset code { s with coreHealth := h }
  if perm then { (if s.wd.running then s else wdRecovery s) with coresHeld := true } else s

/-- LOCKSTEP_MISMATCH. -/
def execLockstepMismatch (s : State) : Host.Outcome State Fault Refusal :=
  if coresRun s ∧ s.deviceResetDue = none then .next (coreFault 5 4 s) else .next s

/-- SRAM_DED: the error is counted under memory 5 (R36, R38). -/
def execSramDed (s : State) : Host.Outcome State Fault Refusal :=
  if coresRun s ∧ s.deviceResetDue = none then .next (coreFault 6 3 (countDed 5 s)) else .next s

/-! ### Check-value units (R484 to R490) -/

/-- CU6 and CU7. -/
def cuLarge (u : Fin 8) : Bool := 6 ≤ u.val

/-- A general unit: CU2 to CU5. -/
def cuGeneral (u : Fin 8) : Bool := 2 ≤ u.val && u.val ≤ 5

def cuAllocRule (p : Port) (s : State) : U8 × State :=
  let put := fun (v : U8) (s : State) => modPort p (fun r => { r with cuGranted := v }) s
  let held := ([2, 3, 4, 5].filter (fun (u : Fin 8) => (cuAt s u).owner == some p)).length
  let pick : Option (Fin 8) := if p = .l ∨ 2 ≤ held then none else [2, 3, 4, 5].find? (fun u => (cuAt s u).st == 0)
  match pick with
  | some u => (eOk, put (BitVec.ofNat 8 u.val) (modCu u (fun k => { k with st := 1, owner := some p }) s))
  | none => (eBusy, put 0xFF s)

/-- CU_ALLOC. -/
def execCuAlloc (p : Port) (s : State) : Host.Outcome State Fault Refusal := execOp p 0x8500 1 1 (cuAllocRule p) s

/-- Writes to the parameters (R485). -/
def cuWriteRule (u : Fin 8) (sub : Nat) (v : List Byte) (s : State) : U8 × State :=
  let n := leNat v
  if (cuAt s u).st = 2 then (eState, s)
  else if sub = 6 ∧ 64 ≤ n then (eRange, s)
  else (eOk, modCu u (fun k =>
    match sub with
    | 2 => { k with width := BitVec.ofNat 8 n }
    | 3 => { k with poly := BitVec.ofNat 64 n }
    | 4 => { k with init := BitVec.ofNat 64 n }
    | 5 => { k with xorout := BitVec.ofNat 64 n }
    | 6 => { k with flags := BitVec.ofNat 8 n }
    | 7 => { k with alive := BitVec.ofNat 8 n }
    | 8 => { k with addr := BitVec.ofNat 40 n }
    | _ => { k with seq := BitVec.ofNat 32 n }) s)

def cuRefin (k : CheckUnit) : Bool := k.flags.getLsbD 0
def cuAliveMode (k : CheckUnit) : Nat := bits k.flags.toNat 3 2

/-- Bytes into the register. -/
def cuAbsorb (bs : List Byte) (k : CheckUnit) : CheckUnit :=
  { k with reg := BitVec.ofNat 64 (crcBytes k.width.toNat k.poly.toNat (cuRefin k) k.reg.toNat bs) }

def cuStartRule (u : Fin 8) (s : State) : U8 × State :=
  let k := cuAt s u
  let w := k.width.toNat
  let prefixed := k.flags.getLsbD 5
  if k.st = 4 ∨ k.st = 0 ∨ k.st = 2 then (eState, s)
  else if w < 3 ∨ (if cuLarge u then 64 else 32) < w then (eRange, s)
  else if 2 ^ w ≤ k.poly.toNat ∨ 2 ^ w ≤ k.init.toNat ∨ 2 ^ w ≤ k.xorout.toNat then (eRange, s)
  else if cuAliveMode k = 3 ∨ (cuLarge u ∧ cuAliveMode k ≠ 0) ∨ (!cuLarge u ∧ prefixed) then (eRange, s)
  else
    (eOk, modCu u (fun k =>
      let k := { k with st := 2, reg := k.init, fed := 0 }
      if prefixed then cuAbsorb (leBytes 5 k.addr.toNat ++ leBytes 4 k.seq.toNat) k else k) s)

/-- CU_START. -/
def execCuStart (p : Port) (u : Fin 8) (s : State) : Host.Outcome State Fault Refusal :=
  execOp p (0x8510 + u.val) 0xA 1 (cuStartRule u) s

def cuFeedRule (u : Fin 8) (bs : List Byte) (s : State) : U8 × State :=
  if (cuAt s u).st ≠ 2 then (eState, s)
  else (eOk, modCu u (fun k => { cuAbsorb bs k with fed := k.fed + BitVec.ofNat 40 bs.length }) s)

/-- CU_FEED8. -/
def execCuFeed8 (p : Port) (u : Fin 8) (value : U8) (s : State) : Host.Outcome State Fault Refusal :=
  execOp p (0x8510 + u.val) 0xB 1 (cuFeedRule u [value]) s

/-- CU_FEED16. -/
def execCuFeed16 (p : Port) (u : Fin 8) (value : U16) (s : State) : Host.Outcome State Fault Refusal :=
  execOp p (0x8510 + u.val) 0xC 2 (cuFeedRule u (leBytes 2 value.toNat)) s

/-- CU_FEED40. -/
def execCuFeed40 (p : Port) (u : Fin 8) (value : U40) (s : State) : Host.Outcome State Fault Refusal :=
  execOp p (0x8510 + u.val) 0xD 5 (cuFeedRule u (leBytes 5 value.toNat)) s

/-- CU_FEED_BLOCK. -/
def execCuFeedBlock (p : Port) (u : Fin 8) (data : List Byte) (s : State) : Host.Outcome State Fault Refusal :=
  blockOp p (0x8510 + u.val) 0xE data.length (cuFeedRule u data) s

/-- CU_ALIVE as 4 input bits, in the bit order of the unit (R487). -/
def cuNibble (k : CheckUnit) : BitVec 64 :=
  let order := if cuRefin k then [0, 1, 2, 3] else [3, 2, 1, 0]
  BitVec.ofNat 64 (order.foldl (fun r i => crcBit k.width.toNat k.poly.toNat r (k.alive.getLsbD i)) k.reg.toNat)

def cuFinishRule (u : Fin 8) (s : State) : U8 × State :=
  if (cuAt s u).st ≠ 2 then (eState, s)
  else (eOk, modCu u (fun k =>
    let mode := cuAliveMode k
    let k := if mode = 1 then { k with reg := cuNibble k } else if mode = 2 then cuAbsorb [k.alive] k else k
    let next := if mode = 1 then (k.alive &&& 0xF0) ||| ((k.alive + 1) &&& 0x0F) else k.alive + 1
    { k with
      st := 3, value := BitVec.ofNat 64 (crcEnd k.width.toNat (k.flags.getLsbD 1) k.xorout.toNat k.reg.toNat)
      alive := if k.flags.getLsbD 4 && mode != 0 then next else k.alive }) s)

/-- CU_FINISH. -/
def execCuFinish (p : Port) (u : Fin 8) (s : State) : Host.Outcome State Fault Refusal :=
  execOp p (0x8510 + u.val) 0xF 1 (cuFinishRule u) s

def cuReleaseRule (u : Fin 8) (s : State) : U8 × State :=
  if !cuGeneral u ∨ (cuAt s u).st = 4 then (eState, s)
  else (eOk, cuReplace (modCu u (fun k => { cuReset u.val with health := k.health }) s))

/-- CU_RELEASE (R488, R489). -/
def execCuRelease (p : Port) (u : Fin 8) (s : State) : Host.Outcome State Fault Refusal :=
  execOp p (0x8510 + u.val) 0x11 1 (cuReleaseRule u) s

/-- A unit is retired; its replacement is found (R489). -/
def retireCu (u : Fin 8) (rule : Nat) (s : State) : State :=
  let s := modCu u (fun k => { k with st := 4, owner := none, health := { k.health with retired := true } }) s
  let s := cuReplace (cuReplace (journalRetire 0x02 0 0 (rule * 256) s))
  if (cuAt s 6).st = 4 ∧ (cuAt s 7).st = 4 ∧ s.vault.eff ≠ 3 then retireVault rule s else s

/-- CU_PARITY_ERROR: the computation ends with E_INTEGRITY and the unit returns to IDLE; one transient fault of it. -/
def execCuParityError (u : Fin 8) (s : State) : Host.Outcome State Fault Refusal :=
  let k := cuAt s u
  if k.st = 4 ∨ !s.porN then .next s
  else
    let (h, perm) := chargeHealth s k.health
    let s := modCu u (fun k => { k with st := if k.st = 0 then 0 else 1, health := h }) { s with cuTransients := satInc s.cuTransients }
    let s := match k.owner with
      | some p => if k.st = 2 then modPort p (fun r => { r with lastCode := eIntegrity }) s else s
      | none => s
    .next (if perm then retireCu u 2 s else s)

end Sys2Proof.Machine
end

