-- ==== Sys2Proof/Machine/Clock.lean ====
section
/-! DEFINITION. The clock events, the gauge and the sensors, the scrubber, and the device timeouts (R20 to R27, R36, R39,
R40, R52 to R54, R476, R550, R577). -/
namespace Sys2Proof.Machine

/-- Step CLOCK has completed: REFCLK has been present and the PLL has locked once since the reset. -/
def clockDone (s : State) : Bool := (tget s.steps 1).isSome

/-! ### REFCLK (R52 to R54) -/

/-- A read that the stop of the PLL clock ends without a beat: gap fills and reads to be pinned start anew later (R52). -/
def stopRead (c : Chan) (s : State) : State :=
  match (chanAt s c).devRead with
  | none => s
  | some (.field p m a n) => modChan c (fun x => { x with devRead := none, failedRead := some (.field p m a n) }) s
  | some _ => modChan c (fun x => { x with devRead := none }) s

/-- REFCLK_LOSS: what is paced by REFCLK or the PLL stops (R5, R18, R52). -/
def execRefclkLoss (s : State) : Host.Outcome State Fault Refusal :=
  if s.refclk ∧ s.porN then
    .next (finishAll (allChans stopRead
      { s with refclk := false, pllLock := false, gapPeriods := 0, refclkLosses := satInc s.refclkLosses }))
  else .next s

/-- REFCLK_RETURN: `periods` Heath periods after the last sample tick the gap ends (R54). -/
def execRefclkReturn (periods : Nat) (s : State) : Host.Outcome State Fault Refusal :=
  if !s.refclk ∧ s.porN ∧ clockDone s then
    let s := gapCount periods s
    let gap : U32 := BitVec.ofNat 32 (min s.gapPeriods (2 ^ 32 - 1))
    let s := { s with refclk := true, gapPeriods := 0, refclkLastGap := gap }
    .next (finishAll (vaultFollow false (journal 0x30 0x0401 true (leBytes 4 gap.toNat) s)))
  else .next s

/-! ### The PLL (R74, R577) -/

/-- A transfer in progress on a flash port fails. -/
def failRead (c : Chan) (s : State) : State :=
  match (chanAt s c).devRead with
  | some r => deviceReadFail c r s
  | none => s

/-- PLL_LOCK_LOSS: transfers in progress fail and will be retried (R577). -/
def execPllLockLoss (s : State) : Host.Outcome State Fault Refusal :=
  if s.pllLock ∧ s.refclk ∧ s.porN then
    let busy := vaultReady s && !s.vault.ops.isEmpty
    let s := notice 0x02 false 0x1120 1 0 0 { s with pllLock := false }
    let s := allChans failRead s
    .next (finishAll (if busy then vaultCmdFail s else s))
  else .next s

/-- PLL_RELOCK: programs and erases held in the command stores are issued (R74). -/
def execPllRelock (s : State) : Host.Outcome State Fault Refusal :=
  if !s.pllLock ∧ s.refclk ∧ s.porN ∧ clockDone s then .next (finishAll { s with pllLock := true }) else .next s

/-! ### Timebase, gauge and sensors (R20 to R22, R550) -/

/-- TB_US_WRAP: from its last value TB_US goes to 0 and TB_EPOCH rises (R20). -/
def execTbUsWrap (s : State) : Host.Outcome State Fault Refusal :=
  if s.refclk ∧ s.porN ∧ s.tbUs = BitVec.allOnes 40 then
    .next { s with tbUs := 0, tbEpoch := s.tbEpoch + 1, subUs := s.subUs - 25 }
  else .next s

/-- PACE_REFRESH: above 170 ps a journal entry, the next one only after a value below 160 ps (R21, R22). -/
def execPaceRefresh (ps : U16) (s : State) : Host.Outcome State Fault Refusal :=
  if s.refclk ∧ s.porN then
    let s := { s with pacePs := ps, paceMaxPs := if s.paceMaxPs.toNat < ps.toNat then ps else s.paceMaxPs }
    if 170 < ps.toNat ∧ s.paceArmed then
      .next (notice 0x02 false 0x1110 0 ps.toNat 0 { s with paceArmed := false })
    else .next { s with paceArmed := s.paceArmed || ps.toNat < 160 }
  else .next s

/-- SENSOR_REFRESH: temperatures, rails and their extremes (R550). -/
def execSensorRefresh (tj : List Int) (railMv : List U16) (s : State) : Host.Outcome State Fault Refusal :=
  if s.refclk ∧ s.porN then
    let t := s.tj.zipIdx.map (fun x => tj.getD x.2 x.1)
    let r := s.railMv.zipIdx.map (fun x => railMv.getD x.2 x.1)
    .next { s with
      tj := t, tjMax := s.tjMax.zipIdx.map (fun x => max x.1 (t.getD x.2 x.1))
      railMv := r
      railMin := s.railMin.zipIdx.map (fun x => if (r.getD x.2 x.1).toNat < x.1.toNat then r.getD x.2 x.1 else x.1)
      railMax := s.railMax.zipIdx.map (fun x => if x.1.toNat < (r.getD x.2 x.1).toNat then r.getD x.2 x.1 else x.1) }
  else .next s

/-! ### The scrubber (R36 to R40) -/

/-- Words of the protected memories 0 to 5 of R38 (R559). -/
def memWords : List Nat := [1572864, 262144, 131072, 262144, 32768, 262144]

/-- Words of a pass: 2,523,136. -/
def scrubTotal : Nat := 2523136

/-- The memory and the word at a place of the scrubber's order: memory by memory, ascending (log entry 41). -/
def scrubPlace (pos : Nat) : Fin 8 × Nat :=
  if pos < 1572864 then (0, pos)
  else if pos < 1835008 then (1, pos - 1572864)
  else if pos < 1966080 then (2, pos - 1835008)
  else if pos < 2228224 then (3, pos - 1966080)
  else if pos < 2260992 then (4, pos - 2228224)
  else (5, pos - 2260992)

/-- What a double-bit error in a stored word does (R36, R37, R122, R176, R177, R473). -/
def storedDouble (mem : Fin 8) (word : Nat) (s : State) : State :=
  if mem = 0 then
    match tget s.hayloft.ctxs (word / 32) with
    | some x => ctxDouble (word / 32) x (word % 32) s
    | none => if s.hayloft.retiredCtx.contains (word / 32) then s else chargeCtx (word / 32) (cleanWords 0 word 1 s)
  else if mem = 1 then (if s.hayloft.retiredWay.contains (word / 64) then s else wayDouble (word / 64) s)
  else if mem = 2 ∨ mem = 3 then markReload mem word s
  else if mem = 5 then (if coresRun s ∧ s.deviceResetDue = none then coreFault 6 3 s else s)
  else s

/-- SCRUB_READ: the next word of the pass (R39, R40); `struck` is the error that has hit it since its last read. -/
def execScrubRead (struck : Option CodeWord) (s : State) : Host.Outcome State Fault Refusal :=
  if s.refclk ∧ s.porN then
    let (mem, word) := scrubPlace s.scrubPos
    let s := match struck with
      | some m => strike [{ mem := mem, word := word, mask := m }] s
      | none => s
    let (r, s) := readWord mem word s
    let s := if r = .double then storedDouble mem word s else s
    .next (finishAll (if s.scrubPos + 1 = scrubTotal then
      { s with scrubPos := 0, scrubPasses := satInc s.scrubPasses, scrubLast := s.tbUs }
    else { s with scrubPos := s.scrubPos + 1 }))
  else .next s

/-! ### Device timeouts (R25 to R27, R476, R477) -/

/-- The chip select on which a program (1) or erase (2) timeout runs. -/
def timedCs (s : State) (c : Chan) (t : Fin 14) : Option (Cs × Busy × PhysOp) :=
  let at_ := fun (m : Cs) => match (flashOf (chanAt s c) m).busy with
    | some (.host op) => if opTimeout op = t then some (m, Busy.host op, op) else none
    | some (.device op) => if opTimeout op = t then some (m, Busy.device op, op) else none
    | _ => none
  match at_ 0 with
  | some x => some x
  | none => at_ 1

/-- A program or erase timeout wins: the operation is reported EXPIRED, and the flash is still at work on it (R26). -/
def opExpire (c : Chan) (t : Fin 14) (s : State) : State :=
  match timedCs s c t with
  | none => s
  | some (m, b, op) =>
    let s := timeoutExpired t (modFlash c m (fun f => { f with busy := some (.late op) }) s)
    finishAll (match b with
      | .host _ => hostOpEnd c false s
      | _ => deviceOpFail c m op s)

/-- The channel's unpinned line in progress of earliest deadline. -/
def staleDue (s : State) (c : Chan) : Option Ctx :=
  s.hayloft.ctxs.foldl (fun (a : Option Ctx) k =>
    let x := k.2
    if (x.state = .filling ∨ x.state = .checking) ∧ !x.pin ∧ x.space / 2 = c.val then
      match a with
      | none => some x
      | some y => if lineAge s y < lineAge s x then some x else a
    else a) none

/-- A partial message is discarded whole (R520). -/
def dropPartial (p : MPort) (s : State) : State :=
  modMport p (fun m => { m with partialMsg := none, assemblyDrops := satInc m.assemblyDrops }) s

/-- MGMT_ASSEMBLY wins against the message's last packet (R520). -/
def assemblyExpire (p : MPort) (s : State) : State :=
  if (mportAt s p).partialMsg.isSome then timeoutExpired 0xD (dropPartial p s) else s

/-- TIMEOUT_EXPIRY: timeout t of the channel, port or unit wins. Timeouts 6, 8 and 0xA are met inside the rows VAULT,
RESEED and COLD_TAKEOVER_CONNECT (log entry 42). -/
def execTimeoutExpiry (t : Fin 14) (ch : Chan) (s : State) : Host.Outcome State Fault Refusal :=
  if !(s.refclk && s.porN) then .next s
  else
    match t.val with
    | 0 =>
      match (chanAt s ch).devRead with
      | some r => .next (finishAll (deviceReadFail ch r (timeoutExpired 0 s)))
      | none => .next s
    | 1 => .next (opExpire ch 1 s)
    | 2 => .next (opExpire ch 2 s)
    | 3 =>
      if (s.phase == .start && (tget s.steps 7).isSome && (tget s.steps 8).isNone) || (chanAt s ch).eff == .off then
        .next (timeoutExpired 3 s)
      else .next s
    | 4 => .next (stageExpire ch s)
    | 5 =>
      if vaultReady s && !s.vault.ops.isEmpty then .next (vaultCmdFail (timeoutExpired 5 s)) else .next s
    | 7 =>
      match s.random.wires with
      | c :: rest => .next (wireTimeout c (modRandom (fun r => { r with wires := rest }) s))
      | [] => .next s
    | 9 =>
      match staleDue s ch with
      | some x => .next (lineStale ch (spaceCs x.space) x.line s)
      | none => .next s
    | 11 => .next (depExpire ch s)
    | 12 => .next (trialExpire s)
    | 13 => if h : ch.val < 2 then .next (assemblyExpire ⟨ch.val, h⟩ s) else .next s
    | _ => .next s

/-- A late arrival is counted: TO_LATE, and the unit's own counter (R26, R476, R477). -/
def countLate (t : Fin 14) (c : Chan) (s : State) : State :=
  let s := modTimeout t (fun o => { o with late := satInc o.late }) s
  if t.val ≤ 3 then modCounts c (fun k => { k with fpLate := satInc k.fpLate }) s
  else if t = 5 ∨ t = 6 then modVault (fun v => { v with late := satInc v.late }) s
  else if t = 7 ∨ t = 8 then modRandom (fun r => { r with late := satInc r.late }) s
  else s

/-- LATE_ARRIVAL: the awaited event of an instance that has expired arrives and is discarded whole (R26). A flash that
was still at work has then ended its operation. -/
def execLateArrival (t : Fin 14) (ch : Chan) (s : State) : Host.Outcome State Fault Refusal :=
  let o := s.timeouts[t]
  if !(o.late.toNat < o.expired.toNat) ∨ !s.porN then .next s
  else
    let lateOp := fun (m : Cs) => match (flashOf (chanAt s ch) m).busy with
      | some (.late op) => if opTimeout op = t then some (m, op) else none
      | _ => none
    let s := match (match lateOp 0 with | some x => some x | none => lateOp 1) with
      | some (m, op) => modFlash ch m (flashApply op) (flashIdle ch m s)
      | none => s
    let s := if t = 7 then modRandom (fun r => { r with wiresLate := r.wiresLate.drop 1 }) s else s
    .next (finishAll (countLate t ch s))

end Sys2Proof.Machine
end

