-- ==== Sys2Proof/Machine/Lifecycle.lean ====
section
/-! DEFINITION. The life cycle: transitions, challenges, tokens, debug authorisation, key hashes, option bytes and the
test port (R491 to R513). -/
namespace Sys2Proof.Machine

/-! ### Entry effects (R500) -/

/-- Entry into Returned: the erase of the CELL-KEPT column, the end of the DSS slot in use, and of LOCKED. -/
def enterReturned (s : State) : State :=
  let s := eraseAll true s
  let s := match dssSlot s with
    | some k => burnFlag (0x230 + 48 * k + 41) (otpBurn (0x230 + 48 * k) (List.replicate 40 0xFF) s)
    | none => s
  modHeath (fun h => { h with locked := false }) s

/-- Entry into Scrapped: as for Returned, and every unused DSS slot is burned used and spent. -/
def enterScrapped (s : State) : State :=
  [0, 1, 2, 3].foldl (fun t k =>
    if dssUsed t k then t else burnFlag (0x230 + 48 * k + 41) (burnFlag (0x230 + 48 * k + 40) t)) (enterReturned s)

/-- The entry effects of a state, before the burns. -/
def lcEffects (target : Nat) (s : State) : State :=
  match target with
  | 1 => patternOff s
  | 2 => modLc (fun l => { l with dbgToken := false }) s
  | 3 => enterReturned s
  | _ => enterScrapped s

/-- The new byte is burned in copy 0, then 1, then 2 (R495). -/
def lcBurn (target : Nat) (s : State) : State :=
  [0, 1, 2].foldl (fun t i => burnFlag (0x008 + 8 * i + lcByte target) t) s

/-- A state comes into force; Scrapped holds every channel and silences the management ports. -/
def lcSet (st : Nat) (s : State) : State :=
  let s := modLc (fun l => { l with state := BitVec.ofNat 8 st }) s
  if st = 4 then { s with mgmtUp := false } else s

/-- The decision of R494 and R495, with an interrupted transition completed: its cause code, its LC_VOTE and the state. -/
def lcDecide (s : State) : U16 × State :=
  match lcVote s with
  | .majority st => (lcVoteWord s 0, lcSet st s)
  | .probeFailed => (lcVoteWord s 2, lcSet 4 s)
  | .noMajority => (lcVoteWord s 3, lcSet 4 s)
  | .interrupted t =>
    let v := lcVoteWord s 1
    let s := lcBurn t (lcEffects t s)
    let s := notice 0x01 true 0x1200 1 v.toNat 0 s
    (v, lcSet (if lcAll s t then t else 4) s)

/-! ### Challenges and tokens (R503 to R506) -/

/-- The path of a port: 0 MP0, 1 MP1, 2 port L; 3 is the test port. -/
def pathOf (p : Port) : Nat := (portNo p).val

/-- A new challenge of a path: the nonce is drawn through port L's raw port. -/
def newChallenge (path : Nat) (s : State) : Option (List Byte) × State :=
  match rawTake .l 32 s with
  | (some n, s) =>
    let s := modLc (fun l => { l with nonces := tput l.nonces path n }) s
    (some (leBytes 4 0x48435651 ++ [0x01, s.lc.state, 0, 0] ++ uidOf s ++ n ++ zeros 8), s)
  | (none, s) => (none, modLc (fun l => { l with nonces := tdel l.nonces path }) s)

def challengeRule (p : Port) (s : State) : U8 × List Byte × State :=
  match newChallenge (pathOf p) s with
  | (some b, s) => (eOk, b, s)
  | (none, s) => (eNotReady, [], s)

/-- CHALLENGE. -/
def execChallenge (p : Port) (s : State) : Host.Outcome State Fault Refusal :=
  readOp p .read 0x1201 0 (challengeRule p) s

/-- KIND and SIGNER are allowed in the state in force (R505 check 3). -/
def tokenKindOk (st : Nat) (kind signer : Nat) : Bool :=
  (kind == 1 && ((signer == 9 && st == 1) || (signer == 8 && st == 3))) ||
  (kind == 2 && signer == 8 && st == 0) || (kind == 3 && signer == 8 && st == 2)

/-- The checks of R505 on a path's token, for a use that wants a KIND. -/
def tokenCode (s : State) (path want : Nat) (tk : List Byte) : U8 :=
  let kind := byteAt tk 5
  let signer := byteAt tk 6
  let pub := slice tk 0x40 96
  if fieldAt tk 0 4 ≠ 0x4B545651 ∨ byteAt tk 4 ≠ 1 ∨ byteAt tk 7 ≠ 0 ∨ !allZero (slice tk 0x38 8) then eRange
  else match tget s.lc.nonces path with
    | none => eState
    | some n =>
      if kind ≠ want ∨ !tokenKindOk s.lc.state.toNat kind signer then eState
      else if slice tk 8 16 ≠ uidOf s then eRefused
      else if slice tk 0x18 32 ≠ n then eAuth
      else if sha384 pub ≠ keyHash s signer ∨ keyRevoked s signer then eAuth
      else if !ecdsaPasses s pub (sha384 (slice tk 0 0xA0)) (slice tk 0xA0 96) then eAuth
      else eOk

/-- A check consumes the path's nonce, whatever its outcome. -/
def tokenCheck (path want : Nat) (tk : List Byte) (s : State) : U8 × State :=
  (tokenCode s path want tk, modLc (fun l => { l with nonces := tdel l.nonces path }) s)

/-- DBG_UNLOCK on a path (R506). -/
def unlockRule (path : Nat) (tk : List Byte) (s : State) : U8 × State :=
  let (c, s) := tokenCheck path 1 tk s
  if c ≠ eOk then (c, s)
  else
    let s := modLc (fun l => { l with dbgToken := true, dbgEver := true, dbgMaker := l.dbgMaker || byteAt tk 6 == 8 }) s
    let s := [2, 3, 4].foldl (fun t k => ksDrop k t) s
    let s := if s.keys.keyState = 1 then deriveAlias s else s
    (eOk, endSessions s)

/-- DBG_UNLOCK. -/
def execDbgUnlock (p : Port) (s : State) : Host.Outcome State Fault Refusal :=
  execOp p 0x1201 2 1 (fun s => unlockRule (pathOf p) (portRegs s p).token s) s

/-! ### Transitions (R498, R499) -/

/-- The prerequisites of the transition to a state. -/
def lcPrerequisites (s : State) (target : Nat) : Bool :=
  match target with
  | 1 => keyBurned s 0 && keyBurned s 4 && keyBurned s 8
  | 2 => s.keys.keyState == 1 && [0, 1, 2, 3].any (keyLive s) && [4, 5, 6, 7].any (keyLive s)
  | _ => true

/-- KIND of the token a transition needs. -/
def lcToken (target : Nat) : Option Nat :=
  match target with
  | 1 => some 2
  | 3 => some 3
  | _ => none

/-- Entry effects, burns and the outcome of a transition. -/
def lcTransit (target : Nat) (s : State) : U8 × State :=
  let s := lcBurn target (lcEffects target s)
  if lcAgrees s target then (eOk, finishAll (lcSet target s)) else (eIntegrity, finishAll (lcDecide s).2)

def lcAdvanceRule (p : Port) (target : Nat) (s : State) : U8 × State :=
  if s.phase ≠ .service ∧ s.phase ≠ .recovery then (eNotReady, s)
  else if target ≠ s.lc.state.toNat + 1 ∨ 3 < target then (eRange, s)
  else if !lcPrerequisites s target then (eState, s)
  else match lcToken target with
    | none => lcTransit target s
    | some kind =>
      let (c, s) := tokenCheck (pathOf p) kind (portRegs s p).token s
      if c ≠ eOk then (c, s) else lcTransit target s

/-- LC_ADVANCE. -/
def execLcAdvance (p : Port) (target : U8) (s : State) : Host.Outcome State Fault Refusal :=
  execOp p 0x1200 2 1 (lcAdvanceRule p target.toNat) s

def lcScrapRule (value : Nat) (s : State) : U8 × State :=
  if s.phase ≠ .service ∧ s.phase ≠ .recovery then (eNotReady, s)
  else if value ≠ leNat ((uidOf s).take 5) then (eRefused, s)
  else lcTransit 4 s

/-- LC_SCRAP. -/
def execLcScrap (p : Port) (value : U40) (s : State) : Host.Outcome State Fault Refusal :=
  execOp p 0x1200 3 5 (lcScrapRule value.toNat) s

/-! ### Key hashes and option bytes (R509 to R511) -/

def keyBurnRule (p : Port) (readback : Bool) (s : State) : U8 × State :=
  let k := s.lc.keySel.toNat
  if s.lc.state ≠ 0 ∧ s.lc.state ≠ 1 then (eState, s)
  else if k = 0 ∨ k = 4 ∨ k = 8 ∨ 9 < k then (eRange, s)
  else if keyBurned s k then (eDuplicate, s)
  else
    let h := (portRegs s p).keyHashIn
    if readback then (eOk, otpBurn (0x050 + 48 * k) h s)
    else
      -- which bits were burned is not known (log entry 3)
      let (m, s) := drawBytes 48 s
      (eIntegrity, burnFlag (0x038 + k) (otpBurn (0x050 + 48 * k) (List.zipWith (fun (a b : Byte) => a &&& b) h m) s))

/-- KEY_BURN. -/
def execKeyBurn (p : Port) (readback : Bool) (s : State) : Host.Outcome State Fault Refusal :=
  execOp p 0x1202 3 1 (keyBurnRule p readback) s

/-- The last unrevoked burned slot of its group. -/
def keyLast (s : State) (k : Nat) : Bool :=
  let group := if k < 4 then [0, 1, 2, 3] else [4, 5, 6, 7]
  k < 8 && keyLive s k && !(group.any (fun j => j != k && keyLive s j))

def keyRevokeRule (k : Nat) (s : State) : U8 × State :=
  if s.lc.state ≠ 1 ∧ s.lc.state ≠ 2 then (eState, s)
  else if 9 < k then (eRange, s)
  else if k = 8 ∨ keyLast s k then (eRefused, s)
  else (eOk, burnFlag (0x038 + k) s)

/-- KEY_REVOKE. -/
def execKeyRevoke (p : Port) (slot : U8) (s : State) : Host.Outcome State Fault Refusal :=
  execOp p 0x1202 4 1 (keyRevokeRule slot.toNat) s

def fuseBurnRule (s : State) : U8 × State :=
  if s.lc.state = 0 ∨ s.lc.state = 1 then (eOk, burnFlag 0x030 s) else (eState, s)

/-- FUSE_BURN. -/
def execFuseBurn (p : Port) (s : State) : Host.Outcome State Fault Refusal := execOp p 0x1202 6 1 fuseBurnRule s

/-! ### The test port (R507, R508) -/

/-- Step LIFECYCLE has decided the state in force. -/
def lcKnown (s : State) : Bool := s.porN && (tget s.steps 3).isSome

/-- DBG_STATUS (R506). -/
def dbgStatus (s : State) : U8 := BitVec.ofNat 8 (b2n (lcKnown s && s.lc.state == 0) + 2 * b2n s.lc.dbgToken)

/-- The boot ROM or the runtime is there to check a token (R507). -/
def tapServed (s : State) : Bool := lcKnown s && coresRun s && s.lc.state != 4

/-- An instruction is selected and its data register captured. -/
def tapSelect (ir : Nat) (dr : List Byte) (s : State) : State :=
  modTap (fun t => { t with ir := BitVec.ofNat 8 ir, dr := dr, extestBalls := [] }) s

/-- The bypass register, captured as 0 (IEEE 1149.1). -/
def tapBypass (ir : Nat) (s : State) : State := tapSelect ir [0] s

/-- TAP_RESET: IDCODE is selected. -/
def execTapReset (s : State) : Host.Outcome State Fault Refusal := .next (tapSelect 0x02 s.tap.dr s)

/-- EXTEST: the balls take the boundary register's values while POR_N is low. -/
def execExtest (cells : List Bool) (s : State) : Host.Outcome State Fault Refusal :=
  if s.porN then .next (tapBypass 0x00 s)
  else .next (modTap (fun t => { t with ir := 0x00, boundary := cells, extestBalls := cells }) s)

/-- SAMPLE_PRELOAD: the boundary register takes the cells. -/
def execSamplePreload (cells : List Bool) (s : State) : Host.Outcome State Fault Refusal :=
  .next (modTap (fun t => { t with boundary := cells }) (tapSelect 0x01 s.tap.dr s))

/-- IDCODE: 0x1064_0763. -/
def execIdcode (s : State) : Host.Outcome State Fault Refusal := .next (tapSelect 0x02 (leBytes 4 0x10640763) s)

/-- TAP_CHALLENGE: Capture-DR loads a new challenge; without one the register's content is open (log entry 3). -/
def execTapChallenge (s : State) : Host.Outcome State Fault Refusal :=
  if s.lc.state = 4 ∧ lcKnown s then .next (tapBypass 0x10 s)
  else if tapServed s then
    match newChallenge 3 s with
    | (some b, s) => .next (tapSelect 0x10 b s)
    | (none, s) => let (b, s) := drawBytes 64 s; .next (tapSelect 0x10 b s)
  else let (b, s) := drawBytes 64 s; .next (tapSelect 0x10 b s)

/-- TAP_TOKEN: Update-DR starts the check for the test-port path. -/
def execTapToken (token : List Byte) (s : State) : Host.Outcome State Fault Refusal :=
  if s.lc.state = 4 ∧ lcKnown s then .next (tapBypass 0x11 s)
  else
    let s := tapSelect 0x11 (padTo token 256) s
    if tapServed s then
      let (c, s) := unlockRule 3 (padTo token 256) s
      .next (modTap (fun t => { t with dbgResult := c }) s)
    else .next s

/-- DBG_RESULT: the code of the last check; 0xFF while POR_N is low. -/
def execDbgResult (s : State) : Host.Outcome State Fault Refusal :=
  if s.lc.state = 4 ∧ lcKnown s then .next (tapBypass 0x12 s)
  else .next (tapSelect 0x12 [if s.porN then s.tap.dbgResult else 0xFF] s)

/-- CORE_DEBUG: the path to the control cores, while DBG_STATUS is not 0; its protocol is no part of the interface. -/
def execCoreDebug (s : State) : Host.Outcome State Fault Refusal :=
  if dbgStatus s = 0 then .next (tapBypass 0x20 s) else .next (tapSelect 0x20 [] s)

/-- BYPASS. -/
def execBypass (s : State) : Host.Outcome State Fault Refusal := .next (tapBypass 0xFF s)

end Sys2Proof.Machine
end

