-- ==== Sys2Proof/Machine/Boot.lean ====
section
/-! DEFINITION. Resets and the steps of the power-up sequence up to the verified runtime (R218 to R231, R241 to R248,
R281, R400, R573). -/
namespace Sys2Proof.Machine

/-! ### Resets (R218, R245, R246) -/

/-- Entry into a phase (R229, R431). -/
def enterPhase (p : Phase) (s : State) : State :=
  let s := { s with phase := p }
  journal (match p with | .service | .test => 0x02 | _ => 0x01) 0x0004 false [BitVec.ofNat 8 (phaseCode p)] s

/-- What the board keeps of a flash while the Hualor is in reset: its bytes, its mode, and the work it is at. -/
def flashKept (f : Flash) : Flash :=
  { cells := f.cells, mode := f.mode
    busy := match f.busy with
      | some (.host op) | some (.device op) | some (.late op) => some (.late op)
      | none => none }

def channelKept (c : Channel) : Channel :=
  { flash0 := flashKept c.flash0, flash1 := flashKept c.flash1, csLow := c.csLow, pg := c.pg }

/-- Every part in reset but the Heath domain (R218): OTP, the board's devices and the levels of the balls stay as
they are. -/
def powerReset (s : State) : State :=
  { pending := s.pending, freeCount := s.freeCount, porPin := s.porPin, straps := s.straps
    heath := { s.heath with oscHz := 0 }, lc := { otp := s.lc.otp }
    tap := { ir := s.tap.ir, boundary := s.tap.boundary, extestBalls := s.tap.extestBalls }
    chans := s.chans.map channelKept
    vault := { user := s.vault.user, bootA := s.vault.bootA, bootB := s.vault.bootB,
               bootEnable := s.vault.bootEnable, rpmb := s.vault.rpmb } }

/-- POR_N counts as high: the sequence starts (R220, R573). -/
def powerOn (s : State) : State :=
  let s := { powerReset s with porN := true }
  enterPhase .start (journalReset s)

/-- A DEVICE reset with its RESET_CAUSE code (R228, R244 to R246). -/
def deviceReset (cause : U8) (s : State) : State :=
  let s := journalDrain s
  let attempt := s.phase != .service && 2 ≤ cause.toNat && cause.toNat ≤ 5
  let w := s.wd
  let t := { powerReset s with
    porN := s.porN, now := s.now, subUs := s.subUs, tbUs := s.tbUs, tbEpoch := s.tbEpoch
    refclk := s.refclk, pllLock := s.pllLock, gapPeriods := s.gapPeriods
    journal := s.journal, upsets := s.upsets.filter (fun u => u.mem == 4)
    resetCause := cause, deviceResets := satInc s.deviceResets, coreRestarts := s.coreRestarts
    bootAttempts := if attempt then satInc s.bootAttempts else s.bootAttempts
    wd := { evCause := w.evCause, evMissing := w.evMissing, evDuplicate := w.evDuplicate, evPc0 := w.evPc0,
            evPc1 := w.evPc1, evLastUs := w.evLastUs, evLastEpoch := w.evLastEpoch, evTime := w.evTime, bites := w.bites }
    lc := { otp := s.lc.otp, dbgToken := s.lc.dbgToken, dbgMaker := s.lc.dbgMaker, dbgEver := s.lc.dbgEver } }
  enterPhase .start (journalReset t)

/-- POR_N_RISE: the straps are sampled at this rise; without main power nothing starts (R219, R220, R573). -/
def execPorNRise (straps : BitVec 4) (s : State) : Host.Outcome State Fault Refusal :=
  if s.porPin then .next s
  else
    let s := { s with porPin := true, straps := straps }
    .next (if s.heath.mainPower then powerOn s else s)

/-- POR_N_FALL (R218). -/
def execPorNFall (s : State) : Host.Outcome State Fault Refusal :=
  let s := { s with porPin := false }
  .next (if s.porN then powerReset s else s)

/-- MAIN_POWER_LOSS: the Heath domain draws from VBAT; POR_N counts as low (R437, R573). -/
def execMainPowerLoss (s : State) : Host.Outcome State Fault Refusal :=
  if s.heath.mainPower then
    let s := modHeath (fun h => { h with mainPower := false }) s
    .next (if s.porN then powerReset s else s)
  else .next s

/-- MAIN_POWER_RETURN: a Heath domain that had lost its power starts from nothing; with POR_N high the sequence starts
(R437, R438, R573). -/
def execMainPowerReturn (s : State) : Host.Outcome State Fault Refusal :=
  if s.heath.mainPower then .next s
  else
    let s := if s.heath.powered then modHeath (fun h => { h with mainPower := true }) s else heathFromNothing true s
    .next (if s.porPin then powerOn s else s)

def deviceResetRule (s : State) : U8 × State := (eOk, { s with deviceResetDue := some (s.deviceResetDue.getD 6) })

/-- DEVICE_RESET: the reset takes place 1 ms after the OK (R247). -/
def execDeviceReset (p : Port) (s : State) : Host.Outcome State Fault Refusal := execOp p 0x1101 8 1 deviceResetRule s

/-- DEVICE_RESET_TAKES_EFFECT. -/
def execDeviceResetTakesEffect (s : State) : Host.Outcome State Fault Refusal :=
  match s.deviceResetDue with
  | some c => if s.porN then .next (deviceReset c s) else .next s
  | none => .next s

/-! ### The steps' order (R220) -/

/-- The steps a step starts after. -/
def stepAfter : Nat → List Nat
  | 1 => [] | 2 => [1] | 3 => [2] | 4 => [3] | 5 => [1] | 6 => [3] | 7 => [4, 5, 6] | 8 => [7] | _ => [8]

/-- Step k runs: the cores run, the phase is START, and every step it starts after has completed. All but CLOCK need
REFCLK. -/
def stepRuns (s : State) (k : Nat) : Bool :=
  coresRun s && s.phase == .start && !s.halted && s.deviceResetDue != some 7 && (tget s.steps k).isNone &&
  (stepAfter k).all (fun j => (tget s.steps j).isSome) && (k == 1 || s.refclk)

/-- RECOVERY phase (R229, R231). -/
def toRecovery (byRuntime : Bool) (s : State) : State :=
  finishAll (enterPhase .recovery { s with recoveryByRuntime := byRuntime })

/-! ### CLOCK, HEATH, LIFECYCLE (R221 to R223, R400, R462, R494) -/

/-- CLOCK: a wait that has lasted `waitedMs`, or the lock. -/
def execClock (waitedMs : Nat) (locked : Bool) (s : State) : Host.Outcome State Fault Refusal :=
  if !stepRuns s 1 then .next s
  else if !locked then .next (bootFail 1 eTimeout (min waitedMs 0xFFFF) s)
  else
    let gap : U32 := BitVec.ofNat 32 (min s.gapPeriods (2 ^ 32 - 1))
    let s := if s.refclk ∨ s.resetCause = 1 then s
      else journal 0x30 0x0401 true (leBytes 4 gap.toNat) { s with refclkLastGap := gap }
    let s := stepDone 1 { s with refclk := true, pllLock := true, gapPeriods := 0 }
    let s := [0, 1, 2].foldl (fun t i => modSource i (fun x => { x with st := 1 }) t) s
    .next (if wdtStart s then wdRecovery s else s)

/-- HEATH. -/
def execHeath (s : State) : Host.Outcome State Fault Refusal :=
  if stepRuns s 2 then .next (finishAll (stepDone 2 (heathStep s))) else .next s

/-- LIFECYCLE: the vote, and then either the end of the sequence or the management ports and TEST_REQ. -/
def execLifecycle (s : State) : Host.Outcome State Fault Refusal :=
  if !stepRuns s 3 then .next s
  else
    let (v, s) := lcDecide s
    let s := modLc (fun l => { l with vote := v }) s
    if s.lc.state = 4 then .next (finishAll { s with halted := true, mgmtUp := false })
    else
      let test := s.straps.getLsbD 0
      let s := { stepDone 3 s with mgmtUp := true, testHonoured := test && lcMakerOrReturned s }
      let s := if test ∧ !s.testHonoured then notice 0x01 true 0x1101 2 s.straps.toNat 0 s else s
      .next (entropyStep (kickInstantiate s))

/-! ### KAT (R224, R345, R392, R407) -/

/-- How many attempts of a test failed on a unit. -/
def katFails (run : List KatFail) (id unit : Nat) : Nat :=
  match run.find? (fun r => r.id.val == id && r.unit.val == unit) with
  | some r => r.fails.val
  | none => 0

/-- The units a test runs on. -/
def katUnits (id : Nat) : List Nat := if id = 1 then List.range 6 else if id = 0xA then List.range 8 else [0]

/-- KAT_RESULT (R550): 0 passed, 1 passed on a retry, 2 failed for good. -/
def katResult (run : List KatFail) (id : Nat) : Nat :=
  (katUnits id).foldl (fun a u => max a (let n := katFails run id u; if n = 0 then 0 else if n < 4 then 1 else 2)) 0

/-- What a permanent failure does besides BOOT_RESULT and the phase. -/
def katConsequence (run : List KatFail) (id : Nat) (s : State) : State :=
  let bad := (katUnits id).filter (fun u => katFails run id u == 4)
  match id with
  | 1 => bad.foldl (fun t c => retirePipeline (chanOf c) 1 t) s
  | 2 => retireFallow 1 s
  | 3 | 4 => if s.digestHealth.retired then s else retireDigest 1 s
  | 5 => retireCipher 1 s
  | 6 => retirePke 1 s
  | 8 => journalDrbg 3 3 (modRandom (fun r => { r with st := 3 }) (drbgZero s))
  | 0xA => bad.foldl (fun t u => retireCu (unit8 u) 1 t) s
  | _ => s

/-- One test, with its retries. -/
def katTest (run : List KatFail) (s : State) (id : Nat) : State :=
  let r := katResult run id
  let s := { s with katResults := s.katResults.set (id - 1) (BitVec.ofNat 8 r) }
  if r < 2 then s
  else
    let pipes := if id = 1 then ((List.range 6).filter (fun c => katFails run 1 c == 4)).foldl (fun a c => a + 2 ^ c) 0 else 0
    katConsequence run id (bootFail 4 eIntegrity (id + pipes * 256) s)

/-- KAT. -/
def execKat (run : List KatFail) (s : State) : Host.Outcome State Fault Refusal :=
  if !stepRuns s 4 then .next s
  else
    let s := [1, 2, 3, 4, 5, 6, 7, 8, 9, 10].foldl (katTest run) s
    if [3, 4, 5, 6, 7, 9].any (fun id => katResult run id == 2) then .next (toRecovery false s)
    else .next (finishAll (entropyStep (stepDone 4 s)))

/-! ### ENTROPY (R225, R400, R408) -/

/-- A source's start-up windows, one after another until it passes or is retired; what is left of the list. -/
def startupRun (i : Nat) : List Window → State → List Window × State
  | [], s => ([], s)
  | w :: ws, s => if (sourceAt s i).st = 1 then startupRun i ws (startupEnd i w s) else (w :: ws, s)

/-- Ling's and Sedge's windows fall together, Ling's first; Fescue's come later (R400). -/
def startupPair : List Window → List Window → State → (List Window × List Window) × State
  | l :: ls, b :: bs, s =>
    if (sourceAt s 0).st = 1 ∧ (sourceAt s 1).st = 1 then startupPair ls bs (startupEnd 1 b (startupEnd 0 l s))
    else
      let (x, s) := startupRun 0 (l :: ls) s
      let (y, s) := startupRun 1 (b :: bs) s
      ((x, y), s)
  | ls, bs, s =>
    let (x, s) := startupRun 0 ls s
    let (y, s) := startupRun 1 bs s
    ((x, y), s)

/-- ENTROPY: each list holds a source's successive windows: its start-up windows, and then the ACTIVE source's first. -/
def execEntropy (ling sedge fescue : List Window) (s : State) : Host.Outcome State Fault Refusal :=
  if !(coresRun s && s.phase == .start && !s.halted && s.refclk && (tget s.steps 1).isSome && (tget s.steps 5).isNone)
  then .next s
  else
    let ((x, y), s) := startupPair ling sedge s
    let (z, s) := startupRun 2 fescue s
    let next := match activeSource s with
      | some 0 => x.head?
      | some 1 => y.head?
      | some _ => z.head?
      | none => none
    let i := (activeSource s).getD 0
    let s := match next with
      | some w => match windowFails i w with
        | none => assignWindow (windowBytes w) (modSource i (fun y => { y with passed := satInc y.passed }) s)
        | some t => sourceAlarm i (t == 2) s
      | none => s
    .next (entropyStep (kickInstantiate s))

/-! ### VAULT (R226, R242, R249 to R252) -/

/-- How the bring-up ends. -/
inductive BringUp
  | up (hs200 hs400 : Bool)
  /-- a feature is missing (R250) -/
  | lacks
  /-- three attempts failed; the index of the last failing command -/
  | failed (index : Nat)
  /-- more attempts follow -/
  | unfinished

/-- The attempts in order; `n` have failed so far. Each runs the initialisation timeout 0x6. -/
def bringUp : Nat → List VaultTry → State → BringUp × State
  | _, [], s => (.unfinished, s)
  | _, .up a b :: _, s => (.up a b, timeoutArrived 6 s)
  | _, .lacksFeature :: _, s => (.lacks, timeoutArrived 6 s)
  | n, .initTimeout :: r, s =>
    let s := timeoutExpired 6 s
    if n = 2 then (.failed 1, s) else bringUp (n + 1) r s
  | n, .cmdFails i :: r, s =>
    let s := timeoutArrived 6 s
    if n = 2 then (.failed i.toNat, s) else bringUp (n + 1) r s

/-- VAULT. -/
def execVault (tries : List VaultTry) (info : EmmcInfo) (s : State) : Host.Outcome State Fault Refusal :=
  if !stepRuns s 6 then .next s
  else
    let dead := fun (code : U8) (detail : Nat) (s : State) =>
      toRecovery false (bootFail 6 code detail (modVault (fun v => { v with eff := 3 }) s))
    match bringUp 0 tries s with
    | (.up a b, s) => .next (stepDone 6 (modVault (fun v => { v with eff := 0 }) (vaultUp 0x01 a b info s)))
    | (.lacks, s) => .next (dead eRefused 0 s)
    | (.failed i, s) => .next (dead eTimeout i s)
    | (.unfinished, _) => .next s

/-! ### RUNTIME (R227, R228, R364, R424) -/

/-- The verdict on a copy: the DETAIL code and the error code of its rejection. -/
def copyVerdict (s : State) (c : Nat) (readErr : Bool) : Option (Nat × U8) :=
  if readErr then some (1, eIntegrity) else rtReject s (bootCopy s c)

/-- A copy is accepted: what it is, and its digest RTD (R227, R363). -/
def acceptCopy (c : Nat) (s : State) : State :=
  let s := { s with rtCopy := BitVec.ofNat 8 c }
  { s with
    rtBuild := BitVec.ofNat 40 (rtBuildOf (bootCopy s c)), rtSvn := BitVec.ofNat 8 (rtSvnOf (bootCopy s c))
    rtDigest := sha384 (rtBytes s) }

/-- The first copy is tried, then the other (R227): whether one is accepted, and the failure where none is. -/
def selectCopy (first : Nat) (errA errB : Bool) (s : State) : Except (U8 × Nat) State :=
  let err := fun c => if c = 0 then errA else errB
  let other := 1 - first
  match copyVerdict s first (err first) with
  | none => .ok (acceptCopy first s)
  | some (d1, _) =>
    let s := modUpd (fun u => { u with rtTried := insertNat first u.rtTried }) s
    match copyVerdict s other (err other) with
    | none => .ok (notice 0x01 true 0x1101 5 other 0 (acceptCopy other s))
    | some (d2, c2) => .error (c2, d1 * 16 ^ first + d2 * 16 ^ other)

/-- RUNTIME. -/
def execRuntime (readErrA readErrB : Bool) (s : State) : Host.Outcome State Fault Refusal :=
  if !stepRuns s 7 then .next s
  else if 6 ≤ s.bootAttempts.toNat then .next (toRecovery true (bootFail 7 eTimeout 0 s))
  else
    let named := if s.vault.bootEnable = 2 then 1 else 0
    let first := if 3 ≤ s.bootAttempts.toNat then 1 - named else named
    match selectCopy first readErrA readErrB s with
    | .error (code, detail) => .next (toRecovery true (bootFail 7 code detail s))
    | .ok s =>
      let s := modKeys (fun k => { k with romRuns := false }) (dssLoad s)
      let s := markBlocks (ruleBlocks ++ rootBlocks) (stepDone 7 s)
      .next (if s.testHonoured then enterPhase .test s else s)

/-! ### RT_IMAGE and RT_INSTALL (R231) -/

def rtImageRule (off : Nat) (data : List Byte) (s : State) : U8 × State :=
  if s.phase ≠ .recovery then (eState, s)
  else if 0x200000 + 0x40 + 2048 < off + data.length then (eRange, s)
  else (eOk, { s with rtImage := if off = 0 then data else patch s.rtImage off data })

/-- RT_IMAGE_WRITE: a write at offset 0 begins a new image. -/
def execRtImageWrite (p : Port) (offset : U40) (data : List Byte) (s : State) : Host.Outcome State Fault Refusal :=
  blockOp p 0x1103 0 data.length (rtImageRule offset.toNat data) s

def rtInstallRule (s : State) : U8 × State :=
  let (code, s) : U8 × State :=
    if s.phase ≠ .recovery ∨ !s.recoveryByRuntime then (eState, s)
    else match rtReject s s.rtImage with
      | some (_, c) => (c, s)
      | none => (eOk, modVault (fun v => { v with bootA := s.rtImage, bootB := s.rtImage, bootEnable := 1 }) s)
  (code, { s with rtInstallResult := code })

/-- RT_INSTALL. -/
def execRtInstall (p : Port) (s : State) : Host.Outcome State Fault Refusal := execOp p 0x1103 1 1 rtInstallRule s

end Sys2Proof.Machine
end

