-- ==== Sys2Proof/Machine/Policy.lean ====
section
/-! DEFINITION. DISCOVERY, POLICY and the restart of the control cores (R232 to R235, R245, R258, R281, R283, R316, R591). -/
namespace Sys2Proof.Machine

/-! ### DISCOVERY (R232, R281) -/

/-- The lines a SCRATCH record keeps, by number within its block. -/
def scratchKeep (h : List Byte) : List Nat := (List.range 256).filter (fun i => bit (fieldAt h 0x20 32) i)

/-- The accepted SCRATCH record of a channel's slot for a chip select: its block and its record header. -/
def scratchFor (s : State) (c : Chan) (m : Cs) : Option (EraseBlock × List Byte × Nat) :=
  match scratchSector s c with
  | none => none
  | some k =>
    let h := userRead s k 64
    if recType h = 7 ∧ (recCheck s k).isNone ∧ byteAt h 0x14 = spaceOf c m then
      some (⟨m, fieldAt h 0x18 4, byteAt h 0x15⟩, h, k)
    else none

/-- An occupied slot is applied: the block is erased, the KEEP lines are programmed from the body, the slot is zeroed. A
failure keeps the slot; what the block then holds is free (R281, log entry 3). -/
def applyScratch (c : Chan) (m : Cs) (fails : Bool) (s : State) : State :=
  match scratchFor s c m with
  | none => s
  | some (b, h, k) =>
    if capacityOf (chanAt s c) m = 0 then s
    else if fails then
      let (f, s) := abortOp (.erase b.addr b.log2) (flashOf (chanAt s c) m) s
      let s := modFlash c m (fun _ => f) s
      retirePort c 3 1 0 (notice 0x02 true (0x3004 + 0x100 * c.val) 1 (bootFault (chanAt s c)) k s)
    else
      let body := recBody s k
      let cells := (scratchKeep h).flatMap (fun i =>
        (List.range 256).map (fun j => (b.addr + 256 * i + j, body.getD (256 * i + j) 0)))
      clearScratch c (modFlash c m (fun f => flashApply (.program cells) (flashApply (.erase b.addr b.log2) f)) s)

/-- One channel at DISCOVERY. -/
def bootDiscover (found : List Found) (fails : List Chan) (c : Chan) (s : State) : State :=
  let at_ := fun k => found.getD (2 * c.val + k) .empty
  let s := discoverChan c (at_ 0) (at_ 1) s
  applyScratch c 1 (fails.contains c) (applyScratch c 0 (fails.contains c) s)

/-- DISCOVERY: `found` holds the twelve chip selects' answers, 2n + m; `scratchFails` the channels whose slot cannot be
applied. -/
def execDiscovery (found : List Found) (scratchFails : List Chan) (s : State) : Host.Outcome State Fault Refusal :=
  if !stepRuns s 8 then .next s
  else
    let s := allChans (bootDiscover found scratchFails) (scanInto 6 s)
    let bad := (List.range 6).foldl (fun a c =>
      let x := chanAt s (chanOf c)
      a + (b2n x.discFault0 + 2 * b2n x.discFault1) * 4 ^ c) 0
    .next (stepDone 8 (if bad = 0 then s else bootFail 8 eRefused bad s))

/-! ### POLICY step 1: configuration set and counters (R233, R258, R457) -/

/-- The values of an accepted copy of the counter block, with its SEQUENCE. Its MAC passes unless the RPMB is foreign,
and is not checked in the degraded state (R292). -/
def counterCopy (s : State) (unit : Nat) : Option (Nat × List Nat) :=
  let b := rpmbRead s unit 512
  let seq := fieldAt b 0 4
  if s.vault.foreign ∨ (s.vault.rpmb.key.isEmpty ∧ !s.vault.degraded) ∨
     fieldAt b 504 8 ≠ crc64At (0xFC00000000 + unit) seq (b.take 504) then none
  else some (seq, (List.range 62).map (fun k => fieldAt b (8 + 8 * k) 5))

/-- The counters: the larger value of each in the accepted copies. -/
def readCounters (s : State) : State :=
  let put := fun (seq : Nat) (vs : List Nat) => modVault (fun v => { v with
    counters := some vs, counterSeq := BitVec.ofNat 32 seq }) s
  match counterCopy s 1, counterCopy s 3 with
  | some (p, a), some (q, b) => put (max p q) (List.zipWith max a b)
  | some (p, a), none => put p a
  | none, some (q, b) => put q b
  | none, none => modVault (fun v => { v with counters := none }) s

/-- The newest accepted set among candidates in descending SEQUENCE; each rejected one is recorded (R234, R261). -/
def pickConfig : List (Nat × (Nat × Nat × Nat)) → State → Option Nat × State
  | [], s => (none, s)
  | r :: rest, s => match recCheck s r.1 with
    | none => (some r.1, s)
    | some code => pickConfig rest (recReject r.1 code s)

/-- The set's objects and rules come into force. The monitors' objects only where FRESH was set at HEATH. -/
def loadConfig (body : List Byte) (s : State) : State :=
  let d := cfgData body 1
  let s := (cfgObjects d.length d).foldl (fun t x =>
    if 0x9010 ≤ x.1 ∧ x.1 ≤ 0x9019 ∧ !s.freshAtHeath then t else cfgPut x.1 x.2.1 x.2.2 t) s
  let s := modHr (fun h => { h with table := (cfgRules (cfgData body 2)).foldl (fun t x => tput t x.1 x.2) [] }) s
  [(0 : MPort), 1].foldl (fun t p => modMport p (fun m =>
    { m with smbAddr := BitVec.ofNat 8 (cfgNat t (0x2000 + p.val) 2) }) t) s

/-! ### POLICY step 2: the stile record (R316) -/

/-- The manifest of a SEQUENCE, read from the staging partition. -/
def manifestOf (s : State) (seq : Nat) : List Byte :=
  match (scanPart s 4).find? (fun r => r.2.1 == 3 && r.2.2.1 == seq && (recCheck s r.1).isNone) with
  | some r => recBody s r.1
  | none => []

/-- A write to the RPMB that POLICY is about to make fails: all its retries have failed, which retires the vault (R251). -/
def policyWrite (e : WriteEnd) (s : State) : State :=
  if e = .failed ∧ rpmbWritable s ∧ rpmbReady s then retireVault 1 s else s

/-- A record that the table calls for: written, or volatile with a retained entry. -/
def policyRecord (e : WriteEnd) (kind : Nat) (record : Nat → List Byte) (s : State) : State :=
  let s := policyWrite e s
  let slot := nextStileSlot s
  let r := record slot
  let put := fun (r : List Byte) (s : State) => modUpd (fun u => { u with stile := r }) (setVector (stileVector r) s)
  if rpmbWritable s && rpmbReady s then
    journal 0x20 0x0601 true (leBytes 1 kind ++ leBytes 4 (stileSeq r) ++ [0]) (put r (rpmbWrite (stileUnit slot) r s))
  else
    journal 0x20 0x0601 true (leBytes 1 kind ++ leBytes 4 (stileSeq s.update.stile) ++ [1]) (setVector (stileVector r) s)

/-- REVERT within POLICY: only its stile write. -/
def policyRevert (e : WriteEnd) (s : State) : State :=
  let a : Activation := { stage := .stile, kind := 5, draft := revertDraft s }
  setLast 6 eOk 0 (policyRecord e 5 (actRecord s a []) s)

/-- The activation that a runtime self-update left goes on at its preload step (R318). -/
def resumeActivation (m : List Byte) (s : State) : State :=
  let hit := affectedBy m
  let seeds := ((mfParts m).filter (fun p => p.kind == 2)).map (·.target)
  holdAffected hit (modUpd (fun u => { u with
    state := 5, manifest := m, manifestSeq := BitVec.ofNat 32 (stileManifestSeq u.stile), manifestDigest := sha384 m
    affected := hit, targetBits := mfBits m
    act := some { stage := .preload, kind := 2, bits := mfBits m, seedTrees := seeds } }) s)

/-- What the newest record asks for; the last part is RT_TARGET of the record in force. -/
def policyStile (e : WriteEnd) (s : State) : Nat × State :=
  match newestStile s with
  | none => (0xFF, setVector 0 s)
  | some (_, r) =>
    let s := setVector (stileVector r) (modUpd (fun u => { u with stile := r }) s)
    let m := manifestOf s (stileManifestSeq r)
    let kind := stileKind r
    if kind = 1 ∨ kind = 4 then
      let due := match s.vault.counters with
        | some vs => (stileCounters r).any (fun c => vs.getD c.1 0 < c.2)
        | none => false
      let s := if due then policyWrite e s else s
      (stileRtTarget r, registerTargets m (raiseOtp m (raiseCounters (stileCounters r) s)))
    else if kind = 3 ∧ s.resetCause = 7 ∧ s.rtCopy.toNat = stileRtTarget r then
      let s := registerTargets m s
      let s := policyRecord e 2 (fun slot =>
        stileRecord 2 0 (stileSeq r + 1) (stileTrialMs r) (stileVector r) (stilePrev r) (stileMid r) slot) s
      (stileRtTarget r, resumeActivation m s)
    else if kind = 2 ∨ kind = 3 then (stileRtPrev r, policyRevert e s)
    else (stileRtTarget r, s)

/-- The runtime in force is compared with RT_TARGET: a DEVICE reset to the copy that was not tried, or an entry. -/
def policyRuntime (target : Nat) (s : State) : State :=
  if target = 0xFF ∨ target = s.rtCopy.toNat then s
  else if s.update.rtTried.contains target then notice 0x02 true 0x1101 5 s.rtCopy.toNat target s
  else { modVault (fun v => { v with bootEnable := target + 1 }) s with deviceResetDue := some 7 }

/-! ### POLICY steps 4 to 6 (R203, R234, R236) -/

/-- A recorded retirement is made again, with RULE 0x4. -/
def reapply (s : State) (x : Nat × Nat) : State :=
  let c := chanOf x.2
  let mark := fun (s : State) => modChan c (fun ch => { ch with retireReapplied := true }) s
  if 1 ≤ x.1 ∧ x.1 ≤ 3 ∧ 5 < x.2 then s
  else match x.1 with
    | 1 => mark (retirePipeline c 4 s)
    | 2 => mark (retirePort c 2 4 0 s)
    | 3 => mark (retirePort c 3 4 0 s)
    | 4 => retireFallow 4 s
    | 5 => journalRetire 0x17 0x05 x.2 0x0400 (modHay (fun h => { h with retiredCtx := insertNat x.2 h.retiredCtx }) s)
    | 6 => journalRetire 0x17 0x06 x.2 0x0400 (modHay (fun h => { h with retiredWay := insertNat x.2 h.retiredWay }) s)
    | _ => s

/-- The index is compiled, channel by channel (R234). -/
def policyCompile (s : State) : State :=
  let pass := passingChannels s
  let rules := rulesOf s.hedgerow.table pass
  let fault := fun (p : Nat → Bool) (s : State) =>
    allChans (fun c t => if p c.val then modChan c (fun x => { x with compileFault := true }) t else t) s
  match jointCheck s rules with
  | some f => bootFail 9 eClaim f.resource (fault (fun _ => true) (setIndex s.hedgerow.table [] s))
  | none =>
    let s := setIndex s.hedgerow.table rules s
    let bad := (List.range 6).filter (fun c => !pass.contains c)
    if bad.isEmpty then s else bootFail 9 eRange (bad.foldl (fun a c => a + 2 ^ c) 0) (fault bad.contains s)

/-- REQ_STATE follows BOOT_STATE of the plan. -/
def bootRequests (s : State) : State :=
  allChans (fun c t =>
    let b := planBootState (planOf t c)
    modChan c (fun x => { x with reqState := if b = 0 then 0 else if b = 2 then 3 else 1 }) t) s

/-- The newest set on the medium equals the configuration in force (R271). -/
def savedNow (s : State) : State :=
  let same := match newestConfig s with
    | some k => [1, 2, 3, 4].all (fun n => cfgData (recBody s k) n == cfgData (configBody s) n)
    | none => false
  modVault (fun v => { v with configSaved := same }) s

/-- Steps 1 and 2: counters, configuration set, stile record, runtime in force; the set's body, empty without a set. -/
def policyRead (rpmb : WriteEnd) (s : State) : List Byte × State :=
  let s := readCounters (rpmbAttach (scanInto 1 { s with phase := .service }))
  let (set, s) := pickConfig (sortRecs (recsIn s 1)) s
  let body := match set with | some k => recBody s k | none => []
  let s := match set with | some _ => loadConfig body s | none => bootFail 9 eEmpty 0 s
  let (target, s) := policyStile rpmb s
  (body, policyRuntime target s)

/-- Steps 3 to 6, with the set's trees and retirements. -/
def policyRun (body : List Byte) (s : State) : State :=
  let s := (cfgTrees (cfgData body 3)).foldl (fun t x => if t.vault.eff = 3 then t else registerTree x.1 x.2 t) s
  let s := (cfgRetired (cfgData body 4)).foldl reapply s
  let s := savedNow (bootRequests (policyCompile s))
  let s := modVault (fun v => { v with
    protectedCopy := some s.rtCopy.toNat, ops := v.ops ++ [.scan 2, .scan 4, .scan 5], scansLeft := [2, 4, 5] }) s
  finishAll (stepDone 0x0A (stepDone 9 (enterPhase .service { s with bootAttempts := 0 })))

/-- POLICY: `rpmb` is how its writes to the RPMB end. A DEVICE reset to the other runtime copy leaves the step undone. -/
def execPolicy (rpmb : WriteEnd) (s : State) : Host.Outcome State Fault Refusal :=
  if !stepRuns s 9 then .next s
  else
    let (body, s) := policyRead rpmb s
    .next (if s.deviceResetDue = some 7 then { s with phase := .start } else policyRun body s)

/-! ### The restart of the control cores (R245, R283, R591) -/

/-- A flash that a restore left at work has finished before the sequence starts again (log entry 43). -/
def settleFlash (c : Chan) (m : Cs) (s : State) : State :=
  match (flashOf (chanAt s c) m).busy with
  | some (.device op) => modFlash c m (fun f => { flashApply op f with busy := none }) s
  | _ => s

/-- A restore starts again from its first step, with an occupied slot applied first. -/
def restartSeq (c : Chan) (s : State) : State :=
  match (chanAt s c).seq with
  | some q =>
    if restoring (chanAt s c) then
      let s := modChan c (fun ch => { ch with failedOp := none, retries := 0 }) (settleFlash c 1 (settleFlash c 0 s))
      toRestore c q.region q.ordered q.tree (applyScratch c 1 false (applyScratch c 0 false s))
    else s
  | none => s

/-- The runtime takes up its work: an unfinished stile write counts as not made, sequences start again. -/
def restartRuntime (s : State) : State :=
  let s := modUpd (fun u => { u with
    job := none, manifestBuf := [], act := u.act.map (fun a => { a with confirmPort := none }) }) s
  let s := cleanWords 5 0 262144 (endSessions s)
  finishAll (savedNow (allChans restartSeq s))

/-- CORE_RESET: the boot ROM reloads the copy that runs; the runtime follows, or RECOVERY phase. -/
def execCoreReset (readErrA readErrB : Bool) (s : State) : Host.Outcome State Fault Refusal :=
  if !(s.coresDown && s.porN && s.deviceResetDue.isNone && !s.coresHeld && s.refclk && s.vault.eff == 0 && runtimeDone s)
  then .next s
  else
    let s := journalDrain { s with coresDown := false }
    if s.phase = .recovery then .next s
    else match selectCopy s.rtCopy.toNat readErrA readErrB s with
      | .error (code, detail) => .next (toRecovery true (bootFail 7 code detail { endSessions s with rtCopy := 0xFF }))
      | .ok s => .next (restartRuntime (if s.keys.keyState = 1 then deriveAlias s else s))

end Sys2Proof.Machine
end

