-- ==== Sys2Proof/Machine/Measure.lean ====
section
/-! DEFINITION. The measurement blocks (R426, R427). -/
namespace Sys2Proof.Machine

/-- The 25 block indices of R426. -/
def blockIndices : List Nat :=
  List.range' 1 7 ++ (List.range 6).flatMap (fun n => [0x10 + 4 * n, 0x11 + 4 * n, 0x12 + 4 * n])

/-- Value type of a block: bit 7 marks a raw block. -/
def blockType (k : Nat) : Nat :=
  match k with
  | 1 => 0x00 | 2 => 0x01 | 3 => 0x87 | 4 => 0x86 | 5 => 0x82 | 6 => 0x83 | 7 => 0x03
  | k => match k % 4 with | 0 => 0x01 | 1 => 0x82 | _ => 0x03

/-- The digest blocks that a change of configuration makes stale. -/
def digestBlock (k : Nat) : Bool := k == 7 || (0x10 ≤ k && k % 4 != 1)

/-- What a digest block of the configuration measures, now. -/
def blockContent (s : State) (k : Nat) : List Byte :=
  if k = 7 then
    let b := configBody s
    [1, 2, 3].flatMap (fun i => cfgSection i (cfgData b i))
  else
    let rows := s.hedgerow.table.filter (fun x => rChannel x.2 == (k - 0x10) / 4)
    if k % 4 = 0 then
      (rows.filter (fun x => rReadMode x.2 == 1 || rReadMode x.2 == 2)).flatMap (fun x =>
        let tree := rTree x.2 + b2n (rBanked x.2 && bankB s x.2)
        leBytes 2 tree ++ (match tget s.hayloft.trees tree with | some t => padTo t.root 32 | none => zeros 32))
    else rows.flatMap (fun x => leBytes 2 x.1 ++ rowBytes x.2)

/-- The value of a measurement block. -/
def blockValue (s : State) (k : Nat) : List Byte :=
  match k with
  | 1 => padTo Config.bootRomDigest 48
  | 2 => padTo s.rtDigest 48
  | 3 => [s.rtSvn, BitVec.ofNat 8 (rtCounter s)]
  | 4 => leBytes 5 s.rtBuild.toNat
  | 5 =>
    [s.lc.state, BitVec.ofNat 8 (b2n (dbgFlag s)), BitVec.ofNat 8 (custody s), s.keys.keyState,
     BitVec.ofNat 8 (phaseCode s.phase), BitVec.ofNat 8 (b2n s.vault.degraded),
     BitVec.ofNat 8 ((dssSlot s).getD 0xFF), 0]
  | 6 =>
    leBytes 32 s.update.vector.toNat ++ leBytes 4 (stileSeq s.update.stile) ++ leBytes 1 (stileKind s.update.stile) ++
    [s.update.state] ++ leBytes 5 (counterNow s 0)
  | k =>
    if digestBlock k then
      match tget s.spdm.blocks k with
      | some d => d
      | none => sha384 (blockContent s k)
    else
      let c := chanOf ((k - 0x10) / 4)
      let ch := chanAt s c
      leBytes 1 (chStateCode ch.eff) ++ leBytes 1 (holdsByte ch) ++ leBytes 1 (bootFault ch) ++ leBytes 1 (disagreeCh s c) ++
      leBytes 4 ch.counts.mismatch.toNat ++ leBytes 4 ch.counts.stale.toNat ++ leBytes 4 ch.counts.diverged.toNat

/-- A block as SPDM encodes it: index, DMTF specification, size, value type, value size, value. -/
def spdmBlock (s : State) (k : Nat) : List Byte :=
  let v := blockValue s k
  leBytes 1 k ++ [0x01] ++ leBytes 2 (v.length + 3) ++ leBytes 1 (blockType k) ++ leBytes 2 v.length ++ v

/-- MEAS_BLOCK (R427). -/
def measBlockRule (k : Nat) (s : State) : U8 × List Byte :=
  if !blockIndices.contains k then (eRange, [])
  else if s.spdm.pendingBlocks.contains k then (eBusy, [])
  else (eOk, padTo (spdmBlock s k) 55)

/-- MEASUREMENT_RECOMPUTE: a digest block whose recomputation is due gets its new value (R427). -/
def execMeasurementRecompute (block : U8) (s : State) : Host.Outcome State Fault Refusal :=
  if s.spdm.pendingBlocks.contains block.toNat ∧ digestBlock block.toNat ∧ coresRun s then
    .next (modSpdm (fun x => { x with
      pendingBlocks := x.pendingBlocks.filter (· != block.toNat)
      blocks := tput x.blocks block.toNat (sha384 (blockContent s block.toNat)) }) s)
  else .next s

end Sys2Proof.Machine
end

