-- ==== Sys2Proof/Machine/Objects.lean ====
section
/-! DEFINITION. What a read of each object returns: the scalars (the object tables of chapters 02 to 17) and the block
reads of the domains. -/
namespace Sys2Proof.Machine

/-! ### Computed registers -/

/-- CLAIM (R45, R457, R480, R568). -/
def claimOf (s : State) (k : Nat) : Nat :=
  match k with
  | 0x01 => if loopEnabled s 0 then 1 else if gpioNamed s 0 then 2 else 0
  | 0x02 => if loopEnabled s 1 then 1 else if gpioNamed s 1 then 2 else 0
  | 0x20 => b2n (40960 < sealedLines s.hedgerow.index)
  | 0x21 => b2n (s.update.state == 3)
  | 0x22 => b2n (2048 < nodesUsed s.hedgerow)
  | k =>
    if 4 ≤ k ∧ k < 8 then (if s.phase = .test then 3 else if gpioNamed s k then 2 else 0)
    else timerOwner s (unit8 (k - 0x10))

/-- WD_STATE (R475). -/
def wdStateByte (s : State) : Nat :=
  if !s.wd.running then 0
  else (if wdElapsed s < wdClosedEnd s.wd then 1 else 2) + 128 * b2n s.wd.recovery

/-- WD_PHASE_LEFT (R475). -/
def wdPhaseLeft (s : State) : Nat :=
  if !s.wd.running then 0
  else if wdElapsed s < wdClosedEnd s.wd then wdClosedEnd s.wd - wdElapsed s else wdOpenEnd s.wd - wdElapsed s

/-- TRIAL_LEFT_MS (R321). -/
def trialLeft (s : State) : Nat :=
  match s.update.trialStart with
  | some t => s.update.trialMs - (s.now - t) / 25000
  | none => 0

/-- CTX_TAG (R149). -/
def ctxTag (s : State) (k : Nat) : Nat :=
  if s.hayloft.retiredCtx.contains k then 7 * 2 ^ 37
  else match tget s.hayloft.ctxs k with
    | none => 0
    | some x =>
      let st := match x.state with | .filling => 1 | .checking => 2 | .verified => 3 | .pinned => 4 | .poisoned => 5
      st * 2 ^ 37 + x.space * 2 ^ 33 + x.line * 2 ^ 9 + b2n x.pin * 2 ^ 8

/-- An entry of the Heath record (R453). -/
def hrecBytes (e : HRec) : List Byte :=
  [e.monitor, e.responses, e.count, BitVec.ofNat 8 (b2n e.copied + 2 * b2n e.battery)] ++ leBytes 4 e.time.toNat

/-- HEATH_STATUS (R460). -/
def heathStatus (h : Heath) : Nat :=
  b2n h.mainPower * 2 ^ 15 + b2n h.locked * 2 ^ 14 + b2n h.holdLatch * 2 ^ 13 + b2n h.fresh * 2 ^ 12 +
  h.cellState.toNat * 2 ^ 10 + h.condition.toNat

/-- PK_SLOT_INFO (R395). -/
def pkSlotInfo (k : PkPort) : Nat :=
  let x := pkSlot k k.select.toNat
  let c := match x.cls with | .pub => 0 | .ecdh => 1 | .sign => 2 | .withheld => 3
  c * 2 ^ 14 + (if x.cls = .withheld then x.partner * 2 ^ 8 else 0) + x.writes.toNat

def bankStateCode : JobState → Nat
  | .free => 0 | .idle => 1 | .absorbing => 2 | .done => 3 | .poisoned => 4

/-- An ASCII string. -/
def ascii (t : String) : List Byte := t.toList.map (fun c => BitVec.ofNat 8 c.toNat)

/-- Contexts with a property. -/
def ctxCount (s : State) (p : Ctx → Bool) : Nat := (s.hayloft.ctxs.filter (fun k => p k.2)).length

/-- An I40 in two's complement (R2). -/
def i40 (v : Int) : List Byte := leBytes 5 (v % 2 ^ 40).toNat

/-- The table of R537: base and count of each range, by k. -/
def rangeTable : List (Nat × Nat) :=
  [(0x1000, 62), (0x1100, 97), (0x1200, 17), (0x2000, 33), (0x2100, 28), (0x3000, 52), (0x3100, 52), (0x3200, 52),
   (0x3300, 52), (0x3400, 52), (0x3500, 52), (0x3600, 11), (0x4000, 9), (0x4100, 5), (0x5000, 18), (0x5100, 4),
   (0x6000, 32), (0x6100, 29), (0x7000, 23), (0x8000, 40), (0x8100, 132), (0x8200, 64), (0x8300, 19), (0x8400, 16),
   (0x8500, 156), (0x9000, 62), (0xA000, 26), (0xA100, 126), (0xB000, 8), (0xC000, 26), (0xD000, 3), (0xE000, 45)]

/-- The capacities of R549. -/
def capsTable : List Nat :=
  [6, 2, 65536, 2048, 49152, 40960, 4096, 4096, 256, 8192, 8, 4, 64, 8192, 4, 8]

/-! ### The values, chapter by chapter. A value is a number of the entry's size or a byte string. -/

/-- Identity and boot (R248, R547 to R550). -/
def readBoot (i sub : Nat) (s : State) : Nat ⊕ List Byte :=
  match i, sub with
  | 0x1000, 0 => .inr (ascii "Qorsal")
  | 0x1000, 1 => .inr (ascii "Vornex")
  | 0x1000, 2 => .inr (ascii "Hualor")
  | 0x1000, 3 => .inr (ascii "QVH640-FB484")
  | 0x1000, 4 => .inl 0x01
  | 0x1000, _ => .inl 0x10640763
  | 0x1001, 0 => .inl 0x10000
  | 0x1001, 1 => .inl s.rtBuild.toNat
  | 0x1001, 2 => .inl s.rtSvn.toNat
  | 0x1001, _ => .inr s.rtDigest
  | 0x1002, 0 => .inl 1
  | 0x1002, 1 => .inl 1403
  | 0x1002, _ => .inl 32
  | 0x1003, k => let r := rangeTable.getD k (0, 0); .inl (r.1 * 2 ^ 16 + r.2)
  | 0x1004, k => .inl (capsTable.getD k 0)
  | 0x1008, _ => .inl 0x1A3C5
  | 0x1101, 0 => .inl (phaseCode s.phase)
  | 0x1101, 1 => .inl (s.steps.foldl (fun a x => if x.2 = 0 then a else max a x.1) 0)
  | 0x1101, 2 => .inl s.straps.toNat
  | 0x1101, 3 => .inl s.bootResult.toNat
  | 0x1101, 4 => .inl s.resetCause.toNat
  | 0x1101, 5 => .inl s.rtCopy.toNat
  | 0x1101, 6 => .inl s.deviceResets.toNat
  | 0x1101, 7 => .inl s.coreRestarts.toNat
  | 0x1101, _ => .inl s.bootAttempts.toNat
  | 0x1102, k => .inl ((tget s.steps k).getD 0).toNat
  | 0x1103, _ => .inl s.rtInstallResult.toNat
  | 0x1104, k => .inl (s.katResults.getD (k - 1) 0xFF).toNat
  | 0x1110, 0 => .inl s.pacePs.toNat
  | 0x1110, _ => .inl s.paceMaxPs.toNat
  | 0x1120, 0 => .inl (b2n s.refclk)
  | 0x1120, 1 => .inl (b2n s.pllLock)
  | 0x1120, 2 => .inl s.tbUs.toNat
  | 0x1120, 3 => .inl s.tbEpoch.toNat
  | 0x1120, 4 => .inl s.refclkLosses.toNat
  | 0x1120, _ => .inl s.refclkLastGap.toNat
  | 0x1130, z => .inr (i40 (s.tj.getD z 0))
  | 0x1131, z => .inr (i40 (s.tjMax.getD z 0))
  | 0x1132, r => .inl (s.railMv.getD r 0).toNat
  | 0x1133, r => .inl (s.railMin.getD r 0xFFFF).toNat
  | 0x1134, r => .inl (s.railMax.getD r 0).toNat
  | 0x1140, m => .inl (s.secCount.getD m 0).toNat
  | 0x1141, m => .inl (s.dedCount.getD m 0).toNat
  | 0x1142, 0 => .inl s.scrubPasses.toNat
  | 0x1142, _ => .inl s.scrubLast.toNat
  | _, _ => .inl 0

/-- Life cycle, link and journal counters (R436, R512, R532, R536). -/
def readLife (p : Port) (i sub : Nat) (s : State) : Nat ⊕ List Byte :=
  match i, sub with
  | 0x1200, 0 => .inl s.lc.state.toNat
  | 0x1200, _ => .inl s.lc.vote.toNat
  | 0x1201, _ => .inl (dbgStatus s).toNat
  | 0x1202, 0 => .inl (fusesByte s)
  | 0x1202, 1 => .inl s.lc.keySel.toNat
  | 0x1202, 5 => .inl (keyStatus s)
  | 0x1202, _ => .inl (rtCounter s)
  | 0x1203, _ => .inr (uidOf s)
  | 0x2002, 0 => .inl (portNo p).val
  | 0x2002, _ => .inl (match mportOf p with | some m => roleOf s m | none => 0xFF)
  | 0x2003, 0 => .inl 1
  | 0x2003, 1 => .inl 4096
  | 0x2003, _ => .inr (cfgBytes s 0x2003 2)
  | 0x2100, 0 => .inl s.journal.head.toNat
  | 0x2100, 1 => .inl s.journal.retainedCount.toNat
  | 0x2100, 2 => .inl s.journal.retainedOverflow.toNat
  | 0x2100, _ => .inl s.journal.fence.toNat
  | 0x2103, k => .inl ((tget s.journal.drops k).getD 0).toNat
  | i, sub =>
    let m := mportAt s (if i = 0x2000 then 0 else 1)
    match sub with
    | 0 => .inl m.mode.toNat
    | 1 => .inr (cfgBytes s i 1)
    | 2 => .inr (cfgBytes s i 2)
    | 3 => .inl m.da.toNat
    | 4 => .inl m.eid.toNat
    | 5 => .inl (creditsFree m)
    | 6 => .inl m.lastAlive.toNat
    | 7 => .inl m.rxMessages.toNat
    | 8 => .inl m.crcErrors.toNat
    | 9 => .inl m.assemblyDrops.toNat
    | 0xA => .inl m.busyRefusals.toNat
    | 0xB => .inl m.replays.toNat
    | 0xC => .inl m.respExpired.toNat
    | _ => .inl m.lastFence.toNat

/-- A channel block (R94, R131, R182, R214, R248). -/
def readChannel (i sub : Nat) (s : State) : Nat ⊕ List Byte :=
  let c := chanOf (i / 256 - 0x30)
  let x := chanAt s c
  let k := x.counts
  match i % 256, sub with
  | 0x00, 0 => .inl (b2n x.pg)
  | 0x00, 1 => .inl (b2n (holdLevel x))
  | 0x00, 2 => .inr (cfgBytes s i 2)
  | 0x00, 3 => .inl (holdsByte x)
  | 0x00, _ => .inl k.hostResets.toNat
  | 0x01, 0 => .inl x.reqState.toNat
  | 0x01, 1 => .inl (chStateCode x.eff)
  | 0x01, _ => .inl (disagreeCh s c)
  | 0x02, 0 => .inl k.plTransients.toNat
  | 0x02, 1 => .inl k.hpTransients.toNat
  | 0x02, 2 => .inl k.fpTransients.toNat
  | 0x02, 3 => .inl k.fpRetries.toNat
  | 0x02, 4 => .inl x.retireCause.toNat
  | 0x02, _ => .inl x.retireTime.toNat
  | 0x03, _ => .inl x.selftestResult.toNat
  | 0x04, 0 => .inr (cfgBytes s i 0)
  | 0x04, 1 => .inl (bootFault x)
  | 0x04, 2 => .inl x.releaseTime.toNat
  | 0x04, _ => .inl k.releases.toNat
  | 0x10, 0 => .inl (busModeCode x.vf.mode)
  | 0x10, 1 => .inl (vsrByte x)
  | 0x10, n => .inr (cfgBytes s i n)
  | 0x11, n => .inl (x.vf.advDummy.getD n 0).toNat
  | 0x12, 0 => .inl k.unsup.toNat
  | 0x12, 1 => .inl k.deny.toNat
  | 0x12, 2 => .inl k.stage.toNat
  | 0x12, 3 => .inl k.log.toNat
  | 0x12, 4 => .inl k.subst.toNat
  | 0x12, 5 => .inl k.gapAbort.toNat
  | 0x12, _ => .inl k.gapViol.toNat
  | 0x13, 0 => .inl k.twinFault.toNat
  | 0x13, 1 => .inl k.lookupDed.toNat
  | 0x13, _ => .inl k.noRule.toNat
  | 0x14, 0 => .inl k.linesVerified.toNat
  | 0x14, 1 => .inl k.mismatch.toNat
  | 0x14, 2 => .inl k.stale.toNat
  | 0x14, 3 => .inl k.noContext.toNat
  | 0x14, 4 => .inl k.sealedMiss.toNat
  | 0x14, 5 => .inl k.gapFill.toNat
  | 0x14, 6 => .inl (ctxCount s (fun y => y.state == .pinned && y.space / 2 == c.val))
  | 0x14, _ => .inl k.diverged.toNat
  | _, _ => .inr x.lastMismatch

/-- RULE_DATA presents the reading port's staged row (R123). -/
def ruleShown (p : Port) (s : State) : RuleRow :=
  let r := portRegs s p
  (tget r.stagedRules r.ruleSelect.toNat).getD ((tget s.hedgerow.table r.ruleSelect.toNat).getD 0)

/-- Fallow, Hedgerow, Hayloft and registry (R131, R182, R216). -/
def readFlash (p : Port) (i sub : Nat) (s : State) : Nat ⊕ List Byte :=
  let r := portRegs s p
  let f := s.fallow
  match i, sub with
  | 0x3600, 0 => .inr (cfgBytes s i 0)
  | 0x3600, 1 => .inl (match f.serving with | some c => c.val | none => 0xFF)
  | 0x3600, 2 => .inl f.takeoversHot.toNat
  | 0x3600, 3 => .inl f.takeoversCold.toNat
  | 0x3600, 4 => .inl f.shadowDiff.toNat
  | 0x3600, _ => .inl f.transients.toNat
  | 0x3601, 0 => .inl f.reqState.toNat
  | 0x3601, 1 => .inl (fallowEff f)
  | 0x3601, _ => .inl (disagreeFallow f)
  | 0x3602, _ => .inl f.selftestResult.toNat
  -- a CHECK or COMMIT is one command here, so the Hedgerow is IDLE between commands
  | 0x4000, 0 => .inl 0
  | 0x4000, 1 => .inl s.hedgerow.indexGen.toNat
  | 0x4000, 2 => .inl (nodesUsed s.hedgerow)
  | 0x4000, 3 => .inl (2048 - nodesUsed s.hedgerow)
  | 0x4000, 4 => .inl s.hedgerow.table.length
  | 0x4000, 5 => .inl (sealedLines s.hedgerow.table)
  | 0x4000, 6 => .inl r.compileResult.toNat
  | 0x4000, _ => .inl r.nodesNeeded.toNat
  | 0x4100, 0 => .inl r.ruleSelect.toNat
  | 0x4100, 1 => .inr (rowBytes (ruleShown p s))
  | 0x4100, 2 => .inr (rowBytes ((tget s.hedgerow.table r.ruleSelect.toNat).getD 0))
  | 0x4100, _ => .inl r.stagedRules.length
  | 0x5000, 0 => .inl (ctxCount s (·.pin))
  | 0x5000, 1 => .inl (ctxCount s (fun x => !x.pin && x.state == .verified))
  | 0x5000, 2 => .inl (ctxCount s (fun x => x.state == .filling || x.state == .checking))
  | 0x5000, 3 => .inl (ctxCount s (fun x => x.state == .poisoned))
  | 0x5000, 4 => .inl s.hayloft.retiredCtx.length
  | 0x5000, 5 => .inl r.placeResult.toNat
  | 0x5000, 7 => .inl s.hayloft.gleanPasses.toNat
  | 0x5000, _ => .inl s.hayloft.gleanDiverged.toNat
  | 0x5001, 0 => .inl s.hayloft.reqState.toNat
  | 0x5001, 1 => .inl (hayloftEff s)
  | 0x5001, _ => .inl (disagreeHayloft s)
  | 0x5002, 0 => .inl s.hayloft.nodeHits.toNat
  | 0x5002, 1 => .inl s.hayloft.nodeMisses.toNat
  | 0x5002, 2 => .inl s.hayloft.nodeVault.toNat
  | 0x5002, _ => .inl s.hayloft.nodeFails.toNat
  | 0x5003, 0 => .inl r.ctxSelect.toNat
  | 0x5003, _ => .inl (ctxTag s r.ctxSelect.toNat)
  | 0x5100, 0 => .inl r.treeSelect.toNat
  | 0x5100, 1 => .inr (match tget s.hayloft.trees r.treeSelect.toNat with | some t => treeEntryBytes t | none => zeros 64)
  | 0x5100, _ => .inl s.hayloft.trees.length
  | _, _ => .inl 0

/-- Vault, recovery and update (R294, R326). -/
def readVault (p : Port) (i sub : Nat) (s : State) : Nat ⊕ List Byte :=
  let r := portRegs s p
  let v := s.vault
  let u := s.update
  match i, sub with
  | 0x6000, 0 => .inl v.mode.toNat
  | 0x6000, 1 => .inl v.userSectors.toNat
  | 0x6000, 2 => .inr v.cid
  | 0x6000, 3 => .inl (b2n v.degraded)
  | 0x6000, 4 => .inl (b2n v.configSaved)
  | 0x6000, 5 => .inr (cfgBytes s i 5)
  | 0x6000, 7 => .inl v.rpmb.writeCounter.toNat
  | 0x6000, 8 => .inl v.nextSequence.toNat
  | 0x6000, 9 => .inl v.late.toNat
  | 0x6000, 0xA => .inl v.transients.toNat
  | 0x6000, 0xB => .inl v.recRejects.toNat
  | 0x6000, _ => .inl (b2n v.scanDone)
  | 0x6001, 0 => .inl v.reqState.toNat
  | 0x6001, 1 => .inl v.eff.toNat
  | 0x6001, _ => .inl (disagreeVault s)
  | 0x6002, _ => .inl v.selftestResult.toNat
  | 0x6003, k => .inl (partFree s k)
  | 0x6004, 0 => .inl r.arbSelect.toNat
  | 0x6004, _ => .inl (counterNow s r.arbSelect.toNat)
  | 0x6005, 0 => .inl v.stageRecords.toNat
  | 0x6005, _ => .inl v.stageFirstFa.toNat
  | 0x6006, 0 => .inl v.archiveRecords.toNat
  | 0x6006, 1 => .inl v.archiveMissed.toNat
  | 0x6006, _ => .inl v.archiveNewestFa.toNat
  | 0x6100, _ => .inl v.restoreTarget.toNat
  | 0x6101, n => .inl (match (chanAt s (chanOf n)).seq with
      | some q => tierCode q.tier - 1
      | none => if (chanAt s (chanOf n)).class4 then 3 else 0)
  | 0x6102, n => .inl (chanAt s (chanOf n)).seqProgress.toNat
  | 0x6103, n => .inl (chanAt s (chanOf n)).lastSeqResult.toNat
  | 0x6104, 0 => .inl v.flips.toNat
  | 0x6104, 1 => .inl v.restores.toNat
  | 0x6104, _ => .inl v.escalations.toNat
  | 0x6105, n => .inl (b2n (busySafe s (chanOf n) 0) + 2 * b2n (busySafe s (chanOf n) 1))
  | 0x7000, 0 => .inl u.state.toNat
  | 0x7000, 7 => .inl u.lastResult.toNat
  | 0x7000, 8 => .inl (trialLeft s)
  | 0x7000, 9 => .inl u.applyProgress.toNat
  | 0x7000, _ => .inl (b2n (suspended s))
  | 0x7001, _ => .inr u.manifestDigest
  | 0x7002, 0 => .inl r.partSelect.toNat
  | 0x7002, 2 => .inl ((tget u.partData r.partSelect.toNat).getD []).length
  | 0x7002, _ => .inl ((tget u.partState r.partSelect.toNat).getD 0).toNat
  | 0x7010, 0 => .inr (leBytes 32 u.vector.toNat)
  | 0x7010, 1 => .inr (leBytes 32 (stilePrev u.stile).toNat)
  | 0x7010, 2 => .inr (leBytes 32 u.locked.toNat)
  | 0x7010, 3 => .inl (stileSeq u.stile)
  | 0x7010, 4 => .inl (stileKind u.stile)
  | 0x7010, _ => .inl (b2n (u.vector != stileVector u.stile))
  | _, _ => .inl 0

/-- Random numbers and digest engine (R346, R418). -/
def readRandom (p : Port) (i sub : Nat) (s : State) : Nat ⊕ List Byte :=
  let r := s.random
  let k := (portNo p).val
  match i, sub with
  | 0x8000, 0 => .inl (if r.testPattern then 3 else (activeSource s).getD 0xFF)
  | 0x8000, 1 => .inl (b2n (r.ling.st == 4) + 2 * b2n (r.sedge.st == 4) + 4 * b2n (r.fescue.st == 4))
  | 0x8000, 2 => .inl r.switches.toNat
  | 0x8000, 3 => .inl (b2n r.testPattern)
  | 0x8000, _ => .inl r.lfsrSeed.toNat
  | 0x8020, 0 => .inl (r.rawSelect.getD k 1).toNat
  | 0x8020, 1 => .inl (b2n (rawValid s p))
  | 0x8020, _ => .inl (b2n (r.rawPr.getD k false))
  | 0x8030, 0 => .inl r.st.toNat
  | 0x8030, 5 => .inl r.reseedCounter.toNat
  | 0x8030, 6 => .inl r.reseeds.toNat
  | 0x8030, 7 => .inl r.instantiations.toNat
  | 0x8030, 8 => .inl r.lastReseed.toNat
  | 0x8030, 9 => .inl r.wireTimeouts.toNat
  | 0x8030, 0xA => .inl r.late.toNat
  | 0x8030, n => .inr (cfgBytes s i n)
  | 0x8100, 0 => .inl ((s.banks.toList.filter (fun b => b.st == .free)).length)
  | 0x8100, 2 => .inl (portRegs s p).dgGranted.toNat
  | 0x8100, _ => .inl s.dgTransients.toNat
  | i, sub =>
    if i < 0x8100 then
      let x := sourceAt s (i - 0x8010)
      match sub with
      | 0 => .inl x.st.toNat
      | 1 => .inl x.fails.toNat
      | 2 => .inl x.rct.toNat
      | 3 => .inl x.apt.toNat
      | 4 => .inl x.passed.toNat
      | _ => .inl x.lastFail.toNat
    else
      let b := bankAt s (unit8 (i - 0x8110))
      match sub with
      | 0 => .inl (bankStateCode b.st)
      | 1 => .inl (ownerCode b.owner)
      | 2 => .inl b.alg.toNat
      | 3 => .inl b.outLen.toNat
      | 4 => .inl b.declLength.toNat
      | 5 => .inl b.absorbed.toNat
      | 9 => .inr b.digest
      | 0xB => .inr b.blob
      | 0xE => .inl (b2n b.keyed)
      | _ => .inl b.lastCode.toNat

/-- Cipher, key store, PKE and check-value units (R355, R370, R393, R490). -/
def readEngines (p : Port) (i sub : Nat) (s : State) : Nat ⊕ List Byte :=
  let r := portRegs s p
  let q := pkPort s p
  match i, sub with
  | 0x8200, 0 => .inl ((s.cxs.toList.filter (fun c => c.st == .free)).length)
  | 0x8200, 2 => .inl r.cxGranted.toNat
  | 0x8200, _ => .inl s.cxTransients.toNat
  | 0x8300, 0 => .inl r.ksSelect.toNat
  | 0x8300, 1 => .inl (keySlot s r.ksSelect.toNat).attr.toNat
  | 0x8300, 2 => .inl r.ksReqAttr.toNat
  | 0x8300, 5 => .inr r.ksLabel
  | 0x8300, 6 => .inr r.ksContext
  | 0x8300, 9 => .inr r.ksBlob
  | 0x8300, 0xD => .inl s.keys.keyState.toNat
  | 0x8300, 0xE => .inl (custody s)
  | 0x8300, 0xF => .inl ((dssSlot s).getD 0xFF)
  | 0x8300, _ => .inl s.keys.erases.toNat
  | 0x8400, 0 => .inl (if s.pke.health.retired then 2 else b2n s.pke.running.isSome)
  | 0x8400, 1 => .inl (4 - s.pke.queue.length)
  | 0x8400, 2 => .inl s.pke.commands.toNat
  | 0x8400, 3 => .inl s.pke.refusals.toNat
  | 0x8400, 4 => .inl s.pke.gateFails.toNat
  | 0x8400, _ => .inl s.pke.transients.toNat
  | 0x8401, 0 => .inl q.limbs.toNat
  | 0x8401, 1 => .inl (pkSlots s p)
  | 0x8401, 3 => .inl (pkPending s p)
  | 0x8401, 4 => .inl q.result.toNat
  | 0x8401, 5 => .inl q.seq.toNat
  | 0x8401, 7 => .inl q.select.toNat
  | 0x8401, _ => .inl (pkSlotInfo q)
  | 0x8500, 0 => .inl ((([2, 3, 4, 5] : List (Fin 8)).filter (fun u => (cuAt s u).st == 0)).length)
  | 0x8500, 2 => .inl r.cuGranted.toNat
  | 0x8500, _ => .inl s.cuTransients.toNat
  | i, sub =>
    if i < 0x8300 then
      let c := s.cxs.toList.getD (i - 0x8210) {}
      match sub with
      | 0 => .inl (bankStateCode c.st)
      | 1 => .inl (ownerCode c.owner)
      | 2 => .inl c.mode.toNat
      | 3 => .inl c.dir.toNat
      | 4 => .inl c.keySlot.toNat
      | 5 => .inr c.iv
      | 6 => .inl c.aadLength.toNat
      | 7 => .inl c.declLength.toNat
      | 9 => .inr c.tag
      | 0xC => .inl c.input.length
      | 0xD => .inl (cxProduced c)
      | _ => .inl c.lastCode.toNat
    else
      let u := cuAt s (unit8 (i - 0x8510))
      match sub with
      | 0 => .inl u.st.toNat
      | 1 => .inl (ownerCode u.owner)
      | 2 => .inl u.width.toNat
      | 3 => .inr (leBytes 8 u.poly.toNat)
      | 4 => .inr (leBytes 8 u.init.toNat)
      | 5 => .inr (leBytes 8 u.xorout.toNat)
      | 6 => .inl u.flags.toNat
      | 7 => .inl u.alive.toNat
      | 8 => .inl u.addr.toNat
      | 9 => .inl u.seq.toNat
      | 0x10 => .inr (leBytes 8 u.value.toNat)
      | _ => .inl u.fed.toNat

/-- Heath domain, watchdog, timers and timeouts (R459, R475, R483). -/
def readSupervision (i sub : Nat) (s : State) : Nat ⊕ List Byte :=
  let h := s.heath
  let w := s.wd
  match i, sub with
  | 0x9000, 0 => .inl (heathStatus h)
  | 0x9000, 1 => .inl (heathSeconds h).toNat
  | 0x9000, 2 => .inl (h.counter.toNat % 2 ^ 15)
  | 0x9000, 5 => .inl h.vbatMv.toNat
  | 0x9000, _ => .inl h.oscHz.toNat
  | 0x9001, 0 => .inr (padTo (h.hrec.flatMap hrecBytes) 128)
  | 0x9001, 1 => .inl h.hrec.length
  | 0x9001, _ => .inl h.hrecOverflow.toNat
  | 0x9002, _ => .inl h.cellState.toNat
  | 0xA000, 0 => .inl (wdStateByte s)
  | 0xA000, 7 => .inl (b2n (wdtStart s))
  | 0xA000, n => .inr (cfgBytes s i n)
  | 0xA001, 2 => .inl w.keyNext.toNat
  | 0xA001, 3 => .inl w.present.toNat
  | 0xA001, 4 => .inl w.duplicate.toNat
  | 0xA001, 5 => .inl (wdPhaseLeft s)
  | 0xA001, 6 => .inl w.refused.toNat
  | 0xA001, 7 => .inl w.lastUs.toNat
  | 0xA001, _ => .inl w.lastEpoch.toNat
  | 0xA002, 0 => .inl w.evCause.toNat
  | 0xA002, 1 => .inl w.evMissing.toNat
  | 0xA002, 2 => .inl w.evDuplicate.toNat
  | 0xA002, 3 => .inl w.evPc0.toNat
  | 0xA002, 4 => .inl w.evPc1.toNat
  | 0xA002, 5 => .inl w.evLastUs.toNat
  | 0xA002, 6 => .inl w.evLastEpoch.toNat
  | 0xA002, 7 => .inl w.evTime.toNat
  | 0xA002, _ => .inl w.bites.toNat
  | 0xA120, n => .inl (chanAt s (chanOf n)).counts.fpLate.toNat
  | i, sub =>
    if i < 0xA000 then
      let m := h.monitors.getD (i - 0x9010) {}
      match sub with
      | 2 => .inl m.trips.toNat
      | 3 => .inl m.alarms.toNat
      | 4 => .inl m.last.toNat
      | n => .inr (cfgBytes s i n)
    else if i < 0xA108 then
      let t := s.timers[unit8 (i - 0xA100)]
      match sub with
      | 0 => .inr (cfgBytes s i 0)
      | 1 => .inl t.mode.toNat
      | 2 => .inl t.reload.toNat
      | 3 => .inl (timerCount s t)
      | 6 => .inl t.expiries.toNat
      | _ => .inl t.st.toNat
    else
      let o := s.timeouts.toList.getD (i - 0xA110) {}
      match sub with
      | 0 => .inr (cfgBytes s i 0)
      | 1 => .inl o.expired.toNat
      | 2 => .inl o.late.toNat
      | _ => .inl o.last.toNat

/-- Attestation, claims, field access and test (R436, R546, R556, R559). -/
def readTop (p : Port) (i sub : Nat) (s : State) : Nat ⊕ List Byte :=
  let r := portRegs s p
  match i, sub with
  | 0xB000, 0 => .inl s.spdm.sessions.length
  | 0xB000, 1 => .inr s.keys.dikPub
  | 0xB000, 2 => .inr s.keys.aliasPub
  | 0xB000, 3 => .inl s.spdm.signatures.toNat
  | 0xB000, _ => .inl s.spdm.errors.toNat
  | 0xB002, _ => .inl r.measSelect.toNat
  | 0xC001, 1 => .inl r.commitResult.toNat
  | 0xC001, _ => .inl r.staged.length
  | 0xC002, 0 => .inl s.commits.toNat
  | 0xC002, 1 => .inl s.lastCommitPort.toNat
  | 0xC002, _ => .inl s.lastCommitUs.toNat
  | 0xC010, k => .inl (claimOf s k)
  | 0xC020, n => .inr (cfgBytes s i n)
  | 0xD000, 0 => .inl r.faBase.toNat
  | 0xD000, _ => .inl s.faReads.toNat
  | 0xE000, _ => .inl s.logicSig.toNat
  | 0xE002, 0 => .inl r.unitSelect.toNat
  | 0xE002, _ => .inl s.unitResult.toNat
  | i, sub =>
    let m := i - 0xE010
    match sub with
    | 1 => .inl (s.bistResult.getD m 0xFF).toNat
    | 2 => .inl (s.injWord.getD m 0).toNat
    | _ => .inr (s.injMask.getD m (zeros 9))

/-- The value of a readable scalar entry, by range. -/
def readAny (p : Port) (i sub : Nat) (s : State) : Nat ⊕ List Byte :=
  if i < 0x1200 then readBoot i sub s
  else if i < 0x3000 then readLife p i sub s
  else if i < 0x3600 then readChannel i sub s
  else if i < 0x6000 then readFlash p i sub s
  else if i < 0x8000 then readVault p i sub s
  else if i < 0x8200 then readRandom p i sub s
  else if i < 0x9000 then readEngines p i sub s
  else if i < 0xB000 then readSupervision i sub s
  else readTop p i sub s

/-- The bytes of a value, to its entry's size (R524). -/
def sized (n : Nat) : Nat ⊕ List Byte → List Byte
  | .inl v => leBytes n v
  | .inr bs => padTo bs n

/-- A READ of a scalar: the value; three entries have a rule of their own (R415, R427, R503). -/
def readRule (p : Port) (i sub : Nat) (s : State) : U8 × List Byte × State :=
  if i = 0x8020 ∧ sub = 2 then rawWordRule p s
  else if i = 0x1201 ∧ sub = 0 then challengeRule p s
  else if i = 0xB002 ∧ sub = 1 then
    let (c, d) := measBlockRule (portRegs s p).measSelect.toNat s
    (c, d, s)
  else
    match entryAt i sub with
    | some e => (eOk, sized e.size (readAny p i sub s), s)
    | none => (eNoObject, [], s)

/-! ### Block reads (R124, R149, R182, R415, R424, R432, R559) -/

/-- Entries of the journal: one whose word has a double-bit error reads as 32 bytes of 0xFF (R432). -/
def journalBlock (base : Nat) (t : List (Nat × JEntry)) : Nat → Nat → State → U8 × List Byte × State
  | _, 0, s => (eOk, [], s)
  | k, n + 1, s =>
    let (bad, s) := readWords 4 (base + 4 * k) 4 s
    let (c, bs, s) := journalBlock base t (k + 1) n s
    let one := if bad then List.replicate 32 0xFF
      else match tget t k with | some e => entryBytes e | none => zeros 32
    (if bad then eIntegrity else c, one ++ bs, s)

/-- A block of whole items of `w` bytes; anything else is refused. -/
def wholeItems (w off count : Nat) : Bool := off % w == 0 && count % w == 0

/-- OTP_IMAGE (R559). -/
def otpImage (s : State) (a : Nat) : Byte :=
  if 0x230 ≤ a ∧ a < 0x2F0 ∧ (a - 0x230) % 48 < 40 then 0
  else if a < 0x400 then otpByte s a else Config.otpTrim (a - 0x400)

/-- A READ_BLOCK of every domain but FA_WINDOW. -/
def readBlockRule (p : Port) (i sub off count : Nat) (s : State) : U8 × List Byte × State :=
  if i = 0x8020 then rawBlockRule p count s
  else if 0x8210 ≤ i ∧ i < 0x8214 then
    let (c, d, s) := cxReadRule (csNo (i - 0x8210)) off count s
    (c, d, s)
  else if i = 0x8401 then let (c, d) := pkBufRead p off count s; (c, d, s)
  else
    let size := match i with
      | 0xB001 => s.spdm.chain.length
      | _ => match entryAt i sub with | some e => e.size | none => 0
    if i = 0xB001 ∧ s.spdm.chain = [] then (eEmpty, [], s)
    else if size < off + count then (eRange, [], s)
    else match i with
      | 0x2101 =>
        if wholeItems 32 off count then journalBlock 0 s.journal.ring (off / 32) (count / 32) s else (eRange, [], s)
      | 0x2102 =>
        if wholeItems 32 off count then journalBlock 24576 s.journal.kept (off / 32) (count / 32) s else (eRange, [], s)
      | 0x4101 =>
        if wholeItems 16 off count then
          (eOk, (List.range (count / 16)).flatMap (fun k =>
            rowBytes ((tget s.hedgerow.table (off / 16 + k)).getD 0)), s)
        else (eRange, [], s)
      | 0x5101 =>
        if wholeItems 64 off count then
          (eOk, (List.range (count / 64)).flatMap (fun k =>
            match tget s.hayloft.trees (off / 64 + k) with | some t => treeEntryBytes t | none => zeros 64), s)
        else (eRange, [], s)
      | 0xB001 => (eOk, slice s.spdm.chain off count, s)
      | _ => (eOk, (List.range count).map (fun k => otpImage s (off + k)), s)
where
  /-- The cipher context of a number below 4. -/
  csNo (n : Nat) : Fin 4 := if h : n < 4 then ⟨n, h⟩ else 0

end Sys2Proof.Machine
end

