-- ==== Sys2Proof/Machine/FieldTest.lean ====
section
/-! DEFINITION. Field access (R28, R29, R556 to R558), the test range (R559, R560), RETAINED_CLEAR (R433) and FENCE
(R434, R534). -/
namespace Sys2Proof.Machine

/-! ### Field access -/

/-- Space and offset of a field address (R28). -/
def faSpace (a : U40) : Nat := a.toNat / 2 ^ 35
def faOffset (a : U40) : Nat := a.toNat % 2 ^ 35

/-- The address check of R28 and R29 over the whole range read. -/
def faAddress (s : State) (p : Port) (off count : Nat) : U8 :=
  let a := (portRegs s p).faBase
  let sp := faSpace a
  let o := faOffset a
  let inside := fun (b : Bool) => if b then eOk else eRange
  if sp < 0x0C then
    inside (o < 2 ^ 32 && o + off + count ≤ capacityOf (chanAt s (spaceChan sp)) (spaceCs sp))
  else if sp = 0x10 then inside (o < 2 ^ 29 && o * 512 + off + count ≤ s.vault.userSectors.toNat * 512)
  else if sp = 0x18 then
    if !(o < 2 ^ 24 && o + off + count ≤ 0xC00000) then eRange
    else if lcMakerOrReturned s then eOk else eAccess
  else if sp = 0x1F then (if p = .l then inside (o + off + count ≤ 2 ^ 35) else eAccess)
  else eRange

/-- The rights of the space (R557). -/
def faRights (s : State) (p : Port) : Bool :=
  let sp := faSpace (portRegs s p).faBase
  match mportOf p with
  | none => true
  | some m =>
    let role := roleOf s m
    if sp < 0x0C then role ≤ 1 || (role == 2 && cfgNat s 0xC020 m.val == sp / 2)
    else if sp = 0x10 then role ≤ 1
    else role == 0 && lcMakerOrReturned s

/-- A byte of a context as the diagnostic window gives it: a held beat's byte, or zero after a BIST; what an empty
beat holds is not stated (`free`, log entry 3). -/
def ctxByte (s : State) (free : Byte) (a : Nat) : Byte :=
  match tget s.hayloft.ctxs (a / 256) with
  | some x => if x.present.getLsbD (a % 256 / 8) then x.data.getD (a % 256) 0 else free
  | none => if s.hayloft.wiped then 0 else free

/-- The stored beats that a range of the window covers are read; a double-bit error takes its line (R36, R149). -/
def windowBeats : Nat → Nat → State → Bool × State
  | _, 0, s => (false, s)
  | w, n + 1, s =>
    let (r, s) := readWord 0 w s
    let (bad, s) := windowBeats (w + 1) n (if r = .double then storedDouble 0 w s else s)
    (r == .double || bad, s)

/-- The vault's beats cross the data fabric, where an injected error is met (R36, R560). -/
def dataFabric (s : State) : Bool × State :=
  let (r, s) := readWord 6 0 s
  (r == .double, if r = .double then cleanWords 6 0 1 s else s)

/-- A read that answers at once counts when it is OK (R556). -/
def faCount (r : U8 × List Byte × State) : Option (U8 × List Byte) × State :=
  (some (r.1, r.2.1), if r.1 = eOk then { r.2.2 with faReads := satInc r.2.2.faReads } else r.2.2)

/-- A READ_BLOCK of FA_WINDOW from check 10 on; no answer yet while a channel's flash is read (R557, R558). -/
def faReadRule (p : Port) (off count : Nat) (s : State) : Option (U8 × List Byte) × State :=
  let a := (portRegs s p).faBase
  let sp := faSpace a
  let o := faOffset a
  let c := faAddress s p off count
  if c ≠ eOk then (some (c, []), s)
  else if !faRights s p then (some (eAccess, []), s)
  else if 2 ^ 32 < off + count then (some (eRange, []), s)
  else if sp < 0x0C then
    let ch := spaceChan sp
    let e := (chanAt s ch).eff
    if e = .off ∨ e = .retired then (some (eState, []), s)
    else (none, kickField p (modPort p (fun r => { r with faWait := some (ch, spaceCs sp, o + off, count) }) s))
  else if sp = 0x10 then
    if !vaultOnline s ∨ s.keys.keyState = 2 then (some (eNotReady, []), s)
    else
      let (lost, s) := dataFabric s
      faCount (if lost then eIntegrity else eOk, if lost then [] else Mem.readN 0 s.vault.user (o * 512 + off) count, s)
  else if sp = 0x18 then
    let (free, s) := drawBytes count s
    let bytes := (List.range count).map (fun k => ctxByte s (free.getD k 0) (o + off + k))
    let (bad, s) := windowBeats ((o + off) / 8) ((o + off + count - 1) / 8 + 1 - (o + off) / 8) s
    faCount (if bad then eIntegrity else eOk, if bad then [] else bytes, s)
  else faCount (eOk, (List.range count).map (fun k => Config.internalByte (o + off + k)), s)

/-- A block read up to the object's own rule: COUNT is from 1 to 4,094 (R524, R525). -/
def blockRequest (p : Port) (i sub count : Nat) (s : State) : U8 × State :=
  let (c, s') := request p .readBlock i sub 0 s
  (if c ≠ eIntegrity ∧ (count = 0 ∨ 4094 < count) then eRange else c, s')

/-- FA_WINDOW_READ: a port reads one window at a time (R529). -/
def execFaWindowRead (p : Port) (offset : U40) (count : U16) (s : State) : Host.Outcome State Fault Refusal :=
  if !servable s p then .next s
  else
    let (c, s) := blockRequest p 0xD000 1 count.toNat s
    if c ≠ eOk then .next (reply p c s)
    else match faReadRule p offset.toNat count.toNat s with
      | (some (c, d), s) => .next (answer p c d s)
      | (none, s) => .next s

/-- A port's field-access read is given up. -/
def dropField (p : Port) (s : State) : State :=
  let mine := fun (r : Option DevRead) => match r with | some (.field q ..) => q == p | _ => false
  let s := allChans (fun c => modChan c (fun x => { x with
    devRead := if mine x.devRead then none else x.devRead
    retries := if mine x.failedRead then 0 else x.retries
    failedRead := if mine x.failedRead then none else x.failedRead })) s
  modPort p (fun r => { r with faWait := none }) s

/-- FA_READ_EXPIRY: the bytes are not all present within 1.9 ms (R558). -/
def execFaReadExpiry (p : Port) (s : State) : Host.Outcome State Fault Refusal :=
  if (portRegs s p).faWait.isSome then .next (finishAll (answerLate p eBusy [] (dropField p s))) else .next s

/-! ### The test range (R205, R559, R560) -/

/-- The memory holds zeros with valid check bytes. -/
def wipeMemory (m : Nat) (s : State) : State :=
  let s := { s with upsets := s.upsets.filter (fun u => u.mem.val != m) }
  match m with
  | 0 => modHay (fun h => { h with ctxs := [], wiped := true }) s
  | 1 => modHay (fun h => { h with cache := [] }) s
  | 2 => modHr (fun h => { h with table := [], index := [] }) s
  | 3 => modHr (fun h => { h with nodes := [], index := [] }) s
  | 4 => { s with journal := { s.journal with ring := [], kept := [] } }
  | _ => s

/-- A march test of memory `m`, or a loopback through fabric `m`; a failing test answers E_INTEGRITY (log entry 45). -/
def bistRule (m : Fin 8) (pass : Bool) (s : State) : U8 × State :=
  if s.phase ≠ .test then (eState, s)
  else
    let s := if m.val < 6 then wipeMemory m.val s else s
    (if pass then eOk else eIntegrity, { s with bistResult := s.bistResult.set m.val (if pass then 0 else 1) })

/-- BIST. -/
def execBist (p : Port) (m : Fin 8) (pass : Bool) (s : State) : Host.Outcome State Fault Refusal :=
  execOp p (0xE010 + m.val) 0 1 (bistRule m pass) s

/-- The mask bits of a word are inverted. -/
def injectRule (m : Fin 8) (s : State) : U8 × State :=
  let w := (s.injWord.getD m.val 0).toNat
  let mask : CodeWord := BitVec.ofNat 72 (leNat (s.injMask.getD m.val []))
  if s.phase ≠ .test then (eState, s)
  else if mask = 0 ∨ memWords.getD m.val 1 ≤ w then (eRange, s)
  else (eOk, strike [{ mem := m, word := w, mask := mask }] s)

/-- INJECT. -/
def execInject (p : Port) (m : Fin 8) (s : State) : Host.Outcome State Fault Refusal :=
  execOp p (0xE010 + m.val) 4 1 (injectRule m) s

/-- The units that UNIT_SELECT names (R559). -/
def unitNamed (u : Nat) : Bool := u < 7 || (0x10 ≤ u && u < 0x16) || (0x20 ≤ u && u < 0x26)

/-- The test code belongs to the kind of the unit (R205, R560). -/
def testFits (u code : Nat) : Bool :=
  if u < 7 then code == 1 || code == 2 else if u < 0x16 then code == 3 else code == 4

/-- A self-test of R205; a logic test captures its signature; a failing test answers E_INTEGRITY (log entry 45). -/
def unitTestRule (p : Port) (code : U8) (pass : Bool) (s : State) : U8 × State :=
  let u := (portRegs s p).unitSelect.toNat
  if s.phase ≠ .test then (eState, s)
  else if !testFits u code.toNat then (eRange, s)
  else
    let s := if code ≠ 1 then s
      else if pass then { s with logicSig := Config.logicSignature 0 }
      else { s with logicSig := Config.logicSignature (s.freeCount + 1), freeCount := s.freeCount + 1 }
    (if pass then eOk else eIntegrity, { s with unitResult := if pass then 0 else code })

/-- UNIT_TEST. -/
def execUnitTest (p : Port) (code : U8) (pass : Bool) (s : State) : Host.Outcome State Fault Refusal :=
  execOp p 0xE002 1 1 (unitTestRule p code pass) s

/-! ### The journal's commands -/

/-- The retained area is emptied once every entry in it is archived (R433). -/
def retainedClearRule (s : State) : U8 × State :=
  if s.vault.retainedArchived < s.journal.retainedCount.toNat then (eState, s)
  else
    (eOk, modVault (fun v => { v with retainedArchived := 0 })
      { s with journal := { s.journal with kept := [], retainedCount := 0 } })

/-- RETAINED_CLEAR. -/
def execRetainedClear (p : Port) (s : State) : Host.Outcome State Fault Refusal := execOp p 0x2100 3 1 retainedClearRule s

/-- The fence number rises; the MARKER entry carries the new one (R434, R534). -/
def fenceRule (p : Port) (s : State) : U8 × List Byte × State :=
  if p ≠ .l ∧ !inService s then (eNotReady, [], s)
  else
    let f := s.journal.fence + 1
    let s := journal 0x00 0x0001 false (leBytes 1 (portNo p).val) { s with journal := { s.journal with fence := f } }
    let s := match mportOf p with
      | some m => modMport m (fun x => { x with lastFence := f }) s
      | none => s
    (eOk, leBytes 5 f.toNat, s)

/-- FENCE: after every earlier request of the port has its answer. -/
def execFence (p : Port) (s : State) : Host.Outcome State Fault Refusal :=
  if !servable s p then .next s
  else
    let (lost, s) := fabricWord s
    if lost then .next (reply p eIntegrity s)
    else let (c, d, s) := fenceRule p s; .next (answer p c d s)

end Sys2Proof.Machine
end

