-- ==== Sys2Proof/Machine/Service.lean ====
section
/-! DEFINITION. The IDP services on any object (R524): each entry's own rule for a WRITE, a WRITE_BLOCK and an EXEC, and
the services READ, READ_BLOCK, POLL, REGISTER_WRITE and WRITE_BLOCK. Where an entry's command row carries what the world
answers (a noise window, a test's outcome), a request that came over the link draws it from the free values (log entry
2). -/
namespace Sys2Proof.Machine

/-! ### Draws in place of what the world answers -/

def drawBool (s : State) : Bool × State :=
  let (b, s) := draw 1 s
  (b == 1, s)

def drawWindow (s : State) : Window × State := draw 1024 s

/-- The code of a failing self-test, or none (R205). -/
def drawFailing (s : State) : Option (Fin 5) × State :=
  let (b, s) := draw 3 s
  (if h : b.toNat < 5 then some ⟨b.toNat, h⟩ else none, s)

/-- The outcome of a bring-up attempt (R226). -/
def drawTry (s : State) : VaultTry × State :=
  let (k, s) := draw 2 s
  let (i, s) := draw 16 s
  (match k.toNat with
   | 0 => .lacksFeature
   | 1 => .initTimeout
   | 2 => .cmdFails i
   | _ => .up (i.getLsbD 0) (i.getLsbD 1), s)

/-- What the eMMC device that is already known reports. -/
def emmcKnown (s : State) : EmmcInfo :=
  { userSectors := s.vault.userSectors, cid := s.vault.cid, writeCounter := s.vault.rpmb.writeCounter }

/-! ### WRITE -/

/-- A selector or a register of the port's own copy (R542). -/
def portWrite (p : Port) (f : PortRegs → PortRegs) (s : State) : U8 × State := (eOk, modPort p f s)

/-- A value within its range, or E_RANGE. -/
def ranged (b : Bool) (r : U8 × State) (s : State) : U8 × State := if b then r else (eRange, s)

/-- A WRITE of an RW or WO entry, by its own rule (the object tables of chapters 02 to 17). -/
def rwRule (p : Port) (i sub : Nat) (v : List Byte) (s : State) : U8 × State :=
  let n := leNat v
  let n8 : U8 := BitVec.ofNat 8 n
  if i = 0x1201 then portWrite p (fun r => { r with token := v }) s
  else if i = 0x1202 ∧ sub = 1 then ranged (n ≤ 9) (eOk, modLc (fun l => { l with keySel := n8 }) s) s
  else if i = 0x1202 then portWrite p (fun r => { r with keyHashIn := v }) s
  else if i = 0x3601 then fallowReqRule n8 s
  else if i = 0x4100 then portWrite p (fun r => { r with ruleSelect := BitVec.ofNat 16 n }) s
  else if i = 0x5001 then hayloftReqRule n8 s
  else if i = 0x5003 then ranged (n < 49152) (portWrite p (fun r => { r with ctxSelect := BitVec.ofNat 16 n }) s) s
  else if i = 0x5100 then ranged (n < 4096) (portWrite p (fun r => { r with treeSelect := BitVec.ofNat 16 n }) s) s
  else if i = 0x6001 then vaultReqRule n8 s
  else if i = 0x6004 then ranged (n < 62) (portWrite p (fun r => { r with arbSelect := n8 }) s) s
  else if i = 0x6100 then (eOk, modVault (fun x => { x with restoreTarget := BitVec.ofNat 16 n }) s)
  else if i = 0x7002 then ranged (n < mfCount s.update.manifest) (portWrite p (fun r => { r with partSelect := BitVec.ofNat 16 n }) s) s
  else if i = 0x8000 ∧ sub = 3 then ranged (n ≤ 1) (testPatternRule (n == 1) s) s
  else if i = 0x8000 then ranged (n != 0) (eOk, modRandom (fun r => { r with lfsrSeed := BitVec.ofNat 32 n }) s) s
  else if i = 0x8020 ∧ sub = 0 then rawSelectRule p n8 s
  else if i = 0x8020 then ranged (n ≤ 1) (eOk, modRandom (fun r => { r with rawPr := r.rawPr.set (portNo p).val (n == 1) }) s) s
  else if i = 0x8300 ∧ sub = 0 then ranged (n < 64) (portWrite p (fun r => { r with ksSelect := n8 }) s) s
  else if i = 0x8300 ∧ sub = 2 then portWrite p (fun r => { r with ksReqAttr := BitVec.ofNat 32 n }) s
  else if i = 0x8300 ∧ sub = 5 then portWrite p (fun r => { r with ksLabel := v }) s
  else if i = 0x8300 ∧ sub = 6 then portWrite p (fun r => { r with ksContext := v }) s
  else if i = 0x8300 ∧ sub = 9 then portWrite p (fun r => { r with ksBlob := v }) s
  else if i = 0x8300 then portWrite p (fun r => { r with ksPlain := v }) s
  else if i = 0x8401 ∧ sub = 0 then pkLimbsRule p n8 s
  else if i = 0x8401 then ranged (n < pkSlots s p) (eOk, modPk p (fun k => { k with select := n8 }) s) s
  else if i = 0xB002 then portWrite p (fun r => { r with measSelect := n8 }) s
  else if i = 0xD000 then portWrite p (fun r => { r with faBase := BitVec.ofNat 40 n }) s
  else if i = 0xE002 then ranged (unitNamed n) (portWrite p (fun r => { r with unitSelect := n8 }) s) s
  else if 0x3000 ≤ i ∧ i < 0x3600 then
    let c := chanOf (i / 256 - 0x30)
    channelReqRule c n8 (chanAt s c).csLow s
  else if 0x8110 ≤ i ∧ i < 0x8118 then
    let b := unit8 (i - 0x8110)
    if sub = 4 then dgDeclRule b (BitVec.ofNat 40 n) s else bankWriteRule b sub v s
  else if 0x8210 ≤ i ∧ i < 0x8214 then
    let c := readBlockRule.csNo (i - 0x8210)
    if sub = 7 then cxDeclRule p c (BitVec.ofNat 40 n) s else cxWriteRule c sub v s
  else if 0x8510 ≤ i ∧ i < 0x8518 then cuWriteRule (unit8 (i - 0x8510)) sub v s
  else if 0xA100 ≤ i ∧ i < 0xA108 then tuWriteRule (unit8 (i - 0xA100)) sub n s
  else
    let m := i - 0xE010
    if sub = 2 then (eOk, { s with injWord := s.injWord.set m (BitVec.ofNat 40 n) })
    else (eOk, { s with injMask := s.injMask.set m v })

/-- A WRITE: an RWC value is staged, every other entry follows its own rule (R544). -/
def writeRule (p : Port) (i sub : Nat) (v : List Byte) (s : State) : U8 × State :=
  match entryAt i sub with
  | none => (eNoObject, s)
  | some e =>
    if e.acc = .rwc then
      if i = 0x4100 then ruleDataRule p (rowOfBytes v) s else stageRule p i sub v s
    else rwRule p i sub v s

/-- REGISTER_WRITE. -/
def execRegisterWrite (p : Port) (index : U16) (sub : U8) (value : List Byte) (s : State) :
    Host.Outcome State Fault Refusal :=
  writeOp p index.toNat sub.toNat value.length (writeRule p index.toNat sub.toNat value) s

/-! ### WRITE_BLOCK -/

/-- A WRITE_BLOCK, by the domain's own rule. -/
def writeBlockRule (p : Port) (i off : Nat) (data : List Byte) (s : State) : U8 × State :=
  match i with
  | 0x1103 => rtImageRule off data s
  | 0x4101 => ruleDomainRule p off data s
  | 0x7001 => manifestRule off data s
  | 0x7002 => partDataRule (portRegs s p).partSelect.toNat off data s
  | 0x8401 => pkBufRule p off data s
  | i =>
    if 0x8110 ≤ i ∧ i < 0x8118 then dgDataRule (unit8 (i - 0x8110)) off data s
    else if 0x8210 ≤ i ∧ i < 0x8214 then cxDataRule (readBlockRule.csNo (i - 0x8210)) off data s
    else cuFeedRule (unit8 (i - 0x8510)) data s

/-- WRITE_BLOCK: at least one byte of data (R524). -/
def execWriteBlock (p : Port) (index : U16) (sub : U8) (offset : U40) (data : List Byte) (s : State) :
    Host.Outcome State Fault Refusal :=
  if data = [] then (if servable s p then .next (reply p eLength s) else .next s)
  else blockOp p index.toNat sub.toNat data.length (writeBlockRule p index.toNat offset.toNat data) s

/-! ### EXEC -/

/-- An answer at once. -/
def now (r : U8 × State) : Option U8 × State := (some r.1, r.2)

/-- EXEC of the boot, life-cycle, flash and vault objects. -/
def execLow (p : Port) (i sub n : Nat) (s : State) : Option U8 × State :=
  match i, sub with
  | 0x1101, _ => now (deviceResetRule s)
  | 0x1103, _ => now (rtInstallRule s)
  | 0x1200, 2 => now (lcAdvanceRule p n s)
  | 0x1200, _ => now (lcScrapRule n s)
  | 0x1201, _ => now (unlockRule (pathOf p) (portRegs s p).token s)
  | 0x1202, 3 => let (b, s) := drawBool s; now (keyBurnRule p b s)
  | 0x1202, 4 => now (keyRevokeRule n s)
  | 0x1202, _ => now (fuseBurnRule s)
  | 0x2100, _ => now (retainedClearRule s)
  | 0x3602, _ => let (f, s) := drawFailing s; now (fallowReinstateRule f s)
  | 0x4000, _ => now (checkRule p s)
  | 0x5000, _ => now (flushRule s)
  | 0x6000, _ => now (formatRule s)
  | 0x6002, _ => let (t, s) := drawTry s; now (vaultReinstateRule t (emmcKnown s) s)
  | 0x6005, _ => now (stageClearRule s)
  | 0x6100, _ => now (restoreRule s)
  | 0x7000, 1 => now (admitRule s)
  | 0x7000, 2 => now (applyRule s)
  | 0x7000, 3 => now (activateRule s)
  | 0x7000, 4 => confirmStart p s
  | 0x7000, 5 => now (revertRule s)
  | 0x7000, _ => now (abortRule s)
  | i, sub =>
    let c := chanOf (i / 256 - 0x30)
    if sub = 0 then now (clearHoldRule c s)
    else let (f, s) := drawFailing s; now (reinstateRule c f s)

/-- EXEC of the engines, the supervision and the test objects. -/
def execHigh (p : Port) (i sub n : Nat) (s : State) : U8 × State :=
  match i, sub with
  | 0x8000, _ => let (w, s) := drawWindow s; srcReinstateRule n w s
  | 0x8030, _ => let (w, s) := drawWindow s; reseedRule (some w) s
  | 0x8100, _ => dgAllocRule p s
  | 0x8200, _ => cxAllocRule p s
  | 0x8300, 0x3 => ksGenerateRule p s
  | 0x8300, 0x4 => ksDeriveRule p n s
  | 0x8300, 0x7 => ksWrapRule p n s
  | 0x8300, 0x8 => ksUnwrapRule p n s
  | 0x8300, 0xB => ksImportRule p s
  | 0x8300, 0xC => ksClearRule p s
  | 0x8300, 0x10 =>
    let (w, s) := drawWindow s
    let (b, s) := drawBool s
    dssProvisionRule n (some w) b s
  | 0x8300, _ => keyReloadRule s
  | 0x8401, 2 => let (op, w) := pkWordOf (BitVec.ofNat 40 n); pkSubmitRule p op w s
  | 0x8401, _ => pkWipeRule p s
  | 0x8500, _ => cuAllocRule p s
  | 0x9000, 3 => heathLockRule s
  | 0x9000, _ => tamperClearRule s
  | 0x9002, _ => cellArmRule s
  | 0xA000, _ => wdLockRule s
  | 0xA001, 0 => wdCheckinRule n s
  | 0xA001, _ => wdServiceRule (BitVec.ofNat 16 n) s
  | 0xC001, 0 => commitRule p s
  | 0xC001, _ => discardRule p s
  | 0xE002, _ => let (b, s) := drawBool s; unitTestRule p (BitVec.ofNat 8 n) b s
  | i, sub =>
    if 0x8110 ≤ i ∧ i < 0x8118 then
      let b := unit8 (i - 0x8110)
      match sub with
      | 7 => absorbKeyRule p b (BitVec.ofNat 16 n) s
      | 8 => dgFinishRule b s
      | 0xA => exportRule b s
      | 0xC => importRule b s
      | _ => dgReleaseRule b s
    else if 0x8210 ≤ i ∧ i < 0x8214 then
      let c := readBlockRule.csNo (i - 0x8210)
      if sub = 0xA then cxFinishRule c s else cxReleaseRule c s
    else if 0x8510 ≤ i ∧ i < 0x8518 then
      let u := unit8 (i - 0x8510)
      match sub with
      | 0xA => cuStartRule u s
      | 0xB => cuFeedRule u (leBytes 1 n) s
      | 0xC => cuFeedRule u (leBytes 2 n) s
      | 0xD => cuFeedRule u (leBytes 5 n) s
      | 0xF => cuFinishRule u s
      | _ => cuReleaseRule u s
    else if 0xA100 ≤ i ∧ i < 0xA108 then
      let u := unit8 (i - 0xA100)
      if sub = 4 then tuStartRule u s else tuStopRule u s
    else
      let m := unit8 (i - 0xE010)
      if sub = 0 then let (b, s) := drawBool s; bistRule m b s else injectRule m s

/-- An EXEC past its checks: a BOOL argument is 0x01 (R524). No code: the answer comes later. -/
def execRule (p : Port) (i sub : Nat) (arg : List Byte) (s : State) : Option U8 × State :=
  match entryAt i sub with
  | none => (some eNoObject, s)
  | some e =>
    if e.ty = 1 ∧ leNat arg ≠ 1 then (some eRange, s)
    else if i < 0x8000 then execLow p i sub (leNat arg) s
    else now (execHigh p i sub (leNat arg) s)

/-! ### READ, READ_BLOCK and POLL -/

/-- READ. -/
def execRead (p : Port) (index : U16) (sub : U8) (s : State) : Host.Outcome State Fault Refusal :=
  readOp p .read index.toNat sub.toNat (readRule p index.toNat sub.toNat) s

/-- READ_BLOCK; the field-access window has a command of its own. -/
def execReadBlock (p : Port) (index : U16) (sub : U8) (offset : U40) (count : U16) (s : State) :
    Host.Outcome State Fault Refusal :=
  if index = 0xD000 ∧ sub = 1 then execFaWindowRead p offset count s
  else if !servable s p then .next s
  else
    let (c, s) := blockRequest p index.toNat sub.toNat count.toNat s
    if c ≠ eOk then .next (reply p c s)
    else
      let (c, d, s) := readBlockRule p index.toNat sub.toNat offset.toNat count.toNat s
      .next (answer p c d s)

/-- One entry of a POLL: CODE, TYPE and the value; checks 9 to 11 are made for it (R524, R539). -/
def pollEntry (p : Port) (i sub : Nat) (s : State) : U8 × List Byte × State :=
  let c := opCheck s p .poll i sub 0
  let (c, d, s) := if c ≠ eOk then (c, [], s) else readRule p i sub s
  let ty := match entryAt i sub with | some e => e.ty | none => 0
  (c, if c = eOk then [c] ++ leBytes 1 ty ++ d else [c, 0x00], s)

/-- The entries in their order; the overall code is that of the first that fails. -/
def pollEntries (p : Port) : List (U16 × U8) → State → U8 × List Byte × State
  | [], s => (eOk, [], s)
  | e :: es, s =>
    let (c, d, s) := pollEntry p e.1.toNat e.2.toNat s
    let (c', d', s) := pollEntries p es s
    (if c ≠ eOk then c else c', d ++ d', s)

/-- A POLL past the frame checks: check 7 on COUNT, check 8 on every entry (R524, R525, R539). -/
def pollRule (p : Port) (entries : List (U16 × U8)) (s : State) : U8 × List Byte × State :=
  if entries = [] ∨ 16 < entries.length then (eRange, [], s)
  else if entries.any (fun e => !phaseAdmits s p .poll e.1.toNat e.2.toNat) then (eNotReady, [], s)
  else pollEntries p entries s

/-- POLL. -/
def execPoll (p : Port) (entries : List (U16 × U8)) (s : State) : Host.Outcome State Fault Refusal :=
  if !servable s p then .next s
  else
    let (lost, s) := fabricWord s
    if lost then .next (reply p eIntegrity s)
    else let (c, d, s) := pollRule p entries s; .next (answer p c d s)

end Sys2Proof.Machine
end

