-- ==== Sys2Proof/Machine/Spdm.lean ====
section
/-! DEFINITION. The SPDM 1.3 responder (R419 to R427). The messages' layouts, transcripts and key schedule are those of
DSP0274 and DSP0277, which the spec names and does not repeat (log entry 44). -/
namespace Sys2Proof.Machine

/-! ### Messages -/

def spdmConn (s : State) (m : MPort) : SpdmConn := s.spdm.conns.getD m.val {}

def modConn (m : MPort) (f : SpdmConn → SpdmConn) (s : State) : State :=
  modSpdm (fun x => { x with conns := x.conns.modify m.val f }) s

/-- A request as its bytes. -/
def spdmBytes (code : Nat) (r : SpdmReq) : List Byte := [r.version, BitVec.ofNat 8 code, r.param1, r.param2] ++ r.body

/-- A response: version 1.3, its code and two parameters. -/
def spdmHead (code p1 p2 : Nat) : List Byte := [0x13] ++ leBytes 1 code ++ leBytes 1 p1 ++ leBytes 1 p2

/-- An ERROR response; SPDM_ERRORS counts it (R436). -/
def spdmError (code data : Nat) (s : State) : List Byte × State :=
  (spdmHead 0x7F code data, modSpdm (fun x => { x with errors := satInc x.errors }) s)

abbrev errInvalid : Nat := 0x01
abbrev errBusy : Nat := 0x03
abbrev errUnexpected : Nat := 0x04
abbrev errUnspecified : Nat := 0x05
abbrev errUnsupported : Nat := 0x07
abbrev errSessions : Nat := 0x0A
abbrev errVersion : Nat := 0x41

/-- The device has its identity: KEY_STATE is neither NONE nor LOST (R425). -/
def hasIdentity (s : State) : Bool := s.keys.keyState == 1 || s.keys.keyState == 2

/-- 32 bytes of the runtime's raw port (R421). -/
def spdmNonce (s : State) : Option (List Byte) × State := rawTake .l 32 s

/-- A fresh scalar of the PKE (R421). -/
def spdmScalar (s : State) : Option Nat × State :=
  match wireGenerate 3 58 s with
  | (some bs, s) => (some (scalarOf bs), s)
  | (none, s) => (none, s)

/-- The text that is signed: the prefix of DSP0274 with the context, then the transcript's digest. -/
def spdmSigned (context : String) (transcript : List Byte) : List Byte :=
  let c := ascii context
  sha384 ((List.range 4).flatMap (fun _ => ascii "dmtf-spdm-v1.3.*") ++ zeros (36 - c.length) ++ c ++ sha384 transcript)

/-- How signing ends. -/
inductive Signed
  | ok (sig : List Byte)
  | busy
  | failed
deriving DecidableEq, Repr

/-- One signature that its gate lets out; `tries` more are made with a fresh nonce (R388, R421). -/
def spdmSign : Nat → List Byte → State → Signed × State
  | 0, _, s => (.failed, s)
  | n + 1, digest, s =>
    match spdmScalar s with
    | (none, s) => (.busy, s)
    | (some k, s) =>
      match ecdsaSign (beNat (ksKey s 2)) k digest with
      | some sig =>
        if ecdsaVerify s.keys.aliasPub digest sig then
          (.ok sig, modSpdm (fun x => { x with signatures := satInc x.signatures }) s)
        else spdmSign n digest s
      | none => spdmSign n digest s

/-- Signs and answers: the response without its signature is `body`; on success `done` says what the state keeps. -/
def spdmRelease (context : String) (transcript body : List Byte) (done : List Byte → State → List Byte × State)
    (s : State) : List Byte × State :=
  if s.pke.health.retired then spdmError errUnspecified 0 s
  else match spdmSign 2 (spdmSigned context (transcript ++ body)) s with
    | (.ok sig, s) => done sig s
    | (.busy, s) => spdmError errBusy 0 s
    | (.failed, s) => spdmError errUnspecified 0 s

/-! ### Set-up of a connection -/

def spdmVersion (m : MPort) (r : SpdmReq) (s : State) : List Byte × State :=
  let rsp : List Byte := [0x10, 0x04, 0x00, 0x00, 0x00, 0x01, 0x00, 0x13]
  (rsp, modConn m (fun _ => { stage := 1, vca := spdmBytes 0x84 r ++ rsp }) s)

/-- The flags of CAPABILITIES (R420, R425). -/
def spdmFlags (s : State) : Nat :=
  if hasIdentity s then 2 ^ 1 + 2 ^ 2 + 2 ^ 4 + 2 ^ 5 + 2 ^ 6 + 2 ^ 7 + 2 ^ 9 + 2 ^ 18 else 2 ^ 3 + 2 ^ 5

def spdmCapabilities (m : MPort) (r : SpdmReq) (s : State) : List Byte × State :=
  if (spdmConn s m).stage ≠ 1 then spdmError errUnexpected 0 s
  else if r.body.length ≠ 16 then spdmError errInvalid 0 s
  else
    let rsp := spdmHead 0x61 0 0 ++ [0x00, 15, 0x00, 0x00] ++ leBytes 4 (spdmFlags s) ++ leBytes 4 4096 ++ leBytes 4 4096
    (rsp, modConn m (fun c => { c with stage := 2, vca := c.vca ++ spdmBytes 0xE1 r ++ rsp }) s)

/-- The value chosen for an algorithm structure of the request: 2 DHE, 3 AEAD, 5 key schedule; no requester asymmetric
algorithm (R420). -/
def spdmAlg (ty offered : Nat) : Nat :=
  match ty with
  | 2 => if bit offered 4 then 0x10 else 0
  | 3 => if bit offered 1 then 0x02 else 0
  | 5 => if bit offered 0 then 0x01 else 0
  | _ => 0

def spdmAlgorithms (m : MPort) (r : SpdmReq) (s : State) : List Byte × State :=
  let n := r.param1.toNat
  let b := r.body
  let ext := 4 * (byteAt b 24 + byteAt b 25)
  if (spdmConn s m).stage ≠ 2 then spdmError errUnexpected 0 s
  else if b.length ≠ 28 + ext + 4 * n ∨ fieldAt b 0 2 ≠ 4 + b.length then spdmError errInvalid 0 s
  else if !bit (fieldAt b 4 4) 7 ∨ !bit (fieldAt b 8 4) 1 then spdmError errInvalid 0 s
  else
    let tables := (List.range n).flatMap (fun k =>
      let o := 28 + ext + 4 * k
      leBytes 1 (byteAt b o) ++ [0x20] ++ leBytes 2 (spdmAlg (byteAt b o) (fieldAt b (o + 2) 2)))
    let rsp := spdmHead 0x63 n 0 ++ leBytes 2 (36 + 4 * n) ++ [0x01, 0x02] ++ leBytes 4 0x04 ++ leBytes 4 0x80 ++
      leBytes 4 0x02 ++ zeros 12 ++ [0x00, 0x00, 0x00, 0x00] ++ tables
    (rsp, modConn m (fun c => { c with stage := 3, vca := c.vca ++ spdmBytes 0xE3 r ++ rsp }) s)

/-! ### Certificates and challenge -/

/-- A message of the certificate transcript; any other request empties it. -/
def spdmKeepM1 (m : MPort) (req rsp : List Byte) (s : State) : State :=
  modConn m (fun c => { c with m1 := c.m1 ++ req ++ rsp, l1 := [] }) s

def spdmDigests (m : MPort) (r : SpdmReq) (s : State) : List Byte × State :=
  let rsp := spdmHead 0x01 0x01 0x01 ++ sha384 s.spdm.chain
  (rsp, spdmKeepM1 m (spdmBytes 0x81 r) rsp s)

def spdmCertificate (m : MPort) (r : SpdmReq) (s : State) : List Byte × State :=
  let off := fieldAt r.body 0 2
  let total := s.spdm.chain.length
  if r.body.length ≠ 4 ∨ r.param1.toNat % 16 ≠ 0 ∨ total ≤ off then spdmError errInvalid 0 s
  else
    let n := min (min (fieldAt r.body 2 2) 4088) (total - off)
    let rsp := spdmHead 0x02 0 0 ++ leBytes 2 n ++ leBytes 2 (total - off - n) ++ slice s.spdm.chain off n
    (rsp, spdmKeepM1 m (spdmBytes 0x82 r) rsp s)

/-- A measurement summary: none, of every block, or of the responder's trusted base, which is not stated (log entry
3); no answer while a block's recomputation is pending. -/
def spdmSummary (kind : Nat) (s : State) : Option (List Byte) × State :=
  if kind = 0 then (some [], s)
  else if !s.spdm.pendingBlocks.isEmpty then (none, s)
  else if kind = 0xFF then (some (sha384 (blockIndices.flatMap (spdmBlock s))), s)
  else let (bs, s) := drawBytes 48 s; (some bs, s)

def summaryKind (k : Byte) : Bool := k == 0 || k == 1 || k == 0xFF

def spdmChallengeAuth (m : MPort) (r : SpdmReq) (s : State) : List Byte × State :=
  if r.body.length ≠ 40 ∨ r.param1.toNat % 16 ≠ 0 ∨ !summaryKind r.param2 then spdmError errInvalid 0 s
  else if s.keys.keyState = 2 then spdmError errUnspecified 0 s
  else match spdmSummary r.param2.toNat s with
    | (none, s) => spdmError errBusy 0 s
    | (some sum, s) =>
      match spdmNonce s with
      | (none, s) => spdmError errBusy 0 s
      | (some nonce, s) =>
        let c := spdmConn s m
        let body := spdmHead 0x03 0x00 0x01 ++ sha384 s.spdm.chain ++ nonce ++ sum ++ [0x00, 0x00] ++ slice r.body 32 8
        spdmRelease "responder-challenge_auth signing" (c.vca ++ c.m1 ++ spdmBytes 0x83 r) body
          (fun sig s => (body ++ sig, modConn m (fun c => { c with m1 := [], l1 := [] }) s)) s

/-! ### Measurements -/

/-- The blocks of an operation; none: no such index. -/
def spdmBlocks (op : Nat) : Option (List Nat) :=
  if op = 0 then some [] else if op = 0xFF then some blockIndices
  else if blockIndices.contains op then some [op] else none

/-- The measurement transcript of the connection or of the session (L1). -/
def spdmL1 (s : State) (m : MPort) (session : Option U32) : List Byte :=
  match session with
  | none => (spdmConn s m).l1
  | some id => match s.spdm.sessions.find? (fun x => x.id == id) with | some x => x.l1 | none => []

def spdmSetL1 (m : MPort) (session : Option U32) (l : List Byte) (s : State) : State :=
  match session with
  | none => modConn m (fun c => { c with l1 := l, m1 := [] }) s
  | some id => modSpdm (fun x => { x with sessions := x.sessions.map (fun y => if y.id = id then { y with l1 := l } else y) }) s

def spdmMeasurements (m : MPort) (session : Option U32) (r : SpdmReq) (s : State) : List Byte × State :=
  let signed := r.param1.getLsbD 0
  if signed ∧ !hasIdentity s then spdmError errUnsupported 0xE0 s
  else if r.body.length ≠ (if signed then 41 else 8) ∨ (signed ∧ byteAt r.body 32 % 16 ≠ 0) then spdmError errInvalid 0 s
  else match spdmBlocks r.param2.toNat with
    | none => spdmError errInvalid 0 s
    | some ks =>
      if signed ∧ s.keys.keyState = 2 then spdmError errUnspecified 0 s
      else if ks.any (fun k => s.spdm.pendingBlocks.contains k) then spdmError errBusy 0 s
      else match spdmNonce s with
        | (none, s) => spdmError errBusy 0 s
        | (some nonce, s) =>
          let record := ks.flatMap (spdmBlock s)
          let body := spdmHead 0x60 (if r.param2 = 0 then 25 else 0) 0 ++ leBytes 1 ks.length ++ leBytes 3 record.length ++
            record ++ nonce ++ [0x00, 0x00] ++ slice r.body (r.body.length - 8) 8
          let l1 := spdmL1 s m session ++ spdmBytes 0xE0 r
          if signed then
            spdmRelease "responder-measurements signing" ((spdmConn s m).vca ++ l1) body
              (fun sig s => (body ++ sig, spdmSetL1 m session [] s)) s
          else (body, spdmSetL1 m session (l1 ++ body) s)

/-! ### Sessions (R422) -/

/-- HKDF-Expand with a label of DSP0274, at most one hash long. -/
def spdmExpand (secret : List Byte) (label : String) (context : List Byte) (n : Nat) : List Byte :=
  (hmacSha384 secret (leBytes 2 n ++ ascii "spdm1.3 " ++ ascii label ++ context ++ [0x01])).take n

/-- A session's keys and IVs from the secrets of its two directions. -/
def sessionKeys (req rsp : List Byte) (x : Session) : Session :=
  { x with
    reqKey := spdmExpand req "key" [] 32, reqIv := spdmExpand req "iv" [] 12
    rspKey := spdmExpand rsp "key" [] 32, rspIv := spdmExpand rsp "iv" [] 12
    reqCount := 0, rspCount := 0 }

/-- The handshake keys of a session (DSP0274). -/
def handshakeKeys (dhe th1 : List Byte) (x : Session) : Session × List Byte :=
  let hs := hmacSha384 (zeros 48) dhe
  let req := spdmExpand hs "req hs data" th1 48
  let rsp := spdmExpand hs "rsp hs data" th1 48
  let x := sessionKeys req rsp { x with handshake := hs, finishKey := spdmExpand req "finished" [] 48 }
  (x, spdmExpand rsp "finished" [] 48)

/-- The keys of the application phase (DSP0274). -/
def applicationKeys (th2 : List Byte) (x : Session) : Session :=
  let master := hmacSha384 (spdmExpand x.handshake "derived" [] 48) (zeros 48)
  { sessionKeys (spdmExpand master "req app data" th2 48) (spdmExpand master "rsp app data" th2 48) x with
    finished := true, finishKey := [], handshake := [], transcript := [] }

/-- A session ends: event 2 by END_SESSION, 3 otherwise. -/
def endSession (id : U32) (event : Nat) (s : State) : State :=
  journalSession id event (modSpdm (fun x => { x with sessions := x.sessions.filter (fun y => y.id != id) }) s)

/-- The open session whose last message is oldest. -/
def oldestSession (s : State) : Option Session :=
  s.spdm.sessions.foldl (fun (a : Option Session) x =>
    match a with
    | none => some x
    | some y => if x.lastTick < y.lastTick then some x else a) none

/-- Room for one session more: where 4 are open the oldest ends when it is more than 60 s old. -/
def sessionRoom (s : State) : Option State :=
  if s.spdm.sessions.length < 4 then some s
  else match oldestSession s with
    | some x => if 1500000000 < s.now - x.lastTick then some (endSession x.id 3 s) else none
    | none => some s

/-- The version of secured messages chosen, as opaque data of format 1. -/
def versionOpaque : List Byte := [0x01, 0x00, 0x00, 0x00, 0x00, 0x00, 0x04, 0x00, 0x01, 0x00, 0x00, 0x11]

def spdmKeyExchange (m : MPort) (r : SpdmReq) (s : State) : List Byte × State :=
  let b := r.body
  if b.length < 134 ∨ b.length ≠ 134 + fieldAt b 132 2 ∨ r.param2 ≠ 0 ∨ !summaryKind r.param1 then
    spdmError errInvalid 0 s
  else if s.keys.keyState = 2 then spdmError errUnspecified 0 s
  else match sessionRoom s with
    | none => spdmError errSessions 0 s
    | some s =>
      let (rspId, s) := draw 16 s
      let id : U32 := BitVec.ofNat 32 (fieldAt b 0 2 + rspId.toNat * 2 ^ 16)
      match spdmSummary r.param1.toNat s with
      | (none, s) => spdmError errBusy 0 s
      | (some sum, s) =>
        match spdmNonce s with
        | (none, s) => spdmError errBusy 0 s
        | (some nonce, s) =>
          match spdmScalar s with
          | (none, s) => spdmError errBusy 0 s
          | (some d, s) =>
            match ecdh d (slice b 36 96) with
            | none => spdmError errInvalid 0 s
            | some dhe =>
              if s.spdm.sessions.any (fun x => x.id == id) then spdmError errBusy 0 s
              else
                let body := spdmHead 0x64 0 0 ++ leBytes 2 rspId.toNat ++ [0x00, 0x00] ++ nonce ++ pubOf d ++ sum ++
                  leBytes 2 versionOpaque.length ++ versionOpaque
                let before := (spdmConn s m).vca ++ sha384 s.spdm.chain ++ spdmBytes 0xE4 r
                spdmRelease "responder-key_exchange_rsp signing" before body
                  (fun sig s =>
                    let t := before ++ body ++ sig
                    let (x, fin) := handshakeKeys dhe (sha384 t) { id := id, port := m.val, lastTick := s.now }
                    let rsp := body ++ sig ++ hmacSha384 fin (sha384 t)
                    (rsp, journalSession id 1 (modConn m (fun c => { c with m1 := [], l1 := [] })
                      (modSpdm (fun y => { y with
                        sessions := y.sessions ++ [{ x with transcript := before ++ rsp }] }) s)))) s

/-- FINISH_RSP; it leaves under the handshake keys, and the application keys hold from then on. -/
def spdmFinish (session : Option U32) (r : SpdmReq) (s : State) : List Byte × State :=
  match session.bind (fun id => s.spdm.sessions.find? (fun x => x.id == id)) with
  | none => spdmError errUnexpected 0 s
  | some x =>
    if x.finished then spdmError errUnexpected 0 s
    else if r.body.length ≠ 48 ∨ r.param1 ≠ 0 then spdmError errInvalid 0 s
    else
      let head := spdmBytes 0xE5 { r with body := [] }
      if hmacSha384 x.finishKey (sha384 (x.transcript ++ head)) ≠ r.body then spdmError 0x06 0 s
      else
        let rsp := spdmHead 0x65 0 0
        (rsp, modSpdm (fun y => { y with sessions := y.sessions.map (fun z =>
          if z.id = x.id then { z with transcript := x.transcript ++ head ++ r.body ++ rsp } else z) }) s)

/-- END_SESSION_ACK; the session ends once it has left. -/
def spdmEnd (session : Option U32) (r : SpdmReq) (s : State) : List Byte × State :=
  if session.isNone then spdmError errUnexpected 0 s
  else if r.body ≠ [] then spdmError errInvalid 0 s
  else (spdmHead 0x6C 0 0, s)

/-! ### One request (R419 to R421, R425, R230) -/

/-- The requests served. -/
def spdmCodes : List Nat := [0x81, 0x82, 0x83, 0x84, 0xE0, 0xE1, 0xE3, 0xE4, 0xE5, 0xEC]

/-- Requests that need an identity (R425). -/
def spdmNeedsIdentity (code : Nat) : Bool := [0x81, 0x82, 0x83, 0xE4, 0xE5, 0xEC].contains code

/-- Requests that a session admits: FINISH before it is set up, measurements and END_SESSION after. -/
def spdmInSession (finished : Bool) (code : Nat) : Bool :=
  if finished then [0x81, 0x82, 0xE0, 0xEC].contains code else code == 0xE5

/-- A request and its response. -/
def spdmServe (m : MPort) (session : Option U32) (code : Nat) (r : SpdmReq) (s : State) : List Byte × State :=
  if !inService s then spdmError errBusy 0 s
  else if code ≠ 0x84 ∧ r.version ≠ 0x13 then spdmError errVersion 0 s
  else if !spdmCodes.contains code then spdmError errUnsupported code s
  else if code = 0x84 ∧ session.isNone then spdmVersion m r s
  else if code = 0xE1 ∧ session.isNone then spdmCapabilities m r s
  else if code = 0xE3 ∧ session.isNone then spdmAlgorithms m r s
  else if (spdmConn s m).stage ≠ 3 ∨ code = 0x84 ∨ code = 0xE1 ∨ code = 0xE3 then spdmError errUnexpected 0 s
  else if spdmNeedsIdentity code ∧ !hasIdentity s then spdmError errUnsupported code s
  else match session.bind (fun id => s.spdm.sessions.find? (fun x => x.id == id)) with
    | some x =>
      if !spdmInSession x.finished code then spdmError errUnexpected 0 s
      else if code = 0xE0 then spdmMeasurements m session r s
      else if code = 0xE5 then spdmFinish session r s
      else if code = 0xEC then spdmEnd session r s
      else if code = 0x81 then spdmDigests m r s
      else spdmCertificate m r s
    | none =>
      if code = 0x81 then spdmDigests m r s
      else if code = 0x82 then spdmCertificate m r s
      else if code = 0x83 then spdmChallengeAuth m r s
      else if code = 0xE0 then spdmMeasurements m none r s
      else if code = 0xE4 then spdmKeyExchange m r s
      else spdmError errUnexpected 0 s

/-- What follows once the response has been sealed: the application keys after FINISH, the end after a FINISH
whose verification fails and after END_SESSION, and the end of a session that has used up its sequence numbers (R422). -/
def spdmAfter (session : Option U32) (code : Nat) (rsp : List Byte) (s : State) : State :=
  match session.bind (fun id => s.spdm.sessions.find? (fun x => x.id == id)) with
  | none => s
  | some x =>
    if code = 0xE5 ∧ byteAt rsp 1 = 0x65 then
      modSpdm (fun y => { y with sessions := y.sessions.map (fun z =>
        if z.id = x.id then applicationKeys (sha384 x.transcript) z else z) }) s
    else if code = 0xE5 ∧ byteAt rsp 1 = 0x7F ∧ byteAt rsp 2 = 0x06 then endSession x.id 3 s
    else if code = 0xEC ∧ byteAt rsp 1 = 0x6C then endSession x.id 2 s
    else if 2 ^ 32 ≤ x.reqCount ∨ 2 ^ 32 ≤ x.rspCount then endSession x.id 3 s
    else s

/-- A request is served and its response queued (R421, R529). -/
def spdmHandle (m : MPort) (session : Option U32) (code : Nat) (r : SpdmReq) (tag dest : Nat) (s : State) : State :=
  let (rsp, s) := spdmServe m session code r s
  spdmAfter session code rsp (queueResponse m session ([0x05] ++ rsp) tag dest false s)

/-- Every credit of the port is taken: ERROR Busy goes to the refusal slot (R525, R528). -/
def spdmRefuse (m : MPort) (tag dest : Nat) (s : State) : State :=
  let (rsp, s) := spdmError errBusy 0 s
  modMport m (fun x => { x with refusal := some { msg := [0x05] ++ rsp, tag := tag, dest := dest, credit := false } }) s

/-- An SPDM request received in the clear on a port. -/
def spdmReceive (code : Nat) (r : SpdmReq) (tag dest : Nat) (session : Option U32) (s : State) : State :=
  if creditsFree (mportAt s r.port) = 0 then spdmRefuse r.port tag dest s
  else spdmHandle r.port session code r tag dest s

/-- A row's request: while the port answers and nothing of it is in progress. -/
def spdmRow (code : Nat) (session : State → Option U32) (r : SpdmReq) (s : State) : Host.Outcome State Fault Refusal :=
  if !servable s (portOfM r.port) then .next s
  else .next (spdmReceive code r 0 0 (session s) s)

/-- The port's session that was opened last, among those (not) yet set up. -/
def lastSession (m : MPort) (finished : Bool) (s : State) : Option U32 :=
  ((s.spdm.sessions.filter (fun x => x.port == m.val && x.finished == finished)).getLast?).map (·.id)

/-- GET_VERSION. -/
def execGetVersion (r : SpdmReq) (s : State) : Host.Outcome State Fault Refusal := spdmRow 0x84 (fun _ => none) r s

/-- GET_CAPABILITIES. -/
def execGetCapabilities (r : SpdmReq) (s : State) : Host.Outcome State Fault Refusal := spdmRow 0xE1 (fun _ => none) r s

/-- NEGOTIATE_ALGORITHMS. -/
def execNegotiateAlgorithms (r : SpdmReq) (s : State) : Host.Outcome State Fault Refusal :=
  spdmRow 0xE3 (fun _ => none) r s

/-- GET_DIGESTS. -/
def execGetDigests (r : SpdmReq) (s : State) : Host.Outcome State Fault Refusal := spdmRow 0x81 (fun _ => none) r s

/-- GET_CERTIFICATE. -/
def execGetCertificate (r : SpdmReq) (s : State) : Host.Outcome State Fault Refusal := spdmRow 0x82 (fun _ => none) r s

/-- CHALLENGE of SPDM. -/
def execSpdmChallenge (r : SpdmReq) (s : State) : Host.Outcome State Fault Refusal := spdmRow 0x83 (fun _ => none) r s

/-- GET_MEASUREMENTS. -/
def execGetMeasurements (r : SpdmReq) (s : State) : Host.Outcome State Fault Refusal := spdmRow 0xE0 (fun _ => none) r s

/-- KEY_EXCHANGE. -/
def execKeyExchange (r : SpdmReq) (s : State) : Host.Outcome State Fault Refusal := spdmRow 0xE4 (fun _ => none) r s

/-- FINISH: of the port's session that is being set up. -/
def execFinish (r : SpdmReq) (s : State) : Host.Outcome State Fault Refusal := spdmRow 0xE5 (lastSession r.port false) r s

/-- END_SESSION: of the port's session that was opened last. -/
def execEndSession (r : SpdmReq) (s : State) : Host.Outcome State Fault Refusal :=
  spdmRow 0xEC (lastSession r.port true) r s

/-- SPDM_UNSUPPORTED_REQUEST: a code that R420 does not list. -/
def execSpdmUnsupportedRequest (r : SpdmReq) (code : Byte) (s : State) : Host.Outcome State Fault Refusal :=
  if spdmCodes.contains code.toNat then .next s else spdmRow code.toNat (fun _ => none) r s

end Sys2Proof.Machine
end

