-- ==== Sys2Proof/Machine/Link.lean ====
section
/-! DEFINITION. The management link below and above the message: MCTP packets, control messages, IDP and secured messages,
responses and the I3C codes (R514 to R529). -/
namespace Sys2Proof.Machine

/-! ### The bus (R514 to R517) -/

/-- The port answers its address (R517). -/
def portUp (s : State) (m : MPort) : Bool := reachable? s (portOfM m)

/-- A transfer that the port does not acknowledge. -/
def nack (m : MPort) (s : State) : State := modMport m (fun x => { x with acked := false, driven := [] }) s

/-- A transfer that the port acknowledges, with the bytes it returns. -/
def acks (m : MPort) (bs : List Byte) (s : State) : State := modMport m (fun x => { x with acked := true, driven := bs }) s

/-- PEC: CRC-8 with polynomial 0x07, of SMBus and of DSP0233 (log entry 46). -/
def pecOf (bs : List Byte) : Byte := BitVec.ofNat 8 (crcEnd 8 false 0 (crcBytes 8 0x07 false 0 bs))

/-! ### MCTP control messages (R519) -/

/-- A control message's answer goes to the end of the port's responses; it takes no credit. -/
def controlReply (m : MPort) (hdr : Byte) (code : Byte) (data : List Byte) (tag dest : Nat) (s : State) : State :=
  modMport m (fun x => { x with responses := x.responses ++
    [{ msg := [0x00, hdr &&& 0x1F, code] ++ data, tag := tag, dest := dest, credit := false }] }) s

/-- The message types of Get Message Type Support. -/
def messageTypes : List Byte := [0x00, 0x05, 0x06, 0x7F]

/-- Set Endpoint ID: set and force (operations 0 and 1) with an EID that DSP0236 leaves to endpoints (log entry 47). -/
def setEid (m : MPort) (op : Byte) (eid : U8) (s : State) : List Byte × State :=
  if op &&& 3 = 0 ∨ op &&& 3 = 1 then
    if 8 ≤ eid.toNat ∧ eid ≠ 0xFF then ([0x00, 0x00, eid, 0x00], modMport m (fun x => { x with eid := eid }) s)
    else ([0x02], s)
  else ([0x02], s)

/-- Get MCTP Version Support: one version entry, whose bytes are not stated, for a type that the port supports. -/
def versionSupport (ty : Byte) (s : State) : List Byte × State :=
  if ty = 0xFF ∨ messageTypes.contains ty then
    let (v, s) := drawBytes 4 s
    ([0x00, 0x01] ++ v, s)
  else ([0x80], s)

/-- Get Vendor Defined Message Support: one entry, enterprise number 0x0001_A3C5, version 0x0001. -/
def vendorSupport (selector : Byte) : List Byte :=
  if selector = 0 then [0x00, 0xFF, 0x01, 0x00, 0x01, 0xA3, 0xC5, 0x00, 0x01] else [0x02]

/-- The completion code and data of a control command. -/
def controlServe (m : MPort) (code : Byte) (data : List Byte) (s : State) : List Byte × State :=
  let arg := fun (k : Nat) => data.getD k 0
  match code.toNat with
  | 1 => if data.length = 2 then setEid m (arg 0) (arg 1) s else ([0x03], s)
  | 2 => if data = [] then ([0x00, (mportAt s m).eid, 0x00, 0x00], s) else ([0x03], s)
  | 4 => if data.length = 1 then versionSupport (arg 0) s else ([0x03], s)
  | 5 => if data = [] then ([0x00, BitVec.ofNat 8 messageTypes.length] ++ messageTypes, s) else ([0x03], s)
  | 6 => if data.length = 1 then (vendorSupport (arg 0), s) else ([0x03], s)
  | _ => ([0x05], s)

/-- The control commands served (R519). -/
def controlServed (code : Byte) : Bool := [0x01, 0x02, 0x04, 0x05, 0x06].contains code

/-- A control request: Rq is 1; a datagram is not answered (DSP0236, log entry 47). -/
def controlReceive (m : MPort) (msg : List Byte) (tag dest : Nat) (s : State) : State :=
  let flags := msg.getD 1 0
  if msg.length < 3 ∨ !flags.getLsbD 7 then s
  else
    let code := msg.getD 2 0
    let (rsp, s) := controlServe m code (msg.drop 3) s
    if flags.getLsbD 6 then s else controlReply m flags code rsp tag dest s

/-- A control row on its own: the message that carries it, from EID 0 with tag 0. -/
def controlRow (m : MPort) (code : Byte) (data : List Byte) (s : State) : State :=
  if portUp s m then acks m [] (controlReceive m ([0x00, 0x80, code] ++ data) 0 0 s) else nack m s

/-- SET_ENDPOINT_ID. -/
def execSetEndpointId (m : MPort) (op : Byte) (eid : U8) (s : State) : Host.Outcome State Fault Refusal :=
  .next (controlRow m 0x01 [op, eid] s)

/-- GET_ENDPOINT_ID. -/
def execGetEndpointId (m : MPort) (s : State) : Host.Outcome State Fault Refusal := .next (controlRow m 0x02 [] s)

/-- GET_MCTP_VERSION_SUPPORT. -/
def execGetMctpVersionSupport (m : MPort) (ty : Byte) (s : State) : Host.Outcome State Fault Refusal :=
  .next (controlRow m 0x04 [ty] s)

/-- GET_MESSAGE_TYPE_SUPPORT. -/
def execGetMessageTypeSupport (m : MPort) (s : State) : Host.Outcome State Fault Refusal := .next (controlRow m 0x05 [] s)

/-- GET_VENDOR_DEFINED_MESSAGE_SUPPORT. -/
def execGetVendorDefinedMessageSupport (m : MPort) (selector : Byte) (s : State) : Host.Outcome State Fault Refusal :=
  .next (controlRow m 0x06 [selector] s)

/-- MCTP_UNSUPPORTED_COMMAND: a code other than the five served. -/
def execMctpUnsupportedCommand (m : MPort) (code : Byte) (s : State) : Host.Outcome State Fault Refusal :=
  if controlServed code then .next s else .next (controlRow m code [] s)

/-! ### IDP requests (R521 to R528) -/

/-- Checks 1 to 4 (R525); the CRC error is counted by the caller. -/
def idpFrame (body : List Byte) : U8 :=
  let n := body.length
  if 4106 < n then eLength
  else if n < 10 then eLength
  else if idpCrc (body.take (n - 4)) (body.getD 1 0) ≠ fieldAt body (n - 4) 4 then eIntegrity
  else if body.getD 0 0 ≠ 0x01 ∨ body.getD 3 0 ≠ 0x00 then eRange
  else if fieldAt body 4 2 ≠ n - 10 then eLength
  else eOk

/-- A message for the refusal slot; a newer one replaces it (R528). Inside a session it leaves sealed (R423). -/
def refuse (m : MPort) (session : Option U32) (msg : List Byte) (tag dest : Nat) (s : State) : State :=
  let put := fun (bs : List Byte) (s : State) =>
    modMport m (fun x => { x with refusal := some { msg := bs, tag := tag, dest := dest, credit := false } }) s
  match session with
  | none => put msg s
  | some id =>
    match sealFor id msg s with
    | (some bs, s) => put bs s
    | (none, s) => s

/-- ALIVE as received; a message too short to hold one leaves it open (log entry 3). -/
def aliveOf (body : List Byte) (s : State) : U8 × State :=
  match body[1]? with
  | some a => (a, s)
  | none => draw 8 s

/-- Checks 1 to 5 of an IDP message, made by the port hardware: none, accepted; else it is refused (R525). -/
def idpAdmit (m : MPort) (session : Option U32) (body : List Byte) (tag dest : Nat) (s : State) : Bool × State :=
  let s := modMport m (fun x => { x with rxMessages := satInc x.rxMessages }) s
  let c := idpFrame body
  if c ≠ eOk then
    let s := if c = eIntegrity then modMport m (fun x => { x with crcErrors := satInc x.crcErrors }) s else s
    let (a, s) := aliveOf body s
    (false, refuse m session (idpResponse a 0x00 [c, 0x00]) tag dest s)
  else if creditsFree (mportAt s m) = 0 then
    (false, refuse m session (idpResponse (body.getD 1 0) (body.getD 2 0) [eBusy, 0x00]) tag dest
      (modMport m (fun x => { x with busyRefusals := satInc x.busyRefusals }) s))
  else (true, s)

/-- Check 7: the service is known and its payload has the form of R524. -/
def idpForm (service : U8) (pl : List Byte) : U8 :=
  let n := pl.length
  let size := fun (b : Bool) => if b then eOk else eLength
  match service.toNat with
  | 1 => size (n == 3)
  | 2 => size (4 ≤ n)
  | 3 => if n ≠ 10 then eLength else if fieldAt pl 8 2 = 0 ∨ 4094 < fieldAt pl 8 2 then eRange else eOk
  | 4 => size (9 ≤ n)
  | 5 => size (4 ≤ n)
  | 6 => size (n == 0)
  | 7 =>
    let k := byteAt pl 0
    if n = 0 then eLength else if k = 0 ∨ 16 < k then eRange else size (n == 1 + 3 * k)
  | _ => eRange

/-- The request has been executed: its outcome is recorded, its response sent and cached. -/
def idpDone (m : MPort) (r : LinkReq) (code : U8) (value results : List Byte) (ofCommit : Bool) (s : State) : State :=
  deliver m r ([code, 0x00] ++ results) ofCommit (answer (portOfM m) code value s)

/-- Entries of a POLL payload. -/
def pollOf (pl : List Byte) : List (U16 × U8) :=
  (List.range (byteAt pl 0)).map (fun k => (BitVec.ofNat 16 (fieldAt pl (1 + 3 * k) 2), pl.getD (3 + 3 * k) 0))

/-- A READ: TYPE and the value follow its code where the rule gives a value. -/
def idpRead (m : MPort) (r : LinkReq) (i sub : Nat) (s : State) : State :=
  let p := portOfM m
  let (c, s) := request p .read i sub 0 s
  if c ≠ eOk then idpDone m r c [] [] false s
  else
    let (c, d, s) := readRule p i sub s
    let ty := match entryAt i sub with | some e => e.ty | none => 0
    idpDone m r c d (if d = [] then [] else leBytes 1 ty ++ d) false s

/-- A READ_BLOCK; a field-access read of a channel is answered when its bytes are present. -/
def idpReadBlock (m : MPort) (r : LinkReq) (i sub off count : Nat) (s : State) : State :=
  let p := portOfM m
  let (c, s) := blockRequest p i sub count s
  if c ≠ eOk then idpDone m r c [] [] false s
  else if i = 0xD000 then
    match faReadRule p off count s with
    | (some (c, d), s) => idpDone m r c d d false s
    | (none, s) => s
  else
    let (c, d, s) := readBlockRule p i sub off count s
    idpDone m r c d d false s

/-- An EXEC; CONFIRM is answered when its stile write has ended. -/
def idpExec (m : MPort) (r : LinkReq) (i sub : Nat) (arg : List Byte) (s : State) : State :=
  let p := portOfM m
  let (c, s) := request p .exec i sub arg.length s
  if c ≠ eOk then idpDone m r c [] [] false s
  else
    match execRule p i sub arg s with
    | (some c, s) => idpDone m r c [] [] (i == 0xC001 && sub == 0) s
    | (none, s) => s

/-- Checks 8 to 12 and the service (R524, R525). -/
def idpService (m : MPort) (r : LinkReq) (pl : List Byte) (s : State) : State :=
  let p := portOfM m
  let i := fieldAt pl 0 2
  let sub := byteAt pl 2
  match r.service.toNat with
  | 1 => idpRead m r i sub s
  | 2 =>
    let v := pl.drop 3
    let (c, s) := request p .write i sub v.length s
    if c ≠ eOk then idpDone m r c [] [] false s
    else let (c, s) := writeRule p i sub v s; idpDone m r c [] [] false s
  | 3 => idpReadBlock m r i sub (fieldAt pl 3 5) (fieldAt pl 8 2) s
  | 4 =>
    let d := pl.drop 8
    let (c, s) := request p .writeBlock i sub d.length s
    if c ≠ eOk then idpDone m r c [] [] false s
    else let (c, s) := writeBlockRule p i (fieldAt pl 3 5) d s; idpDone m r c [] [] false s
  | 5 => idpExec m r i sub (pl.drop 3) s
  | 6 =>
    let (lost, s) := fabricWord s
    if lost then idpDone m r eIntegrity [] [] false s
    else let (c, d, s) := fenceRule p s; idpDone m r c d d false s
  | _ =>
    let (lost, s) := fabricWord s
    if lost then idpDone m r eIntegrity [] [] false s
    else let (c, d, s) := pollRule p (pollOf pl) s; idpDone m r c d d false s

/-- Checks 6 and 7, then the service; a replay and a failure of check 7 enter no cache entry (R525, R527). -/
def idpServe (m : MPort) (session : Option U32) (body : List Byte) (tag dest : Nat) (s : State) : State :=
  let n := body.length
  let alive : U8 := body.getD 1 0
  let service : U8 := body.getD 2 0
  let crc : U32 := BitVec.ofNat 32 (fieldAt body (n - 4) 4)
  let pl := slice body 6 (n - 10)
  let send := fun (p : List Byte) (s : State) => queueResponse m session (idpResponse alive service p) tag dest false s
  match (mportAt s m).cache.find? (fun e => e.alive == alive) with
  | some e =>
    if e.crc = crc then
      send ([eDuplicate] ++ e.response.take 1 ++ e.response.drop 2)
        (modMport m (fun x => { x with replays := satInc x.replays }) s)
    else send [eDuplicate, 0xFF] s
  | none =>
    let c := idpForm service pl
    if c ≠ eOk then send [c, 0x00] s
    else
      let r : LinkReq := { alive := alive, service := service, crc := crc, tag := tag, dest := dest, session := session }
      idpService m r pl (modMport m (fun x => { x with current := some r, lastAlive := alive }) s)

/-! ### Secured messages (R422, R423) -/

/-- The plain application message of a secured record, checked against its session; none: discarded (log entry 44). -/
def openRecord (x : Session) (record : List Byte) : Option (List Byte) :=
  let len := fieldAt record 2 2
  let body := record.drop 4
  if record.length < 4 ∨ body.length ≠ len ∨ len < 18 ∨ fieldAt record 0 2 ≠ x.reqCount % 2 ^ 16 then none
  else
    let ct := body.take (len - 16)
    let iv := sessionIv x.reqIv x.reqCount
    if gcmTag x.reqKey iv (leBytes 4 x.id.toNat ++ record.take 4) ct ≠ body.drop (len - 16) then none
    else
      let plain := gcmCrypt x.reqKey iv ct
      let n := fieldAt plain 0 2
      if plain.length < 2 + n then none else some ((plain.drop 2).take n)

/-- An SPDM message: version, code, parameters, body; a shorter one is an invalid request. -/
def spdmMessage (m : MPort) (session : Option U32) (bs : List Byte) (tag dest : Nat) (s : State) : State :=
  match bs with
  | v :: c :: p1 :: p2 :: body =>
    spdmHandle m session c.toNat { port := m, version := v, param1 := p1, param2 := p2, body := body } tag dest s
  | _ =>
    let (rsp, s) := spdmError errInvalid 0 s
    queueResponse m session ([0x05] ++ rsp) tag dest false s

/-- A secured message of the port: SPDM or IDP inside an open session of it; anything else is discarded. The AES runs
on cipher context 0 (R423), which a retired cipher no longer does (log entry 44). -/
def securedServe (m : MPort) (id : U32) (record : List Byte) (tag dest : Nat) (s : State) : State :=
  match s.spdm.sessions.find? (fun x => x.id == id && x.port == m.val) with
  | none => s
  | some x =>
    if s.cipherHealth.retired then s
    else match openRecord x record with
      | none => s
      | some app =>
        let s := modSpdm (fun d => { d with sessions := d.sessions.map (fun (y : Session) =>
          if y.id = id then { y with reqCount := y.reqCount + 1, lastTick := s.now } else y) }) s
        if app.getD 0 0 = 0x05 then spdmMessage m (some id) (app.drop 1) tag dest s
        else if app.take 5 = idpPrefix ∧ x.finished then
          let (ok, s) := idpAdmit m (some id) (app.drop 5) tag dest s
          if ok then idpServe m (some id) (app.drop 5) tag dest s else s
        else s

/-! ### Messages in order (R517, R519, R529) -/

/-- One message that the runtime takes. -/
def serveOne (m : MPort) (x : RxMsg) (s : State) : State :=
  let t := x.msg.getD 0 0
  if t = 0x05 then spdmMessage m none (x.msg.drop 1) x.tag x.src s
  else if t = 0x06 then securedServe m (BitVec.ofNat 32 (fieldAt x.msg 1 4)) (x.msg.drop 5) x.tag x.src s
  else idpServe m none (x.msg.drop 5) x.tag x.src s

/-- The port's messages are taken in their order while no request waits for its answer. -/
def serveRx : Nat → MPort → State → State
  | 0, _, s => s
  | n + 1, m, s =>
    if portBusy s (portOfM m) then s
    else match (mportAt s m).rx with
      | [] => s
      | x :: xs => serveRx n m (serveOne m x (modMport m (fun y => { y with rx := xs }) s))

def serveLink (m : MPort) (s : State) : State := serveRx (mportAt s m).rx.length m s

/-- Both ports take what waits. -/
def serveLinks (s : State) : State := serveLink 1 (serveLink 0 s)

/-- The message waits for the runtime, which takes it at once while it is free. -/
def enqueue (m : MPort) (x : RxMsg) (s : State) : State :=
  serveLink m (modMport m (fun y => { y with rx := y.rx ++ [x] }) s)

/-- An assembled message by its type (R519); another type is dropped. -/
def receiveMsg (m : MPort) (x : RxMsg) (s : State) : State :=
  let t := x.msg.getD 0 0
  if t = 0x00 then controlReceive m x.msg x.tag x.src s
  else if t = 0x05 ∨ t = 0x06 then
    if creditsFree (mportAt s m) = 0 then spdmRefuse m x.tag x.src s else enqueue m x s
  else if x.msg.take 5 = idpPrefix then
    let (ok, s) := idpAdmit m none (x.msg.drop 5) x.tag x.src s
    if ok then enqueue m x s else s
  else if t = 0x7F then modMport m (fun y => { y with assemblyDrops := satInc y.assemblyDrops }) s
  else s

/-- SECURED_MESSAGE: while the port takes a request. -/
def execSecuredMessage (m : MPort) (id : U32) (record : List Byte) (s : State) : Host.Outcome State Fault Refusal :=
  if !servable s (portOfM m) then .next s
  else .next (receiveMsg m { msg := [0x06] ++ leBytes 4 id.toNat ++ record, tag := 0, src := 0 } s)

/-! ### Packets (R515, R516, R520) -/

/-- Bytes of a message that are kept: one more than the buffer holds shows that it is too long. -/
def keepMsg (bs : List Byte) : List Byte := bs.take 4112

/-- The packet joins its message: `som` and `eom` mark its first and last packet. -/
def assemble (m : MPort) (som eom : Bool) (seq tag src : Nat) (data : List Byte) (s : State) : State :=
  let part := (mportAt s m).partialMsg
  let s := if som && part.isSome then dropPartial m s else s
  let joined : Option (List Byte) :=
    if som then some (keepMsg data)
    else match part with
      | some (bs, t, q, e) => if t = tag ∧ q = seq ∧ e = src then some (keepMsg (bs ++ data)) else none
      | none => none
  match joined with
  | none => if part.isSome then dropPartial m s else s
  | some bs =>
    if eom then
      receiveMsg m { msg := bs, tag := tag, src := src }
        (timeoutArrived 0xD (modMport m (fun x => { x with partialMsg := none }) s))
    else modMport m (fun x => { x with partialMsg := some (bs, tag, (seq + 1) % 4, src) }) s

/-- A packet that names the port: header version 1, the port's EID or 0, TO 1, at most 64 bytes (R520, log entry
47). -/
def packetFits (s : State) (m : MPort) (pkt : List Byte) : Bool :=
  4 < pkt.length && pkt.length ≤ 68 && byteAt pkt 0 % 16 == 1 &&
  (byteAt pkt 1 == 0 || pkt.getD 1 0 == (mportAt s m).eid) && bit (byteAt pkt 3) 3

/-- MCTP_PACKET. -/
def execMctpPacket (m : MPort) (pecOk : Bool) (pkt : List Byte) (s : State) : Host.Outcome State Fault Refusal :=
  if !portUp s m then .next (nack m s)
  else
    let s := serveLink m s
    if 2 ≤ (mportAt s m).rx.length then .next (nack m s)
    else
      let s := acks m [] s
      if !pecOk then .next (modMport m (fun x => { x with crcErrors := satInc x.crcErrors }) s)
      else if !packetFits s m pkt then .next s
      else
        let f := byteAt pkt 3
        .next (assemble m (bit f 7) (bit f 6) (bits f 5 4) (f % 8) (byteAt pkt 2) (pkt.drop 4) s)

/-- MGMT_ASSEMBLY_EXPIRY. -/
def execMgmtAssemblyExpiry (m : MPort) (s : State) : Host.Outcome State Fault Refusal :=
  if s.refclk ∧ s.porN then .next (assemblyExpire m s) else .next s

/-! ### Responses (R515, R516, R528, R529) -/

/-- Packet `k` of a response: the MCTP header, then at most 64 bytes. -/
def responsePacket (eid : U8) (r : Response) : List Byte :=
  let k := r.sent
  let last := r.msg.length ≤ 64 * (k + 1)
  let flags := (if k = 0 then 0x80 else 0) + (if last then 0x40 else 0) + 16 * (k % 4) + r.tag % 8
  [0x01] ++ leBytes 1 r.dest ++ [eid] ++ leBytes 1 flags ++ (r.msg.drop (64 * k)).take 64

/-- The bytes of a read: an SMBus Block Read in I2C mode, a private read in I3C mode, with PEC (R515, R516). -/
def busRead (x : MgmtPort) (pkt : Option (List Byte)) : Option (List Byte) :=
  if x.mode = 0 then
    let src : List Byte := [BitVec.ofNat 8 (2 * x.smbAddr.toNat + 1)]
    let body : List Byte := match pkt with
      | some p => leBytes 1 (p.length + 1) ++ src ++ p
      | none => [0x00]
    some (body ++ [pecOf ([BitVec.ofNat 8 (2 * x.smbAddr.toNat), 0x0F] ++ src ++ body)])
  else pkt.map (fun p => p ++ [pecOf ([BitVec.ofNat 8 (2 * x.da.toNat + 1)] ++ p)])

/-- A response has been read whole or has expired: a COMMIT's lets a new SMB_ADDR take effect (R518). -/
def responseGone (r : Response) (s : State) : State := if r.ofCommit then smbApply s else s

/-- The response that the next packet belongs to: a pending refusal comes before the responses, unless one of them has
been read in part (log entry 47). -/
def nextResponse (x : MgmtPort) : Option (Bool × Response) :=
  match x.refusal, x.responses with
  | some f, r :: _ => if r.sent = 0 then some (true, f) else some (false, r)
  | some f, [] => some (true, f)
  | none, r :: _ => some (false, r)
  | none, [] => none

/-- RESPONSE_READ. -/
def execResponseRead (m : MPort) (s : State) : Host.Outcome State Fault Refusal :=
  if !portUp s m then .next (nack m s)
  else
    let s := serveLink m s
    let x := mportAt s m
    match nextResponse x with
    | none =>
      match busRead x none with
      | some bs => .next (acks m bs s)
      | none => .next (nack m s)
    | some (refused, r) =>
      let s := acks m ((busRead x (some (responsePacket x.eid r))).getD []) s
      if r.msg.length ≤ 64 * (r.sent + 1) then
        let s := modMport m (fun y =>
          if refused then { y with refusal := none } else { y with responses := y.responses.drop 1 }) s
        .next (serveLink m (responseGone r s))
      else
        let r := { r with sent := r.sent + 1 }
        .next (modMport m (fun y =>
          if refused then { y with refusal := some r } else { y with responses := r :: y.responses.drop 1 }) s)

/-- RESPONSE_EXPIRY: the port's oldest response. -/
def execResponseExpiry (m : MPort) (s : State) : Host.Outcome State Fault Refusal :=
  if !(s.refclk && s.porN) then .next s
  else match (mportAt s m).responses with
    | [] => .next s
    | r :: rs =>
      .next (serveLink m (responseGone r (modMport m (fun x =>
        { x with responses := rs, respExpired := satInc x.respExpired }) s)))

/-! ### I3C (R514, R516) -/

/-- A code that the port accepts once it has a dynamic address. -/
def directed (m : MPort) (f : State → State) (s : State) : Host.Outcome State Fault Refusal :=
  if portUp s m && (mportAt s m).mode == 1 then .next (f s) else .next (nack m s)

/-- The port gets a dynamic address and is in I3C mode. -/
def takeAddress (m : MPort) (da : U8) (s : State) : State :=
  acks m [] (modMport m (fun x => { x with mode := 1, da := da }) s)

/-- ENTDAA: a port without a dynamic address takes part. -/
def execEntdaa (m : MPort) (da : U8) (s : State) : Host.Outcome State Fault Refusal :=
  if portUp s m && (mportAt s m).da == 0 then .next (takeAddress m da s) else .next (nack m s)

/-- SETDASA: at SMB_ADDR, while the port has no dynamic address. -/
def execSetdasa (m : MPort) (static da : U8) (s : State) : Host.Outcome State Fault Refusal :=
  if portUp s m && (mportAt s m).da == 0 && (mportAt s m).smbAddr == static then .next (takeAddress m da s)
  else .next (nack m s)

/-- SETNEWDA. -/
def execSetnewda (m : MPort) (da : U8) (s : State) : Host.Outcome State Fault Refusal := directed m (takeAddress m da) s

/-- RSTDAA: back to I2C mode. -/
def execRstdaa (m : MPort) (s : State) : Host.Outcome State Fault Refusal :=
  if portUp s m then .next (acks m [] (modMport m (fun x => { x with mode := 0, da := 0 }) s)) else .next (nack m s)

/-- GETPID: bits [47:33] 0, bit 32 1, UID bytes 0 to 3 as a U32; most significant byte first. -/
def execGetpid (m : MPort) (s : State) : Host.Outcome State Fault Refusal :=
  directed m (acks m (beBytes 6 (2 ^ 32 + leNat ((uidOf s).take 4)))) s

/-- GETBCR: 0x00. -/
def execGetbcr (m : MPort) (s : State) : Host.Outcome State Fault Refusal := directed m (acks m [0x00]) s

/-- GETDCR: 0x00. -/
def execGetdcr (m : MPort) (s : State) : Host.Outcome State Fault Refusal := directed m (acks m [0x00]) s

/-- GETSTATUS: two bytes, which are not stated (log entry 3). -/
def execGetstatus (m : MPort) (s : State) : Host.Outcome State Fault Refusal :=
  directed m (fun s => let (bs, s) := drawBytes 2 s; acks m bs s) s

/-- GETMRL. -/
def execGetmrl (m : MPort) (s : State) : Host.Outcome State Fault Refusal :=
  directed m (fun s => acks m (beBytes 2 (mportAt s m).mrl.toNat) s) s

/-- GETMWL. -/
def execGetmwl (m : MPort) (s : State) : Host.Outcome State Fault Refusal :=
  directed m (fun s => acks m (beBytes 2 (mportAt s m).mwl.toNat) s) s

/-- SETMRL: below 69 it is ignored. -/
def execSetmrl (m : MPort) (value : U16) (s : State) : Host.Outcome State Fault Refusal :=
  directed m (fun s => acks m [] (if value.toNat < 69 then s else modMport m (fun x => { x with mrl := value }) s)) s

/-- SETMWL: below 69 it is ignored. -/
def execSetmwl (m : MPort) (value : U16) (s : State) : Host.Outcome State Fault Refusal :=
  directed m (fun s => acks m [] (if value.toNat < 69 then s else modMport m (fun x => { x with mwl := value }) s)) s

/-- ENEC: accepted, no effect. -/
def execEnec (m : MPort) (s : State) : Host.Outcome State Fault Refusal := directed m (acks m []) s

/-- DISEC: accepted, no effect. -/
def execDisec (m : MPort) (s : State) : Host.Outcome State Fault Refusal := directed m (acks m []) s

/-- The block idles: a period of REFCLK passes where there is one, and the ports take the messages that wait (log entry
8). -/
def idle (s : State) : State := serveLinks (tick s)

end Sys2Proof.Machine
end

