-- ==== Sys2Proof/Machine/Dispatch.lean ====
section
/-! DEFINITION. One arm per command: a direct call of its meaning. -/
namespace Sys2Proof.Machine

/-- The effect of a command on everything but the queue. -/
def exec (i : Instr) (s : State) : Host.Outcome State Fault Refusal :=
  match i with
  | .porNRise straps => Sys2Proof.Machine.execPorNRise straps s
  | .porNFall => Sys2Proof.Machine.execPorNFall s
  | .clock waitedMs locked => Sys2Proof.Machine.execClock waitedMs locked s
  | .heath => Sys2Proof.Machine.execHeath s
  | .lifecycle => Sys2Proof.Machine.execLifecycle s
  | .kat run => Sys2Proof.Machine.execKat run s
  | .entropy ling sedge fescue => Sys2Proof.Machine.execEntropy ling sedge fescue s
  | .vault tries info => Sys2Proof.Machine.execVault tries info s
  | .runtime readErrA readErrB => Sys2Proof.Machine.execRuntime readErrA readErrB s
  | .discovery found scratchFails => Sys2Proof.Machine.execDiscovery found scratchFails s
  | .policy rpmb => Sys2Proof.Machine.execPolicy rpmb s
  | .coreReset readErrA readErrB => Sys2Proof.Machine.execCoreReset readErrA readErrB s
  | .deviceReset p => Sys2Proof.Machine.execDeviceReset p s
  | .deviceResetTakesEffect => Sys2Proof.Machine.execDeviceResetTakesEffect s
  | .rtImageWrite p offset data => Sys2Proof.Machine.execRtImageWrite p offset data s
  | .rtInstall p => Sys2Proof.Machine.execRtInstall p s
  | .refclkLoss => Sys2Proof.Machine.execRefclkLoss s
  | .refclkReturn periods => Sys2Proof.Machine.execRefclkReturn periods s
  | .pllLockLoss => Sys2Proof.Machine.execPllLockLoss s
  | .pllRelock => Sys2Proof.Machine.execPllRelock s
  | .tbUsWrap => Sys2Proof.Machine.execTbUsWrap s
  | .paceRefresh ps => Sys2Proof.Machine.execPaceRefresh ps s
  | .sensorRefresh tj railMv => Sys2Proof.Machine.execSensorRefresh tj railMv s
  | .scrubRead struck => Sys2Proof.Machine.execScrubRead struck s
  | .timeoutExpiry t ch => Sys2Proof.Machine.execTimeoutExpiry t ch s
  | .lateArrival t ch => Sys2Proof.Machine.execLateArrival t ch s
  | .fastRead c addr len => Sys2Proof.Machine.execFastRead c addr len s
  | .fastRead4B c addr len => Sys2Proof.Machine.execFastRead4B c addr len s
  | .quadOutputRead c addr len => Sys2Proof.Machine.execQuadOutputRead c addr len s
  | .quadOutputRead4B c addr len => Sys2Proof.Machine.execQuadOutputRead4B c addr len s
  | .quadIoRead c addr len => Sys2Proof.Machine.execQuadIoRead c addr len s
  | .quadIoRead4B c addr len => Sys2Proof.Machine.execQuadIoRead4B c addr len s
  | .octalDtrRead c addr len => Sys2Proof.Machine.execOctalDtrRead c addr len s
  | .pageProgram c addr data => Sys2Proof.Machine.execPageProgram c addr data s
  | .pageProgram4B c addr data => Sys2Proof.Machine.execPageProgram4B c addr data s
  | .quadInputPageProgram c addr data => Sys2Proof.Machine.execQuadInputPageProgram c addr data s
  | .quadInputPageProgram4B c addr data => Sys2Proof.Machine.execQuadInputPageProgram4B c addr data s
  | .erase4K c addr => Sys2Proof.Machine.execErase4K c addr s
  | .erase4K4B c addr => Sys2Proof.Machine.execErase4K4B c addr s
  | .erase32K c addr => Sys2Proof.Machine.execErase32K c addr s
  | .erase32K4B c addr => Sys2Proof.Machine.execErase32K4B c addr s
  | .erase64K c addr => Sys2Proof.Machine.execErase64K c addr s
  | .erase64K4B c addr => Sys2Proof.Machine.execErase64K4B c addr s
  | .chipErase c second => Sys2Proof.Machine.execChipErase c second s
  | .writeEnable c => Sys2Proof.Machine.execWriteEnable c s
  | .writeDisable c => Sys2Proof.Machine.execWriteDisable c s
  | .readStatus c len => Sys2Proof.Machine.execReadStatus c len s
  | .writeStatus c => Sys2Proof.Machine.execWriteStatus c s
  | .clearFlags c => Sys2Proof.Machine.execClearFlags c s
  | .readId c len => Sys2Proof.Machine.execReadId c len s
  | .readSfdp c addr len => Sys2Proof.Machine.execReadSfdp c addr len s
  | .writeVolatileConfiguration c addr value => Sys2Proof.Machine.execWriteVolatileConfiguration c addr value s
  | .enterQpi c => Sys2Proof.Machine.execEnterQpi c s
  | .exitQpi c => Sys2Proof.Machine.execExitQpi c s
  | .resetEnable c => Sys2Proof.Machine.execResetEnable c s
  | .reset c => Sys2Proof.Machine.execReset c s
  | .enter4ByteMode c => Sys2Proof.Machine.execEnter4ByteMode c s
  | .exit4ByteMode c => Sys2Proof.Machine.execExit4ByteMode c s
  | .powerDown c => Sys2Proof.Machine.execPowerDown c s
  | .releasePowerDown c => Sys2Proof.Machine.execReleasePowerDown c s
  | .unsupportedCommand c op addr => Sys2Proof.Machine.execUnsupportedCommand c op addr s
  | .physicalModeSync ch => Sys2Proof.Machine.execPhysicalModeSync ch s
  | .physOpComplete ch cs e => Sys2Proof.Machine.execPhysOpComplete ch cs e s
  | .flashOpRetry ch => Sys2Proof.Machine.execFlashOpRetry ch s
  | .stageStoreExpiry ch => Sys2Proof.Machine.execStageStoreExpiry ch s
  | .gapFill ch => Sys2Proof.Machine.execGapFill ch s
  | .pinFill ch haddr => Sys2Proof.Machine.execPinFill ch haddr s
  | .nodeFetch ch cs line => Sys2Proof.Machine.execNodeFetch ch cs line s
  | .gleaningRead ch => Sys2Proof.Machine.execGleaningRead ch s
  | .deviceReadComplete ch e ball upsets => Sys2Proof.Machine.execDeviceReadComplete ch e ball upsets s
  | .lineCheckComplete ch cs line => Sys2Proof.Machine.execLineCheckComplete ch cs line s
  | .lineStale ch cs line => Sys2Proof.Machine.execLineStale ch cs line s
  | .preloadComplete ch => Sys2Proof.Machine.execPreloadComplete ch s
  | .flush p => Sys2Proof.Machine.execFlush p s
  | .hayloftReqStateWrite p value => Sys2Proof.Machine.execHayloftReqStateWrite p value s
  | .channelReqStateWrite p ch value csLow => Sys2Proof.Machine.execChannelReqStateWrite p ch value csLow s
  | .reqStateBoundary node => Sys2Proof.Machine.execReqStateBoundary node s
  | .rediscovery ch found0 found1 => Sys2Proof.Machine.execRediscovery ch found0 found1 s
  | .platPgFall ch => Sys2Proof.Machine.execPlatPgFall ch s
  | .platPgRise ch => Sys2Proof.Machine.execPlatPgRise ch s
  | .clearHold p ch => Sys2Proof.Machine.execClearHold p ch s
  | .reinstate p ch failing => Sys2Proof.Machine.execReinstate p ch failing s
  | .fallowReinstate p failing => Sys2Proof.Machine.execFallowReinstate p failing s
  | .fallowReqStateWrite p value => Sys2Proof.Machine.execFallowReqStateWrite p value s
  | .hotTakeoverSwitch ch => Sys2Proof.Machine.execHotTakeoverSwitch ch s
  | .coldTakeoverConnect ch marchPass => Sys2Proof.Machine.execColdTakeoverConnect ch marchPass s
  | .fallowHandback ch => Sys2Proof.Machine.execFallowHandback ch s
  | .indexWordReload mem word => Sys2Proof.Machine.execIndexWordReload mem word s
  | .channelRelease ch gpio => Sys2Proof.Machine.execChannelRelease ch gpio s
  | .relDelayExpiry ch gpio => Sys2Proof.Machine.execRelDelayExpiry ch gpio s
  | .depTimeoutExpiry ch => Sys2Proof.Machine.execDepTimeoutExpiry ch s
  | .commit p => Sys2Proof.Machine.execCommit p s
  | .discard p => Sys2Proof.Machine.execDiscard p s
  | .check p => Sys2Proof.Machine.execCheck p s
  | .ruleDataWrite p row => Sys2Proof.Machine.execRuleDataWrite p row s
  | .ruleDomainWrite p offset data => Sys2Proof.Machine.execRuleDomainWrite p offset data s
  | .registerWrite p index sub value => Sys2Proof.Machine.execRegisterWrite p index sub value s
  | .writeBlock p index sub offset data => Sys2Proof.Machine.execWriteBlock p index sub offset data s
  | .configSetSave e => Sys2Proof.Machine.execConfigSetSave e s
  | .vaultReqStateWrite p value => Sys2Proof.Machine.execVaultReqStateWrite p value s
  | .vaultReinstate p attempt info => Sys2Proof.Machine.execVaultReinstate p attempt info s
  | .vaultIoComplete e => Sys2Proof.Machine.execVaultIoComplete e s
  | .stileWriteComplete e => Sys2Proof.Machine.execStileWriteComplete e s
  | .archiveWrite e => Sys2Proof.Machine.execArchiveWrite e s
  | .format p => Sys2Proof.Machine.execFormat p s
  | .stageClear p => Sys2Proof.Machine.execStageClear p s
  | .restore p => Sys2Proof.Machine.execRestore p s
  | .manifestWrite p offset data => Sys2Proof.Machine.execManifestWrite p offset data s
  | .admitManifest p => Sys2Proof.Machine.execAdmitManifest p s
  | .partDataWrite p offset data => Sys2Proof.Machine.execPartDataWrite p offset data s
  | .apply p => Sys2Proof.Machine.execApply p s
  | .applyPart fail => Sys2Proof.Machine.execApplyPart fail s
  | .abort p => Sys2Proof.Machine.execAbort p s
  | .activate p => Sys2Proof.Machine.execActivate p s
  | .confirm p => Sys2Proof.Machine.execConfirm p s
  | .revert p => Sys2Proof.Machine.execRevert p s
  | .trialExpiry => Sys2Proof.Machine.execTrialExpiry s
  | .dgAlloc p => Sys2Proof.Machine.execDgAlloc p s
  | .dgDeclLength p b value => Sys2Proof.Machine.execDgDeclLength p b value s
  | .dgData p b offset data => Sys2Proof.Machine.execDgData p b offset data s
  | .absorbKey p b value => Sys2Proof.Machine.execAbsorbKey p b value s
  | .dgFinish p b => Sys2Proof.Machine.execDgFinish p b s
  | .exportState p b => Sys2Proof.Machine.execExportState p b s
  | .importState p b => Sys2Proof.Machine.execImportState p b s
  | .dgRelease p b => Sys2Proof.Machine.execDgRelease p b s
  | .engineParityError cipher unit => Sys2Proof.Machine.execEngineParityError cipher unit s
  | .cxAlloc p => Sys2Proof.Machine.execCxAlloc p s
  | .cxDeclLength p c value => Sys2Proof.Machine.execCxDeclLength p c value s
  | .cxData p c offset data => Sys2Proof.Machine.execCxData p c offset data s
  | .cxFinish p c => Sys2Proof.Machine.execCxFinish p c s
  | .cxRelease p c => Sys2Proof.Machine.execCxRelease p c s
  | .ksGenerate p => Sys2Proof.Machine.execKsGenerate p s
  | .ksDerive p slot => Sys2Proof.Machine.execKsDerive p slot s
  | .ksWrap p slot => Sys2Proof.Machine.execKsWrap p slot s
  | .ksUnwrap p slot => Sys2Proof.Machine.execKsUnwrap p slot s
  | .ksImportPlain p => Sys2Proof.Machine.execKsImportPlain p s
  | .ksClear p => Sys2Proof.Machine.execKsClear p s
  | .dssProvision p value window burnOk => Sys2Proof.Machine.execDssProvision p value window burnOk s
  | .keyReload p => Sys2Proof.Machine.execKeyReload p s
  | .pkSlotLimbsWrite p value => Sys2Proof.Machine.execPkSlotLimbsWrite p value s
  | .pkWipe p => Sys2Proof.Machine.execPkWipe p s
  | .pkBufWrite p offset data => Sys2Proof.Machine.execPkBufWrite p offset data s
  | .add p w => Sys2Proof.Machine.execAdd p w s
  | .sub p w => Sys2Proof.Machine.execSub p w s
  | .mul p w => Sys2Proof.Machine.execMul p w s
  | .inv p w => Sys2Proof.Machine.execInv p w s
  | .exp p w => Sys2Proof.Machine.execExp p w s
  | .expv p w => Sys2Proof.Machine.execExpv p w s
  | .reduce p w => Sys2Proof.Machine.execReduce p w s
  | .load p w => Sys2Proof.Machine.execLoad p w s
  | .store p w => Sys2Proof.Machine.execStore p w s
  | .compare p w => Sys2Proof.Machine.execCompare p w s
  | .keyload p w => Sys2Proof.Machine.execKeyload p w s
  | .keypub p w => Sys2Proof.Machine.execKeypub p w s
  | .rand p w => Sys2Proof.Machine.execRand p w s
  | .seal p w => Sys2Proof.Machine.execSeal p w s
  | .verify p w => Sys2Proof.Machine.execVerify p w s
  | .verifyGate p w => Sys2Proof.Machine.execVerifyGate p w s
  | .toKey p w => Sys2Proof.Machine.execToKey p w s
  | .pkCommandDispatch => Sys2Proof.Machine.execPkCommandDispatch s
  | .pkeParityError => Sys2Proof.Machine.execPkeParityError s
  | .startupTestComplete src w => Sys2Proof.Machine.execStartupTestComplete src w s
  | .sourceAlarm apt => Sys2Proof.Machine.execSourceAlarm apt s
  | .windowPass w => Sys2Proof.Machine.execWindowPass w s
  | .autoReseed => Sys2Proof.Machine.execAutoReseed s
  | .drbgExpiry byCount => Sys2Proof.Machine.execDrbgExpiry byCount s
  | .drbgParityError => Sys2Proof.Machine.execDrbgParityError s
  | .reseed p w => Sys2Proof.Machine.execReseed p w s
  | .srcReinstate p src w => Sys2Proof.Machine.execSrcReinstate p src w s
  | .privateWireRequest consumer delivered => Sys2Proof.Machine.execPrivateWireRequest consumer delivered s
  | .rawWordRead p => Sys2Proof.Machine.execRawWordRead p s
  | .rawBlockRead p count => Sys2Proof.Machine.execRawBlockRead p count s
  | .rawSelectWrite p value => Sys2Proof.Machine.execRawSelectWrite p value s
  | .testPatternWrite p value => Sys2Proof.Machine.execTestPatternWrite p value s
  | .getVersion r => Sys2Proof.Machine.execGetVersion r s
  | .getCapabilities r => Sys2Proof.Machine.execGetCapabilities r s
  | .negotiateAlgorithms r => Sys2Proof.Machine.execNegotiateAlgorithms r s
  | .getDigests r => Sys2Proof.Machine.execGetDigests r s
  | .getCertificate r => Sys2Proof.Machine.execGetCertificate r s
  | .spdmChallenge r => Sys2Proof.Machine.execSpdmChallenge r s
  | .getMeasurements r => Sys2Proof.Machine.execGetMeasurements r s
  | .keyExchange r => Sys2Proof.Machine.execKeyExchange r s
  | .finish r => Sys2Proof.Machine.execFinish r s
  | .endSession r => Sys2Proof.Machine.execEndSession r s
  | .spdmUnsupportedRequest r code => Sys2Proof.Machine.execSpdmUnsupportedRequest r code s
  | .securedMessage port session record => Sys2Proof.Machine.execSecuredMessage port session record s
  | .measurementRecompute block => Sys2Proof.Machine.execMeasurementRecompute block s
  | .retainedClear p => Sys2Proof.Machine.execRetainedClear p s
  | .fence p => Sys2Proof.Machine.execFence p s
  | .mainPowerLoss => Sys2Proof.Machine.execMainPowerLoss s
  | .mainPowerReturn => Sys2Proof.Machine.execMainPowerReturn s
  | .heathPowerLoss => Sys2Proof.Machine.execHeathPowerLoss s
  | .heathPowerUp => Sys2Proof.Machine.execHeathPowerUp s
  | .heathSampleTick x => Sys2Proof.Machine.execHeathSampleTick x s
  | .monitorWindowExpiry m => Sys2Proof.Machine.execMonitorWindowExpiry m s
  | .heathOscMeasure hz => Sys2Proof.Machine.execHeathOscMeasure hz s
  | .tamperClear p => Sys2Proof.Machine.execTamperClear p s
  | .cellArm p => Sys2Proof.Machine.execCellArm p s
  | .heathLock p => Sys2Proof.Machine.execHeathLock p s
  | .wdCheckin p task => Sys2Proof.Machine.execWdCheckin p task s
  | .wdService p key => Sys2Proof.Machine.execWdService p key s
  | .wdBite => Sys2Proof.Machine.execWdBite s
  | .wdLock p => Sys2Proof.Machine.execWdLock p s
  | .lockstepMismatch => Sys2Proof.Machine.execLockstepMismatch s
  | .sramDed => Sys2Proof.Machine.execSramDed s
  | .tuStart p u => Sys2Proof.Machine.execTuStart p u s
  | .tuStop p u => Sys2Proof.Machine.execTuStop p u s
  | .tuExpiry u => Sys2Proof.Machine.execTuExpiry u s
  | .cuAlloc p => Sys2Proof.Machine.execCuAlloc p s
  | .cuStart p u => Sys2Proof.Machine.execCuStart p u s
  | .cuFeed8 p u value => Sys2Proof.Machine.execCuFeed8 p u value s
  | .cuFeed16 p u value => Sys2Proof.Machine.execCuFeed16 p u value s
  | .cuFeed40 p u value => Sys2Proof.Machine.execCuFeed40 p u value s
  | .cuFeedBlock p u data => Sys2Proof.Machine.execCuFeedBlock p u data s
  | .cuFinish p u => Sys2Proof.Machine.execCuFinish p u s
  | .cuRelease p u => Sys2Proof.Machine.execCuRelease p u s
  | .cuParityError u => Sys2Proof.Machine.execCuParityError u s
  | .lcAdvance p target => Sys2Proof.Machine.execLcAdvance p target s
  | .lcScrap p value => Sys2Proof.Machine.execLcScrap p value s
  | .challenge p => Sys2Proof.Machine.execChallenge p s
  | .dbgUnlock p => Sys2Proof.Machine.execDbgUnlock p s
  | .keyBurn p readback => Sys2Proof.Machine.execKeyBurn p readback s
  | .keyRevoke p slot => Sys2Proof.Machine.execKeyRevoke p slot s
  | .fuseBurn p => Sys2Proof.Machine.execFuseBurn p s
  | .tapReset => Sys2Proof.Machine.execTapReset s
  | .extest cells => Sys2Proof.Machine.execExtest cells s
  | .samplePreload cells => Sys2Proof.Machine.execSamplePreload cells s
  | .idcode => Sys2Proof.Machine.execIdcode s
  | .tapChallenge => Sys2Proof.Machine.execTapChallenge s
  | .tapToken token => Sys2Proof.Machine.execTapToken token s
  | .dbgResult => Sys2Proof.Machine.execDbgResult s
  | .coreDebug => Sys2Proof.Machine.execCoreDebug s
  | .bypass => Sys2Proof.Machine.execBypass s
  | .mctpPacket port pecOk packet => Sys2Proof.Machine.execMctpPacket port pecOk packet s
  | .mgmtAssemblyExpiry port => Sys2Proof.Machine.execMgmtAssemblyExpiry port s
  | .responseRead port => Sys2Proof.Machine.execResponseRead port s
  | .responseExpiry port => Sys2Proof.Machine.execResponseExpiry port s
  | .setEndpointId port op eid => Sys2Proof.Machine.execSetEndpointId port op eid s
  | .getEndpointId port => Sys2Proof.Machine.execGetEndpointId port s
  | .getMctpVersionSupport port msgType => Sys2Proof.Machine.execGetMctpVersionSupport port msgType s
  | .getMessageTypeSupport port => Sys2Proof.Machine.execGetMessageTypeSupport port s
  | .getVendorDefinedMessageSupport port selector => Sys2Proof.Machine.execGetVendorDefinedMessageSupport port selector s
  | .mctpUnsupportedCommand port code => Sys2Proof.Machine.execMctpUnsupportedCommand port code s
  | .entdaa port da => Sys2Proof.Machine.execEntdaa port da s
  | .setdasa port static da => Sys2Proof.Machine.execSetdasa port static da s
  | .setnewda port da => Sys2Proof.Machine.execSetnewda port da s
  | .rstdaa port => Sys2Proof.Machine.execRstdaa port s
  | .getpid port => Sys2Proof.Machine.execGetpid port s
  | .getbcr port => Sys2Proof.Machine.execGetbcr port s
  | .getdcr port => Sys2Proof.Machine.execGetdcr port s
  | .getstatus port => Sys2Proof.Machine.execGetstatus port s
  | .getmrl port => Sys2Proof.Machine.execGetmrl port s
  | .getmwl port => Sys2Proof.Machine.execGetmwl port s
  | .setmrl port value => Sys2Proof.Machine.execSetmrl port value s
  | .setmwl port value => Sys2Proof.Machine.execSetmwl port value s
  | .enec port => Sys2Proof.Machine.execEnec port s
  | .disec port => Sys2Proof.Machine.execDisec port s
  | .read p index sub => Sys2Proof.Machine.execRead p index sub s
  | .readBlock p index sub offset count => Sys2Proof.Machine.execReadBlock p index sub offset count s
  | .poll p entries => Sys2Proof.Machine.execPoll p entries s
  | .faWindowRead p offset count => Sys2Proof.Machine.execFaWindowRead p offset count s
  | .bist p m pass => Sys2Proof.Machine.execBist p m pass s
  | .inject p m => Sys2Proof.Machine.execInject p m s
  | .unitTest p code pass => Sys2Proof.Machine.execUnitTest p code pass s
  | .pkCommandComplete => Sys2Proof.Machine.execPkCommandComplete s
  | .faReadExpiry p => Sys2Proof.Machine.execFaReadExpiry p s

end Sys2Proof.Machine
end

