-- ==== Sys2Proof/Safety.lean ====
section
/-! DEFINITION. The terms claims are stated in: what no ordinary command may touch, a request that the dictionary admits,
the state after a command. -/
namespace Sys2Proof.Machine

/-- What stands under every command: the queue, the time base and its clocks, the reset inputs, the phase
and the steps completed. -/
structure Ground where
  pending : List Instr
  now : Nat
  subUs : Nat
  tbUs : U40
  tbEpoch : U40
  refclk : Bool
  pllLock : Bool
  porPin : Bool
  porN : Bool
  straps : BitVec 4
  phase : Phase
  steps : List (Nat × U40)
  halted : Bool
deriving DecidableEq, Repr

/-- The ground of a state. -/
def ground (s : State) : Ground :=
  ⟨s.pending, s.now, s.subUs, s.tbUs, s.tbEpoch, s.refclk, s.pllLock, s.porPin, s.porN, s.straps, s.phase, s.steps,
    s.halted⟩

/-- The bytes of the twelve physical flashes, by channel. -/
def cellsOf (s : State) : Vector (List (Nat × Byte) × List (Nat × Byte)) 6 :=
  s.chans.map (fun c => (c.flash0.cells, c.flash1.cells))

/-- Every byte memory is in canonical form: the flashes, the eMMC's user area and RPMB, the OTP. -/
def canonical (s : State) : Prop :=
  (∀ c ∈ s.chans.toList, Memory.wf 0xFF c.flash0.cells = true ∧ Memory.wf 0xFF c.flash1.cells = true) ∧
  Memory.wf 0 s.vault.user = true ∧ Memory.wf 0 s.vault.rpmb.cells = true ∧ Memory.wf 0 s.lc.otp = true

/-- The clocks and the reset inputs stand in order: no lock without REFCLK, no REFCLK in reset, no start without the ball. -/
def clocksInOrder (s : State) : Prop :=
  (s.pllLock = true → s.refclk = true) ∧ (s.refclk = true → s.porN = true) ∧ (s.porN = true → s.porPin = true)

/-- Every waiting command is well formed. -/
def queueFits (s : State) : Prop := ∀ i ∈ s.pending, i.wf = true

/-- The state after an outcome that goes on; `s` where it stops. -/
def after (o : Host.Outcome State Fault Refusal) (s : State) : State :=
  match o with
  | .next t => t
  | _ => s

/-- A dictionary request that is executed: its port is reached and free, the control fabric carries it whole, and checks
8 to 11 of R525 pass. -/
def admitted (s : State) (p : Port) (v : Svc) (i sub n : Nat) : Bool :=
  servable s p && flipsOf s 7 0 == 0 && opCheck s p v i sub n == eOk

/-- A host command that nothing disturbs: its channel is RUNNING, no gap is open, no device-initiated read is cut off, the
walkers agree and no stored word is struck. -/
def hostClean (h : HostCmd) (s : State) : Bool :=
  running (chanAt s h.ch) && !gapOpen s h.ch && (chanAt s h.ch).devRead.isNone && h.twin.isNone && !h.shadow &&
    h.upsets.isEmpty

/-- What every host command ends with: the ball checks, the rise of the chip select, and what waited for it. -/
def hostEnd (h : HostCmd) (s : State) : State :=
  finish (csRise h.ch (flashBallCheck h.ch h.flashBall (hostBallCheck h.ch h.hostBall s)))

/-- The virtual flash's arming after a command that is not a reset-enable. -/
def disarm (c : Chan) (s : State) : State := modVf c (fun v => { v with rstArmed := false }) s

/-- The mode state lists the command; in 8D-8D-8D the second byte is the complement of its opcode. -/
def modeLists (s : State) (h : HostCmd) (op : Nat) (modes : List BusMode) : Prop :=
  (chanAt s h.ch).vf.mode ∈ modes ∧ ((chanAt s h.ch).vf.mode = .octal → h.second = ~~~(BitVec.ofNat 8 op))

end Sys2Proof.Machine
end

