-- ==== Sys2Proof/Certificates/Slice0/Obligations.lean ====
section
/-! DEFINITION. The statements for the provers. -/
open Sys2Proof Sys2Proof.Machine

/-- A step takes the command at the front of the queue and runs it on the state with the queue's rest. -/
def Obligations.StepRunsFront : Prop :=
  ∀ (s : State) (c : Instr), step { s with pending := c :: s.pending } = exec c s

/-- R17, R18 and the model's choice of log entry 8: on an empty queue with no link message to take, a step is one
period of REFCLK: the tick is counted while REFCLK is present, every 25th raises TB_US, and without REFCLK nothing
changes. -/
def Obligations.EmptyQueueIsTime : Prop :=
  ∀ s : State, s.pending = [] → serveLinks (tick s) = tick s →
    (s.refclk = false → step s = .next s) ∧
    (s.refclk = true → s.porN = true → s.subUs < 24 → step s = .next { s with now := s.now + 1, subUs := s.subUs + 1 }) ∧
    (s.refclk = true → s.porN = true → s.subUs = 24 → s.tbUs ≠ BitVec.allOnes 40 →
      step s = .next { s with now := s.now + 1, subUs := 0, tbUs := s.tbUs + 1 })

/-- R15, R17, R218: what reset leaves: phase START with no step completed, no clock, time 0, an empty queue and
journal, no key, every channel OFF, and every byte of the flashes erased. -/
def Obligations.ResetLeaves : Prop :=
  State.reset.pending = [] ∧ State.reset.phase = .start ∧ State.reset.steps = [] ∧ State.reset.tbUs = 0 ∧
  State.reset.tbEpoch = 0 ∧ State.reset.refclk = false ∧ State.reset.pllLock = false ∧ State.reset.keys.slots = [] ∧
  State.reset.heath.powered = true ∧ State.reset.random.st = 0 ∧ State.reset.wd.running = false ∧
  (∀ c : Chan, (chanAt State.reset c).eff = .off ∧
    ∀ a, Mem.read 0xFF (chanAt State.reset c).flash0.cells a = 0xFF ∧ Mem.read 0xFF (chanAt State.reset c).flash1.cells a = 0xFF)

/-- The invariants hold at reset. -/
def Obligations.ResetIsInOrder : Prop :=
  queueFits State.reset ∧ clocksInOrder State.reset ∧ canonical State.reset

/-- From every state in order a step leads to a state in order: the waiting commands stay well formed, the PLL never
locks without REFCLK, REFCLK never stands in reset, and every byte memory keeps its canonical form. -/
def Obligations.EveryStepKeepsOrder : Prop :=
  ∀ s t : State, queueFits s → clocksInOrder s → canonical s → step s = .next t →
    queueFits t ∧ clocksInOrder t ∧ canonical t

/-- No command stops the block, and none touches the queue: every command in every state leads to a next state whose
queue is the one it had. -/
def Obligations.CommandsGoOn : Prop :=
  ∀ (c : Instr) (s : State), ∃ t, exec c s = .next t ∧ t.pending = s.pending

/-- R16, R17, R218, R220: only the supply, reset, clock and boot commands, a channel's release, a window of entropy
and a TB_US wrap touch the time, the clocks, the reset inputs, the phase and the completed steps. -/
def Obligations.GroundIsKept : Prop :=
  ∀ (c : Instr) (s t : State), exec c s = .next t →
    (match c with
      | .porNRise _ | .porNFall | .mainPowerLoss | .mainPowerReturn | .deviceResetTakesEffect | .clock .. | .heath
      | .lifecycle | .kat _ | .entropy .. | .vault .. | .runtime .. | .discovery .. | .policy _ | .coreReset .. | .refclkLoss
      | .refclkReturn _ | .pllLockLoss | .pllRelock | .tbUsWrap | .channelRelease .. | .startupTestComplete ..
      | .windowPass _ => True
      | _ => ground t = ground s)

/-- R16, R74, R196: only the end of a physical operation, a late one, an update's part, a discovery or the restart of
the cores changes a byte of the twelve flashes. -/
def Obligations.FlashBytesAreKept : Prop :=
  ∀ (c : Instr) (s t : State), exec c s = .next t →
    (match c with
      | .physOpComplete .. | .lateArrival .. | .applyPart .. | .rediscovery .. | .discovery .. | .coreReset .. => True
      | _ => cellsOf t = cellsOf s)

/-- R525: a request that its port serves and a check refuses is answered with the check's code and changes nothing
else; one that its port does not serve is no occurrence. -/
def Obligations.RefusedRequests : Prop :=
  ∀ (s : State) (p : Port) (v : Svc) (i sub n : Nat) (rule : State → U8 × State),
    (servable s p = false → requestOp p v i sub n rule s = .next s) ∧
    (servable s p = true → flipsOf s 7 0 = 0 → opCheck s p v i sub n ≠ eOk →
      requestOp p v i sub n rule s = .next (reply p (opCheck s p v i sub n) s)) ∧
    (admitted s p v i sub n = true → requestOp p v i sub n rule s = .next (reply p (rule s).1 (rule s).2))

/-- R218, R220, R573: POR_N_RISE with main power present samples the straps and starts the power-up sequence from the
values of a power-on reset; without main power it only samples; POR_N_FALL and MAIN_POWER_LOSS put every part but the
Heath domain into reset; MAIN_POWER_RETURN with POR_N's ball high starts the sequence. OTP and the flashes' bytes
stay. R244, R246, R247: DEVICE_RESET makes a DEVICE reset due with RESET_CAUSE 6 and answers OK, and does nothing
else; DEVICE_RESET_TAKES_EFFECT then restarts the sequence, counts the reset, keeps time, clocks, OTP, flash bytes and
the debug authorisation, and counts a boot attempt for causes 2 to 5 outside SERVICE. -/
def Obligations.PowerAndReset : Prop :=
  (
  (∀ (s : State) (straps : BitVec 4), s.porPin = false → s.heath.mainPower = true →
    ∃ t, exec (.porNRise straps) s = .next t ∧ t.porPin = true ∧ t.porN = true ∧ t.straps = straps ∧ t.phase = .start ∧
      t.steps = [] ∧ t.resetCause = 0x01 ∧ t.refclk = false ∧ t.tbUs = 0 ∧ t.bootResult = 0 ∧
      t.heath = { s.heath with oscHz := 0 } ∧ t.lc = { otp := s.lc.otp } ∧ t.vault.user = s.vault.user ∧
      t.vault.rpmb = s.vault.rpmb ∧ cellsOf t = cellsOf s ∧ t.pending = s.pending) ∧
  (∀ (s : State) (straps : BitVec 4), s.porPin = false → s.heath.mainPower = false →
    exec (.porNRise straps) s = .next { s with porPin := true, straps := straps }) ∧
  (∀ s : State, s.porN = true →
    ∃ t, exec .porNFall s = .next t ∧ t.porPin = false ∧ t.porN = false ∧ t.phase = .start ∧ t.steps = [] ∧
      (∀ c : Chan, (t.chans[c]).eff = .off ∧ holdLevel t.chans[c] = false) ∧ t.journal = {} ∧ t.cfg = [] ∧
      t.heath = { s.heath with oscHz := 0 } ∧ t.lc = { otp := s.lc.otp } ∧ t.vault.user = s.vault.user ∧
      t.vault.rpmb = s.vault.rpmb ∧ cellsOf t = cellsOf s ∧ t.pending = s.pending) ∧
  (∀ s : State, s.heath.mainPower = true → s.porN = true →
    ∃ t, exec .mainPowerLoss s = .next t ∧ t.porN = false ∧ t.porPin = s.porPin ∧ t.phase = .start ∧ t.steps = [] ∧
      (∀ c : Chan, (t.chans[c]).eff = .off ∧ holdLevel t.chans[c] = false) ∧
      t.heath = { s.heath with mainPower := false, oscHz := 0 } ∧ t.lc = { otp := s.lc.otp } ∧
      cellsOf t = cellsOf s ∧ t.pending = s.pending) ∧
  (∀ s : State, s.heath.mainPower = false → s.heath.powered = true → s.porPin = true →
    ∃ t, exec .mainPowerReturn s = .next t ∧ t.porN = true ∧ t.phase = .start ∧ t.steps = [] ∧ t.resetCause = 0x01 ∧
      t.heath = { s.heath with mainPower := true, oscHz := 0 } ∧ t.lc = { otp := s.lc.otp } ∧
      cellsOf t = cellsOf s ∧ t.pending = s.pending) ∧
  (∀ s : State, s.heath.mainPower = false → s.heath.powered = true → s.porPin = false →
    exec .mainPowerReturn s = .next (modHeath (fun h => { h with mainPower := true }) s))) ∧
  (
  (∀ (s : State) (p : Port), admitted s p .exec 0x1101 8 1 = true →
    exec (.deviceReset p) s = .next (reply p eOk { s with deviceResetDue := some (s.deviceResetDue.getD 6) })) ∧
  (∀ (s : State) (c : U8), s.deviceResetDue = some c → s.porN = true →
    ∃ t, exec .deviceResetTakesEffect s = .next t ∧ t.phase = .start ∧ t.steps = [] ∧ t.deviceResetDue = none ∧
      t.resetCause = c ∧ t.deviceResets = satInc s.deviceResets ∧ t.now = s.now ∧ t.tbUs = s.tbUs ∧ t.tbEpoch = s.tbEpoch ∧
      t.refclk = s.refclk ∧ t.porN = true ∧ t.lc.otp = s.lc.otp ∧ t.lc.dbgToken = s.lc.dbgToken ∧
      t.wd.running = false ∧ t.wd.bites = s.wd.bites ∧ t.wd.evCause = s.wd.evCause ∧
      (∀ k : Chan, (t.chans[k]).eff = .off) ∧ cellsOf t = cellsOf s ∧ t.heath = { s.heath with oscHz := 0 } ∧
      t.bootAttempts = (if s.phase ≠ .service ∧ 2 ≤ c.toNat ∧ c.toNat ≤ 5 then satInc s.bootAttempts else s.bootAttempts) ∧
      t.pending = s.pending))

/-- R220, R221, R222, R223: CLOCK completes with the lock, REFCLK in force and every source in its start-up test; a
wait without lock reports E_TIMEOUT and goes on. HEATH completes and empties the record. LIFECYCLE with a majority for
Maker to Returned completes and lets the management ports answer; for Scrapped it ends the sequence. -/
def Obligations.BootClockHeathLifecycle : Prop :=
  (∀ (s : State) (w : Nat), stepRuns s 1 = true → s.resetCause = 0x01 →
    ∃ t, exec (.clock w true) s = .next t ∧ t.refclk = true ∧ t.pllLock = true ∧ tget t.steps 1 = some s.tbUs ∧
      t.gapPeriods = 0 ∧ (sourceAt t 0).st = 1 ∧ (sourceAt t 1).st = 1 ∧ (sourceAt t 2).st = 1 ∧
      (wdtStart s = true → t.wd.running = true ∧ t.wd.recovery = true) ∧ (wdtStart s = false → t.wd = s.wd) ∧
      t.phase = s.phase ∧ t.tbUs = s.tbUs ∧ cellsOf t = cellsOf s ∧ t.heath = s.heath ∧ t.lc = s.lc) ∧
  (∀ (s : State) (w : Nat), stepRuns s 1 = true →
    ∃ t, exec (.clock w false) s = .next t ∧ ground t = ground s ∧ cellsOf t = cellsOf s ∧
      (s.bootResult = 0 → t.bootResult = BitVec.ofNat 40 (0x010F0000 + min w 0xFFFF))) ∧
  (∀ s : State, stepRuns s 2 = true →
    ∃ t, exec .heath s = .next t ∧ tget t.steps 2 = some s.tbUs ∧ t.heath.hrec = [] ∧ t.heath.hrecOverflow = 0 ∧
      t.heath.fresh = false ∧ t.phase = s.phase ∧ t.tbUs = s.tbUs ∧ cellsOf t = cellsOf s) ∧
  (∀ (s : State) (n : Nat), stepRuns s 3 = true → lcVote s = .majority n → n < 4 →
    ∃ t, exec .lifecycle s = .next t ∧ tget t.steps 3 = some s.tbUs ∧ t.lc.state = BitVec.ofNat 8 n ∧
      t.lc.vote = lcVoteWord s 0 ∧ t.mgmtUp = true ∧ t.testHonoured = (s.straps.getLsbD 0 && (n == 0 || n == 3)) ∧
      t.halted = false ∧ t.phase = s.phase ∧ cellsOf t = cellsOf s) ∧
  (∀ s : State, stepRuns s 3 = true → lcVote s = .majority 4 →
    ∃ t, exec .lifecycle s = .next t ∧ t.halted = true ∧ t.mgmtUp = false ∧ t.lc.state = 4 ∧ t.steps = s.steps ∧
      t.phase = s.phase ∧ cellsOf t = cellsOf s)

/-- R224, R225, R226, R242, R250: KAT with no failing attempt records ten passes and completes; ENTROPY with one
passing window per source and one more of the ACTIVE source instantiates the DRBG and completes; VAULT's first
successful attempt brings the vault ONLINE and completes, and a device that lacks a feature is reported E_REFUSED,
retires the vault and starts RECOVERY. -/
def Obligations.BootTestsAndVault : Prop :=
  (∀ s : State, stepRuns s 4 = true → s.katResults.length = 10 →
    ∃ t, exec (.kat []) s = .next t ∧ t.katResults = List.replicate 10 0 ∧ tget t.steps 4 = some s.tbUs ∧
      t.phase = s.phase ∧ cellsOf t = cellsOf s ∧ t.lc = s.lc) ∧
  (∀ s : State, stepRuns s 4 = true →
    ∃ t, exec (.kat [⟨6, 0, 4⟩]) s = .next t ∧ t.phase = .recovery ∧ t.pke.health.retired = true ∧ t.steps = s.steps) ∧
  (∀ (s : State) (a b c d : Window), stepRuns s 5 = true → (tget s.steps 3).isSome = true →
    (sourceAt s 0).st = 1 → (sourceAt s 1).st = 1 → (sourceAt s 2).st = 1 →
    s.random.pool = [] → s.random.st = 0 → s.random.wires = [] → s.random.wiresLate = [] → s.random.prWaiting = [] →
    s.random.reseedWaiting = false → windowFails 0 a = none → windowFails 1 b = none → windowFails 2 c = none →
    windowFails 0 d = none →
    ∃ t, exec (.entropy [a, d] [b] [c]) s = .next t ∧ (sourceAt t 0).st = 2 ∧ (sourceAt t 1).st = 3 ∧
      (sourceAt t 2).st = 3 ∧ t.random.instantiations = satInc s.random.instantiations ∧
      tget t.steps 5 = some s.tbUs ∧ t.phase = s.phase ∧ cellsOf t = cellsOf s) ∧
  (∀ (s : State) (a b : Bool) (r : List VaultTry) (info : EmmcInfo), stepRuns s 6 = true →
    ∃ t, exec (.vault (.up a b :: r) info) s = .next t ∧ t.vault.eff = 0 ∧ tget t.steps 6 = some s.tbUs ∧
      t.vault.user = s.vault.user ∧ t.vault.rpmb.cells = s.vault.rpmb.cells ∧ t.phase = s.phase ∧ cellsOf t = cellsOf s) ∧
  (∀ (s : State) (r : List VaultTry) (info : EmmcInfo), stepRuns s 6 = true →
    exec (.vault (.lacksFeature :: r) info) s = .next (toRecovery false (bootFail 6 eRefused 0
      (modVault (fun v => { v with eff := 3 }) (timeoutArrived 6 s)))) ∧
    (after (exec (.vault (.lacksFeature :: r) info) s) s).phase = .recovery)

/-- R227, R228, R242: RUNTIME with the copy that the boot partition names accepted runs it, hands the key service over
and completes; with neither copy readable, and with the sixth attempt spent, RECOVERY phase follows. DISCOVERY
completes with every chip select asked. POLICY enters SERVICE and completes both its steps, or a DEVICE reset to the
other runtime copy is due. CORE_RESET lets the cores run again. -/
def Obligations.BootRuntimeDiscoveryPolicy : Prop :=
  (∀ s : State, stepRuns s 7 = true → s.bootAttempts.toNat < 3 → s.vault.bootEnable ≠ 2 → copyVerdict s 0 false = none →
    ∃ t, exec (.runtime false false) s = .next t ∧ t.rtCopy = 0 ∧ t.rtDigest = sha384 (rtBytes { s with rtCopy := 0 }) ∧
      t.keys.romRuns = false ∧ tget t.steps 7 = some s.tbUs ∧
      t.phase = (if s.testHonoured then .test else .start) ∧ t.lc = s.lc ∧ t.chans = s.chans ∧ t.random = s.random) ∧
  (∀ s : State, stepRuns s 7 = true → s.bootAttempts.toNat < 6 →
    exec (.runtime true true) s = .next (toRecovery true (bootFail 7 eIntegrity 0x11 s)) ∧
    (after (exec (.runtime true true) s) s).phase = .recovery ∧
    (after (exec (.runtime true true) s) s).recoveryByRuntime = true) ∧
  (∀ (s : State) (a b : Bool), stepRuns s 7 = true → 6 ≤ s.bootAttempts.toNat →
    exec (.runtime a b) s = .next (toRecovery true (bootFail 7 eTimeout 0 s))) ∧
  (∀ (s : State) (found : List Found) (fails : List Chan), stepRuns s 8 = true →
    ∃ t, exec (.discovery found fails) s = .next t ∧ tget t.steps 8 = some s.tbUs ∧ t.phase = .start ∧
      t.pending = s.pending ∧ t.tbUs = s.tbUs) ∧
  (∀ (s : State) (e : WriteEnd), stepRuns s 9 = true → (policyRead e s).2.deviceResetDue ≠ some 7 →
    ∃ t, exec (.policy e) s = .next t ∧ t.phase = .service ∧ tget t.steps 9 = some s.tbUs ∧
      (tget t.steps 0x0A).isSome = true ∧ t.bootAttempts = 0 ∧ t.tbUs = s.tbUs ∧ cellsOf t = cellsOf s) ∧
  (∀ (s : State) (e : WriteEnd), stepRuns s 9 = true → (policyRead e s).2.deviceResetDue = some 7 →
    ∃ t, exec (.policy e) s = .next t ∧ t.phase = .start ∧ t.deviceResetDue = some 7 ∧ t.steps = s.steps ∧
      cellsOf t = cellsOf s) ∧
  (∀ s : State, s.coresDown = true → s.porN = true → s.deviceResetDue = none → s.coresHeld = false → s.refclk = true →
    s.vault.eff = 0 → runtimeDone s = true → s.phase ≠ .recovery → s.rtCopy = 0 →
    copyVerdict (journalDrain { s with coresDown := false }) 0 false = none →
    ∃ t, exec (.coreReset false false) s = .next t ∧ t.coresDown = false ∧ t.rtCopy = 0 ∧ t.phase = s.phase ∧
      t.steps = s.steps ∧ t.lc = s.lc)

/-- R231: RT_IMAGE takes bytes in RECOVERY phase, a write at offset 0 beginning a new image, and answers E_STATE
outside it; RT_INSTALL writes an accepted image to both boot partitions and enables the first, and answers E_STATE
where RECOVERY was not entered for the runtime's sake. -/
def Obligations.RuntimeInstall : Prop :=
  (∀ (s : State) (p : Port) (off : U40) (data : List Byte), admitted s p .writeBlock 0x1103 0 data.length = true →
    s.phase = .recovery → off.toNat + data.length ≤ 0x200000 + 0x40 + 2048 →
    exec (.rtImageWrite p off data) s = .next (reply p eOk { s with
      rtImage := if off = 0 then data else patch s.rtImage off.toNat data })) ∧
  (∀ (s : State) (p : Port) (off : U40) (data : List Byte), admitted s p .writeBlock 0x1103 0 data.length = true →
    s.phase ≠ .recovery → exec (.rtImageWrite p off data) s = .next (reply p eState s)) ∧
  (∀ (s : State) (p : Port), admitted s p .exec 0x1103 1 1 = true → s.phase = .recovery → s.recoveryByRuntime = true →
    rtReject s s.rtImage = none →
    ∃ t, exec (.rtInstall p) s = .next t ∧ t.vault.bootA = s.rtImage ∧ t.vault.bootB = s.rtImage ∧ t.vault.bootEnable = 1 ∧
      t.rtInstallResult = 0 ∧ (portRegs t p).lastCode = eOk ∧ t.vault.user = s.vault.user ∧ t.rtImage = s.rtImage ∧
      t.chans = s.chans) ∧
  (∀ (s : State) (p : Port) (d : Nat) (c : U8), admitted s p .exec 0x1103 1 1 = true → s.phase = .recovery →
    s.recoveryByRuntime = true → rtReject s s.rtImage = some (d, c) →
    exec (.rtInstall p) s = .next (reply p c { s with rtInstallResult := c })) ∧
  (∀ (s : State) (p : Port), admitted s p .exec 0x1103 1 1 = true → s.recoveryByRuntime = false →
    exec (.rtInstall p) s = .next (reply p eState { s with rtInstallResult := eState }))

/-- R5, R18, R52, R53, R54, R74, R577: REFCLK_LOSS stops REFCLK and the PLL, counts the loss and opens a gap of no
period; REFCLK_RETURN ends it with its length in periods, saturated; PLL_LOCK_LOSS and PLL_RELOCK change the lock.
R20, R21, R22, R550: TB_US_WRAP takes TB_US from its last value to 0 and raises TB_EPOCH; PACE_REFRESH stores the
reading and its maximum, leaves an entry above 170 ps, and the next only after a reading below 160 ps; SENSOR_REFRESH
stores the temperatures and rails with their extremes. -/
def Obligations.ClocksAndSensors : Prop :=
  (
  (∀ s : State, s.refclk = true → s.porN = true →
    ∃ t, exec .refclkLoss s = .next t ∧ t.refclk = false ∧ t.pllLock = false ∧ t.gapPeriods = 0 ∧
      t.refclkLosses = satInc s.refclkLosses ∧ t.tbUs = s.tbUs ∧ t.now = s.now ∧ t.phase = s.phase ∧ t.keys = s.keys ∧
      t.lc = s.lc ∧ cellsOf t = cellsOf s) ∧
  (∀ (s : State) (n : Nat), s.refclk = false → s.porN = true → clockDone s = true →
    ∃ t, exec (.refclkReturn n) s = .next t ∧ t.refclk = true ∧ t.gapPeriods = 0 ∧
      t.refclkLastGap = BitVec.ofNat 32 (min (s.gapPeriods + n) (2 ^ 32 - 1)) ∧ t.tbUs = s.tbUs ∧ t.pllLock = s.pllLock ∧
      t.phase = s.phase ∧ cellsOf t = cellsOf s) ∧
  (∀ s : State, s.pllLock = true → s.refclk = true → s.porN = true →
    ∃ t, exec .pllLockLoss s = .next t ∧ t.pllLock = false ∧ t.refclk = true ∧ t.tbUs = s.tbUs ∧ t.phase = s.phase ∧
      cellsOf t = cellsOf s) ∧
  (∀ s : State, s.pllLock = false → s.refclk = true → s.porN = true → clockDone s = true →
    ∃ t, exec .pllRelock s = .next t ∧ t.pllLock = true ∧ t.refclk = true ∧ t.tbUs = s.tbUs ∧ t.phase = s.phase ∧
      cellsOf t = cellsOf s)) ∧
  (
  (∀ s : State, s.refclk = true → s.porN = true → s.tbUs = BitVec.allOnes 40 →
    exec .tbUsWrap s = .next { s with tbUs := 0, tbEpoch := s.tbEpoch + 1, subUs := s.subUs - 25 }) ∧
  (∀ (s : State) (ps : U16), s.refclk = true → s.porN = true → 170 < ps.toNat → s.paceArmed = true →
    exec (.paceRefresh ps) s = .next (notice 0x02 false 0x1110 0 ps.toNat 0 { s with
      pacePs := ps, paceMaxPs := if s.paceMaxPs.toNat < ps.toNat then ps else s.paceMaxPs, paceArmed := false })) ∧
  (∀ (s : State) (ps : U16), s.refclk = true → s.porN = true → (ps.toNat ≤ 170 ∨ s.paceArmed = false) →
    exec (.paceRefresh ps) s = .next { s with
      pacePs := ps, paceMaxPs := if s.paceMaxPs.toNat < ps.toNat then ps else s.paceMaxPs,
      paceArmed := s.paceArmed || ps.toNat < 160 }) ∧
  (∀ (s : State) (tj : List Int) (mv : List U16), s.refclk = true → s.porN = true → tj.length = 8 → mv.length = 7 →
    s.tj.length = 8 → s.tjMax.length = 8 → s.railMv.length = 7 → s.railMin.length = 7 → s.railMax.length = 7 →
    ∃ t, exec (.sensorRefresh tj mv) s = .next t ∧ t.tj = tj ∧ t.railMv = mv ∧
      (∀ i < 8, t.tjMax.getD i 0 = max (s.tjMax.getD i 0) (tj.getD i 0)) ∧
      (∀ i < 7, (t.railMin.getD i 0).toNat = min (s.railMin.getD i 0).toNat (mv.getD i 0).toNat) ∧
      (∀ i < 7, (t.railMax.getD i 0).toNat = max (s.railMax.getD i 0).toNat (mv.getD i 0).toNat) ∧
      ground t = ground s ∧ t.chans = s.chans ∧ t.journal = s.journal))

/-- R35, R36, R38, R39, R40: SCRUB_READ reads the next word of the pass; a whole word is left as it is, a word that
one flipped bit has struck is corrected and counted, and the last word of the memories ends the pass. R26, R27, R476,
R477, R520: TIMEOUT_EXPIRY ends the wait that its timeout bounds: the device read fails, the port's partial message is
dropped, discovery's timeout is counted, the vault command fails, the wire request is given up. LATE_ARRIVAL counts
the late event and discards it. -/
def Obligations.ScrubAndTimeouts : Prop :=
  (
  (∀ s : State, s.refclk = true → s.porN = true → flipsOf s (scrubPlace s.scrubPos).1 (scrubPlace s.scrubPos).2 = 0 →
    s.scrubPos + 1 < scrubTotal →
    exec (.scrubRead none) s = .next (finishAll { s with scrubPos := s.scrubPos + 1 })) ∧
  (∀ s : State, s.refclk = true → s.porN = true → flipsOf s (scrubPlace s.scrubPos).1 (scrubPlace s.scrubPos).2 = 0 →
    s.scrubPos + 1 = scrubTotal →
    exec (.scrubRead none) s = .next (finishAll { s with
      scrubPos := 0, scrubPasses := satInc s.scrubPasses, scrubLast := s.tbUs })) ∧
  (∀ (s : State) (b : Nat), s.refclk = true → s.porN = true → b < 72 →
    flipsOf s (scrubPlace s.scrubPos).1 (scrubPlace s.scrubPos).2 = 0 → s.scrubPos + 1 < scrubTotal →
    ∃ t, exec (.scrubRead (some ((1 : CodeWord) <<< b))) s = .next (finishAll { t with scrubPos := s.scrubPos + 1 }) ∧
      flipsOf t (scrubPlace s.scrubPos).1 (scrubPlace s.scrubPos).2 = 0 ∧
      t.secCount = s.secCount.modify (scrubPlace s.scrubPos).1.val satInc ∧ t.dedCount = s.dedCount ∧
      t.journal = s.journal ∧ t.chans = s.chans ∧ t.hayloft = s.hayloft)) ∧
  (
  (∀ (s : State) (c : Chan) (r : DevRead), s.refclk = true → s.porN = true → (chanAt s c).devRead = some r →
    exec (.timeoutExpiry 0 c) s = .next (finishAll (deviceReadFail c r (timeoutExpired 0 s)))) ∧
  (∀ (s : State) (c : Chan), s.refclk = true → s.porN = true → (chanAt s c).eff = .off →
    exec (.timeoutExpiry 3 c) s = .next (timeoutExpired 3 s)) ∧
  (∀ (s : State) (c : Chan), s.refclk = true → s.porN = true → vaultReady s = true → s.vault.ops ≠ [] →
    exec (.timeoutExpiry 5 c) s = .next (vaultCmdFail (timeoutExpired 5 s))) ∧
  (∀ (s : State) (c : Chan) (k : Nat) (r : List Nat), s.refclk = true → s.porN = true → s.random.wires = k :: r →
    exec (.timeoutExpiry 7 c) s = .next (wireTimeout k (modRandom (fun x => { x with wires := r }) s))) ∧
  (∀ (s : State) (m : MPort), s.refclk = true → s.porN = true → (mportAt s m).partialMsg.isSome = true →
    ∃ t, exec (.timeoutExpiry 13 (chanOf m.val)) s = .next t ∧ (mportAt t m).partialMsg = none ∧
      (mportAt t m).assemblyDrops = satInc (mportAt s m).assemblyDrops ∧
      (t.timeouts[(13 : Fin 14)]).expired = satInc (s.timeouts[(13 : Fin 14)]).expired ∧
      (t.timeouts[(13 : Fin 14)]).last = 2 ∧ ground t = ground s ∧ t.chans = s.chans) ∧
  (∀ (s : State) (t : Fin 14) (c : Chan), s.porN = true → (s.timeouts[t]).late.toNat < (s.timeouts[t]).expired.toNat →
    t.val ≠ 7 → (chanAt s c).flash0.busy = none → (chanAt s c).flash1.busy = none →
    exec (.lateArrival t c) s = .next (finishAll (countLate t c s))))

/-- R58, R60, R64, R65, R73, R77, R155: a read whose bytes lie in one line and whose lookup meets no stored error
answers from the flash in PASS, from a VERIFIED or PINNED context in VERIFIED and SEALED, and with 0xFF bytes, SUBST
and a count where it is BARRED or not governed; each of the seven read commands in each mode state that lists it. R61,
R63, R87, R93, R184: a command of a host whose channel is not RUNNING drives nothing and has no effect but the rise of
its chip select; a command that its mode state does not list is counted, recorded and drives nothing. -/
def Obligations.HostReads : Prop :=
  (
  ∀ (h : HostCmd) (addr : U32) (len : Nat) (s : State), ∀ x ∈ [
      (Instr.fastRead h addr len, 0x0B, [BusMode.spi]), (.fastRead4B h addr len, 0x0C, [.spi]),
      (.quadOutputRead h addr len, 0x6B, [.spi]), (.quadOutputRead4B h addr len, 0x6C, [.spi]),
      (.quadIoRead h addr len, 0xEB, [.spi, .qpi]), (.quadIoRead4B h addr len, 0xEC, [.spi, .qpi]),
      (.octalDtrRead h addr len, 0xEE, [.octal])],
    hostClean h s = true → modeLists s h x.2.1 x.2.2 →
    let a := addr.toNat % 2 ^ (chanAt s h.ch).vf.windowLog2
    let v := verdictAt s h.ch (a / 256)
    a % 256 + len ≤ 256 → lookup h.ch (a / 256) s = (v, false, s) →
    (v.rule ≠ none → v.readMode = 0 → h.lateAt = none → h.beatErr = none →
      pieceInTime (chanAt s h.ch) false { first := false } v = true →
      exec x.1 s = .next (hostEnd h (disarm h.ch (drive h.ch (flashRead s h.ch v.cs (v.phys * 256 + a % 256) len) s)))) ∧
    (∀ (k : Nat) (c : Ctx) (u : State), v.rule ≠ none → v.readMode = 1 → c.state = .verified →
      findCtx s (spaceOf h.ch v.cs) v.phys = some (k, c) →
      serveHayloft k c (a % 256) len (touchCtx k c s) = (some (slice c.data (a % 256) len), u) →
      exec x.1 s = .next (hostEnd h (disarm h.ch (drive h.ch (slice c.data (a % 256) len) u)))) ∧
    (∀ (k : Nat) (c : Ctx) (u : State), v.rule ≠ none → v.readMode = 2 → c.state = .pinned →
      findCtx s (spaceOf h.ch v.cs) v.phys = some (k, c) →
      serveHayloft k c (a % 256) len s = (some (slice c.data (a % 256) len), u) →
      exec x.1 s = .next (hostEnd h (disarm h.ch (drive h.ch (slice c.data (a % 256) len) u)))) ∧
    (v.rule ≠ none → v.readMode = 3 → 0 < len →
      exec x.1 s = .next (hostEnd h (disarm h.ch (modVf h.ch (fun y => { y with subst := true })
        (modCounts h.ch (fun k => { k with subst := satInc k.subst })
          (drive h.ch (List.replicate len 0xFF) s))))))) ∧
  (
  (∀ (h : HostCmd) (addr : U32) (data : List Byte) (n : Nat) (b v : Byte) (k : Bool) (s : State), ∀ c ∈ [
      Instr.fastRead h addr n, .fastRead4B h addr n, .quadOutputRead h addr n, .quadOutputRead4B h addr n,
      .quadIoRead h addr n, .quadIoRead4B h addr n, .octalDtrRead h addr n, .pageProgram h addr data,
      .pageProgram4B h addr data, .quadInputPageProgram h addr data, .quadInputPageProgram4B h addr data, .erase4K h addr,
      .erase4K4B h addr, .erase32K h addr, .erase32K4B h addr, .erase64K h addr, .erase64K4B h addr, .chipErase h k,
      .writeEnable h, .writeDisable h, .readStatus h n, .writeStatus h, .clearFlags h, .readId h n, .readSfdp h addr n,
      .writeVolatileConfiguration h addr v, .enterQpi h, .exitQpi h, .resetEnable h, .reset h, .enter4ByteMode h,
      .exit4ByteMode h, .powerDown h, .releasePowerDown h, .unsupportedCommand h b addr],
    running (chanAt s h.ch) = false → h.upsets = [] →
    exec c s = .next (finish (csRise h.ch (drive h.ch [] s)))) ∧
  (∀ (h : HostCmd) (op : Byte) (addr : U32) (s : State), hostClean h s = true →
    exec (.unsupportedCommand h op addr) s = .next (hostEnd h (disarm h.ch
      (journal (chSrc h.ch) 0x0100 false (leBytes 5 (hostWord op.toNat addr.toNat).toNat)
        (modCounts h.ch (fun k => { k with unsup := satInc k.unsup }) (drive h.ch [] s)))))))

/-- R74, R75, R77, R81, R82: a considered program whose line the lookup judges without a stored error clears WEL;
ALLOW and LOG hold it in the command store as the bytes of its line and issue it when the flash is free, and DENY,
BARRED and an ungoverned line set DENY, count and record it; each of the four program commands. -/
def Obligations.HostPrograms : Prop :=
  ∀ (h : HostCmd) (addr : U32) (data : List Byte) (s : State), ∀ x ∈ [
      (Instr.pageProgram h addr data, 0x02, [BusMode.spi, .qpi]),
      (.pageProgram4B h addr data, 0x12, [.spi, .qpi, .octal]),
      (.quadInputPageProgram h addr data, 0x32, [.spi]), (.quadInputPageProgram4B h addr data, 0x34, [.spi])],
    hostClean h s = true → modeLists s h x.2.1 x.2.2 → h.whole = true → (chanAt s h.ch).vf.wel = true →
    wipOf (chanAt s h.ch) = false → data ≠ [] →
    let u := clearWel h.ch (drive h.ch [] s)
    let a := addr.toNat % 2 ^ (chanAt s h.ch).vf.windowLog2
    let v := verdictAt u h.ch (a / 256)
    lookup h.ch (a / 256) u = (v, false, u) →
    (v.rule ≠ none → v.readMode ≠ 3 → v.policy ≤ 1 →
      exec x.1 s = .next (hostEnd h (disarm h.ch (issueStore h.ch (modChan h.ch (fun c => { c with
        store := some ⟨v.cs, .program ((programLine (a % 256) data).map (fun y => (v.phys * 256 + y.1, y.2))),
          hostWord x.2.1 addr.toNat, false, v.policy == 1⟩ })
        (modVf h.ch (fun y => { y with staged := false }) u)))))) ∧
    (v.rule ≠ none → (v.readMode = 3 ∨ v.policy = 3) →
      exec x.1 s = .next (hostEnd h (disarm h.ch (denyHost h.ch (hostWord x.2.1 addr.toNat).toNat u)))) ∧
    (v.rule = none →
      exec x.1 s = .next (hostEnd h (disarm h.ch (denyHost h.ch (hostWord x.2.1 addr.toNat).toNat
        (modCounts h.ch (fun k => { k with noRule := satInc k.noRule }) u)))))

/-- R74, R76, R77: a considered erase clears WEL and covers the aligned block of its size; the most restrictive
verdict of the block's lines holds: ALLOW and LOG hold the erase in the command store, DENY, BARRED and an ungoverned
line deny it; each of the six block erases. CHIP_ERASE is denied. -/
def Obligations.HostErases : Prop :=
  (∀ (h : HostCmd) (addr : U32) (s u : State) (r : WriteRun), ∀ x ∈ [
      (Instr.erase4K h addr, 0x20, 12, [BusMode.spi, .qpi]), (.erase4K4B h addr, 0x21, 12, [.spi, .qpi, .octal]),
      (.erase32K h addr, 0x52, 15, [.spi, .qpi]), (.erase32K4B h addr, 0x5C, 15, [.spi, .qpi, .octal]),
      (.erase64K h addr, 0xD8, 16, [.spi, .qpi]), (.erase64K4B h addr, 0xDC, 16, [.spi, .qpi, .octal])],
    hostClean h s = true → modeLists s h x.2.1 x.2.2.2 → h.whole = true → (chanAt s h.ch).vf.wel = true →
    wipOf (chanAt s h.ch) = false →
    let k := x.2.2.1
    let a := addr.toNat % 2 ^ (chanAt s h.ch).vf.windowLog2
    let word := (hostWord x.2.1 addr.toNat).toNat
    (List.range (2 ^ k / 256)).foldl (fun y i => judgeLine h word (a / 2 ^ k * 2 ^ k / 256 + i) y)
      (({} : WriteRun), clearWel h.ch (drive h.ch [] s)) = (r, u) → r.noRule = false →
    (r.policy ≤ 1 → ∀ (m : Cs) (line : Nat), r.place = some (m, line) →
      exec x.1 s = .next (hostEnd h (disarm h.ch (issueStore h.ch (modChan h.ch (fun c => { c with
        store := some ⟨m, .erase (line * 256) k, hostWord x.2.1 addr.toNat, false, r.policy == 1⟩ })
        (modVf h.ch (fun y => { y with staged := false }) u)))))) ∧
    (3 ≤ r.policy → exec x.1 s = .next (hostEnd h (disarm h.ch (denyHost h.ch word u))))) ∧
  (∀ (h : HostCmd) (k : Bool) (s : State), hostClean h s = true →
    modeLists s h (if k then 0xC7 else 0x60) [.spi, .qpi, .octal] → h.whole = true → (chanAt s h.ch).vf.wel = true →
    wipOf (chanAt s h.ch) = false →
    exec (.chipErase h k) s = .next (hostEnd h (disarm h.ch (denyHost h.ch
      (hostWord (if k then 0xC7 else 0x60) 0).toNat (clearWel h.ch (drive h.ch [] s))))))

/-- R60, R81, R82, R83, R84: the commands completed inside the block: write enable and disable, status, identification
and SFDP reads, flag clearing, and the absorbed commands. -/
def Obligations.HostRegisters : Prop :=
  ∀ (h : HostCmd) (s : State) (len : Nat) (addr : U32), hostClean h s = true →
    let go := fun (t : State) => hostEnd h (disarm h.ch t)
    let u := drive h.ch [] s
    (modeLists s h 0x06 [.spi, .qpi, .octal] → exec (.writeEnable h) s = .next (go (modVf h.ch (fun v => { v with
      wel := true, deny := false, staged := false }) u))) ∧
    (modeLists s h 0x04 [.spi, .qpi, .octal] → exec (.writeDisable h) s = .next (go (clearWel h.ch u))) ∧
    (modeLists s h 0x05 [.spi, .qpi, .octal] → exec (.readStatus h len) s = .next (go
      (drive h.ch (List.replicate len (BitVec.ofNat 8 (vsrByte (chanAt s h.ch)))) u))) ∧
    (modeLists s h 0x01 [.spi, .qpi, .octal] → exec (.writeStatus h) s = .next (go (clearWel h.ch u))) ∧
    (modeLists s h 0x50 [.spi, .qpi, .octal] → exec (.clearFlags h) s = .next (go (modVf h.ch (fun v => { v with
      subst := false, staged := false, deny := false }) u))) ∧
    (modeLists s h 0x9F [.spi, .qpi, .octal] → exec (.readId h len) s = .next (go
      (drive h.ch (((chanAt s h.ch).vf.virtId ++ List.replicate len (0xFF : Byte)).take len) u))) ∧
    (modeLists s h 0x5A [.spi, .qpi, .octal] → exec (.readSfdp h addr len) s = .next (go
      (drive h.ch ((List.range len).map (fun i => (chanAt s h.ch).vf.sfdp.getD (addr.toNat + i) 0xFF)) u))) ∧
    (modeLists s h 0xB7 [.spi, .qpi] → exec (.enter4ByteMode h) s = .next (go u)) ∧
    (modeLists s h 0xE9 [.spi, .qpi] → exec (.exit4ByteMode h) s = .next (go u)) ∧
    (modeLists s h 0xB9 [.spi, .qpi] → exec (.powerDown h) s = .next (go u)) ∧
    (modeLists s h 0xAB [.spi, .qpi] → exec (.releasePowerDown h) s = .next (go u))

/-- R85, R86, R88, R192: mode changes that every populated flash supports enter their mode state and start t_GAP; a
reset-enable arms the reset, and the reset that follows it resets the virtual flash and starts t_GAP; a value that
asks for no mode change is absorbed. -/
def Obligations.HostModesAndReset : Prop :=
  ∀ (h : HostCmd) (s : State) (addr : U32) (b : Byte), hostClean h s = true →
    let go := fun (t : State) => hostEnd h (disarm h.ch t)
    let u := drive h.ch [] s
    ((chanAt s h.ch).vf.mode = .spi → modeSupported s h.ch .qpi = true → exec (.enterQpi h) s = .next (go
      (startGap h.ch (modVf h.ch (fun v => { v with mode := .qpi }) u)))) ∧
    ((chanAt s h.ch).vf.mode = .qpi → exec (.exitQpi h) s = .next (go
      (startGap h.ch (modVf h.ch (fun v => { v with mode := .spi }) u)))) ∧
    ((chanAt s h.ch).vf.mode ≠ .octal → (chanAt s h.ch).vf.wel = true → h.whole = true → modeSupported s h.ch .octal = true →
      exec (.writeVolatileConfiguration h 0 0xE7) s = .next (go (startGap h.ch
        (modVf h.ch (fun v => { v with mode := .octal }) (clearWel h.ch u))))) ∧
    ((chanAt s h.ch).vf.mode = .octal → h.second = ~~~(0x81 : Byte) → (chanAt s h.ch).vf.wel = true → h.whole = true →
      exec (.writeVolatileConfiguration h 0 0xFF) s = .next (go (startGap h.ch
        (modVf h.ch (fun v => { v with mode := .spi }) (clearWel h.ch u))))) ∧
    (modeLists s h 0x81 [.spi, .qpi, .octal] → (b ≠ 0xE7 ∧ b ≠ 0xFF) →
      exec (.writeVolatileConfiguration h addr b) s = .next (go (clearWel h.ch u))) ∧
    (modeLists s h 0x66 [.spi, .qpi, .octal] →
      exec (.resetEnable h) s = .next (hostEnd h (modVf h.ch (fun v => { v with rstArmed := true }) u))) ∧
    (modeLists s h 0x99 [.spi, .qpi, .octal] → (chanAt s h.ch).vf.rstArmed = true →
      exec (.reset h) s = .next (go (let t := startGap h.ch (modVf h.ch resetVf u)
        if bit (resetSense t h.ch) 1 then hostReset h.ch t else t))) ∧
    (modeLists s h 0x99 [.spi, .qpi, .octal] → (chanAt s h.ch).vf.rstArmed = false →
      exec (.reset h) s = .next (go u))

/-- R74, R77, R79, R196, R286: the end of a physical operation makes the flash idle; a successful program ANDs its
bytes into the flash and a successful erase makes the block read 0xFF; a failed one leaves the bytes its command
gives; no other flash changes. A physical-mode sync puts both populated flashes in the mode state and ends the gap.
R78, R196: a failed device-initiated operation is issued again and counted; a stage record that the vault has not
stored in time is given up, denied, and its timeout counted. -/
def Obligations.FlashOperations : Prop :=
  (
  (∀ (s : State) (c : Chan) (m : Cs) (b : Busy) (op : PhysOp), (flashOf (chanAt s c) m).busy = some b →
    (b = .host op ∨ b = .device op ∨ b = .late op) → Memory.wf 0xFF (flashOf (chanAt s c) m).cells = true →
    ∃ t, exec (.physOpComplete c m .ok) s = .next t ∧
      (∀ ps, op = .program ps → ∀ a, Mem.read 0xFF (flashOf (chanAt t c) m).cells a =
        (ps.filter (fun p => p.1 == a)).foldl (fun v p => v &&& p.2) (Mem.read 0xFF (flashOf (chanAt s c) m).cells a)) ∧
      (∀ x k, op = .erase x k → ∀ a, Mem.read 0xFF (flashOf (chanAt t c) m).cells a =
        if x ≤ a ∧ a < x + 2 ^ k then 0xFF else Mem.read 0xFF (flashOf (chanAt s c) m).cells a) ∧
      (∀ d n, (d, n) ≠ (c, m) → (flashOf (chanAt t d) n).cells = (flashOf (chanAt s d) n).cells) ∧
      ground t = ground s ∧ t.keys = s.keys ∧ t.lc = s.lc) ∧
  (∀ (s : State) (c : Chan) (m : Cs) (b : Busy) (cells : List (Nat × Byte)), (flashOf (chanAt s c) m).busy = some b →
    ∃ t, exec (.physOpComplete c m (.failed cells)) s = .next t ∧
      (flashOf (chanAt t c) m).cells =
        cells.foldl (fun w x => Mem.write 0xFF w x.1 x.2) (flashOf (chanAt s c) m).cells ∧
      (∀ d n, (d, n) ≠ (c, m) → (flashOf (chanAt t d) n).cells = (flashOf (chanAt s d) n).cells) ∧
      ground t = ground s) ∧
  (∀ (s : State) (c : Chan), (chanAt s c).vf.syncDue = true → s.refclk = true → s.pllLock = true →
    (chanAt s c).flash0.busy = none → (chanAt s c).flash1.busy = none →
    exec (.physicalModeSync c) s = .next (finishAll (modChan c (fun y => { y with
      flash0 := { y.flash0 with mode := y.vf.mode }
      flash1 := { y.flash1 with mode := y.vf.mode }
      vf := { y.vf with syncDue := false, gapStart := none } }) s)))) ∧
  (
  (∀ (s : State) (c : Chan) (m : Cs) (op : PhysOp), s.refclk = true → s.pllLock = true → coresRun s = true →
    (chanAt s c).failedOp = some (m, op) → (flashOf (chanAt s c) m).busy = none → (chanAt s c).devRead = none →
    exec (.flashOpRetry c) s = .next (dropCovered c m op (modFlash c m (fun f => { f with busy := some (.device op) })
      (modChan c (fun y => { y with
        failedOp := none, retries := y.retries + 1, counts := { y.counts with fpRetries := satInc y.counts.fpRetries } }) s)))) ∧
  (∀ (s : State) (c : Chan) (r : DevRead), s.refclk = true → s.pllLock = true → (chanAt s c).failedOp = none →
    (chanAt s c).failedRead = some r → (chanAt s c).devRead = none → (chanAt s c).csLow = false →
    exec (.flashOpRetry c) s = .next (modChan c (fun y => { y with
      devRead := some r, failedRead := none, retries := y.retries + 1, counts := { y.counts with fpRetries := satInc y.counts.fpRetries } }) s)) ∧
  (∀ (s : State) (c : Chan) (x : StageOp), (chanAt s c).stageOp = some x →
    exec (.stageStoreExpiry c) s = .next (finishAll (denyHost c x.word.toNat (timeoutExpired 4
      (modVault (fun v => { v with ops := v.ops.filter (fun o => o != .stage c) })
        (modChan c (fun y => { y with stageOp := none }) s)))))))

/-- R144, R148, R154, R162, R163, R179: what starts each device-initiated read: the missing beats of the most urgent
FILLING line, a whole line to be pinned, the next missing node of a CHECKING line, the flash behind the next pinned
line of a gleaning pass. R150, R162, R164, R186, R196, R318: the end of a device-initiated read delivers its bytes,
and one that fails is kept for its retry or, with its retries used up, retires the port; a FILLING line of which beats
are still missing captures them from the flash; a preload that has everything moves the channel on. -/
def Obligations.DeviceReads : Prop :=
  (
  (∀ (s : State) (c : Chan) (x : Ctx) (a b : Nat), fillDue s c = some x → missingBeats x = some (a, b) →
    portFree s c (spaceCs x.space) = true →
    ∃ t, exec (.gapFill c) s = .next t ∧ (chanAt t c).devRead = some (.gapFill (spaceCs x.space) x.line a b) ∧
      (chanAt t c).counts.gapFill = satInc (chanAt s c).counts.gapFill ∧ t.hayloft = s.hayloft ∧ ground t = ground s ∧
      cellsOf t = cellsOf s) ∧
  (∀ (s : State) (c : Chan) (h : U32), (verdictAt s c (h.toNat / 256)).readMode = 2 → (chanAt s c).eff = .running →
    s.phase = .service → portFree s c (verdictAt s c (h.toNat / 256)).cs = true →
    let v := verdictAt s c (h.toNat / 256)
    let sp := spaceOf c v.cs
    let at0 := h.toNat / 256 * 256
    (∀ k x, findCtx s sp v.phys = some (k, x) → x.state = .filling → x.pin = true →
      exec (.pinFill c h) s = .next (startRead c (.pinFill v.cs v.phys at0) s)) ∧
    (∀ k, findCtx s sp v.phys = none → takeWay s sp v.phys = .way k →
      exec (.pinFill c h) s = .next (startRead c (.pinFill v.cs v.phys at0)
        (openCtx k (newCtx s sp v.phys at0 v.tree true)
          (modChan c (fun y => { y with placeFailed := y.placeFailed.filter (· != (v.cs.val, v.phys)) }) s)))) ∧
    (findCtx s sp v.phys = none → takeWay s sp v.phys = .none →
      (chanAt s c).placeFailed.contains (v.cs.val, v.phys) = false →
      exec (.pinFill c h) s = .next (finishAll (lineFail c v.cs v.phys at0 v.tree causePlacement s)))) ∧
  (∀ (s : State) (c : Chan) (m : Cs) (line : BitVec 24) (k l i : Nat) (x : Ctx) (t : TreeEntry),
    findCtx s (spaceOf c m) line.toNat = some (k, x) → tget s.hayloft.trees x.tree = some t → x.state = .checking →
    treeCovers s x.tree c x.haddr = true → canWork s = true → portFree s c (csOf t.taCs) = true →
    nextNode s x = some (l, i) → soundAncestor 7 x s = s →
    exec (.nodeFetch c m line) s = .next (modHay (fun h => { h with nodeMisses := satInc h.nodeMisses })
      (startRead c (.node (csOf t.taCs) x.tree l i (m, line.toNat)) (putCtx k { x with fetched := true } s)))) ∧
  (∀ (s : State) (c : Chan) (k : Nat) (x : Ctx), hayloftEff s = 1 → s.hayloft.reqState = 1 → canWork s = true →
    gleanNext s = some k → tget s.hayloft.ctxs k = some x → x.space / 2 = c.val →
    (flashOf (chanAt s c) (spaceCs x.space)).busy = none → (chanAt s c).devRead = none →
    portFree s c (spaceCs x.space) = true → exec (.gleaningRead c) s = .next (startRead c (.glean k) s))) ∧
  (
  (∀ (s : State) (c : Chan) (r : DevRead) (ball : Option U8), (chanAt s c).devRead = some r →
    exec (.deviceReadComplete c .ok ball []) s = .next (finishAll (flashBallCheck c ball (readArrive c r
      (retryWon c (modChan c (fun x => { x with devRead := none }) (timeoutArrived 0 s))))))) ∧
  (∀ (s : State) (c : Chan) (r : DevRead) (ball : Option U8), (chanAt s c).devRead = some r →
    (chanAt s c).retries ≠ 3 →
    exec (.deviceReadComplete c .failed ball []) s = .next (finishAll (flashBallCheck c ball
      (modChan c (fun x => { x with devRead := none, failedRead := some r }) s)))) ∧
  (∀ (s : State) (c : Chan) (m : Cs) (k line a b : Nat) (x : Ctx), (chanAt s c).retries = 0 →
    findCtx s (spaceOf c m) line = some (k, x) → x.state = .filling →
    readArrive c (.gapFill m line a b) s = putCtx k (fillDone (captureBeats x a b
      (flashRead s c m (line * 256 + a * 8) ((b + 1 - a) * 8))).1) s) ∧
  (∀ (s : State) (c : Chan), s.update.act = none → (chanAt s c).eff = .preloading → preloadReady s c = true →
    exec (.preloadComplete c) s = .next (finishAll (modChan c (fun x => { x with preloadDone := true }) s))))

/-- R141, R150, R166: the check of a CHECKING line whose nodes are all at hand makes it VERIFIED, or PINNED when it is
to be pinned, where the digest of its 256 bytes is the one its node holds, and fails it with cause DATA where it is
not; a line its tree does not cover fails with cause TREE; a line whose staleness time wins fails with cause STALE. -/
def Obligations.LineChecks : Prop :=
  (∀ (s : State) (c : Chan) (m : Cs) (line : BitVec 24) (k : Nat) (x : Ctx) (t : TreeEntry) (p : Nat × Nat × List Byte),
    findCtx s (spaceOf c m) line.toNat = some (k, x) → x.state = .checking → treeCovers s x.tree c x.haddr = true →
    nextNode s x = none → tget s.hayloft.trees x.tree = some t → readBeats k 0 32 s = (true, s) →
    x.path.find? (fun p => p.1 == 1 && p.2.1 == pathIndex (leafIndex t x.haddr) 1) = some p → x.fetched = true →
    let same := leafDigest x.tree x.haddr (padTo x.data 256) == slice p.2.2 (32 * (leafIndex t x.haddr % 16)) 32
    let used := modHay (fun h => { h with useCount := h.useCount + 1 }) s
    (same = true → x.pin = false → exec (.lineCheckComplete c m line) s = .next (finishAll
      (modCounts c (fun n => { n with linesVerified := satInc n.linesVerified }) (timeoutArrived 9
        (putCtx k { x with path := [], fetched := false, used := s.hayloft.useCount, state := .verified } used))))) ∧
    (same = true → x.pin = true → exec (.lineCheckComplete c m line) s = .next (finishAll
      (modChan c (fun ch => { ch with missLogged := ch.missLogged.filter (· != x.space * 2 ^ 24 + x.line) })
        (putCtx k { x with path := [], fetched := false, used := s.hayloft.useCount, state := .pinned } used)))) ∧
    (same = false → exec (.lineCheckComplete c m line) s = .next (finishAll
      (lineFail c m x.line x.haddr x.tree causeData (if x.pin then s else timeoutArrived 9 s))))) ∧
  (∀ (s : State) (c : Chan) (m : Cs) (line : BitVec 24) (k : Nat) (x : Ctx),
    findCtx s (spaceOf c m) line.toNat = some (k, x) → x.state = .checking → treeCovers s x.tree c x.haddr = false →
    exec (.lineCheckComplete c m line) s = .next (finishAll (lineFail c m x.line x.haddr x.tree causeTree s))) ∧
  (∀ (s : State) (c : Chan) (m : Cs) (line : BitVec 24) (k : Nat) (x : Ctx),
    findCtx s (spaceOf c m) line.toNat = some (k, x) → x.pin = false → (x.state = .filling ∨ x.state = .checking) →
    exec (.lineStale c m line) s = .next (finishAll
      (lineFail c m x.line x.haddr x.tree causeStale (timeoutExpired 9 s))))

/-- R15, R16, R180, R185, R213, R252: a request for a node's state is stored when the node may take it; a value that
is no state of the node answers E_RANGE and a retired node answers E_RETIRED, the stored request staying as it was. -/
def Obligations.RequestedStates : Prop :=
  (∀ (s : State) (p : Port) (c : Chan) (v : U8) (low : Bool),
    admitted s p .write (0x3001 + 0x100 * c.val) 0 1 = true →
    (v = 0 ∨ v = 1 ∨ v = 3 → (chanAt s c).eff ≠ .retired → s.lc.state ≠ 4 →
      exec (.channelReqStateWrite p c v low) s = .next (reply p eOk (finishAll (modChan c (fun x => { x with
        reqState := v, csLow := low
        pendingReq := if low then some (BitVec.ofNat 8 (reqInForce x)) else none }) s)))) ∧
    (¬(v = 0 ∨ v = 1 ∨ v = 3) → exec (.channelReqStateWrite p c v low) s = .next (reply p eRange s)) ∧
    (v = 0 ∨ v = 1 ∨ v = 3 → (chanAt s c).eff = .retired →
      exec (.channelReqStateWrite p c v low) s = .next (reply p eRetired s))) ∧
  (∀ (s : State) (p : Port) (v : U8), admitted s p .write 0x5001 0 1 = true → v.toNat ≤ 1 →
    ∃ t, exec (.hayloftReqStateWrite p v) s = .next t ∧ t.hayloft.reqState = v ∧ (portRegs t p).lastCode = eOk ∧
      t.hayloft.ctxs = s.hayloft.ctxs ∧ ground t = ground s ∧ t.chans = s.chans) ∧
  (∀ (s : State) (p : Port) (v : U8), admitted s p .write 0x3601 0 1 = true → v.toNat ≤ 1 → s.fallow.retired = false →
    ∃ t, exec (.fallowReqStateWrite p v) s = .next t ∧ t.fallow.reqState = v ∧ (portRegs t p).lastCode = eOk ∧
      t.fallow.serving = s.fallow.serving ∧ ground t = ground s ∧ t.chans = s.chans) ∧
  (∀ (s : State) (p : Port) (v : U8), admitted s p .write 0x3601 0 1 = true → v.toNat ≤ 1 → s.fallow.retired = true →
    exec (.fallowReqStateWrite p v) s = .next (reply p eRetired s)) ∧
  (∀ (s : State) (p : Port), admitted s p .write 0x6001 0 1 = true → s.vault.eff = 0 → canWork s = true →
    vaultBusy s = false →
    exec (.vaultReqStateWrite p 1) s = .next (reply p eOk (finishAll (modVault (fun v => { v with
      reqState := 1, eff := 1, pendingReq := none }) s)))) ∧
  (∀ (s : State) (p : Port) (v : U8), admitted s p .write 0x6001 0 1 = true → v.toNat ≤ 1 → s.vault.eff = 3 →
    exec (.vaultReqStateWrite p v) s = .next (reply p eRetired s)) ∧
  (∀ (s : State) (n : Fin 9), n.val < 6 →
    exec (.reqStateBoundary n) s = .next (finishAll (modChan (chanOf n.val) (fun x => { x with
      csLow := false, pendingReq := none }) s))) ∧
  (∀ (s : State) (n : Fin 9), n.val = 6 ∨ n.val = 7 → exec (.reqStateBoundary n) s = .next s) ∧
  (∀ s : State, exec (.reqStateBoundary 8) s = .next (finishAll (vaultFollow false s)))

/-- R95, R189, R190, R192, R232, R235: a channel that has left OFF is discovered again and, with both chip selects
sound, the index is compiled anew; power-good's fall resets the virtual flash and holds the channel, its rise lets it
start. R208, R209, R210, R212: the Fallow pipeline takes a channel over, hot at a rise of the chip select and cold
once it is connected, counted by kind and recorded; the handback returns the channel to its own pipeline. -/
def Obligations.ChannelEvents : Prop :=
  (
  (∀ (s : State) (c : Chan) (a b : Found), (chanAt s c).eff ≠ .off → (chanAt s c).eff ≠ .retired →
    (chanAt s c).discovered = false → canWork s = true → s.pllLock = true → s.phase = .service →
    let t := discoverChan c a b s
    exec (.rediscovery c a b) s = .next (finishAll (if (chanAt t c).eff = .retired ∨ (chanAt t c).discFault0 = true ∨
      (chanAt t c).discFault1 = true then t else recompile c t))) ∧
  (∀ (s : State) (c : Chan), s.porN = true → (chanAt s c).pg = true →
    let t := modChan c (fun x => { x with pg := false }) s
    exec (.platPgFall c) s = .next (finishAll (settleDown true c (resetByHold c
      (if bit (resetSense s c) 0 = true ∨ (bit (resetSense s c) 2 = true ∧ (chanAt s c).eff = .running) then hostReset c t
       else t))))) ∧
  (∀ (s : State) (c : Chan), s.porN = true →
    exec (.platPgRise c) s = .next (finishAll (modChan c (fun x => { x with pg := true }) s))) ∧
  (∀ (s : State) (c : Chan), s.porN = false →
    exec (.platPgRise c) s = .next (modChan c (fun x => { x with pg := true }) s) ∧
    exec (.platPgFall c) s = .next (modChan c (fun x => { x with pg := false }) s)) ∧
  (∀ (s : State) (m : Fin 8) (w : Nat), s.hedgerow.reloadDue.contains (m, w) = true → runtimeUp s = true →
    s.hedgerow.rewritten.contains (m.val, w) = false →
    ∃ t, exec (.indexWordReload m w) s = .next t ∧ t.hedgerow.rewritten = s.hedgerow.rewritten ++ [(m.val, w)] ∧
      t.hedgerow.reloadDue = s.hedgerow.reloadDue.filter (· != (m.val, w)) ∧ flipsOf t m w = 0 ∧
      t.hedgerow.table = s.hedgerow.table ∧ t.hedgerow.index = s.hedgerow.index ∧ t.chans = s.chans ∧ ground t = ground s)) ∧
  (
  (∀ (s : State) (c : Chan), (chanAt s c).hotPending = true → s.fallow.retired = false →
    exec (.hotTakeoverSwitch c) s = .next (finishAll (modFallow (fun f => { f with takeoversHot := satInc f.takeoversHot })
      (fallowServes c 1 (csRise c s))))) ∧
  (∀ (s : State) (c : Chan) (m : Bool), (chanAt s c).takeover = true → s.fallow.retired = false → canWork s = true →
    (s.fallow.marchDue = false ∨ m = true) →
    exec (.coldTakeoverConnect c m) s = .next (finishAll (modFallow (fun f => { f with
      takeoversCold := satInc f.takeoversCold }) (fallowServes c 2
        (if (chanAt s c).csLow then timeoutExpired 0xA s else timeoutArrived 0xA s))))) ∧
  (∀ (s : State) (c : Chan) (k : Nat), (fallowServes c k s).fallow.serving = some c ∧
    (chanAt (fallowServes c k s) c).onFallow = true ∧ (chanAt (fallowServes c k s) c).takeover = false ∧
    (chanAt (fallowServes c k s) c).hotPending = false) ∧
  (∀ (s : State) (c : Chan), (chanAt s c).handbackPending = true →
    exec (.fallowHandback c) s = .next (finishAll (fallowReturn (modChan c (fun x => { x with
      onFallow := false, handbackPending := false, csLow := false, pendingReq := none }) s)))))

/-- R16, R181, R193, R204, R205, R212, R252: FLUSH empties the unpinned VERIFIED and POISONED contexts; CLEAR_HOLD
ends a quarantine, a class 4 hold or a pending quarantine; REINSTATE brings the retired units back when their
self-tests pass, and with none retired answers E_STATE. -/
def Obligations.HoldsAndReinstatement : Prop :=
  (∀ (s : State) (p : Port), admitted s p .exec 0x5000 6 1 = true →
    exec (.flush p) s = .next (reply p eOk (finishAll
      (dropCtxs (fun x => !x.pin && (x.state == .verified || x.state == .poisoned)) s)))) ∧
  (∀ (s : State) (p : Port) (c : Chan), admitted s p .exec (0x3003 + 0x100 * c.val) 0 1 = true →
    ((chanAt s c).eff = .quarantined ∨ ((chanAt s c).eff = .held ∧ (chanAt s c).class4 = true) →
      exec (.clearHold p c) s = .next (reply p eOk (finishAll (setEff c .held (dropPoisoned c (modChan c (fun y => { y with
        quarantined := false, class4 := false, holdRegion := [] }) s)))))) ∧
    ((chanAt s c).eff = .running → (chanAt s c).quarPending = true →
      exec (.clearHold p c) s = .next (reply p eOk (finishAll (dropPoisoned c (modChan c (fun y => { y with
        quarPending := false, holdRegion := [] }) s))))) ∧
    ((chanAt s c).eff = .off ∨ (chanAt s c).eff = .retired → exec (.clearHold p c) s = .next (reply p eState s))) ∧
  (∀ (s : State) (p : Port) (c : Chan), admitted s p .exec (0x3003 + 0x100 * c.val) 1 1 = true → s.phase = .service →
    s.refclk = true →
    ((chanAt s c).hostPort.retired = true → (chanAt s c).flashPort.retired = false →
      (chanAt s c).pipeline.retired = false → (chanAt s c).eff = .retired →
      exec (.reinstate p c none) s = .next (reply p eOk (finishAll (setEff c .held (modChan c (fun y => { y with
        selftestResult := 0, hostPort := {}, hostBalls := [] }) (unsaved s)))))) ∧
    ((chanAt s c).hostPort.retired = true → exec (.reinstate p c (some 3)) s =
      .next (reply p eIntegrity (modChan c (fun y => { y with selftestResult := 3 }) s))) ∧
    ((chanAt s c).hostPort.retired = false → (chanAt s c).flashPort.retired = false →
      (chanAt s c).pipeline.retired = false → ∀ f, exec (.reinstate p c f) s = .next (reply p eState s))) ∧
  (∀ (s : State) (p : Port), admitted s p .exec 0x3602 0 1 = true → s.phase = .service → s.refclk = true →
    (s.fallow.retired = true → exec (.fallowReinstate p none) s = .next (reply p eOk (finishAll (fallowReturn
      (modFallow (fun f => { f with retired := false, health := {}, selftestResult := 0 }) (unsaved s)))))) ∧
    (s.fallow.retired = false → ∀ f, exec (.fallowReinstate p f) s = .next (reply p eState s))) ∧
  (∀ (s : State) (p : Port) (a b : Bool) (i : EmmcInfo), admitted s p .exec 0x6002 0 1 = true → s.vault.eff = 3 →
    s.phase = .service → s.refclk = true →
    exec (.vaultReinstate p (.up a b) i) s = .next (reply p eOk (finishAll (modVault (fun v => { v with
      eff := v.reqState, health := {}, selftestResult := 0, retries := 0 }) (vaultUp 0x20 a b i s)))))

/-- R186, R236, R237, R238, R239: a release lets the channel run, counts it, takes its time and ends its sequence; its
delay is marked as elapsed; a dependency wait that times out is taken, with its fault bit and a retained notice. -/
def Obligations.Releases : Prop :=
  (∀ (s : State) (c : Chan) (g : BitVec 8), releaseReady s c g = true → coresRun s = true → s.phase = .service →
    ((chanAt s c).released = true ∨ planRelDelay (planOf s c) = 0 ∨ (chanAt s c).relDelayDone = true) →
    ∃ v, exec (.channelRelease c g) s = .next (finishAll v) ∧ (chanAt v c).eff = .running ∧
      (chanAt v c).released = true ∧ (chanAt v c).releaseTime = s.tbUs ∧ (chanAt v c).seq = none ∧
      (chanAt v c).counts.releases = satInc (chanAt s c).counts.releases ∧ (tget v.steps 0x0B).isSome = true ∧
      (chanAt v c).lastSeqResult = (match (chanAt s c).seq with
        | some q => seqResult (tierCode q.tier) eOk q.tree
        | none => (chanAt s c).lastSeqResult) ∧
      (∀ d, d ≠ c → chanAt v d = chanAt s d) ∧ cellsOf v = cellsOf s) ∧
  (∀ (s : State) (c : Chan) (g : BitVec 8), releaseReady s c g = true → (chanAt s c).released = false →
    planRelDelay (planOf s c) ≠ 0 → s.refclk = true →
    exec (.relDelayExpiry c g) s = .next (modChan c (fun x => { x with relDelayDone := true }) s)) ∧
  (∀ (s : State) (c : Chan), (chanAt s c).depArmed = true → s.refclk = true →
    ∃ v, exec (.depTimeoutExpiry c) s = .next (finishAll v) ∧ (chanAt v c).depTaken = true ∧
      (chanAt v c).depArmed = false ∧ (chanAt v c).depMet = planDepPolicy (planOf s c) ∧
      (v.timeouts[(0xB : Fin 14)]).expired = satInc (s.timeouts[(0xB : Fin 14)]).expired ∧
      (∀ d, d ≠ c → chanAt v d = chanAt s d))

/-- R99, R123, R124, R544: what a write stages: one rule, a block of rules (whole or not at all), an RWC value that
passes its own range (a port holds at most 1,024 entries); a write that is not staged leaves the staged set as it was,
and no write changes the configuration in force. -/
def Obligations.Staging : Prop :=
  (∀ (s : State) (p : Port) (row : RuleRow), admitted s p .write 0x4100 1 16 = true →
    (ruleAcceptable row = true → exec (.ruleDataWrite p row) s = .next (reply p eOk (modPort p (fun r => { r with
      stagedRules := tput r.stagedRules r.ruleSelect.toNat row }) s))) ∧
    (ruleAcceptable row = false → exec (.ruleDataWrite p row) s = .next (reply p eRange s))) ∧
  (∀ (s : State) (p : Port) (off : U40) (data : List Byte), admitted s p .writeBlock 0x4101 0 data.length = true →
    (off.toNat % 16 ≠ 0 ∨ data.length % 16 ≠ 0 ∨ 0x100000 < off.toNat + data.length ∨
      (∃ row ∈ blockRows data, ruleAcceptable row = false) →
      exec (.ruleDomainWrite p off data) s = .next (reply p eRange s)) ∧
    (off.toNat % 16 = 0 → data.length % 16 = 0 → off.toNat + data.length ≤ 0x100000 →
      (∀ row ∈ blockRows data, ruleAcceptable row = true) →
      ∃ t, exec (.ruleDomainWrite p off data) s = .next t ∧ (portRegs t p).lastCode = eOk ∧
        (∀ k, tget (portRegs t p).stagedRules k =
          if off.toNat / 16 ≤ k ∧ k < off.toNat / 16 + data.length / 16
          then some (rowOfBytes (slice data (16 * (k - off.toNat / 16)) 16))
          else tget (portRegs s p).stagedRules k) ∧
        t.hedgerow = s.hedgerow ∧ t.cfg = s.cfg ∧ ground t = ground s)) ∧
  (∀ (s : State) (p : Port) (i : U16) (sub : U8) (v : List Byte) (e : Entry),
    admitted s p .write i.toNat sub.toNat v.length = true → entryAt i.toNat sub.toNat = some e → e.acc = .rwc →
    i ≠ 0x4100 →
    (rwcCheck s p i.toNat sub.toNat (leNat v) = eOk → (portRegs s p).staged.length < 1024 →
      exec (.registerWrite p i sub v) s = .next (reply p eOk (modPort p (fun r => { r with
        staged := tput r.staged (objKey i.toNat sub.toNat) v }) s))) ∧
    (rwcCheck s p i.toNat sub.toNat (leNat v) = eOk → 1024 ≤ (portRegs s p).staged.length →
      tget (portRegs s p).staged (objKey i.toNat sub.toNat) = none →
      exec (.registerWrite p i sub v) s = .next (reply p eRefused s)) ∧
    (∀ c, rwcCheck s p i.toNat sub.toNat (leNat v) = c → c ≠ eOk →
      exec (.registerWrite p i sub v) s = .next (reply p c s))) ∧
  (∀ (s : State) (p : Port) (sub : U8) (off : U40) (b : Byte) (bs : List Byte),
    admitted s p .writeBlock 0x4101 sub.toNat (bs.length + 1) = true →
    exec (.writeBlock p 0x4101 sub off (b :: bs)) s = .next (reply p (ruleDomainRule p off.toNat (b :: bs) s).1
      (ruleDomainRule p off.toNat (b :: bs) s).2))

/-- R46 to R50, R129, R545: a COMMIT in SERVICE phase whose checks all pass puts the port's staged set in force at
once and empties it; the first failing check decides the code, and nothing is applied. DISCARD empties the set; CHECK
only reports. Outside SERVICE phase COMMIT and CHECK answer E_NOT_READY. -/
def Obligations.CommitDiscardCheck : Prop :=
  (∀ (s : State) (p : Port), admitted s p .exec 0xC001 0 1 = true → s.phase = .service →
    let u := withStaged p s
    (valueStep s u p = none → (ruleSteps u p s).1 = none → planStep (ruleSteps u p s).2 u = none →
      claimStep (ruleSteps u p s).2 u p = none →
      ∃ t, exec (.commit p) s = .next t ∧ (portRegs t p).lastCode = eOk ∧ (portRegs t p).commitResult = 0 ∧
        (portRegs t p).staged = [] ∧ (portRegs t p).stagedRules = [] ∧ t.cfg = u.cfg ∧ t.commits = satInc s.commits ∧
        t.lastCommitPort = BitVec.ofNat 8 (portNo p).val ∧ t.lastCommitUs = s.tbUs ∧ ground t = ground s ∧
        cellsOf t = cellsOf s) ∧
    (∀ f, valueStep s u p = some f → exec (.commit p) s = .next (reply p f.code (smbApply (modPort p (fun r => { r with
      commitResult := commitResultOf (some f) }) s)))) ∧
    (∀ f, valueStep s u p = none → (ruleSteps u p s).1 = some f → exec (.commit p) s = .next (reply p f.code (smbApply
      (modPort p (fun r => { r with commitResult := commitResultOf (some f) }) (ruleSteps u p s).2))))) ∧
  (∀ (s : State) (p : Port), admitted s p .exec 0xC001 0 1 = true → s.phase ≠ .service →
    exec (.commit p) s = .next (reply p eNotReady (smbApply (modPort p (fun r => { r with
      commitResult := 0x02 }) s)))) ∧
  (∀ (s : State) (p : Port), admitted s p .exec 0xC001 2 1 = true →
    exec (.discard p) s = .next (reply p eOk (modPort p (fun r => { r with staged := [], stagedRules := [] }) s))) ∧
  (∀ (s : State) (p : Port), admitted s p .exec 0x4000 7 1 = true → s.phase = .service →
    ∃ t, exec (.check p) s = .next t ∧ (portRegs t p).lastCode = (match (ruleSteps (withStaged p s) p s).1 with
        | some f => f.code
        | none => eOk) ∧
      (portRegs t p).compileResult = compileResult (compileStep s (withStaged p s) p).1 ∧
      (portRegs t p).staged = (portRegs s p).staged ∧ (portRegs t p).stagedRules = (portRegs s p).stagedRules ∧
      t.hedgerow = s.hedgerow ∧ t.cfg = s.cfg ∧ t.chans = s.chans ∧ ground t = ground s) ∧
  (∀ (s : State) (p : Port), admitted s p .exec 0x4000 7 1 = true → s.phase ≠ .service →
    exec (.check p) s = .next (reply p eNotReady s))

/-- R251, R268, R270, R271, R274: the vault's own writes: the operation at the head of its queue ends, and one that
fails is retried up to three times before the vault retires; the configuration is saved as a new set; the journal's
unarchived entries are written as an ARCHIVE record; a write that fails saves nothing. -/
def Obligations.VaultWork : Prop :=
  (∀ (s : State) (o : VaultOp) (r : List VaultOp), s.vault.ops = o :: r → vaultReady s = true → s.vault.retries = 0 →
    let t := vaultOpDone o (timeoutArrived 5 (modVault (fun v => { v with ops := r, retries := 0 }) s))
    exec (.vaultIoComplete .ok) s = .next (finishAll (vaultFollow true
      (if t.vault.rpmb.key.isEmpty then rpmbAttach t else t)))) ∧
  (∀ (s : State) (o : VaultOp) (r : List VaultOp) (e : EmmcEnd), s.vault.ops = o :: r → vaultReady s = true → e ≠ .ok →
    let t := if e = .timeout then timeoutExpired 5 s else timeoutArrived 5 s
    (s.vault.retries ≠ 3 → exec (.vaultIoComplete e) s = .next (modVault (fun v => { v with
      retries := s.vault.retries + 1 }) t)) ∧
    (s.vault.retries = 3 → exec (.vaultIoComplete e) s = .next (finishAll (retireVault 1 t)))) ∧
  (∀ s : State, s.vault.configSaved = false → s.phase = .service → vaultReady s = true →
    (∀ k t, storeRecord 1 [] (configBody s) false s = .ok (k, t) →
      exec (.configSetSave .ok) s = .next (modVault (fun v => { v with configSaved := true }) t)) ∧
    (∀ c, storeRecord 1 [] (configBody s) false s = .error c → exec (.configSetSave .ok) s = .next s) ∧
    (∀ e, e ≠ .ok → exec (.configSetSave e) s = .next s)) ∧
  (∀ s : State, s.phase = .service → vaultReady s = true →
    exec (.archiveWrite .ok) s = .next (archive s) ∧ (keptOnly s ++ unarchived s = [] → archive s = s) ∧
    (∀ e, e ≠ .ok → exec (.archiveWrite e) s = .next s))

/-- R258, R266, R273, R279, R284: FORMAT writes both copies of the partition table and leaves no record, only in the
Maker and Integrator states; STAGE_CLEAR zeroes the first sector of each stage record and forgets them; RESTORE starts
the ordered sequence on its channel when images are there for every tree of its region. -/
def Obligations.VaultOrders : Prop :=
  (∀ (s : State) (p : Port), admitted s p .exec 0x6000 6 1 = true →
    (s.lc.state ≠ 0 ∧ s.lc.state ≠ 1 → exec (.format p) s = .next (reply p eState s)) ∧
    ((s.lc.state = 0 ∨ s.lc.state = 1) → s.phase = .service → vaultReady s = true →
      ∃ v, exec (.format p) s = .next (reply p eOk (finishAll v)) ∧ v.vault.records = [] ∧ v.vault.configSaved = false ∧
        v.vault.stageRecords = 0 ∧
        v.vault.user = (let a := rpmbAttach s
          let f := (formatSeq a + 1) % 65536
          let u := a.vault.userSectors.toNat
          Mem.writeL 0 (Mem.writeL 0 a.vault.user 0 (tableSector 0 f u (layoutInForce a))) 512
            (tableSector 1 f u (layoutInForce a))) ∧ ground v = ground s ∧ cellsOf v = cellsOf s)) ∧
  (∀ (s : State) (p : Port), admitted s p .exec 0x6005 1 1 = true →
    (vaultReady s = true → s.vault.scanDone = true →
      ∃ t, exec (.stageClear p) s = .next t ∧ (portRegs t p).lastCode = eOk ∧
        t.vault.records = s.vault.records.filter (fun r => recPart r.2.1 != 4) ∧
        t.vault.user = (recsIn s 4).foldl (fun m r => Mem.clear m (r.1 * 512) 512) s.vault.user ∧
        t.chans = s.chans ∧ ground t = ground s) ∧
    (vaultReady s = false ∨ s.vault.scanDone = false → exec (.stageClear p) s = .next (reply p eNotReady s))) ∧
  (∀ (s : State) (p : Port), admitted s p .exec 0x6100 1 1 = true →
    let v := s.vault.restoreTarget.toNat
    let c := chanOf (bits v 14 12)
    let region := orderedRegion s c (bit v 15) (bits v 11 0)
    bits v 14 12 < 6 → (bit v 15 = true ∨ region ≠ []) →
    ((chanAt s c).eff = .retired → (chanAt s c).seq = none → exec (.restore p) s = .next (reply p eRetired s)) ∧
    ((chanAt s c).eff = .off ∨ (chanAt s c).eff = .recovering → exec (.restore p) s = .next (reply p eState s)) ∧
    ((chanAt s c).eff = .running → (chanAt s c).seq = none → vaultReady s = true → s.vault.scanDone = true →
      ((∀ t ∈ regionTrees s c region, ∃ e, tget s.hayloft.trees t = some e ∧ imageCands s e t ≠ []) →
        exec (.restore p) s = .next (reply p eOk (finishAll (toRestore c region true
          (((regionTrees s c region).head?).getD (bits v 11 0)) s)))) ∧
      ((∃ t ∈ regionTrees s c region, tget s.hayloft.trees t = none) →
        exec (.restore p) s = .next (reply p eEmpty s))))

/-- R294, R309, R316, R318, R321: the end of the active-bank record's write: it becomes the newest record and takes
effect; a write that fails retires the vault and leaves a volatile change; without the runtime nothing happens. -/
def Obligations.StileWrite : Prop :=
  (∀ (s : State) (j : StileJob), s.update.job = some j → canWork s = true → rpmbReady s = true → j.volatileJob = false →
    exec (.stileWriteComplete .ok) s = .next (finishAll (vaultFollow true (stileWritten j s))) ∧
    (∀ e, e ≠ .ok → exec (.stileWriteComplete e) s = .next (finishAll (stileFailed j (retireVault 1 s))))) ∧
  (∀ (s : State) (j : StileJob) (e : WriteEnd), s.update.job = some j → canWork s = true → j.volatileJob = true →
    exec (.stileWriteComplete e) s = .next (finishAll (stileFailed j s))) ∧
  (∀ (s : State) (j : StileJob), s.update.act = none → (stileWritten j s).update.job = none ∧
    (stileWritten j s).update.stile = j.record ∧ (stileWritten j s).update.vector = stileVector j.record ∧
    cellsOf (stileWritten j s) = cellsOf s ∧ ground (stileWritten j s) = ground s)

/-- R297 to R303: a manifest is written while UPD_STATE is IDLE; ADMIT makes its checks in their order, the first that
fails decides, and an admitted manifest is stored and takes UPD_STATE to ADMITTED; a part's data arrive in order, and
the last of them are checked against the delta's digest. -/
def Obligations.UpdateManifest : Prop :=
  (∀ (s : State) (p : Port) (off : U40) (data : List Byte), admitted s p .writeBlock 0x7001 0 data.length = true →
    (s.update.state = 0 → off.toNat + data.length ≤ 71744 →
      exec (.manifestWrite p off data) s = .next (reply p eOk (modUpd (fun u => { u with
        manifestBuf := if off.toNat = 0 then data else patch u.manifestBuf off.toNat data }) s))) ∧
    (s.update.state = 0 → 71744 < off.toNat + data.length →
      exec (.manifestWrite p off data) s = .next (reply p eRange s)) ∧
    (s.update.state ≠ 0 → exec (.manifestWrite p off data) s = .next (reply p eState s))) ∧
  (∀ (s : State) (p : Port), admitted s p .exec 0x7000 1 1 = true →
    let m := s.update.manifestBuf
    (∀ k t, admitCheck s m = none → storeRecord 3 [] m false s = .ok (k, t) →
      ∃ u, exec (.admitManifest p) s = .next u ∧ (portRegs u p).lastCode = eOk ∧ u.update.state = 1 ∧
        u.update.manifest = m ∧ u.update.manifestSeq = s.vault.nextSequence ∧ u.update.manifestDigest = sha384 m ∧
        u.update.partData = [] ∧ u.update.partState = [] ∧ u.update.lastResult = 0x01000000 ∧ u.vault = t.vault ∧
        ground u = ground s ∧ cellsOf u = cellsOf s) ∧
    (∀ c d, admitCheck s m = some (c, d) → exec (.admitManifest p) s = .next (reply p c (setLast 1 c d s))) ∧
    (admitCheck s m = none → ∀ c, storeRecord 3 [] m false s = .error c →
      exec (.admitManifest p) s = .next (reply p c (setLast 1 c 0xFF00 s)))) ∧
  (∀ (s : State) (p : Port) (off : U40) (data : List Byte), admitted s p .writeBlock 0x7002 1 data.length = true →
    let k := (portRegs s p).partSelect.toNat
    let x := partAt s.update.manifest k
    let old := (tget s.update.partData k).getD []
    (s.update.state ≠ 1 → exec (.partDataWrite p off data) s = .next (reply p eState s)) ∧
    (s.update.state = 1 → k < mfCount s.update.manifest → (tget s.update.partState k).getD 0 ≠ 2 →
      (off.toNat ≠ old.length → exec (.partDataWrite p off data) s = .next (reply p eRange s)) ∧
      (off.toNat = old.length → x.deltaLen < old.length + data.length →
        exec (.partDataWrite p off data) s = .next (reply p eLength s)) ∧
      (off.toNat = old.length → old.length + data.length < x.deltaLen → vaultReady s = true → ∀ t,
        storePart k (data.length / 0x100000 + 1) off.toNat data s = .ok t →
        exec (.partDataWrite p off data) s = .next (reply p eOk (setPart k 1 (old ++ data) t))) ∧
      (off.toNat = old.length → old.length + data.length = x.deltaLen → vaultReady s = true → ∀ t,
        storePart k (data.length / 0x100000 + 1) off.toNat data s = .ok t → sha384 (old ++ data) ≠ x.deltaDigest →
        exec (.partDataWrite p off data) s = .next (reply p eIntegrity (setLast 2 eIntegrity k
          (setPart k 0 [] (setPart k 1 (old ++ data) t)))))))

/-- R306 to R309: APPLY with every part received locks the targeted banks and begins with the first part not VERIFIED;
each part is rebuilt and proven, and its end marks it VERIFIED or takes UPD_STATE back to STAGED; ABORT ends the
update before its activation, and the bytes already written stay. -/
def Obligations.UpdateApply : Prop :=
  (∀ (s : State) (p : Port), admitted s p .exec 0x7000 2 1 = true →
    (s.update.state = 2 → exec (.apply p) s = .next (reply p eOk (setLast 3 eOk 0 (putProgress (modUpd (fun u => { u with
      state := 3, locked := lockBits u.manifest, currentPart := (nextPart u).getD 0 }) s))))) ∧
    (s.update.state ≠ 2 → exec (.apply p) s = .next (reply p eState (setLast 3 eState 0 s)))) ∧
  (∀ (s : State) (f : Option (Cs × PhysEnd)) (code : U8) (t : State), s.update.state = 3 → suspended s = false →
    vaultReady s = true → s.pllLock = true →
    let x := partAt s.update.manifest s.update.currentPart
    let u := modUpd (fun u => { u with partState := tput u.partState x.no 3, applyProgress := 0 }) s
    x.kind ≠ 2 → (chanAt s (chanOf x.chan)).eff ≠ .running → buildPart x f u = (code, t) →
    exec (.applyPart f) s = .next (finishAll (vaultFollow true (partEnd x code t)))) ∧
  (∀ (x : MPart) (s : State),
    tget (partEnd x eOk s).update.partState x.no = some 4 ∧
    (∀ c, c ≠ eOk → tget (partEnd x c s).update.partState x.no = some 2 ∧ (partEnd x c s).update.state = 2)) ∧
  (∀ (s : State) (p : Port), admitted s p .exec 0x7000 6 1 = true →
    (1 ≤ s.update.state.toNat → s.update.state.toNat ≤ 4 →
      exec (.abort p) s = .next (reply p eOk (finishAll (setLast 7 eOk 0
        (updateIdle (clearActivation s.update.seedHolds s)))))) ∧
    ((s.update.state.toNat = 0 ∨ 5 ≤ s.update.state.toNat) →
      exec (.abort p) s = .next (reply p eState (setLast 7 eState 0 s))))

/-- R317, R318, R320, R321: ACTIVATE with every part VERIFIED holds the affected channels and orders the record's
write; CONFIRM in the trial orders its record and answers when it is written; REVERT and the trial timer end the
trial. -/
def Obligations.UpdateActivation : Prop :=
  (∀ (s : State) (p : Port), admitted s p .exec 0x7000 3 1 = true →
    (s.update.state ≠ 4 → exec (.activate p) s = .next (reply p eState (setLast 4 eState 0 s))) ∧
    (s.update.state = 4 → s.vault.degraded = false → rpmbWritable s = true →
      (∀ c ∈ affectedBy s.update.manifest, (chanAt s (chanOf c)).eff ≠ .retired ∧ (chanAt s (chanOf c)).eff ≠ .recovering) →
      let m := s.update.manifest
      exec (.activate p) s = .next (reply p eOk (finishAll (setLast 4 eOk 0 (holdAffected (affectedBy m) (modUpd (fun u =>
        { u with state := 5, affected := affectedBy m, targetBits := mfBits m, act := some {
            stage := .stile, kind := if mfTrial m = 0 then 1 else if (mfParts m).any (fun p => p.kind == 3) then 3 else 2,
            bits := mfBits m, seedTrees := ((mfParts m).filter (fun p => p.kind == 2)).map (·.target),
            draft := activationDraft s } }) s))))))) ∧
  (∀ (s : State) (p : Port), admitted s p .exec 0x7000 4 1 = true →
    (s.update.state = 6 → s.update.act = none → exec (.confirm p) s = .next (finishAll (modUpd (fun u => { u with
      act := some { stage := .stile, kind := 4, draft := confirmDraft s, confirmPort := some p } }) s))) ∧
    (s.update.state ≠ 6 → exec (.confirm p) s = .next (reply p eState (setLast 5 eState 0 s)))) ∧
  (∀ (s : State) (p : Port), admitted s p .exec 0x7000 5 1 = true →
    (s.update.state = 6 → s.update.act = none →
      exec (.revert p) s = .next (reply p eOk (finishAll (startRevert eOk (setLast 6 eOk 0 s))))) ∧
    (s.update.state ≠ 6 → exec (.revert p) s = .next (reply p eState (setLast 6 eState 0 s)))) ∧
  (∀ s : State, s.update.state = 6 → s.update.trialStart.isSome = true → s.refclk = true → s.update.act = none →
    exec .trialExpiry s = .next (finishAll (startRevert eTimeout (timeoutExpired 0xC s))))

/-- R330 to R337: DG_ALLOC grants the port the next free bank; DECL_LENGTH begins a job, DATA absorbs its bytes in
order, FINISH gives the digest of what was absorbed, RELEASE frees the bank and zeroes what it held; a job given too
much or too little is POISONED with E_LENGTH, and data out of order answers E_RANGE. R338 to R345: ABSORB_KEY absorbs
one padded block of a key the port may use for digests and marks the bank KEYED; EXPORT gives the job's state, wrapped
under the device's key in SERVICE phase and on bank 0; IMPORT takes back only a blob that unwraps; a parity error
poisons the unit in use and is one transient of its engine. -/
def Obligations.DigestEngine : Prop :=
  (
  (∀ (s : State) (p : Port), admitted s p .exec 0x8100 1 1 = true → s.digestHealth.retired = false →
    (∀ b, bankChoice s p = some b → exec (.dgAlloc p) s = .next (reply p eOk (modPort p (fun r => { r with
      dgGranted := BitVec.ofNat 8 b.val }) (modBank b (fun k => { k with st := .idle, owner := some p }) s)))) ∧
    (bankChoice s p = none → exec (.dgAlloc p) s = .next (reply p eBusy (modPort p (fun r => { r with
      dgGranted := 0xFF }) s)))) ∧
  (∀ (s : State) (p : Port) (b : Fin 8) (n : U40), admitted s p .write (0x8110 + b.val) 4 5 = true →
    ((bankAt s b).st = .idle ∨ (bankAt s b).st = .done) → algBlock (bankAt s b).alg.toNat ≠ 0 →
    exec (.dgDeclLength p b n) s = .next (reply p eOk (modBank b (fun k => { k with
      st := .absorbing, declLength := n, absorbed := 0, keyed := false, keys := [], buffer := []
      chain := algInit k.alg.toNat, lastCode := eOk }) s))) ∧
  (∀ (s : State) (p : Port) (b : Fin 8) (off : U40) (data : List Byte),
    admitted s p .writeBlock (0x8110 + b.val) 6 data.length = true → (bankAt s b).st = .absorbing →
    (off = (bankAt s b).absorbed → off.toNat + data.length ≤ (bankAt s b).declLength.toNat →
      exec (.dgData p b off data) s = .next (reply p eOk (modBank b (fun k => { bankAbsorb data k with lastCode := eOk }) s))) ∧
    (off = (bankAt s b).absorbed → (bankAt s b).declLength.toNat < off.toNat + data.length →
      exec (.dgData p b off data) s = .next (reply p eLength (modBank b (fun k => { k with
        st := .poisoned, keys := [], lastCode := eLength }) s))) ∧
    (off ≠ (bankAt s b).absorbed → exec (.dgData p b off data) s = .next (reply p eRange (modBank b (fun k => { k with
      lastCode := eRange }) s)))) ∧
  (∀ (s : State) (p : Port) (b : Fin 8), admitted s p .exec (0x8110 + b.val) 8 1 = true → (bankAt s b).st = .absorbing →
    ((bankAt s b).declLength.toNat ≤ (bankAt s b).absorbed.toNat →
      exec (.dgFinish p b) s = .next (reply p eOk (modBank b (fun k => { k with
        st := .done, keys := [], lastCode := eOk
        digest := padTo (algEnd k.alg.toNat k.outLen.toNat k.chain k.buffer k.absorbed.toNat) 255 }) s))) ∧
    ((bankAt s b).absorbed.toNat < (bankAt s b).declLength.toNat →
      exec (.dgFinish p b) s = .next (reply p eLength (modBank b (fun k => { k with
        st := .poisoned, keys := [], lastCode := eLength }) s)))) ∧
  (∀ (s : State) (p : Port) (b : Fin 8), admitted s p .exec (0x8110 + b.val) 0xD 1 = true →
    exec (.dgRelease p b) s = .next (reply p eOk (modBank b (fun k => { freeBank k with lastCode := eOk }) s)))) ∧
  (
  (∀ (s : State) (p : Port) (b : Fin 8) (v : U16), admitted s p .exec (0x8110 + b.val) 7 2 = true →
    let slot := bits v.toNat 5 0
    let k := bankAt s b
    k.st = .absorbing → k.absorbed.toNat % algBlock k.alg.toNat = 0 → bits v.toNat 7 6 = 0 →
    (bits v.toNat 15 8 = 0 ∨ bits v.toNat 15 8 = 0x36 ∨ bits v.toNat 15 8 = 0x5C) →
    (ksLoaded s slot = true → (keySlot s slot).attr.getLsbD 0 = true → ksUsable s p slot = true →
      (b = 0 ∨ s.phase = .service) → k.absorbed.toNat + algBlock k.alg.toNat ≤ k.declLength.toNat →
      exec (.absorbKey p b v) s = .next (reply p eOk (modBank b (fun k => { bankAbsorb
        ((padTo (ksKey s slot) (algBlock k.alg.toNat)).map (· ^^^ BitVec.ofNat 8 (bits v.toNat 15 8))) k with
        keyed := true, keys := insertNat slot k.keys, lastCode := eOk }) s))) ∧
    ((ksLoaded s slot = false ∨ (keySlot s slot).attr.getLsbD 0 = false ∨ ksUsable s p slot = false) →
      exec (.absorbKey p b v) s = .next (reply p eAccess (modBank b (fun k => { k with lastCode := eAccess }) s)))) ∧
  (∀ (s : State) (p : Port) (b : Fin 8), admitted s p .exec (0x8110 + b.val) 0xA 1 = true →
    (bankAt s b).st = .absorbing → (bankAt s b).absorbed.toNat % algBlock (bankAt s b).alg.toNat = 0 →
    (wrapRequired s b = false → exec (.exportState p b) s = .next (reply p eOk (modBank b (fun k => { k with
      blob := padTo (plainBlob k) 232, lastCode := eOk }) s))) ∧
    (wrapRequired s b = true → ksLoaded s 8 = true → exec (.exportState p b) s = .next (reply p eOk (modBank b (fun k =>
      { k with blob := padTo (aesKw (ksKey s 8) (plainBlob k)) 232, lastCode := eOk }) s)))) ∧
  (∀ (s : State) (p : Port) (b : Fin 8), admitted s p .exec (0x8110 + b.val) 0xC 1 = true →
    ((bankAt s b).st = .idle ∨ (bankAt s b).st = .done) → wrapRequired s b = true → ksLoaded s 8 = true →
    (∀ d, unwrapBlob (ksKey s 8) (bankAt s b).blob = some d → blobOk d = true → d.length = 24 + algState (byteAt d 0) →
      exec (.importState p b) s = .next (reply p eOk (modBank b (fun k => { loadBlob d k with lastCode := eOk }) s))) ∧
    (unwrapBlob (ksKey s 8) (bankAt s b).blob = none →
      exec (.importState p b) s = .next (reply p eAuth (modBank b (fun k => { k with lastCode := eAuth }) s)))) ∧
  (∀ (s : State) (b : Fin 8), (bankAt s b).st ≠ .free → exec (.engineParityError false b) s = .next (chargeDigest
    (modBank b (fun k => { k with st := .poisoned, keys := [], lastCode := eIntegrity }) s))) ∧
  (∀ (s : State) (u : Fin 8) (h : u.val < 4), (cxAt s ⟨u.val, h⟩).st ≠ .free →
    exec (.engineParityError true u) s = .next (chargeCipher
      (modCx ⟨u.val, h⟩ (fun k => { cxPoisoned k with lastCode := eIntegrity }) s))))

/-- R349 to R354, R413: CX_ALLOC grants the next free context; DECL_LENGTH starts a job under a key of the right size,
owner and usage; DATA delivers the input in order; FINISH completes it: the tag of a GCM encryption, the check of a
decryption, the wrapped or unwrapped bytes; a failed check withholds and zeroes the output; RELEASE frees the context.
-/
def Obligations.CipherJobs : Prop :=
  (∀ (s : State) (p : Port), admitted s p .exec 0x8200 1 1 = true → s.cipherHealth.retired = false →
    (∀ c, cxChoice s p = some c → exec (.cxAlloc p) s = .next (reply p eOk (modPort p (fun r => { r with
      cxGranted := BitVec.ofNat 8 c.val }) (modCx c (fun k => { k with st := .idle, owner := some p }) s)))) ∧
    (cxChoice s p = none → exec (.cxAlloc p) s = .next (reply p eBusy (modPort p (fun r => { r with
      cxGranted := 0xFF }) s)))) ∧
  (∀ (s : State) (p : Port) (c : Fin 4) (n : U40), admitted s p .write (0x8210 + c.val) 7 5 = true →
    let k := cxAt s c
    let slot := k.keySlot.toNat
    (k.st = .idle ∨ k.st = .done) → cxFormOk k n.toNat = true →
    (ksLoaded s slot = true → ksUsable s p slot = true → (keySlot s slot).attr.getLsbD (cxUsage k) = true →
      ksSize (keySlot s slot).attr < 2 →
      exec (.cxDeclLength p c n) s = .next (reply p eOk (maskRefresh (modCx c (fun k => { k with
        st := .absorbing, declLength := n, key := ksKey s slot, input := [], output := [], lastCode := eOk }) s)))) ∧
    (ksLoaded s slot = false ∨ ksUsable s p slot = false →
      exec (.cxDeclLength p c n) s = .next (reply p eAccess (modCx c (fun k => { k with lastCode := eAccess }) s)))) ∧
  (∀ (s : State) (p : Port) (c : Fin 4) (off : U40) (data : List Byte),
    admitted s p .writeBlock (0x8210 + c.val) 8 data.length = true → (cxAt s c).st = .absorbing →
    off.toNat = (cxAt s c).input.length → off.toNat + data.length ≤ (cxAt s c).declLength.toNat →
    exec (.cxData p c off data) s = .next (reply p eOk (modCx c (fun k => { k with
      input := k.input ++ data, output := cxStream k (k.input ++ data), lastCode := eOk }) s))) ∧
  (∀ (s : State) (p : Port) (c : Fin 4), admitted s p .exec (0x8210 + c.val) 0xA 1 = true →
    let k := cxAt s c
    let aad := k.input.take k.aadLength.toNat
    let body := k.input.drop k.aadLength.toNat
    k.st = .absorbing → k.declLength.toNat ≤ k.input.length →
    (k.mode = 2 → k.dir = 0 → exec (.cxFinish p c) s = .next (reply p eOk (modCx c (fun k => { k with
      st := .done, key := [], tag := gcmTag k.key k.iv aad k.output, lastCode := eOk }) s))) ∧
    (k.mode = 2 → k.dir = 1 → gcmTag k.key k.iv aad body = k.tag → exec (.cxFinish p c) s = .next (reply p eOk (modCx c
      (fun k => { k with st := .done, key := [], lastCode := eOk }) s))) ∧
    (k.mode = 2 → k.dir = 1 → gcmTag k.key k.iv aad body ≠ k.tag → exec (.cxFinish p c) s = .next (reply p eAuth (modCx c
      (fun k => { cxPoisoned k with lastCode := eAuth }) s))) ∧
    (k.mode = 3 → k.dir = 0 → exec (.cxFinish p c) s = .next (reply p eOk (modCx c (fun k => { k with
      st := .done, key := [], output := aesKw k.key k.input, lastCode := eOk }) s))) ∧
    (k.mode = 1 → exec (.cxFinish p c) s = .next (reply p eOk (modCx c (fun k => { k with
      st := .done, key := [], lastCode := eOk }) s)))) ∧
  (∀ (s : State) (p : Port) (c : Fin 4), admitted s p .exec (0x8210 + c.val) 0xB 1 = true →
    exec (.cxRelease p c) s = .next (reply p eOk (modCx c (fun k => { freeCx k with lastCode := eOk }) s)))

/-- R356, R359, R360, R370: a key is loaded into the selected slot when the slot is general, EMPTY and fits the
requested attributes, and the source of its bytes answers: the DRBG, a derivation, an unwrapping, a plain import in
Maker state or TEST phase; the slot then names its ORIGIN and its OWNER, and KS_PLAIN is zeroed whatever the result.
R360, R361, R366, R367, R369: KS_WRAP gives the blob of a key marked EXPORT under a wrapping key; KS_CLEAR empties an
own slot that no running job holds; DSS_PROVISION burns a fresh DSS and loads every key from it; KEY_RELOAD loads them
again when the DSS is recovered. -/
def Obligations.KeyStore : Prop :=
  (
  (∀ (s : State) (p : Port), admitted s p .exec 0x8300 3 1 = true →
    let slot := (portRegs s p).ksSelect.toNat
    let req := (portRegs s p).ksReqAttr.toNat
    (ksLoadCheck s p = eOk → ∀ bs t, wireGenerate 0 (ksDraw (bits req 28 27)) s = (some bs, t) →
      exec (.ksGenerate p) s = .next (reply p eOk (ksLoad slot req 3 (portNo p).val (ksForm (bits req 28 27) bs) t))) ∧
    (ksLoadCheck s p = eOk → ∀ t, wireGenerate 0 (ksDraw (bits req 28 27)) s = (none, t) →
      exec (.ksGenerate p) s = .next (reply p eNotReady t)) ∧
    (ksLoadCheck s p ≠ eOk → exec (.ksGenerate p) s = .next (reply p (ksLoadCheck s p) s))) ∧
  (∀ (s : State) (p : Port) (src : U8), admitted s p .exec 0x8300 4 1 = true →
    let slot := (portRegs s p).ksSelect.toNat
    let req := (portRegs s p).ksReqAttr.toNat
    (ksWith s p src.toNat 6 = false → exec (.ksDerive p src) s = .next (reply p eAccess s)) ∧
    (16 ≤ slot → ksWith s p src.toNat 6 = true → ksLoadCheck s p = eOk → (16 ≤ src.toNat ∨ bit req 7 = false) →
      exec (.ksDerive p src) s = .next (reply p eOk (ksLoad slot req 2 (portNo p).val (ksForm (bits req 28 27)
        (kdf (ksKey s src.toNat) (portRegs s p).ksLabel (portRegs s p).ksContext (ksDraw (bits req 28 27)))) s)))) ∧
  (∀ (s : State) (p : Port) (w : U8), admitted s p .exec 0x8300 8 1 = true →
    let slot := (portRegs s p).ksSelect.toNat
    16 ≤ slot → ksWith s p w.toNat 4 = true → tget s.keys.slots slot = none →
    (aesKwUnwrap (ksKey s w.toNat) (portRegs s p).ksBlob = none → exec (.ksUnwrap p w) s = .next (reply p eAuth s)) ∧
    (∀ d, aesKwUnwrap (ksKey s w.toNat) (portRegs s p).ksBlob = some d → bits (fieldAt d 0 4) 31 29 = 0 →
      bits (fieldAt d 0 4) 26 22 = 0 → allZero (slice d 4 4) = true → ksReqOk (fieldAt d 0 4) = true →
      bits (fieldAt d 0 4) 28 27 ≠ 2 →
      exec (.ksUnwrap p w) s = .next (reply p eOk (ksLoad slot (fieldAt d 0 4) 4 (portNo p).val
        ((slice d 8 48).take (min 48 (ksDraw (bits (fieldAt d 0 4) 28 27)))) s)))) ∧
  (∀ (s : State) (p : Port), admitted s p .exec 0x8300 0xB 1 = true →
    let r := portRegs s p
    let t := modPort p (fun r => { r with ksPlain := zeros 48 }) s
    ((s.lc.state = 0 ∨ s.phase = .test) → ksLoadCheck s p = eOk →
      exec (.ksImportPlain p) s = .next (reply p eOk (ksLoad r.ksSelect.toNat r.ksReqAttr.toNat 5 (portNo p).val
        (r.ksPlain.take (min 48 (ksDraw (bits r.ksReqAttr.toNat 28 27)))) t))) ∧
    (s.lc.state ≠ 0 → s.phase ≠ .test → exec (.ksImportPlain p) s = .next (reply p eState t))) ∧
  (∀ (slot req origin owner : Nat) (key : List Byte) (s : State), bits req 28 27 ≠ 2 →
    keySlot (ksLoad slot req origin owner key s) slot = { attr := ksAttr req origin owner, key := padTo key 32 } ∧
    (∀ k, k ≠ slot → keySlot (ksLoad slot req origin owner key s) k = keySlot s k))) ∧
  (
  (∀ (s : State) (p : Port) (w : U8), admitted s p .exec 0x8300 7 1 = true →
    let slot := (portRegs s p).ksSelect.toNat
    (ksWith s p w.toNat 3 = true → ksWith s p slot 7 = true → exec (.ksWrap p w) s = .next (reply p eOk (modPort p
      (fun r => { r with ksBlob := padTo (aesKw (ksKey s w.toNat) (blobPlain s slot)) 64 }) s))) ∧
    (ksWith s p w.toNat 3 = false ∨ ksWith s p slot 7 = false →
      exec (.ksWrap p w) s = .next (reply p eAccess s))) ∧
  (∀ (s : State) (p : Port), admitted s p .exec 0x8300 0xC 1 = true →
    let slot := (portRegs s p).ksSelect.toNat
    16 ≤ slot → ksState (keySlot s slot).attr ≠ 2 →
    (tget s.keys.slots slot = none → exec (.ksClear p) s = .next (reply p eOk s)) ∧
    (tget s.keys.slots slot ≠ none → ksUsable s p slot = false → exec (.ksClear p) s = .next (reply p eAccess s)) ∧
    (tget s.keys.slots slot ≠ none → ksUsable s p slot = true → keyInUse s slot = true →
      exec (.ksClear p) s = .next (reply p eBusy s)) ∧
    (tget s.keys.slots slot ≠ none → ksUsable s p slot = true → keyInUse s slot = false →
      ksSize (keySlot s slot).attr ≠ 2 →
      exec (.ksClear p) s = .next (reply p eOk (modKeys (fun k => { k with slots := tdel k.slots slot }) s)))) ∧
  (∀ (s : State) (p : Port) (v : U8) (w : Option Window) (ok : Bool) (k : Nat),
    admitted s p .exec 0x8300 0x10 1 = true → dssNext s = some k →
    let mode := if v.toNat = 0 then custody s else v.toNat
    (provisionAllowed s = false → exec (.dssProvision p v w ok) s = .next (reply p eState s)) ∧
    (provisionAllowed s = true → v.toNat ≤ 2 → mode ≠ 0 → custody s = mode → (mode = 1 → s.heath.cellState = 0) →
      ∀ dss t, wireFresh 32 w s = (some dss, t) →
      exec (.dssProvision p v w true) s = .next (reply p eOk (keysBack (keysLoaded dss (otpBurn (0x230 + 48 * k)
        (dssMasked (burnFlag (0x230 + 48 * k + 40) t) mode k dss ++
          dssCheck (burnFlag (0x230 + 48 * k + 40) t) dss) (burnFlag (0x230 + 48 * k + 40) t)))))) ∧
    (provisionAllowed s = true → (2 < v.toNat ∨ mode = 0) → exec (.dssProvision p v w ok) s = .next (reply p eRange s))) ∧
  (∀ (s : State) (p : Port), admitted s p .exec 0x8300 0x11 1 = true →
    (s.keys.keyState ≠ 2 → exec (.keyReload p) s = .next (reply p eState s)) ∧
    (s.keys.keyState = 2 → (∀ c, (chanAt s c).tamper = false) →
      (∀ k dss, dssSlot s = some k → dssRecover s k = some dss →
        exec (.keyReload p) s = .next (reply p eOk (keysBack (keysLoaded dss s)))) ∧
      (∀ k, dssSlot s = some k → dssRecover s k = none →
        exec (.keyReload p) s = .next (reply p eIntegrity (finishAll (keysLost s)))))))

/-- R372, R373, R375: with no command of the port pending, PK_SLOT_LIMBS sets the size and clears the port's area and
buffer, PK_WIPE clears the area, PK_BUF takes exactly its size; with one pending each answers E_BUSY. R380, R381: the
next command in the ports' order starts when none runs; one that passes its checks runs, one that fails completes at
once with the failing check's code. -/
def Obligations.PkeAreas : Prop :=
  (
  (∀ (s : State) (p : Port) (v : U8), admitted s p .write 0x8401 0 1 = true →
    (1 ≤ v.toNat → v.toNat ≤ 128 → pkPending s p = 0 → exec (.pkSlotLimbsWrite p v) s = .next (reply p eOk
      (modPk p (fun k => { k with limbs := v, buf := zeros (5 * v.toNat), slots := [] }) s))) ∧
    ((v = 0 ∨ 128 < v.toNat) → exec (.pkSlotLimbsWrite p v) s = .next (reply p eRange s)) ∧
    (1 ≤ v.toNat → v.toNat ≤ 128 → pkPending s p ≠ 0 → exec (.pkSlotLimbsWrite p v) s = .next (reply p eBusy s))) ∧
  (∀ (s : State) (p : Port), admitted s p .exec 0x8401 9 1 = true →
    (pkPending s p = 0 → exec (.pkWipe p) s = .next (reply p eOk (modPk p (fun k => { k with slots := [] }) s))) ∧
    (pkPending s p ≠ 0 → exec (.pkWipe p) s = .next (reply p eBusy s))) ∧
  (∀ (s : State) (p : Port) (off : U40) (data : List Byte), admitted s p .writeBlock 0x8401 6 data.length = true →
    (pkPending s p = 0 → off.toNat = 0 → data.length = 5 * (pkPort s p).limbs.toNat →
      exec (.pkBufWrite p off data) s = .next (reply p eOk (modPk p (fun k => { k with buf := data }) s))) ∧
    (pkPending s p = 0 → off.toNat = 0 → data.length ≠ 5 * (pkPort s p).limbs.toNat →
      exec (.pkBufWrite p off data) s = .next (reply p eLength s)) ∧
    (pkPending s p = 0 → off.toNat ≠ 0 → exec (.pkBufWrite p off data) s = .next (reply p eRange s)) ∧
    (pkPending s p ≠ 0 → exec (.pkBufWrite p off data) s = .next (reply p eBusy s)))) ∧
  (
  ∀ (s : State) (e : PkEntry), s.pke.running = none → pkNext s = some e →
    let t := modPke (fun k => { k with
      queue := k.queue.filter (fun x => x.entry != e.entry), commands := satInc k.commands, running := some e }) s
    (pkCheck t e = eOk → exec .pkCommandDispatch s = .next t) ∧
    (pkCheck t e ≠ eOk → ¬(e.op = 0x09 ∧ pkCheck t e = eWithheld) →
      exec .pkCommandDispatch s = .next (pkEnd e (pkCheck t e) 0 t)))

/-- R376 to R379: each of the seventeen commands, submitted with fields that fit, takes the entry that R378 admits,
with the port's next sequence number; a wrong field answers E_RANGE, no entry E_BUSY, a retired engine E_RETIRED. -/
def Obligations.PkeSubmits : Prop :=
  ∀ (s : State) (p : Port) (w : PkWord), admitted s p .exec 0x8401 2 5 = true → ∀ x ∈ [(Instr.add p w, 0x01),
      (.sub p w, 0x02), (.mul p w, 0x03), (.inv p w, 0x04), (.exp p w, 0x05), (.expv p w, 0x06), (.reduce p w, 0x07),
      (.load p w, 0x08), (.store p w, 0x09), (.compare p w, 0x0A), (.keyload p w, 0x0B), (.keypub p w, 0x0C),
      (.rand p w, 0x0D), (.seal p w, 0x0E), (.verify p w, 0x0F), (.verifyGate p w, 0x10), (.toKey p w, 0x11)],
    let bad := pkFieldsOk s p x.2 w = false ∨ (pkSigOp x.2 = true ∧ pkOverlap w = true) ∨
      ((pkPort s p).limbs.toNat < 10 ∧ (x.2 = 0x0B ∨ x.2 = 0x0C ∨ pkSigOp x.2 = true ∨ x.2 = 0x11))
    (s.pke.health.retired = false → ¬bad → ∀ n, pkEntryFor s p = some n →
      exec x.1 s = .next (reply p eOk (modPk p (fun k => { k with seq := k.seq + 1 }) (modPke (fun k => { k with
        queue := k.queue ++ [⟨n, p, x.2, w, (pkPort s p).seq + 1⟩] }) s)))) ∧
    (s.pke.health.retired = false → ¬bad → pkEntryFor s p = none → exec x.1 s = .next (reply p eBusy s)) ∧
    (s.pke.health.retired = false → bad → exec x.1 s = .next (reply p eRange s)) ∧
    (s.pke.health.retired = true → exec x.1 s = .next (reply p eRetired s))

/-- R374, R375, R377, R383, R384: what the arithmetic commands compute: the slot R holds the value, every other slot
of the port keeps its own, PK_RESULT names the command with OK, and the engine is free. COMPARE reports the order;
STORE gives A in the buffer; an INV without an inverse is E_REFUSED. R386 to R389, R392: SEAL withholds the two
signature slots under each other; VERIFY reports the signature; VERIFY_GATE opens the slots when it verifies, and
zeroes them, counts and records when it does not; a parity error ends the running command with E_INTEGRITY and is one
transient. -/
def Obligations.PkeCompletes : Prop :=
  (
  (∀ (s : State) (e : PkEntry) (x : Nat), s.pke.running = some e → 1 ≤ e.op → e.op ≤ 7 →
    let k := pkPort s e.port
    let v := pkVals k e.w
    (e.op = 1 → x = (v.a + v.b) % v.m) → (e.op = 2 → x = (v.a + v.m - v.b) % v.m) → (e.op = 3 → x = v.a * v.b % v.m) →
    (e.op = 4 → inverse v.m v.a = some x) → (e.op = 5 ∨ e.op = 6 → x = powMod v.m v.a (40 * k.limbs.toNat) v.b) →
    (e.op = 7 → x = v.a % v.m) → (pkSlot k e.w.r.toNat).cls ≠ .withheld →
    ∃ t, exec .pkCommandComplete s = .next t ∧ (pkSlot (pkPort t e.port) e.w.r.toNat).value = x ∧
      (∀ n, n ≠ e.w.r.toNat → (pkSlot (pkPort t e.port) n).value = (pkSlot k n).value) ∧
      (∀ q, q ≠ e.port → pkPort t q = pkPort s q) ∧
      (pkPort t e.port).result = pkResultWord e.seq eOk 0 ∧ t.pke.running = none ∧ t.pke.queue = s.pke.queue ∧
      t.keys = s.keys ∧ ground t = ground s ∧ t.chans = s.chans) ∧
  (∀ (s : State) (e : PkEntry), s.pke.running = some e → e.op = 0x0A →
    let v := pkVals (pkPort s e.port) e.w
    exec .pkCommandComplete s = .next (pkEnd e eOk (if v.a < v.b then 1 else if v.a = v.b then 2 else 3) s)) ∧
  (∀ (s : State) (e : PkEntry), s.pke.running = some e → e.op = 0x09 →
    exec .pkCommandComplete s = .next (pkEnd e eOk 0 (modPk e.port (fun k => { k with
      buf := leBytes (pkBufSize k) (pkVals (pkPort s e.port) e.w).a }) s))) ∧
  (∀ (s : State) (e : PkEntry), s.pke.running = some e → e.op = 4 →
    inverse (pkVals (pkPort s e.port) e.w).m (pkVals (pkPort s e.port) e.w).a = none →
    exec .pkCommandComplete s = .next (pkEnd e eRefused 0 s))) ∧
  (
  (∀ (s : State) (e : PkEntry), s.pke.running = some e → e.op = 0x0F →
    exec .pkCommandComplete s = .next (pkEnd e
      (if pkVerify (pkVals (pkPort s e.port) e.w) = true then eOk else eAuth) 0 s)) ∧
  (∀ (s : State) (e : PkEntry), s.pke.running = some e → e.op = 0x0E → e.w.a ≠ e.w.b →
    ∃ t, exec .pkCommandComplete s = .next t ∧
      (pkSlot (pkPort t e.port) e.w.a.toNat).cls = .withheld ∧ (pkSlot (pkPort t e.port) e.w.b.toNat).cls = .withheld ∧
      (pkSlot (pkPort t e.port) e.w.a.toNat).partner = e.w.b.toNat ∧
      (pkSlot (pkPort t e.port) e.w.b.toNat).partner = e.w.a.toNat ∧
      pkGateOk (pkPort t e.port) e.w = true ∧
      (∀ n, (pkSlot (pkPort t e.port) n).value = (pkSlot (pkPort s e.port) n).value) ∧ ground t = ground s) ∧
  (∀ (s : State) (e : PkEntry), s.pke.running = some e → e.op = 0x10 →
    let v := pkVals (pkPort s e.port) e.w
    (pkVerify v = true → ∃ t, exec .pkCommandComplete s = .next t ∧
      (pkSlot (pkPort t e.port) e.w.a.toNat).cls = .pub ∧ (pkSlot (pkPort t e.port) e.w.a.toNat).value = v.a ∧
      (pkSlot (pkPort t e.port) e.w.b.toNat).cls = .pub ∧ (pkSlot (pkPort t e.port) e.w.b.toNat).value = v.b ∧
      (pkPort t e.port).result = pkResultWord e.seq eOk 0) ∧
    (pkVerify v = false → exec .pkCommandComplete s = .next (pkEnd e eAuth 0 (chargePke (journal 0x28 0x0303 true
      [e.seq, BitVec.ofNat 8 (portNo e.port).val] (modPke (fun k => { k with gateFails := satInc k.gateFails })
        (modPk e.port (fun k =>
          let k := { k with slots := tput k.slots e.w.a.toNat { value := 0, writes := (pkSlot k e.w.a.toNat).writes } }
          { k with slots := tput k.slots e.w.b.toNat { value := 0, writes := (pkSlot k e.w.b.toNat).writes } }) s))))))) ∧
  (∀ s : State, (s.pke.running = none → exec .pkeParityError s = .next (chargePke s)) ∧
    (∀ e, s.pke.running = some e → exec .pkeParityError s = .next (chargePke (pkEnd e eIntegrity 0
      (modPk e.port (fun k => (pkResults e).foldl (fun k n => pkPut n 0 .pub k) k) s))))))

/-- R397, R399 to R404, R417: what a start-up test, an alarm and a passed window do to the sources and the pool, how a
retired source returns, and what the test pattern does to the DRBG. -/
def Obligations.RandomSources : Prop :=
  (∀ (s : State) (i : Fin 3) (w : Window), (sourceAt s i.val).st = 1 → (tget s.steps 5).isSome = true →
    s.random.st = 1 →
    (windowFails i.val w = none → exec (.startupTestComplete i w) s = .next
      (modSource i.val (fun x => { x with st := if (activeSource s).isSome = true then 3 else 2 }) s)) ∧
    (windowFails i.val w ≠ none → (sourceAt s ((i.val + 1) % 3)).st ≠ 4 → ∃ t,
      exec (.startupTestComplete i w) s = .next t ∧ (sourceAt t i.val).fails = satInc (sourceAt s i.val).fails ∧
      ((sourceAt t i.val).st = if 3 ≤ (satInc (sourceAt s i.val).fails).toNat then 4 else 3) ∧
      (sourceAt t ((i.val + 1) % 3)).st = 1 ∧ t.random.switches = satInc s.random.switches ∧ ground t = ground s)) ∧
  (∀ (s : State) (apt : Bool) (i : Nat), i < 3 → activeSource s = some i → (sourceAt s ((i + 1) % 3)).st ≠ 4 → ∃ t,
    exec (.sourceAlarm apt) s = .next t ∧ (sourceAt t i).fails = satInc (sourceAt s i).fails ∧
    ((sourceAt t i).st = if 3 ≤ (satInc (sourceAt s i).fails).toNat then 4 else 3) ∧
    ((sourceAt t i).rct = if apt = true then (sourceAt s i).rct else satInc (sourceAt s i).rct) ∧
    ((sourceAt t i).apt = if apt = true then satInc (sourceAt s i).apt else (sourceAt s i).apt) ∧
    (sourceAt t ((i + 1) % 3)).st = 1 ∧ t.random.switches = satInc s.random.switches ∧ t.random.pool = [] ∧
    t.random.key = s.random.key ∧ t.random.st = s.random.st ∧ ground t = ground s) ∧
  (∀ (s : State) (w : Window) (i : Nat), activeSource s = some i → s.random.testPattern = false →
    windowFails i w = none → s.random.st = 1 → s.random.wires = [] → s.random.wiresLate = [] →
    s.random.autoDue = false → s.random.prWaiting = [] → s.random.reseedWaiting = false → (tget s.steps 5).isSome = true →
    ∃ t, exec (.windowPass w) s = .next t ∧ (sourceAt t i).passed = satInc (sourceAt s i).passed ∧
      (s.random.pool = [] → t.random.pool = [windowBytes w] ∧ t.random.rawBuf = s.random.rawBuf) ∧
      (∀ q, s.random.pool ≠ [] → rawTaker s.random = some q → t.random.pool = s.random.pool ∧
        t.random.rawBuf = s.random.rawBuf.set q (windowBytes w) ∧ t.random.rawLast = q) ∧
      (s.random.pool ≠ [] → rawTaker s.random = none → t.random.rawBuf = s.random.rawBuf ∧
        t.random.pool = if s.random.pool.length < 2 then s.random.pool ++ [windowBytes w] else s.random.pool) ∧
      t.random.st = 1 ∧ t.random.key = s.random.key ∧ t.random.v = s.random.v) ∧
  (∀ (s : State) (p : Port) (src : U8) (w : Window), admitted s p .exec 0x8000 5 1 = true →
    (3 ≤ src.toNat → exec (.srcReinstate p src w) s = .next (reply p eRange s)) ∧
    (src.toNat < 3 → (sourceAt s src.toNat).st ≠ 4 → exec (.srcReinstate p src w) s = .next (reply p eState s)) ∧
    (src.toNat < 3 → (sourceAt s src.toNat).st = 4 → windowFails src.toNat w ≠ none →
      exec (.srcReinstate p src w) s = .next (reply p eIntegrity s)) ∧
    (src.toNat < 3 → (sourceAt s src.toNat).st = 4 → windowFails src.toNat w = none →
      exec (.srcReinstate p src w) s = .next (reply p eOk (modSource src.toNat
        (fun x => { x with fails := 0, st := if (activeSource s).isSome = true then 3 else 2 }) s)))) ∧
  (∀ (s : State) (p : Port), admitted s p .write 0x8000 3 1 = true →
    (s.lc.state ≠ 0 → exec (.testPatternWrite p true) s = .next (reply p eState s)) ∧
    (s.lc.state = 0 → s.random.testPattern = true → exec (.testPatternWrite p true) s = .next (reply p eOk s)) ∧
    (s.lc.state = 0 → s.random.testPattern = false → s.random.st ≠ 3 → ∃ u,
      exec (.testPatternWrite p true) s = .next (reply p eOk u) ∧ u.random.testPattern = true ∧
      u.random.lfsr = s.random.lfsrSeed ∧ u.random.pool = [] ∧ u.random.st = 0 ∧ u.random.key = zeros 32 ∧
      u.random.v = zeros 16 ∧ sourceAt u = sourceAt s ∧ ground u = ground s) ∧
    (s.random.testPattern = false → exec (.testPatternWrite p false) s = .next (reply p eOk s)) ∧
    (∀ i, s.random.testPattern = true → s.random.st ≠ 3 → activeSource s = some i → ∃ u,
      exec (.testPatternWrite p false) s = .next (reply p eOk u) ∧ u.random.testPattern = false ∧
      (sourceAt u i).st = 1 ∧ u.random.pool = [] ∧ u.random.st = 0 ∧ u.random.key = zeros 32 ∧ ground u = ground s))

/-- R405, R408, R409, R411 to R415: a reseed that is due, an expiry, a parity error, RESEED, a private wire's request,
and the raw port's reads and selection. -/
def Obligations.RandomOutput : Prop :=
  (∀ s : State, s.random.st = 1 ∨ s.random.st = 2 → s.refclk = true → s.random.wires = [] → s.random.wiresLate = [] →
    (s.random.pool = [] → ∃ t, exec .autoReseed s = .next t ∧ t.random.autoDue = true ∧ t.random.st = s.random.st ∧
      t.random.key = s.random.key ∧ t.random.reseeds = s.random.reseeds) ∧
    (∀ w rest, s.random.pool = w :: rest → ∃ t, exec .autoReseed s = .next t ∧ t.random.pool = rest ∧ t.random.st = 1 ∧
      (t.random.key, t.random.v) = drbgUpdate (drbgDf w) s.random.key s.random.v ∧ t.random.reseedCounter = 0 ∧
      t.random.reseeds = satInc s.random.reseeds ∧ t.random.autoDue = false)) ∧
  (∀ (s : State) (byCount : Bool), s.random.st = 1 → s.random.pool = [] →
    (byCount = true → cfgNat s 0x8030 1 ≤ s.random.reseedCounter.toNat) → (byCount = false → s.refclk = true) → ∃ t,
    exec (.drbgExpiry byCount) s = .next t ∧ t.random.st = 2 ∧ t.random.autoDue = true ∧ t.random.key = s.random.key ∧
    ground t = ground s) ∧
  (∀ s : State, s.random.st = 1 ∨ s.random.st = 2 → s.random.pool = [] → ∃ t, exec .drbgParityError s = .next t ∧
    t.random.st = 0 ∧ t.random.key = zeros 32 ∧ t.random.v = zeros 16 ∧ t.random.reseedCounter = 0 ∧
    ground t = ground s) ∧
  (∀ (s : State) (p : Port) (w : Option Window), admitted s p .exec 0x8030 4 1 = true →
    (s.random.st = 3 → exec (.reseed p w) s = .next (reply p eState s)) ∧
    (s.random.st ≠ 3 → windowNow w s = none → exec (.reseed p w) s = .next (reply p eNotReady (timeoutExpired 8 s))) ∧
    (∀ i x, s.random.st = 1 ∨ s.random.st = 2 → windowNow w s = some (i, x) → s.random.wires = [] →
      s.random.wiresLate = [] → ∃ u, exec (.reseed p w) s = .next (reply p eOk u) ∧ u.random.st = 1 ∧
      (u.random.key, u.random.v) = drbgUpdate (drbgDf (windowBytes x)) s.random.key s.random.v ∧
      u.random.reseedCounter = 0 ∧ u.random.reseeds = satInc s.random.reseeds ∧ u.random.pool = s.random.pool ∧
      (sourceAt u i).passed = satInc (sourceAt s i).passed ∧ u.random.reseedWaiting = false)) ∧
  (∀ (s : State) (c : Fin 5) (d : Bool), c.val ≠ 1 →
    (s.random.st = 1 → c.val ≠ 2 → exec (.privateWireRequest c d) s = .next (timeoutArrived 7 (wireDeliver c.val s))) ∧
    (s.random.st ≠ 3 → s.random.st ≠ 1 ∨ c.val = 2 → c.val ≠ 4 → d = true → exec (.privateWireRequest c d) s =
      .next (modRandom (fun r => { r with
        wires := r.wires ++ [c.val], reseedWaiting := r.reseedWaiting || c.val == 2 }) s)) ∧
    (s.random.st ≠ 3 → s.random.st ≠ 1 ∨ c.val = 2 → c.val ≠ 4 → d = false →
      exec (.privateWireRequest c d) s = .next (wireTimeout c.val s))) ∧
  (∀ (s : State) (d : Bool), s.random.st = 1 → ∃ t, exec (.privateWireRequest 1 d) s = .next t ∧
    tget t.keys.slots 8 = some { attr := wrapKeyAttr, key := (drbgBytes s.random 32).1 } ∧ t.keys.wrapDue = false ∧
    ground t = ground s) ∧
  (∀ (s : State) (p : Port), admitted s p .read 0x8020 2 0 = true →
    (rawModeOf s p ≠ 1 → 5 ≤ (s.random.rawBuf.getD (portNo p).val []).length → exec (.rawWordRead p) s = .next
      (answer p eOk ((s.random.rawBuf.getD (portNo p).val []).take 5) (modRandom (fun r => { r with
        rawBuf := r.rawBuf.set (portNo p).val ((s.random.rawBuf.getD (portNo p).val []).drop 5) }) s))) ∧
    (rawModeOf s p ≠ 1 → (s.random.rawBuf.getD (portNo p).val []).length < 5 →
      exec (.rawWordRead p) s = .next (answer p eEmpty (zeros 5) s)) ∧
    (rawModeOf s p = 1 → rawDrbgReady s p = true → ∃ u, exec (.rawWordRead p) s =
      .next (answer p eOk (drbgBytes s.random 5).1 u) ∧ u.random.prFresh = s.random.prFresh.set (portNo p).val false)) ∧
  (∀ (s : State) (p : Port) (n : U16), admitted s p .readBlock 0x8020 3 0 = true →
    (n = 0 → exec (.rawBlockRead p n) s = .next (answer p eRange [] s)) ∧
    ((if rawModeOf s p = 1 then 1024 else 128) < n.toNat → exec (.rawBlockRead p n) s = .next (answer p eLength [] s)) ∧
    (rawModeOf s p ≠ 1 → 1 ≤ n.toNat → n.toNat ≤ 128 → n.toNat ≤ (s.random.rawBuf.getD (portNo p).val []).length →
      exec (.rawBlockRead p n) s = .next (answer p eOk ((s.random.rawBuf.getD (portNo p).val []).take n.toNat)
        (modRandom (fun r => { r with
          rawBuf := r.rawBuf.set (portNo p).val ((s.random.rawBuf.getD (portNo p).val []).drop n.toNat) }) s))) ∧
    (rawModeOf s p = 1 → 1 ≤ n.toNat → n.toNat ≤ 1024 → rawDrbgReady s p = true → ∃ u, exec (.rawBlockRead p n) s =
      .next (answer p eOk (drbgBytes s.random n.toNat).1 u))) ∧
  (∀ (s : State) (p : Port) (v : U8), admitted s p .write 0x8020 0 1 = true →
    (1 < v.toNat → exec (.rawSelectWrite p v) s = .next (reply p eRange s)) ∧
    (v.toNat ≤ 1 → exec (.rawSelectWrite p v) s = .next (reply p eOk (modRandom (fun r => { r with
      rawSelect := r.rawSelect.set (portNo p).val v, rawBuf := r.rawBuf.set (portNo p).val [] }) s))))

/-- R419 to R421, R425: outside a session the responder answers GET_VERSION, GET_CAPABILITIES and NEGOTIATE_ALGORITHMS
in that order, then digests, certificate, challenge and measurements; a code it does not serve is UnsupportedRequest.
R422, R425: KEY_EXCHANGE opens a session under fresh handshake keys when the signature is made; FINISH with the right
verify data gives the session its application keys and a wrong one ends it; END_SESSION ends it. -/
def Obligations.SpdmResponder : Prop :=
  (
  ∀ (s : State) (r : SpdmReq), servable s (portOfM r.port) = true → creditsFree (mportAt s r.port) ≠ 0 →
    inService s = true → r.version = 0x13 →
    let out : List Byte × State → Host.Outcome State Fault Refusal := fun x =>
      .next (queueResponse r.port none ([0x05] ++ x.1) 0 0 false x.2)
    let c := spdmConn s r.port
    let upTo := fun (n : Nat) (code : Nat) (rsp : List Byte) => modConn r.port (fun c => { c with
      stage := n, vca := c.vca ++ spdmBytes code r ++ rsp }) s
    let keep := fun (code : Nat) (rsp : List Byte) => modConn r.port (fun c => { c with
      m1 := c.m1 ++ spdmBytes code r ++ rsp, l1 := [] }) s
    (∀ rsp : List Byte, rsp = [0x10, 0x04, 0x00, 0x00, 0x00, 0x01, 0x00, 0x13] → exec (.getVersion r) s =
      out (rsp, modConn r.port (fun _ => { stage := 1, vca := spdmBytes 0x84 r ++ rsp }) s)) ∧
    (c.stage = 1 → r.body.length = 16 →
      let rsp := spdmHead 0x61 0 0 ++ [0x00, 15, 0x00, 0x00] ++ leBytes 4 (spdmFlags s) ++ leBytes 4 4096 ++ leBytes 4 4096
      exec (.getCapabilities r) s = out (rsp, upTo 2 0xE1 rsp)) ∧
    (c.stage ≠ 1 → exec (.getCapabilities r) s = out (spdmError 0x04 0 s)) ∧
    (c.stage = 2 → r.body.length = 28 + 4 * (byteAt r.body 24 + byteAt r.body 25) + 4 * r.param1.toNat →
      fieldAt r.body 0 2 = 4 + r.body.length → bit (fieldAt r.body 4 4) 7 = true → bit (fieldAt r.body 8 4) 1 = true →
      ∃ rsp, rsp.take 4 = [0x13, 0x63, r.param1, 0x00] ∧ exec (.negotiateAlgorithms r) s = out (rsp, upTo 3 0xE3 rsp)) ∧
    (c.stage ≠ 2 → exec (.negotiateAlgorithms r) s = out (spdmError 0x04 0 s)) ∧
    (c.stage = 3 → hasIdentity s = true →
      let rsp := spdmHead 0x01 0x01 0x01 ++ sha384 s.spdm.chain
      exec (.getDigests r) s = out (rsp, keep 0x81 rsp)) ∧
    (c.stage = 3 → hasIdentity s = true → r.body.length = 4 → r.param1 = 0 →
      fieldAt r.body 0 2 < s.spdm.chain.length →
      let n := min (min (fieldAt r.body 2 2) 4088) (s.spdm.chain.length - fieldAt r.body 0 2)
      let rsp := spdmHead 0x02 0 0 ++ leBytes 2 n ++ leBytes 2 (s.spdm.chain.length - fieldAt r.body 0 2 - n) ++
        slice s.spdm.chain (fieldAt r.body 0 2) n
      exec (.getCertificate r) s = out (rsp, keep 0x82 rsp)) ∧
    (c.stage = 3 → hasIdentity s = false → exec (.getDigests r) s = out (spdmError 0x07 0x81 s) ∧
      exec (.getCertificate r) s = out (spdmError 0x07 0x82 s) ∧
      exec (.spdmChallenge r) s = out (spdmError 0x07 0x83 s) ∧ exec (.keyExchange r) s = out (spdmError 0x07 0xE4 s)) ∧
    (∀ nonce t, c.stage = 3 → s.keys.keyState = 1 → s.pke.health.retired = false → r.body.length = 40 → r.param1 = 0 →
      r.param2 = 0 → spdmNonce s = (some nonce, t) →
      let body := spdmHead 0x03 0x00 0x01 ++ sha384 s.spdm.chain ++ nonce ++ [0x00, 0x00] ++ slice r.body 32 8
      exec (.spdmChallenge r) s = out (match spdmSign 2 (spdmSigned "responder-challenge_auth signing"
          ((spdmConn t r.port).vca ++ (spdmConn t r.port).m1 ++ spdmBytes 0x83 r ++ body)) t with
        | (.ok sig, u) => (body ++ sig, modConn r.port (fun c => { c with m1 := [], l1 := [] }) u)
        | (.busy, u) => spdmError 0x03 0 u
        | (.failed, u) => spdmError 0x05 0 u)) ∧
    (∀ nonce t ks, c.stage = 3 → r.param1 = 0 → r.body.length = 8 → spdmBlocks r.param2.toNat = some ks →
      (∀ k ∈ ks, k ∉ s.spdm.pendingBlocks) → spdmNonce s = (some nonce, t) →
      let record := ks.flatMap (spdmBlock t)
      let body := spdmHead 0x60 (if r.param2 = 0 then 25 else 0) 0 ++ leBytes 1 ks.length ++ leBytes 3 record.length ++
        record ++ nonce ++ [0x00, 0x00] ++ slice r.body 0 8
      exec (.getMeasurements r) s = out (body, modConn r.port (fun c => { c with
        l1 := (spdmConn t r.port).l1 ++ spdmBytes 0xE0 r ++ body, m1 := [] }) t)) ∧
    (∀ code : Byte, code.toNat ∉ spdmCodes →
      exec (.spdmUnsupportedRequest r code) s = out (spdmError 0x07 code.toNat s))) ∧
  (
  ∀ (s : State) (r : SpdmReq), servable s (portOfM r.port) = true → creditsFree (mportAt s r.port) ≠ 0 →
    inService s = true → r.version = 0x13 → (spdmConn s r.port).stage = 3 → hasIdentity s = true →
    (∀ nonce d dhe t u, s.keys.keyState = 1 → s.pke.health.retired = false → 134 ≤ r.body.length →
      r.body.length = 134 + fieldAt r.body 132 2 → r.param1 = 0 → r.param2 = 0 → s.spdm.sessions = [] →
      spdmNonce (draw 16 s).2 = (some nonce, t) → spdmScalar t = (some d, u) → ecdh d (slice r.body 36 96) = some dhe →
      u.spdm.sessions = [] →
      let id : U32 := BitVec.ofNat 32 (fieldAt r.body 0 2 + (draw 16 s).1.toNat * 2 ^ 16)
      let body := spdmHead 0x64 0 0 ++ leBytes 2 (draw 16 s).1.toNat ++ [0x00, 0x00] ++ nonce ++ pubOf d ++
        leBytes 2 versionOpaque.length ++ versionOpaque
      let before := (spdmConn u r.port).vca ++ sha384 u.spdm.chain ++ spdmBytes 0xE4 r
      let x := match spdmSign 2 (spdmSigned "responder-key_exchange_rsp signing" (before ++ body)) u with
        | (.ok sig, v) =>
          let t := before ++ body ++ sig
          let k := handshakeKeys dhe (sha384 t) { id := id, port := r.port.val, lastTick := v.now }
          let rsp := body ++ sig ++ hmacSha384 k.2 (sha384 t)
          (rsp, journalSession id 1 (modConn r.port (fun c => { c with m1 := [], l1 := [] }) (modSpdm (fun y => { y with
            sessions := y.sessions ++ [{ k.1 with transcript := before ++ rsp }] }) v)))
        | (.busy, v) => spdmError 0x03 0 v
        | (.failed, v) => spdmError 0x05 0 v
      exec (.keyExchange r) s = .next (queueResponse r.port none ([0x05] ++ x.1) 0 0 false x.2)) ∧
    (∀ x : Session, lastSession r.port false s = some x.id → s.spdm.sessions.find? (fun y => y.id == x.id) = some x →
      x.finished = false → r.body.length = 48 → r.param1 = 0 →
      let right := hmacSha384 x.finishKey (sha384 (x.transcript ++ spdmBytes 0xE5 { r with body := [] })) = r.body
      ∃ t, exec (.finish r) s = .next t ∧
        (right → ∃ y, t.spdm.sessions.find? (fun y => y.id == x.id) = some y ∧ y.finished = true ∧ y.reqCount = 0 ∧
          y.rspCount = 0 ∧ y.finishKey = [] ∧ y.handshake = [] ∧ y.port = x.port) ∧
        (¬right → t.spdm.sessions.find? (fun y => y.id == x.id) = none) ∧
        (∀ id, id ≠ x.id → t.spdm.sessions.find? (fun y => y.id == id) = s.spdm.sessions.find? (fun y => y.id == id)) ∧
        ground t = ground s) ∧
    (∀ x : Session, lastSession r.port true s = some x.id → s.spdm.sessions.find? (fun y => y.id == x.id) = some x →
      x.finished = true → r.body = [] → ∃ t, exec (.endSession r) s = .next t ∧
        t.spdm.sessions.find? (fun y => y.id == x.id) = none ∧
        (∀ id, id ≠ x.id → t.spdm.sessions.find? (fun y => y.id == id) = s.spdm.sessions.find? (fun y => y.id == id)) ∧
        ground t = ground s))

/-- R437 to R450, R458: what the Heath domain's supply events, its sample tick, a window's end and the managers'
commands do. A tick counts its periods, samples the watched monitors together, and executes the alarms of an enabled
monitor once: erase, hold, record. -/
def Obligations.HeathEvents : Prop :=
  (∀ s : State, s.heath.powered = true → s.heath.mainPower = false →
    exec .heathPowerLoss s = .next { s with heath := { heathFresh with powered := false, mainPower := false } }) ∧
  (∀ s : State, s.heath.powered = false → ∃ k t, exec .heathPowerUp s = .next t ∧
    t.heath = { heathFresh with mainPower := false, cellKey := k } ∧ ground t = ground s) ∧
  (∀ (s : State) (x : HeathSample), s.heath.powered = true →
    let main := s.heath.mainPower
    let watched := if main = true then BitVec.allOnes 10 else batteryMask
    let counter := s.heath.counter + BitVec.ofNat 47 (if main = true then 33 else 131)
    let tick := fun (y : Monitor × Nat) =>
      if (bit (monCfg s y.2).toNat 15 && watched.getLsbD y.2) = true then monitorTick (monCfg s y.2).toNat
        ((x.cond &&& watched).getLsbD y.2) (counter.extractLsb' 15 32) y.1 else (y.1, none)
    let alarms := s.heath.monitors.zipIdx.filterMap (fun y => (tick y).2.map (fun k => (y.2, k)))
    ∃ u, u.heath = { s.heath with
        counter := counter, condition := x.cond &&& watched
        vbatMv := if main = true then x.vbatMv else s.heath.vbatMv
        monitors := s.heath.monitors.zipIdx.map (fun y => (tick y).1) } ∧ ground u = ground s ∧ u.keys = s.keys ∧
      u.chans = s.chans ∧ u.lc = s.lc ∧
      (alarms = [] → exec (.heathSampleTick x) s = .next u) ∧
      (∀ m k, alarms = [(m, k)] → lcInOtp s ≠ 0 → main = true → exec (.heathSampleTick x) s = .next
        (recordAlarm false false m k ((fun v => if bit (monCfg u m).toNat 13 = true then heathHold v else v)
          (if bit (monCfg u m).toNat 14 = true then eraseAll false u else u)))) ∧
      (∀ m k, alarms = [(m, k)] → lcInOtp s ≠ 0 → main = false → s.heath.hrec.length < 16 → ∃ t,
        exec (.heathSampleTick x) s = .next t ∧
        t.heath.cellKey = (if bit (monCfg u m).toNat 14 = true then zeros 32 else s.heath.cellKey) ∧
        t.heath.cellState = (if bit (monCfg u m).toNat 14 = true then 1 else s.heath.cellState) ∧
        t.heath.holdLatch = (bit (monCfg u m).toNat 13 || s.heath.holdLatch) ∧
        (∃ e : HRec, t.heath.hrec = s.heath.hrec ++ [e] ∧ e.monitor = BitVec.ofNat 8 m ∧ e.count = BitVec.ofNat 8 k ∧
          e.battery = true ∧ e.copied = false ∧ e.time = counter.extractLsb' 15 32) ∧
        t.keys = s.keys ∧ t.chans = s.chans ∧ t.journal = u.journal)) ∧
  (∀ (s : State) (m : Fin 10), s.heath.powered = true →
    exec (.monitorWindowExpiry m) s = .next (modHeath (fun h => { h with
      monitors := h.monitors.modify m.val (fun x =>
        if x.windowOpen = true then { x with windowOpen := false, count := 0 } else x) }) s)) ∧
  (∀ (s : State) (hz : U32), s.porN = true → s.refclk = true → s.heath.powered = true →
    exec (.heathOscMeasure hz) s = .next (modHeath (fun h => { h with oscHz := hz }) s)) ∧
  (∀ (s : State) (p : Port), admitted s p .exec 0x9000 4 1 = true →
    (inService s = false ∨ holdCondition s = true → exec (.tamperClear p) s = .next (reply p eState s)) ∧
    (inService s = true → holdCondition s = false → exec (.tamperClear p) s = .next (reply p eOk (finishAll (allChans
      (fun c t => modChan c (fun x => { x with tamper := false }) t) (modHeath (fun h => { h with
        holdLatch := false }) s)))))) ∧
  (∀ (s : State) (p : Port), admitted s p .exec 0x9002 1 1 = true →
    let allowed := (s.lc.state = 0 ∨ s.lc.state = 1 ∨ s.lc.state = 3) ∧ (s.phase = .service ∨ s.phase = .test) ∧
      ¬(custody s = 1 ∧ s.keys.keyState = 1)
    (¬allowed → exec (.cellArm p) s = .next (reply p eState s)) ∧
    (allowed → s.random.st = 1 → ∃ u, exec (.cellArm p) s = .next (reply p eOk u) ∧
      u.heath.cellKey = (drbgBytes s.random 32).1 ∧ u.heath.canary = BitVec.ofNat 64 (crc64 (drbgBytes s.random 32).1) ∧
      u.heath.cellState = (if allZero (drbgBytes s.random 32).1 = true then 2 else 0) ∧
      (s.lc.state = 0 ∨ cellArmed s = true → u.lc = s.lc) ∧ (s.lc.state ≠ 0 → cellArmed s = false →
        u.lc = (burnFlag 0x033 s).lc) ∧ u.chans = s.chans ∧ ground u = ground s) ∧
    (allowed → s.random.st ≠ 1 → ∃ u, exec (.cellArm p) s = .next (reply p eNotReady u) ∧ u.heath = s.heath)) ∧
  (∀ (s : State) (p : Port), admitted s p .exec 0x9000 3 1 = true →
    exec (.heathLock p) s = .next (reply p eOk (modHeath (fun h => { h with locked := true }) s)))

/-- R463 to R474: check-ins and services in and out of the window, a bite's evidence and answer, the lock, and the
faults of the control cores. A right service in the open phase starts the next window with the other key. -/
def Obligations.WatchdogAndCores : Prop :=
  (∀ (s : State) (p : Port) (k : U8), admitted s p .exec 0xA001 0 1 = true →
    (s.refclk = false → exec (.wdCheckin p k) s = .next (reply p eNotReady s)) ∧
    (s.refclk = true → s.wd.running = false → exec (.wdCheckin p k) s = .next (reply p eState s)) ∧
    (s.refclk = true → s.wd.running = true → (15 < k.toNat ∨ (wdTaskSet s).getLsbD k.toNat = false) →
      exec (.wdCheckin p k) s = .next (reply p eRange s)) ∧
    (s.refclk = true → s.wd.running = true → k.toNat ≤ 15 → (wdTaskSet s).getLsbD k.toNat = true →
      ∃ u, exec (.wdCheckin p k) s = .next (reply p eOk u) ∧ u.wd.present.getLsbD k.toNat = true ∧
      (s.wd.present.getLsbD k.toNat = true → u.wd.duplicate.getLsbD k.toNat = true ∧ u.wd.present = s.wd.present) ∧
      (s.wd.present.getLsbD k.toNat = false → u.wd.duplicate = s.wd.duplicate) ∧
      (∀ n, n ≠ k.toNat → u.wd.present.getLsbD n = s.wd.present.getLsbD n ∧
        u.wd.duplicate.getLsbD n = s.wd.duplicate.getLsbD n) ∧ ground u = ground s)) ∧
  (∀ (s : State) (p : Port) (key : U16), admitted s p .exec 0xA001 1 2 = true → s.refclk = true →
    s.wd.running = true →
    (key ≠ s.wd.keyNext → exec (.wdService p key) s = .next (reply p eState (wdBite 4 s))) ∧
    (key = s.wd.keyNext → wdElapsed s < wdClosedEnd s.wd →
      exec (.wdService p key) s = .next (reply p eState (wdBite 3 s))) ∧
    (key = s.wd.keyNext → wdClosedEnd s.wd ≤ wdElapsed s → wdElapsed s < wdOpenEnd s.wd →
      s.wd.recovery = false → (s.wd.tasks &&& ~~~s.wd.present) ≠ 0 → exec (.wdService p key) s =
        .next (reply p eState (modWd (fun w => { w with refused := satInc w.refused }) s))) ∧
    (key = s.wd.keyNext → wdClosedEnd s.wd ≤ wdElapsed s → wdElapsed s < wdOpenEnd s.wd →
      (s.wd.recovery = true ∨ (s.wd.tasks &&& ~~~s.wd.present) = 0) →
      ∃ u, exec (.wdService p key) s = .next (reply p eOk u) ∧ u.wd.start = s.now ∧ u.wd.running = true ∧
        u.wd.recovery = false ∧ u.wd.present = 0 ∧ u.wd.duplicate = 0 ∧ u.wd.lastUs = s.tbUs ∧
        u.wd.keyNext = (if s.wd.keyNext = 0xA55A then 0x5AA5 else 0xA55A) ∧ ground u = ground s)) ∧
  (∀ s : State, s.wd.running = true → s.refclk = true → s.porN = true → s.deviceResetDue = none →
    ∃ e, e.wd.bites = satInc s.wd.bites ∧ e.wd.evCause = BitVec.ofNat 8 (wdOpenCause s) ∧
      e.wd.evMissing = wdTaskSet s &&& ~~~s.wd.present ∧ e.wd.evDuplicate = s.wd.duplicate ∧ e.wd.evTime = s.tbUs ∧
      e.wd.evLastUs = s.wd.lastUs ∧ ground e = ground s ∧ e.chans = s.chans ∧
      (s.wd.recovery = true ∨ s.wd.response ≠ 0 →
        exec .wdBite s = .next { e with coresDown := true, deviceResetDue := some 5 }) ∧
      (s.wd.recovery = false → s.wd.response = 0 → exec .wdBite s = .next (coreReset 2 e)) ∧
      (s.wd.recovery = false → s.wd.response = 0 → runtimeDone s = false →
        coreReset 2 e = { e with coresDown := true, deviceResetDue := some 2 })) ∧
  (∀ (s : State) (p : Port), admitted s p .exec 0xA000 6 1 = true →
    (s.wd.running = true → exec (.wdLock p) s = .next (reply p eOk (modWd (fun w => { w with locked := true }) s))) ∧
    (s.wd.running = false → exec (.wdLock p) s = .next (reply p eState s))) ∧
  (∀ s : State, coresRun s = true → s.deviceResetDue = none → ∀ x ∈ [(Instr.lockstepMismatch, 5, 4, s),
      (Instr.sramDed, 6, 3, countDed 5 s)],
    let e := wdEvidence x.2.1 x.2.2.2
    let h := chargeHealth e e.coreHealth
    let t := coreReset x.2.2.1 { e with coreHealth := h.1 }
    e.wd.evCause = BitVec.ofNat 8 x.2.1 ∧ (h.2 = false → exec x.1 s = .next t) ∧
    (h.2 = true → exec x.1 s = .next { (if t.wd.running = true then t else wdRecovery t) with coresHeld := true }))

/-- R480 to R490: a timer unit starts from its reload value, stops with its count and expires into a reload or a stop;
a check-value unit is granted, fed, finished, released and struck, and its value is the CRC of what it was fed. -/
def Obligations.TimersAndCheckUnits : Prop :=
  (∀ (s : State) (p : Port) (u : Fin 8), admitted s p .exec (0xA100 + u.val) 4 1 = true →
    (timerOwner s u = 0 → exec (.tuStart p u) s = .next (reply p eState s)) ∧
    (timerOwner s u ≠ 0 → (s.timers[u]).reload = 0 → exec (.tuStart p u) s = .next (reply p eRange s)) ∧
    (timerOwner s u ≠ 0 → (s.timers[u]).reload ≠ 0 → exec (.tuStart p u) s = .next (reply p eOk (modTimer u
      (fun t => { t with st := 1, count := t.reload, start := s.now }) s)))) ∧
  (∀ (s : State) (p : Port) (u : Fin 8), admitted s p .exec (0xA100 + u.val) 5 1 = true →
    exec (.tuStop p u) s = .next (reply p eOk (modTimer u (fun t => { t with
      st := 0, count := BitVec.ofNat 40 (timerCount s t) }) s))) ∧
  (∀ (s : State) (u : Fin 8), (s.timers[u]).st = 1 → s.refclk = true →
    ∃ t, exec (.tuExpiry u) s = .next t ∧ (t.timers[u]).expiries = satInc (s.timers[u]).expiries ∧
      (bit (s.timers[u]).mode.toNat 0 = true → (t.timers[u]).st = 1 ∧ (t.timers[u]).count = (s.timers[u]).reload ∧
        (t.timers[u]).start = s.now) ∧
      (bit (s.timers[u]).mode.toNat 0 = false → (t.timers[u]).st = 2 ∧ (t.timers[u]).count = 0) ∧
      (bit (s.timers[u]).mode.toNat 1 = false → t.journal = s.journal) ∧
      (∀ v, v ≠ u → t.timers[v] = s.timers[v]) ∧ t.chans = s.chans ∧ ground t = ground s) ∧
  (∀ (s : State) (p : Port), admitted s p .exec 0x8500 1 1 = true →
    let held := ([2, 3, 4, 5].filter (fun (u : Fin 8) => (cuAt s u).owner == some p)).length
    (∀ u : Fin 8, p ≠ .l → held < 2 → [2, 3, 4, 5].find? (fun u => (cuAt s u).st == 0) = some u →
      exec (.cuAlloc p) s = .next (reply p eOk (modPort p (fun r => { r with cuGranted := BitVec.ofNat 8 u.val })
        (modCu u (fun k => { k with st := 1, owner := some p }) s)))) ∧
    (p = .l ∨ 2 ≤ held ∨ [2, 3, 4, 5].find? (fun u => (cuAt s u).st == 0) = none →
      exec (.cuAlloc p) s = .next (reply p eBusy (modPort p (fun r => { r with cuGranted := 0xFF }) s)))) ∧
  (∀ (s : State) (p : Port) (u : Fin 8) (v8 : U8) (v16 : U16) (v40 : U40) (data : List Byte),
    ∀ x ∈ [(Instr.cuFeed8 p u v8, Svc.exec, 0xB, 1, [v8]), (.cuFeed16 p u v16, .exec, 0xC, 2, leBytes 2 v16.toNat),
      (.cuFeed40 p u v40, .exec, 0xD, 5, leBytes 5 v40.toNat), (.cuFeedBlock p u data, .writeBlock, 0xE, data.length, data)],
    admitted s p x.2.1 (0x8510 + u.val) x.2.2.1 x.2.2.2.1 = true →
    ((cuAt s u).st ≠ 2 → exec x.1 s = .next (reply p eState s)) ∧
    ((cuAt s u).st = 2 → exec x.1 s = .next (reply p eOk (modCu u (fun k => { k with
      reg := BitVec.ofNat 64 (crcBytes k.width.toNat k.poly.toNat (k.flags.getLsbD 0) k.reg.toNat x.2.2.2.2)
      fed := k.fed + BitVec.ofNat 40 x.2.2.2.2.length }) s)))) ∧
  (∀ (s : State) (p : Port) (u : Fin 8), admitted s p .exec (0x8510 + u.val) 0xF 1 = true →
    ((cuAt s u).st ≠ 2 → exec (.cuFinish p u) s = .next (reply p eState s)) ∧
    ((cuAt s u).st = 2 → cuAliveMode (cuAt s u) = 0 → exec (.cuFinish p u) s = .next (reply p eOk (modCu u
      (fun k => { k with st := 3, value := BitVec.ofNat 64 (crcEnd k.width.toNat (k.flags.getLsbD 1) k.xorout.toNat
        k.reg.toNat) }) s))) ∧
    ((cuAt s u).st = 2 → cuAliveMode (cuAt s u) = 2 → (cuAt s u).flags.getLsbD 4 = true →
      exec (.cuFinish p u) s = .next (reply p eOk (modCu u (fun k => { (cuAbsorb [k.alive] k) with
        st := 3, alive := k.alive + 1, value := BitVec.ofNat 64 (crcEnd k.width.toNat (k.flags.getLsbD 1)
          k.xorout.toNat (cuAbsorb [k.alive] k).reg.toNat) }) s)))) ∧
  (∀ (s : State) (p : Port) (u : Fin 8), admitted s p .exec (0x8510 + u.val) 0x11 1 = true →
    (cuGeneral u = false ∨ (cuAt s u).st = 4 → exec (.cuRelease p u) s = .next (reply p eState s)) ∧
    (cuGeneral u = true → (cuAt s u).st ≠ 4 → (cuAt s 0).st ≠ 4 → (cuAt s 1).st ≠ 4 → exec (.cuRelease p u) s =
      .next (reply p eOk (modCu u (fun k => { health := k.health }) s)))) ∧
  (∀ (s : State) (u : Fin 8), s.porN = true → (cuAt s u).st ≠ 4 → (chargeHealth s (cuAt s u).health).2 = false →
    ∃ t, exec (.cuParityError u) s = .next t ∧ t.cuTransients = satInc s.cuTransients ∧
      (cuAt t u).st = (if (cuAt s u).st = 0 then 0 else 1) ∧
      (∀ p, (cuAt s u).st = 2 → (cuAt s u).owner = some p → (portRegs t p).lastCode = eIntegrity) ∧
      (∀ v, v ≠ u → cuAt t v = cuAt s v) ∧ ground t = ground s)

/-- R493 to R500: a transition to the next state, with its prerequisites met and its token, where one is needed,
accepted, burns the state's byte in all three copies and brings the state into force; entry into Returned or Scrapped
empties the key store, Scrapped silences the management ports. -/
def Obligations.LifeCycleMoves : Prop :=
  (∀ (s : State) (p : Port) (v : U8), admitted s p .exec 0x1200 2 1 = true →
    let tk := (portRegs s p).token
    (s.phase ≠ .service → s.phase ≠ .recovery → exec (.lcAdvance p v) s = .next (reply p eNotReady s)) ∧
    (s.phase = .service ∨ s.phase = .recovery →
      (v.toNat ≠ s.lc.state.toNat + 1 ∨ 3 < v.toNat → exec (.lcAdvance p v) s = .next (reply p eRange s)) ∧
      (v.toNat = s.lc.state.toNat + 1 → v.toNat ≤ 3 → lcPrerequisites s v.toNat = false →
        exec (.lcAdvance p v) s = .next (reply p eState s)) ∧
      (∀ kind, v.toNat = s.lc.state.toNat + 1 → v.toNat ≤ 3 → lcPrerequisites s v.toNat = true →
        lcToken v.toNat = some kind → tokenCode s (pathOf p) kind tk ≠ eOk → exec (.lcAdvance p v) s =
          .next (reply p (tokenCode s (pathOf p) kind tk) (modLc (fun l => { l with
            nonces := tdel l.nonces (pathOf p) }) s))) ∧
      (v.toNat = s.lc.state.toNat + 1 → v.toNat ≤ 3 → lcPrerequisites s v.toNat = true →
        (∀ kind, lcToken v.toNat = some kind → tokenCode s (pathOf p) kind tk = eOk) →
        lcAll s (v.toNat - 1) = true → Memory.wf 0 s.lc.otp = true → ∃ u, exec (.lcAdvance p v) s = .next (reply p eOk u) ∧
          u.lc.state = v ∧ lcAll u v.toNat = true ∧ (v = 2 → u.lc.dbgToken = false) ∧
          (v = 3 → u.keys.slots = [] ∧ u.heath.locked = false) ∧ ground u = ground s))) ∧
  (∀ (s : State) (p : Port) (v : U40), admitted s p .exec 0x1200 3 5 = true →
    (s.phase ≠ .service → s.phase ≠ .recovery → exec (.lcScrap p v) s = .next (reply p eNotReady s)) ∧
    (s.phase = .service ∨ s.phase = .recovery →
      (v.toNat ≠ leNat ((uidOf s).take 5) → exec (.lcScrap p v) s = .next (reply p eRefused s)) ∧
      (∀ st ≤ 3, v.toNat = leNat ((uidOf s).take 5) → lcAll s st = true → Memory.wf 0 s.lc.otp = true →
        ∃ u, exec (.lcScrap p v) s = .next (reply p eOk u) ∧ u.lc.state = 4 ∧ lcAll u 4 = true ∧ u.mgmtUp = false ∧
          u.keys.slots = [] ∧ ground u = ground s)))

/-- R502 to R506, R509 to R511: a challenge keeps its nonce for the path; a check uses the nonce up, and an accepted
debug token authorises debug and ends every session; key hashes and the watchdog's option byte are burned where the
life cycle allows it. -/
def Obligations.TokensAndBurns : Prop :=
  (∀ (s : State) (p : Port), admitted s p .read 0x1201 0 0 = true →
    (∀ nonce t, rawTake .l 32 s = (some nonce, t) → ∃ u, exec (.challenge p) s = .next (answer p eOk
      (leBytes 4 0x48435651 ++ [0x01, s.lc.state, 0, 0] ++ uidOf s ++ nonce ++ zeros 8) u) ∧
      tget u.lc.nonces (pathOf p) = some nonce ∧ u.lc.otp = s.lc.otp) ∧
    (∀ t, rawTake .l 32 s = (none, t) → exec (.challenge p) s = .next (answer p eNotReady []
      (modLc (fun l => { l with nonces := tdel l.nonces (pathOf p) }) t)))) ∧
  (∀ (s : State) (p : Port), admitted s p .exec 0x1201 2 1 = true →
    let c := tokenCode s (pathOf p) 1 (portRegs s p).token
    (c ≠ eOk → exec (.dbgUnlock p) s = .next (reply p c (modLc (fun l => { l with
      nonces := tdel l.nonces (pathOf p) }) s))) ∧
    (c = eOk → ∃ u, exec (.dbgUnlock p) s = .next (reply p eOk u) ∧ u.lc.dbgToken = true ∧ u.lc.dbgEver = true ∧
      u.lc.nonces = tdel s.lc.nonces (pathOf p) ∧ u.spdm.sessions = [] ∧ u.lc.state = s.lc.state ∧
      ground u = ground s)) ∧
  (∀ (s : State) (p : Port) (rb : Bool), admitted s p .exec 0x1202 3 1 = true →
    let k := s.lc.keySel.toNat
    let h := (portRegs s p).keyHashIn
    (s.lc.state ≠ 0 → s.lc.state ≠ 1 → exec (.keyBurn p rb) s = .next (reply p eState s)) ∧
    (s.lc.state = 0 ∨ s.lc.state = 1 →
      (k = 0 ∨ k = 4 ∨ k = 8 ∨ 9 < k → exec (.keyBurn p rb) s = .next (reply p eRange s)) ∧
      (k ∈ [1, 2, 3, 5, 6, 7, 9] → keyBurned s k = true → exec (.keyBurn p rb) s = .next (reply p eDuplicate s)) ∧
      (k ∈ [1, 2, 3, 5, 6, 7, 9] → keyBurned s k = false → rb = true →
        exec (.keyBurn p rb) s = .next (reply p eOk (otpBurn (0x050 + 48 * k) h s))) ∧
      (k ∈ [1, 2, 3, 5, 6, 7, 9] → keyBurned s k = false → rb = false → ∃ m u, exec (.keyBurn p rb) s = .next
        (reply p eIntegrity (burnFlag (0x038 + k) (otpBurn (0x050 + 48 * k) m u))) ∧ u.lc = s.lc))) ∧
  (∀ (s : State) (p : Port), admitted s p .exec 0x1202 6 1 = true →
    (s.lc.state = 0 ∨ s.lc.state = 1 → exec (.fuseBurn p) s = .next (reply p eOk (burnFlag 0x030 s))) ∧
    (s.lc.state ≠ 0 → s.lc.state ≠ 1 → exec (.fuseBurn p) s = .next (reply p eState s)))

/-- R506, R507: each test-port instruction selects its data register; the challenge and the token go to the test
port's own path; in Scrapped all but the standard ones read as BYPASS. -/
def Obligations.TestPort : Prop :=
  (∀ s : State, exec .tapReset s = .next (modTap (fun t => { t with ir := 0x02, extestBalls := [] }) s)) ∧
  (∀ (s : State) (c : List Bool),
    exec (.samplePreload c) s = .next (modTap (fun t => { t with ir := 0x01, boundary := c, extestBalls := [] }) s)) ∧
  (∀ s : State, exec .idcode s = .next (modTap (fun t => { t with
    ir := 0x02, dr := [0x63, 0x07, 0x64, 0x10], extestBalls := [] }) s)) ∧
  (∀ s : State, exec .bypass s = .next (modTap (fun t => { t with ir := 0xFF, dr := [0], extestBalls := [] }) s)) ∧
  (∀ (s : State) (tk : List Byte), lcKnown s = true → s.lc.state = 4 → ∀ x ∈ [(Instr.tapChallenge, (0x10 : U8)),
      (.tapToken tk, 0x11), (.dbgResult, 0x12)],
    exec x.1 s = .next (modTap (fun t => { t with ir := x.2, dr := [0], extestBalls := [] }) s)) ∧
  (∀ (s : State) (nonce : List Byte) (t : State), tapServed s = true → rawTake .l 32 s = (some nonce, t) →
    ∃ u, exec .tapChallenge s = .next u ∧ u.tap.ir = 0x10 ∧ tget u.lc.nonces 3 = some nonce ∧
      u.tap.dr = leBytes 4 0x48435651 ++ [0x01, s.lc.state, 0, 0] ++ uidOf s ++ nonce ++ zeros 8) ∧
  (∀ (s : State) (tk : List Byte), tapServed s = true → ∃ u, exec (.tapToken tk) s = .next u ∧ u.tap.ir = 0x11 ∧
    u.tap.dr = padTo tk 256 ∧ u.tap.dbgResult = tokenCode s 3 1 (padTo tk 256) ∧
    u.lc.nonces = tdel s.lc.nonces 3 ∧ (tokenCode s 3 1 (padTo tk 256) = eOk → u.lc.dbgToken = true) ∧
    (tokenCode s 3 1 (padTo tk 256) ≠ eOk → u.lc.dbgToken = s.lc.dbgToken) ∧ ground u = ground s) ∧
  (∀ s : State, ¬(lcKnown s = true ∧ s.lc.state = 4) → exec .dbgResult s = .next (modTap (fun t => { t with
    ir := 0x12, dr := [if s.porN = true then t.dbgResult else 0xFF], extestBalls := [] }) s)) ∧
  (∀ s : State, (dbgStatus s = 0 → exec .coreDebug s = .next (modTap (fun t => { t with
      ir := 0x20, dr := [0], extestBalls := [] }) s)) ∧
    (dbgStatus s ≠ 0 → exec .coreDebug s = .next (modTap (fun t => { t with ir := 0x20, dr := [], extestBalls := [] }) s)))

/-- R514, R516: the I3C codes: a port takes a dynamic address by ENTDAA, SETDASA or SETNEWDA and gives it up by
RSTDAA; with one, GETPID, GETBCR, GETDCR, GETMRL and GETMWL return their values, SETMRL and SETMWL below 69 are
ignored, ENEC and DISEC have no effect; without one, or while the port is silent, a code is not acknowledged. R519:
the MCTP control messages: Set Endpoint ID sets the EID, Get Endpoint ID returns it, Get Message Type Support lists
four types, Get Vendor Defined Message Support names the enterprise number, another code is answered as unsupported.
The completion codes and the range of an EID are the model's choice (log entry 47). -/
def Obligations.LinkControl : Prop :=
  (
  ∀ (s : State) (m : MPort) (a v : U8) (w : U16),
    let yes := fun (f : MgmtPort → MgmtPort) => modMport m (fun x => { f x with acked := true, driven := [] }) s
    let get := fun (bs : List Byte) => modMport m (fun x => { x with acked := true, driven := bs }) s
    let no := modMport m (fun x => { x with acked := false, driven := [] }) s
    (portUp s m = true →
      ((mportAt s m).da = 0 → exec (.entdaa m a) s = .next (yes (fun x => { x with mode := 1, da := a }))) ∧
      ((mportAt s m).da ≠ 0 → exec (.entdaa m a) s = .next no ∧ exec (.setdasa m v a) s = .next no) ∧
      ((mportAt s m).da = 0 → (mportAt s m).smbAddr = v →
        exec (.setdasa m v a) s = .next (yes (fun x => { x with mode := 1, da := a }))) ∧
      ((mportAt s m).smbAddr ≠ v → exec (.setdasa m v a) s = .next no) ∧
      exec (.rstdaa m) s = .next (yes (fun x => { x with mode := 0, da := 0 }))) ∧
    (portUp s m = true → (mportAt s m).mode = 1 →
      exec (.setnewda m a) s = .next (yes (fun x => { x with mode := 1, da := a })) ∧
      exec (.getpid m) s = .next (get ([0x00, 0x01] ++ beBytes 4 (leNat ((uidOf s).take 4)))) ∧
      exec (.getbcr m) s = .next (get [0x00]) ∧ exec (.getdcr m) s = .next (get [0x00]) ∧
      exec (.getmrl m) s = .next (get (beBytes 2 (mportAt s m).mrl.toNat)) ∧
      exec (.getmwl m) s = .next (get (beBytes 2 (mportAt s m).mwl.toNat)) ∧
      exec (.enec m) s = .next (get []) ∧ exec (.disec m) s = .next (get []) ∧
      (69 ≤ w.toNat → exec (.setmrl m w) s = .next (yes (fun x => { x with mrl := w })) ∧
        exec (.setmwl m w) s = .next (yes (fun x => { x with mwl := w }))) ∧
      (w.toNat < 69 → exec (.setmrl m w) s = .next (get []) ∧ exec (.setmwl m w) s = .next (get [])) ∧
      (∃ t, exec (.getstatus m) s = .next t ∧ (mportAt t m).acked = true ∧ (mportAt t m).driven.length = 2 ∧
        (mportAt t m).da = (mportAt s m).da ∧ ground t = ground s ∧ t.chans = s.chans ∧ t.keys = s.keys)) ∧
    (portUp s m = false ∨ (mportAt s m).mode ≠ 1 → ∀ c ∈ [Instr.setnewda m a, .getpid m, .getbcr m, .getdcr m,
      .getstatus m, .getmrl m, .getmwl m, .setmrl m w, .setmwl m w, .enec m, .disec m], exec c s = .next no) ∧
    (portUp s m = false → ∀ c ∈ [Instr.entdaa m a, .setdasa m v a, .rstdaa m], exec c s = .next no)) ∧
  (
  ∀ (s : State) (m : MPort), portUp s m = true →
    let out := fun (bs : List Byte) => ({ msg := [0x00, 0x00] ++ bs, tag := 0, dest := 0, credit := false } : Response)
    let tells := fun (bs : List Byte) => modMport m (fun x => { x with
      responses := x.responses ++ [out bs], acked := true, driven := [] }) s
    (∀ (op eid : U8), (op = 0 ∨ op = 1) → 8 ≤ eid.toNat → eid ≠ 0xFF → ∃ t, exec (.setEndpointId m op eid) s = .next t ∧
      (mportAt t m).eid = eid ∧ (mportAt t m).responses = (mportAt s m).responses ++ [out [0x01, 0x00, 0x00, eid, 0x00]] ∧
      (mportAt t m).smbAddr = (mportAt s m).smbAddr ∧ ground t = ground s ∧ t.chans = s.chans) ∧
    exec (.getEndpointId m) s = .next (tells [0x02, 0x00, (mportAt s m).eid, 0x00, 0x00]) ∧
    exec (.getMessageTypeSupport m) s = .next (tells [0x05, 0x00, 0x04, 0x00, 0x05, 0x06, 0x7F]) ∧
    exec (.getVendorDefinedMessageSupport m 0) s =
      .next (tells [0x06, 0x00, 0xFF, 0x01, 0x00, 0x01, 0xA3, 0xC5, 0x00, 0x01]) ∧
    (∀ k : U8, k ≠ 0 → exec (.getVendorDefinedMessageSupport m k) s = .next (tells [0x06, 0x02])) ∧
    (∀ ty : U8, ty = 0xFF ∨ ty = 0x00 ∨ ty = 0x05 ∨ ty = 0x06 ∨ ty = 0x7F → ∃ t v,
      exec (.getMctpVersionSupport m ty) s = .next t ∧ v.length = 4 ∧
      (mportAt t m).responses = (mportAt s m).responses ++ [out ([0x04, 0x00, 0x01] ++ v)] ∧ ground t = ground s) ∧
    (∀ c : U8, c ∉ [0x01, 0x02, 0x04, 0x05, 0x06] → exec (.mctpUnsupportedCommand m c) s = .next (tells [c, 0x05])))

/-- R515 to R517, R520, R528: a packet joins its message in order; a PEC failure counts and discards it; the timeout
of an assembly discards the partial message whole; a response leaves packet by packet, each of 64 bytes, and is gone
with its last packet or its expiry; with none pending a read gets a count of 0 in I2C mode and no acknowledgement in
I3C mode. R419, R422, R423: a secured message reaches its session when its record opens: the counter of the session
rises, and the SPDM request inside is served there; a message of no session, or whose record does not open, leaves
nothing behind. -/
def Obligations.LinkMessages : Prop :=
  (
  (∀ (s : State) (m : MPort) (pkt : List Byte), portUp s m = true → (mportAt s m).rx = [] →
    (exec (.mctpPacket m false pkt) s = .next (modMport m (fun x => { x with
      acked := true, driven := [], crcErrors := satInc x.crcErrors }) s)) ∧
    (packetFits s m pkt = true → bit (byteAt pkt 3) 7 = true → bit (byteAt pkt 3) 6 = false →
      (mportAt s m).partialMsg = none → exec (.mctpPacket m true pkt) s = .next (modMport m (fun x => { x with
        acked := true, driven := []
        partialMsg := some (pkt.drop 4, byteAt pkt 3 % 8, (bits (byteAt pkt 3) 5 4 + 1) % 4, byteAt pkt 2) }) s)) ∧
    (∀ (bs : List Byte), packetFits s m pkt = true → bit (byteAt pkt 3) 7 = false → bit (byteAt pkt 3) 6 = false →
      (mportAt s m).partialMsg = some (bs, byteAt pkt 3 % 8, bits (byteAt pkt 3) 5 4, byteAt pkt 2) →
      exec (.mctpPacket m true pkt) s = .next (modMport m (fun x => { x with
        acked := true, driven := []
        partialMsg := some ((bs ++ pkt.drop 4).take 4112, byteAt pkt 3 % 8, (bits (byteAt pkt 3) 5 4 + 1) % 4,
          byteAt pkt 2) }) s)) ∧
    (∀ (bs : List Byte) (q : Nat), packetFits s m pkt = true → bit (byteAt pkt 3) 7 = false →
      (mportAt s m).partialMsg = some (bs, byteAt pkt 3 % 8, q, byteAt pkt 2) → q ≠ bits (byteAt pkt 3) 5 4 →
      exec (.mctpPacket m true pkt) s = .next (modMport m (fun x => { x with
        acked := true, driven := [], partialMsg := none, assemblyDrops := satInc x.assemblyDrops }) s))) ∧
  (∀ (s : State) (m : MPort) (ok : Bool) (pkt : List Byte), portUp s m = false →
    exec (.mctpPacket m ok pkt) s = .next (modMport m (fun x => { x with acked := false, driven := [] }) s) ∧
    exec (.responseRead m) s = .next (modMport m (fun x => { x with acked := false, driven := [] }) s)) ∧
  (∀ (s : State) (m : MPort), s.refclk = true → s.porN = true → (mportAt s m).partialMsg.isSome = true →
    exec (.mgmtAssemblyExpiry m) s = .next (timeoutExpired 13 (modMport m (fun x => { x with
      partialMsg := none, assemblyDrops := satInc x.assemblyDrops }) s))) ∧
  (∀ (s : State) (m : MPort), portUp s m = true → (mportAt s m).rx = [] → (mportAt s m).refusal = none →
    (∀ (r : Response) (rs : List Response), (mportAt s m).responses = r :: rs →
      let out := (busRead (mportAt s m) (some (responsePacket (mportAt s m).eid r))).getD []
      (64 * (r.sent + 1) < r.msg.length → exec (.responseRead m) s = .next (modMport m (fun x => { x with
        acked := true, driven := out, responses := { r with sent := r.sent + 1 } :: rs }) s)) ∧
      (r.msg.length ≤ 64 * (r.sent + 1) → r.ofCommit = false → exec (.responseRead m) s = .next (modMport m (fun x =>
        { x with acked := true, driven := out, responses := rs }) s))) ∧
    ((mportAt s m).responses = [] → (mportAt s m).mode = 0 → ∃ t, exec (.responseRead m) s = .next t ∧
      (mportAt t m).acked = true ∧ (mportAt t m).driven.length = 2 ∧ (mportAt t m).driven.head? = some 0 ∧
      ground t = ground s) ∧
    ((mportAt s m).responses = [] → (mportAt s m).mode ≠ 0 → exec (.responseRead m) s =
      .next (modMport m (fun x => { x with acked := false, driven := [] }) s))) ∧
  (∀ (s : State) (m : MPort) (r : Response) (rs : List Response), s.refclk = true → s.porN = true →
    (mportAt s m).rx = [] → (mportAt s m).responses = r :: rs → r.ofCommit = false →
    exec (.responseExpiry m) s = .next (modMport m (fun x => { x with
      responses := rs, respExpired := satInc x.respExpired }) s))) ∧
  (
  ∀ (s : State) (m : MPort) (id : U32) (record : List Byte), servable s (portOfM m) = true → (mportAt s m).rx = [] →
    creditsFree (mportAt s m) ≠ 0 →
    (s.spdm.sessions.find? (fun x => x.id == id && x.port == m.val) = none →
      exec (.securedMessage m id record) s = .next s) ∧
    (∀ x, s.spdm.sessions.find? (fun x => x.id == id && x.port == m.val) = some x → s.cipherHealth.retired = false →
      (openRecord x record = none → exec (.securedMessage m id record) s = .next s) ∧
      (∀ v c p1 p2 body, openRecord x record = some (0x05 :: v :: c :: p1 :: p2 :: body) →
        exec (.securedMessage m id record) s = .next (spdmHandle m (some id) c.toNat
          { port := m, version := v, param1 := p1, param2 := p2, body := body } 0 0
          (modSpdm (fun d => { d with sessions := d.sessions.map (fun (y : Session) =>
            if y.id = id then { y with reqCount := y.reqCount + 1, lastTick := s.now } else y) }) s)))))

/-- R524, R525, R529, R537: an admitted READ answers with its object's value and changes nothing else; a READ_BLOCK
takes 1 to 4,094 bytes; a POLL answers its entries in order, refuses no entry or more than 16 with E_RANGE, and
E_NOT_READY where the phase admits one of them not. Examples: the requested and effective state of a channel. -/
def Obligations.ObjectReads : Prop :=
  (∀ (s : State) (p : Port) (i : U16) (sub : U8) (e : Entry), admitted s p .read i.toNat sub.toNat 0 = true →
    entryAt i.toNat sub.toNat = some e → ¬(i = 0x8020 ∧ sub = 2) → ¬(i = 0x1201 ∧ sub = 0) → ¬(i = 0xB002 ∧ sub = 1) →
    exec (.read p i sub) s = .next (answer p eOk (sized e.size (readAny p i.toNat sub.toNat s)) s)) ∧
  (∀ (s : State) (p : Port) (c : Chan), admitted s p .read (0x3001 + 0x100 * c.val) 0 0 = true →
    exec (.read p (BitVec.ofNat 16 (0x3001 + 0x100 * c.val)) 0) s = .next (answer p eOk [(chanAt s c).reqState] s)) ∧
  (∀ (s : State) (p : Port) (c : Chan), admitted s p .read (0x3001 + 0x100 * c.val) 1 0 = true →
    exec (.read p (BitVec.ofNat 16 (0x3001 + 0x100 * c.val)) 1) s =
      .next (answer p eOk [BitVec.ofNat 8 (chStateCode (chanAt s c).eff)] s)) ∧
  (∀ (s : State) (p : Port) (i n : U16) (sub : U8) (off : U40), admitted s p .readBlock i.toNat sub.toNat 0 = true →
    ¬(i = 0xD000 ∧ sub = 1) →
    let r := readBlockRule p i.toNat sub.toNat off.toNat n.toNat s
    (1 ≤ n.toNat → n.toNat ≤ 4094 → exec (.readBlock p i sub off n) s = .next (answer p r.1 r.2.1 r.2.2)) ∧
    (n = 0 ∨ 4094 < n.toNat → exec (.readBlock p i sub off n) s = .next (reply p eRange s))) ∧
  (∀ (s : State) (p : Port) (es : List (U16 × U8)), servable s p = true → flipsOf s 7 0 = 0 →
    (es = [] ∨ 16 < es.length → exec (.poll p es) s = .next (reply p eRange s)) ∧
    (es ≠ [] → es.length ≤ 16 → (∃ e ∈ es, phaseAdmits s p .poll e.1.toNat e.2.toNat = false) →
      exec (.poll p es) s = .next (reply p eNotReady s)) ∧
    (es ≠ [] → es.length ≤ 16 → (∀ e ∈ es, phaseAdmits s p .poll e.1.toNat e.2.toNat = true) →
      exec (.poll p es) s = .next (answer p (pollEntries p es s).1 (pollEntries p es s).2.1 (pollEntries p es s).2.2)))

/-- R28, R29, R556 to R558: a field-access read of the vault answers with its sectors as they are and counts; one of a
channel waits for its flash, answers E_STATE where the channel is OFF or RETIRED, and E_BUSY when its time is over; an
address outside its space answers E_RANGE. R205, R559, R560: in TEST phase BIST fills its memory with zeros and stores
its result, INJECT inverts the mask's bits of the word, UNIT_TEST stores its result and changes no unit; in any other
phase each answers E_STATE. -/
def Obligations.FieldService : Prop :=
  (
  (∀ (s : State) (p : Port) (off : U40) (n : U16), admitted s p .readBlock 0xD000 1 0 = true → 1 ≤ n.toNat →
    n.toNat ≤ 4094 →
    let a := (portRegs s p).faBase
    let c := spaceChan (faSpace a)
    (faAddress s p off.toNat n.toNat ≠ eOk →
      exec (.faWindowRead p off n) s = .next (reply p (faAddress s p off.toNat n.toNat) s)) ∧
    (faAddress s p off.toNat n.toNat = eOk → faRights s p = false →
      exec (.faWindowRead p off n) s = .next (reply p eAccess s)) ∧
    (faAddress s p off.toNat n.toNat = eOk → faRights s p = true → off.toNat + n.toNat ≤ 2 ^ 32 →
      (faSpace a < 0x0C → (chanAt s c).eff = .off ∨ (chanAt s c).eff = .retired →
        exec (.faWindowRead p off n) s = .next (reply p eState s)) ∧
      (faSpace a < 0x0C → (chanAt s c).eff ≠ .off → (chanAt s c).eff ≠ .retired →
        exec (.faWindowRead p off n) s = .next (kickField p (modPort p (fun r => { r with
          faWait := some (c, spaceCs (faSpace a), faOffset a + off.toNat, n.toNat) }) s))) ∧
      (faSpace a = 0x10 → vaultOnline s = true → s.keys.keyState ≠ 2 → flipsOf s 6 0 = 0 →
        exec (.faWindowRead p off n) s = .next (answer p eOk
          (Mem.readN 0 s.vault.user (faOffset a * 512 + off.toNat) n.toNat)
          { s with faReads := satInc s.faReads })) ∧
      (faSpace a = 0x10 → vaultOnline s = false ∨ s.keys.keyState = 2 →
        exec (.faWindowRead p off n) s = .next (reply p eNotReady s)))) ∧
  (∀ (s : State) (p : Port), (portRegs s p).faWait.isSome = true → ∃ t, exec (.faReadExpiry p) s = .next t ∧
    (portRegs t p).faWait = none ∧ (portRegs t p).lastCode = eBusy ∧ (portRegs t p).lastData = [] ∧ ground t = ground s ∧
    cellsOf t = cellsOf s) ∧
  (∀ (s : State) (p : Port), (portRegs s p).faWait = none → exec (.faReadExpiry p) s = .next s)) ∧
  (
  (∀ (s : State) (p : Port) (m : Fin 8) (pass : Bool), admitted s p .exec (0xE010 + m.val) 0 1 = true →
    (s.phase ≠ .test → exec (.bist p m pass) s = .next (reply p eState s)) ∧
    (s.phase = .test → ∃ t, exec (.bist p m pass) s = .next (reply p (if pass = true then eOk else eIntegrity) t) ∧
      t.bistResult = s.bistResult.set m.val (if pass = true then 0 else 1) ∧
      (m.val = 0 → t.hayloft.ctxs = []) ∧ (m.val = 2 → t.hedgerow.table = []) ∧ (m.val = 3 → t.hedgerow.nodes = []) ∧
      (m.val = 4 → t.journal.ring = []) ∧ (m.val < 6 → ∀ w, flipsOf t m w = 0) ∧ ground t = ground s)) ∧
  (∀ (s : State) (p : Port) (m : Fin 8), admitted s p .exec (0xE010 + m.val) 4 1 = true →
    let w := (s.injWord.getD m.val 0).toNat
    let mask : CodeWord := BitVec.ofNat 72 (leNat (s.injMask.getD m.val []))
    (s.phase ≠ .test → exec (.inject p m) s = .next (reply p eState s)) ∧
    (s.phase = .test → (mask = 0 ∨ memWords.getD m.val 1 ≤ w) → exec (.inject p m) s = .next (reply p eRange s)) ∧
    (s.phase = .test → mask ≠ 0 → w < memWords.getD m.val 1 → exec (.inject p m) s =
      .next (reply p eOk { s with upsets := s.upsets ++ [{ mem := m, word := w, mask := mask }] }))) ∧
  (∀ (s : State) (p : Port) (code : U8) (pass : Bool), admitted s p .exec 0xE002 1 1 = true →
    let u := (portRegs s p).unitSelect.toNat
    (s.phase ≠ .test → exec (.unitTest p code pass) s = .next (reply p eState s)) ∧
    (s.phase = .test → testFits u code.toNat = false → exec (.unitTest p code pass) s = .next (reply p eRange s)) ∧
    (s.phase = .test → testFits u code.toNat = true → code ≠ 1 → exec (.unitTest p code pass) s =
      .next (reply p (if pass = true then eOk else eIntegrity) { s with unitResult := if pass = true then 0 else code })) ∧
    (s.phase = .test → testFits u code.toNat = true → code = 1 → ∃ t, exec (.unitTest p code pass) s =
      .next (reply p (if pass = true then eOk else eIntegrity) t) ∧ t.unitResult = (if pass = true then 0 else code) ∧
      t.chans = s.chans ∧ t.fallow = s.fallow ∧ ground t = ground s)))

/-- R427, R434, R534: a measurement block whose recomputation is due gets its new digest; FENCE raises the fence
number and records it; from a management port outside SERVICE phase it answers E_NOT_READY. -/
def Obligations.JournalOrders : Prop :=
  (∀ (s : State) (b : U8), s.spdm.pendingBlocks.contains b.toNat = true → digestBlock b.toNat = true → coresRun s = true →
    exec (.measurementRecompute b) s = .next (modSpdm (fun x => { x with
      pendingBlocks := x.pendingBlocks.filter (· != b.toNat)
      blocks := tput x.blocks b.toNat (sha384 (blockContent s b.toNat)) }) s)) ∧
  (∀ (s : State) (p : Port), servable s p = true → flipsOf s 7 0 = 0 → (p = .l ∨ inService s = true) →
    ∃ t, exec (.fence p) s = .next (answer p eOk (leBytes 5 (s.journal.fence + 1).toNat) t) ∧
      t.journal.fence = s.journal.fence + 1 ∧ (∀ m, mportOf p = some m → (mportAt t m).lastFence = s.journal.fence + 1) ∧
      t.chans = s.chans ∧ ground t = ground s) ∧
  (∀ (s : State) (p : Port), servable s p = true → flipsOf s 7 0 = 0 → p ≠ .l → inService s = false →
    exec (.fence p) s = .next (reply p eNotReady s))

/-- R433: RETAINED_CLEAR empties the retained area and sets RETAINED_COUNT to 0 once every entry in it is archived;
before, it answers E_STATE and changes nothing. RETAINED_OVERFLOW is not cleared. -/
def Obligations.RetainedClear : Prop :=
  ∀ (s : State) (p : Port), admitted s p .exec 0x2100 3 1 = true →
    (s.journal.retainedCount.toNat ≤ s.vault.retainedArchived → ∃ t, exec (.retainedClear p) s = .next (reply p eOk t) ∧
      t.journal.kept = [] ∧ t.journal.retainedCount = 0 ∧ t.journal.retainedOverflow = s.journal.retainedOverflow ∧
      t.journal.ring = s.journal.ring ∧ t.journal.head = s.journal.head ∧ t.chans = s.chans ∧ ground t = ground s) ∧
    (s.vault.retainedArchived < s.journal.retainedCount.toNat →
      exec (.retainedClear p) s = .next (reply p eState s))

/-- R485: CU_START's checks in their order, the first that fails deciding; when they pass the register takes CU_INIT,
CU_FED is 0, with PREFIX the 5 bytes of CU_ADDR and the 4 of CU_SEQ are fed, and the unit is RUNNING. A parameter
write while the unit is RUNNING answers E_STATE. -/
def Obligations.CheckUnitStarts : Prop :=
  (∀ (s : State) (p : Port) (u : Fin 8), admitted s p .exec (0x8510 + u.val) 0xA 1 = true →
    let k := cuAt s u
    let top := if cuLarge u = true then 64 else 32
    let wide := 3 ≤ k.width.toNat ∧ k.width.toNat ≤ top
    let within := k.poly.toNat < 2 ^ k.width.toNat ∧ k.init.toNat < 2 ^ k.width.toNat ∧ k.xorout.toNat < 2 ^ k.width.toNat
    let modes := cuAliveMode k ≠ 3 ∧ (cuLarge u = true → cuAliveMode k = 0) ∧
      (cuLarge u = false → k.flags.getLsbD 5 = false)
    (k.st = 0 ∨ k.st = 2 ∨ k.st = 4 → exec (.cuStart p u) s = .next (reply p eState s)) ∧
    (k.st = 1 ∨ k.st = 3 → ¬wide → exec (.cuStart p u) s = .next (reply p eRange s)) ∧
    (k.st = 1 ∨ k.st = 3 → wide → ¬within → exec (.cuStart p u) s = .next (reply p eRange s)) ∧
    (k.st = 1 ∨ k.st = 3 → wide → within → ¬modes → exec (.cuStart p u) s = .next (reply p eRange s)) ∧
    (k.st = 1 ∨ k.st = 3 → wide → within → modes → exec (.cuStart p u) s = .next (reply p eOk (modCu u (fun k =>
      let k := { k with st := 2, reg := k.init, fed := 0 }
      if (cuAt s u).flags.getLsbD 5 = true then cuAbsorb (leBytes 5 k.addr.toNat ++ leBytes 4 k.seq.toNat) k
      else k) s)))) ∧
  (∀ (s : State) (p : Port) (u : Fin 8) (i : U16) (sub : U8) (v : List Byte), i.toNat = 0x8510 + u.val →
    2 ≤ sub.toNat → sub.toNat ≤ 9 → admitted s p .write i.toNat sub.toNat v.length = true → (cuAt s u).st = 2 →
    exec (.registerWrite p i sub v) s = .next (reply p eState s))

/-- R508: EXTEST takes the balls to the boundary register only while POR_N is low, where the Heath domain keeps its
state; while POR_N is high it acts as BYPASS. -/
def Obligations.ExtestOnlyInReset : Prop :=
  ∀ (s : State) (c : List Bool),
    (s.porN = false → exec (.extest c) s = .next (modTap (fun t => { t with
      ir := 0x00, boundary := c, extestBalls := c }) s) ∧ (after (exec (.extest c) s) s).heath = s.heath) ∧
    (s.porN = true → exec (.extest c) s = .next (modTap (fun t => { t with ir := 0x00, dr := [0], extestBalls := [] }) s) ∧
      ∀ t u, exec (.extest c) s = .next t → exec .bypass s = .next u → t.tap.dr = u.tap.dr ∧
        t.tap.extestBalls = u.tap.extestBalls ∧ t.tap.boundary = u.tap.boundary)

/-- R510: KEY_REVOKE burns the REVOKE byte of its slot in the Integrator and Fielded states, answers E_STATE in the
others, and E_REFUSED for slot 8 and for the last unrevoked burned slot of 0 to 3 or of 4 to 7. The slot then reads as
revoked, and an admitted manifest stays admitted. A slot that does not exist answers E_RANGE. -/
def Obligations.KeyRevocation : Prop :=
  ∀ (s : State) (p : Port) (k : U8), admitted s p .exec 0x1202 4 1 = true →
    (s.lc.state ≠ 1 → s.lc.state ≠ 2 → exec (.keyRevoke p k) s = .next (reply p eState s)) ∧
    (s.lc.state = 1 ∨ s.lc.state = 2 →
      (9 < k.toNat → exec (.keyRevoke p k) s = .next (reply p eRange s)) ∧
      (k = 8 ∨ (k.toNat ≤ 9 ∧ keyLast s k.toNat = true) → exec (.keyRevoke p k) s = .next (reply p eRefused s)) ∧
      (k.toNat ≤ 9 → k ≠ 8 → keyLast s k.toNat = false → Memory.wf 0 s.lc.otp = true →
        ∃ t, exec (.keyRevoke p k) s = .next (reply p eOk t) ∧ t = burnFlag (0x038 + k.toNat) s ∧
          keyRevoked t k.toNat = true ∧ t.update = s.update ∧ t.lc.state = s.lc.state ∧ ground t = ground s))
end

