-- ==== Sys2Proof/Laws/Ground.lean ====
section
/-! SUPPORT. The ground of a state under record updates, folds and conditionals; when a generate and a record succeed. -/
namespace Sys2Proof.Laws
open Sys2Proof.Machine

@[simp] theorem after_next (t s : State) : after (.next t) s = t := rfl

/-- A record update that keeps the fields of the ground keeps the ground. -/
@[simp] theorem ground_upd (s : State) (x_freeCount : Nat) (x_gapPeriods : Nat) (x_refclkLosses : U32) (x_refclkLastGap
    : U32) (x_bootResult : U40) (x_resetCause : U8) (x_rtCopy : U8) (x_deviceResets : U32) (x_coreRestarts : U32) (x_bootAttempts : U8) (x_deviceResetDue : Option U8) (x_coresDown : Bool) (x_coresHeld : Bool) (x_coreHealth : UnitHealth) (x_mgmtUp : Bool) (x_testHonoured : Bool) (x_recoveryByRuntime : Bool) (x_rtImage : List Byte) (x_rtInstallResult : U8) (x_rtBuild : U40) (x_rtSvn : U8) (x_rtDigest : List Byte) (x_katResults : List U8) (x_digestHealth : UnitHealth) (x_dgTransients : U32) (x_cipherHealth : UnitHealth) (x_cxTransients : U32) (x_freshAtHeath : Bool) (x_pacePs : U16) (x_paceMaxPs : U16) (x_paceArmed : Bool) (x_tj : List Int) (x_tjMax : List Int) (x_railMv : List U16) (x_railMin : List U16) (x_railMax : List U16) (x_secCount : List U32) (x_dedCount : List U32) (x_scrubPasses : U32) (x_scrubLast : U40) (x_scrubPos : Nat) (x_upsets : List Upset) (x_bistResult : List U8) (x_injWord : List U40) (x_injMask : List (List Byte)) (x_unitResult : U8) (x_logicSig : U32) (x_cfg : List (Nat × List Byte)) (x_commits : U32) (x_lastCommitPort : U8) (x_lastCommitUs : U40) (x_faReads : U32) (x_chans : Vector Channel 6) (x_fallow : Fallow) (x_hedgerow : Hedgerow) (x_hayloft : Hayloft) (x_vault : Vault) (x_update : Update) (x_banks : Vector Bank 8) (x_cxs : Vector CxJob 4) (x_keys : KeyStore) (x_pke : Pke) (x_random : Random) (x_journal : Journal) (x_heath : Heath) (x_wd : Watchdog) (x_timers : Vector TimerUnit 8) (x_timeouts : Vector Timeout 14) (x_cus : Vector CheckUnit 8) (x_cuTransients : U32) (x_lc : LifeCycle) (x_tap : TestPort) (x_spdm : Spdm) (x_mports : Vector MgmtPort 2) (x_ports : Vector PortRegs 3) :
    ground (⟨s.pending, x_freeCount, s.now, s.subUs, s.tbUs, s.tbEpoch, s.refclk, s.pllLock, x_gapPeriods, x_refclkLosses, x_refclkLastGap, s.porPin, s.porN, s.straps, s.phase, s.steps, x_bootResult, x_resetCause, x_rtCopy, x_deviceResets, x_coreRestarts, x_bootAttempts, x_deviceResetDue, x_coresDown, x_coresHeld, x_coreHealth, s.halted, x_mgmtUp, x_testHonoured, x_recoveryByRuntime, x_rtImage, x_rtInstallResult, x_rtBuild, x_rtSvn, x_rtDigest, x_katResults, x_digestHealth, x_dgTransients, x_cipherHealth, x_cxTransients, x_freshAtHeath, x_pacePs, x_paceMaxPs, x_paceArmed, x_tj, x_tjMax, x_railMv, x_railMin, x_railMax, x_secCount, x_dedCount, x_scrubPasses, x_scrubLast, x_scrubPos, x_upsets, x_bistResult, x_injWord, x_injMask, x_unitResult, x_logicSig, x_cfg, x_commits, x_lastCommitPort, x_lastCommitUs, x_faReads, x_chans, x_fallow, x_hedgerow, x_hayloft, x_vault, x_update, x_banks, x_cxs, x_keys, x_pke, x_random, x_journal, x_heath, x_wd, x_timers, x_timeouts, x_cus, x_cuTransients, x_lc, x_tap, x_spdm, x_mports, x_ports⟩ : State) = ground s := rfl

@[simp] theorem foldl_ground {α : Type} (f : State → α → State) (h : ∀ t x, ground (f t x) = ground t) (l : List α) (s
    : State) : ground (l.foldl f s) = ground s := by
  induction l generalizing s with
  | nil => rfl
  | cons a l ih => simp [ih, h]
@[simp] theorem foldl_ground2 {α β : Type} (f : β × State → α → β × State) (h : ∀ t x, ground (f t x).2 = ground t.2)
    (l : List α) (s : β × State) : ground (l.foldl f s).2 = ground s.2 := by
  induction l generalizing s with
  | nil => rfl
  | cons a l ih => simp [ih, h]
@[simp] theorem foldl_ground3 {α β γ : Type} (f : β × γ × State → α → β × γ × State) (h : ∀ t x, ground (f t x).2.2 =
    ground t.2.2) (l : List α) (s : β × γ × State) : ground (l.foldl f s).2.2 = ground s.2.2 := by
  induction l generalizing s with
  | nil => rfl
  | cons a l ih => simp [ih, h]

theorem drbgGenerate_some {n : Nat} {s : State} {r : List Byte × State} : drbgGenerate n s = some r ↔
    s.random.st = 1 ∧ ((drbgBytes s.random n).1, drbgThresholds (modRandom (fun r => { r with
      key := (drbgBytes s.random n).2.1, v := (drbgBytes s.random n).2.2, reseedCounter := r.reseedCounter + 1 }) s)) = r := by
  unfold drbgGenerate; split <;> simp_all
theorem storeRecord_ok {typ : Nat} {tf body : List Byte} {e : Bool} {s : State} {r : Nat × State} :
    storeRecord typ tf body e s = .ok r ↔
    s.vault.scanDone = true ∧ placeRecord s typ body.length = .ok r.1 ∧ putRecord typ tf body e r.1 s = r.2 := by
  unfold storeRecord
  rcases r with ⟨k, t⟩
  split
  · simp_all
  · split <;> simp_all

theorem ite_ground {α : Type} {c : Prop} [Decidable c] {x y : α × State} {s : State} (hx : ground x.2 = ground s)
    (hy : ground y.2 = ground s) : ground (if c then x else y).2 = ground s := by
  split
  · exact hx
  · exact hy

end Sys2Proof.Laws
end

