-- ==== Sys2Proof/Laws/Cells.lean ====
section
/-! SUPPORT. The bytes of the physical flashes under record updates, folds and conditionals. -/
namespace Sys2Proof.Laws
open Sys2Proof.Machine

/-- A record update that keeps the channels keeps the bytes of the flashes. -/
@[simp] theorem cellsOf_upd (s : State) (x_pending : List Instr) (x_freeCount : Nat) (x_now : Nat) (x_subUs : Nat)
    (x_tbUs : U40) (x_tbEpoch : U40) (x_refclk : Bool) (x_pllLock : Bool) (x_gapPeriods : Nat) (x_refclkLosses : U32) (x_refclkLastGap : U32) (x_porPin : Bool) (x_porN : Bool) (x_straps : BitVec 4) (x_phase : Phase) (x_steps : List (Nat × U40)) (x_bootResult : U40) (x_resetCause : U8) (x_rtCopy : U8) (x_deviceResets : U32) (x_coreRestarts : U32) (x_bootAttempts : U8) (x_deviceResetDue : Option U8) (x_coresDown : Bool) (x_coresHeld : Bool) (x_coreHealth : UnitHealth) (x_halted : Bool) (x_mgmtUp : Bool) (x_testHonoured : Bool) (x_recoveryByRuntime : Bool) (x_rtImage : List Byte) (x_rtInstallResult : U8) (x_rtBuild : U40) (x_rtSvn : U8) (x_rtDigest : List Byte) (x_katResults : List U8) (x_digestHealth : UnitHealth) (x_dgTransients : U32) (x_cipherHealth : UnitHealth) (x_cxTransients : U32) (x_freshAtHeath : Bool) (x_pacePs : U16) (x_paceMaxPs : U16) (x_paceArmed : Bool) (x_tj : List Int) (x_tjMax : List Int) (x_railMv : List U16) (x_railMin : List U16) (x_railMax : List U16) (x_secCount : List U32) (x_dedCount : List U32) (x_scrubPasses : U32) (x_scrubLast : U40) (x_scrubPos : Nat) (x_upsets : List Upset) (x_bistResult : List U8) (x_injWord : List U40) (x_injMask : List (List Byte)) (x_unitResult : U8) (x_logicSig : U32) (x_cfg : List (Nat × List Byte)) (x_commits : U32) (x_lastCommitPort : U8) (x_lastCommitUs : U40) (x_faReads : U32) (x_fallow : Fallow) (x_hedgerow : Hedgerow) (x_hayloft : Hayloft) (x_vault : Vault) (x_update : Update) (x_banks : Vector Bank 8) (x_cxs : Vector CxJob 4) (x_keys : KeyStore) (x_pke : Pke) (x_random : Random) (x_journal : Journal) (x_heath : Heath) (x_wd : Watchdog) (x_timers : Vector TimerUnit 8) (x_timeouts : Vector Timeout 14) (x_cus : Vector CheckUnit 8) (x_cuTransients : U32) (x_lc : LifeCycle) (x_tap : TestPort) (x_spdm : Spdm) (x_mports : Vector MgmtPort 2) (x_ports : Vector PortRegs 3) : cellsOf (⟨x_pending, x_freeCount, x_now, x_subUs, x_tbUs, x_tbEpoch, x_refclk, x_pllLock, x_gapPeriods, x_refclkLosses, x_refclkLastGap, x_porPin, x_porN, x_straps, x_phase, x_steps, x_bootResult, x_resetCause, x_rtCopy, x_deviceResets, x_coreRestarts, x_bootAttempts, x_deviceResetDue, x_coresDown, x_coresHeld, x_coreHealth, x_halted, x_mgmtUp, x_testHonoured, x_recoveryByRuntime, x_rtImage, x_rtInstallResult, x_rtBuild, x_rtSvn, x_rtDigest, x_katResults, x_digestHealth, x_dgTransients, x_cipherHealth, x_cxTransients, x_freshAtHeath, x_pacePs, x_paceMaxPs, x_paceArmed, x_tj, x_tjMax, x_railMv, x_railMin, x_railMax, x_secCount, x_dedCount, x_scrubPasses, x_scrubLast, x_scrubPos, x_upsets, x_bistResult, x_injWord, x_injMask, x_unitResult, x_logicSig, x_cfg, x_commits, x_lastCommitPort, x_lastCommitUs, x_faReads, s.chans, x_fallow, x_hedgerow, x_hayloft, x_vault, x_update, x_banks, x_cxs, x_keys, x_pke, x_random, x_journal, x_heath, x_wd, x_timers, x_timeouts, x_cus, x_cuTransients, x_lc, x_tap, x_spdm, x_mports, x_ports⟩ : State) = cellsOf s := rfl

theorem modChan_keeps (c : Chan) (f : Channel → Channel) (s : State) (h0 : ∀ x, (f x).flash0.cells = x.flash0.cells)
    (h1 : ∀ x, (f x).flash1.cells = x.flash1.cells) : cellsOf (modChan c f s) = cellsOf s := by
  unfold cellsOf modChan
  ext i hi
  · simp [Vector.getElem_set]; split <;> simp_all
  · simp [Vector.getElem_set]; split <;> simp_all
@[simp] theorem modChan_cellsOf (c : Chan) (f : Channel → Channel) (s : State) (h0 : ∀ x, (f x).flash0.cells =
    x.flash0.cells) (h1 : ∀ x, (f x).flash1.cells = x.flash1.cells) : cellsOf (modChan c f s) = cellsOf s := modChan_keeps c f s h0 h1
@[simp] theorem modFlash_cellsOf (c : Chan) (m : Cs) (f : Flash → Flash) (s : State) (h : ∀ x, (f x).cells = x.cells) :
    cellsOf (modFlash c m f s) = cellsOf s := by
  unfold modFlash
  apply modChan_keeps <;> intro x <;> split <;> simp [h]

@[simp] theorem foldl_cellsOf {α : Type} (f : State → α → State) (h : ∀ t x, cellsOf (f t x) = cellsOf t) (l : List α)
    (s : State) : cellsOf (l.foldl f s) = cellsOf s := by
  induction l generalizing s with
  | nil => rfl
  | cons a l ih => simp [ih, h]
@[simp] theorem foldl_cellsOf2 {α β : Type} (f : β × State → α → β × State) (h : ∀ t x, cellsOf (f t x).2 = cellsOf
    t.2) (l : List α) (s : β × State) : cellsOf (l.foldl f s).2 = cellsOf s.2 := by
  induction l generalizing s with
  | nil => rfl
  | cons a l ih => simp [ih, h]
@[simp] theorem foldl_cellsOf3 {α β γ : Type} (f : β × γ × State → α → β × γ × State) (h : ∀ t x, cellsOf (f t x).2.2 =
    cellsOf t.2.2) (l : List α) (s : β × γ × State) : cellsOf (l.foldl f s).2.2 = cellsOf s.2.2 := by
  induction l generalizing s with
  | nil => rfl
  | cons a l ih => simp [ih, h]

theorem ite_cellsOf {α : Type} {c : Prop} [Decidable c] {x y : α × State} {s : State} (hx : cellsOf x.2 = cellsOf s)
    (hy : cellsOf y.2 = cellsOf s) : cellsOf (if c then x else y).2 = cellsOf s := by
  split
  · exact hx
  · exact hy

end Sys2Proof.Laws
end

