-- ==== Sys2Proof/Laws/Aside.lean ====
section
/-! SUPPORT. The state aside from the channels, the Hayloft and the vault, under record updates, folds and
    conditionals. -/
namespace Sys2Proof.Laws
open Sys2Proof.Machine

/-- The state aside from the channels, the Hedgerow, the Hayloft, the vault, the update, the journal and the counters and
free values that settling the channels may change. -/
structure Aside where
  pending : List Instr
  now : Nat
  subUs : Nat
  tbUs : U40
  tbEpoch : U40
  refclk : Bool
  pllLock : Bool
  gapPeriods : Nat
  refclkLosses : U32
  refclkLastGap : U32
  porPin : Bool
  porN : Bool
  straps : BitVec 4
  phase : Phase
  steps : List (Nat × U40)
  resetCause : U8
  rtCopy : U8
  deviceResets : U32
  coreRestarts : U32
  bootAttempts : U8
  deviceResetDue : Option U8
  coresDown : Bool
  coresHeld : Bool
  coreHealth : UnitHealth
  halted : Bool
  mgmtUp : Bool
  testHonoured : Bool
  recoveryByRuntime : Bool
  rtImage : List Byte
  rtInstallResult : U8
  rtBuild : U40
  rtSvn : U8
  rtDigest : List Byte
  katResults : List U8
  digestHealth : UnitHealth
  dgTransients : U32
  cipherHealth : UnitHealth
  cxTransients : U32
  freshAtHeath : Bool
  pacePs : U16
  paceMaxPs : U16
  paceArmed : Bool
  tj : List Int
  tjMax : List Int
  railMv : List U16
  railMin : List U16
  railMax : List U16
  scrubPasses : U32
  scrubLast : U40
  scrubPos : Nat
  bistResult : List U8
  injWord : List U40
  injMask : List (List Byte)
  unitResult : U8
  logicSig : U32
  cfg : List (Nat × List Byte)
  commits : U32
  lastCommitPort : U8
  lastCommitUs : U40
  faReads : U32
  banks : Vector Bank 8
  cxs : Vector CxJob 4
  keys : KeyStore
  pke : Pke
  random : Random
  heath : Heath
  wd : Watchdog
  timers : Vector TimerUnit 8
  cus : Vector CheckUnit 8
  cuTransients : U32
  lc : LifeCycle
  tap : TestPort
  mports : Vector MgmtPort 2
  ports : Vector PortRegs 3
/-- The state aside of a state. -/
def aside (s : State) : Aside := ⟨s.pending, s.now, s.subUs, s.tbUs, s.tbEpoch, s.refclk, s.pllLock, s.gapPeriods,
    s.refclkLosses, s.refclkLastGap, s.porPin, s.porN, s.straps, s.phase, s.steps, s.resetCause, s.rtCopy, s.deviceResets, s.coreRestarts, s.bootAttempts, s.deviceResetDue, s.coresDown, s.coresHeld, s.coreHealth, s.halted, s.mgmtUp, s.testHonoured, s.recoveryByRuntime, s.rtImage, s.rtInstallResult, s.rtBuild, s.rtSvn, s.rtDigest, s.katResults, s.digestHealth, s.dgTransients, s.cipherHealth, s.cxTransients, s.freshAtHeath, s.pacePs, s.paceMaxPs, s.paceArmed, s.tj, s.tjMax, s.railMv, s.railMin, s.railMax, s.scrubPasses, s.scrubLast, s.scrubPos, s.bistResult, s.injWord, s.injMask, s.unitResult, s.logicSig, s.cfg, s.commits, s.lastCommitPort, s.lastCommitUs, s.faReads, s.banks, s.cxs, s.keys, s.pke, s.random, s.heath, s.wd, s.timers, s.cus, s.cuTransients, s.lc, s.tap, s.mports, s.ports⟩
@[simp] theorem aside_upd (s : State) (x_freeCount : Nat) (x_spdm : Spdm) (x_bootResult : U40) (x_secCount : List U32)
    (x_dedCount : List U32) (x_upsets : List Upset) (x_chans : Vector Channel 6) (x_fallow : Fallow) (x_hedgerow : Hedgerow) (x_hayloft : Hayloft) (x_vault : Vault) (x_update : Update) (x_journal : Journal) (x_timeouts : Vector Timeout 14) : aside (⟨s.pending, x_freeCount, s.now, s.subUs, s.tbUs, s.tbEpoch, s.refclk, s.pllLock, s.gapPeriods, s.refclkLosses, s.refclkLastGap, s.porPin, s.porN, s.straps, s.phase, s.steps, x_bootResult, s.resetCause, s.rtCopy, s.deviceResets, s.coreRestarts, s.bootAttempts, s.deviceResetDue, s.coresDown, s.coresHeld, s.coreHealth, s.halted, s.mgmtUp, s.testHonoured, s.recoveryByRuntime, s.rtImage, s.rtInstallResult, s.rtBuild, s.rtSvn, s.rtDigest, s.katResults, s.digestHealth, s.dgTransients, s.cipherHealth, s.cxTransients, s.freshAtHeath, s.pacePs, s.paceMaxPs, s.paceArmed, s.tj, s.tjMax, s.railMv, s.railMin, s.railMax, x_secCount, x_dedCount, s.scrubPasses, s.scrubLast, s.scrubPos, x_upsets, s.bistResult, s.injWord, s.injMask, s.unitResult, s.logicSig, s.cfg, s.commits, s.lastCommitPort, s.lastCommitUs, s.faReads, x_chans, x_fallow, x_hedgerow, x_hayloft, x_vault, x_update, s.banks, s.cxs, s.keys, s.pke, s.random, x_journal, s.heath, s.wd, s.timers, x_timeouts, s.cus, s.cuTransients, s.lc, s.tap, x_spdm, s.mports, s.ports⟩ : State) = aside s := rfl

@[simp] theorem foldl_aside {α : Type} (f : State → α → State) (h : ∀ t x, aside (f t x) = aside t) (l : List α) (s :
    State) : aside (l.foldl f s) = aside s := by
  induction l generalizing s with
  | nil => rfl
  | cons a l ih => simp [ih, h]
@[simp] theorem foldl_aside2 {α β : Type} (f : β × State → α → β × State) (h : ∀ t x, aside (f t x).2 = aside t.2) (l :
    List α) (s : β × State) : aside (l.foldl f s).2 = aside s.2 := by
  induction l generalizing s with
  | nil => rfl
  | cons a l ih => simp [ih, h]
@[simp] theorem foldl_aside3 {α β γ : Type} (f : β × γ × State → α → β × γ × State) (h : ∀ t x, aside (f t x).2.2 =
    aside t.2.2) (l : List α) (s : β × γ × State) : aside (l.foldl f s).2.2 = aside s.2.2 := by
  induction l generalizing s with
  | nil => rfl
  | cons a l ih => simp [ih, h]

theorem ite_aside {α : Type} {c : Prop} [Decidable c] {x y : α × State} {s : State} (hx : aside x.2 = aside s)
    (hy : aside y.2 = aside s) : aside (if c then x else y).2 = aside s := by
  split
  · exact hx
  · exact hy

end Sys2Proof.Laws
end

