-- ==== Sys2Proof/Laws/AsideOps.lean ====
section
/-! SUPPORT. What leaves the state aside from channels, Hayloft and vault as it is: the named operations, the Hedgerow,
    the Hayloft and the channels. -/
namespace Sys2Proof.Laws
open Sys2Proof.Machine
set_option linter.unusedVariables false
set_option linter.unusedSimpArgs false
set_option linter.unnecessarySeqFocus false
set_option linter.unreachableTactic false
set_option linter.unusedTactic false
set_option maxRecDepth 4000

@[simp] theorem modChan_aside (a0 : Chan) (a1 : Channel → Channel) (s : State) : aside (modChan a0 a1 s) = aside s :=
  by simp [modChan]
@[simp] theorem modVf_aside (a0 : Chan) (a1 : VFlash → VFlash) (s : State) : aside (modVf a0 a1 s) = aside s :=
  by simp [modVf]
@[simp] theorem modCounts_aside (a0 : Chan) (a1 : ChCounts → ChCounts) (s : State) : aside (modCounts a0 a1 s) = aside
    s := by simp [modCounts]
@[simp] theorem allChans_aside (a0 : Chan → State → State) (s : State) (h1 : ∀ y0 y1, aside (((a0 y0 y1))) = aside
    ((y1))) : aside (allChans a0 s) = aside s := by
  unfold allChans; simp [h1]
@[simp] theorem modTimeout_aside (a0 : Fin 14) (a1 : Timeout → Timeout) (s : State) : aside (modTimeout a0 a1 s) =
    aside s := by simp [modTimeout]
@[simp] theorem modHay_aside (a0 : Hayloft → Hayloft) (s : State) : aside (modHay a0 s) = aside s := by simp [modHay]
@[simp] theorem modHr_aside (a0 : Hedgerow → Hedgerow) (s : State) : aside (modHr a0 s) = aside s := by simp [modHr]
@[simp] theorem modVault_aside (a0 : Vault → Vault) (s : State) : aside (modVault a0 s) = aside s := by simp [modVault]
@[simp] theorem modUpd_aside (a0 : Update → Update) (s : State) : aside (modUpd a0 s) = aside s := by simp [modUpd]
@[simp] theorem modSpdm_aside (a0 : Spdm → Spdm) (s : State) : aside (modSpdm a0 s) = aside s := by simp [modSpdm]
@[simp] theorem markBlocks_aside (a0 : List Nat) (s : State) : aside (markBlocks a0 s) = aside s := by simp [markBlocks]
@[simp] theorem setVector_aside (a0 : BitVec 256) (s : State) : aside (setVector a0 s) = aside s := by
  unfold setVector
  simp [apply_ite aside, apply_ite Prod.snd]
@[simp] theorem modFallow_aside (a0 : Fallow → Fallow) (s : State) : aside (modFallow a0 s) = aside s :=
  by simp [modFallow]
@[simp] theorem modFlash_aside (a0 : Chan) (a1 : Cs) (a2 : Flash → Flash) (s : State) : aside (modFlash a0 a1 a2 s) =
    aside s := by simp [modFlash]
@[simp] theorem draw_aside (a0 : Nat) (s : State) : aside ((draw a0 s).2) = aside s := by simp [draw]
@[simp] theorem drawBytes_aside (a0 : Nat) (s : State) : aside ((drawBytes a0 s).2) = aside s := by
  induction a0 generalizing s with
  | zero => rfl
  | succ n ih => unfold drawBytes; (repeat' (first | dsimp only | split)) <;> simp_all [apply_ite aside]
@[simp] theorem timeoutExpired_aside (a0 : Fin 14) (s : State) : aside (timeoutExpired a0 s) = aside s :=
  by simp [timeoutExpired]
@[simp] theorem timeoutArrived_aside (a0 : Fin 14) (s : State) : aside (timeoutArrived a0 s) = aside s :=
  by simp [timeoutArrived]
@[simp] theorem cleanWords_aside (a0 : Fin 8) (a1 : Nat) (a2 : Nat) (s : State) : aside (cleanWords a0 a1 a2 s) = aside
    s := by simp [cleanWords]
@[simp] theorem countSec_aside (a0 : Fin 8) (s : State) : aside (countSec a0 s) = aside s := by simp [countSec]
@[simp] theorem countDed_aside (a0 : Fin 8) (s : State) : aside (countDed a0 s) = aside s := by simp [countDed]
@[simp] theorem readWord_aside (a0 : Fin 8) (a1 : Nat) (s : State) : aside ((readWord a0 a1 s).2) = aside s := by
  unfold readWord
  simp only [apply_ite aside, apply_ite Prod.snd]
  (repeat' split) <;> simp [*]
@[simp] theorem readWords_aside (a0 : Fin 8) (a1 : Nat) (a2 : Nat) (s : State) : aside ((readWords a0 a1 a2 s).2) =
    aside s := by
  induction a2 generalizing a1 s with
  | zero => first | rfl | (simp [readWords]; done) | (unfold readWords; simp)
  | succ n ih => first | (simp [readWords, ih, apply_ite aside]; done) | (unfold readWords; (repeat' (first | dsimp only | split)) <;> simp_all)
@[simp] theorem strike_aside (a0 : List Upset) (s : State) : aside (strike a0 s) = aside s := by simp [strike]
@[simp] theorem journalCommit_aside (a0 : JEntry) (s : State) : aside (journalCommit a0 s) = aside s := by
  unfold journalCommit
  simp [apply_ite aside, apply_ite Prod.snd]
@[simp] theorem journalStage_aside (a0 : JEntry) (s : State) : aside (journalStage a0 s) = aside s := by
  unfold journalStage
  simp [apply_ite aside, apply_ite Prod.snd]
@[simp] theorem journal_aside (a0 : Nat) (a1 : Nat) (a2 : Bool) (a3 : List Byte) (s : State) : aside (journal a0 a1 a2
    a3 s) = aside s := by
  unfold journal
  simp [apply_ite aside, apply_ite Prod.snd]
@[simp] theorem notice_aside (a0 : Nat) (a1 : Bool) (a2 : Nat) (a3 : Nat) (a4 : Nat) (a5 : Nat) (s : State) : aside
    (notice a0 a1 a2 a3 a4 a5 s) = aside s := by simp [notice]
@[simp] theorem journalDrain_aside (s : State) : aside (journalDrain s) = aside s := by simp [journalDrain]
theorem bootFail_shape_aside (v : U40) (c d : Prop) [Decidable c] [Decidable d] (src : Nat) (bs : List Byte) (s : State) :
    aside (let s' := if c then { s with bootResult := v } else s
      if d then s' else journal src 0x0003 true bs s') = aside s := by
  simp only [apply_ite aside, journal_aside, aside_upd, ite_self]
@[simp] theorem bootFail_aside (a0 : Nat) (a1 : U8) (a2 : Nat) (s : State) : aside (bootFail a0 a1 a2 s) = aside s := by
  exact bootFail_shape_aside _ _ _ _ _ s
@[simp] theorem markReload_aside (a0 : Fin 8) (a1 : Nat) (s : State) : aside (markReload a0 a1 s) = aside s :=
  by simp [markReload]
@[simp] theorem lookup_aside (a0 : Chan) (a1 : Nat) (s : State) : aside ((lookup a0 a1 s).2.2) = aside s := by
  unfold lookup
  simp [apply_ite aside, apply_ite Prod.snd]
@[simp] theorem setIndex_aside (a0 : List (Nat × RuleRow)) (a1 : List (Nat × RuleRow)) (s : State) : aside (setIndex a0
    a1 s) = aside s := by simp [setIndex]
@[simp] theorem switchIndex_aside (a0 : List (Nat × RuleRow)) (a1 : List (Nat × RuleRow)) (s : State) : aside
    (switchIndex a0 a1 s) = aside s := by simp [switchIndex]
@[simp] theorem journalRetire_aside (a0 : Nat) (a1 : Nat) (a2 : Nat) (a3 : Nat) (s : State) : aside (journalRetire a0
    a1 a2 a3 s) = aside s := by simp [journalRetire]
@[simp] theorem chargeWay_aside (a0 : Nat) (s : State) : aside (chargeWay a0 s) = aside s := by
  unfold chargeWay
  simp [apply_ite aside, apply_ite Prod.snd]
@[simp] theorem wayDouble_aside (a0 : Nat) (s : State) : aside (wayDouble a0 s) = aside s := by simp [wayDouble]
@[simp] theorem cacheUse_aside (a0 : Nat) (a1 : Nat) (a2 : Nat) (s : State) : aside ((cacheUse a0 a1 a2 s).2) = aside s
    := by
  unfold cacheUse
  simp only [apply_ite aside, apply_ite Prod.snd]
  (repeat' split) <;> simp [*]
@[simp] theorem putCtx_aside (a0 : Nat) (a1 : Ctx) (s : State) : aside (putCtx a0 a1 s) = aside s := by simp [putCtx]
@[simp] theorem dropCtx_aside (a0 : Nat) (s : State) : aside (dropCtx a0 s) = aside s := by simp [dropCtx]
@[simp] theorem dropCtxs_aside (a0 : Ctx → Bool) (s : State) : aside (dropCtxs a0 s) = aside s := by simp [dropCtxs]
@[simp] theorem touchCtx_aside (a0 : Nat) (a1 : Ctx) (s : State) : aside (touchCtx a0 a1 s) = aside s :=
  by simp [touchCtx]
@[simp] theorem openCtx_aside (a0 : Nat) (a1 : Ctx) (s : State) : aside (openCtx a0 a1 s) = aside s := by simp [openCtx]
@[simp] theorem chargeCtx_aside (a0 : Nat) (s : State) : aside (chargeCtx a0 s) = aside s := by
  unfold chargeCtx
  simp [apply_ite aside, apply_ite Prod.snd]
@[simp] theorem ctxDouble_aside (a0 : Nat) (a1 : Ctx) (a2 : Nat) (s : State) : aside (ctxDouble a0 a1 a2 s) = aside s
    := by
  unfold ctxDouble
  split <;> simp
@[simp] theorem readBeats_aside (a0 : Nat) (a1 : Nat) (a2 : Nat) (s : State) : aside ((readBeats a0 a1 a2 s).2) = aside
    s := by
  induction a2 generalizing a1 s with
  | zero => rfl
  | succ n ih => unfold readBeats; (repeat' (first | dsimp only | split)) <;> simp_all [apply_ite aside]
@[simp] theorem fixVirtual_aside (s : State) (a1 : Chan) : aside (fixVirtual s a1) = aside s := by simp [fixVirtual]
@[simp] theorem resetByHold_aside (a0 : Chan) (s : State) : aside (resetByHold a0 s) = aside s := by simp [resetByHold]
@[simp] theorem hostReset_aside (a0 : Chan) (s : State) : aside (hostReset a0 s) = aside s := by simp [hostReset]
@[simp] theorem setEff_aside (a0 : Chan) (a1 : ChState) (s : State) : aside (setEff a0 a1 s) = aside s := by
  unfold setEff
  simp [apply_ite aside, apply_ite Prod.snd]
@[simp] theorem settleDown_aside (a0 : Bool) (a1 : Chan) (s : State) : aside (settleDown a0 a1 s) = aside s := by
  unfold settleDown
  simp [apply_ite aside, apply_ite Prod.snd]
@[simp] theorem settleUp_aside (a0 : Chan) (s : State) : aside (settleUp a0 s) = aside s := by
  unfold settleUp
  simp [apply_ite aside, apply_ite Prod.snd]
@[simp] theorem settleWait_aside (a0 : Chan) (s : State) : aside (settleWait a0 s) = aside s := by
  unfold settleWait
  simp [apply_ite aside, apply_ite Prod.snd]
@[simp] theorem kickPreload_aside (a0 : Chan) (s : State) : aside (kickPreload a0 s) = aside s := by
  unfold kickPreload
  simp only [apply_ite aside, apply_ite Prod.snd]
  (repeat' split) <;> simp [*]
@[simp] theorem settleAll_aside (s : State) : aside (settleAll s) = aside s := by simp [settleAll]
@[simp] theorem unsaved_aside (s : State) : aside (unsaved s) = aside s := by simp [unsaved]
@[simp] theorem retireChannel_aside (a0 : Chan) (s : State) : aside (retireChannel a0 s) = aside s :=
  by simp [retireChannel]
@[simp] theorem setCause_aside (a0 : Chan) (a1 : Nat) (s : State) : aside (setCause a0 a1 s) = aside s :=
  by simp [setCause]
@[simp] theorem retirePipeline_aside (a0 : Chan) (a1 : Nat) (s : State) : aside (retirePipeline a0 a1 s) = aside s := by
  unfold retirePipeline
  simp [apply_ite aside, apply_ite Prod.snd]
@[simp] theorem fallowReturn_aside (s : State) : aside (fallowReturn s) = aside s := by simp [fallowReturn]
@[simp] theorem retirePort_aside (a0 : Chan) (a1 : Nat) (a2 : Nat) (a3 : Nat) (s : State) : aside (retirePort a0 a1 a2
    a3 s) = aside s := by
  unfold retirePort
  simp [apply_ite aside, apply_ite Prod.snd]
@[simp] theorem retireFallow_aside (a0 : Nat) (s : State) : aside (retireFallow a0 s) = aside s := by
  unfold retireFallow
  (repeat' (first | dsimp only | split)) <;> simp [apply_ite aside, apply_ite Prod.snd]
@[simp] theorem chargeFallow_aside (s : State) : aside (chargeFallow s) = aside s := by
  unfold chargeFallow
  simp [apply_ite aside, apply_ite Prod.snd]
@[simp] theorem chargePipe_aside (a0 : Chan) (s : State) : aside (chargePipe a0 s) = aside s := by
  unfold chargePipe
  simp [apply_ite aside, apply_ite Prod.snd]
@[simp] theorem chargeHostPort_aside (a0 : Chan) (s : State) : aside (chargeHostPort a0 s) = aside s := by
  unfold chargeHostPort
  simp [apply_ite aside, apply_ite Prod.snd]
@[simp] theorem chargeFlashPort_aside (a0 : Chan) (s : State) : aside (chargeFlashPort a0 s) = aside s := by
  unfold chargeFlashPort
  simp [apply_ite aside, apply_ite Prod.snd]
@[simp] theorem hostBallCheck_aside (a0 : Chan) (a1 : Option U8) (s : State) : aside (hostBallCheck a0 a1 s) = aside s
    := by
  unfold hostBallCheck
  (repeat' split) <;> simp [apply_ite aside, apply_ite Prod.snd]
@[simp] theorem flashBallCheck_aside (a0 : Chan) (a1 : Option U8) (s : State) : aside (flashBallCheck a0 a1 s) = aside
    s := by
  unfold flashBallCheck
  (repeat' split) <;> simp [apply_ite aside, apply_ite Prod.snd]
@[simp] theorem rpmbWrite_aside (a0 : Nat) (a1 : List Byte) (s : State) : aside (rpmbWrite a0 a1 s) = aside s :=
  by simp [rpmbWrite]
@[simp] theorem dropRegion_aside (a0 : Chan) (a1 : List Nat) (s : State) : aside (dropRegion a0 a1 s) = aside s :=
  by simp [dropRegion]
@[simp] theorem flipLanded_aside (a0 : Chan) (s : State) : aside (flipLanded a0 s) = aside s := by
  unfold flipLanded
  (repeat' split) <;> simp [apply_ite aside, apply_ite Prod.snd]
@[simp] theorem flipsLand_aside (a0 : List (Nat × List Nat)) (s : State) : aside (flipsLand a0 s) = aside s :=
  by simp [flipsLand]
@[simp] theorem volatileFlips_aside (a0 : List (Nat × List Nat)) (s : State) : aside (volatileFlips a0 s) = aside s :=
  by simp [volatileFlips]
@[simp] theorem kickStile_aside (s : State) : aside (kickStile s) = aside s := by
  unfold kickStile
  (repeat' split) <;> simp [apply_ite aside, apply_ite Prod.snd]
@[simp] theorem finish_aside (s : State) : aside (finish s) = aside s := by simp [finish]
@[simp] theorem recordFail_aside (a0 : Chan) (a1 : Nat) (a2 : Nat) (a3 : Nat) (a4 : Nat) (a5 : Nat) (s : State) : aside
    (recordFail a0 a1 a2 a3 a4 a5 s) = aside s := by simp [recordFail]
@[simp] theorem countEscalation_aside (s : State) : aside (countEscalation s) = aside s := by simp [countEscalation]
@[simp] theorem toHold_aside (a0 : Chan) (a1 : List Nat) (a2 : U8) (a3 : Nat) (s : State) : aside (toHold a0 a1 a2 a3
    s) = aside s := by simp [toHold]
@[simp] theorem dropRestoreOps_aside (a0 : Chan) (s : State) : aside (dropRestoreOps a0 s) = aside s :=
  by simp [dropRestoreOps]
@[simp] theorem toRestore_aside (a0 : Chan) (a1 : List Nat) (a2 : Bool) (a3 : Nat) (s : State) : aside (toRestore a0 a1
    a2 a3 s) = aside s := by
  unfold toRestore
  simp [apply_ite aside, apply_ite Prod.snd]
@[simp] theorem toFlip_aside (a0 : Chan) (a1 : RuleRow) (a2 : List Nat) (s : State) : aside (toFlip a0 a1 a2 s) = aside
    s := by
  unfold toFlip
  simp [apply_ite aside, apply_ite Prod.snd]
@[simp] theorem joinFail_aside (a0 : Chan) (a1 : Seq) (a2 : Nat) (a3 : List Nat) (a4 : Nat) (s : State) : aside
    (joinFail a0 a1 a2 a3 a4 s) = aside s := by
  unfold joinFail
  (repeat' split) <;> simp [apply_ite aside, apply_ite Prod.snd]
@[simp] theorem respond_aside (a0 : Chan) (a1 : Nat) (a2 : RuleRow) (a3 : Nat) (s : State) : aside (respond a0 a1 a2 a3
    s) = aside s := by
  unfold respond
  simp only [apply_ite aside, apply_ite Prod.snd]
  (repeat' split) <;> simp [*]
@[simp] theorem startRevert_aside (a0 : U8) (s : State) : aside (startRevert a0 s) = aside s := by
  unfold startRevert
  simp [apply_ite aside, apply_ite Prod.snd]
@[simp] theorem poison_aside (a0 : Nat) (s : State) : aside (poison a0 s) = aside s := by simp [poison]
@[simp] theorem lineFail_aside (a0 : Chan) (a1 : Cs) (a2 : Nat) (a3 : Nat) (a4 : Nat) (a5 : Nat) (s : State) : aside
    (lineFail a0 a1 a2 a3 a4 a5 s) = aside s := by
  unfold lineFail
  (repeat' split) <;> simp [apply_ite aside, apply_ite Prod.snd]

end Sys2Proof.Laws
end

