-- ==== Sys2Proof/Laws/AsideHost.lean ====
section
/-! SUPPORT. What leaves the state aside from channels, Hayloft and vault as it is: the host port, the OTP and the
    vault operations. -/
namespace Sys2Proof.Laws
open Sys2Proof.Machine
set_option linter.unusedVariables false
set_option linter.unusedSimpArgs false
set_option linter.unnecessarySeqFocus false
set_option linter.unreachableTactic false
set_option linter.unusedTactic false
set_option maxRecDepth 4000

@[simp] theorem abortRead_aside (a0 : Chan) (a1 : Nat) (s : State) : aside (abortRead a0 a1 s) = aside s := by
  unfold abortRead
  simp only [apply_ite aside, apply_ite Prod.snd]
  (repeat' split) <;> simp [*]
@[simp] theorem drive_aside (a0 : Chan) (a1 : List Byte) (s : State) : aside (drive a0 a1 s) = aside s := by simp [drive]
@[simp] theorem unsupported_aside (a0 : Chan) (a1 : Nat) (a2 : Nat) (s : State) : aside (unsupported a0 a1 a2 s) =
    aside s := by simp [unsupported]
@[simp] theorem twinRecord_aside (a0 : Chan) (a1 : Nat) (a2 : Nat) (a3 : Option Nat) (a4 : Option Nat) (s : State) :
    aside (twinRecord a0 a1 a2 a3 a4 s) = aside s := by simp [twinRecord]
@[simp] theorem combine_aside (a0 : Chan) (a1 : Nat) (a2 : Option TwinDiff) (a3 : Verdict) (s : State) : aside
    ((combine a0 a1 a2 a3 s).2) = aside s := by
  unfold combine
  (repeat' split) <;> simp [apply_ite aside, apply_ite Prod.snd]
@[simp] theorem csRise_aside (a0 : Chan) (s : State) : aside (csRise a0 s) = aside s := by simp [csRise]
@[simp] theorem shadowCheck_aside (a0 : Chan) (a1 : Bool) (s : State) : aside (shadowCheck a0 a1 s) = aside s := by
  unfold shadowCheck
  simp [apply_ite aside, apply_ite Prod.snd]
@[simp] theorem hostRun_aside (a0 : HostCmd) (a1 : Nat) (a2 : Nat) (a3 : Bool) (a4 : Bool) (a5 : Bool) (a6 : Bool) (a7
    : Bool → State → State) (s : State) (h8 : ∀ y0 y1, aside (((a7 y0 y1))) = aside ((y1))) : aside (hostRun a0 a1 a2 a3 a4 a5 a6 a7 s) = aside s := by
  unfold hostRun
  simp only [apply_ite aside, apply_ite Prod.snd]
  (repeat' split) <;> simp [*]
@[simp] theorem serveHayloft_aside (a0 : Nat) (a1 : Ctx) (a2 : Nat) (a3 : Nat) (s : State) : aside ((serveHayloft a0 a1
    a2 a3 s).2) = aside s := by
  unfold serveHayloft
  simp [apply_ite aside, apply_ite Prod.snd]
@[simp] theorem sealedMiss_aside (a0 : Chan) (a1 : Nat) (a2 : Nat) (a3 : Nat) (a4 : Nat) (a5 : ReadRun) (s : State) :
    aside (sealedMiss a0 a1 a2 a3 a4 a5 s) = aside s := by
  unfold sealedMiss
  simp [apply_ite aside, apply_ite Prod.snd]
@[simp] theorem physicalBytes_aside (a0 : HostCmd) (a1 : Bool) (a2 : ReadRun) (a3 : Verdict) (a4 : Nat) (a5 : Nat) (s :
    State) : aside ((physicalBytes a0 a1 a2 a3 a4 a5 s).2) = aside s := by
  unfold physicalBytes
  simp [apply_ite aside, apply_ite Prod.snd]
@[simp] theorem emitBytes_aside (a0 : ReadRun) (a1 : List Byte) (a2 : Nat) (s : State) : aside ((emitBytes a0 a1 a2
    s).2) = aside s := by
  unfold emitBytes
  simp [apply_ite aside, apply_ite Prod.snd]
@[simp] theorem hayloftPiece_aside (a0 : ReadRun) (a1 : Nat) (a2 : Ctx) (a3 : Nat) (a4 : Nat) (s : State) : aside
    ((hayloftPiece a0 a1 a2 a3 a4 s).2) = aside s := by
  unfold hayloftPiece
  (repeat' (first | dsimp only | split)) <;> (try simp only [drbgGenerate_some, storeRecord_ok, Prod.ext_iff] at *) <;> (try casesm* _ ∧ _) <;>
    subst_vars <;> simp [*, apply_ite aside, apply_ite Prod.snd]
@[simp] theorem sealedPiece_aside (a0 : HostCmd) (a1 : Nat) (a2 : ReadRun) (a3 : ReadRun) (a4 : Verdict) (a5 : Nat) (a6
    : Nat) (a7 : Nat) (s : State) : aside ((sealedPiece a0 a1 a2 a3 a4 a5 a6 a7 s).2) = aside s := by
  unfold sealedPiece
  (repeat' split) <;> simp [apply_ite aside, apply_ite Prod.snd]
@[simp] theorem takePiece_aside (a0 : HostCmd) (a1 : Bool) (a2 : ReadRun) (a3 : ReadRun) (a4 : Verdict) (a5 : Nat) (a6
    : Nat) (a7 : Nat) (a8 : Ctx) (s : State) : aside ((takePiece a0 a1 a2 a3 a4 a5 a6 a7 a8 s).2) = aside s := by
  unfold takePiece
  simp [apply_ite aside, apply_ite Prod.snd]
@[simp] theorem verifiedPiece_aside (a0 : HostCmd) (a1 : Bool) (a2 : ReadRun) (a3 : ReadRun) (a4 : Verdict) (a5 : Nat)
    (a6 : Nat) (a7 : Nat) (s : State) : aside ((verifiedPiece a0 a1 a2 a3 a4 a5 a6 a7 s).2) = aside s := by
  unfold verifiedPiece
  simp only [apply_ite aside, apply_ite Prod.snd]
  (repeat' split) <;> simp [*]
@[simp] theorem readPiece_aside (a0 : HostCmd) (a1 : Nat) (a2 : Bool) (a3 : Nat × Nat × Nat) (a4 : ReadRun × State) :
    aside ((readPiece a0 a1 a2 a3 a4).2) = aside (a4.2) := by
  unfold readPiece
  simp [apply_ite aside, apply_ite Prod.snd]
@[simp] theorem readBody_aside (a0 : HostCmd) (a1 : Nat) (a2 : Nat) (a3 : Nat) (a4 : Bool) (s : State) : aside
    (readBody a0 a1 a2 a3 a4 s) = aside s := by
  unfold readBody
  simp [apply_ite aside, apply_ite Prod.snd]
@[simp] theorem hostRead_aside (a0 : HostCmd) (a1 : Nat) (a2 : U32) (a3 : Nat) (a4 : Bool) (a5 : Bool) (a6 : Bool) (s :
    State) : aside ((after (hostRead a0 a1 a2 a3 a4 a5 a6 s) s)) = aside s := by simp [hostRead]
@[simp] theorem execFastRead_aside (a0 : HostCmd) (a1 : U32) (a2 : Nat) (s : State) : aside ((after (execFastRead a0 a1
    a2 s) s)) = aside s := by simp [execFastRead]
@[simp] theorem execFastRead4B_aside (a0 : HostCmd) (a1 : U32) (a2 : Nat) (s : State) : aside ((after (execFastRead4B
    a0 a1 a2 s) s)) = aside s := by simp [execFastRead4B]
@[simp] theorem execQuadOutputRead_aside (a0 : HostCmd) (a1 : U32) (a2 : Nat) (s : State) : aside ((after
    (execQuadOutputRead a0 a1 a2 s) s)) = aside s := by simp [execQuadOutputRead]
@[simp] theorem execQuadOutputRead4B_aside (a0 : HostCmd) (a1 : U32) (a2 : Nat) (s : State) : aside ((after
    (execQuadOutputRead4B a0 a1 a2 s) s)) = aside s := by simp [execQuadOutputRead4B]
@[simp] theorem execQuadIoRead_aside (a0 : HostCmd) (a1 : U32) (a2 : Nat) (s : State) : aside ((after (execQuadIoRead
    a0 a1 a2 s) s)) = aside s := by simp [execQuadIoRead]
@[simp] theorem execQuadIoRead4B_aside (a0 : HostCmd) (a1 : U32) (a2 : Nat) (s : State) : aside ((after
    (execQuadIoRead4B a0 a1 a2 s) s)) = aside s := by simp [execQuadIoRead4B]
@[simp] theorem execOctalDtrRead_aside (a0 : HostCmd) (a1 : U32) (a2 : Nat) (s : State) : aside ((after
    (execOctalDtrRead a0 a1 a2 s) s)) = aside s := by simp [execOctalDtrRead]
@[simp] theorem userWrite_aside (a0 : Nat) (a1 : List Byte) (s : State) : aside (userWrite a0 a1 s) = aside s :=
  by simp [userWrite]
@[simp] theorem recReject_aside (a0 : Nat) (a1 : U8) (s : State) : aside (recReject a0 a1 s) = aside s :=
  by simp [recReject]
@[simp] theorem selectImage_aside (a0 : Nat) (s : State) : aside ((selectImage a0 s).2.2) = aside s := by
  unfold selectImage
  split
  · rfl
  · refine (foldl_aside3 _ (fun t x => ?_) _ _).trans rfl
    (repeat' split) <;> simp
@[simp] theorem putRecord_aside (a0 : Nat) (a1 : List Byte) (a2 : List Byte) (a3 : Bool) (a4 : Nat) (s : State) : aside
    (putRecord a0 a1 a2 a3 a4 s) = aside s := by simp [putRecord]
@[simp] theorem putCounters_aside (a0 : Nat) (a1 : List Nat) (s : State) : aside (putCounters a0 a1 s) = aside s :=
  by simp [putCounters]
@[simp] theorem rpmbAttach_aside (s : State) : aside (rpmbAttach s) = aside s := by
  unfold rpmbAttach
  (repeat' split) <;> simp [apply_ite aside, apply_ite Prod.snd]
@[simp] theorem scanInto_aside (a0 : Nat) (s : State) : aside (scanInto a0 s) = aside s := by simp [scanInto]
@[simp] theorem setNextSeq_aside (s : State) : aside (setNextSeq s) = aside s := by simp [setNextSeq]
@[simp] theorem countStages_aside (s : State) : aside (countStages s) = aside s := by simp [countStages]
@[simp] theorem putScratch_aside (a0 : Chan) (a1 : EraseBlock) (a2 : List Nat) (a3 : List Byte) (s : State) : aside
    (putScratch a0 a1 a2 a3 s) = aside s := by
  unfold putScratch
  split <;> simp
@[simp] theorem clearScratch_aside (a0 : Chan) (s : State) : aside (clearScratch a0 s) = aside s := by
  unfold clearScratch
  split <;> simp
@[simp] theorem sealFor_aside (a0 : U32) (a1 : List Byte) (s : State) : aside ((sealFor a0 a1 s).2) = aside s := by
  unfold sealFor
  split <;> simp
@[simp] theorem dropCovered_aside (a0 : Chan) (a1 : Cs) (a2 : PhysOp) (s : State) : aside (dropCovered a0 a1 a2 s) =
    aside s := by simp [dropCovered]
@[simp] theorem issueStore_aside (a0 : Chan) (s : State) : aside (issueStore a0 s) = aside s := by
  unfold issueStore
  (repeat' split) <;> simp [apply_ite aside, apply_ite Prod.snd]
@[simp] theorem denyHost_aside (a0 : Chan) (a1 : Nat) (s : State) : aside (denyHost a0 a1 s) = aside s :=
  by simp [denyHost]
@[simp] theorem judgeLine_aside (a0 : HostCmd) (a1 : Nat) (a2 : Nat) (a3 : WriteRun × State) : aside ((judgeLine a0 a1
    a2 a3).2) = aside (a3.2) := by
  unfold judgeLine
  simp [apply_ite aside, apply_ite Prod.snd]
@[simp] theorem stageHost_aside (a0 : Chan) (a1 : StageOp) (s : State) : aside (stageHost a0 a1 s) = aside s := by
  unfold stageHost
  simp [apply_ite aside, apply_ite Prod.snd]
@[simp] theorem applyVerdict_aside (a0 : HostCmd) (a1 : Nat) (a2 : WriteRun) (a3 : Nat → PhysOp) (a4 : StageOp) (s :
    State) : aside (applyVerdict a0 a1 a2 a3 a4 s) = aside s := by
  unfold applyVerdict
  simp [apply_ite aside, apply_ite Prod.snd]
@[simp] theorem clearWel_aside (a0 : Chan) (s : State) : aside (clearWel a0 s) = aside s := by simp [clearWel]
@[simp] theorem programBody_aside (a0 : HostCmd) (a1 : Nat) (a2 : Nat) (a3 : List Byte) (a4 : Bool) (s : State) : aside
    (programBody a0 a1 a2 a3 a4 s) = aside s := by
  unfold programBody
  simp [apply_ite aside, apply_ite Prod.snd]
@[simp] theorem eraseBody_aside (a0 : HostCmd) (a1 : Nat) (a2 : Nat) (a3 : Nat) (a4 : Bool) (s : State) : aside
    (eraseBody a0 a1 a2 a3 a4 s) = aside s := by
  unfold eraseBody
  simp [apply_ite aside, apply_ite Prod.snd]
@[simp] theorem hostProgram_aside (a0 : HostCmd) (a1 : Nat) (a2 : U32) (a3 : List Byte) (a4 : Bool) (a5 : Bool) (a6 :
    Bool) (s : State) : aside ((after (hostProgram a0 a1 a2 a3 a4 a5 a6 s) s)) = aside s := by simp [hostProgram]
@[simp] theorem hostErase_aside (a0 : HostCmd) (a1 : Nat) (a2 : U32) (a3 : Nat) (a4 : Bool) (s : State) : aside ((after
    (hostErase a0 a1 a2 a3 a4 s) s)) = aside s := by simp [hostErase]
@[simp] theorem execPageProgram_aside (a0 : HostCmd) (a1 : U32) (a2 : List Byte) (s : State) : aside ((after
    (execPageProgram a0 a1 a2 s) s)) = aside s := by simp [execPageProgram]
@[simp] theorem execPageProgram4B_aside (a0 : HostCmd) (a1 : U32) (a2 : List Byte) (s : State) : aside ((after
    (execPageProgram4B a0 a1 a2 s) s)) = aside s := by simp [execPageProgram4B]
@[simp] theorem execQuadInputPageProgram_aside (a0 : HostCmd) (a1 : U32) (a2 : List Byte) (s : State) : aside ((after
    (execQuadInputPageProgram a0 a1 a2 s) s)) = aside s := by simp [execQuadInputPageProgram]
@[simp] theorem execQuadInputPageProgram4B_aside (a0 : HostCmd) (a1 : U32) (a2 : List Byte) (s : State) : aside ((after
    (execQuadInputPageProgram4B a0 a1 a2 s) s)) = aside s := by simp [execQuadInputPageProgram4B]
@[simp] theorem execErase4K_aside (a0 : HostCmd) (a1 : U32) (s : State) : aside ((after (execErase4K a0 a1 s) s)) =
    aside s := by simp [execErase4K]
@[simp] theorem execErase4K4B_aside (a0 : HostCmd) (a1 : U32) (s : State) : aside ((after (execErase4K4B a0 a1 s) s)) =
    aside s := by simp [execErase4K4B]
@[simp] theorem execErase32K_aside (a0 : HostCmd) (a1 : U32) (s : State) : aside ((after (execErase32K a0 a1 s) s)) =
    aside s := by simp [execErase32K]
@[simp] theorem execErase32K4B_aside (a0 : HostCmd) (a1 : U32) (s : State) : aside ((after (execErase32K4B a0 a1 s) s))
    = aside s := by simp [execErase32K4B]
@[simp] theorem execErase64K_aside (a0 : HostCmd) (a1 : U32) (s : State) : aside ((after (execErase64K a0 a1 s) s)) =
    aside s := by simp [execErase64K]
@[simp] theorem execErase64K4B_aside (a0 : HostCmd) (a1 : U32) (s : State) : aside ((after (execErase64K4B a0 a1 s) s))
    = aside s := by simp [execErase64K4B]
@[simp] theorem execChipErase_aside (a0 : HostCmd) (a1 : Bool) (s : State) : aside ((after (execChipErase a0 a1 s) s))
    = aside s := by
  unfold execChipErase
  simp [apply_ite aside, apply_ite Prod.snd]
@[simp] theorem hostVirtual_aside (a0 : HostCmd) (a1 : Nat) (a2 : Nat) (a3 : Bool) (a4 : Bool) (a5 : Bool) (a6 : Bool →
    State → State) (s : State) (h7 : ∀ y0 y1, aside (((a6 y0 y1))) = aside ((y1))) : aside ((after (hostVirtual a0 a1 a2 a3 a4 a5 a6 s) s)) = aside s := by
  unfold hostVirtual
  (repeat' (first | dsimp only | split)) <;> (try simp only [drbgGenerate_some, storeRecord_ok, Prod.ext_iff] at *) <;> (try casesm* _ ∧ _) <;>
    subst_vars <;> simp [*, apply_ite aside, apply_ite Prod.snd]
@[simp] theorem startGap_aside (a0 : Chan) (s : State) : aside (startGap a0 s) = aside s := by simp [startGap]
@[simp] theorem changeMode_aside (a0 : Chan) (a1 : BusMode) (a2 : Nat) (a3 : Nat) (s : State) : aside (changeMode a0 a1
    a2 a3 s) = aside s := by
  unfold changeMode
  simp [apply_ite aside, apply_ite Prod.snd]
@[simp] theorem execWriteEnable_aside (a0 : HostCmd) (s : State) : aside ((after (execWriteEnable a0 s) s)) = aside s :=
  by simp [execWriteEnable]
@[simp] theorem execWriteDisable_aside (a0 : HostCmd) (s : State) : aside ((after (execWriteDisable a0 s) s)) = aside s
    := by simp [execWriteDisable]
@[simp] theorem execReadStatus_aside (a0 : HostCmd) (a1 : Nat) (s : State) : aside ((after (execReadStatus a0 a1 s) s))
    = aside s := by simp [execReadStatus]
@[simp] theorem execWriteStatus_aside (a0 : HostCmd) (s : State) : aside ((after (execWriteStatus a0 s) s)) = aside s :=
  by simp [execWriteStatus]
@[simp] theorem execClearFlags_aside (a0 : HostCmd) (s : State) : aside ((after (execClearFlags a0 s) s)) = aside s :=
  by simp [execClearFlags]
@[simp] theorem execReadId_aside (a0 : HostCmd) (a1 : Nat) (s : State) : aside ((after (execReadId a0 a1 s) s)) = aside
    s := by simp [execReadId]
@[simp] theorem execReadSfdp_aside (a0 : HostCmd) (a1 : U32) (a2 : Nat) (s : State) : aside ((after (execReadSfdp a0 a1
    a2 s) s)) = aside s := by simp [execReadSfdp]
@[simp] theorem execWriteVolatileConfiguration_aside (a0 : HostCmd) (a1 : U32) (a2 : Byte) (s : State) : aside ((after
    (execWriteVolatileConfiguration a0 a1 a2 s) s)) = aside s := by
  unfold execWriteVolatileConfiguration
  simp [apply_ite aside, apply_ite Prod.snd]
@[simp] theorem execEnterQpi_aside (a0 : HostCmd) (s : State) : aside ((after (execEnterQpi a0 s) s)) = aside s :=
  by simp [execEnterQpi]
@[simp] theorem execExitQpi_aside (a0 : HostCmd) (s : State) : aside ((after (execExitQpi a0 s) s)) = aside s :=
  by simp [execExitQpi]
@[simp] theorem execResetEnable_aside (a0 : HostCmd) (s : State) : aside ((after (execResetEnable a0 s) s)) = aside s :=
  by simp [execResetEnable]
@[simp] theorem execReset_aside (a0 : HostCmd) (s : State) : aside ((after (execReset a0 s) s)) = aside s := by
  unfold execReset
  simp [apply_ite aside, apply_ite Prod.snd]
@[simp] theorem execEnter4ByteMode_aside (a0 : HostCmd) (s : State) : aside ((after (execEnter4ByteMode a0 s) s)) =
    aside s := by simp [execEnter4ByteMode]
@[simp] theorem execExit4ByteMode_aside (a0 : HostCmd) (s : State) : aside ((after (execExit4ByteMode a0 s) s)) = aside
    s := by simp [execExit4ByteMode]
@[simp] theorem execPowerDown_aside (a0 : HostCmd) (s : State) : aside ((after (execPowerDown a0 s) s)) = aside s :=
  by simp [execPowerDown]
@[simp] theorem execReleasePowerDown_aside (a0 : HostCmd) (s : State) : aside ((after (execReleasePowerDown a0 s) s)) =
    aside s := by simp [execReleasePowerDown]
@[simp] theorem execUnsupportedCommand_aside (a0 : HostCmd) (a1 : Byte) (a2 : U32) (s : State) : aside ((after
    (execUnsupportedCommand a0 a1 a2 s) s)) = aside s := by simp [execUnsupportedCommand]

end Sys2Proof.Laws
end

