-- ==== Sys2Proof/Laws/AsideFlash.lean ====
section
/-! SUPPORT. What leaves the state aside from channels, Hayloft and vault as it is: restores, the flash port and
    dictionary requests. -/
namespace Sys2Proof.Laws
open Sys2Proof.Machine
set_option linter.unusedVariables false
set_option linter.unusedSimpArgs false
set_option linter.unnecessarySeqFocus false
set_option linter.unreachableTactic false
set_option linter.unusedTactic false
set_option maxRecDepth 4000

@[simp] theorem setSeq_aside (a0 : Chan) (a1 : Seq → Seq) (s : State) : aside (setSeq a0 a1 s) = aside s :=
  by simp [setSeq]
@[simp] theorem restoreDone_aside (a0 : Chan) (a1 : Seq) (s : State) : aside (restoreDone a0 a1 s) = aside s := by
  unfold restoreDone
  simp [apply_ite aside, apply_ite Prod.snd]
@[simp] theorem nextBlock_aside (a0 : Chan) (s : State) : aside (nextBlock a0 s) = aside s := by
  unfold nextBlock
  (repeat' split) <;> simp [apply_ite aside, apply_ite Prod.snd]
@[simp] theorem blockDone_aside (a0 : Chan) (s : State) : aside (blockDone a0 s) = aside s := by
  unfold blockDone
  (repeat' split) <;> simp [apply_ite aside, apply_ite Prod.snd]
@[simp] theorem kickSeq_aside (a0 : Chan) (s : State) : aside (kickSeq a0 s) = aside s := by
  unfold kickSeq
  simp only [apply_ite aside, apply_ite Prod.snd]
  (repeat' split) <;> simp [*]
@[simp] theorem seqOpDone_aside (a0 : Chan) (a1 : PhysOp) (s : State) : aside (seqOpDone a0 a1 s) = aside s := by
  unfold seqOpDone
  (repeat' split) <;> simp [apply_ite aside, apply_ite Prod.snd]
@[simp] theorem restoreSelect_aside (a0 : Chan) (s : State) : aside (restoreSelect a0 s) = aside s := by
  unfold restoreSelect
  split
  · rfl
  · split
    · rfl
    · split
      rename_i h
      have h3 := congrArg (fun x => aside x.2.2) h
      dsimp only at h3
      rw [foldl_aside3] at h3
      · dsimp only at h3
        split
        · split <;> simp [h3]
        · simp [h3]
      · intro t x
        split
        · rfl
        · have := selectImage_aside x t.2.2
          split <;> simp_all
@[simp] theorem permFlash_aside (a0 : Chan) (s : State) : aside (permFlash a0 s) = aside s := by
  unfold permFlash
  simp only [apply_ite aside, apply_ite Prod.snd]
  (repeat' split) <;> simp [*]
@[simp] theorem startRead_aside (a0 : Chan) (a1 : DevRead) (s : State) : aside (startRead a0 a1 s) = aside s :=
  by simp [startRead]
@[simp] theorem kickField_aside (a0 : Port) (s : State) : aside (kickField a0 s) = aside s := by
  unfold kickField
  (repeat' split) <;> simp [apply_ite aside, apply_ite Prod.snd]
@[simp] theorem kickAll_aside (s : State) : aside (kickAll s) = aside s := by simp [kickAll]
@[simp] theorem finishAll_aside (s : State) : aside (finishAll s) = aside s := by simp [finishAll]

end Sys2Proof.Laws
end

