-- ==== Sys2Proof/Laws/CellsOps.lean ====
section
/-! SUPPORT. What leaves the bytes of the physical flashes as it is: the named operations, the Hedgerow, the Hayloft
    and the channels. -/
namespace Sys2Proof.Laws
open Sys2Proof.Machine
set_option linter.unusedVariables false
set_option linter.unusedSimpArgs false
set_option linter.unnecessarySeqFocus false
set_option linter.unreachableTactic false
set_option linter.unusedTactic false
set_option maxRecDepth 4000

@[simp] theorem modVf_cellsOf (a0 : Chan) (a1 : VFlash → VFlash) (s : State) : cellsOf (modVf a0 a1 s) = cellsOf s :=
  by simp [modVf]
@[simp] theorem modCounts_cellsOf (a0 : Chan) (a1 : ChCounts → ChCounts) (s : State) : cellsOf (modCounts a0 a1 s) =
    cellsOf s := by simp [modCounts]
@[simp] theorem allChans_cellsOf (a0 : Chan → State → State) (s : State) (h1 : ∀ y0 y1, cellsOf (((a0 y0 y1))) =
    cellsOf ((y1))) : cellsOf (allChans a0 s) = cellsOf s := by
  unfold allChans; simp [h1]
@[simp] theorem modPort_cellsOf (a0 : Port) (a1 : PortRegs → PortRegs) (s : State) : cellsOf (modPort a0 a1 s) =
    cellsOf s := by simp [modPort]
@[simp] theorem modMport_cellsOf (a0 : MPort) (a1 : MgmtPort → MgmtPort) (s : State) : cellsOf (modMport a0 a1 s) =
    cellsOf s := by simp [modMport]
@[simp] theorem modBank_cellsOf (a0 : Fin 8) (a1 : Bank → Bank) (s : State) : cellsOf (modBank a0 a1 s) = cellsOf s :=
  by simp [modBank]
@[simp] theorem modCx_cellsOf (a0 : Fin 4) (a1 : CxJob → CxJob) (s : State) : cellsOf (modCx a0 a1 s) = cellsOf s :=
  by simp [modCx]
@[simp] theorem modTimer_cellsOf (a0 : Fin 8) (a1 : TimerUnit → TimerUnit) (s : State) : cellsOf (modTimer a0 a1 s) =
    cellsOf s := by simp [modTimer]
@[simp] theorem modCu_cellsOf (a0 : Fin 8) (a1 : CheckUnit → CheckUnit) (s : State) : cellsOf (modCu a0 a1 s) = cellsOf
    s := by simp [modCu]
@[simp] theorem modTimeout_cellsOf (a0 : Fin 14) (a1 : Timeout → Timeout) (s : State) : cellsOf (modTimeout a0 a1 s) =
    cellsOf s := by simp [modTimeout]
@[simp] theorem modHay_cellsOf (a0 : Hayloft → Hayloft) (s : State) : cellsOf (modHay a0 s) = cellsOf s :=
  by simp [modHay]
@[simp] theorem modHr_cellsOf (a0 : Hedgerow → Hedgerow) (s : State) : cellsOf (modHr a0 s) = cellsOf s := by simp [modHr]
@[simp] theorem modVault_cellsOf (a0 : Vault → Vault) (s : State) : cellsOf (modVault a0 s) = cellsOf s :=
  by simp [modVault]
@[simp] theorem modUpd_cellsOf (a0 : Update → Update) (s : State) : cellsOf (modUpd a0 s) = cellsOf s := by simp [modUpd]
@[simp] theorem modKeys_cellsOf (a0 : KeyStore → KeyStore) (s : State) : cellsOf (modKeys a0 s) = cellsOf s :=
  by simp [modKeys]
@[simp] theorem modPke_cellsOf (a0 : Pke → Pke) (s : State) : cellsOf (modPke a0 s) = cellsOf s := by simp [modPke]
@[simp] theorem modRandom_cellsOf (a0 : Random → Random) (s : State) : cellsOf (modRandom a0 s) = cellsOf s :=
  by simp [modRandom]
@[simp] theorem modHeath_cellsOf (a0 : Heath → Heath) (s : State) : cellsOf (modHeath a0 s) = cellsOf s :=
  by simp [modHeath]
@[simp] theorem modWd_cellsOf (a0 : Watchdog → Watchdog) (s : State) : cellsOf (modWd a0 s) = cellsOf s := by simp [modWd]
@[simp] theorem modLc_cellsOf (a0 : LifeCycle → LifeCycle) (s : State) : cellsOf (modLc a0 s) = cellsOf s :=
  by simp [modLc]
@[simp] theorem modTap_cellsOf (a0 : TestPort → TestPort) (s : State) : cellsOf (modTap a0 s) = cellsOf s :=
  by simp [modTap]
@[simp] theorem modSpdm_cellsOf (a0 : Spdm → Spdm) (s : State) : cellsOf (modSpdm a0 s) = cellsOf s := by simp [modSpdm]
@[simp] theorem markBlocks_cellsOf (a0 : List Nat) (s : State) : cellsOf (markBlocks a0 s) = cellsOf s :=
  by simp [markBlocks]
@[simp] theorem setVector_cellsOf (a0 : BitVec 256) (s : State) : cellsOf (setVector a0 s) = cellsOf s := by
  unfold setVector
  simp [apply_ite cellsOf, apply_ite Prod.snd]
@[simp] theorem modFallow_cellsOf (a0 : Fallow → Fallow) (s : State) : cellsOf (modFallow a0 s) = cellsOf s :=
  by simp [modFallow]
@[simp] theorem tick_cellsOf (s : State) : cellsOf (tick s) = cellsOf s := by
  unfold tick
  simp [apply_ite cellsOf, apply_ite Prod.snd]
@[simp] theorem draw_cellsOf (a0 : Nat) (s : State) : cellsOf ((draw a0 s).2) = cellsOf s := by simp [draw]
@[simp] theorem drawBytes_cellsOf (a0 : Nat) (s : State) : cellsOf ((drawBytes a0 s).2) = cellsOf s := by
  induction a0 generalizing s with
  | zero => rfl
  | succ n ih => unfold drawBytes; (repeat' (first | dsimp only | split)) <;> simp_all [apply_ite cellsOf]
@[simp] theorem answer_cellsOf (a0 : Port) (a1 : U8) (a2 : List Byte) (s : State) : cellsOf (answer a0 a1 a2 s) =
    cellsOf s := by simp [answer]
@[simp] theorem reply_cellsOf (a0 : Port) (a1 : U8) (s : State) : cellsOf (reply a0 a1 s) = cellsOf s := by simp [reply]
@[simp] theorem cfgPut_cellsOf (a0 : Nat) (a1 : Nat) (a2 : List Byte) (s : State) : cellsOf (cfgPut a0 a1 a2 s) =
    cellsOf s := by
  unfold cfgPut
  simp [apply_ite cellsOf, apply_ite Prod.snd]
@[simp] theorem timeoutExpired_cellsOf (a0 : Fin 14) (s : State) : cellsOf (timeoutExpired a0 s) = cellsOf s :=
  by simp [timeoutExpired]
@[simp] theorem timeoutArrived_cellsOf (a0 : Fin 14) (s : State) : cellsOf (timeoutArrived a0 s) = cellsOf s :=
  by simp [timeoutArrived]
@[simp] theorem cleanWords_cellsOf (a0 : Fin 8) (a1 : Nat) (a2 : Nat) (s : State) : cellsOf (cleanWords a0 a1 a2 s) =
    cellsOf s := by simp [cleanWords]
@[simp] theorem countSec_cellsOf (a0 : Fin 8) (s : State) : cellsOf (countSec a0 s) = cellsOf s := by simp [countSec]
@[simp] theorem countDed_cellsOf (a0 : Fin 8) (s : State) : cellsOf (countDed a0 s) = cellsOf s := by simp [countDed]
@[simp] theorem readWord_cellsOf (a0 : Fin 8) (a1 : Nat) (s : State) : cellsOf ((readWord a0 a1 s).2) = cellsOf s := by
  unfold readWord
  simp only [apply_ite cellsOf, apply_ite Prod.snd]
  (repeat' split) <;> simp [*]
@[simp] theorem readWords_cellsOf (a0 : Fin 8) (a1 : Nat) (a2 : Nat) (s : State) : cellsOf ((readWords a0 a1 a2 s).2) =
    cellsOf s := by
  induction a2 generalizing a1 s with
  | zero => first | rfl | (simp [readWords]; done) | (unfold readWords; simp)
  | succ n ih => first | (simp [readWords, ih, apply_ite cellsOf]; done) | (unfold readWords; (repeat' (first | dsimp only | split)) <;> simp_all)
@[simp] theorem strike_cellsOf (a0 : List Upset) (s : State) : cellsOf (strike a0 s) = cellsOf s := by simp [strike]
@[simp] theorem journalCommit_cellsOf (a0 : JEntry) (s : State) : cellsOf (journalCommit a0 s) = cellsOf s := by
  unfold journalCommit
  simp [apply_ite cellsOf, apply_ite Prod.snd]
@[simp] theorem journalStage_cellsOf (a0 : JEntry) (s : State) : cellsOf (journalStage a0 s) = cellsOf s := by
  unfold journalStage
  simp [apply_ite cellsOf, apply_ite Prod.snd]
@[simp] theorem journal_cellsOf (a0 : Nat) (a1 : Nat) (a2 : Bool) (a3 : List Byte) (s : State) : cellsOf (journal a0 a1
    a2 a3 s) = cellsOf s := by
  unfold journal
  simp [apply_ite cellsOf, apply_ite Prod.snd]
@[simp] theorem notice_cellsOf (a0 : Nat) (a1 : Bool) (a2 : Nat) (a3 : Nat) (a4 : Nat) (a5 : Nat) (s : State) : cellsOf
    (notice a0 a1 a2 a3 a4 a5 s) = cellsOf s := by simp [notice]
@[simp] theorem journalDrain_cellsOf (s : State) : cellsOf (journalDrain s) = cellsOf s := by simp [journalDrain]
@[simp] theorem stepDone_cellsOf (a0 : Nat) (s : State) : cellsOf (stepDone a0 s) = cellsOf s := by
  unfold stepDone
  simp [apply_ite cellsOf, apply_ite Prod.snd]
theorem bootFail_shape_cellsOf (v : U40) (c d : Prop) [Decidable c] [Decidable d] (src : Nat) (bs : List Byte) (s :
    State) :
    cellsOf (let s' := if c then { s with bootResult := v } else s
      if d then s' else journal src 0x0003 true bs s') = cellsOf s := by
  simp only [apply_ite cellsOf, journal_cellsOf, cellsOf_upd, ite_self]
@[simp] theorem bootFail_cellsOf (a0 : Nat) (a1 : U8) (a2 : Nat) (s : State) : cellsOf (bootFail a0 a1 a2 s) = cellsOf
    s := by
  exact bootFail_shape_cellsOf _ _ _ _ _ s
@[simp] theorem markReload_cellsOf (a0 : Fin 8) (a1 : Nat) (s : State) : cellsOf (markReload a0 a1 s) = cellsOf s :=
  by simp [markReload]
@[simp] theorem lookup_cellsOf (a0 : Chan) (a1 : Nat) (s : State) : cellsOf ((lookup a0 a1 s).2.2) = cellsOf s := by
  unfold lookup
  simp [apply_ite cellsOf, apply_ite Prod.snd]
@[simp] theorem setIndex_cellsOf (a0 : List (Nat × RuleRow)) (a1 : List (Nat × RuleRow)) (s : State) : cellsOf
    (setIndex a0 a1 s) = cellsOf s := by simp [setIndex]
@[simp] theorem switchIndex_cellsOf (a0 : List (Nat × RuleRow)) (a1 : List (Nat × RuleRow)) (s : State) : cellsOf
    (switchIndex a0 a1 s) = cellsOf s := by simp [switchIndex]
@[simp] theorem journalRetire_cellsOf (a0 : Nat) (a1 : Nat) (a2 : Nat) (a3 : Nat) (s : State) : cellsOf (journalRetire
    a0 a1 a2 a3 s) = cellsOf s := by simp [journalRetire]
@[simp] theorem chargeWay_cellsOf (a0 : Nat) (s : State) : cellsOf (chargeWay a0 s) = cellsOf s := by
  unfold chargeWay
  simp [apply_ite cellsOf, apply_ite Prod.snd]
@[simp] theorem wayDouble_cellsOf (a0 : Nat) (s : State) : cellsOf (wayDouble a0 s) = cellsOf s := by simp [wayDouble]
@[simp] theorem cacheUse_cellsOf (a0 : Nat) (a1 : Nat) (a2 : Nat) (s : State) : cellsOf ((cacheUse a0 a1 a2 s).2) =
    cellsOf s := by
  unfold cacheUse
  simp only [apply_ite cellsOf, apply_ite Prod.snd]
  (repeat' split) <;> simp [*]
@[simp] theorem putCtx_cellsOf (a0 : Nat) (a1 : Ctx) (s : State) : cellsOf (putCtx a0 a1 s) = cellsOf s :=
  by simp [putCtx]
@[simp] theorem dropCtx_cellsOf (a0 : Nat) (s : State) : cellsOf (dropCtx a0 s) = cellsOf s := by simp [dropCtx]
@[simp] theorem dropCtxs_cellsOf (a0 : Ctx → Bool) (s : State) : cellsOf (dropCtxs a0 s) = cellsOf s := by simp [dropCtxs]
@[simp] theorem touchCtx_cellsOf (a0 : Nat) (a1 : Ctx) (s : State) : cellsOf (touchCtx a0 a1 s) = cellsOf s :=
  by simp [touchCtx]
@[simp] theorem openCtx_cellsOf (a0 : Nat) (a1 : Ctx) (s : State) : cellsOf (openCtx a0 a1 s) = cellsOf s :=
  by simp [openCtx]
@[simp] theorem chargeCtx_cellsOf (a0 : Nat) (s : State) : cellsOf (chargeCtx a0 s) = cellsOf s := by
  unfold chargeCtx
  simp [apply_ite cellsOf, apply_ite Prod.snd]
@[simp] theorem ctxDouble_cellsOf (a0 : Nat) (a1 : Ctx) (a2 : Nat) (s : State) : cellsOf (ctxDouble a0 a1 a2 s) =
    cellsOf s := by
  unfold ctxDouble
  split <;> simp
@[simp] theorem readBeats_cellsOf (a0 : Nat) (a1 : Nat) (a2 : Nat) (s : State) : cellsOf ((readBeats a0 a1 a2 s).2) =
    cellsOf s := by
  induction a2 generalizing a1 s with
  | zero => rfl
  | succ n ih => unfold readBeats; (repeat' (first | dsimp only | split)) <;> simp_all [apply_ite cellsOf]
@[simp] theorem fixVirtual_cellsOf (s : State) (a1 : Chan) : cellsOf (fixVirtual s a1) = cellsOf s := by simp [fixVirtual]
@[simp] theorem resetByHold_cellsOf (a0 : Chan) (s : State) : cellsOf (resetByHold a0 s) = cellsOf s := by
  unfold resetByHold
  apply modChan_cellsOf <;> intro x <;> simp [flashesToSpi] <;> split <;> rfl
@[simp] theorem hostReset_cellsOf (a0 : Chan) (s : State) : cellsOf (hostReset a0 s) = cellsOf s := by simp [hostReset]
@[simp] theorem stopReads_cells0 (new : ChState) (ch : Channel) : (stopReads new ch).flash0.cells = ch.flash0.cells := by
  unfold stopReads
  repeat' split
  all_goals rfl
@[simp] theorem stopReads_cells1 (new : ChState) (ch : Channel) : (stopReads new ch).flash1.cells = ch.flash1.cells := by
  unfold stopReads
  repeat' split
  all_goals rfl
@[simp] theorem setEff_cellsOf (a0 : Chan) (a1 : ChState) (s : State) : cellsOf (setEff a0 a1 s) = cellsOf s := by
  unfold setEff
  dsimp only
  split
  · rfl
  · simp [apply_ite cellsOf]
@[simp] theorem settleDown_cellsOf (a0 : Bool) (a1 : Chan) (s : State) : cellsOf (settleDown a0 a1 s) = cellsOf s := by
  unfold settleDown
  simp [apply_ite cellsOf, apply_ite Prod.snd]
@[simp] theorem settleUp_cellsOf (a0 : Chan) (s : State) : cellsOf (settleUp a0 s) = cellsOf s := by
  unfold settleUp
  simp [apply_ite cellsOf, apply_ite Prod.snd]
@[simp] theorem settleWait_cellsOf (a0 : Chan) (s : State) : cellsOf (settleWait a0 s) = cellsOf s := by
  unfold settleWait
  simp [apply_ite cellsOf, apply_ite Prod.snd]
@[simp] theorem kickPreload_cellsOf (a0 : Chan) (s : State) : cellsOf (kickPreload a0 s) = cellsOf s := by
  unfold kickPreload
  simp only [apply_ite cellsOf, apply_ite Prod.snd]
  (repeat' split) <;> simp [*]
@[simp] theorem settleAll_cellsOf (s : State) : cellsOf (settleAll s) = cellsOf s := by simp [settleAll]
@[simp] theorem unsaved_cellsOf (s : State) : cellsOf (unsaved s) = cellsOf s := by simp [unsaved]
@[simp] theorem retireChannel_cellsOf (a0 : Chan) (s : State) : cellsOf (retireChannel a0 s) = cellsOf s :=
  by simp [retireChannel]
@[simp] theorem setCause_cellsOf (a0 : Chan) (a1 : Nat) (s : State) : cellsOf (setCause a0 a1 s) = cellsOf s :=
  by simp [setCause]
@[simp] theorem retirePipeline_cellsOf (a0 : Chan) (a1 : Nat) (s : State) : cellsOf (retirePipeline a0 a1 s) = cellsOf
    s := by
  unfold retirePipeline
  simp [apply_ite cellsOf, apply_ite Prod.snd]
@[simp] theorem fallowReturn_cellsOf (s : State) : cellsOf (fallowReturn s) = cellsOf s := by simp [fallowReturn]
@[simp] theorem retirePort_cellsOf (a0 : Chan) (a1 : Nat) (a2 : Nat) (a3 : Nat) (s : State) : cellsOf (retirePort a0 a1
    a2 a3 s) = cellsOf s := by
  unfold retirePort
  (repeat' split) <;> simp [apply_ite cellsOf, apply_ite Prod.snd]
@[simp] theorem retireFallow_cellsOf (a0 : Nat) (s : State) : cellsOf (retireFallow a0 s) = cellsOf s := by
  unfold retireFallow
  (repeat' (first | dsimp only | split)) <;> simp [apply_ite cellsOf, apply_ite Prod.snd]
@[simp] theorem chargeFallow_cellsOf (s : State) : cellsOf (chargeFallow s) = cellsOf s := by
  unfold chargeFallow
  simp [apply_ite cellsOf, apply_ite Prod.snd]
@[simp] theorem chargePipe_cellsOf (a0 : Chan) (s : State) : cellsOf (chargePipe a0 s) = cellsOf s := by
  unfold chargePipe
  simp [apply_ite cellsOf, apply_ite Prod.snd]
@[simp] theorem chargeHostPort_cellsOf (a0 : Chan) (s : State) : cellsOf (chargeHostPort a0 s) = cellsOf s := by
  unfold chargeHostPort
  simp [apply_ite cellsOf, apply_ite Prod.snd]
@[simp] theorem chargeFlashPort_cellsOf (a0 : Chan) (s : State) : cellsOf (chargeFlashPort a0 s) = cellsOf s := by
  unfold chargeFlashPort
  simp [apply_ite cellsOf, apply_ite Prod.snd]
@[simp] theorem hostBallCheck_cellsOf (a0 : Chan) (a1 : Option U8) (s : State) : cellsOf (hostBallCheck a0 a1 s) =
    cellsOf s := by
  unfold hostBallCheck
  (repeat' split) <;> simp [apply_ite cellsOf, apply_ite Prod.snd]
@[simp] theorem flashBallCheck_cellsOf (a0 : Chan) (a1 : Option U8) (s : State) : cellsOf (flashBallCheck a0 a1 s) =
    cellsOf s := by
  unfold flashBallCheck
  (repeat' split) <;> simp [apply_ite cellsOf, apply_ite Prod.snd]
@[simp] theorem rpmbWrite_cellsOf (a0 : Nat) (a1 : List Byte) (s : State) : cellsOf (rpmbWrite a0 a1 s) = cellsOf s :=
  by simp [rpmbWrite]
@[simp] theorem dropRegion_cellsOf (a0 : Chan) (a1 : List Nat) (s : State) : cellsOf (dropRegion a0 a1 s) = cellsOf s :=
  by simp [dropRegion]
@[simp] theorem flipLanded_cellsOf (a0 : Chan) (s : State) : cellsOf (flipLanded a0 s) = cellsOf s := by
  unfold flipLanded
  (repeat' split) <;> simp [apply_ite cellsOf, apply_ite Prod.snd]
@[simp] theorem flipsLand_cellsOf (a0 : List (Nat × List Nat)) (s : State) : cellsOf (flipsLand a0 s) = cellsOf s :=
  by simp [flipsLand]
@[simp] theorem volatileFlips_cellsOf (a0 : List (Nat × List Nat)) (s : State) : cellsOf (volatileFlips a0 s) = cellsOf
    s := by simp [volatileFlips]
@[simp] theorem kickStile_cellsOf (s : State) : cellsOf (kickStile s) = cellsOf s := by
  unfold kickStile
  (repeat' split) <;> simp [apply_ite cellsOf, apply_ite Prod.snd]
@[simp] theorem finish_cellsOf (s : State) : cellsOf (finish s) = cellsOf s := by simp [finish]
@[simp] theorem recordFail_cellsOf (a0 : Chan) (a1 : Nat) (a2 : Nat) (a3 : Nat) (a4 : Nat) (a5 : Nat) (s : State) :
    cellsOf (recordFail a0 a1 a2 a3 a4 a5 s) = cellsOf s := by simp [recordFail]
@[simp] theorem countEscalation_cellsOf (s : State) : cellsOf (countEscalation s) = cellsOf s := by simp [countEscalation]
@[simp] theorem toHold_cellsOf (a0 : Chan) (a1 : List Nat) (a2 : U8) (a3 : Nat) (s : State) : cellsOf (toHold a0 a1 a2
    a3 s) = cellsOf s := by simp [toHold]
@[simp] theorem dropRestoreOps_cellsOf (a0 : Chan) (s : State) : cellsOf (dropRestoreOps a0 s) = cellsOf s :=
  by simp [dropRestoreOps]
@[simp] theorem toRestore_cellsOf (a0 : Chan) (a1 : List Nat) (a2 : Bool) (a3 : Nat) (s : State) : cellsOf (toRestore
    a0 a1 a2 a3 s) = cellsOf s := by
  unfold toRestore
  simp [apply_ite cellsOf, apply_ite Prod.snd]
@[simp] theorem toFlip_cellsOf (a0 : Chan) (a1 : RuleRow) (a2 : List Nat) (s : State) : cellsOf (toFlip a0 a1 a2 s) =
    cellsOf s := by
  unfold toFlip
  simp [apply_ite cellsOf, apply_ite Prod.snd]
@[simp] theorem joinFail_cellsOf (a0 : Chan) (a1 : Seq) (a2 : Nat) (a3 : List Nat) (a4 : Nat) (s : State) : cellsOf
    (joinFail a0 a1 a2 a3 a4 s) = cellsOf s := by
  unfold joinFail
  (repeat' split) <;> simp [apply_ite cellsOf, apply_ite Prod.snd]
@[simp] theorem respond_cellsOf (a0 : Chan) (a1 : Nat) (a2 : RuleRow) (a3 : Nat) (s : State) : cellsOf (respond a0 a1
    a2 a3 s) = cellsOf s := by
  unfold respond
  simp only [apply_ite cellsOf, apply_ite Prod.snd]
  (repeat' split) <;> simp [*]
@[simp] theorem startRevert_cellsOf (a0 : U8) (s : State) : cellsOf (startRevert a0 s) = cellsOf s := by
  unfold startRevert
  simp [apply_ite cellsOf, apply_ite Prod.snd]
@[simp] theorem poison_cellsOf (a0 : Nat) (s : State) : cellsOf (poison a0 s) = cellsOf s := by simp [poison]
@[simp] theorem lineFail_cellsOf (a0 : Chan) (a1 : Cs) (a2 : Nat) (a3 : Nat) (a4 : Nat) (a5 : Nat) (s : State) :
    cellsOf (lineFail a0 a1 a2 a3 a4 a5 s) = cellsOf s := by
  unfold lineFail
  (repeat' split) <;> simp [apply_ite cellsOf, apply_ite Prod.snd]

end Sys2Proof.Laws
end

