-- ==== Sys2Proof/Laws/CellsHost.lean ====
section
/-! SUPPORT. What leaves the bytes of the physical flashes as it is: the host port, the OTP and the vault operations. -/
namespace Sys2Proof.Laws
open Sys2Proof.Machine
set_option linter.unusedVariables false
set_option linter.unusedSimpArgs false
set_option linter.unnecessarySeqFocus false
set_option linter.unreachableTactic false
set_option linter.unusedTactic false
set_option maxRecDepth 4000

@[simp] theorem abortRead_cellsOf (a0 : Chan) (a1 : Nat) (s : State) : cellsOf (abortRead a0 a1 s) = cellsOf s := by
  unfold abortRead
  simp only [apply_ite cellsOf, apply_ite Prod.snd]
  (repeat' split) <;> simp [*]
@[simp] theorem drive_cellsOf (a0 : Chan) (a1 : List Byte) (s : State) : cellsOf (drive a0 a1 s) = cellsOf s :=
  by simp [drive]
@[simp] theorem unsupported_cellsOf (a0 : Chan) (a1 : Nat) (a2 : Nat) (s : State) : cellsOf (unsupported a0 a1 a2 s) =
    cellsOf s := by simp [unsupported]
@[simp] theorem twinRecord_cellsOf (a0 : Chan) (a1 : Nat) (a2 : Nat) (a3 : Option Nat) (a4 : Option Nat) (s : State) :
    cellsOf (twinRecord a0 a1 a2 a3 a4 s) = cellsOf s := by simp [twinRecord]
@[simp] theorem combine_cellsOf (a0 : Chan) (a1 : Nat) (a2 : Option TwinDiff) (a3 : Verdict) (s : State) : cellsOf
    ((combine a0 a1 a2 a3 s).2) = cellsOf s := by
  unfold combine
  (repeat' split) <;> simp [apply_ite cellsOf, apply_ite Prod.snd]
@[simp] theorem csRise_cellsOf (a0 : Chan) (s : State) : cellsOf (csRise a0 s) = cellsOf s := by simp [csRise]
@[simp] theorem shadowCheck_cellsOf (a0 : Chan) (a1 : Bool) (s : State) : cellsOf (shadowCheck a0 a1 s) = cellsOf s := by
  unfold shadowCheck
  simp [apply_ite cellsOf, apply_ite Prod.snd]
@[simp] theorem hostRun_cellsOf (a0 : HostCmd) (a1 : Nat) (a2 : Nat) (a3 : Bool) (a4 : Bool) (a5 : Bool) (a6 : Bool)
    (a7 : Bool → State → State) (s : State) (h8 : ∀ y0 y1, cellsOf (((a7 y0 y1))) = cellsOf ((y1))) : cellsOf (hostRun a0 a1 a2 a3 a4 a5 a6 a7 s) = cellsOf s := by
  unfold hostRun
  simp only [apply_ite cellsOf, apply_ite Prod.snd]
  (repeat' split) <;> simp [*]
@[simp] theorem serveHayloft_cellsOf (a0 : Nat) (a1 : Ctx) (a2 : Nat) (a3 : Nat) (s : State) : cellsOf ((serveHayloft
    a0 a1 a2 a3 s).2) = cellsOf s := by
  unfold serveHayloft
  simp [apply_ite cellsOf, apply_ite Prod.snd]
@[simp] theorem sealedMiss_cellsOf (a0 : Chan) (a1 : Nat) (a2 : Nat) (a3 : Nat) (a4 : Nat) (a5 : ReadRun) (s : State) :
    cellsOf (sealedMiss a0 a1 a2 a3 a4 a5 s) = cellsOf s := by
  unfold sealedMiss
  simp [apply_ite cellsOf, apply_ite Prod.snd]
@[simp] theorem physicalBytes_cellsOf (a0 : HostCmd) (a1 : Bool) (a2 : ReadRun) (a3 : Verdict) (a4 : Nat) (a5 : Nat) (s
    : State) : cellsOf ((physicalBytes a0 a1 a2 a3 a4 a5 s).2) = cellsOf s := by
  unfold physicalBytes
  simp [apply_ite cellsOf, apply_ite Prod.snd]
@[simp] theorem emitBytes_cellsOf (a0 : ReadRun) (a1 : List Byte) (a2 : Nat) (s : State) : cellsOf ((emitBytes a0 a1 a2
    s).2) = cellsOf s := by
  unfold emitBytes
  simp [apply_ite cellsOf, apply_ite Prod.snd]
@[simp] theorem hayloftPiece_cellsOf (a0 : ReadRun) (a1 : Nat) (a2 : Ctx) (a3 : Nat) (a4 : Nat) (s : State) : cellsOf
    ((hayloftPiece a0 a1 a2 a3 a4 s).2) = cellsOf s := by
  unfold hayloftPiece
  (repeat' (first | dsimp only | split)) <;> (try simp only [drbgGenerate_some, storeRecord_ok, Prod.ext_iff] at *) <;> (try casesm* _ ∧ _) <;>
    subst_vars <;> simp [*, apply_ite cellsOf, apply_ite Prod.snd]
@[simp] theorem sealedPiece_cellsOf (a0 : HostCmd) (a1 : Nat) (a2 : ReadRun) (a3 : ReadRun) (a4 : Verdict) (a5 : Nat)
    (a6 : Nat) (a7 : Nat) (s : State) : cellsOf ((sealedPiece a0 a1 a2 a3 a4 a5 a6 a7 s).2) = cellsOf s := by
  unfold sealedPiece
  (repeat' split) <;> simp [apply_ite cellsOf, apply_ite Prod.snd]
@[simp] theorem takePiece_cellsOf (a0 : HostCmd) (a1 : Bool) (a2 : ReadRun) (a3 : ReadRun) (a4 : Verdict) (a5 : Nat)
    (a6 : Nat) (a7 : Nat) (a8 : Ctx) (s : State) : cellsOf ((takePiece a0 a1 a2 a3 a4 a5 a6 a7 a8 s).2) = cellsOf s := by
  unfold takePiece
  simp [apply_ite cellsOf, apply_ite Prod.snd]
@[simp] theorem verifiedPiece_cellsOf (a0 : HostCmd) (a1 : Bool) (a2 : ReadRun) (a3 : ReadRun) (a4 : Verdict) (a5 :
    Nat) (a6 : Nat) (a7 : Nat) (s : State) : cellsOf ((verifiedPiece a0 a1 a2 a3 a4 a5 a6 a7 s).2) = cellsOf s := by
  unfold verifiedPiece
  simp only [apply_ite cellsOf, apply_ite Prod.snd]
  (repeat' split) <;> simp [*]
@[simp] theorem readPiece_cellsOf (a0 : HostCmd) (a1 : Nat) (a2 : Bool) (a3 : Nat × Nat × Nat) (a4 : ReadRun × State) :
    cellsOf ((readPiece a0 a1 a2 a3 a4).2) = cellsOf (a4.2) := by
  unfold readPiece
  simp [apply_ite cellsOf, apply_ite Prod.snd]
@[simp] theorem readBody_cellsOf (a0 : HostCmd) (a1 : Nat) (a2 : Nat) (a3 : Nat) (a4 : Bool) (s : State) : cellsOf
    (readBody a0 a1 a2 a3 a4 s) = cellsOf s := by
  unfold readBody
  simp [apply_ite cellsOf, apply_ite Prod.snd]
@[simp] theorem hostRead_cellsOf (a0 : HostCmd) (a1 : Nat) (a2 : U32) (a3 : Nat) (a4 : Bool) (a5 : Bool) (a6 : Bool) (s
    : State) : cellsOf ((after (hostRead a0 a1 a2 a3 a4 a5 a6 s) s)) = cellsOf s := by simp [hostRead]
@[simp] theorem execFastRead_cellsOf (a0 : HostCmd) (a1 : U32) (a2 : Nat) (s : State) : cellsOf ((after (execFastRead
    a0 a1 a2 s) s)) = cellsOf s := by simp [execFastRead]
@[simp] theorem execFastRead4B_cellsOf (a0 : HostCmd) (a1 : U32) (a2 : Nat) (s : State) : cellsOf ((after
    (execFastRead4B a0 a1 a2 s) s)) = cellsOf s := by simp [execFastRead4B]
@[simp] theorem execQuadOutputRead_cellsOf (a0 : HostCmd) (a1 : U32) (a2 : Nat) (s : State) : cellsOf ((after
    (execQuadOutputRead a0 a1 a2 s) s)) = cellsOf s := by simp [execQuadOutputRead]
@[simp] theorem execQuadOutputRead4B_cellsOf (a0 : HostCmd) (a1 : U32) (a2 : Nat) (s : State) : cellsOf ((after
    (execQuadOutputRead4B a0 a1 a2 s) s)) = cellsOf s := by simp [execQuadOutputRead4B]
@[simp] theorem execQuadIoRead_cellsOf (a0 : HostCmd) (a1 : U32) (a2 : Nat) (s : State) : cellsOf ((after
    (execQuadIoRead a0 a1 a2 s) s)) = cellsOf s := by simp [execQuadIoRead]
@[simp] theorem execQuadIoRead4B_cellsOf (a0 : HostCmd) (a1 : U32) (a2 : Nat) (s : State) : cellsOf ((after
    (execQuadIoRead4B a0 a1 a2 s) s)) = cellsOf s := by simp [execQuadIoRead4B]
@[simp] theorem execOctalDtrRead_cellsOf (a0 : HostCmd) (a1 : U32) (a2 : Nat) (s : State) : cellsOf ((after
    (execOctalDtrRead a0 a1 a2 s) s)) = cellsOf s := by simp [execOctalDtrRead]
@[simp] theorem otpBurn_cellsOf (a0 : Nat) (a1 : List Byte) (s : State) : cellsOf (otpBurn a0 a1 s) = cellsOf s :=
  by simp [otpBurn]
@[simp] theorem burnFlag_cellsOf (a0 : Nat) (s : State) : cellsOf (burnFlag a0 s) = cellsOf s := by simp [burnFlag]
@[simp] theorem raiseRtCounter_cellsOf (a0 : Nat) (s : State) : cellsOf (raiseRtCounter a0 s) = cellsOf s := by
  unfold raiseRtCounter
  simp [apply_ite cellsOf, apply_ite Prod.snd]
@[simp] theorem userWrite_cellsOf (a0 : Nat) (a1 : List Byte) (s : State) : cellsOf (userWrite a0 a1 s) = cellsOf s :=
  by simp [userWrite]
@[simp] theorem recReject_cellsOf (a0 : Nat) (a1 : U8) (s : State) : cellsOf (recReject a0 a1 s) = cellsOf s :=
  by simp [recReject]
@[simp] theorem selectImage_cellsOf (a0 : Nat) (s : State) : cellsOf ((selectImage a0 s).2.2) = cellsOf s := by
  unfold selectImage
  split
  · rfl
  · refine (foldl_cellsOf3 _ (fun t x => ?_) _ _).trans rfl
    (repeat' split) <;> simp
@[simp] theorem putRecord_cellsOf (a0 : Nat) (a1 : List Byte) (a2 : List Byte) (a3 : Bool) (a4 : Nat) (s : State) :
    cellsOf (putRecord a0 a1 a2 a3 a4 s) = cellsOf s := by simp [putRecord]
@[simp] theorem putCounters_cellsOf (a0 : Nat) (a1 : List Nat) (s : State) : cellsOf (putCounters a0 a1 s) = cellsOf s
    := by simp [putCounters]
@[simp] theorem rpmbAttach_cellsOf (s : State) : cellsOf (rpmbAttach s) = cellsOf s := by
  unfold rpmbAttach
  (repeat' split) <;> simp [apply_ite cellsOf, apply_ite Prod.snd]
@[simp] theorem scanInto_cellsOf (a0 : Nat) (s : State) : cellsOf (scanInto a0 s) = cellsOf s := by simp [scanInto]
@[simp] theorem setNextSeq_cellsOf (s : State) : cellsOf (setNextSeq s) = cellsOf s := by simp [setNextSeq]
@[simp] theorem countStages_cellsOf (s : State) : cellsOf (countStages s) = cellsOf s := by simp [countStages]
@[simp] theorem putScratch_cellsOf (a0 : Chan) (a1 : EraseBlock) (a2 : List Nat) (a3 : List Byte) (s : State) : cellsOf
    (putScratch a0 a1 a2 a3 s) = cellsOf s := by
  unfold putScratch
  split <;> simp
@[simp] theorem clearScratch_cellsOf (a0 : Chan) (s : State) : cellsOf (clearScratch a0 s) = cellsOf s := by
  unfold clearScratch
  split <;> simp
@[simp] theorem sealFor_cellsOf (a0 : U32) (a1 : List Byte) (s : State) : cellsOf ((sealFor a0 a1 s).2) = cellsOf s := by
  unfold sealFor
  split <;> simp
@[simp] theorem queueResponse_cellsOf (a0 : MPort) (a1 : Option U32) (a2 : List Byte) (a3 : Nat) (a4 : Nat) (a5 : Bool)
    (s : State) : cellsOf (queueResponse a0 a1 a2 a3 a4 a5 s) = cellsOf s := by
  unfold queueResponse
  (repeat' (first | dsimp only | split)) <;> (try simp only [drbgGenerate_some, storeRecord_ok, Prod.ext_iff] at *) <;> (try casesm* _ ∧ _) <;>
    subst_vars <;> simp [*, apply_ite cellsOf, apply_ite Prod.snd]
@[simp] theorem deliver_cellsOf (a0 : MPort) (a1 : LinkReq) (a2 : List Byte) (a3 : Bool) (s : State) : cellsOf (deliver
    a0 a1 a2 a3 s) = cellsOf s := by simp [deliver]
@[simp] theorem answerLate_cellsOf (a0 : Port) (a1 : U8) (a2 : List Byte) (s : State) : cellsOf (answerLate a0 a1 a2 s)
    = cellsOf s := by
  unfold answerLate
  simp only [apply_ite cellsOf, apply_ite Prod.snd]
  (repeat' split) <;> simp [*]
@[simp] theorem dropCovered_cellsOf (a0 : Chan) (a1 : Cs) (a2 : PhysOp) (s : State) : cellsOf (dropCovered a0 a1 a2 s)
    = cellsOf s := by simp [dropCovered]
@[simp] theorem issueStore_cellsOf (a0 : Chan) (s : State) : cellsOf (issueStore a0 s) = cellsOf s := by
  unfold issueStore
  (repeat' split) <;> simp [apply_ite cellsOf, apply_ite Prod.snd]
@[simp] theorem denyHost_cellsOf (a0 : Chan) (a1 : Nat) (s : State) : cellsOf (denyHost a0 a1 s) = cellsOf s :=
  by simp [denyHost]
@[simp] theorem judgeLine_cellsOf (a0 : HostCmd) (a1 : Nat) (a2 : Nat) (a3 : WriteRun × State) : cellsOf ((judgeLine a0
    a1 a2 a3).2) = cellsOf (a3.2) := by
  unfold judgeLine
  simp [apply_ite cellsOf, apply_ite Prod.snd]
@[simp] theorem stageHost_cellsOf (a0 : Chan) (a1 : StageOp) (s : State) : cellsOf (stageHost a0 a1 s) = cellsOf s := by
  unfold stageHost
  simp [apply_ite cellsOf, apply_ite Prod.snd]
@[simp] theorem applyVerdict_cellsOf (a0 : HostCmd) (a1 : Nat) (a2 : WriteRun) (a3 : Nat → PhysOp) (a4 : StageOp) (s :
    State) : cellsOf (applyVerdict a0 a1 a2 a3 a4 s) = cellsOf s := by
  unfold applyVerdict
  simp [apply_ite cellsOf, apply_ite Prod.snd]
@[simp] theorem clearWel_cellsOf (a0 : Chan) (s : State) : cellsOf (clearWel a0 s) = cellsOf s := by simp [clearWel]
@[simp] theorem programBody_cellsOf (a0 : HostCmd) (a1 : Nat) (a2 : Nat) (a3 : List Byte) (a4 : Bool) (s : State) :
    cellsOf (programBody a0 a1 a2 a3 a4 s) = cellsOf s := by
  unfold programBody
  simp [apply_ite cellsOf, apply_ite Prod.snd]
@[simp] theorem eraseBody_cellsOf (a0 : HostCmd) (a1 : Nat) (a2 : Nat) (a3 : Nat) (a4 : Bool) (s : State) : cellsOf
    (eraseBody a0 a1 a2 a3 a4 s) = cellsOf s := by
  unfold eraseBody
  simp [apply_ite cellsOf, apply_ite Prod.snd]
@[simp] theorem hostProgram_cellsOf (a0 : HostCmd) (a1 : Nat) (a2 : U32) (a3 : List Byte) (a4 : Bool) (a5 : Bool) (a6 :
    Bool) (s : State) : cellsOf ((after (hostProgram a0 a1 a2 a3 a4 a5 a6 s) s)) = cellsOf s := by simp [hostProgram]
@[simp] theorem hostErase_cellsOf (a0 : HostCmd) (a1 : Nat) (a2 : U32) (a3 : Nat) (a4 : Bool) (s : State) : cellsOf
    ((after (hostErase a0 a1 a2 a3 a4 s) s)) = cellsOf s := by simp [hostErase]
@[simp] theorem execPageProgram_cellsOf (a0 : HostCmd) (a1 : U32) (a2 : List Byte) (s : State) : cellsOf ((after
    (execPageProgram a0 a1 a2 s) s)) = cellsOf s := by simp [execPageProgram]
@[simp] theorem execPageProgram4B_cellsOf (a0 : HostCmd) (a1 : U32) (a2 : List Byte) (s : State) : cellsOf ((after
    (execPageProgram4B a0 a1 a2 s) s)) = cellsOf s := by simp [execPageProgram4B]
@[simp] theorem execQuadInputPageProgram_cellsOf (a0 : HostCmd) (a1 : U32) (a2 : List Byte) (s : State) : cellsOf
    ((after (execQuadInputPageProgram a0 a1 a2 s) s)) = cellsOf s := by simp [execQuadInputPageProgram]
@[simp] theorem execQuadInputPageProgram4B_cellsOf (a0 : HostCmd) (a1 : U32) (a2 : List Byte) (s : State) : cellsOf
    ((after (execQuadInputPageProgram4B a0 a1 a2 s) s)) = cellsOf s := by simp [execQuadInputPageProgram4B]
@[simp] theorem execErase4K_cellsOf (a0 : HostCmd) (a1 : U32) (s : State) : cellsOf ((after (execErase4K a0 a1 s) s)) =
    cellsOf s := by simp [execErase4K]
@[simp] theorem execErase4K4B_cellsOf (a0 : HostCmd) (a1 : U32) (s : State) : cellsOf ((after (execErase4K4B a0 a1 s)
    s)) = cellsOf s := by simp [execErase4K4B]
@[simp] theorem execErase32K_cellsOf (a0 : HostCmd) (a1 : U32) (s : State) : cellsOf ((after (execErase32K a0 a1 s) s))
    = cellsOf s := by simp [execErase32K]
@[simp] theorem execErase32K4B_cellsOf (a0 : HostCmd) (a1 : U32) (s : State) : cellsOf ((after (execErase32K4B a0 a1 s)
    s)) = cellsOf s := by simp [execErase32K4B]
@[simp] theorem execErase64K_cellsOf (a0 : HostCmd) (a1 : U32) (s : State) : cellsOf ((after (execErase64K a0 a1 s) s))
    = cellsOf s := by simp [execErase64K]
@[simp] theorem execErase64K4B_cellsOf (a0 : HostCmd) (a1 : U32) (s : State) : cellsOf ((after (execErase64K4B a0 a1 s)
    s)) = cellsOf s := by simp [execErase64K4B]
@[simp] theorem execChipErase_cellsOf (a0 : HostCmd) (a1 : Bool) (s : State) : cellsOf ((after (execChipErase a0 a1 s)
    s)) = cellsOf s := by
  unfold execChipErase
  simp [apply_ite cellsOf, apply_ite Prod.snd]
@[simp] theorem hostVirtual_cellsOf (a0 : HostCmd) (a1 : Nat) (a2 : Nat) (a3 : Bool) (a4 : Bool) (a5 : Bool) (a6 : Bool
    → State → State) (s : State) (h7 : ∀ y0 y1, cellsOf (((a6 y0 y1))) = cellsOf ((y1))) : cellsOf ((after (hostVirtual a0 a1 a2 a3 a4 a5 a6 s) s)) = cellsOf s := by
  unfold hostVirtual
  (repeat' (first | dsimp only | split)) <;> (try simp only [drbgGenerate_some, storeRecord_ok, Prod.ext_iff] at *) <;> (try casesm* _ ∧ _) <;>
    subst_vars <;> simp [*, apply_ite cellsOf, apply_ite Prod.snd]
@[simp] theorem startGap_cellsOf (a0 : Chan) (s : State) : cellsOf (startGap a0 s) = cellsOf s := by simp [startGap]
@[simp] theorem changeMode_cellsOf (a0 : Chan) (a1 : BusMode) (a2 : Nat) (a3 : Nat) (s : State) : cellsOf (changeMode
    a0 a1 a2 a3 s) = cellsOf s := by
  unfold changeMode
  simp [apply_ite cellsOf, apply_ite Prod.snd]
@[simp] theorem execWriteEnable_cellsOf (a0 : HostCmd) (s : State) : cellsOf ((after (execWriteEnable a0 s) s)) =
    cellsOf s := by simp [execWriteEnable]
@[simp] theorem execWriteDisable_cellsOf (a0 : HostCmd) (s : State) : cellsOf ((after (execWriteDisable a0 s) s)) =
    cellsOf s := by simp [execWriteDisable]
@[simp] theorem execReadStatus_cellsOf (a0 : HostCmd) (a1 : Nat) (s : State) : cellsOf ((after (execReadStatus a0 a1 s)
    s)) = cellsOf s := by simp [execReadStatus]
@[simp] theorem execWriteStatus_cellsOf (a0 : HostCmd) (s : State) : cellsOf ((after (execWriteStatus a0 s) s)) =
    cellsOf s := by simp [execWriteStatus]
@[simp] theorem execClearFlags_cellsOf (a0 : HostCmd) (s : State) : cellsOf ((after (execClearFlags a0 s) s)) = cellsOf
    s := by simp [execClearFlags]
@[simp] theorem execReadId_cellsOf (a0 : HostCmd) (a1 : Nat) (s : State) : cellsOf ((after (execReadId a0 a1 s) s)) =
    cellsOf s := by simp [execReadId]
@[simp] theorem execReadSfdp_cellsOf (a0 : HostCmd) (a1 : U32) (a2 : Nat) (s : State) : cellsOf ((after (execReadSfdp
    a0 a1 a2 s) s)) = cellsOf s := by simp [execReadSfdp]
@[simp] theorem execWriteVolatileConfiguration_cellsOf (a0 : HostCmd) (a1 : U32) (a2 : Byte) (s : State) : cellsOf
    ((after (execWriteVolatileConfiguration a0 a1 a2 s) s)) = cellsOf s := by
  unfold execWriteVolatileConfiguration
  simp [apply_ite cellsOf, apply_ite Prod.snd]
@[simp] theorem execEnterQpi_cellsOf (a0 : HostCmd) (s : State) : cellsOf ((after (execEnterQpi a0 s) s)) = cellsOf s :=
  by simp [execEnterQpi]
@[simp] theorem execExitQpi_cellsOf (a0 : HostCmd) (s : State) : cellsOf ((after (execExitQpi a0 s) s)) = cellsOf s :=
  by simp [execExitQpi]
@[simp] theorem execResetEnable_cellsOf (a0 : HostCmd) (s : State) : cellsOf ((after (execResetEnable a0 s) s)) =
    cellsOf s := by simp [execResetEnable]
@[simp] theorem execReset_cellsOf (a0 : HostCmd) (s : State) : cellsOf ((after (execReset a0 s) s)) = cellsOf s := by
  unfold execReset
  simp [apply_ite cellsOf, apply_ite Prod.snd]
@[simp] theorem execEnter4ByteMode_cellsOf (a0 : HostCmd) (s : State) : cellsOf ((after (execEnter4ByteMode a0 s) s)) =
    cellsOf s := by simp [execEnter4ByteMode]
@[simp] theorem execExit4ByteMode_cellsOf (a0 : HostCmd) (s : State) : cellsOf ((after (execExit4ByteMode a0 s) s)) =
    cellsOf s := by simp [execExit4ByteMode]
@[simp] theorem execPowerDown_cellsOf (a0 : HostCmd) (s : State) : cellsOf ((after (execPowerDown a0 s) s)) = cellsOf s
    := by simp [execPowerDown]
@[simp] theorem execReleasePowerDown_cellsOf (a0 : HostCmd) (s : State) : cellsOf ((after (execReleasePowerDown a0 s)
    s)) = cellsOf s := by simp [execReleasePowerDown]
@[simp] theorem execUnsupportedCommand_cellsOf (a0 : HostCmd) (a1 : Byte) (a2 : U32) (s : State) : cellsOf ((after
    (execUnsupportedCommand a0 a1 a2 s) s)) = cellsOf s := by simp [execUnsupportedCommand]

end Sys2Proof.Laws
end

