-- ==== Sys2Proof/Laws/CellsFlash.lean ====
section
/-! SUPPORT. What leaves the bytes of the physical flashes as it is: restores, the flash port and dictionary requests. -/
namespace Sys2Proof.Laws
open Sys2Proof.Machine
set_option linter.unusedVariables false
set_option linter.unusedSimpArgs false
set_option linter.unnecessarySeqFocus false
set_option linter.unreachableTactic false
set_option linter.unusedTactic false
set_option maxRecDepth 4000

@[simp] theorem setSeq_cellsOf (a0 : Chan) (a1 : Seq → Seq) (s : State) : cellsOf (setSeq a0 a1 s) = cellsOf s :=
  by simp [setSeq]
@[simp] theorem restoreDone_cellsOf (a0 : Chan) (a1 : Seq) (s : State) : cellsOf (restoreDone a0 a1 s) = cellsOf s := by
  unfold restoreDone
  simp [apply_ite cellsOf, apply_ite Prod.snd]
@[simp] theorem nextBlock_cellsOf (a0 : Chan) (s : State) : cellsOf (nextBlock a0 s) = cellsOf s := by
  unfold nextBlock
  (repeat' split) <;> simp [apply_ite cellsOf, apply_ite Prod.snd]
@[simp] theorem blockDone_cellsOf (a0 : Chan) (s : State) : cellsOf (blockDone a0 s) = cellsOf s := by
  unfold blockDone
  (repeat' split) <;> simp [apply_ite cellsOf, apply_ite Prod.snd]
@[simp] theorem kickSeq_cellsOf (a0 : Chan) (s : State) : cellsOf (kickSeq a0 s) = cellsOf s := by
  unfold kickSeq
  simp only [apply_ite cellsOf, apply_ite Prod.snd]
  (repeat' split) <;> simp [*]
@[simp] theorem seqOpDone_cellsOf (a0 : Chan) (a1 : PhysOp) (s : State) : cellsOf (seqOpDone a0 a1 s) = cellsOf s := by
  unfold seqOpDone
  (repeat' split) <;> simp [apply_ite cellsOf, apply_ite Prod.snd]
@[simp] theorem restoreSelect_cellsOf (a0 : Chan) (s : State) : cellsOf (restoreSelect a0 s) = cellsOf s := by
  unfold restoreSelect
  split
  · rfl
  · split
    · rfl
    · split
      rename_i h
      have h3 := congrArg (fun x => cellsOf x.2.2) h
      dsimp only at h3
      rw [foldl_cellsOf3] at h3
      · dsimp only at h3
        split
        · split <;> simp [h3]
        · simp [h3]
      · intro t x
        split
        · rfl
        · have := selectImage_cellsOf x t.2.2
          split <;> simp_all
@[simp] theorem permFlash_cellsOf (a0 : Chan) (s : State) : cellsOf (permFlash a0 s) = cellsOf s := by
  unfold permFlash
  simp only [apply_ite cellsOf, apply_ite Prod.snd]
  (repeat' split) <;> simp [*]
@[simp] theorem startRead_cellsOf (a0 : Chan) (a1 : DevRead) (s : State) : cellsOf (startRead a0 a1 s) = cellsOf s :=
  by simp [startRead]
@[simp] theorem kickField_cellsOf (a0 : Port) (s : State) : cellsOf (kickField a0 s) = cellsOf s := by
  unfold kickField
  (repeat' split) <;> simp [apply_ite cellsOf, apply_ite Prod.snd]
@[simp] theorem kickAll_cellsOf (s : State) : cellsOf (kickAll s) = cellsOf s := by simp [kickAll]
@[simp] theorem finishAll_cellsOf (s : State) : cellsOf (finishAll s) = cellsOf s := by simp [finishAll]
@[simp] theorem execPhysicalModeSync_cellsOf (a0 : Chan) (s : State) : cellsOf ((after (execPhysicalModeSync a0 s) s))
    = cellsOf s := by
  unfold execPhysicalModeSync
  dsimp only
  split
  · simp only [after_next, finishAll_cellsOf]
    apply modChan_cellsOf <;> intro x <;> dsimp only <;> split <;> rfl
  · rfl
@[simp] theorem flashIdle_cellsOf (a0 : Chan) (a1 : Cs) (s : State) : cellsOf (flashIdle a0 a1 s) = cellsOf s :=
  by simp [flashIdle]
@[simp] theorem hostOpEnd_cellsOf (a0 : Chan) (a1 : Bool) (s : State) : cellsOf (hostOpEnd a0 a1 s) = cellsOf s := by
  unfold hostOpEnd
  (repeat' split) <;> simp [apply_ite cellsOf, apply_ite Prod.snd]
@[simp] theorem deviceOpFail_cellsOf (a0 : Chan) (a1 : Cs) (a2 : PhysOp) (s : State) : cellsOf (deviceOpFail a0 a1 a2
    s) = cellsOf s := by
  unfold deviceOpFail
  simp [apply_ite cellsOf, apply_ite Prod.snd]
@[simp] theorem retryWon_cellsOf (a0 : Chan) (s : State) : cellsOf (retryWon a0 s) = cellsOf s := by
  unfold retryWon
  simp [apply_ite cellsOf, apply_ite Prod.snd]
@[simp] theorem execFlashOpRetry_cellsOf (a0 : Chan) (s : State) : cellsOf ((after (execFlashOpRetry a0 s) s)) =
    cellsOf s := by
  unfold execFlashOpRetry
  simp only [apply_ite cellsOf, apply_ite Prod.snd]
  (repeat' split) <;> simp [*]
@[simp] theorem stageExpire_cellsOf (a0 : Chan) (s : State) : cellsOf (stageExpire a0 s) = cellsOf s := by
  unfold stageExpire
  split <;> simp
@[simp] theorem execStageStoreExpiry_cellsOf (a0 : Chan) (s : State) : cellsOf ((after (execStageStoreExpiry a0 s) s))
    = cellsOf s := by simp [execStageStoreExpiry]
@[simp] theorem execGapFill_cellsOf (a0 : Chan) (s : State) : cellsOf ((after (execGapFill a0 s) s)) = cellsOf s := by
  unfold execGapFill
  (repeat' split) <;> simp [apply_ite cellsOf, apply_ite Prod.snd]
@[simp] theorem execPinFill_cellsOf (a0 : Chan) (a1 : U32) (s : State) : cellsOf ((after (execPinFill a0 a1 s) s)) =
    cellsOf s := by
  unfold execPinFill
  simp only [apply_ite cellsOf, apply_ite Prod.snd]
  (repeat' split) <;> simp [*]
@[simp] theorem soundAncestor_cellsOf (a0 : Nat) (a1 : Ctx) (s : State) : cellsOf (soundAncestor a0 a1 s) = cellsOf s
    := by
  induction a0 generalizing s with
  | zero => rfl
  | succ n ih => unfold soundAncestor; (repeat' (first | dsimp only | split)) <;> simp_all [apply_ite cellsOf]
@[simp] theorem execNodeFetch_cellsOf (a0 : Chan) (a1 : Cs) (a2 : BitVec 24) (s : State) : cellsOf ((after
    (execNodeFetch a0 a1 a2 s) s)) = cellsOf s := by
  unfold execNodeFetch
  simp only [apply_ite cellsOf, apply_ite Prod.snd]
  (repeat' split) <;> simp [*]
@[simp] theorem gleanPassed_cellsOf (a0 : Nat) (s : State) : cellsOf (gleanPassed a0 s) = cellsOf s := by
  unfold gleanPassed
  simp only [apply_ite cellsOf, apply_ite Prod.snd]
  (repeat' split) <;> simp [*]
@[simp] theorem execGleaningRead_cellsOf (a0 : Chan) (s : State) : cellsOf ((after (execGleaningRead a0 s) s)) =
    cellsOf s := by
  unfold execGleaningRead
  (repeat' split) <;> simp [apply_ite cellsOf, apply_ite Prod.snd]
@[simp] theorem gleanDone_cellsOf (a0 : Chan) (a1 : Nat) (s : State) : cellsOf (gleanDone a0 a1 s) = cellsOf s := by
  unfold gleanDone
  simp only [apply_ite cellsOf, apply_ite Prod.snd]
  (repeat' split) <;> simp [*]
@[simp] theorem nodeFail_cellsOf (a0 : Chan) (a1 : Nat) (a2 : Nat) (a3 : Nat) (s : State) : cellsOf (nodeFail a0 a1 a2
    a3 s) = cellsOf s := by simp [nodeFail]
theorem cacheInsert_some_cellsOf {tree level index : Nat} {data : List Byte} {s t : State} (h : cacheInsert tree level
    index data s = some t) : cellsOf t = cellsOf s := by
  unfold cacheInsert at h
  dsimp only at h
  split at h
  · simp at h; subst h; simp
  · split at h
    · simp at h; subst h; simp
    · simp at h
@[simp] theorem nodeEnter_cellsOf (a0 : Chan) (a1 : Nat) (a2 : Nat) (a3 : Nat) (a4 : List Byte) (a5 : Cs × Nat) (s :
    State) : cellsOf (nodeEnter a0 a1 a2 a3 a4 a5 s) = cellsOf s := by
  unfold nodeEnter
  split
  · exact cacheInsert_some_cellsOf ‹_›
  · split <;> simp
@[simp] theorem nodeArrived_cellsOf (a0 : Chan) (a1 : Nat) (a2 : Nat) (a3 : Nat) (a4 : Cs × Nat) (s : State) : cellsOf
    (nodeArrived a0 a1 a2 a3 a4 s) = cellsOf s := by
  unfold nodeArrived
  (repeat' split) <;> simp [apply_ite cellsOf, apply_ite Prod.snd]
@[simp] theorem nodeFromVault_cellsOf (a0 : Chan) (a1 : Nat) (a2 : Nat) (a3 : Nat) (a4 : Cs × Nat) (s : State) :
    cellsOf (nodeFromVault a0 a1 a2 a3 a4 s) = cellsOf s := by
  unfold nodeFromVault
  (repeat' split) <;> simp [apply_ite cellsOf, apply_ite Prod.snd]
@[simp] theorem beatsArrive_cellsOf (a0 : Chan) (a1 : Cs) (a2 : Nat) (a3 : Nat) (a4 : Nat) (s : State) : cellsOf
    (beatsArrive a0 a1 a2 a3 a4 s) = cellsOf s := by
  unfold beatsArrive
  (repeat' split) <;> simp [apply_ite cellsOf, apply_ite Prod.snd]
@[simp] theorem preloadArrive_cellsOf (a0 : Chan) (a1 : Cs) (a2 : Nat) (a3 : Nat) (s : State) : cellsOf (preloadArrive
    a0 a1 a2 a3 s) = cellsOf s := by
  unfold preloadArrive
  (repeat' split) <;> simp [apply_ite cellsOf, apply_ite Prod.snd]
@[simp] theorem readArrive_cellsOf (a0 : Chan) (a1 : DevRead) (s : State) : cellsOf (readArrive a0 a1 s) = cellsOf s := by
  unfold readArrive
  split <;> simp
@[simp] theorem deviceReadFail_cellsOf (a0 : Chan) (a1 : DevRead) (s : State) : cellsOf (deviceReadFail a0 a1 s) =
    cellsOf s := by
  unfold deviceReadFail
  simp [apply_ite cellsOf, apply_ite Prod.snd]
@[simp] theorem execDeviceReadComplete_cellsOf (a0 : Chan) (a1 : FlashEnd) (a2 : Option U8) (a3 : List Upset) (s :
    State) : cellsOf ((after (execDeviceReadComplete a0 a1 a2 a3 s) s)) = cellsOf s := by
  unfold execDeviceReadComplete
  simp only [apply_ite cellsOf, apply_ite Prod.snd]
  (repeat' split) <;> simp [*]
@[simp] theorem checkLine_cellsOf (a0 : Chan) (a1 : Cs) (a2 : Nat) (a3 : Ctx) (s : State) : cellsOf (checkLine a0 a1 a2
    a3 s) = cellsOf s := by
  unfold checkLine
  split
  · simp
  · dsimp only
    split
    · simp
    · split
      · rename_i h
        have h3 := congrArg (fun x => cellsOf x.2) h
        dsimp only at h3
        split at h3 <;> simp at h3 <;> simp [← h3]
      · rename_i h
        have h3 := congrArg (fun x => cellsOf x.2) h
        dsimp only at h3
        split at h3 <;> simp at h3 <;> simp [← h3, apply_ite cellsOf]
@[simp] theorem execLineCheckComplete_cellsOf (a0 : Chan) (a1 : Cs) (a2 : BitVec 24) (s : State) : cellsOf ((after
    (execLineCheckComplete a0 a1 a2 s) s)) = cellsOf s := by
  unfold execLineCheckComplete
  (repeat' split) <;> simp [apply_ite cellsOf, apply_ite Prod.snd]
@[simp] theorem lineStale_cellsOf (a0 : Chan) (a1 : Cs) (a2 : Nat) (s : State) : cellsOf (lineStale a0 a1 a2 s) =
    cellsOf s := by
  unfold lineStale
  (repeat' split) <;> simp [apply_ite cellsOf, apply_ite Prod.snd]
@[simp] theorem execLineStale_cellsOf (a0 : Chan) (a1 : Cs) (a2 : BitVec 24) (s : State) : cellsOf ((after
    (execLineStale a0 a1 a2 s) s)) = cellsOf s := by simp [execLineStale]
@[simp] theorem fabricWord_cellsOf (s : State) : cellsOf ((fabricWord s).2) = cellsOf s := by
  unfold fabricWord
  simp [apply_ite cellsOf, apply_ite Prod.snd]
@[simp] theorem request_cellsOf (a0 : Port) (a1 : Svc) (a2 : Nat) (a3 : Nat) (a4 : Nat) (s : State) : cellsOf ((request
    a0 a1 a2 a3 a4 s).2) = cellsOf s := by simp [request]
@[simp] theorem requestOp_cellsOf (a0 : Port) (a1 : Svc) (a2 : Nat) (a3 : Nat) (a4 : Nat) (a5 : State → U8 × State) (s
    : State) (h6 : ∀ y0, cellsOf ((((a5 y0))).2) = cellsOf ((y0))) : cellsOf ((after (requestOp a0 a1 a2 a3 a4 a5 s) s)) = cellsOf s := by
  unfold requestOp
  simp only [apply_ite cellsOf, apply_ite Prod.snd]
  (repeat' split) <;> simp [*]
@[simp] theorem execOp_cellsOf (a0 : Port) (a1 : Nat) (a2 : Nat) (a3 : Nat) (a4 : State → U8 × State) (s : State) (h5 :
    ∀ y0, cellsOf ((((a4 y0))).2) = cellsOf ((y0))) : cellsOf ((after (execOp a0 a1 a2 a3 a4 s) s)) = cellsOf s := by
  unfold execOp
  (repeat' (first | dsimp only | split)) <;> (try simp only [drbgGenerate_some, storeRecord_ok, Prod.ext_iff] at *) <;> (try casesm* _ ∧ _) <;>
    subst_vars <;> simp [*, apply_ite cellsOf, apply_ite Prod.snd]
@[simp] theorem writeOp_cellsOf (a0 : Port) (a1 : Nat) (a2 : Nat) (a3 : Nat) (a4 : State → U8 × State) (s : State) (h5
    : ∀ y0, cellsOf ((((a4 y0))).2) = cellsOf ((y0))) : cellsOf ((after (writeOp a0 a1 a2 a3 a4 s) s)) = cellsOf s := by
  unfold writeOp
  (repeat' (first | dsimp only | split)) <;> (try simp only [drbgGenerate_some, storeRecord_ok, Prod.ext_iff] at *) <;> (try casesm* _ ∧ _) <;>
    subst_vars <;> simp [*, apply_ite cellsOf, apply_ite Prod.snd]
@[simp] theorem blockOp_cellsOf (a0 : Port) (a1 : Nat) (a2 : Nat) (a3 : Nat) (a4 : State → U8 × State) (s : State) (h5
    : ∀ y0, cellsOf ((((a4 y0))).2) = cellsOf ((y0))) : cellsOf ((after (blockOp a0 a1 a2 a3 a4 s) s)) = cellsOf s := by
  unfold blockOp
  (repeat' (first | dsimp only | split)) <;> (try simp only [drbgGenerate_some, storeRecord_ok, Prod.ext_iff] at *) <;> (try casesm* _ ∧ _) <;>
    subst_vars <;> simp [*, apply_ite cellsOf, apply_ite Prod.snd]
@[simp] theorem readOp_cellsOf (a0 : Port) (a1 : Svc) (a2 : Nat) (a3 : Nat) (a4 : State → U8 × List Byte × State) (s :
    State) (h5 : ∀ y0, cellsOf (((((a4 y0)).2)).2) = cellsOf ((y0))) : cellsOf ((after (readOp a0 a1 a2 a3 a4 s) s)) = cellsOf s := by
  unfold readOp
  simp only [apply_ite cellsOf, apply_ite Prod.snd]
  (repeat' split) <;> simp [*]

end Sys2Proof.Laws
end

