-- ==== Sys2Proof/Laws/CellsCrypto.lean ====
section
/-! SUPPORT. What leaves the bytes of the physical flashes as it is: digest, cipher and random. -/
namespace Sys2Proof.Laws
open Sys2Proof.Machine
set_option linter.unusedVariables false
set_option linter.unusedSimpArgs false
set_option linter.unnecessarySeqFocus false
set_option linter.unreachableTactic false
set_option linter.unusedTactic false
set_option maxRecDepth 4000

@[simp] theorem bankOp_cellsOf (a0 : Fin 8) (a1 : Bank → U8 × Bank) (s : State) : cellsOf ((bankOp a0 a1 s).2) =
    cellsOf s := by simp [bankOp]
@[simp] theorem dgAllocRule_cellsOf (a0 : Port) (s : State) : cellsOf ((dgAllocRule a0 s).2) = cellsOf s := by
  unfold dgAllocRule
  (repeat' split) <;> simp [apply_ite cellsOf, apply_ite Prod.snd]
@[simp] theorem execDgAlloc_cellsOf (a0 : Port) (s : State) : cellsOf ((after (execDgAlloc a0 s) s)) = cellsOf s :=
  by simp [execDgAlloc]
@[simp] theorem bankWriteRule_cellsOf (a0 : Fin 8) (a1 : Nat) (a2 : List Byte) (s : State) : cellsOf ((bankWriteRule a0
    a1 a2 s).2) = cellsOf s := by simp [bankWriteRule]
@[simp] theorem dgDeclRule_cellsOf (a0 : Fin 8) (a1 : U40) (s : State) : cellsOf ((dgDeclRule a0 a1 s).2) = cellsOf s :=
  by simp [dgDeclRule]
@[simp] theorem execDgDeclLength_cellsOf (a0 : Port) (a1 : Fin 8) (a2 : U40) (s : State) : cellsOf ((after
    (execDgDeclLength a0 a1 a2 s) s)) = cellsOf s := by simp [execDgDeclLength]
@[simp] theorem dgDataRule_cellsOf (a0 : Fin 8) (a1 : Nat) (a2 : List Byte) (s : State) : cellsOf ((dgDataRule a0 a1 a2
    s).2) = cellsOf s := by simp [dgDataRule]
@[simp] theorem execDgData_cellsOf (a0 : Port) (a1 : Fin 8) (a2 : U40) (a3 : List Byte) (s : State) : cellsOf ((after
    (execDgData a0 a1 a2 a3 s) s)) = cellsOf s := by simp [execDgData]
@[simp] theorem dgFinishRule_cellsOf (a0 : Fin 8) (s : State) : cellsOf ((dgFinishRule a0 s).2) = cellsOf s :=
  by simp [dgFinishRule]
@[simp] theorem execDgFinish_cellsOf (a0 : Port) (a1 : Fin 8) (s : State) : cellsOf ((after (execDgFinish a0 a1 s) s))
    = cellsOf s := by simp [execDgFinish]
@[simp] theorem dgReleaseRule_cellsOf (a0 : Fin 8) (s : State) : cellsOf ((dgReleaseRule a0 s).2) = cellsOf s :=
  by simp [dgReleaseRule]
@[simp] theorem execDgRelease_cellsOf (a0 : Port) (a1 : Fin 8) (s : State) : cellsOf ((after (execDgRelease a0 a1 s)
    s)) = cellsOf s := by simp [execDgRelease]
@[simp] theorem absorbKeyRule_cellsOf (a0 : Port) (a1 : Fin 8) (a2 : U16) (s : State) : cellsOf ((absorbKeyRule a0 a1
    a2 s).2) = cellsOf s := by simp [absorbKeyRule]
@[simp] theorem execAbsorbKey_cellsOf (a0 : Port) (a1 : Fin 8) (a2 : U16) (s : State) : cellsOf ((after (execAbsorbKey
    a0 a1 a2 s) s)) = cellsOf s := by simp [execAbsorbKey]
@[simp] theorem exportRule_cellsOf (a0 : Fin 8) (s : State) : cellsOf ((exportRule a0 s).2) = cellsOf s :=
  by simp [exportRule]
@[simp] theorem execExportState_cellsOf (a0 : Port) (a1 : Fin 8) (s : State) : cellsOf ((after (execExportState a0 a1
    s) s)) = cellsOf s := by simp [execExportState]
@[simp] theorem importRule_cellsOf (a0 : Fin 8) (s : State) : cellsOf ((importRule a0 s).2) = cellsOf s :=
  by simp [importRule]
@[simp] theorem execImportState_cellsOf (a0 : Port) (a1 : Fin 8) (s : State) : cellsOf ((after (execImportState a0 a1
    s) s)) = cellsOf s := by simp [execImportState]
@[simp] theorem modSource_cellsOf (a0 : Nat) (a1 : Source → Source) (s : State) : cellsOf (modSource a0 a1 s) = cellsOf
    s := by simp [modSource]
@[simp] theorem journalDrbg_cellsOf (a0 : Nat) (a1 : Nat) (s : State) : cellsOf (journalDrbg a0 a1 s) = cellsOf s :=
  by simp [journalDrbg]
@[simp] theorem drbgReseed_cellsOf (a0 : List Byte) (s : State) : cellsOf (drbgReseed a0 s) = cellsOf s :=
  by simp [drbgReseed]
@[simp] theorem kickReseed_cellsOf (s : State) : cellsOf (kickReseed s) = cellsOf s := by
  unfold kickReseed
  (repeat' split) <;> simp [apply_ite cellsOf, apply_ite Prod.snd]
@[simp] theorem drbgExpire_cellsOf (s : State) : cellsOf (drbgExpire s) = cellsOf s := by simp [drbgExpire]
@[simp] theorem drbgThresholds_cellsOf (s : State) : cellsOf (drbgThresholds s) = cellsOf s := by
  unfold drbgThresholds
  simp [apply_ite cellsOf, apply_ite Prod.snd]
@[simp] theorem wireDeliver_cellsOf (a0 : Nat) (s : State) : cellsOf (wireDeliver a0 s) = cellsOf s := by
  unfold wireDeliver
  (repeat' (first | dsimp only | split)) <;> (try simp only [drbgGenerate_some, storeRecord_ok, Prod.ext_iff] at *) <;> (try casesm* _ ∧ _) <;>
    subst_vars <;> simp [*, apply_ite cellsOf, apply_ite Prod.snd]
@[simp] theorem serveWires_cellsOf (s : State) : cellsOf (serveWires s) = cellsOf s := by
  unfold serveWires
  dsimp only
  split
  · refine (foldl_cellsOf _ (fun t x => by simp) _ _).trans ((foldl_cellsOf _ (fun t x => ?_) _ _).trans (by simp))
    split
    · rename_i h; simp only [drbgGenerate_some, Prod.ext_iff] at h; obtain ⟨_, _, rfl⟩ := h; simp
    · rfl
  · rfl
@[simp] theorem wireTimeout_cellsOf (a0 : Nat) (s : State) : cellsOf (wireTimeout a0 s) = cellsOf s :=
  by simp [wireTimeout]
@[simp] theorem wireGenerate_cellsOf (a0 : Nat) (a1 : Nat) (s : State) : cellsOf ((wireGenerate a0 a1 s).2) = cellsOf s
    := by
  unfold wireGenerate
  (repeat' (first | dsimp only | split)) <;> (try simp only [drbgGenerate_some, storeRecord_ok, Prod.ext_iff] at *) <;> (try casesm* _ ∧ _) <;>
    subst_vars <;> simp [*, apply_ite cellsOf, apply_ite Prod.snd]
@[simp] theorem drbgInstantiate_cellsOf (a0 : List Byte) (s : State) : cellsOf (drbgInstantiate a0 s) = cellsOf s :=
  by simp [drbgInstantiate]
@[simp] theorem kickInstantiate_cellsOf (s : State) : cellsOf (kickInstantiate s) = cellsOf s := by
  unfold kickInstantiate
  (repeat' split) <;> simp [apply_ite cellsOf, apply_ite Prod.snd]
@[simp] theorem drbgFresh_cellsOf (a0 : List Byte) (s : State) : cellsOf (drbgFresh a0 s) = cellsOf s := by
  unfold drbgFresh
  simp [apply_ite cellsOf, apply_ite Prod.snd]
@[simp] theorem drbgZero_cellsOf (s : State) : cellsOf (drbgZero s) = cellsOf s := by simp [drbgZero]
@[simp] theorem eraseRandom_cellsOf (s : State) : cellsOf (eraseRandom s) = cellsOf s := by simp [eraseRandom]
@[simp] theorem assignWindow_cellsOf (a0 : List Byte) (s : State) : cellsOf (assignWindow a0 s) = cellsOf s := by
  unfold assignWindow
  simp only [apply_ite cellsOf, apply_ite Prod.snd]
  (repeat' split) <;> simp [*]
@[simp] theorem nextSource_cellsOf (a0 : Nat) (s : State) : cellsOf (nextSource a0 s) = cellsOf s := by
  unfold nextSource
  split <;> simp
@[simp] theorem countSourceFail_cellsOf (a0 : Nat) (a1 : Nat) (a2 : Bool) (s : State) : cellsOf (countSourceFail a0 a1
    a2 s) = cellsOf s := by simp [countSourceFail]
@[simp] theorem dropRaw_cellsOf (s : State) : cellsOf (dropRaw s) = cellsOf s := by simp [dropRaw]
@[simp] theorem sourceAlarm_cellsOf (a0 : Nat) (a1 : Bool) (s : State) : cellsOf (sourceAlarm a0 a1 s) = cellsOf s :=
  by simp [sourceAlarm]
@[simp] theorem startupEnd_cellsOf (a0 : Nat) (a1 : Window) (s : State) : cellsOf (startupEnd a0 a1 s) = cellsOf s := by
  unfold startupEnd
  (repeat' split) <;> simp [apply_ite cellsOf, apply_ite Prod.snd]
@[simp] theorem entropyStep_cellsOf (s : State) : cellsOf (entropyStep s) = cellsOf s := by
  unfold entropyStep
  simp [apply_ite cellsOf, apply_ite Prod.snd]
@[simp] theorem execStartupTestComplete_cellsOf (a0 : Fin 3) (a1 : Window) (s : State) : cellsOf ((after
    (execStartupTestComplete a0 a1 s) s)) = cellsOf s := by
  unfold execStartupTestComplete
  split <;> simp
@[simp] theorem execSourceAlarm_cellsOf (a0 : Bool) (s : State) : cellsOf ((after (execSourceAlarm a0 s) s)) = cellsOf
    s := by
  unfold execSourceAlarm
  split <;> simp
@[simp] theorem execWindowPass_cellsOf (a0 : Window) (s : State) : cellsOf ((after (execWindowPass a0 s) s)) = cellsOf
    s := by
  unfold execWindowPass
  simp only [apply_ite cellsOf, apply_ite Prod.snd]
  (repeat' split) <;> simp [*]
@[simp] theorem srcReinstateRule_cellsOf (a0 : Nat) (a1 : Window) (s : State) : cellsOf ((srcReinstateRule a0 a1 s).2)
    = cellsOf s := by
  unfold srcReinstateRule
  simp [apply_ite cellsOf, apply_ite Prod.snd]
@[simp] theorem execSrcReinstate_cellsOf (a0 : Port) (a1 : U8) (a2 : Window) (s : State) : cellsOf ((after
    (execSrcReinstate a0 a1 a2 s) s)) = cellsOf s := by simp [execSrcReinstate]
@[simp] theorem execAutoReseed_cellsOf (s : State) : cellsOf ((after (execAutoReseed s) s)) = cellsOf s := by
  unfold execAutoReseed
  split <;> simp
@[simp] theorem execDrbgExpiry_cellsOf (a0 : Bool) (s : State) : cellsOf ((after (execDrbgExpiry a0 s) s)) = cellsOf s
    := by
  unfold execDrbgExpiry
  simp only [apply_ite cellsOf, apply_ite Prod.snd]
  (repeat' split) <;> simp [*]
@[simp] theorem execDrbgParityError_cellsOf (s : State) : cellsOf ((after (execDrbgParityError s) s)) = cellsOf s := by
  unfold execDrbgParityError
  split <;> simp
@[simp] theorem reseedRule_cellsOf (a0 : Option Window) (s : State) : cellsOf ((reseedRule a0 s).2) = cellsOf s := by
  unfold reseedRule
  (repeat' split) <;> simp [apply_ite cellsOf, apply_ite Prod.snd]
@[simp] theorem execReseed_cellsOf (a0 : Port) (a1 : Option Window) (s : State) : cellsOf ((after (execReseed a0 a1 s)
    s)) = cellsOf s := by simp [execReseed]
@[simp] theorem execPrivateWireRequest_cellsOf (a0 : Fin 5) (a1 : Bool) (s : State) : cellsOf ((after
    (execPrivateWireRequest a0 a1 s) s)) = cellsOf s := by
  unfold execPrivateWireRequest
  simp only [apply_ite cellsOf, apply_ite Prod.snd]
  (repeat' split) <;> simp [*]
@[simp] theorem rawTake_cellsOf (a0 : Port) (a1 : Nat) (s : State) : cellsOf ((rawTake a0 a1 s).2) = cellsOf s := by
  unfold rawTake
  (repeat' (first | dsimp only | split)) <;> (try simp only [drbgGenerate_some, storeRecord_ok, Prod.ext_iff] at *) <;> (try casesm* _ ∧ _) <;>
    subst_vars <;> simp [*, apply_ite cellsOf, apply_ite Prod.snd]
@[simp] theorem rawWordRule_cellsOf (a0 : Port) (s : State) : cellsOf ((rawWordRule a0 s).2.2) = cellsOf s := by
  unfold rawWordRule
  (repeat' (first | dsimp only | split)) <;> (try simp only [drbgGenerate_some, storeRecord_ok, Prod.ext_iff] at *) <;> (try casesm* _ ∧ _) <;>
    subst_vars <;> simp [*, apply_ite cellsOf, apply_ite Prod.snd]
@[simp] theorem execRawWordRead_cellsOf (a0 : Port) (s : State) : cellsOf ((after (execRawWordRead a0 s) s)) = cellsOf
    s := by simp [execRawWordRead]
@[simp] theorem rawBlockRule_cellsOf (a0 : Port) (a1 : Nat) (s : State) : cellsOf ((rawBlockRule a0 a1 s).2.2) =
    cellsOf s := by
  unfold rawBlockRule
  (repeat' (first | dsimp only | split)) <;> (try simp only [drbgGenerate_some, storeRecord_ok, Prod.ext_iff] at *) <;> (try casesm* _ ∧ _) <;>
    subst_vars <;> simp [*, apply_ite cellsOf, apply_ite Prod.snd]
@[simp] theorem execRawBlockRead_cellsOf (a0 : Port) (a1 : U16) (s : State) : cellsOf ((after (execRawBlockRead a0 a1
    s) s)) = cellsOf s := by simp [execRawBlockRead]
@[simp] theorem rawSelectRule_cellsOf (a0 : Port) (a1 : U8) (s : State) : cellsOf ((rawSelectRule a0 a1 s).2) = cellsOf
    s := by
  unfold rawSelectRule
  simp [apply_ite cellsOf, apply_ite Prod.snd]
@[simp] theorem execRawSelectWrite_cellsOf (a0 : Port) (a1 : U8) (s : State) : cellsOf ((after (execRawSelectWrite a0
    a1 s) s)) = cellsOf s := by simp [execRawSelectWrite]
@[simp] theorem patternSwitch_cellsOf (a0 : Bool) (s : State) : cellsOf (patternSwitch a0 s) = cellsOf s :=
  by simp [patternSwitch]
@[simp] theorem patternOn_cellsOf (s : State) : cellsOf (patternOn s) = cellsOf s := by simp [patternOn]
@[simp] theorem patternOff_cellsOf (s : State) : cellsOf (patternOff s) = cellsOf s := by
  unfold patternOff
  (repeat' split) <;> simp [apply_ite cellsOf, apply_ite Prod.snd]
@[simp] theorem testPatternRule_cellsOf (a0 : Bool) (s : State) : cellsOf ((testPatternRule a0 s).2) = cellsOf s := by
  unfold testPatternRule
  simp [apply_ite cellsOf, apply_ite Prod.snd]
@[simp] theorem execTestPatternWrite_cellsOf (a0 : Port) (a1 : Bool) (s : State) : cellsOf ((after
    (execTestPatternWrite a0 a1 s) s)) = cellsOf s := by simp [execTestPatternWrite]
@[simp] theorem cxOp_cellsOf (a0 : Fin 4) (a1 : CxJob → U8 × CxJob) (s : State) : cellsOf ((cxOp a0 a1 s).2) = cellsOf
    s := by simp [cxOp]
@[simp] theorem cxAllocRule_cellsOf (a0 : Port) (s : State) : cellsOf ((cxAllocRule a0 s).2) = cellsOf s := by
  unfold cxAllocRule
  (repeat' split) <;> simp [apply_ite cellsOf, apply_ite Prod.snd]
@[simp] theorem execCxAlloc_cellsOf (a0 : Port) (s : State) : cellsOf ((after (execCxAlloc a0 s) s)) = cellsOf s :=
  by simp [execCxAlloc]
@[simp] theorem cxWriteRule_cellsOf (a0 : Fin 4) (a1 : Nat) (a2 : List Byte) (s : State) : cellsOf ((cxWriteRule a0 a1
    a2 s).2) = cellsOf s := by simp [cxWriteRule]
@[simp] theorem maskRefresh_cellsOf (s : State) : cellsOf (maskRefresh s) = cellsOf s := by
  unfold maskRefresh
  (repeat' (first | dsimp only | split)) <;> (try simp only [drbgGenerate_some, storeRecord_ok, Prod.ext_iff] at *) <;> (try casesm* _ ∧ _) <;>
    subst_vars <;> simp [*, apply_ite cellsOf, apply_ite Prod.snd]
@[simp] theorem cxDeclRule_cellsOf (a0 : Port) (a1 : Fin 4) (a2 : U40) (s : State) : cellsOf ((cxDeclRule a0 a1 a2
    s).2) = cellsOf s := by
  unfold cxDeclRule
  simp [apply_ite cellsOf, apply_ite Prod.snd]
@[simp] theorem execCxDeclLength_cellsOf (a0 : Port) (a1 : Fin 4) (a2 : U40) (s : State) : cellsOf ((after
    (execCxDeclLength a0 a1 a2 s) s)) = cellsOf s := by simp [execCxDeclLength]
@[simp] theorem cxDataRule_cellsOf (a0 : Fin 4) (a1 : Nat) (a2 : List Byte) (s : State) : cellsOf ((cxDataRule a0 a1 a2
    s).2) = cellsOf s := by simp [cxDataRule]
@[simp] theorem execCxData_cellsOf (a0 : Port) (a1 : Fin 4) (a2 : U40) (a3 : List Byte) (s : State) : cellsOf ((after
    (execCxData a0 a1 a2 a3 s) s)) = cellsOf s := by simp [execCxData]
@[simp] theorem cxReadRule_cellsOf (a0 : Fin 4) (a1 : Nat) (a2 : Nat) (s : State) : cellsOf ((cxReadRule a0 a1 a2
    s).2.2) = cellsOf s := by simp [cxReadRule]
@[simp] theorem cxFinishRule_cellsOf (a0 : Fin 4) (s : State) : cellsOf ((cxFinishRule a0 s).2) = cellsOf s :=
  by simp [cxFinishRule]
@[simp] theorem execCxFinish_cellsOf (a0 : Port) (a1 : Fin 4) (s : State) : cellsOf ((after (execCxFinish a0 a1 s) s))
    = cellsOf s := by simp [execCxFinish]
@[simp] theorem cxReleaseRule_cellsOf (a0 : Fin 4) (s : State) : cellsOf ((cxReleaseRule a0 s).2) = cellsOf s :=
  by simp [cxReleaseRule]
@[simp] theorem execCxRelease_cellsOf (a0 : Port) (a1 : Fin 4) (s : State) : cellsOf ((after (execCxRelease a0 a1 s)
    s)) = cellsOf s := by simp [execCxRelease]
@[simp] theorem retireDigest_cellsOf (a0 : Nat) (s : State) : cellsOf (retireDigest a0 s) = cellsOf s :=
  by simp [retireDigest]
@[simp] theorem retireCipher_cellsOf (a0 : Nat) (s : State) : cellsOf (retireCipher a0 s) = cellsOf s :=
  by simp [retireCipher]
@[simp] theorem chargeDigest_cellsOf (s : State) : cellsOf (chargeDigest s) = cellsOf s := by
  unfold chargeDigest
  simp [apply_ite cellsOf, apply_ite Prod.snd]
@[simp] theorem chargeCipher_cellsOf (s : State) : cellsOf (chargeCipher s) = cellsOf s := by
  unfold chargeCipher
  simp [apply_ite cellsOf, apply_ite Prod.snd]
@[simp] theorem execEngineParityError_cellsOf (a0 : Bool) (a1 : Fin 8) (s : State) : cellsOf ((after
    (execEngineParityError a0 a1 s) s)) = cellsOf s := by
  unfold execEngineParityError
  (repeat' split) <;> simp [apply_ite cellsOf, apply_ite Prod.snd]

end Sys2Proof.Laws
end

