-- ==== Sys2Proof/Laws/CellsChan.lean ====
section
/-! SUPPORT. What leaves the bytes of the physical flashes as it is: channel commands, timers and the commit. -/
namespace Sys2Proof.Laws
open Sys2Proof.Machine
set_option linter.unusedVariables false
set_option linter.unusedSimpArgs false
set_option linter.unnecessarySeqFocus false
set_option linter.unreachableTactic false
set_option linter.unusedTactic false
set_option maxRecDepth 4000

@[simp] theorem flushRule_cellsOf (s : State) : cellsOf ((flushRule s).2) = cellsOf s := by simp [flushRule]
@[simp] theorem execFlush_cellsOf (a0 : Port) (s : State) : cellsOf ((after (execFlush a0 s) s)) = cellsOf s :=
  by simp [execFlush]
@[simp] theorem hayloftReqRule_cellsOf (a0 : U8) (s : State) : cellsOf ((hayloftReqRule a0 s).2) = cellsOf s := by
  unfold hayloftReqRule
  simp [apply_ite cellsOf, apply_ite Prod.snd]
@[simp] theorem execHayloftReqStateWrite_cellsOf (a0 : Port) (a1 : U8) (s : State) : cellsOf ((after
    (execHayloftReqStateWrite a0 a1 s) s)) = cellsOf s := by simp [execHayloftReqStateWrite]
@[simp] theorem channelReqRule_cellsOf (a0 : Chan) (a1 : U8) (a2 : Bool) (s : State) : cellsOf ((channelReqRule a0 a1
    a2 s).2) = cellsOf s := by
  unfold channelReqRule
  simp [apply_ite cellsOf, apply_ite Prod.snd]
@[simp] theorem execChannelReqStateWrite_cellsOf (a0 : Port) (a1 : Chan) (a2 : U8) (a3 : Bool) (s : State) : cellsOf
    ((after (execChannelReqStateWrite a0 a1 a2 a3 s) s)) = cellsOf s := by simp [execChannelReqStateWrite]
@[simp] theorem vaultFollow_cellsOf (a0 : Bool) (s : State) : cellsOf (vaultFollow a0 s) = cellsOf s := by
  unfold vaultFollow
  simp [apply_ite cellsOf, apply_ite Prod.snd]
@[simp] theorem execReqStateBoundary_cellsOf (a0 : Fin 9) (s : State) : cellsOf ((after (execReqStateBoundary a0 s) s))
    = cellsOf s := by
  unfold execReqStateBoundary
  (repeat' split) <;> simp [apply_ite cellsOf, apply_ite Prod.snd]
@[simp] theorem deriveIds_cellsOf (a0 : Chan) (s : State) : cellsOf (deriveIds a0 s) = cellsOf s := by simp [deriveIds]
@[simp] theorem resettleCtxs_cellsOf (s : State) : cellsOf (resettleCtxs s) = cellsOf s := by
  unfold resettleCtxs
  refine (foldl_cellsOf _ (fun t x => ?_) _ _).trans rfl
  dsimp only
  split
  · simp
  · split
    · rfl
    · split <;> simp
@[simp] theorem setCompileFault_cellsOf (a0 : Chan) (a1 : CompileFail) (s : State) : cellsOf (setCompileFault a0 a1 s)
    = cellsOf s := by simp [setCompileFault]
@[simp] theorem recompile_cellsOf (a0 : Chan) (s : State) : cellsOf (recompile a0 s) = cellsOf s := by
  unfold recompile
  (repeat' (first | dsimp only | split)) <;> simp [apply_ite cellsOf, apply_ite Prod.snd]
@[simp] theorem execPlatPgFall_cellsOf (a0 : Chan) (s : State) : cellsOf ((after (execPlatPgFall a0 s) s)) = cellsOf s
    := by
  unfold execPlatPgFall
  (repeat' split) <;> simp [apply_ite cellsOf, apply_ite Prod.snd]
@[simp] theorem execPlatPgRise_cellsOf (a0 : Chan) (s : State) : cellsOf ((after (execPlatPgRise a0 s) s)) = cellsOf s
    := by
  unfold execPlatPgRise
  simp [apply_ite cellsOf, apply_ite Prod.snd]
@[simp] theorem dropPoisoned_cellsOf (a0 : Chan) (s : State) : cellsOf (dropPoisoned a0 s) = cellsOf s :=
  by simp [dropPoisoned]
@[simp] theorem clearHoldRule_cellsOf (a0 : Chan) (s : State) : cellsOf ((clearHoldRule a0 s).2) = cellsOf s := by
  unfold clearHoldRule
  simp [apply_ite cellsOf, apply_ite Prod.snd]
@[simp] theorem execClearHold_cellsOf (a0 : Port) (a1 : Chan) (s : State) : cellsOf ((after (execClearHold a0 a1 s) s))
    = cellsOf s := by simp [execClearHold]
@[simp] theorem endTakeover_cellsOf (a0 : Chan) (s : State) : cellsOf (endTakeover a0 s) = cellsOf s := by
  unfold endTakeover
  simp [apply_ite cellsOf, apply_ite Prod.snd]
@[simp] theorem reinstateRule_cellsOf (a0 : Chan) (a1 : Option (Fin 5)) (s : State) : cellsOf ((reinstateRule a0 a1
    s).2) = cellsOf s := by
  unfold reinstateRule
  simp only [apply_ite cellsOf, apply_ite Prod.snd]
  (repeat' split) <;> simp [*]
@[simp] theorem execReinstate_cellsOf (a0 : Port) (a1 : Chan) (a2 : Option (Fin 5)) (s : State) : cellsOf ((after
    (execReinstate a0 a1 a2 s) s)) = cellsOf s := by simp [execReinstate]
@[simp] theorem fallowReinstateRule_cellsOf (a0 : Option (Fin 5)) (s : State) : cellsOf ((fallowReinstateRule a0 s).2)
    = cellsOf s := by
  unfold fallowReinstateRule
  (repeat' split) <;> simp [apply_ite cellsOf, apply_ite Prod.snd]
@[simp] theorem execFallowReinstate_cellsOf (a0 : Port) (a1 : Option (Fin 5)) (s : State) : cellsOf ((after
    (execFallowReinstate a0 a1 s) s)) = cellsOf s := by simp [execFallowReinstate]
@[simp] theorem fallowReqRule_cellsOf (a0 : U8) (s : State) : cellsOf ((fallowReqRule a0 s).2) = cellsOf s := by
  unfold fallowReqRule
  simp [apply_ite cellsOf, apply_ite Prod.snd]
@[simp] theorem execFallowReqStateWrite_cellsOf (a0 : Port) (a1 : U8) (s : State) : cellsOf ((after
    (execFallowReqStateWrite a0 a1 s) s)) = cellsOf s := by simp [execFallowReqStateWrite]
@[simp] theorem fallowServes_cellsOf (a0 : Chan) (a1 : Nat) (s : State) : cellsOf (fallowServes a0 a1 s) = cellsOf s :=
  by simp [fallowServes]
@[simp] theorem execHotTakeoverSwitch_cellsOf (a0 : Chan) (s : State) : cellsOf ((after (execHotTakeoverSwitch a0 s)
    s)) = cellsOf s := by
  unfold execHotTakeoverSwitch
  split <;> simp
@[simp] theorem execColdTakeoverConnect_cellsOf (a0 : Chan) (a1 : Bool) (s : State) : cellsOf ((after
    (execColdTakeoverConnect a0 a1 s) s)) = cellsOf s := by
  unfold execColdTakeoverConnect
  simp only [apply_ite cellsOf, apply_ite Prod.snd]
  (repeat' split) <;> simp [*]
@[simp] theorem execFallowHandback_cellsOf (a0 : Chan) (s : State) : cellsOf ((after (execFallowHandback a0 s) s)) =
    cellsOf s := by
  unfold execFallowHandback
  split <;> simp
@[simp] theorem execIndexWordReload_cellsOf (a0 : Fin 8) (a1 : Nat) (s : State) : cellsOf ((after (execIndexWordReload
    a0 a1 s) s)) = cellsOf s := by
  unfold execIndexWordReload
  simp only [apply_ite cellsOf, apply_ite Prod.snd]
  (repeat' split) <;> simp [*]
@[simp] theorem execChannelRelease_cellsOf (a0 : Chan) (a1 : BitVec 8) (s : State) : cellsOf ((after
    (execChannelRelease a0 a1 s) s)) = cellsOf s := by
  unfold execChannelRelease
  simp only [apply_ite cellsOf, apply_ite Prod.snd]
  (repeat' split) <;> simp [*]
@[simp] theorem execRelDelayExpiry_cellsOf (a0 : Chan) (a1 : BitVec 8) (s : State) : cellsOf ((after
    (execRelDelayExpiry a0 a1 s) s)) = cellsOf s := by
  unfold execRelDelayExpiry
  split <;> simp
@[simp] theorem depExpire_cellsOf (a0 : Chan) (s : State) : cellsOf (depExpire a0 s) = cellsOf s := by
  unfold depExpire
  simp [apply_ite cellsOf, apply_ite Prod.snd]
@[simp] theorem execDepTimeoutExpiry_cellsOf (a0 : Chan) (s : State) : cellsOf ((after (execDepTimeoutExpiry a0 s) s))
    = cellsOf s := by simp [execDepTimeoutExpiry]
@[simp] theorem wdBegin_cellsOf (a0 : Bool) (a1 : Nat) (a2 : Nat) (a3 : Nat) (s : State) : cellsOf (wdBegin a0 a1 a2 a3
    s) = cellsOf s := by simp [wdBegin]
@[simp] theorem wdWindow_cellsOf (s : State) : cellsOf (wdWindow s) = cellsOf s := by simp [wdWindow]
@[simp] theorem wdRecovery_cellsOf (s : State) : cellsOf (wdRecovery s) = cellsOf s := by simp [wdRecovery]
@[simp] theorem timerHalt_cellsOf (a0 : Fin 8) (s : State) : cellsOf (timerHalt a0 s) = cellsOf s := by simp [timerHalt]
@[simp] theorem tuStartRule_cellsOf (a0 : Fin 8) (s : State) : cellsOf ((tuStartRule a0 s).2) = cellsOf s := by
  unfold tuStartRule
  simp [apply_ite cellsOf, apply_ite Prod.snd]
@[simp] theorem tuStopRule_cellsOf (a0 : Fin 8) (s : State) : cellsOf ((tuStopRule a0 s).2) = cellsOf s :=
  by simp [tuStopRule]
@[simp] theorem tuWriteRule_cellsOf (a0 : Fin 8) (a1 : Nat) (a2 : Nat) (s : State) : cellsOf ((tuWriteRule a0 a1 a2
    s).2) = cellsOf s := by
  unfold tuWriteRule
  simp [apply_ite cellsOf, apply_ite Prod.snd]
@[simp] theorem execTuStart_cellsOf (a0 : Port) (a1 : Fin 8) (s : State) : cellsOf ((after (execTuStart a0 a1 s) s)) =
    cellsOf s := by simp [execTuStart]
@[simp] theorem execTuStop_cellsOf (a0 : Port) (a1 : Fin 8) (s : State) : cellsOf ((after (execTuStop a0 a1 s) s)) =
    cellsOf s := by simp [execTuStop]
@[simp] theorem execTuExpiry_cellsOf (a0 : Fin 8) (s : State) : cellsOf ((after (execTuExpiry a0 s) s)) = cellsOf s := by
  unfold execTuExpiry
  simp only [apply_ite cellsOf, apply_ite Prod.snd]
  (repeat' split) <;> simp [*]
@[simp] theorem stageRule_cellsOf (a0 : Port) (a1 : Nat) (a2 : Nat) (a3 : List Byte) (s : State) : cellsOf ((stageRule
    a0 a1 a2 a3 s).2) = cellsOf s := by
  unfold stageRule
  simp [apply_ite cellsOf, apply_ite Prod.snd]
@[simp] theorem ruleDataRule_cellsOf (a0 : Port) (a1 : RuleRow) (s : State) : cellsOf ((ruleDataRule a0 a1 s).2) =
    cellsOf s := by
  unfold ruleDataRule
  simp [apply_ite cellsOf, apply_ite Prod.snd]
@[simp] theorem ruleDomainRule_cellsOf (a0 : Port) (a1 : Nat) (a2 : List Byte) (s : State) : cellsOf ((ruleDomainRule
    a0 a1 a2 s).2) = cellsOf s := by
  unfold ruleDomainRule
  simp [apply_ite cellsOf, apply_ite Prod.snd]
@[simp] theorem execRuleDataWrite_cellsOf (a0 : Port) (a1 : RuleRow) (s : State) : cellsOf ((after (execRuleDataWrite
    a0 a1 s) s)) = cellsOf s := by simp [execRuleDataWrite]
@[simp] theorem execRuleDomainWrite_cellsOf (a0 : Port) (a1 : U40) (a2 : List Byte) (s : State) : cellsOf ((after
    (execRuleDomainWrite a0 a1 a2 s) s)) = cellsOf s := by simp [execRuleDomainWrite]
@[simp] theorem withStaged_cellsOf (a0 : Port) (s : State) : cellsOf (withStaged a0 s) = cellsOf s := by simp [withStaged]
@[simp] theorem setCompile_cellsOf (a0 : Port) (a1 : Option CompileFail × Nat) (s : State) : cellsOf (setCompile a0 a1
    s) = cellsOf s := by simp [setCompile]
@[simp] theorem ruleSteps_cellsOf (t : State) (a1 : Port) (s : State) : cellsOf ((ruleSteps t a1 s).2) = cellsOf s := by
  unfold ruleSteps
  simp only [apply_ite cellsOf, apply_ite Prod.snd]
  (repeat' split) <;> simp [*]
@[simp] theorem stopFreed_cellsOf (old : State) (s : State) : cellsOf (stopFreed old s) = cellsOf s := by
  unfold stopFreed
  simp [apply_ite cellsOf, apply_ite Prod.snd]
@[simp] theorem smbDue_cellsOf (old : State) (s : State) : cellsOf (smbDue old s) = cellsOf s := by
  unfold smbDue
  simp [apply_ite cellsOf, apply_ite Prod.snd]
@[simp] theorem smbApply_cellsOf (s : State) : cellsOf (smbApply s) = cellsOf s := by simp [smbApply]
@[simp] theorem applyCommit_cellsOf (a0 : Port) (t : State) (s : State) : cellsOf (applyCommit a0 t s) = cellsOf t := by
  unfold applyCommit
  simp [apply_ite cellsOf]
@[simp] theorem commitRule_cellsOf (a0 : Port) (s : State) : cellsOf ((commitRule a0 s).2) = cellsOf s := by
  unfold commitRule
  dsimp only
  split
  · simp
  · split
    · simp
    · split <;> simp
@[simp] theorem discardRule_cellsOf (a0 : Port) (s : State) : cellsOf ((discardRule a0 s).2) = cellsOf s :=
  by simp [discardRule]
@[simp] theorem checkRule_cellsOf (a0 : Port) (s : State) : cellsOf ((checkRule a0 s).2) = cellsOf s := by
  unfold checkRule
  split
  · rfl
  · simp
@[simp] theorem execCommit_cellsOf (a0 : Port) (s : State) : cellsOf ((after (execCommit a0 s) s)) = cellsOf s :=
  by simp [execCommit]
@[simp] theorem execDiscard_cellsOf (a0 : Port) (s : State) : cellsOf ((after (execDiscard a0 s) s)) = cellsOf s :=
  by simp [execDiscard]
@[simp] theorem execCheck_cellsOf (a0 : Port) (s : State) : cellsOf ((after (execCheck a0 s) s)) = cellsOf s :=
  by simp [execCheck]

end Sys2Proof.Laws
end

