-- ==== Sys2Proof/Laws/CellsUpdate.lean ====
section
/-! SUPPORT. What leaves the bytes of the physical flashes as it is: the vault commands and the update. -/
namespace Sys2Proof.Laws
open Sys2Proof.Machine
set_option linter.unusedVariables false
set_option linter.unusedSimpArgs false
set_option linter.unnecessarySeqFocus false
set_option linter.unreachableTactic false
set_option linter.unusedTactic false
set_option maxRecDepth 4000

@[simp] theorem setLast_cellsOf (a0 : Nat) (a1 : U8) (a2 : Nat) (s : State) : cellsOf (setLast a0 a1 a2 s) = cellsOf s
    := by simp [setLast]
@[simp] theorem forgetTree_cellsOf (a0 : Nat) (s : State) : cellsOf (forgetTree a0 s) = cellsOf s := by simp [forgetTree]
@[simp] theorem registerTree_cellsOf (a0 : Nat) (a1 : TreeEntry) (s : State) : cellsOf (registerTree a0 a1 s) = cellsOf
    s := by
  unfold registerTree
  simp [apply_ite cellsOf, apply_ite Prod.snd]
@[simp] theorem registerTargets_cellsOf (a0 : List Byte) (s : State) : cellsOf (registerTargets a0 s) = cellsOf s := by
  unfold registerTargets
  simp only [unsaved_cellsOf]
  refine (foldl_cellsOf _ (fun t x => ?_) _ _).trans rfl
  split
  · split <;> simp
  · rfl
@[simp] theorem raiseCounters_cellsOf (a0 : List (Nat × Nat)) (s : State) : cellsOf (raiseCounters a0 s) = cellsOf s := by
  unfold raiseCounters
  (repeat' split) <;> simp [apply_ite cellsOf, apply_ite Prod.snd]
@[simp] theorem raiseOtp_cellsOf (a0 : List Byte) (s : State) : cellsOf (raiseOtp a0 s) = cellsOf s := by
  unfold raiseOtp
  simp [apply_ite cellsOf, apply_ite Prod.snd]
@[simp] theorem putProgress_cellsOf (s : State) : cellsOf (putProgress s) = cellsOf s := by
  unfold putProgress
  (repeat' (first | dsimp only | split)) <;> (try simp only [drbgGenerate_some, storeRecord_ok, Prod.ext_iff] at *) <;> (try casesm* _ ∧ _) <;>
    subst_vars <;> simp [*, apply_ite cellsOf, apply_ite Prod.snd]
@[simp] theorem updateIdle_cellsOf (s : State) : cellsOf (updateIdle s) = cellsOf s := by simp [updateIdle]
@[simp] theorem resumeUpdate_cellsOf (s : State) : cellsOf (resumeUpdate s) = cellsOf s := by
  unfold resumeUpdate
  (repeat' split) <;> simp [apply_ite cellsOf, apply_ite Prod.snd]
@[simp] theorem vaultUp_cellsOf (a0 : Nat) (a1 : Bool) (a2 : Bool) (a3 : EmmcInfo) (s : State) : cellsOf (vaultUp a0 a1
    a2 a3 s) = cellsOf s := by
  unfold vaultUp
  simp [apply_ite cellsOf, apply_ite Prod.snd]
@[simp] theorem retireVault_cellsOf (a0 : Nat) (s : State) : cellsOf (retireVault a0 s) = cellsOf s := by
  unfold retireVault
  dsimp only
  refine (allChans_cellsOf _ _ (fun c t => ?_)).trans ((foldl_cellsOf _ (fun t x => ?_) _ _).trans (by simp))
  · have h : ∀ x : StageOp, cellsOf (denyHost c (BitVec.toNat x.word) (modChan c (fun y => { y with stageOp := none }) t)) = cellsOf t := by simp
    split <;> split <;> (try split) <;> simp only [h, toHold_cellsOf, countEscalation_cellsOf]
  · split
    · simp
    · rfl
@[simp] theorem chargeVault_cellsOf (s : State) : cellsOf (chargeVault s) = cellsOf s := by
  unfold chargeVault
  simp [apply_ite cellsOf, apply_ite Prod.snd]
@[simp] theorem vaultReqRule_cellsOf (a0 : U8) (s : State) : cellsOf ((vaultReqRule a0 s).2) = cellsOf s := by
  unfold vaultReqRule
  simp [apply_ite cellsOf, apply_ite Prod.snd]
@[simp] theorem execVaultReqStateWrite_cellsOf (a0 : Port) (a1 : U8) (s : State) : cellsOf ((after
    (execVaultReqStateWrite a0 a1 s) s)) = cellsOf s := by simp [execVaultReqStateWrite]
@[simp] theorem vaultReinstateRule_cellsOf (a0 : VaultTry) (a1 : EmmcInfo) (s : State) : cellsOf ((vaultReinstateRule
    a0 a1 s).2) = cellsOf s := by
  unfold vaultReinstateRule
  (repeat' split) <;> simp [apply_ite cellsOf, apply_ite Prod.snd]
@[simp] theorem execVaultReinstate_cellsOf (a0 : Port) (a1 : VaultTry) (a2 : EmmcInfo) (s : State) : cellsOf ((after
    (execVaultReinstate a0 a1 a2 s) s)) = cellsOf s := by simp [execVaultReinstate]
@[simp] theorem stageDone_cellsOf (a0 : Chan) (s : State) : cellsOf (stageDone a0 s) = cellsOf s := by
  unfold stageDone
  (repeat' (first | dsimp only | split)) <;> (try simp only [drbgGenerate_some, storeRecord_ok, Prod.ext_iff] at *) <;> (try casesm* _ ∧ _) <;>
    subst_vars <;> simp [*, apply_ite cellsOf, apply_ite Prod.snd]
@[simp] theorem scanDoneStep_cellsOf (a0 : Nat) (s : State) : cellsOf (scanDoneStep a0 s) = cellsOf s := by
  unfold scanDoneStep
  simp only [apply_ite cellsOf, apply_ite Prod.snd]
  (repeat' split) <;> simp [*]
@[simp] theorem scratchDone_cellsOf (a0 : Chan) (s : State) : cellsOf (scratchDone a0 s) = cellsOf s := by
  unfold scratchDone
  (repeat' split) <;> simp [apply_ite cellsOf, apply_ite Prod.snd]
@[simp] theorem vaultOpDone_cellsOf (a0 : VaultOp) (s : State) : cellsOf (vaultOpDone a0 s) = cellsOf s := by
  unfold vaultOpDone
  split <;> simp
@[simp] theorem vaultCmdFail_cellsOf (s : State) : cellsOf (vaultCmdFail s) = cellsOf s := by
  unfold vaultCmdFail
  simp [apply_ite cellsOf, apply_ite Prod.snd]
@[simp] theorem execVaultIoComplete_cellsOf (a0 : EmmcEnd) (s : State) : cellsOf ((after (execVaultIoComplete a0 s) s))
    = cellsOf s := by
  unfold execVaultIoComplete
  (repeat' split) <;> simp [apply_ite cellsOf, apply_ite Prod.snd]
@[simp] theorem saveConfig_cellsOf (s : State) : cellsOf (saveConfig s) = cellsOf s := by
  unfold saveConfig
  (repeat' (first | dsimp only | split)) <;> (try simp only [drbgGenerate_some, storeRecord_ok, Prod.ext_iff] at *) <;> (try casesm* _ ∧ _) <;>
    subst_vars <;> simp [*, apply_ite cellsOf, apply_ite Prod.snd]
@[simp] theorem execConfigSetSave_cellsOf (a0 : WriteEnd) (s : State) : cellsOf ((after (execConfigSetSave a0 s) s)) =
    cellsOf s := by
  unfold execConfigSetSave
  split <;> simp
@[simp] theorem archive_cellsOf (s : State) : cellsOf (archive s) = cellsOf s := by
  unfold archive
  (repeat' (first | dsimp only | split)) <;> (try simp only [drbgGenerate_some, storeRecord_ok, Prod.ext_iff] at *) <;> (try casesm* _ ∧ _) <;>
    subst_vars <;> simp [*, apply_ite cellsOf, apply_ite Prod.snd]
@[simp] theorem execArchiveWrite_cellsOf (a0 : WriteEnd) (s : State) : cellsOf ((after (execArchiveWrite a0 s) s)) =
    cellsOf s := by
  unfold execArchiveWrite
  split <;> simp
@[simp] theorem formatRule_cellsOf (s : State) : cellsOf ((formatRule s).2) = cellsOf s := by
  unfold formatRule
  simp [apply_ite cellsOf, apply_ite Prod.snd]
@[simp] theorem execFormat_cellsOf (a0 : Port) (s : State) : cellsOf ((after (execFormat a0 s) s)) = cellsOf s :=
  by simp [execFormat]
@[simp] theorem stageClearRule_cellsOf (s : State) : cellsOf ((stageClearRule s).2) = cellsOf s := by
  unfold stageClearRule
  simp [apply_ite cellsOf, apply_ite Prod.snd]
@[simp] theorem execStageClear_cellsOf (a0 : Port) (s : State) : cellsOf ((after (execStageClear a0 s) s)) = cellsOf s
    := by simp [execStageClear]
@[simp] theorem restoreRule_cellsOf (s : State) : cellsOf ((restoreRule s).2) = cellsOf s := by
  unfold restoreRule
  simp [apply_ite cellsOf, apply_ite Prod.snd]
@[simp] theorem execRestore_cellsOf (a0 : Port) (s : State) : cellsOf ((after (execRestore a0 s) s)) = cellsOf s :=
  by simp [execRestore]
@[simp] theorem manifestRule_cellsOf (a0 : Nat) (a1 : List Byte) (s : State) : cellsOf ((manifestRule a0 a1 s).2) =
    cellsOf s := by
  unfold manifestRule
  simp [apply_ite cellsOf, apply_ite Prod.snd]
@[simp] theorem execManifestWrite_cellsOf (a0 : Port) (a1 : U40) (a2 : List Byte) (s : State) : cellsOf ((after
    (execManifestWrite a0 a1 a2 s) s)) = cellsOf s := by simp [execManifestWrite]
@[simp] theorem admitRule_cellsOf (s : State) : cellsOf ((admitRule s).2) = cellsOf s := by
  unfold admitRule
  (repeat' (first | dsimp only | split)) <;> (try simp only [drbgGenerate_some, storeRecord_ok, Prod.ext_iff] at *) <;> (try casesm* _ ∧ _) <;>
    subst_vars <;> simp [*, apply_ite cellsOf, apply_ite Prod.snd]
@[simp] theorem execAdmitManifest_cellsOf (a0 : Port) (s : State) : cellsOf ((after (execAdmitManifest a0 s) s)) =
    cellsOf s := by simp [execAdmitManifest]
@[simp] theorem setPart_cellsOf (a0 : Nat) (a1 : U8) (a2 : List Byte) (s : State) : cellsOf (setPart a0 a1 a2 s) =
    cellsOf s := by simp [setPart]
@[simp] theorem partArrived_cellsOf (a0 : MPart) (a1 : List Byte) (s : State) : cellsOf ((partArrived a0 a1 s).2) =
    cellsOf s := by
  unfold partArrived
  (repeat' split) <;> simp [apply_ite cellsOf, apply_ite Prod.snd]
theorem storePart_ok_cellsOf {part f off : Nat} {data : List Byte} {s t : State} (h : storePart part f off data s = .ok
    t) :
    cellsOf t = cellsOf s := by
  induction f generalizing off data s with
  | zero => simp [storePart] at h; rw [h]
  | succ n ih =>
    unfold storePart at h
    split at h
    · cases h; rfl
    · split at h
      · cases h
      · rename_i k u hs
        simp only [storeRecord_ok, Prod.ext_iff] at hs
        rw [ih h, ← hs.2.2]; simp
@[simp] theorem partDataRule_cellsOf (a0 : Nat) (a1 : Nat) (a2 : List Byte) (s : State) : cellsOf ((partDataRule a0 a1
    a2 s).2) = cellsOf s := by
  unfold partDataRule
  dsimp only
  repeat' split
  all_goals first | rfl | skip
  all_goals (have := storePart_ok_cellsOf ‹_›; simp [this])
@[simp] theorem execPartDataWrite_cellsOf (a0 : Port) (a1 : U40) (a2 : List Byte) (s : State) : cellsOf ((after
    (execPartDataWrite a0 a1 a2 s) s)) = cellsOf s := by simp [execPartDataWrite]
@[simp] theorem applyRule_cellsOf (s : State) : cellsOf ((applyRule s).2) = cellsOf s := by
  unfold applyRule
  simp [apply_ite cellsOf, apply_ite Prod.snd]
@[simp] theorem execApply_cellsOf (a0 : Port) (s : State) : cellsOf ((after (execApply a0 s) s)) = cellsOf s :=
  by simp [execApply]
@[simp] theorem partBase_cellsOf (a0 : MPart) (s : State) : cellsOf ((partBase a0 s).2) = cellsOf s := by
  unfold partBase
  (repeat' (first | dsimp only | split)) <;> (try simp only [drbgGenerate_some, storeRecord_ok, Prod.ext_iff] at *) <;> (try casesm* _ ∧ _) <;>
    subst_vars <;> simp [*, apply_ite cellsOf, apply_ite Prod.snd]
@[simp] theorem buildRuntime_cellsOf (a0 : MPart) (a1 : List Byte) (s : State) : cellsOf ((buildRuntime a0 a1 s).2) =
    cellsOf s := by
  unfold buildRuntime
  simp only [apply_ite cellsOf, apply_ite Prod.snd]
  (repeat' split) <;> simp [*]
@[simp] theorem seedHold_cellsOf (a0 : MPart) (s : State) : cellsOf (seedHold a0 s) = cellsOf s := by
  unfold seedHold
  simp [apply_ite cellsOf, apply_ite Prod.snd]
@[simp] theorem partEnd_cellsOf (a0 : MPart) (a1 : U8) (s : State) : cellsOf (partEnd a0 a1 s) = cellsOf s := by
  unfold partEnd
  simp [apply_ite cellsOf, apply_ite Prod.snd]
@[simp] theorem clearActivation_cellsOf (a0 : List Nat) (s : State) : cellsOf (clearActivation a0 s) = cellsOf s :=
  by simp [clearActivation]
@[simp] theorem abortRule_cellsOf (s : State) : cellsOf ((abortRule s).2) = cellsOf s := by
  unfold abortRule
  simp [apply_ite cellsOf, apply_ite Prod.snd]
@[simp] theorem execAbort_cellsOf (a0 : Port) (s : State) : cellsOf ((after (execAbort a0 s) s)) = cellsOf s :=
  by simp [execAbort]
@[simp] theorem holdAffected_cellsOf (a0 : List Nat) (s : State) : cellsOf (holdAffected a0 s) = cellsOf s := by
  unfold holdAffected
  simp [apply_ite cellsOf, apply_ite Prod.snd]
@[simp] theorem activateRule_cellsOf (s : State) : cellsOf ((activateRule s).2) = cellsOf s := by
  unfold activateRule
  simp [apply_ite cellsOf, apply_ite Prod.snd]
@[simp] theorem execActivate_cellsOf (a0 : Port) (s : State) : cellsOf ((after (execActivate a0 s) s)) = cellsOf s :=
  by simp [execActivate]
@[simp] theorem dropTargeted_cellsOf (a0 : Activation) (s : State) : cellsOf (dropTargeted a0 s) = cellsOf s :=
  by simp [dropTargeted]
@[simp] theorem switchRuntime_cellsOf (a0 : Nat) (s : State) : cellsOf (switchRuntime a0 s) = cellsOf s := by
  unfold switchRuntime
  simp [apply_ite cellsOf, apply_ite Prod.snd]
@[simp] theorem answerConfirm_cellsOf (a0 : Activation) (a1 : U8) (s : State) : cellsOf (answerConfirm a0 a1 s) =
    cellsOf s := by
  unfold answerConfirm
  split <;> simp
@[simp] theorem stileCarried_cellsOf (a0 : Activation) (a1 : List Byte) (s : State) : cellsOf (stileCarried a0 a1 s) =
    cellsOf s := by
  unfold stileCarried
  simp [apply_ite cellsOf, apply_ite Prod.snd]
@[simp] theorem stileWritten_cellsOf (a0 : StileJob) (s : State) : cellsOf (stileWritten a0 s) = cellsOf s := by
  unfold stileWritten
  simp only [apply_ite cellsOf, apply_ite Prod.snd]
  (repeat' split) <;> simp [*]
@[simp] theorem stileFailed_cellsOf (a0 : StileJob) (s : State) : cellsOf (stileFailed a0 s) = cellsOf s := by
  unfold stileFailed
  simp only [apply_ite cellsOf, apply_ite Prod.snd]
  (repeat' split) <;> simp [*]
@[simp] theorem execStileWriteComplete_cellsOf (a0 : WriteEnd) (s : State) : cellsOf ((after (execStileWriteComplete a0
    s) s)) = cellsOf s := by
  unfold execStileWriteComplete
  (repeat' split) <;> simp [apply_ite cellsOf, apply_ite Prod.snd]
@[simp] theorem clearCovered_cellsOf (a0 : Activation) (a1 : Nat) (s : State) : cellsOf (clearCovered a0 a1 s) =
    cellsOf s := by
  unfold clearCovered
  simp [apply_ite cellsOf, apply_ite Prod.snd]
@[simp] theorem activationDone_cellsOf (a0 : Activation) (s : State) : cellsOf (activationDone a0 s) = cellsOf s := by
  unfold activationDone
  simp [apply_ite cellsOf, apply_ite Prod.snd]
@[simp] theorem execPreloadComplete_cellsOf (a0 : Chan) (s : State) : cellsOf ((after (execPreloadComplete a0 s) s)) =
    cellsOf s := by
  unfold execPreloadComplete
  (repeat' split) <;> simp [apply_ite cellsOf, apply_ite Prod.snd]
@[simp] theorem confirmStart_cellsOf (a0 : Port) (s : State) : cellsOf ((confirmStart a0 s).2) = cellsOf s := by
  unfold confirmStart
  simp [apply_ite cellsOf, apply_ite Prod.snd]
@[simp] theorem execConfirm_cellsOf (a0 : Port) (s : State) : cellsOf ((after (execConfirm a0 s) s)) = cellsOf s := by
  unfold execConfirm
  (repeat' (first | dsimp only | split)) <;> (try simp only [drbgGenerate_some, storeRecord_ok, Prod.ext_iff] at *) <;> (try casesm* _ ∧ _) <;>
    subst_vars <;> simp [*, apply_ite cellsOf, apply_ite Prod.snd]
@[simp] theorem endTrial_cellsOf (a0 : U8) (a1 : U8) (s : State) : cellsOf (endTrial a0 a1 s) = cellsOf s := by
  unfold endTrial
  split <;> simp
@[simp] theorem revertRule_cellsOf (s : State) : cellsOf ((revertRule s).2) = cellsOf s := by
  unfold revertRule
  simp [apply_ite cellsOf, apply_ite Prod.snd]
@[simp] theorem execRevert_cellsOf (a0 : Port) (s : State) : cellsOf ((after (execRevert a0 s) s)) = cellsOf s :=
  by simp [execRevert]
@[simp] theorem trialExpire_cellsOf (s : State) : cellsOf (trialExpire s) = cellsOf s := by
  unfold trialExpire
  simp [apply_ite cellsOf, apply_ite Prod.snd]
@[simp] theorem execTrialExpiry_cellsOf (s : State) : cellsOf ((after (execTrialExpiry s) s)) = cellsOf s :=
  by simp [execTrialExpiry]

end Sys2Proof.Laws
end

