-- ==== Sys2Proof/Laws/CellsKeys.lean ====
section
/-! SUPPORT. What leaves the bytes of the physical flashes as it is: keys, PKE, Heath and supervision. -/
namespace Sys2Proof.Laws
open Sys2Proof.Machine
set_option linter.unusedVariables false
set_option linter.unusedSimpArgs false
set_option linter.unnecessarySeqFocus false
set_option linter.unreachableTactic false
set_option linter.unusedTactic false
set_option maxRecDepth 4000

@[simp] theorem ksLoad_cellsOf (a0 : Nat) (a1 : Nat) (a2 : Nat) (a3 : Nat) (a4 : List Byte) (s : State) : cellsOf
    (ksLoad a0 a1 a2 a3 a4 s) = cellsOf s := by simp [ksLoad]
@[simp] theorem ksDrop_cellsOf (a0 : Nat) (s : State) : cellsOf (ksDrop a0 s) = cellsOf s := by simp [ksDrop]
@[simp] theorem ksGenerateRule_cellsOf (a0 : Port) (s : State) : cellsOf ((ksGenerateRule a0 s).2) = cellsOf s := by
  unfold ksGenerateRule
  (repeat' (first | dsimp only | split)) <;> (try simp only [drbgGenerate_some, storeRecord_ok, Prod.ext_iff] at *) <;> (try casesm* _ ∧ _) <;>
    subst_vars <;> simp [*, apply_ite cellsOf, apply_ite Prod.snd]
@[simp] theorem execKsGenerate_cellsOf (a0 : Port) (s : State) : cellsOf ((after (execKsGenerate a0 s) s)) = cellsOf s
    := by simp [execKsGenerate]
@[simp] theorem ksDeriveRule_cellsOf (a0 : Port) (a1 : Nat) (s : State) : cellsOf ((ksDeriveRule a0 a1 s).2) = cellsOf
    s := by
  unfold ksDeriveRule
  simp [apply_ite cellsOf, apply_ite Prod.snd]
@[simp] theorem execKsDerive_cellsOf (a0 : Port) (a1 : U8) (s : State) : cellsOf ((after (execKsDerive a0 a1 s) s)) =
    cellsOf s := by simp [execKsDerive]
@[simp] theorem ksWrapRule_cellsOf (a0 : Port) (a1 : Nat) (s : State) : cellsOf ((ksWrapRule a0 a1 s).2) = cellsOf s := by
  unfold ksWrapRule
  simp [apply_ite cellsOf, apply_ite Prod.snd]
@[simp] theorem execKsWrap_cellsOf (a0 : Port) (a1 : U8) (s : State) : cellsOf ((after (execKsWrap a0 a1 s) s)) =
    cellsOf s := by simp [execKsWrap]
@[simp] theorem ksUnwrapRule_cellsOf (a0 : Port) (a1 : Nat) (s : State) : cellsOf ((ksUnwrapRule a0 a1 s).2) = cellsOf
    s := by
  unfold ksUnwrapRule
  simp only [apply_ite cellsOf, apply_ite Prod.snd]
  (repeat' split) <;> simp [*]
@[simp] theorem execKsUnwrap_cellsOf (a0 : Port) (a1 : U8) (s : State) : cellsOf ((after (execKsUnwrap a0 a1 s) s)) =
    cellsOf s := by simp [execKsUnwrap]
@[simp] theorem ksImportRule_cellsOf (a0 : Port) (s : State) : cellsOf ((ksImportRule a0 s).2) = cellsOf s := by
  unfold ksImportRule
  simp [apply_ite cellsOf, apply_ite Prod.snd]
@[simp] theorem execKsImportPlain_cellsOf (a0 : Port) (s : State) : cellsOf ((after (execKsImportPlain a0 s) s)) =
    cellsOf s := by simp [execKsImportPlain]
@[simp] theorem ksClearRule_cellsOf (a0 : Port) (s : State) : cellsOf ((ksClearRule a0 s).2) = cellsOf s := by
  unfold ksClearRule
  simp [apply_ite cellsOf, apply_ite Prod.snd]
@[simp] theorem execKsClear_cellsOf (a0 : Port) (s : State) : cellsOf ((after (execKsClear a0 s) s)) = cellsOf s :=
  by simp [execKsClear]
@[simp] theorem certificate_cellsOf (a0 : Nat) (a1 : List Byte) (a2 : List Byte) (s : State) : cellsOf ((certificate a0
    a1 a2 s).2) = cellsOf s := by simp [certificate]
@[simp] theorem buildAliasCert_cellsOf (s : State) : cellsOf (buildAliasCert s) = cellsOf s := by simp [buildAliasCert]
@[simp] theorem deriveAlias_cellsOf (s : State) : cellsOf (deriveAlias s) = cellsOf s := by simp [deriveAlias]
@[simp] theorem deriveKeys_cellsOf (s : State) : cellsOf (deriveKeys s) = cellsOf s := by
  unfold deriveKeys
  simp [apply_ite cellsOf, apply_ite Prod.snd]
@[simp] theorem keysLoaded_cellsOf (a0 : List Byte) (s : State) : cellsOf (keysLoaded a0 s) = cellsOf s :=
  by simp [keysLoaded]
@[simp] theorem keysLost_cellsOf (s : State) : cellsOf (keysLost s) = cellsOf s := by simp [keysLost]
@[simp] theorem dssLoad_cellsOf (s : State) : cellsOf (dssLoad s) = cellsOf s := by
  unfold dssLoad
  (repeat' split) <;> simp [apply_ite cellsOf, apply_ite Prod.snd]
@[simp] theorem keysBack_cellsOf (s : State) : cellsOf (keysBack s) = cellsOf s := by
  unfold keysBack
  simp [apply_ite cellsOf, apply_ite Prod.snd]
@[simp] theorem keyReloadRule_cellsOf (s : State) : cellsOf ((keyReloadRule s).2) = cellsOf s := by
  unfold keyReloadRule
  (repeat' split) <;> simp [apply_ite cellsOf, apply_ite Prod.snd]
@[simp] theorem execKeyReload_cellsOf (a0 : Port) (s : State) : cellsOf ((after (execKeyReload a0 s) s)) = cellsOf s :=
  by simp [execKeyReload]
@[simp] theorem wireFresh_cellsOf (a0 : Nat) (a1 : Option Window) (s : State) : cellsOf ((wireFresh a0 a1 s).2) =
    cellsOf s := by
  unfold wireFresh
  (repeat' split) <;> simp [apply_ite cellsOf, apply_ite Prod.snd]
@[simp] theorem dssProvisionRule_cellsOf (a0 : Nat) (a1 : Option Window) (a2 : Bool) (s : State) : cellsOf
    ((dssProvisionRule a0 a1 a2 s).2) = cellsOf s := by
  unfold dssProvisionRule
  (repeat' (first | dsimp only | split)) <;> (try simp only [drbgGenerate_some, storeRecord_ok, Prod.ext_iff] at *) <;> (try casesm* _ ∧ _) <;>
    subst_vars <;> simp [*, apply_ite cellsOf, apply_ite Prod.snd]
@[simp] theorem execDssProvision_cellsOf (a0 : Port) (a1 : U8) (a2 : Option Window) (a3 : Bool) (s : State) : cellsOf
    ((after (execDssProvision a0 a1 a2 a3 s) s)) = cellsOf s := by simp [execDssProvision]
@[simp] theorem eraseKeys_cellsOf (a0 : Bool) (s : State) : cellsOf (eraseKeys a0 s) = cellsOf s := by
  unfold eraseKeys
  simp [apply_ite cellsOf, apply_ite Prod.snd]
@[simp] theorem modPk_cellsOf (a0 : Port) (a1 : PkPort → PkPort) (s : State) : cellsOf (modPk a0 a1 s) = cellsOf s :=
  by simp [modPk]
@[simp] theorem pkLimbsRule_cellsOf (a0 : Port) (a1 : U8) (s : State) : cellsOf ((pkLimbsRule a0 a1 s).2) = cellsOf s
    := by
  unfold pkLimbsRule
  simp [apply_ite cellsOf, apply_ite Prod.snd]
@[simp] theorem execPkSlotLimbsWrite_cellsOf (a0 : Port) (a1 : U8) (s : State) : cellsOf ((after (execPkSlotLimbsWrite
    a0 a1 s) s)) = cellsOf s := by simp [execPkSlotLimbsWrite]
@[simp] theorem pkWipeRule_cellsOf (a0 : Port) (s : State) : cellsOf ((pkWipeRule a0 s).2) = cellsOf s := by
  unfold pkWipeRule
  simp [apply_ite cellsOf, apply_ite Prod.snd]
@[simp] theorem execPkWipe_cellsOf (a0 : Port) (s : State) : cellsOf ((after (execPkWipe a0 s) s)) = cellsOf s :=
  by simp [execPkWipe]
@[simp] theorem pkBufRule_cellsOf (a0 : Port) (a1 : Nat) (a2 : List Byte) (s : State) : cellsOf ((pkBufRule a0 a1 a2
    s).2) = cellsOf s := by
  unfold pkBufRule
  simp [apply_ite cellsOf, apply_ite Prod.snd]
@[simp] theorem execPkBufWrite_cellsOf (a0 : Port) (a1 : U40) (a2 : List Byte) (s : State) : cellsOf ((after
    (execPkBufWrite a0 a1 a2 s) s)) = cellsOf s := by simp [execPkBufWrite]
@[simp] theorem pkSubmitRule_cellsOf (a0 : Port) (a1 : Nat) (a2 : PkWord) (s : State) : cellsOf ((pkSubmitRule a0 a1 a2
    s).2) = cellsOf s := by
  unfold pkSubmitRule
  (repeat' split) <;> simp [apply_ite cellsOf, apply_ite Prod.snd]
@[simp] theorem pkSubmit_cellsOf (a0 : Port) (a1 : Nat) (a2 : PkWord) (s : State) : cellsOf ((after (pkSubmit a0 a1 a2
    s) s)) = cellsOf s := by simp [pkSubmit]
@[simp] theorem execAdd_cellsOf (a0 : Port) (a1 : PkWord) (s : State) : cellsOf ((after (execAdd a0 a1 s) s)) = cellsOf
    s := by simp [execAdd]
@[simp] theorem execSub_cellsOf (a0 : Port) (a1 : PkWord) (s : State) : cellsOf ((after (execSub a0 a1 s) s)) = cellsOf
    s := by simp [execSub]
@[simp] theorem execMul_cellsOf (a0 : Port) (a1 : PkWord) (s : State) : cellsOf ((after (execMul a0 a1 s) s)) = cellsOf
    s := by simp [execMul]
@[simp] theorem execInv_cellsOf (a0 : Port) (a1 : PkWord) (s : State) : cellsOf ((after (execInv a0 a1 s) s)) = cellsOf
    s := by simp [execInv]
@[simp] theorem execExp_cellsOf (a0 : Port) (a1 : PkWord) (s : State) : cellsOf ((after (execExp a0 a1 s) s)) = cellsOf
    s := by simp [execExp]
@[simp] theorem execExpv_cellsOf (a0 : Port) (a1 : PkWord) (s : State) : cellsOf ((after (execExpv a0 a1 s) s)) =
    cellsOf s := by simp [execExpv]
@[simp] theorem execReduce_cellsOf (a0 : Port) (a1 : PkWord) (s : State) : cellsOf ((after (execReduce a0 a1 s) s)) =
    cellsOf s := by simp [execReduce]
@[simp] theorem execLoad_cellsOf (a0 : Port) (a1 : PkWord) (s : State) : cellsOf ((after (execLoad a0 a1 s) s)) =
    cellsOf s := by simp [execLoad]
@[simp] theorem execStore_cellsOf (a0 : Port) (a1 : PkWord) (s : State) : cellsOf ((after (execStore a0 a1 s) s)) =
    cellsOf s := by simp [execStore]
@[simp] theorem execCompare_cellsOf (a0 : Port) (a1 : PkWord) (s : State) : cellsOf ((after (execCompare a0 a1 s) s)) =
    cellsOf s := by simp [execCompare]
@[simp] theorem execKeyload_cellsOf (a0 : Port) (a1 : PkWord) (s : State) : cellsOf ((after (execKeyload a0 a1 s) s)) =
    cellsOf s := by simp [execKeyload]
@[simp] theorem execKeypub_cellsOf (a0 : Port) (a1 : PkWord) (s : State) : cellsOf ((after (execKeypub a0 a1 s) s)) =
    cellsOf s := by simp [execKeypub]
@[simp] theorem execRand_cellsOf (a0 : Port) (a1 : PkWord) (s : State) : cellsOf ((after (execRand a0 a1 s) s)) =
    cellsOf s := by simp [execRand]
@[simp] theorem execSeal_cellsOf (a0 : Port) (a1 : PkWord) (s : State) : cellsOf ((after (execSeal a0 a1 s) s)) =
    cellsOf s := by simp [execSeal]
@[simp] theorem execVerify_cellsOf (a0 : Port) (a1 : PkWord) (s : State) : cellsOf ((after (execVerify a0 a1 s) s)) =
    cellsOf s := by simp [execVerify]
@[simp] theorem execVerifyGate_cellsOf (a0 : Port) (a1 : PkWord) (s : State) : cellsOf ((after (execVerifyGate a0 a1 s)
    s)) = cellsOf s := by simp [execVerifyGate]
@[simp] theorem execToKey_cellsOf (a0 : Port) (a1 : PkWord) (s : State) : cellsOf ((after (execToKey a0 a1 s) s)) =
    cellsOf s := by simp [execToKey]
@[simp] theorem retirePke_cellsOf (a0 : Nat) (s : State) : cellsOf (retirePke a0 s) = cellsOf s := by simp [retirePke]
@[simp] theorem chargePke_cellsOf (s : State) : cellsOf (chargePke s) = cellsOf s := by
  unfold chargePke
  simp [apply_ite cellsOf, apply_ite Prod.snd]
@[simp] theorem pkEnd_cellsOf (a0 : PkEntry) (a1 : U8) (a2 : Nat) (s : State) : cellsOf (pkEnd a0 a1 a2 s) = cellsOf s
    := by
  unfold pkEnd
  simp [apply_ite cellsOf, apply_ite Prod.snd]
@[simp] theorem execPkCommandDispatch_cellsOf (s : State) : cellsOf ((after (execPkCommandDispatch s) s)) = cellsOf s
    := by
  unfold execPkCommandDispatch
  simp only [apply_ite cellsOf, apply_ite Prod.snd]
  (repeat' split) <;> simp [*]
@[simp] theorem pkRun_cellsOf (a0 : PkEntry) (s : State) : cellsOf ((pkRun a0 s).2.2) = cellsOf s := by
  unfold pkRun
  dsimp only
  split
  all_goals first | (simp; done) | skip
  all_goals (have := wireGenerate_cellsOf 3 (5 * (pkPort s a0.port).limbs.toNat + 8) s; split <;> simp_all; done)
@[simp] theorem execPkCommandComplete_cellsOf (s : State) : cellsOf ((after (execPkCommandComplete s) s)) = cellsOf s
    := by
  unfold execPkCommandComplete
  split <;> simp
@[simp] theorem execPkeParityError_cellsOf (s : State) : cellsOf ((after (execPkeParityError s) s)) = cellsOf s := by
  unfold execPkeParityError
  split <;> simp
@[simp] theorem pkeCoreReset_cellsOf (s : State) : cellsOf (pkeCoreReset s) = cellsOf s := by simp [pkeCoreReset]
@[simp] theorem erasePke_cellsOf (s : State) : cellsOf (erasePke s) = cellsOf s := by
  unfold erasePke
  split <;> simp
@[simp] theorem tamperErase_cellsOf (a0 : Bool) (s : State) : cellsOf (tamperErase a0 s) = cellsOf s :=
  by simp [tamperErase]
@[simp] theorem journalSession_cellsOf (a0 : U32) (a1 : Nat) (s : State) : cellsOf (journalSession a0 a1 s) = cellsOf s
    := by simp [journalSession]
@[simp] theorem endSessions_cellsOf (s : State) : cellsOf (endSessions s) = cellsOf s := by simp [endSessions]
@[simp] theorem recordAlarm_cellsOf (a0 : Bool) (a1 : Bool) (a2 : Nat) (a3 : Nat) (s : State) : cellsOf (recordAlarm a0
    a1 a2 a3 s) = cellsOf s := by
  unfold recordAlarm
  simp [apply_ite cellsOf, apply_ite Prod.snd]
@[simp] theorem eraseCell_cellsOf (s : State) : cellsOf (eraseCell s) = cellsOf s := by simp [eraseCell]
@[simp] theorem eraseAll_cellsOf (a0 : Bool) (s : State) : cellsOf (eraseAll a0 s) = cellsOf s := by simp [eraseAll]
@[simp] theorem tamperAll_cellsOf (s : State) : cellsOf (tamperAll s) = cellsOf s := by simp [tamperAll]
@[simp] theorem heathHold_cellsOf (s : State) : cellsOf (heathHold s) = cellsOf s := by
  unfold heathHold
  simp [apply_ite cellsOf, apply_ite Prod.snd]
@[simp] theorem heathExecute_cellsOf (a0 : List (Nat × Nat)) (s : State) : cellsOf (heathExecute a0 s) = cellsOf s := by
  unfold heathExecute
  simp [apply_ite cellsOf, apply_ite Prod.snd]
@[simp] theorem gapCount_cellsOf (a0 : Nat) (s : State) : cellsOf (gapCount a0 s) = cellsOf s := by simp [gapCount]
@[simp] theorem execHeathSampleTick_cellsOf (a0 : HeathSample) (s : State) : cellsOf ((after (execHeathSampleTick a0 s)
    s)) = cellsOf s := by
  unfold execHeathSampleTick
  (repeat' split) <;> simp [apply_ite cellsOf, apply_ite Prod.snd]
@[simp] theorem execMonitorWindowExpiry_cellsOf (a0 : Fin 10) (s : State) : cellsOf ((after (execMonitorWindowExpiry a0
    s) s)) = cellsOf s := by
  unfold execMonitorWindowExpiry
  split <;> simp
@[simp] theorem execHeathOscMeasure_cellsOf (a0 : U32) (s : State) : cellsOf ((after (execHeathOscMeasure a0 s) s)) =
    cellsOf s := by
  unfold execHeathOscMeasure
  split <;> simp
@[simp] theorem tamperClearRule_cellsOf (s : State) : cellsOf ((tamperClearRule s).2) = cellsOf s := by
  unfold tamperClearRule
  simp [apply_ite cellsOf, apply_ite Prod.snd]
@[simp] theorem execTamperClear_cellsOf (a0 : Port) (s : State) : cellsOf ((after (execTamperClear a0 s) s)) = cellsOf
    s := by simp [execTamperClear]
@[simp] theorem cellArmRule_cellsOf (s : State) : cellsOf ((cellArmRule s).2) = cellsOf s := by
  unfold cellArmRule
  (repeat' (first | dsimp only | split)) <;> (try simp only [drbgGenerate_some, storeRecord_ok, Prod.ext_iff] at *) <;> (try casesm* _ ∧ _) <;>
    subst_vars <;> simp [*, apply_ite cellsOf, apply_ite Prod.snd]
@[simp] theorem execCellArm_cellsOf (a0 : Port) (s : State) : cellsOf ((after (execCellArm a0 s) s)) = cellsOf s :=
  by simp [execCellArm]
@[simp] theorem heathLockRule_cellsOf (s : State) : cellsOf ((heathLockRule s).2) = cellsOf s := by simp [heathLockRule]
@[simp] theorem execHeathLock_cellsOf (a0 : Port) (s : State) : cellsOf ((after (execHeathLock a0 s) s)) = cellsOf s :=
  by simp [execHeathLock]
@[simp] theorem heathStep_cellsOf (s : State) : cellsOf (heathStep s) = cellsOf s := by
  unfold heathStep
  simp [apply_ite cellsOf, apply_ite Prod.snd]
@[simp] theorem heathFromNothing_cellsOf (a0 : Bool) (s : State) : cellsOf (heathFromNothing a0 s) = cellsOf s :=
  by simp [heathFromNothing]
@[simp] theorem execHeathPowerLoss_cellsOf (s : State) : cellsOf ((after (execHeathPowerLoss s) s)) = cellsOf s := by
  unfold execHeathPowerLoss
  split <;> simp
@[simp] theorem execHeathPowerUp_cellsOf (s : State) : cellsOf ((after (execHeathPowerUp s) s)) = cellsOf s := by
  unfold execHeathPowerUp
  split <;> simp
@[simp] theorem cuReplace_cellsOf (s : State) : cellsOf (cuReplace s) = cellsOf s := by
  unfold cuReplace
  (repeat' split) <;> simp [apply_ite cellsOf, apply_ite Prod.snd]
@[simp] theorem coreDrop_cellsOf (s : State) : cellsOf (coreDrop s) = cellsOf s := by
  unfold coreDrop
  dsimp only
  simp only [cuReplace_cellsOf]
  refine (foldl_cellsOf _ (fun t x => ?_) _ _).trans ((foldl_cellsOf _ (fun t x => ?_) _ _).trans ?_)
  · split <;> simp
  · split <;> simp
  · simp only [modSpdm_cellsOf, modRandom_cellsOf, modKeys_cellsOf, pkeCoreReset_cellsOf]
    simp [cellsOf, Function.comp_def]
@[simp] theorem journalReset_cellsOf (s : State) : cellsOf (journalReset s) = cellsOf s := by simp [journalReset]
@[simp] theorem coreReset_cellsOf (a0 : Nat) (s : State) : cellsOf (coreReset a0 s) = cellsOf s := by
  unfold coreReset
  simp [apply_ite cellsOf, apply_ite Prod.snd]
@[simp] theorem wdEvidence_cellsOf (a0 : Nat) (s : State) : cellsOf (wdEvidence a0 s) = cellsOf s := by simp [wdEvidence]
@[simp] theorem wdBite_cellsOf (a0 : Nat) (s : State) : cellsOf (wdBite a0 s) = cellsOf s := by
  unfold wdBite
  simp [apply_ite cellsOf, apply_ite Prod.snd]
@[simp] theorem execWdBite_cellsOf (s : State) : cellsOf ((after (execWdBite s) s)) = cellsOf s := by
  unfold execWdBite
  split <;> simp
@[simp] theorem wdCheckinRule_cellsOf (a0 : Nat) (s : State) : cellsOf ((wdCheckinRule a0 s).2) = cellsOf s := by
  unfold wdCheckinRule
  simp [apply_ite cellsOf, apply_ite Prod.snd]
@[simp] theorem execWdCheckin_cellsOf (a0 : Port) (a1 : U8) (s : State) : cellsOf ((after (execWdCheckin a0 a1 s) s)) =
    cellsOf s := by simp [execWdCheckin]
@[simp] theorem wdServiceRule_cellsOf (a0 : U16) (s : State) : cellsOf ((wdServiceRule a0 s).2) = cellsOf s := by
  unfold wdServiceRule
  simp [apply_ite cellsOf, apply_ite Prod.snd]
@[simp] theorem execWdService_cellsOf (a0 : Port) (a1 : U16) (s : State) : cellsOf ((after (execWdService a0 a1 s) s))
    = cellsOf s := by simp [execWdService]
@[simp] theorem wdLockRule_cellsOf (s : State) : cellsOf ((wdLockRule s).2) = cellsOf s := by
  unfold wdLockRule
  simp [apply_ite cellsOf, apply_ite Prod.snd]
@[simp] theorem execWdLock_cellsOf (a0 : Port) (s : State) : cellsOf ((after (execWdLock a0 s) s)) = cellsOf s :=
  by simp [execWdLock]
@[simp] theorem coreFault_cellsOf (a0 : Nat) (a1 : Nat) (s : State) : cellsOf (coreFault a0 a1 s) = cellsOf s := by
  unfold coreFault
  simp [apply_ite cellsOf, apply_ite Prod.snd]
@[simp] theorem execLockstepMismatch_cellsOf (s : State) : cellsOf ((after (execLockstepMismatch s) s)) = cellsOf s := by
  unfold execLockstepMismatch
  split <;> simp
@[simp] theorem execSramDed_cellsOf (s : State) : cellsOf ((after (execSramDed s) s)) = cellsOf s := by
  unfold execSramDed
  split <;> simp
@[simp] theorem cuAllocRule_cellsOf (a0 : Port) (s : State) : cellsOf ((cuAllocRule a0 s).2) = cellsOf s := by
  unfold cuAllocRule
  simp only [apply_ite cellsOf, apply_ite Prod.snd]
  (repeat' split) <;> simp [*]
@[simp] theorem execCuAlloc_cellsOf (a0 : Port) (s : State) : cellsOf ((after (execCuAlloc a0 s) s)) = cellsOf s :=
  by simp [execCuAlloc]
@[simp] theorem cuWriteRule_cellsOf (a0 : Fin 8) (a1 : Nat) (a2 : List Byte) (s : State) : cellsOf ((cuWriteRule a0 a1
    a2 s).2) = cellsOf s := by
  unfold cuWriteRule
  simp [apply_ite cellsOf, apply_ite Prod.snd]
@[simp] theorem cuStartRule_cellsOf (a0 : Fin 8) (s : State) : cellsOf ((cuStartRule a0 s).2) = cellsOf s := by
  unfold cuStartRule
  simp [apply_ite cellsOf, apply_ite Prod.snd]
@[simp] theorem execCuStart_cellsOf (a0 : Port) (a1 : Fin 8) (s : State) : cellsOf ((after (execCuStart a0 a1 s) s)) =
    cellsOf s := by simp [execCuStart]
@[simp] theorem cuFeedRule_cellsOf (a0 : Fin 8) (a1 : List Byte) (s : State) : cellsOf ((cuFeedRule a0 a1 s).2) =
    cellsOf s := by
  unfold cuFeedRule
  simp [apply_ite cellsOf, apply_ite Prod.snd]
@[simp] theorem execCuFeed8_cellsOf (a0 : Port) (a1 : Fin 8) (a2 : U8) (s : State) : cellsOf ((after (execCuFeed8 a0 a1
    a2 s) s)) = cellsOf s := by simp [execCuFeed8]
@[simp] theorem execCuFeed16_cellsOf (a0 : Port) (a1 : Fin 8) (a2 : U16) (s : State) : cellsOf ((after (execCuFeed16 a0
    a1 a2 s) s)) = cellsOf s := by simp [execCuFeed16]
@[simp] theorem execCuFeed40_cellsOf (a0 : Port) (a1 : Fin 8) (a2 : U40) (s : State) : cellsOf ((after (execCuFeed40 a0
    a1 a2 s) s)) = cellsOf s := by simp [execCuFeed40]
@[simp] theorem execCuFeedBlock_cellsOf (a0 : Port) (a1 : Fin 8) (a2 : List Byte) (s : State) : cellsOf ((after
    (execCuFeedBlock a0 a1 a2 s) s)) = cellsOf s := by simp [execCuFeedBlock]
@[simp] theorem cuFinishRule_cellsOf (a0 : Fin 8) (s : State) : cellsOf ((cuFinishRule a0 s).2) = cellsOf s := by
  unfold cuFinishRule
  simp [apply_ite cellsOf, apply_ite Prod.snd]
@[simp] theorem execCuFinish_cellsOf (a0 : Port) (a1 : Fin 8) (s : State) : cellsOf ((after (execCuFinish a0 a1 s) s))
    = cellsOf s := by simp [execCuFinish]
@[simp] theorem cuReleaseRule_cellsOf (a0 : Fin 8) (s : State) : cellsOf ((cuReleaseRule a0 s).2) = cellsOf s := by
  unfold cuReleaseRule
  simp [apply_ite cellsOf, apply_ite Prod.snd]
@[simp] theorem execCuRelease_cellsOf (a0 : Port) (a1 : Fin 8) (s : State) : cellsOf ((after (execCuRelease a0 a1 s)
    s)) = cellsOf s := by simp [execCuRelease]
@[simp] theorem retireCu_cellsOf (a0 : Fin 8) (a1 : Nat) (s : State) : cellsOf (retireCu a0 a1 s) = cellsOf s := by
  unfold retireCu
  simp [apply_ite cellsOf, apply_ite Prod.snd]
@[simp] theorem execCuParityError_cellsOf (a0 : Fin 8) (s : State) : cellsOf ((after (execCuParityError a0 s) s)) =
    cellsOf s := by
  unfold execCuParityError
  simp only [apply_ite cellsOf, apply_ite Prod.snd]
  (repeat' split) <;> simp [*]

end Sys2Proof.Laws
end

