-- ==== Sys2Proof/Laws/CellsBoot.lean ====
section
/-! SUPPORT. What leaves the bytes of the physical flashes as it is: clock, life cycle and boot. -/
namespace Sys2Proof.Laws
open Sys2Proof.Machine
set_option linter.unusedVariables false
set_option linter.unusedSimpArgs false
set_option linter.unnecessarySeqFocus false
set_option linter.unreachableTactic false
set_option linter.unusedTactic false
set_option maxRecDepth 4000

@[simp] theorem stopRead_cellsOf (a0 : Chan) (s : State) : cellsOf (stopRead a0 s) = cellsOf s := by
  unfold stopRead
  split <;> simp
@[simp] theorem execRefclkLoss_cellsOf (s : State) : cellsOf ((after (execRefclkLoss s) s)) = cellsOf s := by
  unfold execRefclkLoss
  split <;> simp
@[simp] theorem execRefclkReturn_cellsOf (a0 : Nat) (s : State) : cellsOf ((after (execRefclkReturn a0 s) s)) = cellsOf
    s := by
  unfold execRefclkReturn
  split <;> simp
@[simp] theorem failRead_cellsOf (a0 : Chan) (s : State) : cellsOf (failRead a0 s) = cellsOf s := by
  unfold failRead
  split <;> simp
@[simp] theorem execPllLockLoss_cellsOf (s : State) : cellsOf ((after (execPllLockLoss s) s)) = cellsOf s := by
  unfold execPllLockLoss
  (repeat' split) <;> simp [apply_ite cellsOf, apply_ite Prod.snd]
@[simp] theorem execPllRelock_cellsOf (s : State) : cellsOf ((after (execPllRelock s) s)) = cellsOf s := by
  unfold execPllRelock
  split <;> simp
@[simp] theorem execTbUsWrap_cellsOf (s : State) : cellsOf ((after (execTbUsWrap s) s)) = cellsOf s := by
  unfold execTbUsWrap
  split <;> simp
@[simp] theorem execPaceRefresh_cellsOf (a0 : U16) (s : State) : cellsOf ((after (execPaceRefresh a0 s) s)) = cellsOf s
    := by
  unfold execPaceRefresh
  simp only [apply_ite cellsOf, apply_ite Prod.snd]
  (repeat' split) <;> simp [*]
@[simp] theorem execSensorRefresh_cellsOf (a0 : List Int) (a1 : List U16) (s : State) : cellsOf ((after
    (execSensorRefresh a0 a1 s) s)) = cellsOf s := by
  unfold execSensorRefresh
  split <;> simp
@[simp] theorem storedDouble_cellsOf (a0 : Fin 8) (a1 : Nat) (s : State) : cellsOf (storedDouble a0 a1 s) = cellsOf s
    := by
  unfold storedDouble
  (repeat' split) <;> simp [apply_ite cellsOf, apply_ite Prod.snd]
@[simp] theorem execScrubRead_cellsOf (a0 : Option CodeWord) (s : State) : cellsOf ((after (execScrubRead a0 s) s)) =
    cellsOf s := by
  unfold execScrubRead
  (repeat' split) <;> simp [apply_ite cellsOf, apply_ite Prod.snd]
@[simp] theorem opExpire_cellsOf (a0 : Chan) (a1 : Fin 14) (s : State) : cellsOf (opExpire a0 a1 s) = cellsOf s := by
  unfold opExpire
  (repeat' split) <;> simp [apply_ite cellsOf, apply_ite Prod.snd]
@[simp] theorem dropPartial_cellsOf (a0 : MPort) (s : State) : cellsOf (dropPartial a0 s) = cellsOf s :=
  by simp [dropPartial]
@[simp] theorem assemblyExpire_cellsOf (a0 : MPort) (s : State) : cellsOf (assemblyExpire a0 s) = cellsOf s := by
  unfold assemblyExpire
  simp [apply_ite cellsOf, apply_ite Prod.snd]
@[simp] theorem execTimeoutExpiry_cellsOf (a0 : Fin 14) (a1 : Chan) (s : State) : cellsOf ((after (execTimeoutExpiry a0
    a1 s) s)) = cellsOf s := by
  unfold execTimeoutExpiry
  (repeat' split) <;> simp [apply_ite cellsOf, apply_ite Prod.snd]
@[simp] theorem countLate_cellsOf (a0 : Fin 14) (a1 : Chan) (s : State) : cellsOf (countLate a0 a1 s) = cellsOf s := by
  unfold countLate
  simp [apply_ite cellsOf, apply_ite Prod.snd]
@[simp] theorem enterReturned_cellsOf (s : State) : cellsOf (enterReturned s) = cellsOf s := by
  unfold enterReturned
  simp only [apply_ite cellsOf, apply_ite Prod.snd]
  (repeat' split) <;> simp [*]
@[simp] theorem enterScrapped_cellsOf (s : State) : cellsOf (enterScrapped s) = cellsOf s := by
  unfold enterScrapped
  simp [apply_ite cellsOf, apply_ite Prod.snd]
@[simp] theorem lcEffects_cellsOf (a0 : Nat) (s : State) : cellsOf (lcEffects a0 s) = cellsOf s := by
  unfold lcEffects
  split <;> simp
@[simp] theorem lcBurn_cellsOf (a0 : Nat) (s : State) : cellsOf (lcBurn a0 s) = cellsOf s := by simp [lcBurn]
@[simp] theorem lcSet_cellsOf (a0 : Nat) (s : State) : cellsOf (lcSet a0 s) = cellsOf s := by
  unfold lcSet
  simp [apply_ite cellsOf, apply_ite Prod.snd]
@[simp] theorem lcDecide_cellsOf (s : State) : cellsOf ((lcDecide s).2) = cellsOf s := by
  unfold lcDecide
  split <;> simp
@[simp] theorem newChallenge_cellsOf (a0 : Nat) (s : State) : cellsOf ((newChallenge a0 s).2) = cellsOf s := by
  unfold newChallenge
  (repeat' (first | dsimp only | split)) <;> (try simp only [drbgGenerate_some, storeRecord_ok, Prod.ext_iff] at *) <;> (try casesm* _ ∧ _) <;>
    subst_vars <;> simp [*, apply_ite cellsOf, apply_ite Prod.snd]
@[simp] theorem challengeRule_cellsOf (a0 : Port) (s : State) : cellsOf ((challengeRule a0 s).2.2) = cellsOf s := by
  unfold challengeRule
  (repeat' (first | dsimp only | split)) <;> (try simp only [drbgGenerate_some, storeRecord_ok, Prod.ext_iff] at *) <;> (try casesm* _ ∧ _) <;>
    subst_vars <;> simp [*, apply_ite cellsOf, apply_ite Prod.snd]
@[simp] theorem execChallenge_cellsOf (a0 : Port) (s : State) : cellsOf ((after (execChallenge a0 s) s)) = cellsOf s :=
  by simp [execChallenge]
@[simp] theorem tokenCheck_cellsOf (a0 : Nat) (a1 : Nat) (a2 : List Byte) (s : State) : cellsOf ((tokenCheck a0 a1 a2
    s).2) = cellsOf s := by simp [tokenCheck]
@[simp] theorem unlockRule_cellsOf (a0 : Nat) (a1 : List Byte) (s : State) : cellsOf ((unlockRule a0 a1 s).2) = cellsOf
    s := by
  unfold unlockRule
  simp only [apply_ite cellsOf, apply_ite Prod.snd]
  (repeat' split) <;> simp [*]
@[simp] theorem execDbgUnlock_cellsOf (a0 : Port) (s : State) : cellsOf ((after (execDbgUnlock a0 s) s)) = cellsOf s :=
  by simp [execDbgUnlock]
@[simp] theorem lcTransit_cellsOf (a0 : Nat) (s : State) : cellsOf ((lcTransit a0 s).2) = cellsOf s := by
  unfold lcTransit
  simp [apply_ite cellsOf, apply_ite Prod.snd]
@[simp] theorem lcAdvanceRule_cellsOf (a0 : Port) (a1 : Nat) (s : State) : cellsOf ((lcAdvanceRule a0 a1 s).2) =
    cellsOf s := by
  unfold lcAdvanceRule
  simp only [apply_ite cellsOf, apply_ite Prod.snd]
  (repeat' split) <;> simp [*]
@[simp] theorem execLcAdvance_cellsOf (a0 : Port) (a1 : U8) (s : State) : cellsOf ((after (execLcAdvance a0 a1 s) s)) =
    cellsOf s := by simp [execLcAdvance]
@[simp] theorem lcScrapRule_cellsOf (a0 : Nat) (s : State) : cellsOf ((lcScrapRule a0 s).2) = cellsOf s := by
  unfold lcScrapRule
  simp [apply_ite cellsOf, apply_ite Prod.snd]
@[simp] theorem execLcScrap_cellsOf (a0 : Port) (a1 : U40) (s : State) : cellsOf ((after (execLcScrap a0 a1 s) s)) =
    cellsOf s := by simp [execLcScrap]
@[simp] theorem keyBurnRule_cellsOf (a0 : Port) (a1 : Bool) (s : State) : cellsOf ((keyBurnRule a0 a1 s).2) = cellsOf s
    := by
  unfold keyBurnRule
  simp [apply_ite cellsOf, apply_ite Prod.snd]
@[simp] theorem execKeyBurn_cellsOf (a0 : Port) (a1 : Bool) (s : State) : cellsOf ((after (execKeyBurn a0 a1 s) s)) =
    cellsOf s := by simp [execKeyBurn]
@[simp] theorem keyRevokeRule_cellsOf (a0 : Nat) (s : State) : cellsOf ((keyRevokeRule a0 s).2) = cellsOf s := by
  unfold keyRevokeRule
  simp [apply_ite cellsOf, apply_ite Prod.snd]
@[simp] theorem execKeyRevoke_cellsOf (a0 : Port) (a1 : U8) (s : State) : cellsOf ((after (execKeyRevoke a0 a1 s) s)) =
    cellsOf s := by simp [execKeyRevoke]
@[simp] theorem fuseBurnRule_cellsOf (s : State) : cellsOf ((fuseBurnRule s).2) = cellsOf s := by
  unfold fuseBurnRule
  simp [apply_ite cellsOf, apply_ite Prod.snd]
@[simp] theorem execFuseBurn_cellsOf (a0 : Port) (s : State) : cellsOf ((after (execFuseBurn a0 s) s)) = cellsOf s :=
  by simp [execFuseBurn]
@[simp] theorem tapSelect_cellsOf (a0 : Nat) (a1 : List Byte) (s : State) : cellsOf (tapSelect a0 a1 s) = cellsOf s :=
  by simp [tapSelect]
@[simp] theorem tapBypass_cellsOf (a0 : Nat) (s : State) : cellsOf (tapBypass a0 s) = cellsOf s := by simp [tapBypass]
@[simp] theorem execTapReset_cellsOf (s : State) : cellsOf ((after (execTapReset s) s)) = cellsOf s :=
  by simp [execTapReset]
@[simp] theorem execExtest_cellsOf (a0 : List Bool) (s : State) : cellsOf ((after (execExtest a0 s) s)) = cellsOf s := by
  unfold execExtest
  split <;> simp
@[simp] theorem execSamplePreload_cellsOf (a0 : List Bool) (s : State) : cellsOf ((after (execSamplePreload a0 s) s)) =
    cellsOf s := by simp [execSamplePreload]
@[simp] theorem execIdcode_cellsOf (s : State) : cellsOf ((after (execIdcode s) s)) = cellsOf s := by simp [execIdcode]
@[simp] theorem execTapChallenge_cellsOf (s : State) : cellsOf ((after (execTapChallenge s) s)) = cellsOf s := by
  unfold execTapChallenge
  (repeat' (first | dsimp only | split)) <;> (try simp only [drbgGenerate_some, storeRecord_ok, Prod.ext_iff] at *) <;> (try casesm* _ ∧ _) <;>
    subst_vars <;> simp [*, apply_ite cellsOf, apply_ite Prod.snd]
@[simp] theorem execTapToken_cellsOf (a0 : List Byte) (s : State) : cellsOf ((after (execTapToken a0 s) s)) = cellsOf s
    := by
  unfold execTapToken
  simp only [apply_ite cellsOf, apply_ite Prod.snd]
  (repeat' split) <;> simp [*]
@[simp] theorem execDbgResult_cellsOf (s : State) : cellsOf ((after (execDbgResult s) s)) = cellsOf s := by
  unfold execDbgResult
  split <;> simp
@[simp] theorem execCoreDebug_cellsOf (s : State) : cellsOf ((after (execCoreDebug s) s)) = cellsOf s := by
  unfold execCoreDebug
  split <;> simp
@[simp] theorem execBypass_cellsOf (s : State) : cellsOf ((after (execBypass s) s)) = cellsOf s := by simp [execBypass]
@[simp] theorem enterPhase_cellsOf (a0 : Phase) (s : State) : cellsOf (enterPhase a0 s) = cellsOf s :=
  by simp [enterPhase]
@[simp] theorem powerReset_cellsOf (s : State) : cellsOf (powerReset s) = cellsOf s := by
  simp [powerReset, cellsOf, channelKept, flashKept, Function.comp_def]
@[simp] theorem powerOn_cellsOf (s : State) : cellsOf (powerOn s) = cellsOf s := by simp [powerOn]
@[simp] theorem deviceReset_cellsOf (a0 : U8) (s : State) : cellsOf (deviceReset a0 s) = cellsOf s :=
  by simp [deviceReset]
@[simp] theorem execPorNRise_cellsOf (a0 : BitVec 4) (s : State) : cellsOf ((after (execPorNRise a0 s) s)) = cellsOf s
    := by
  unfold execPorNRise
  (repeat' split) <;> simp [apply_ite cellsOf, apply_ite Prod.snd]
@[simp] theorem execPorNFall_cellsOf (s : State) : cellsOf ((after (execPorNFall s) s)) = cellsOf s := by
  unfold execPorNFall
  simp [apply_ite cellsOf, apply_ite Prod.snd]
@[simp] theorem execMainPowerLoss_cellsOf (s : State) : cellsOf ((after (execMainPowerLoss s) s)) = cellsOf s := by
  unfold execMainPowerLoss
  (repeat' split) <;> simp [apply_ite cellsOf, apply_ite Prod.snd]
@[simp] theorem execMainPowerReturn_cellsOf (s : State) : cellsOf ((after (execMainPowerReturn s) s)) = cellsOf s := by
  unfold execMainPowerReturn
  (repeat' split) <;> simp [apply_ite cellsOf, apply_ite Prod.snd]
@[simp] theorem deviceResetRule_cellsOf (s : State) : cellsOf ((deviceResetRule s).2) = cellsOf s :=
  by simp [deviceResetRule]
@[simp] theorem execDeviceReset_cellsOf (a0 : Port) (s : State) : cellsOf ((after (execDeviceReset a0 s) s)) = cellsOf
    s := by simp [execDeviceReset]
@[simp] theorem execDeviceResetTakesEffect_cellsOf (s : State) : cellsOf ((after (execDeviceResetTakesEffect s) s)) =
    cellsOf s := by
  unfold execDeviceResetTakesEffect
  (repeat' split) <;> simp [apply_ite cellsOf, apply_ite Prod.snd]
@[simp] theorem toRecovery_cellsOf (a0 : Bool) (s : State) : cellsOf (toRecovery a0 s) = cellsOf s := by simp [toRecovery]
@[simp] theorem execClock_cellsOf (a0 : Nat) (a1 : Bool) (s : State) : cellsOf ((after (execClock a0 a1 s) s)) =
    cellsOf s := by
  unfold execClock
  simp only [apply_ite cellsOf, apply_ite Prod.snd]
  (repeat' split) <;> simp [*]
@[simp] theorem execHeath_cellsOf (s : State) : cellsOf ((after (execHeath s) s)) = cellsOf s := by
  unfold execHeath
  split <;> simp
@[simp] theorem execLifecycle_cellsOf (s : State) : cellsOf ((after (execLifecycle s) s)) = cellsOf s := by
  unfold execLifecycle
  simp only [apply_ite cellsOf, apply_ite Prod.snd]
  (repeat' split) <;> simp [*]
@[simp] theorem katConsequence_cellsOf (a0 : List KatFail) (a1 : Nat) (s : State) : cellsOf (katConsequence a0 a1 s) =
    cellsOf s := by
  unfold katConsequence
  (repeat' split) <;> simp [apply_ite cellsOf, apply_ite Prod.snd]
@[simp] theorem katTest_cellsOf (a0 : List KatFail) (s : State) (a2 : Nat) : cellsOf (katTest a0 s a2) = cellsOf s := by
  unfold katTest
  simp [apply_ite cellsOf, apply_ite Prod.snd]
@[simp] theorem execKat_cellsOf (a0 : List KatFail) (s : State) : cellsOf ((after (execKat a0 s) s)) = cellsOf s := by
  unfold execKat
  (repeat' split) <;> simp [apply_ite cellsOf, apply_ite Prod.snd]
@[simp] theorem startupRun_cellsOf (a0 : Nat) (a1 : List Window) (s : State) : cellsOf ((startupRun a0 a1 s).2) =
    cellsOf s := by
  induction a1 generalizing s with
  | nil => rfl
  | cons e es ih => unfold startupRun; (repeat' (first | dsimp only | split)) <;> simp_all [apply_ite cellsOf]
@[simp] theorem startupPair_cellsOf (a0 : List Window) (a1 : List Window) (s : State) : cellsOf ((startupPair a0 a1
    s).2) = cellsOf s := by
  induction a0 generalizing a1 s with
  | nil => unfold startupPair; simp
  | cons e es ih => cases a1 <;> unfold startupPair <;> (repeat' (first | dsimp only | split)) <;> simp_all
@[simp] theorem execEntropy_cellsOf (a0 : List Window) (a1 : List Window) (a2 : List Window) (s : State) : cellsOf
    ((after (execEntropy a0 a1 a2 s) s)) = cellsOf s := by
  unfold execEntropy
  simp only [apply_ite cellsOf, apply_ite Prod.snd]
  (repeat' split) <;> simp [*]
@[simp] theorem bringUp_cellsOf (a0 : Nat) (a1 : List VaultTry) (s : State) : cellsOf ((bringUp a0 a1 s).2) = cellsOf s
    := by
  induction a1 generalizing a0 s with
  | nil => unfold bringUp; rfl
  | cons e es ih => cases e <;> unfold bringUp <;> (repeat' (first | dsimp only | split)) <;> simp_all
@[simp] theorem execVault_cellsOf (a0 : List VaultTry) (a1 : EmmcInfo) (s : State) : cellsOf ((after (execVault a0 a1
    s) s)) = cellsOf s := by
  unfold execVault
  (repeat' (first | dsimp only | split)) <;> (try simp only [drbgGenerate_some, storeRecord_ok, Prod.ext_iff] at *) <;> (try casesm* _ ∧ _) <;>
    subst_vars <;> simp [*, apply_ite cellsOf, apply_ite Prod.snd]
@[simp] theorem acceptCopy_cellsOf (a0 : Nat) (s : State) : cellsOf (acceptCopy a0 s) = cellsOf s := by simp [acceptCopy]
theorem selectCopy_ok_cellsOf {first : Nat} {a b : Bool} {s t : State} (h : selectCopy first a b s = .ok t) : cellsOf t
    = cellsOf s := by
  unfold selectCopy at h
  dsimp only at h
  split at h
  · cases h; simp
  · split at h
    · cases h; simp
    · cases h
@[simp] theorem execRuntime_cellsOf (a0 : Bool) (a1 : Bool) (s : State) : cellsOf ((after (execRuntime a0 a1 s) s)) =
    cellsOf s := by
  unfold execRuntime
  dsimp only
  split
  · rfl
  · split
    · simp
    · split
      · simp
      · have h := selectCopy_ok_cellsOf ‹_›
        simp only [after_next]
        split <;> simp [h]
@[simp] theorem rtImageRule_cellsOf (a0 : Nat) (a1 : List Byte) (s : State) : cellsOf ((rtImageRule a0 a1 s).2) =
    cellsOf s := by
  unfold rtImageRule
  simp [apply_ite cellsOf, apply_ite Prod.snd]
@[simp] theorem execRtImageWrite_cellsOf (a0 : Port) (a1 : U40) (a2 : List Byte) (s : State) : cellsOf ((after
    (execRtImageWrite a0 a1 a2 s) s)) = cellsOf s := by simp [execRtImageWrite]
@[simp] theorem rtInstallRule_cellsOf (s : State) : cellsOf ((rtInstallRule s).2) = cellsOf s := by
  unfold rtInstallRule
  simp only [apply_ite cellsOf, apply_ite Prod.snd]
  (repeat' split) <;> simp [*]
@[simp] theorem execRtInstall_cellsOf (a0 : Port) (s : State) : cellsOf ((after (execRtInstall a0 s) s)) = cellsOf s :=
  by simp [execRtInstall]
@[simp] theorem readCounters_cellsOf (s : State) : cellsOf (readCounters s) = cellsOf s := by
  unfold readCounters
  split <;> simp
@[simp] theorem pickConfig_cellsOf (a0 : List (Nat × Nat × Nat × Nat)) (s : State) : cellsOf ((pickConfig a0 s).2) =
    cellsOf s := by
  induction a0 generalizing s with
  | nil => rfl
  | cons e es ih => unfold pickConfig; (repeat' (first | dsimp only | split)) <;> simp_all [apply_ite cellsOf]
@[simp] theorem loadConfig_cellsOf (a0 : List Byte) (s : State) : cellsOf (loadConfig a0 s) = cellsOf s := by
  unfold loadConfig
  simp [apply_ite cellsOf, apply_ite Prod.snd]
@[simp] theorem policyWrite_cellsOf (a0 : WriteEnd) (s : State) : cellsOf (policyWrite a0 s) = cellsOf s := by
  unfold policyWrite
  simp [apply_ite cellsOf, apply_ite Prod.snd]
@[simp] theorem policyRecord_cellsOf (a0 : WriteEnd) (a1 : Nat) (a2 : Nat → List Byte) (s : State) : cellsOf
    (policyRecord a0 a1 a2 s) = cellsOf s := by
  unfold policyRecord
  simp [apply_ite cellsOf, apply_ite Prod.snd]
@[simp] theorem policyRevert_cellsOf (a0 : WriteEnd) (s : State) : cellsOf (policyRevert a0 s) = cellsOf s :=
  by simp [policyRevert]
@[simp] theorem resumeActivation_cellsOf (a0 : List Byte) (s : State) : cellsOf (resumeActivation a0 s) = cellsOf s :=
  by simp [resumeActivation]
@[simp] theorem policyStile_cellsOf (a0 : WriteEnd) (s : State) : cellsOf ((policyStile a0 s).2) = cellsOf s := by
  unfold policyStile
  (repeat' split) <;> simp [apply_ite cellsOf, apply_ite Prod.snd]
@[simp] theorem policyRuntime_cellsOf (a0 : Nat) (s : State) : cellsOf (policyRuntime a0 s) = cellsOf s := by
  unfold policyRuntime
  simp [apply_ite cellsOf, apply_ite Prod.snd]
@[simp] theorem reapply_cellsOf (s : State) (a1 : Nat × Nat) : cellsOf (reapply s a1) = cellsOf s := by
  unfold reapply
  (repeat' split) <;> simp [apply_ite cellsOf, apply_ite Prod.snd]
@[simp] theorem policyCompile_cellsOf (s : State) : cellsOf (policyCompile s) = cellsOf s := by
  unfold policyCompile
  dsimp only
  split
  · simp [apply_ite cellsOf]
  · split <;> simp [apply_ite cellsOf]
@[simp] theorem bootRequests_cellsOf (s : State) : cellsOf (bootRequests s) = cellsOf s := by simp [bootRequests]
@[simp] theorem savedNow_cellsOf (s : State) : cellsOf (savedNow s) = cellsOf s := by simp [savedNow]
@[simp] theorem policyRead_cellsOf (a0 : WriteEnd) (s : State) : cellsOf ((policyRead a0 s).2) = cellsOf s := by
  unfold policyRead
  (repeat' (first | dsimp only | split)) <;> simp [apply_ite cellsOf, apply_ite Prod.snd]
@[simp] theorem policyRun_cellsOf (a0 : List Byte) (s : State) : cellsOf (policyRun a0 s) = cellsOf s := by
  unfold policyRun
  (repeat' (first | dsimp only | split)) <;> simp [apply_ite cellsOf, apply_ite Prod.snd]
@[simp] theorem execPolicy_cellsOf (a0 : WriteEnd) (s : State) : cellsOf ((after (execPolicy a0 s) s)) = cellsOf s := by
  unfold execPolicy
  (repeat' (first | dsimp only | split)) <;> simp [apply_ite cellsOf, apply_ite Prod.snd]

end Sys2Proof.Laws
end

