-- ==== Sys2Proof/Laws/CellsLink.lean ====
section
/-! SUPPORT. What leaves the bytes of the physical flashes as it is: objects, SPDM and the link. -/
namespace Sys2Proof.Laws
open Sys2Proof.Machine
set_option linter.unusedVariables false
set_option linter.unusedSimpArgs false
set_option linter.unnecessarySeqFocus false
set_option linter.unreachableTactic false
set_option linter.unusedTactic false
set_option maxRecDepth 4000

@[simp] theorem execMeasurementRecompute_cellsOf (a0 : U8) (s : State) : cellsOf ((after (execMeasurementRecompute a0
    s) s)) = cellsOf s := by
  unfold execMeasurementRecompute
  split <;> simp
@[simp] theorem readRule_cellsOf (a0 : Port) (a1 : Nat) (a2 : Nat) (s : State) : cellsOf ((readRule a0 a1 a2 s).2.2) =
    cellsOf s := by
  unfold readRule
  (repeat' split) <;> simp [apply_ite cellsOf, apply_ite Prod.snd]
@[simp] theorem journalBlock_cellsOf (a0 : Nat) (a1 : List (Nat × JEntry)) (a2 : Nat) (a3 : Nat) (s : State) : cellsOf
    ((journalBlock a0 a1 a2 a3 s).2.2) = cellsOf s := by
  induction a3 generalizing a2 s with
  | zero => first | rfl | (simp [journalBlock]; done) | (unfold journalBlock; simp)
  | succ n ih => first | (simp [journalBlock, ih, apply_ite cellsOf]; done) | (unfold journalBlock; (repeat' (first | dsimp only | split)) <;> simp_all)
@[simp] theorem readBlockRule_cellsOf (a0 : Port) (a1 : Nat) (a2 : Nat) (a3 : Nat) (a4 : Nat) (s : State) : cellsOf
    ((readBlockRule a0 a1 a2 a3 a4 s).2.2) = cellsOf s := by
  unfold readBlockRule
  simp only [apply_ite cellsOf, apply_ite Prod.snd]
  (repeat' split) <;> simp [*]
@[simp] theorem windowBeats_cellsOf (a0 : Nat) (a1 : Nat) (s : State) : cellsOf ((windowBeats a0 a1 s).2) = cellsOf s
    := by
  induction a1 generalizing a0 s with
  | zero => first | rfl | (simp [windowBeats]; done) | (unfold windowBeats; simp)
  | succ n ih => first | (simp [windowBeats, ih, apply_ite cellsOf]; done) | (unfold windowBeats; (repeat' (first | dsimp only | split)) <;> simp_all)
@[simp] theorem dataFabric_cellsOf (s : State) : cellsOf ((dataFabric s).2) = cellsOf s := by
  unfold dataFabric
  simp [apply_ite cellsOf, apply_ite Prod.snd]
@[simp] theorem faCount_cellsOf (a0 : U8 × List Byte × State) : cellsOf ((faCount a0).2) = cellsOf (a0.2.2) := by
  unfold faCount
  simp [apply_ite cellsOf, apply_ite Prod.snd]
@[simp] theorem faReadRule_cellsOf (a0 : Port) (a1 : Nat) (a2 : Nat) (s : State) : cellsOf ((faReadRule a0 a1 a2 s).2)
    = cellsOf s := by
  unfold faReadRule
  simp [apply_ite cellsOf, apply_ite Prod.snd]
@[simp] theorem blockRequest_cellsOf (a0 : Port) (a1 : Nat) (a2 : Nat) (a3 : Nat) (s : State) : cellsOf ((blockRequest
    a0 a1 a2 a3 s).2) = cellsOf s := by simp [blockRequest]
@[simp] theorem execFaWindowRead_cellsOf (a0 : Port) (a1 : U40) (a2 : U16) (s : State) : cellsOf ((after
    (execFaWindowRead a0 a1 a2 s) s)) = cellsOf s := by
  unfold execFaWindowRead
  (repeat' (first | dsimp only | split)) <;> (try simp only [drbgGenerate_some, storeRecord_ok, Prod.ext_iff] at *) <;> (try casesm* _ ∧ _) <;>
    subst_vars <;> simp [*, apply_ite cellsOf, apply_ite Prod.snd]
@[simp] theorem dropField_cellsOf (a0 : Port) (s : State) : cellsOf (dropField a0 s) = cellsOf s := by simp [dropField]
@[simp] theorem execFaReadExpiry_cellsOf (a0 : Port) (s : State) : cellsOf ((after (execFaReadExpiry a0 s) s)) =
    cellsOf s := by
  unfold execFaReadExpiry
  split <;> simp
@[simp] theorem wipeMemory_cellsOf (a0 : Nat) (s : State) : cellsOf (wipeMemory a0 s) = cellsOf s := by
  unfold wipeMemory
  split <;> simp
@[simp] theorem bistRule_cellsOf (a0 : Fin 8) (a1 : Bool) (s : State) : cellsOf ((bistRule a0 a1 s).2) = cellsOf s := by
  unfold bistRule
  simp [apply_ite cellsOf, apply_ite Prod.snd]
@[simp] theorem execBist_cellsOf (a0 : Port) (a1 : Fin 8) (a2 : Bool) (s : State) : cellsOf ((after (execBist a0 a1 a2
    s) s)) = cellsOf s := by simp [execBist]
@[simp] theorem injectRule_cellsOf (a0 : Fin 8) (s : State) : cellsOf ((injectRule a0 s).2) = cellsOf s := by
  unfold injectRule
  simp [apply_ite cellsOf, apply_ite Prod.snd]
@[simp] theorem execInject_cellsOf (a0 : Port) (a1 : Fin 8) (s : State) : cellsOf ((after (execInject a0 a1 s) s)) =
    cellsOf s := by simp [execInject]
@[simp] theorem unitTestRule_cellsOf (a0 : Port) (a1 : U8) (a2 : Bool) (s : State) : cellsOf ((unitTestRule a0 a1 a2
    s).2) = cellsOf s := by
  unfold unitTestRule
  simp [apply_ite cellsOf, apply_ite Prod.snd]
@[simp] theorem execUnitTest_cellsOf (a0 : Port) (a1 : U8) (a2 : Bool) (s : State) : cellsOf ((after (execUnitTest a0
    a1 a2 s) s)) = cellsOf s := by simp [execUnitTest]
@[simp] theorem retainedClearRule_cellsOf (s : State) : cellsOf ((retainedClearRule s).2) = cellsOf s := by
  unfold retainedClearRule
  simp [apply_ite cellsOf, apply_ite Prod.snd]
@[simp] theorem execRetainedClear_cellsOf (a0 : Port) (s : State) : cellsOf ((after (execRetainedClear a0 s) s)) =
    cellsOf s := by simp [execRetainedClear]
@[simp] theorem fenceRule_cellsOf (a0 : Port) (s : State) : cellsOf ((fenceRule a0 s).2.2) = cellsOf s := by
  unfold fenceRule
  (repeat' split) <;> simp [apply_ite cellsOf, apply_ite Prod.snd]
@[simp] theorem execFence_cellsOf (a0 : Port) (s : State) : cellsOf ((after (execFence a0 s) s)) = cellsOf s := by
  unfold execFence
  simp only [apply_ite cellsOf, apply_ite Prod.snd]
  (repeat' split) <;> simp [*]
@[simp] theorem drawBool_cellsOf (s : State) : cellsOf ((drawBool s).2) = cellsOf s := by simp [drawBool]
@[simp] theorem drawWindow_cellsOf (s : State) : cellsOf ((drawWindow s).2) = cellsOf s := by simp [drawWindow]
@[simp] theorem drawFailing_cellsOf (s : State) : cellsOf ((drawFailing s).2) = cellsOf s := by simp [drawFailing]
@[simp] theorem drawTry_cellsOf (s : State) : cellsOf ((drawTry s).2) = cellsOf s := by simp [drawTry]
@[simp] theorem portWrite_cellsOf (a0 : Port) (a1 : PortRegs → PortRegs) (s : State) : cellsOf ((portWrite a0 a1 s).2)
    = cellsOf s := by simp [portWrite]
@[simp] theorem ranged_cellsOf (a0 : Bool) (a1 : U8 × State) (s : State) (h1 : cellsOf a1.2 = cellsOf s) : cellsOf
    ((ranged a0 a1 s).2) = cellsOf s := by
  unfold ranged; split
  · exact h1
  · rfl
@[simp] theorem rwRule_cellsOf (a0 : Port) (a1 : Nat) (a2 : Nat) (a3 : List Byte) (s : State) : cellsOf ((rwRule a0 a1
    a2 a3 s).2) = cellsOf s := by
  unfold rwRule
  repeat' with_reducible apply ite_cellsOf
  all_goals simp
@[simp] theorem writeRule_cellsOf (a0 : Port) (a1 : Nat) (a2 : Nat) (a3 : List Byte) (s : State) : cellsOf ((writeRule
    a0 a1 a2 a3 s).2) = cellsOf s := by
  unfold writeRule
  (repeat' split) <;> simp [apply_ite cellsOf, apply_ite Prod.snd]
@[simp] theorem execRegisterWrite_cellsOf (a0 : Port) (a1 : U16) (a2 : U8) (a3 : List Byte) (s : State) : cellsOf
    ((after (execRegisterWrite a0 a1 a2 a3 s) s)) = cellsOf s := by simp [execRegisterWrite]
@[simp] theorem writeBlockRule_cellsOf (a0 : Port) (a1 : Nat) (a2 : Nat) (a3 : List Byte) (s : State) : cellsOf
    ((writeBlockRule a0 a1 a2 a3 s).2) = cellsOf s := by
  unfold writeBlockRule
  (repeat' split) <;> simp [apply_ite cellsOf, apply_ite Prod.snd]
@[simp] theorem execWriteBlock_cellsOf (a0 : Port) (a1 : U16) (a2 : U8) (a3 : U40) (a4 : List Byte) (s : State) :
    cellsOf ((after (execWriteBlock a0 a1 a2 a3 a4 s) s)) = cellsOf s := by
  unfold execWriteBlock
  (repeat' split) <;> simp [apply_ite cellsOf, apply_ite Prod.snd]
@[simp] theorem now_cellsOf (a0 : U8 × State) : cellsOf ((now a0).2) = cellsOf (a0.2) := by simp [now]
@[simp] theorem execLow_cellsOf (a0 : Port) (a1 : Nat) (a2 : Nat) (a3 : Nat) (s : State) : cellsOf ((execLow a0 a1 a2
    a3 s).2) = cellsOf s := by
  unfold execLow
  simp only [apply_ite cellsOf, apply_ite Prod.snd]
  (repeat' split) <;> simp [*]
@[simp] theorem execHigh_cellsOf (a0 : Port) (a1 : Nat) (a2 : Nat) (a3 : Nat) (s : State) : cellsOf ((execHigh a0 a1 a2
    a3 s).2) = cellsOf s := by
  unfold execHigh
  simp only [apply_ite cellsOf, apply_ite Prod.snd]
  (repeat' split) <;> simp [*]
@[simp] theorem execRule_cellsOf (a0 : Port) (a1 : Nat) (a2 : Nat) (a3 : List Byte) (s : State) : cellsOf ((execRule a0
    a1 a2 a3 s).2) = cellsOf s := by
  unfold execRule
  (repeat' split) <;> simp [apply_ite cellsOf, apply_ite Prod.snd]
@[simp] theorem execRead_cellsOf (a0 : Port) (a1 : U16) (a2 : U8) (s : State) : cellsOf ((after (execRead a0 a1 a2 s)
    s)) = cellsOf s := by simp [execRead]
@[simp] theorem execReadBlock_cellsOf (a0 : Port) (a1 : U16) (a2 : U8) (a3 : U40) (a4 : U16) (s : State) : cellsOf
    ((after (execReadBlock a0 a1 a2 a3 a4 s) s)) = cellsOf s := by
  unfold execReadBlock
  simp only [apply_ite cellsOf, apply_ite Prod.snd]
  (repeat' split) <;> simp [*]
@[simp] theorem pollEntry_cellsOf (a0 : Port) (a1 : Nat) (a2 : Nat) (s : State) : cellsOf ((pollEntry a0 a1 a2 s).2.2)
    = cellsOf s := by
  unfold pollEntry
  simp [apply_ite cellsOf, apply_ite Prod.snd]
@[simp] theorem pollEntries_cellsOf (a0 : Port) (a1 : List (U16 × U8)) (s : State) : cellsOf ((pollEntries a0 a1
    s).2.2) = cellsOf s := by
  induction a1 generalizing s with
  | nil => first | rfl | (simp [pollEntries]; done) | (unfold pollEntries; simp)
  | cons e es ih => first | (simp [pollEntries, ih, apply_ite cellsOf]; done) | (unfold pollEntries; (repeat' (first | dsimp only | split)) <;> simp_all)
@[simp] theorem pollRule_cellsOf (a0 : Port) (a1 : List (U16 × U8)) (s : State) : cellsOf ((pollRule a0 a1 s).2.2) =
    cellsOf s := by
  unfold pollRule
  simp [apply_ite cellsOf, apply_ite Prod.snd]
@[simp] theorem execPoll_cellsOf (a0 : Port) (a1 : List (U16 × U8)) (s : State) : cellsOf ((after (execPoll a0 a1 s)
    s)) = cellsOf s := by
  unfold execPoll
  simp only [apply_ite cellsOf, apply_ite Prod.snd]
  (repeat' split) <;> simp [*]
@[simp] theorem modConn_cellsOf (a0 : MPort) (a1 : SpdmConn → SpdmConn) (s : State) : cellsOf (modConn a0 a1 s) =
    cellsOf s := by simp [modConn]
@[simp] theorem spdmError_cellsOf (a0 : Nat) (a1 : Nat) (s : State) : cellsOf ((spdmError a0 a1 s).2) = cellsOf s :=
  by simp [spdmError]
@[simp] theorem spdmNonce_cellsOf (s : State) : cellsOf ((spdmNonce s).2) = cellsOf s := by simp [spdmNonce]
@[simp] theorem spdmScalar_cellsOf (s : State) : cellsOf ((spdmScalar s).2) = cellsOf s := by
  unfold spdmScalar
  (repeat' (first | dsimp only | split)) <;> (try simp only [drbgGenerate_some, storeRecord_ok, Prod.ext_iff] at *) <;> (try casesm* _ ∧ _) <;>
    subst_vars <;> simp [*, apply_ite cellsOf, apply_ite Prod.snd]
@[simp] theorem spdmSign_cellsOf (a0 : Nat) (a1 : List Byte) (s : State) : cellsOf ((spdmSign a0 a1 s).2) = cellsOf s
    := by
  induction a0 generalizing s with
  | zero => rfl
  | succ n ih =>
    unfold spdmSign
    have h := spdmScalar_cellsOf s
    split
    · simp_all
    · split
      · split <;> simp_all
      · simp_all
@[simp] theorem spdmRelease_cellsOf (a0 : String) (a1 : List Byte) (a2 : List Byte) (a3 : List Byte → State → List Byte
    × State) (s : State) (h4 : ∀ y0 y1, cellsOf ((((a3 y0 y1))).2) = cellsOf ((y1))) : cellsOf ((spdmRelease a0 a1 a2 a3 s).2) = cellsOf s := by
  unfold spdmRelease
  (repeat' (first | dsimp only | split)) <;> (try simp only [drbgGenerate_some, storeRecord_ok, Prod.ext_iff] at *) <;> (try casesm* _ ∧ _) <;>
    subst_vars <;> simp [*, apply_ite cellsOf, apply_ite Prod.snd]
@[simp] theorem spdmVersion_cellsOf (a0 : MPort) (a1 : SpdmReq) (s : State) : cellsOf ((spdmVersion a0 a1 s).2) =
    cellsOf s := by simp [spdmVersion]
@[simp] theorem spdmCapabilities_cellsOf (a0 : MPort) (a1 : SpdmReq) (s : State) : cellsOf ((spdmCapabilities a0 a1
    s).2) = cellsOf s := by
  unfold spdmCapabilities
  simp [apply_ite cellsOf, apply_ite Prod.snd]
@[simp] theorem spdmAlgorithms_cellsOf (a0 : MPort) (a1 : SpdmReq) (s : State) : cellsOf ((spdmAlgorithms a0 a1 s).2) =
    cellsOf s := by
  unfold spdmAlgorithms
  simp [apply_ite cellsOf, apply_ite Prod.snd]
@[simp] theorem spdmKeepM1_cellsOf (a0 : MPort) (a1 : List Byte) (a2 : List Byte) (s : State) : cellsOf (spdmKeepM1 a0
    a1 a2 s) = cellsOf s := by simp [spdmKeepM1]
@[simp] theorem spdmDigests_cellsOf (a0 : MPort) (a1 : SpdmReq) (s : State) : cellsOf ((spdmDigests a0 a1 s).2) =
    cellsOf s := by simp [spdmDigests]
@[simp] theorem spdmCertificate_cellsOf (a0 : MPort) (a1 : SpdmReq) (s : State) : cellsOf ((spdmCertificate a0 a1 s).2)
    = cellsOf s := by
  unfold spdmCertificate
  simp [apply_ite cellsOf, apply_ite Prod.snd]
@[simp] theorem spdmSummary_cellsOf (a0 : Nat) (s : State) : cellsOf ((spdmSummary a0 s).2) = cellsOf s := by
  unfold spdmSummary
  simp [apply_ite cellsOf, apply_ite Prod.snd]
@[simp] theorem spdmChallengeAuth_cellsOf (a0 : MPort) (a1 : SpdmReq) (s : State) : cellsOf ((spdmChallengeAuth a0 a1
    s).2) = cellsOf s := by
  unfold spdmChallengeAuth
  (repeat' (first | dsimp only | split)) <;> (try simp only [drbgGenerate_some, storeRecord_ok, Prod.ext_iff] at *) <;> (try casesm* _ ∧ _) <;>
    subst_vars <;> simp [*, apply_ite cellsOf, apply_ite Prod.snd]
@[simp] theorem spdmSetL1_cellsOf (a0 : MPort) (a1 : Option U32) (a2 : List Byte) (s : State) : cellsOf (spdmSetL1 a0
    a1 a2 s) = cellsOf s := by
  unfold spdmSetL1
  split <;> simp
@[simp] theorem spdmMeasurements_cellsOf (a0 : MPort) (a1 : Option U32) (a2 : SpdmReq) (s : State) : cellsOf
    ((spdmMeasurements a0 a1 a2 s).2) = cellsOf s := by
  unfold spdmMeasurements
  (repeat' (first | dsimp only | split)) <;> (try simp only [drbgGenerate_some, storeRecord_ok, Prod.ext_iff] at *) <;> (try casesm* _ ∧ _) <;>
    subst_vars <;> simp [*, apply_ite cellsOf, apply_ite Prod.snd]
@[simp] theorem endSession_cellsOf (a0 : U32) (a1 : Nat) (s : State) : cellsOf (endSession a0 a1 s) = cellsOf s :=
  by simp [endSession]
theorem sessionRoom_some_cellsOf {s t : State} (h : sessionRoom s = some t) : cellsOf t = cellsOf s := by
  unfold sessionRoom at h
  split at h
  · cases h; rfl
  · split at h
    · split at h
      · cases h; simp
      · cases h
    · cases h; rfl
@[simp] theorem spdmKeyExchange_cellsOf (a0 : MPort) (a1 : SpdmReq) (s : State) : cellsOf ((spdmKeyExchange a0 a1 s).2)
    = cellsOf s := by
  unfold spdmKeyExchange
  dsimp only
  split
  · simp
  split
  · simp
  split
  · simp
  rename_i t ht
  rw [← sessionRoom_some_cellsOf ht]
  have h1 := draw_cellsOf 16 t
  generalize draw 16 t = q at *
  obtain ⟨q, u⟩ := q
  dsimp only at *
  rw [← h1]
  have h2 := spdmSummary_cellsOf a1.param1.toNat u
  generalize spdmSummary a1.param1.toNat u = q2 at *
  obtain ⟨q2, u2⟩ := q2
  dsimp only at *
  rw [← h2]
  split
  · simp_all
  rename_i hh; cases hh
  have h3 := spdmNonce_cellsOf u2
  generalize spdmNonce u2 = q3 at *
  obtain ⟨q3, u3⟩ := q3
  dsimp only at *
  rw [← h3]
  split
  · simp_all
  rename_i hh; cases hh
  have h4 := spdmScalar_cellsOf u3
  generalize spdmScalar u3 = q4 at *
  obtain ⟨q4, u4⟩ := q4
  dsimp only at *
  rw [← h4]
  split
  · simp_all
  rename_i hh; cases hh
  split
  · simp
  split
  · simp
  · refine spdmRelease_cellsOf _ _ _ _ _ (fun a b => ?_)
    simp
@[simp] theorem spdmFinish_cellsOf (a0 : Option U32) (a1 : SpdmReq) (s : State) : cellsOf ((spdmFinish a0 a1 s).2) =
    cellsOf s := by
  unfold spdmFinish
  (repeat' split) <;> simp [apply_ite cellsOf, apply_ite Prod.snd]
@[simp] theorem spdmEnd_cellsOf (a0 : Option U32) (a1 : SpdmReq) (s : State) : cellsOf ((spdmEnd a0 a1 s).2) = cellsOf
    s := by
  unfold spdmEnd
  simp [apply_ite cellsOf, apply_ite Prod.snd]
@[simp] theorem spdmServe_cellsOf (a0 : MPort) (a1 : Option U32) (a2 : Nat) (a3 : SpdmReq) (s : State) : cellsOf
    ((spdmServe a0 a1 a2 a3 s).2) = cellsOf s := by
  unfold spdmServe
  repeat' with_reducible apply ite_cellsOf
  all_goals first | with_reducible exact spdmError_cellsOf .. | with_reducible exact spdmVersion_cellsOf .. | with_reducible exact spdmCapabilities_cellsOf .. | with_reducible exact spdmAlgorithms_cellsOf .. | split
  all_goals repeat' with_reducible apply ite_cellsOf
  all_goals first | with_reducible exact spdmError_cellsOf .. | with_reducible exact spdmMeasurements_cellsOf .. | with_reducible exact spdmFinish_cellsOf .. | with_reducible exact spdmEnd_cellsOf .. | with_reducible exact spdmDigests_cellsOf .. | with_reducible exact spdmCertificate_cellsOf .. | with_reducible exact spdmChallengeAuth_cellsOf .. | with_reducible exact spdmKeyExchange_cellsOf ..
@[simp] theorem spdmAfter_cellsOf (a0 : Option U32) (a1 : Nat) (a2 : List Byte) (s : State) : cellsOf (spdmAfter a0 a1
    a2 s) = cellsOf s := by
  unfold spdmAfter
  (repeat' split) <;> simp [apply_ite cellsOf, apply_ite Prod.snd]
@[simp] theorem spdmHandle_cellsOf (a0 : MPort) (a1 : Option U32) (a2 : Nat) (a3 : SpdmReq) (a4 : Nat) (a5 : Nat) (s :
    State) : cellsOf (spdmHandle a0 a1 a2 a3 a4 a5 s) = cellsOf s := by simp [spdmHandle]
@[simp] theorem spdmRefuse_cellsOf (a0 : MPort) (a1 : Nat) (a2 : Nat) (s : State) : cellsOf (spdmRefuse a0 a1 a2 s) =
    cellsOf s := by simp [spdmRefuse]
@[simp] theorem spdmReceive_cellsOf (a0 : Nat) (a1 : SpdmReq) (a2 : Nat) (a3 : Nat) (a4 : Option U32) (s : State) :
    cellsOf (spdmReceive a0 a1 a2 a3 a4 s) = cellsOf s := by
  unfold spdmReceive
  simp [apply_ite cellsOf, apply_ite Prod.snd]
@[simp] theorem spdmRow_cellsOf (a0 : Nat) (a1 : State → Option U32) (a2 : SpdmReq) (s : State) : cellsOf ((after
    (spdmRow a0 a1 a2 s) s)) = cellsOf s := by
  unfold spdmRow
  split <;> simp
@[simp] theorem execGetVersion_cellsOf (a0 : SpdmReq) (s : State) : cellsOf ((after (execGetVersion a0 s) s)) = cellsOf
    s := by simp [execGetVersion]
@[simp] theorem execGetCapabilities_cellsOf (a0 : SpdmReq) (s : State) : cellsOf ((after (execGetCapabilities a0 s) s))
    = cellsOf s := by simp [execGetCapabilities]
@[simp] theorem execNegotiateAlgorithms_cellsOf (a0 : SpdmReq) (s : State) : cellsOf ((after (execNegotiateAlgorithms
    a0 s) s)) = cellsOf s := by simp [execNegotiateAlgorithms]
@[simp] theorem execGetDigests_cellsOf (a0 : SpdmReq) (s : State) : cellsOf ((after (execGetDigests a0 s) s)) = cellsOf
    s := by simp [execGetDigests]
@[simp] theorem execGetCertificate_cellsOf (a0 : SpdmReq) (s : State) : cellsOf ((after (execGetCertificate a0 s) s)) =
    cellsOf s := by simp [execGetCertificate]
@[simp] theorem execSpdmChallenge_cellsOf (a0 : SpdmReq) (s : State) : cellsOf ((after (execSpdmChallenge a0 s) s)) =
    cellsOf s := by simp [execSpdmChallenge]
@[simp] theorem execGetMeasurements_cellsOf (a0 : SpdmReq) (s : State) : cellsOf ((after (execGetMeasurements a0 s) s))
    = cellsOf s := by simp [execGetMeasurements]
@[simp] theorem execKeyExchange_cellsOf (a0 : SpdmReq) (s : State) : cellsOf ((after (execKeyExchange a0 s) s)) =
    cellsOf s := by simp [execKeyExchange]
@[simp] theorem execFinish_cellsOf (a0 : SpdmReq) (s : State) : cellsOf ((after (execFinish a0 s) s)) = cellsOf s :=
  by simp [execFinish]
@[simp] theorem execEndSession_cellsOf (a0 : SpdmReq) (s : State) : cellsOf ((after (execEndSession a0 s) s)) = cellsOf
    s := by simp [execEndSession]
@[simp] theorem execSpdmUnsupportedRequest_cellsOf (a0 : SpdmReq) (a1 : Byte) (s : State) : cellsOf ((after
    (execSpdmUnsupportedRequest a0 a1 s) s)) = cellsOf s := by
  unfold execSpdmUnsupportedRequest
  split <;> simp
@[simp] theorem nack_cellsOf (a0 : MPort) (s : State) : cellsOf (nack a0 s) = cellsOf s := by simp [nack]
@[simp] theorem acks_cellsOf (a0 : MPort) (a1 : List Byte) (s : State) : cellsOf (acks a0 a1 s) = cellsOf s :=
  by simp [acks]
@[simp] theorem controlReply_cellsOf (a0 : MPort) (a1 : Byte) (a2 : Byte) (a3 : List Byte) (a4 : Nat) (a5 : Nat) (s :
    State) : cellsOf (controlReply a0 a1 a2 a3 a4 a5 s) = cellsOf s := by simp [controlReply]
@[simp] theorem setEid_cellsOf (a0 : MPort) (a1 : Byte) (a2 : U8) (s : State) : cellsOf ((setEid a0 a1 a2 s).2) =
    cellsOf s := by
  unfold setEid
  simp [apply_ite cellsOf, apply_ite Prod.snd]
@[simp] theorem versionSupport_cellsOf (a0 : Byte) (s : State) : cellsOf ((versionSupport a0 s).2) = cellsOf s := by
  unfold versionSupport
  simp [apply_ite cellsOf, apply_ite Prod.snd]
@[simp] theorem controlServe_cellsOf (a0 : MPort) (a1 : Byte) (a2 : List Byte) (s : State) : cellsOf ((controlServe a0
    a1 a2 s).2) = cellsOf s := by
  unfold controlServe
  (repeat' split) <;> simp [apply_ite cellsOf, apply_ite Prod.snd]
@[simp] theorem controlReceive_cellsOf (a0 : MPort) (a1 : List Byte) (a2 : Nat) (a3 : Nat) (s : State) : cellsOf
    (controlReceive a0 a1 a2 a3 s) = cellsOf s := by
  unfold controlReceive
  simp [apply_ite cellsOf, apply_ite Prod.snd]
@[simp] theorem controlRow_cellsOf (a0 : MPort) (a1 : Byte) (a2 : List Byte) (s : State) : cellsOf (controlRow a0 a1 a2
    s) = cellsOf s := by
  unfold controlRow
  simp [apply_ite cellsOf, apply_ite Prod.snd]
@[simp] theorem execSetEndpointId_cellsOf (a0 : MPort) (a1 : Byte) (a2 : U8) (s : State) : cellsOf ((after
    (execSetEndpointId a0 a1 a2 s) s)) = cellsOf s := by simp [execSetEndpointId]
@[simp] theorem execGetEndpointId_cellsOf (a0 : MPort) (s : State) : cellsOf ((after (execGetEndpointId a0 s) s)) =
    cellsOf s := by simp [execGetEndpointId]
@[simp] theorem execGetMctpVersionSupport_cellsOf (a0 : MPort) (a1 : Byte) (s : State) : cellsOf ((after
    (execGetMctpVersionSupport a0 a1 s) s)) = cellsOf s := by simp [execGetMctpVersionSupport]
@[simp] theorem execGetMessageTypeSupport_cellsOf (a0 : MPort) (s : State) : cellsOf ((after (execGetMessageTypeSupport
    a0 s) s)) = cellsOf s := by simp [execGetMessageTypeSupport]
@[simp] theorem execGetVendorDefinedMessageSupport_cellsOf (a0 : MPort) (a1 : Byte) (s : State) : cellsOf ((after
    (execGetVendorDefinedMessageSupport a0 a1 s) s)) = cellsOf s := by simp [execGetVendorDefinedMessageSupport]
@[simp] theorem execMctpUnsupportedCommand_cellsOf (a0 : MPort) (a1 : Byte) (s : State) : cellsOf ((after
    (execMctpUnsupportedCommand a0 a1 s) s)) = cellsOf s := by
  unfold execMctpUnsupportedCommand
  split <;> simp
@[simp] theorem refuse_cellsOf (a0 : MPort) (a1 : Option U32) (a2 : List Byte) (a3 : Nat) (a4 : Nat) (s : State) :
    cellsOf (refuse a0 a1 a2 a3 a4 s) = cellsOf s := by
  unfold refuse
  (repeat' (first | dsimp only | split)) <;> (try simp only [drbgGenerate_some, storeRecord_ok, Prod.ext_iff] at *) <;> (try casesm* _ ∧ _) <;>
    subst_vars <;> simp [*, apply_ite cellsOf, apply_ite Prod.snd]
@[simp] theorem aliveOf_cellsOf (a0 : List Byte) (s : State) : cellsOf ((aliveOf a0 s).2) = cellsOf s := by
  unfold aliveOf
  split <;> simp
@[simp] theorem idpAdmit_cellsOf (a0 : MPort) (a1 : Option U32) (a2 : List Byte) (a3 : Nat) (a4 : Nat) (s : State) :
    cellsOf ((idpAdmit a0 a1 a2 a3 a4 s).2) = cellsOf s := by
  unfold idpAdmit
  simp [apply_ite cellsOf, apply_ite Prod.snd]
@[simp] theorem idpDone_cellsOf (a0 : MPort) (a1 : LinkReq) (a2 : U8) (a3 : List Byte) (a4 : List Byte) (a5 : Bool) (s
    : State) : cellsOf (idpDone a0 a1 a2 a3 a4 a5 s) = cellsOf s := by simp [idpDone]
@[simp] theorem idpRead_cellsOf (a0 : MPort) (a1 : LinkReq) (a2 : Nat) (a3 : Nat) (s : State) : cellsOf (idpRead a0 a1
    a2 a3 s) = cellsOf s := by
  unfold idpRead
  simp [apply_ite cellsOf, apply_ite Prod.snd]
@[simp] theorem idpReadBlock_cellsOf (a0 : MPort) (a1 : LinkReq) (a2 : Nat) (a3 : Nat) (a4 : Nat) (a5 : Nat) (s :
    State) : cellsOf (idpReadBlock a0 a1 a2 a3 a4 a5 s) = cellsOf s := by
  unfold idpReadBlock
  (repeat' (first | dsimp only | split)) <;> (try simp only [drbgGenerate_some, storeRecord_ok, Prod.ext_iff] at *) <;> (try casesm* _ ∧ _) <;>
    subst_vars <;> simp [*, apply_ite cellsOf, apply_ite Prod.snd]
@[simp] theorem idpExec_cellsOf (a0 : MPort) (a1 : LinkReq) (a2 : Nat) (a3 : Nat) (a4 : List Byte) (s : State) :
    cellsOf (idpExec a0 a1 a2 a3 a4 s) = cellsOf s := by
  unfold idpExec
  (repeat' (first | dsimp only | split)) <;> (try simp only [drbgGenerate_some, storeRecord_ok, Prod.ext_iff] at *) <;> (try casesm* _ ∧ _) <;>
    subst_vars <;> simp [*, apply_ite cellsOf, apply_ite Prod.snd]
@[simp] theorem idpService_cellsOf (a0 : MPort) (a1 : LinkReq) (a2 : List Byte) (s : State) : cellsOf (idpService a0 a1
    a2 s) = cellsOf s := by
  unfold idpService
  simp only [apply_ite cellsOf, apply_ite Prod.snd]
  (repeat' split) <;> simp [*]
@[simp] theorem idpServe_cellsOf (a0 : MPort) (a1 : Option U32) (a2 : List Byte) (a3 : Nat) (a4 : Nat) (s : State) :
    cellsOf (idpServe a0 a1 a2 a3 a4 s) = cellsOf s := by
  unfold idpServe
  simp only [apply_ite cellsOf, apply_ite Prod.snd]
  (repeat' split) <;> simp [*]
@[simp] theorem spdmMessage_cellsOf (a0 : MPort) (a1 : Option U32) (a2 : List Byte) (a3 : Nat) (a4 : Nat) (s : State) :
    cellsOf (spdmMessage a0 a1 a2 a3 a4 s) = cellsOf s := by
  unfold spdmMessage
  split <;> simp
@[simp] theorem securedServe_cellsOf (a0 : MPort) (a1 : U32) (a2 : List Byte) (a3 : Nat) (a4 : Nat) (s : State) :
    cellsOf (securedServe a0 a1 a2 a3 a4 s) = cellsOf s := by
  unfold securedServe
  (repeat' split) <;> simp [apply_ite cellsOf, apply_ite Prod.snd]
@[simp] theorem serveOne_cellsOf (a0 : MPort) (a1 : RxMsg) (s : State) : cellsOf (serveOne a0 a1 s) = cellsOf s := by
  unfold serveOne
  simp [apply_ite cellsOf, apply_ite Prod.snd]
@[simp] theorem serveRx_cellsOf (a0 : Nat) (a1 : MPort) (s : State) : cellsOf (serveRx a0 a1 s) = cellsOf s := by
  induction a0 generalizing s with
  | zero => rfl
  | succ n ih => unfold serveRx; (repeat' (first | dsimp only | split)) <;> simp_all [apply_ite cellsOf]
@[simp] theorem serveLink_cellsOf (a0 : MPort) (s : State) : cellsOf (serveLink a0 s) = cellsOf s := by simp [serveLink]
@[simp] theorem serveLinks_cellsOf (s : State) : cellsOf (serveLinks s) = cellsOf s := by simp [serveLinks]
@[simp] theorem enqueue_cellsOf (a0 : MPort) (a1 : RxMsg) (s : State) : cellsOf (enqueue a0 a1 s) = cellsOf s :=
  by simp [enqueue]
@[simp] theorem receiveMsg_cellsOf (a0 : MPort) (a1 : RxMsg) (s : State) : cellsOf (receiveMsg a0 a1 s) = cellsOf s := by
  unfold receiveMsg
  simp [apply_ite cellsOf, apply_ite Prod.snd]
@[simp] theorem execSecuredMessage_cellsOf (a0 : MPort) (a1 : U32) (a2 : List Byte) (s : State) : cellsOf ((after
    (execSecuredMessage a0 a1 a2 s) s)) = cellsOf s := by
  unfold execSecuredMessage
  split <;> simp
@[simp] theorem assemble_cellsOf (a0 : MPort) (a1 : Bool) (a2 : Bool) (a3 : Nat) (a4 : Nat) (a5 : Nat) (a6 : List Byte)
    (s : State) : cellsOf (assemble a0 a1 a2 a3 a4 a5 a6 s) = cellsOf s := by
  unfold assemble
  simp only [apply_ite cellsOf, apply_ite Prod.snd]
  (repeat' split) <;> simp [*]
@[simp] theorem execMctpPacket_cellsOf (a0 : MPort) (a1 : Bool) (a2 : List Byte) (s : State) : cellsOf ((after
    (execMctpPacket a0 a1 a2 s) s)) = cellsOf s := by
  unfold execMctpPacket
  simp only [apply_ite cellsOf, apply_ite Prod.snd]
  (repeat' split) <;> simp [*]
@[simp] theorem execMgmtAssemblyExpiry_cellsOf (a0 : MPort) (s : State) : cellsOf ((after (execMgmtAssemblyExpiry a0 s)
    s)) = cellsOf s := by
  unfold execMgmtAssemblyExpiry
  split <;> simp
@[simp] theorem responseGone_cellsOf (a0 : Response) (s : State) : cellsOf (responseGone a0 s) = cellsOf s := by
  unfold responseGone
  simp [apply_ite cellsOf, apply_ite Prod.snd]
@[simp] theorem execResponseRead_cellsOf (a0 : MPort) (s : State) : cellsOf ((after (execResponseRead a0 s) s)) =
    cellsOf s := by
  unfold execResponseRead
  simp only [apply_ite cellsOf, apply_ite Prod.snd]
  (repeat' split) <;> simp [*]
@[simp] theorem execResponseExpiry_cellsOf (a0 : MPort) (s : State) : cellsOf ((after (execResponseExpiry a0 s) s)) =
    cellsOf s := by
  unfold execResponseExpiry
  (repeat' split) <;> simp [apply_ite cellsOf, apply_ite Prod.snd]
@[simp] theorem directed_cellsOf (a0 : MPort) (a1 : State → State) (s : State) (h2 : ∀ y0, cellsOf (((a1 y0))) =
    cellsOf ((y0))) : cellsOf ((after (directed a0 a1 s) s)) = cellsOf s := by
  unfold directed
  (repeat' (first | dsimp only | split)) <;> (try simp only [drbgGenerate_some, storeRecord_ok, Prod.ext_iff] at *) <;> (try casesm* _ ∧ _) <;>
    subst_vars <;> simp [*, apply_ite cellsOf, apply_ite Prod.snd]
@[simp] theorem takeAddress_cellsOf (a0 : MPort) (a1 : U8) (s : State) : cellsOf (takeAddress a0 a1 s) = cellsOf s :=
  by simp [takeAddress]
@[simp] theorem execEntdaa_cellsOf (a0 : MPort) (a1 : U8) (s : State) : cellsOf ((after (execEntdaa a0 a1 s) s)) =
    cellsOf s := by
  unfold execEntdaa
  split <;> simp
@[simp] theorem execSetdasa_cellsOf (a0 : MPort) (a1 : U8) (a2 : U8) (s : State) : cellsOf ((after (execSetdasa a0 a1
    a2 s) s)) = cellsOf s := by
  unfold execSetdasa
  split <;> simp
@[simp] theorem execSetnewda_cellsOf (a0 : MPort) (a1 : U8) (s : State) : cellsOf ((after (execSetnewda a0 a1 s) s)) =
    cellsOf s := by simp [execSetnewda]
@[simp] theorem execRstdaa_cellsOf (a0 : MPort) (s : State) : cellsOf ((after (execRstdaa a0 s) s)) = cellsOf s := by
  unfold execRstdaa
  split <;> simp
@[simp] theorem execGetpid_cellsOf (a0 : MPort) (s : State) : cellsOf ((after (execGetpid a0 s) s)) = cellsOf s :=
  by simp [execGetpid]
@[simp] theorem execGetbcr_cellsOf (a0 : MPort) (s : State) : cellsOf ((after (execGetbcr a0 s) s)) = cellsOf s :=
  by simp [execGetbcr]
@[simp] theorem execGetdcr_cellsOf (a0 : MPort) (s : State) : cellsOf ((after (execGetdcr a0 s) s)) = cellsOf s :=
  by simp [execGetdcr]
@[simp] theorem execGetstatus_cellsOf (a0 : MPort) (s : State) : cellsOf ((after (execGetstatus a0 s) s)) = cellsOf s :=
  by simp [execGetstatus]
@[simp] theorem execGetmrl_cellsOf (a0 : MPort) (s : State) : cellsOf ((after (execGetmrl a0 s) s)) = cellsOf s :=
  by simp [execGetmrl]
@[simp] theorem execGetmwl_cellsOf (a0 : MPort) (s : State) : cellsOf ((after (execGetmwl a0 s) s)) = cellsOf s :=
  by simp [execGetmwl]
@[simp] theorem execSetmrl_cellsOf (a0 : MPort) (a1 : U16) (s : State) : cellsOf ((after (execSetmrl a0 a1 s) s)) =
    cellsOf s := by
  unfold execSetmrl
  simp [apply_ite cellsOf, apply_ite Prod.snd]
@[simp] theorem execSetmwl_cellsOf (a0 : MPort) (a1 : U16) (s : State) : cellsOf ((after (execSetmwl a0 a1 s) s)) =
    cellsOf s := by
  unfold execSetmwl
  simp [apply_ite cellsOf, apply_ite Prod.snd]
@[simp] theorem execEnec_cellsOf (a0 : MPort) (s : State) : cellsOf ((after (execEnec a0 s) s)) = cellsOf s :=
  by simp [execEnec]
@[simp] theorem execDisec_cellsOf (a0 : MPort) (s : State) : cellsOf ((after (execDisec a0 s) s)) = cellsOf s :=
  by simp [execDisec]

end Sys2Proof.Laws
end

