-- ==== Sys2Proof/Laws/GroundOps.lean ====
section
/-! SUPPORT. What leaves the ground of a state as it is: the named operations, the Hedgerow, the Hayloft and the
    channels. -/
namespace Sys2Proof.Laws
open Sys2Proof.Machine
set_option linter.unusedVariables false
set_option linter.unusedSimpArgs false
set_option linter.unnecessarySeqFocus false
set_option linter.unreachableTactic false
set_option linter.unusedTactic false
set_option maxRecDepth 4000

@[simp] theorem modChan_ground (a0 : Chan) (a1 : Channel → Channel) (s : State) : ground (modChan a0 a1 s) = ground s :=
  by simp [modChan]
@[simp] theorem modVf_ground (a0 : Chan) (a1 : VFlash → VFlash) (s : State) : ground (modVf a0 a1 s) = ground s :=
  by simp [modVf]
@[simp] theorem modCounts_ground (a0 : Chan) (a1 : ChCounts → ChCounts) (s : State) : ground (modCounts a0 a1 s) =
    ground s := by simp [modCounts]
@[simp] theorem allChans_ground (a0 : Chan → State → State) (s : State) (h1 : ∀ y0 y1, ground (((a0 y0 y1))) = ground
    ((y1))) : ground (allChans a0 s) = ground s := by
  unfold allChans; simp [h1]
@[simp] theorem modPort_ground (a0 : Port) (a1 : PortRegs → PortRegs) (s : State) : ground (modPort a0 a1 s) = ground s
    := by simp [modPort]
@[simp] theorem modMport_ground (a0 : MPort) (a1 : MgmtPort → MgmtPort) (s : State) : ground (modMport a0 a1 s) =
    ground s := by simp [modMport]
@[simp] theorem modBank_ground (a0 : Fin 8) (a1 : Bank → Bank) (s : State) : ground (modBank a0 a1 s) = ground s :=
  by simp [modBank]
@[simp] theorem modCx_ground (a0 : Fin 4) (a1 : CxJob → CxJob) (s : State) : ground (modCx a0 a1 s) = ground s :=
  by simp [modCx]
@[simp] theorem modTimer_ground (a0 : Fin 8) (a1 : TimerUnit → TimerUnit) (s : State) : ground (modTimer a0 a1 s) =
    ground s := by simp [modTimer]
@[simp] theorem modCu_ground (a0 : Fin 8) (a1 : CheckUnit → CheckUnit) (s : State) : ground (modCu a0 a1 s) = ground s
    := by simp [modCu]
@[simp] theorem modTimeout_ground (a0 : Fin 14) (a1 : Timeout → Timeout) (s : State) : ground (modTimeout a0 a1 s) =
    ground s := by simp [modTimeout]
@[simp] theorem modHay_ground (a0 : Hayloft → Hayloft) (s : State) : ground (modHay a0 s) = ground s := by simp [modHay]
@[simp] theorem modHr_ground (a0 : Hedgerow → Hedgerow) (s : State) : ground (modHr a0 s) = ground s := by simp [modHr]
@[simp] theorem modVault_ground (a0 : Vault → Vault) (s : State) : ground (modVault a0 s) = ground s := by simp [modVault]
@[simp] theorem modUpd_ground (a0 : Update → Update) (s : State) : ground (modUpd a0 s) = ground s := by simp [modUpd]
@[simp] theorem modKeys_ground (a0 : KeyStore → KeyStore) (s : State) : ground (modKeys a0 s) = ground s :=
  by simp [modKeys]
@[simp] theorem modPke_ground (a0 : Pke → Pke) (s : State) : ground (modPke a0 s) = ground s := by simp [modPke]
@[simp] theorem modRandom_ground (a0 : Random → Random) (s : State) : ground (modRandom a0 s) = ground s :=
  by simp [modRandom]
@[simp] theorem modHeath_ground (a0 : Heath → Heath) (s : State) : ground (modHeath a0 s) = ground s := by simp [modHeath]
@[simp] theorem modWd_ground (a0 : Watchdog → Watchdog) (s : State) : ground (modWd a0 s) = ground s := by simp [modWd]
@[simp] theorem modLc_ground (a0 : LifeCycle → LifeCycle) (s : State) : ground (modLc a0 s) = ground s := by simp [modLc]
@[simp] theorem modTap_ground (a0 : TestPort → TestPort) (s : State) : ground (modTap a0 s) = ground s := by simp [modTap]
@[simp] theorem modSpdm_ground (a0 : Spdm → Spdm) (s : State) : ground (modSpdm a0 s) = ground s := by simp [modSpdm]
@[simp] theorem markBlocks_ground (a0 : List Nat) (s : State) : ground (markBlocks a0 s) = ground s :=
  by simp [markBlocks]
@[simp] theorem setVector_ground (a0 : BitVec 256) (s : State) : ground (setVector a0 s) = ground s := by
  unfold setVector
  simp [apply_ite ground, apply_ite Prod.snd]
@[simp] theorem modFallow_ground (a0 : Fallow → Fallow) (s : State) : ground (modFallow a0 s) = ground s :=
  by simp [modFallow]
@[simp] theorem modFlash_ground (a0 : Chan) (a1 : Cs) (a2 : Flash → Flash) (s : State) : ground (modFlash a0 a1 a2 s) =
    ground s := by simp [modFlash]
@[simp] theorem draw_ground (a0 : Nat) (s : State) : ground ((draw a0 s).2) = ground s := by simp [draw]
@[simp] theorem drawBytes_ground (a0 : Nat) (s : State) : ground ((drawBytes a0 s).2) = ground s := by
  induction a0 generalizing s with
  | zero => rfl
  | succ n ih => unfold drawBytes; (repeat' (first | dsimp only | split)) <;> simp_all [apply_ite ground]
@[simp] theorem answer_ground (a0 : Port) (a1 : U8) (a2 : List Byte) (s : State) : ground (answer a0 a1 a2 s) = ground
    s := by simp [answer]
@[simp] theorem reply_ground (a0 : Port) (a1 : U8) (s : State) : ground (reply a0 a1 s) = ground s := by simp [reply]
@[simp] theorem cfgPut_ground (a0 : Nat) (a1 : Nat) (a2 : List Byte) (s : State) : ground (cfgPut a0 a1 a2 s) = ground
    s := by
  unfold cfgPut
  simp [apply_ite ground, apply_ite Prod.snd]
@[simp] theorem timeoutExpired_ground (a0 : Fin 14) (s : State) : ground (timeoutExpired a0 s) = ground s :=
  by simp [timeoutExpired]
@[simp] theorem timeoutArrived_ground (a0 : Fin 14) (s : State) : ground (timeoutArrived a0 s) = ground s :=
  by simp [timeoutArrived]
@[simp] theorem cleanWords_ground (a0 : Fin 8) (a1 : Nat) (a2 : Nat) (s : State) : ground (cleanWords a0 a1 a2 s) =
    ground s := by simp [cleanWords]
@[simp] theorem countSec_ground (a0 : Fin 8) (s : State) : ground (countSec a0 s) = ground s := by simp [countSec]
@[simp] theorem countDed_ground (a0 : Fin 8) (s : State) : ground (countDed a0 s) = ground s := by simp [countDed]
@[simp] theorem readWord_ground (a0 : Fin 8) (a1 : Nat) (s : State) : ground ((readWord a0 a1 s).2) = ground s := by
  unfold readWord
  simp only [apply_ite ground, apply_ite Prod.snd]
  (repeat' split) <;> simp [*]
@[simp] theorem readWords_ground (a0 : Fin 8) (a1 : Nat) (a2 : Nat) (s : State) : ground ((readWords a0 a1 a2 s).2) =
    ground s := by
  induction a2 generalizing a1 s with
  | zero => first | rfl | (simp [readWords]; done) | (unfold readWords; simp)
  | succ n ih => first | (simp [readWords, ih, apply_ite ground]; done) | (unfold readWords; (repeat' (first | dsimp only | split)) <;> simp_all)
@[simp] theorem strike_ground (a0 : List Upset) (s : State) : ground (strike a0 s) = ground s := by simp [strike]
@[simp] theorem journalCommit_ground (a0 : JEntry) (s : State) : ground (journalCommit a0 s) = ground s := by
  unfold journalCommit
  simp [apply_ite ground, apply_ite Prod.snd]
@[simp] theorem journalStage_ground (a0 : JEntry) (s : State) : ground (journalStage a0 s) = ground s := by
  unfold journalStage
  simp [apply_ite ground, apply_ite Prod.snd]
@[simp] theorem journal_ground (a0 : Nat) (a1 : Nat) (a2 : Bool) (a3 : List Byte) (s : State) : ground (journal a0 a1
    a2 a3 s) = ground s := by
  unfold journal
  simp [apply_ite ground, apply_ite Prod.snd]
@[simp] theorem notice_ground (a0 : Nat) (a1 : Bool) (a2 : Nat) (a3 : Nat) (a4 : Nat) (a5 : Nat) (s : State) : ground
    (notice a0 a1 a2 a3 a4 a5 s) = ground s := by simp [notice]
@[simp] theorem journalDrain_ground (s : State) : ground (journalDrain s) = ground s := by simp [journalDrain]
theorem bootFail_shape (v : U40) (c d : Prop) [Decidable c] [Decidable d] (src : Nat) (bs : List Byte) (s : State) :
    ground (let s' := if c then { s with bootResult := v } else s
      if d then s' else journal src 0x0003 true bs s') = ground s := by
  simp only [apply_ite ground, journal_ground, ground_upd, ite_self]
@[simp] theorem bootFail_ground (a0 : Nat) (a1 : U8) (a2 : Nat) (s : State) : ground (bootFail a0 a1 a2 s) = ground s
    := by
  exact bootFail_shape _ _ _ _ _ s
@[simp] theorem markReload_ground (a0 : Fin 8) (a1 : Nat) (s : State) : ground (markReload a0 a1 s) = ground s :=
  by simp [markReload]
@[simp] theorem lookup_ground (a0 : Chan) (a1 : Nat) (s : State) : ground ((lookup a0 a1 s).2.2) = ground s := by
  unfold lookup
  simp [apply_ite ground, apply_ite Prod.snd]
@[simp] theorem setIndex_ground (a0 : List (Nat × RuleRow)) (a1 : List (Nat × RuleRow)) (s : State) : ground (setIndex
    a0 a1 s) = ground s := by simp [setIndex]
@[simp] theorem switchIndex_ground (a0 : List (Nat × RuleRow)) (a1 : List (Nat × RuleRow)) (s : State) : ground
    (switchIndex a0 a1 s) = ground s := by simp [switchIndex]
@[simp] theorem journalRetire_ground (a0 : Nat) (a1 : Nat) (a2 : Nat) (a3 : Nat) (s : State) : ground (journalRetire a0
    a1 a2 a3 s) = ground s := by simp [journalRetire]
@[simp] theorem chargeWay_ground (a0 : Nat) (s : State) : ground (chargeWay a0 s) = ground s := by
  unfold chargeWay
  simp [apply_ite ground, apply_ite Prod.snd]
@[simp] theorem wayDouble_ground (a0 : Nat) (s : State) : ground (wayDouble a0 s) = ground s := by simp [wayDouble]
@[simp] theorem cacheUse_ground (a0 : Nat) (a1 : Nat) (a2 : Nat) (s : State) : ground ((cacheUse a0 a1 a2 s).2) =
    ground s := by
  unfold cacheUse
  simp only [apply_ite ground, apply_ite Prod.snd]
  (repeat' split) <;> simp [*]
@[simp] theorem putCtx_ground (a0 : Nat) (a1 : Ctx) (s : State) : ground (putCtx a0 a1 s) = ground s := by simp [putCtx]
@[simp] theorem dropCtx_ground (a0 : Nat) (s : State) : ground (dropCtx a0 s) = ground s := by simp [dropCtx]
@[simp] theorem dropCtxs_ground (a0 : Ctx → Bool) (s : State) : ground (dropCtxs a0 s) = ground s := by simp [dropCtxs]
@[simp] theorem touchCtx_ground (a0 : Nat) (a1 : Ctx) (s : State) : ground (touchCtx a0 a1 s) = ground s :=
  by simp [touchCtx]
@[simp] theorem openCtx_ground (a0 : Nat) (a1 : Ctx) (s : State) : ground (openCtx a0 a1 s) = ground s :=
  by simp [openCtx]
@[simp] theorem chargeCtx_ground (a0 : Nat) (s : State) : ground (chargeCtx a0 s) = ground s := by
  unfold chargeCtx
  simp [apply_ite ground, apply_ite Prod.snd]
@[simp] theorem ctxDouble_ground (a0 : Nat) (a1 : Ctx) (a2 : Nat) (s : State) : ground (ctxDouble a0 a1 a2 s) = ground
    s := by
  unfold ctxDouble
  split <;> simp
@[simp] theorem readBeats_ground (a0 : Nat) (a1 : Nat) (a2 : Nat) (s : State) : ground ((readBeats a0 a1 a2 s).2) =
    ground s := by
  induction a2 generalizing a1 s with
  | zero => rfl
  | succ n ih => unfold readBeats; (repeat' (first | dsimp only | split)) <;> simp_all [apply_ite ground]
@[simp] theorem fixVirtual_ground (s : State) (a1 : Chan) : ground (fixVirtual s a1) = ground s := by simp [fixVirtual]
@[simp] theorem resetByHold_ground (a0 : Chan) (s : State) : ground (resetByHold a0 s) = ground s := by simp [resetByHold]
@[simp] theorem hostReset_ground (a0 : Chan) (s : State) : ground (hostReset a0 s) = ground s := by simp [hostReset]
@[simp] theorem setEff_ground (a0 : Chan) (a1 : ChState) (s : State) : ground (setEff a0 a1 s) = ground s := by
  unfold setEff
  simp [apply_ite ground, apply_ite Prod.snd]
@[simp] theorem settleDown_ground (a0 : Bool) (a1 : Chan) (s : State) : ground (settleDown a0 a1 s) = ground s := by
  unfold settleDown
  simp [apply_ite ground, apply_ite Prod.snd]
@[simp] theorem settleUp_ground (a0 : Chan) (s : State) : ground (settleUp a0 s) = ground s := by
  unfold settleUp
  simp [apply_ite ground, apply_ite Prod.snd]
@[simp] theorem settleWait_ground (a0 : Chan) (s : State) : ground (settleWait a0 s) = ground s := by
  unfold settleWait
  simp [apply_ite ground, apply_ite Prod.snd]
@[simp] theorem kickPreload_ground (a0 : Chan) (s : State) : ground (kickPreload a0 s) = ground s := by
  unfold kickPreload
  simp only [apply_ite ground, apply_ite Prod.snd]
  (repeat' split) <;> simp [*]
@[simp] theorem settleAll_ground (s : State) : ground (settleAll s) = ground s := by simp [settleAll]
@[simp] theorem unsaved_ground (s : State) : ground (unsaved s) = ground s := by simp [unsaved]
@[simp] theorem retireChannel_ground (a0 : Chan) (s : State) : ground (retireChannel a0 s) = ground s :=
  by simp [retireChannel]
@[simp] theorem setCause_ground (a0 : Chan) (a1 : Nat) (s : State) : ground (setCause a0 a1 s) = ground s :=
  by simp [setCause]
@[simp] theorem retirePipeline_ground (a0 : Chan) (a1 : Nat) (s : State) : ground (retirePipeline a0 a1 s) = ground s
    := by
  unfold retirePipeline
  simp [apply_ite ground, apply_ite Prod.snd]
@[simp] theorem fallowReturn_ground (s : State) : ground (fallowReturn s) = ground s := by simp [fallowReturn]
@[simp] theorem retirePort_ground (a0 : Chan) (a1 : Nat) (a2 : Nat) (a3 : Nat) (s : State) : ground (retirePort a0 a1
    a2 a3 s) = ground s := by
  unfold retirePort
  simp [apply_ite ground, apply_ite Prod.snd]
@[simp] theorem retireFallow_ground (a0 : Nat) (s : State) : ground (retireFallow a0 s) = ground s := by
  unfold retireFallow
  (repeat' (first | dsimp only | split)) <;> simp [apply_ite ground, apply_ite Prod.snd]
@[simp] theorem chargeFallow_ground (s : State) : ground (chargeFallow s) = ground s := by
  unfold chargeFallow
  simp [apply_ite ground, apply_ite Prod.snd]
@[simp] theorem chargePipe_ground (a0 : Chan) (s : State) : ground (chargePipe a0 s) = ground s := by
  unfold chargePipe
  simp [apply_ite ground, apply_ite Prod.snd]
@[simp] theorem chargeHostPort_ground (a0 : Chan) (s : State) : ground (chargeHostPort a0 s) = ground s := by
  unfold chargeHostPort
  simp [apply_ite ground, apply_ite Prod.snd]
@[simp] theorem chargeFlashPort_ground (a0 : Chan) (s : State) : ground (chargeFlashPort a0 s) = ground s := by
  unfold chargeFlashPort
  simp [apply_ite ground, apply_ite Prod.snd]
@[simp] theorem hostBallCheck_ground (a0 : Chan) (a1 : Option U8) (s : State) : ground (hostBallCheck a0 a1 s) = ground
    s := by
  unfold hostBallCheck
  (repeat' split) <;> simp [apply_ite ground, apply_ite Prod.snd]
@[simp] theorem flashBallCheck_ground (a0 : Chan) (a1 : Option U8) (s : State) : ground (flashBallCheck a0 a1 s) =
    ground s := by
  unfold flashBallCheck
  (repeat' split) <;> simp [apply_ite ground, apply_ite Prod.snd]
@[simp] theorem rpmbWrite_ground (a0 : Nat) (a1 : List Byte) (s : State) : ground (rpmbWrite a0 a1 s) = ground s :=
  by simp [rpmbWrite]
@[simp] theorem dropRegion_ground (a0 : Chan) (a1 : List Nat) (s : State) : ground (dropRegion a0 a1 s) = ground s :=
  by simp [dropRegion]
@[simp] theorem flipLanded_ground (a0 : Chan) (s : State) : ground (flipLanded a0 s) = ground s := by
  unfold flipLanded
  (repeat' split) <;> simp [apply_ite ground, apply_ite Prod.snd]
@[simp] theorem flipsLand_ground (a0 : List (Nat × List Nat)) (s : State) : ground (flipsLand a0 s) = ground s :=
  by simp [flipsLand]
@[simp] theorem volatileFlips_ground (a0 : List (Nat × List Nat)) (s : State) : ground (volatileFlips a0 s) = ground s
    := by simp [volatileFlips]
@[simp] theorem kickStile_ground (s : State) : ground (kickStile s) = ground s := by
  unfold kickStile
  (repeat' split) <;> simp [apply_ite ground, apply_ite Prod.snd]
@[simp] theorem finish_ground (s : State) : ground (finish s) = ground s := by simp [finish]
@[simp] theorem recordFail_ground (a0 : Chan) (a1 : Nat) (a2 : Nat) (a3 : Nat) (a4 : Nat) (a5 : Nat) (s : State) :
    ground (recordFail a0 a1 a2 a3 a4 a5 s) = ground s := by simp [recordFail]
@[simp] theorem countEscalation_ground (s : State) : ground (countEscalation s) = ground s := by simp [countEscalation]
@[simp] theorem toHold_ground (a0 : Chan) (a1 : List Nat) (a2 : U8) (a3 : Nat) (s : State) : ground (toHold a0 a1 a2 a3
    s) = ground s := by simp [toHold]
@[simp] theorem dropRestoreOps_ground (a0 : Chan) (s : State) : ground (dropRestoreOps a0 s) = ground s :=
  by simp [dropRestoreOps]
@[simp] theorem toRestore_ground (a0 : Chan) (a1 : List Nat) (a2 : Bool) (a3 : Nat) (s : State) : ground (toRestore a0
    a1 a2 a3 s) = ground s := by
  unfold toRestore
  simp [apply_ite ground, apply_ite Prod.snd]
@[simp] theorem toFlip_ground (a0 : Chan) (a1 : RuleRow) (a2 : List Nat) (s : State) : ground (toFlip a0 a1 a2 s) =
    ground s := by
  unfold toFlip
  simp [apply_ite ground, apply_ite Prod.snd]
@[simp] theorem joinFail_ground (a0 : Chan) (a1 : Seq) (a2 : Nat) (a3 : List Nat) (a4 : Nat) (s : State) : ground
    (joinFail a0 a1 a2 a3 a4 s) = ground s := by
  unfold joinFail
  (repeat' split) <;> simp [apply_ite ground, apply_ite Prod.snd]
@[simp] theorem respond_ground (a0 : Chan) (a1 : Nat) (a2 : RuleRow) (a3 : Nat) (s : State) : ground (respond a0 a1 a2
    a3 s) = ground s := by
  unfold respond
  simp only [apply_ite ground, apply_ite Prod.snd]
  (repeat' split) <;> simp [*]
@[simp] theorem startRevert_ground (a0 : U8) (s : State) : ground (startRevert a0 s) = ground s := by
  unfold startRevert
  simp [apply_ite ground, apply_ite Prod.snd]
@[simp] theorem poison_ground (a0 : Nat) (s : State) : ground (poison a0 s) = ground s := by simp [poison]
@[simp] theorem lineFail_ground (a0 : Chan) (a1 : Cs) (a2 : Nat) (a3 : Nat) (a4 : Nat) (a5 : Nat) (s : State) : ground
    (lineFail a0 a1 a2 a3 a4 a5 s) = ground s := by
  unfold lineFail
  (repeat' split) <;> simp [apply_ite ground, apply_ite Prod.snd]

end Sys2Proof.Laws
end

