-- ==== Sys2Proof/Laws/GroundHost.lean ====
section
/-! SUPPORT. What leaves the ground of a state as it is: the host port, the OTP and the vault operations. -/
namespace Sys2Proof.Laws
open Sys2Proof.Machine
set_option linter.unusedVariables false
set_option linter.unusedSimpArgs false
set_option linter.unnecessarySeqFocus false
set_option linter.unreachableTactic false
set_option linter.unusedTactic false
set_option maxRecDepth 4000

@[simp] theorem abortRead_ground (a0 : Chan) (a1 : Nat) (s : State) : ground (abortRead a0 a1 s) = ground s := by
  unfold abortRead
  simp only [apply_ite ground, apply_ite Prod.snd]
  (repeat' split) <;> simp [*]
@[simp] theorem drive_ground (a0 : Chan) (a1 : List Byte) (s : State) : ground (drive a0 a1 s) = ground s :=
  by simp [drive]
@[simp] theorem unsupported_ground (a0 : Chan) (a1 : Nat) (a2 : Nat) (s : State) : ground (unsupported a0 a1 a2 s) =
    ground s := by simp [unsupported]
@[simp] theorem twinRecord_ground (a0 : Chan) (a1 : Nat) (a2 : Nat) (a3 : Option Nat) (a4 : Option Nat) (s : State) :
    ground (twinRecord a0 a1 a2 a3 a4 s) = ground s := by simp [twinRecord]
@[simp] theorem combine_ground (a0 : Chan) (a1 : Nat) (a2 : Option TwinDiff) (a3 : Verdict) (s : State) : ground
    ((combine a0 a1 a2 a3 s).2) = ground s := by
  unfold combine
  (repeat' split) <;> simp [apply_ite ground, apply_ite Prod.snd]
@[simp] theorem csRise_ground (a0 : Chan) (s : State) : ground (csRise a0 s) = ground s := by simp [csRise]
@[simp] theorem shadowCheck_ground (a0 : Chan) (a1 : Bool) (s : State) : ground (shadowCheck a0 a1 s) = ground s := by
  unfold shadowCheck
  simp [apply_ite ground, apply_ite Prod.snd]
@[simp] theorem hostRun_ground (a0 : HostCmd) (a1 : Nat) (a2 : Nat) (a3 : Bool) (a4 : Bool) (a5 : Bool) (a6 : Bool) (a7
    : Bool → State → State) (s : State) (h8 : ∀ y0 y1, ground (((a7 y0 y1))) = ground ((y1))) : ground (hostRun a0 a1 a2 a3 a4 a5 a6 a7 s) = ground s := by
  unfold hostRun
  simp only [apply_ite ground, apply_ite Prod.snd]
  (repeat' split) <;> simp [*]
@[simp] theorem serveHayloft_ground (a0 : Nat) (a1 : Ctx) (a2 : Nat) (a3 : Nat) (s : State) : ground ((serveHayloft a0
    a1 a2 a3 s).2) = ground s := by
  unfold serveHayloft
  simp [apply_ite ground, apply_ite Prod.snd]
@[simp] theorem sealedMiss_ground (a0 : Chan) (a1 : Nat) (a2 : Nat) (a3 : Nat) (a4 : Nat) (a5 : ReadRun) (s : State) :
    ground (sealedMiss a0 a1 a2 a3 a4 a5 s) = ground s := by
  unfold sealedMiss
  simp [apply_ite ground, apply_ite Prod.snd]
@[simp] theorem physicalBytes_ground (a0 : HostCmd) (a1 : Bool) (a2 : ReadRun) (a3 : Verdict) (a4 : Nat) (a5 : Nat) (s
    : State) : ground ((physicalBytes a0 a1 a2 a3 a4 a5 s).2) = ground s := by
  unfold physicalBytes
  simp [apply_ite ground, apply_ite Prod.snd]
@[simp] theorem emitBytes_ground (a0 : ReadRun) (a1 : List Byte) (a2 : Nat) (s : State) : ground ((emitBytes a0 a1 a2
    s).2) = ground s := by
  unfold emitBytes
  simp [apply_ite ground, apply_ite Prod.snd]
@[simp] theorem hayloftPiece_ground (a0 : ReadRun) (a1 : Nat) (a2 : Ctx) (a3 : Nat) (a4 : Nat) (s : State) : ground
    ((hayloftPiece a0 a1 a2 a3 a4 s).2) = ground s := by
  unfold hayloftPiece
  (repeat' (first | dsimp only | split)) <;> (try simp only [drbgGenerate_some, storeRecord_ok, Prod.ext_iff] at *) <;> (try casesm* _ ∧ _) <;>
    subst_vars <;> simp [*, apply_ite ground, apply_ite Prod.snd]
@[simp] theorem sealedPiece_ground (a0 : HostCmd) (a1 : Nat) (a2 : ReadRun) (a3 : ReadRun) (a4 : Verdict) (a5 : Nat)
    (a6 : Nat) (a7 : Nat) (s : State) : ground ((sealedPiece a0 a1 a2 a3 a4 a5 a6 a7 s).2) = ground s := by
  unfold sealedPiece
  (repeat' split) <;> simp [apply_ite ground, apply_ite Prod.snd]
@[simp] theorem takePiece_ground (a0 : HostCmd) (a1 : Bool) (a2 : ReadRun) (a3 : ReadRun) (a4 : Verdict) (a5 : Nat) (a6
    : Nat) (a7 : Nat) (a8 : Ctx) (s : State) : ground ((takePiece a0 a1 a2 a3 a4 a5 a6 a7 a8 s).2) = ground s := by
  unfold takePiece
  simp [apply_ite ground, apply_ite Prod.snd]
@[simp] theorem verifiedPiece_ground (a0 : HostCmd) (a1 : Bool) (a2 : ReadRun) (a3 : ReadRun) (a4 : Verdict) (a5 : Nat)
    (a6 : Nat) (a7 : Nat) (s : State) : ground ((verifiedPiece a0 a1 a2 a3 a4 a5 a6 a7 s).2) = ground s := by
  unfold verifiedPiece
  simp only [apply_ite ground, apply_ite Prod.snd]
  (repeat' split) <;> simp [*]
@[simp] theorem readPiece_ground (a0 : HostCmd) (a1 : Nat) (a2 : Bool) (a3 : Nat × Nat × Nat) (a4 : ReadRun × State) :
    ground ((readPiece a0 a1 a2 a3 a4).2) = ground (a4.2) := by
  unfold readPiece
  simp [apply_ite ground, apply_ite Prod.snd]
@[simp] theorem readBody_ground (a0 : HostCmd) (a1 : Nat) (a2 : Nat) (a3 : Nat) (a4 : Bool) (s : State) : ground
    (readBody a0 a1 a2 a3 a4 s) = ground s := by
  unfold readBody
  simp [apply_ite ground, apply_ite Prod.snd]
@[simp] theorem hostRead_ground (a0 : HostCmd) (a1 : Nat) (a2 : U32) (a3 : Nat) (a4 : Bool) (a5 : Bool) (a6 : Bool) (s
    : State) : ground ((after (hostRead a0 a1 a2 a3 a4 a5 a6 s) s)) = ground s := by simp [hostRead]
@[simp] theorem execFastRead_ground (a0 : HostCmd) (a1 : U32) (a2 : Nat) (s : State) : ground ((after (execFastRead a0
    a1 a2 s) s)) = ground s := by simp [execFastRead]
@[simp] theorem execFastRead4B_ground (a0 : HostCmd) (a1 : U32) (a2 : Nat) (s : State) : ground ((after (execFastRead4B
    a0 a1 a2 s) s)) = ground s := by simp [execFastRead4B]
@[simp] theorem execQuadOutputRead_ground (a0 : HostCmd) (a1 : U32) (a2 : Nat) (s : State) : ground ((after
    (execQuadOutputRead a0 a1 a2 s) s)) = ground s := by simp [execQuadOutputRead]
@[simp] theorem execQuadOutputRead4B_ground (a0 : HostCmd) (a1 : U32) (a2 : Nat) (s : State) : ground ((after
    (execQuadOutputRead4B a0 a1 a2 s) s)) = ground s := by simp [execQuadOutputRead4B]
@[simp] theorem execQuadIoRead_ground (a0 : HostCmd) (a1 : U32) (a2 : Nat) (s : State) : ground ((after (execQuadIoRead
    a0 a1 a2 s) s)) = ground s := by simp [execQuadIoRead]
@[simp] theorem execQuadIoRead4B_ground (a0 : HostCmd) (a1 : U32) (a2 : Nat) (s : State) : ground ((after
    (execQuadIoRead4B a0 a1 a2 s) s)) = ground s := by simp [execQuadIoRead4B]
@[simp] theorem execOctalDtrRead_ground (a0 : HostCmd) (a1 : U32) (a2 : Nat) (s : State) : ground ((after
    (execOctalDtrRead a0 a1 a2 s) s)) = ground s := by simp [execOctalDtrRead]
@[simp] theorem otpBurn_ground (a0 : Nat) (a1 : List Byte) (s : State) : ground (otpBurn a0 a1 s) = ground s :=
  by simp [otpBurn]
@[simp] theorem burnFlag_ground (a0 : Nat) (s : State) : ground (burnFlag a0 s) = ground s := by simp [burnFlag]
@[simp] theorem raiseRtCounter_ground (a0 : Nat) (s : State) : ground (raiseRtCounter a0 s) = ground s := by
  unfold raiseRtCounter
  simp [apply_ite ground, apply_ite Prod.snd]
@[simp] theorem userWrite_ground (a0 : Nat) (a1 : List Byte) (s : State) : ground (userWrite a0 a1 s) = ground s :=
  by simp [userWrite]
@[simp] theorem recReject_ground (a0 : Nat) (a1 : U8) (s : State) : ground (recReject a0 a1 s) = ground s :=
  by simp [recReject]
@[simp] theorem selectImage_ground (a0 : Nat) (s : State) : ground ((selectImage a0 s).2.2) = ground s := by
  unfold selectImage
  split
  · rfl
  · refine (foldl_ground3 _ (fun t x => ?_) _ _).trans rfl
    (repeat' split) <;> simp
@[simp] theorem putRecord_ground (a0 : Nat) (a1 : List Byte) (a2 : List Byte) (a3 : Bool) (a4 : Nat) (s : State) :
    ground (putRecord a0 a1 a2 a3 a4 s) = ground s := by simp [putRecord]
@[simp] theorem putCounters_ground (a0 : Nat) (a1 : List Nat) (s : State) : ground (putCounters a0 a1 s) = ground s :=
  by simp [putCounters]
@[simp] theorem rpmbAttach_ground (s : State) : ground (rpmbAttach s) = ground s := by
  unfold rpmbAttach
  (repeat' split) <;> simp [apply_ite ground, apply_ite Prod.snd]
@[simp] theorem scanInto_ground (a0 : Nat) (s : State) : ground (scanInto a0 s) = ground s := by simp [scanInto]
@[simp] theorem setNextSeq_ground (s : State) : ground (setNextSeq s) = ground s := by simp [setNextSeq]
@[simp] theorem countStages_ground (s : State) : ground (countStages s) = ground s := by simp [countStages]
@[simp] theorem putScratch_ground (a0 : Chan) (a1 : EraseBlock) (a2 : List Nat) (a3 : List Byte) (s : State) : ground
    (putScratch a0 a1 a2 a3 s) = ground s := by
  unfold putScratch
  split <;> simp
@[simp] theorem clearScratch_ground (a0 : Chan) (s : State) : ground (clearScratch a0 s) = ground s := by
  unfold clearScratch
  split <;> simp
@[simp] theorem sealFor_ground (a0 : U32) (a1 : List Byte) (s : State) : ground ((sealFor a0 a1 s).2) = ground s := by
  unfold sealFor
  split <;> simp
@[simp] theorem queueResponse_ground (a0 : MPort) (a1 : Option U32) (a2 : List Byte) (a3 : Nat) (a4 : Nat) (a5 : Bool)
    (s : State) : ground (queueResponse a0 a1 a2 a3 a4 a5 s) = ground s := by
  unfold queueResponse
  (repeat' (first | dsimp only | split)) <;> (try simp only [drbgGenerate_some, storeRecord_ok, Prod.ext_iff] at *) <;> (try casesm* _ ∧ _) <;>
    subst_vars <;> simp [*, apply_ite ground, apply_ite Prod.snd]
@[simp] theorem deliver_ground (a0 : MPort) (a1 : LinkReq) (a2 : List Byte) (a3 : Bool) (s : State) : ground (deliver
    a0 a1 a2 a3 s) = ground s := by simp [deliver]
@[simp] theorem answerLate_ground (a0 : Port) (a1 : U8) (a2 : List Byte) (s : State) : ground (answerLate a0 a1 a2 s) =
    ground s := by
  unfold answerLate
  simp only [apply_ite ground, apply_ite Prod.snd]
  (repeat' split) <;> simp [*]
@[simp] theorem dropCovered_ground (a0 : Chan) (a1 : Cs) (a2 : PhysOp) (s : State) : ground (dropCovered a0 a1 a2 s) =
    ground s := by simp [dropCovered]
@[simp] theorem issueStore_ground (a0 : Chan) (s : State) : ground (issueStore a0 s) = ground s := by
  unfold issueStore
  (repeat' split) <;> simp [apply_ite ground, apply_ite Prod.snd]
@[simp] theorem denyHost_ground (a0 : Chan) (a1 : Nat) (s : State) : ground (denyHost a0 a1 s) = ground s :=
  by simp [denyHost]
@[simp] theorem judgeLine_ground (a0 : HostCmd) (a1 : Nat) (a2 : Nat) (a3 : WriteRun × State) : ground ((judgeLine a0
    a1 a2 a3).2) = ground (a3.2) := by
  unfold judgeLine
  simp [apply_ite ground, apply_ite Prod.snd]
@[simp] theorem stageHost_ground (a0 : Chan) (a1 : StageOp) (s : State) : ground (stageHost a0 a1 s) = ground s := by
  unfold stageHost
  simp [apply_ite ground, apply_ite Prod.snd]
@[simp] theorem applyVerdict_ground (a0 : HostCmd) (a1 : Nat) (a2 : WriteRun) (a3 : Nat → PhysOp) (a4 : StageOp) (s :
    State) : ground (applyVerdict a0 a1 a2 a3 a4 s) = ground s := by
  unfold applyVerdict
  simp [apply_ite ground, apply_ite Prod.snd]
@[simp] theorem clearWel_ground (a0 : Chan) (s : State) : ground (clearWel a0 s) = ground s := by simp [clearWel]
@[simp] theorem programBody_ground (a0 : HostCmd) (a1 : Nat) (a2 : Nat) (a3 : List Byte) (a4 : Bool) (s : State) :
    ground (programBody a0 a1 a2 a3 a4 s) = ground s := by
  unfold programBody
  simp [apply_ite ground, apply_ite Prod.snd]
@[simp] theorem eraseBody_ground (a0 : HostCmd) (a1 : Nat) (a2 : Nat) (a3 : Nat) (a4 : Bool) (s : State) : ground
    (eraseBody a0 a1 a2 a3 a4 s) = ground s := by
  unfold eraseBody
  simp [apply_ite ground, apply_ite Prod.snd]
@[simp] theorem hostProgram_ground (a0 : HostCmd) (a1 : Nat) (a2 : U32) (a3 : List Byte) (a4 : Bool) (a5 : Bool) (a6 :
    Bool) (s : State) : ground ((after (hostProgram a0 a1 a2 a3 a4 a5 a6 s) s)) = ground s := by simp [hostProgram]
@[simp] theorem hostErase_ground (a0 : HostCmd) (a1 : Nat) (a2 : U32) (a3 : Nat) (a4 : Bool) (s : State) : ground
    ((after (hostErase a0 a1 a2 a3 a4 s) s)) = ground s := by simp [hostErase]
@[simp] theorem execPageProgram_ground (a0 : HostCmd) (a1 : U32) (a2 : List Byte) (s : State) : ground ((after
    (execPageProgram a0 a1 a2 s) s)) = ground s := by simp [execPageProgram]
@[simp] theorem execPageProgram4B_ground (a0 : HostCmd) (a1 : U32) (a2 : List Byte) (s : State) : ground ((after
    (execPageProgram4B a0 a1 a2 s) s)) = ground s := by simp [execPageProgram4B]
@[simp] theorem execQuadInputPageProgram_ground (a0 : HostCmd) (a1 : U32) (a2 : List Byte) (s : State) : ground ((after
    (execQuadInputPageProgram a0 a1 a2 s) s)) = ground s := by simp [execQuadInputPageProgram]
@[simp] theorem execQuadInputPageProgram4B_ground (a0 : HostCmd) (a1 : U32) (a2 : List Byte) (s : State) : ground
    ((after (execQuadInputPageProgram4B a0 a1 a2 s) s)) = ground s := by simp [execQuadInputPageProgram4B]
@[simp] theorem execErase4K_ground (a0 : HostCmd) (a1 : U32) (s : State) : ground ((after (execErase4K a0 a1 s) s)) =
    ground s := by simp [execErase4K]
@[simp] theorem execErase4K4B_ground (a0 : HostCmd) (a1 : U32) (s : State) : ground ((after (execErase4K4B a0 a1 s) s))
    = ground s := by simp [execErase4K4B]
@[simp] theorem execErase32K_ground (a0 : HostCmd) (a1 : U32) (s : State) : ground ((after (execErase32K a0 a1 s) s)) =
    ground s := by simp [execErase32K]
@[simp] theorem execErase32K4B_ground (a0 : HostCmd) (a1 : U32) (s : State) : ground ((after (execErase32K4B a0 a1 s)
    s)) = ground s := by simp [execErase32K4B]
@[simp] theorem execErase64K_ground (a0 : HostCmd) (a1 : U32) (s : State) : ground ((after (execErase64K a0 a1 s) s)) =
    ground s := by simp [execErase64K]
@[simp] theorem execErase64K4B_ground (a0 : HostCmd) (a1 : U32) (s : State) : ground ((after (execErase64K4B a0 a1 s)
    s)) = ground s := by simp [execErase64K4B]
@[simp] theorem execChipErase_ground (a0 : HostCmd) (a1 : Bool) (s : State) : ground ((after (execChipErase a0 a1 s)
    s)) = ground s := by
  unfold execChipErase
  simp [apply_ite ground, apply_ite Prod.snd]
@[simp] theorem hostVirtual_ground (a0 : HostCmd) (a1 : Nat) (a2 : Nat) (a3 : Bool) (a4 : Bool) (a5 : Bool) (a6 : Bool
    → State → State) (s : State) (h7 : ∀ y0 y1, ground (((a6 y0 y1))) = ground ((y1))) : ground ((after (hostVirtual a0 a1 a2 a3 a4 a5 a6 s) s)) = ground s := by
  unfold hostVirtual
  (repeat' (first | dsimp only | split)) <;> (try simp only [drbgGenerate_some, storeRecord_ok, Prod.ext_iff] at *) <;> (try casesm* _ ∧ _) <;>
    subst_vars <;> simp [*, apply_ite ground, apply_ite Prod.snd]
@[simp] theorem startGap_ground (a0 : Chan) (s : State) : ground (startGap a0 s) = ground s := by simp [startGap]
@[simp] theorem changeMode_ground (a0 : Chan) (a1 : BusMode) (a2 : Nat) (a3 : Nat) (s : State) : ground (changeMode a0
    a1 a2 a3 s) = ground s := by
  unfold changeMode
  simp [apply_ite ground, apply_ite Prod.snd]
@[simp] theorem execWriteEnable_ground (a0 : HostCmd) (s : State) : ground ((after (execWriteEnable a0 s) s)) = ground
    s := by simp [execWriteEnable]
@[simp] theorem execWriteDisable_ground (a0 : HostCmd) (s : State) : ground ((after (execWriteDisable a0 s) s)) =
    ground s := by simp [execWriteDisable]
@[simp] theorem execReadStatus_ground (a0 : HostCmd) (a1 : Nat) (s : State) : ground ((after (execReadStatus a0 a1 s)
    s)) = ground s := by simp [execReadStatus]
@[simp] theorem execWriteStatus_ground (a0 : HostCmd) (s : State) : ground ((after (execWriteStatus a0 s) s)) = ground
    s := by simp [execWriteStatus]
@[simp] theorem execClearFlags_ground (a0 : HostCmd) (s : State) : ground ((after (execClearFlags a0 s) s)) = ground s
    := by simp [execClearFlags]
@[simp] theorem execReadId_ground (a0 : HostCmd) (a1 : Nat) (s : State) : ground ((after (execReadId a0 a1 s) s)) =
    ground s := by simp [execReadId]
@[simp] theorem execReadSfdp_ground (a0 : HostCmd) (a1 : U32) (a2 : Nat) (s : State) : ground ((after (execReadSfdp a0
    a1 a2 s) s)) = ground s := by simp [execReadSfdp]
@[simp] theorem execWriteVolatileConfiguration_ground (a0 : HostCmd) (a1 : U32) (a2 : Byte) (s : State) : ground
    ((after (execWriteVolatileConfiguration a0 a1 a2 s) s)) = ground s := by
  unfold execWriteVolatileConfiguration
  simp [apply_ite ground, apply_ite Prod.snd]
@[simp] theorem execEnterQpi_ground (a0 : HostCmd) (s : State) : ground ((after (execEnterQpi a0 s) s)) = ground s :=
  by simp [execEnterQpi]
@[simp] theorem execExitQpi_ground (a0 : HostCmd) (s : State) : ground ((after (execExitQpi a0 s) s)) = ground s :=
  by simp [execExitQpi]
@[simp] theorem execResetEnable_ground (a0 : HostCmd) (s : State) : ground ((after (execResetEnable a0 s) s)) = ground
    s := by simp [execResetEnable]
@[simp] theorem execReset_ground (a0 : HostCmd) (s : State) : ground ((after (execReset a0 s) s)) = ground s := by
  unfold execReset
  simp [apply_ite ground, apply_ite Prod.snd]
@[simp] theorem execEnter4ByteMode_ground (a0 : HostCmd) (s : State) : ground ((after (execEnter4ByteMode a0 s) s)) =
    ground s := by simp [execEnter4ByteMode]
@[simp] theorem execExit4ByteMode_ground (a0 : HostCmd) (s : State) : ground ((after (execExit4ByteMode a0 s) s)) =
    ground s := by simp [execExit4ByteMode]
@[simp] theorem execPowerDown_ground (a0 : HostCmd) (s : State) : ground ((after (execPowerDown a0 s) s)) = ground s :=
  by simp [execPowerDown]
@[simp] theorem execReleasePowerDown_ground (a0 : HostCmd) (s : State) : ground ((after (execReleasePowerDown a0 s) s))
    = ground s := by simp [execReleasePowerDown]
@[simp] theorem execUnsupportedCommand_ground (a0 : HostCmd) (a1 : Byte) (a2 : U32) (s : State) : ground ((after
    (execUnsupportedCommand a0 a1 a2 s) s)) = ground s := by simp [execUnsupportedCommand]

end Sys2Proof.Laws
end

