-- ==== Sys2Proof/Laws/GroundFlash.lean ====
section
/-! SUPPORT. What leaves the ground of a state as it is: restores, the flash port and dictionary requests. -/
namespace Sys2Proof.Laws
open Sys2Proof.Machine
set_option linter.unusedVariables false
set_option linter.unusedSimpArgs false
set_option linter.unnecessarySeqFocus false
set_option linter.unreachableTactic false
set_option linter.unusedTactic false
set_option maxRecDepth 4000

@[simp] theorem setSeq_ground (a0 : Chan) (a1 : Seq → Seq) (s : State) : ground (setSeq a0 a1 s) = ground s :=
  by simp [setSeq]
@[simp] theorem restoreDone_ground (a0 : Chan) (a1 : Seq) (s : State) : ground (restoreDone a0 a1 s) = ground s := by
  unfold restoreDone
  simp [apply_ite ground, apply_ite Prod.snd]
@[simp] theorem nextBlock_ground (a0 : Chan) (s : State) : ground (nextBlock a0 s) = ground s := by
  unfold nextBlock
  (repeat' split) <;> simp [apply_ite ground, apply_ite Prod.snd]
@[simp] theorem blockDone_ground (a0 : Chan) (s : State) : ground (blockDone a0 s) = ground s := by
  unfold blockDone
  (repeat' split) <;> simp [apply_ite ground, apply_ite Prod.snd]
@[simp] theorem kickSeq_ground (a0 : Chan) (s : State) : ground (kickSeq a0 s) = ground s := by
  unfold kickSeq
  simp only [apply_ite ground, apply_ite Prod.snd]
  (repeat' split) <;> simp [*]
@[simp] theorem seqOpDone_ground (a0 : Chan) (a1 : PhysOp) (s : State) : ground (seqOpDone a0 a1 s) = ground s := by
  unfold seqOpDone
  (repeat' split) <;> simp [apply_ite ground, apply_ite Prod.snd]
@[simp] theorem restoreSelect_ground (a0 : Chan) (s : State) : ground (restoreSelect a0 s) = ground s := by
  unfold restoreSelect
  split
  · rfl
  · split
    · rfl
    · split
      rename_i h
      have h3 := congrArg (fun x => ground x.2.2) h
      dsimp only at h3
      rw [foldl_ground3] at h3
      · dsimp only at h3
        split
        · split <;> simp [h3]
        · simp [h3]
      · intro t x
        split
        · rfl
        · have := selectImage_ground x t.2.2
          split <;> simp_all
@[simp] theorem permFlash_ground (a0 : Chan) (s : State) : ground (permFlash a0 s) = ground s := by
  unfold permFlash
  simp only [apply_ite ground, apply_ite Prod.snd]
  (repeat' split) <;> simp [*]
@[simp] theorem startRead_ground (a0 : Chan) (a1 : DevRead) (s : State) : ground (startRead a0 a1 s) = ground s :=
  by simp [startRead]
@[simp] theorem kickField_ground (a0 : Port) (s : State) : ground (kickField a0 s) = ground s := by
  unfold kickField
  (repeat' split) <;> simp [apply_ite ground, apply_ite Prod.snd]
@[simp] theorem kickAll_ground (s : State) : ground (kickAll s) = ground s := by simp [kickAll]
@[simp] theorem finishAll_ground (s : State) : ground (finishAll s) = ground s := by simp [finishAll]
@[simp] theorem execPhysicalModeSync_ground (a0 : Chan) (s : State) : ground ((after (execPhysicalModeSync a0 s) s)) =
    ground s := by
  unfold execPhysicalModeSync
  simp only [apply_ite ground, apply_ite Prod.snd]
  (repeat' split) <;> simp [*]
@[simp] theorem flashIdle_ground (a0 : Chan) (a1 : Cs) (s : State) : ground (flashIdle a0 a1 s) = ground s :=
  by simp [flashIdle]
@[simp] theorem hostOpEnd_ground (a0 : Chan) (a1 : Bool) (s : State) : ground (hostOpEnd a0 a1 s) = ground s := by
  unfold hostOpEnd
  (repeat' split) <;> simp [apply_ite ground, apply_ite Prod.snd]
@[simp] theorem deviceOpFail_ground (a0 : Chan) (a1 : Cs) (a2 : PhysOp) (s : State) : ground (deviceOpFail a0 a1 a2 s)
    = ground s := by
  unfold deviceOpFail
  simp [apply_ite ground, apply_ite Prod.snd]
@[simp] theorem retryWon_ground (a0 : Chan) (s : State) : ground (retryWon a0 s) = ground s := by
  unfold retryWon
  simp [apply_ite ground, apply_ite Prod.snd]
@[simp] theorem execPhysOpComplete_ground (a0 : Chan) (a1 : Cs) (a2 : PhysEnd) (s : State) : ground ((after
    (execPhysOpComplete a0 a1 a2 s) s)) = ground s := by
  unfold execPhysOpComplete
  simp only [apply_ite ground, apply_ite Prod.snd]
  (repeat' split) <;> simp [*]
@[simp] theorem execFlashOpRetry_ground (a0 : Chan) (s : State) : ground ((after (execFlashOpRetry a0 s) s)) = ground s
    := by
  unfold execFlashOpRetry
  simp only [apply_ite ground, apply_ite Prod.snd]
  (repeat' split) <;> simp [*]
@[simp] theorem stageExpire_ground (a0 : Chan) (s : State) : ground (stageExpire a0 s) = ground s := by
  unfold stageExpire
  split <;> simp
@[simp] theorem execStageStoreExpiry_ground (a0 : Chan) (s : State) : ground ((after (execStageStoreExpiry a0 s) s)) =
    ground s := by simp [execStageStoreExpiry]
@[simp] theorem execGapFill_ground (a0 : Chan) (s : State) : ground ((after (execGapFill a0 s) s)) = ground s := by
  unfold execGapFill
  (repeat' split) <;> simp [apply_ite ground, apply_ite Prod.snd]
@[simp] theorem execPinFill_ground (a0 : Chan) (a1 : U32) (s : State) : ground ((after (execPinFill a0 a1 s) s)) =
    ground s := by
  unfold execPinFill
  simp only [apply_ite ground, apply_ite Prod.snd]
  (repeat' split) <;> simp [*]
@[simp] theorem soundAncestor_ground (a0 : Nat) (a1 : Ctx) (s : State) : ground (soundAncestor a0 a1 s) = ground s := by
  induction a0 generalizing s with
  | zero => rfl
  | succ n ih => unfold soundAncestor; (repeat' (first | dsimp only | split)) <;> simp_all [apply_ite ground]
@[simp] theorem execNodeFetch_ground (a0 : Chan) (a1 : Cs) (a2 : BitVec 24) (s : State) : ground ((after (execNodeFetch
    a0 a1 a2 s) s)) = ground s := by
  unfold execNodeFetch
  simp only [apply_ite ground, apply_ite Prod.snd]
  (repeat' split) <;> simp [*]
@[simp] theorem gleanPassed_ground (a0 : Nat) (s : State) : ground (gleanPassed a0 s) = ground s := by
  unfold gleanPassed
  simp only [apply_ite ground, apply_ite Prod.snd]
  (repeat' split) <;> simp [*]
@[simp] theorem execGleaningRead_ground (a0 : Chan) (s : State) : ground ((after (execGleaningRead a0 s) s)) = ground s
    := by
  unfold execGleaningRead
  (repeat' split) <;> simp [apply_ite ground, apply_ite Prod.snd]
@[simp] theorem gleanDone_ground (a0 : Chan) (a1 : Nat) (s : State) : ground (gleanDone a0 a1 s) = ground s := by
  unfold gleanDone
  simp only [apply_ite ground, apply_ite Prod.snd]
  (repeat' split) <;> simp [*]
@[simp] theorem nodeFail_ground (a0 : Chan) (a1 : Nat) (a2 : Nat) (a3 : Nat) (s : State) : ground (nodeFail a0 a1 a2 a3
    s) = ground s := by simp [nodeFail]
theorem cacheInsert_some {tree level index : Nat} {data : List Byte} {s t : State} (h : cacheInsert tree level index
    data s = some t) : ground t = ground s := by
  unfold cacheInsert at h
  dsimp only at h
  split at h
  · simp at h; subst h; simp
  · split at h
    · simp at h; subst h; simp
    · simp at h
@[simp] theorem nodeEnter_ground (a0 : Chan) (a1 : Nat) (a2 : Nat) (a3 : Nat) (a4 : List Byte) (a5 : Cs × Nat) (s :
    State) : ground (nodeEnter a0 a1 a2 a3 a4 a5 s) = ground s := by
  unfold nodeEnter
  split
  · exact cacheInsert_some ‹_›
  · split <;> simp
@[simp] theorem nodeArrived_ground (a0 : Chan) (a1 : Nat) (a2 : Nat) (a3 : Nat) (a4 : Cs × Nat) (s : State) : ground
    (nodeArrived a0 a1 a2 a3 a4 s) = ground s := by
  unfold nodeArrived
  (repeat' split) <;> simp [apply_ite ground, apply_ite Prod.snd]
@[simp] theorem nodeFromVault_ground (a0 : Chan) (a1 : Nat) (a2 : Nat) (a3 : Nat) (a4 : Cs × Nat) (s : State) : ground
    (nodeFromVault a0 a1 a2 a3 a4 s) = ground s := by
  unfold nodeFromVault
  (repeat' split) <;> simp [apply_ite ground, apply_ite Prod.snd]
@[simp] theorem beatsArrive_ground (a0 : Chan) (a1 : Cs) (a2 : Nat) (a3 : Nat) (a4 : Nat) (s : State) : ground
    (beatsArrive a0 a1 a2 a3 a4 s) = ground s := by
  unfold beatsArrive
  (repeat' split) <;> simp [apply_ite ground, apply_ite Prod.snd]
@[simp] theorem preloadArrive_ground (a0 : Chan) (a1 : Cs) (a2 : Nat) (a3 : Nat) (s : State) : ground (preloadArrive a0
    a1 a2 a3 s) = ground s := by
  unfold preloadArrive
  (repeat' split) <;> simp [apply_ite ground, apply_ite Prod.snd]
@[simp] theorem readArrive_ground (a0 : Chan) (a1 : DevRead) (s : State) : ground (readArrive a0 a1 s) = ground s := by
  unfold readArrive
  split <;> simp
@[simp] theorem deviceReadFail_ground (a0 : Chan) (a1 : DevRead) (s : State) : ground (deviceReadFail a0 a1 s) = ground
    s := by
  unfold deviceReadFail
  simp [apply_ite ground, apply_ite Prod.snd]
@[simp] theorem execDeviceReadComplete_ground (a0 : Chan) (a1 : FlashEnd) (a2 : Option U8) (a3 : List Upset) (s :
    State) : ground ((after (execDeviceReadComplete a0 a1 a2 a3 s) s)) = ground s := by
  unfold execDeviceReadComplete
  simp only [apply_ite ground, apply_ite Prod.snd]
  (repeat' split) <;> simp [*]
@[simp] theorem checkLine_ground (a0 : Chan) (a1 : Cs) (a2 : Nat) (a3 : Ctx) (s : State) : ground (checkLine a0 a1 a2
    a3 s) = ground s := by
  unfold checkLine
  split
  · simp
  · dsimp only
    split
    · simp
    · split
      · rename_i h
        have h3 := congrArg (fun x => ground x.2) h
        dsimp only at h3
        split at h3 <;> simp at h3 <;> simp [← h3]
      · rename_i h
        have h3 := congrArg (fun x => ground x.2) h
        dsimp only at h3
        split at h3 <;> simp at h3 <;> simp [← h3, apply_ite ground]
@[simp] theorem execLineCheckComplete_ground (a0 : Chan) (a1 : Cs) (a2 : BitVec 24) (s : State) : ground ((after
    (execLineCheckComplete a0 a1 a2 s) s)) = ground s := by
  unfold execLineCheckComplete
  (repeat' split) <;> simp [apply_ite ground, apply_ite Prod.snd]
@[simp] theorem lineStale_ground (a0 : Chan) (a1 : Cs) (a2 : Nat) (s : State) : ground (lineStale a0 a1 a2 s) = ground
    s := by
  unfold lineStale
  (repeat' split) <;> simp [apply_ite ground, apply_ite Prod.snd]
@[simp] theorem execLineStale_ground (a0 : Chan) (a1 : Cs) (a2 : BitVec 24) (s : State) : ground ((after (execLineStale
    a0 a1 a2 s) s)) = ground s := by simp [execLineStale]
@[simp] theorem fabricWord_ground (s : State) : ground ((fabricWord s).2) = ground s := by
  unfold fabricWord
  simp [apply_ite ground, apply_ite Prod.snd]
@[simp] theorem request_ground (a0 : Port) (a1 : Svc) (a2 : Nat) (a3 : Nat) (a4 : Nat) (s : State) : ground ((request
    a0 a1 a2 a3 a4 s).2) = ground s := by simp [request]
@[simp] theorem requestOp_ground (a0 : Port) (a1 : Svc) (a2 : Nat) (a3 : Nat) (a4 : Nat) (a5 : State → U8 × State) (s :
    State) (h6 : ∀ y0, ground ((((a5 y0))).2) = ground ((y0))) : ground ((after (requestOp a0 a1 a2 a3 a4 a5 s) s)) = ground s := by
  unfold requestOp
  simp only [apply_ite ground, apply_ite Prod.snd]
  (repeat' split) <;> simp [*]
@[simp] theorem execOp_ground (a0 : Port) (a1 : Nat) (a2 : Nat) (a3 : Nat) (a4 : State → U8 × State) (s : State) (h5 :
    ∀ y0, ground ((((a4 y0))).2) = ground ((y0))) : ground ((after (execOp a0 a1 a2 a3 a4 s) s)) = ground s := by
  unfold execOp
  (repeat' (first | dsimp only | split)) <;> (try simp only [drbgGenerate_some, storeRecord_ok, Prod.ext_iff] at *) <;> (try casesm* _ ∧ _) <;>
    subst_vars <;> simp [*, apply_ite ground, apply_ite Prod.snd]
@[simp] theorem writeOp_ground (a0 : Port) (a1 : Nat) (a2 : Nat) (a3 : Nat) (a4 : State → U8 × State) (s : State) (h5 :
    ∀ y0, ground ((((a4 y0))).2) = ground ((y0))) : ground ((after (writeOp a0 a1 a2 a3 a4 s) s)) = ground s := by
  unfold writeOp
  (repeat' (first | dsimp only | split)) <;> (try simp only [drbgGenerate_some, storeRecord_ok, Prod.ext_iff] at *) <;> (try casesm* _ ∧ _) <;>
    subst_vars <;> simp [*, apply_ite ground, apply_ite Prod.snd]
@[simp] theorem blockOp_ground (a0 : Port) (a1 : Nat) (a2 : Nat) (a3 : Nat) (a4 : State → U8 × State) (s : State) (h5 :
    ∀ y0, ground ((((a4 y0))).2) = ground ((y0))) : ground ((after (blockOp a0 a1 a2 a3 a4 s) s)) = ground s := by
  unfold blockOp
  (repeat' (first | dsimp only | split)) <;> (try simp only [drbgGenerate_some, storeRecord_ok, Prod.ext_iff] at *) <;> (try casesm* _ ∧ _) <;>
    subst_vars <;> simp [*, apply_ite ground, apply_ite Prod.snd]
@[simp] theorem readOp_ground (a0 : Port) (a1 : Svc) (a2 : Nat) (a3 : Nat) (a4 : State → U8 × List Byte × State) (s :
    State) (h5 : ∀ y0, ground (((((a4 y0)).2)).2) = ground ((y0))) : ground ((after (readOp a0 a1 a2 a3 a4 s) s)) = ground s := by
  unfold readOp
  simp only [apply_ite ground, apply_ite Prod.snd]
  (repeat' split) <;> simp [*]

end Sys2Proof.Laws
end

