-- ==== Sys2Proof/Laws/Finish.lean ====
section
/-! SUPPORT. What settling the channels leaves alone, field by field. -/
namespace Sys2Proof.Laws
open Sys2Proof.Machine

@[simp] theorem finishAll_pending (s : State) : (finishAll s).pending = s.pending := by simpa only [aside] using congrArg Aside.pending (finishAll_aside s)
@[simp] theorem finishAll_now (s : State) : (finishAll s).now = s.now := by simpa only [aside] using congrArg Aside.now (finishAll_aside s)
@[simp] theorem finishAll_subUs (s : State) : (finishAll s).subUs = s.subUs := by simpa only [aside] using congrArg Aside.subUs (finishAll_aside s)
@[simp] theorem finishAll_tbUs (s : State) : (finishAll s).tbUs = s.tbUs := by simpa only [aside] using congrArg Aside.tbUs (finishAll_aside s)
@[simp] theorem finishAll_tbEpoch (s : State) : (finishAll s).tbEpoch = s.tbEpoch := by simpa only [aside] using congrArg Aside.tbEpoch (finishAll_aside s)
@[simp] theorem finishAll_refclk (s : State) : (finishAll s).refclk = s.refclk := by simpa only [aside] using congrArg Aside.refclk (finishAll_aside s)
@[simp] theorem finishAll_pllLock (s : State) : (finishAll s).pllLock = s.pllLock := by simpa only [aside] using congrArg Aside.pllLock (finishAll_aside s)
@[simp] theorem finishAll_gapPeriods (s : State) : (finishAll s).gapPeriods = s.gapPeriods := by simpa only [aside] using congrArg Aside.gapPeriods (finishAll_aside s)
@[simp] theorem finishAll_refclkLosses (s : State) : (finishAll s).refclkLosses = s.refclkLosses := by simpa only [aside] using congrArg Aside.refclkLosses (finishAll_aside s)
@[simp] theorem finishAll_refclkLastGap (s : State) : (finishAll s).refclkLastGap = s.refclkLastGap := by simpa only [aside] using congrArg Aside.refclkLastGap (finishAll_aside s)
@[simp] theorem finishAll_porPin (s : State) : (finishAll s).porPin = s.porPin := by simpa only [aside] using congrArg Aside.porPin (finishAll_aside s)
@[simp] theorem finishAll_porN (s : State) : (finishAll s).porN = s.porN := by simpa only [aside] using congrArg Aside.porN (finishAll_aside s)
@[simp] theorem finishAll_straps (s : State) : (finishAll s).straps = s.straps := by simpa only [aside] using congrArg Aside.straps (finishAll_aside s)
@[simp] theorem finishAll_phase (s : State) : (finishAll s).phase = s.phase := by simpa only [aside] using congrArg Aside.phase (finishAll_aside s)
@[simp] theorem finishAll_steps (s : State) : (finishAll s).steps = s.steps := by simpa only [aside] using congrArg Aside.steps (finishAll_aside s)
@[simp] theorem finishAll_resetCause (s : State) : (finishAll s).resetCause = s.resetCause := by simpa only [aside] using congrArg Aside.resetCause (finishAll_aside s)
@[simp] theorem finishAll_rtCopy (s : State) : (finishAll s).rtCopy = s.rtCopy := by simpa only [aside] using congrArg Aside.rtCopy (finishAll_aside s)
@[simp] theorem finishAll_deviceResets (s : State) : (finishAll s).deviceResets = s.deviceResets := by simpa only [aside] using congrArg Aside.deviceResets (finishAll_aside s)
@[simp] theorem finishAll_coreRestarts (s : State) : (finishAll s).coreRestarts = s.coreRestarts := by simpa only [aside] using congrArg Aside.coreRestarts (finishAll_aside s)
@[simp] theorem finishAll_bootAttempts (s : State) : (finishAll s).bootAttempts = s.bootAttempts := by simpa only [aside] using congrArg Aside.bootAttempts (finishAll_aside s)
@[simp] theorem finishAll_deviceResetDue (s : State) : (finishAll s).deviceResetDue = s.deviceResetDue := by simpa only [aside] using congrArg Aside.deviceResetDue (finishAll_aside s)
@[simp] theorem finishAll_coresDown (s : State) : (finishAll s).coresDown = s.coresDown := by simpa only [aside] using congrArg Aside.coresDown (finishAll_aside s)
@[simp] theorem finishAll_coresHeld (s : State) : (finishAll s).coresHeld = s.coresHeld := by simpa only [aside] using congrArg Aside.coresHeld (finishAll_aside s)
@[simp] theorem finishAll_coreHealth (s : State) : (finishAll s).coreHealth = s.coreHealth := by simpa only [aside] using congrArg Aside.coreHealth (finishAll_aside s)
@[simp] theorem finishAll_halted (s : State) : (finishAll s).halted = s.halted := by simpa only [aside] using congrArg Aside.halted (finishAll_aside s)
@[simp] theorem finishAll_mgmtUp (s : State) : (finishAll s).mgmtUp = s.mgmtUp := by simpa only [aside] using congrArg Aside.mgmtUp (finishAll_aside s)
@[simp] theorem finishAll_testHonoured (s : State) : (finishAll s).testHonoured = s.testHonoured := by simpa only [aside] using congrArg Aside.testHonoured (finishAll_aside s)
@[simp] theorem finishAll_recoveryByRuntime (s : State) : (finishAll s).recoveryByRuntime = s.recoveryByRuntime := by simpa only [aside] using congrArg Aside.recoveryByRuntime (finishAll_aside s)
@[simp] theorem finishAll_rtImage (s : State) : (finishAll s).rtImage = s.rtImage := by simpa only [aside] using congrArg Aside.rtImage (finishAll_aside s)
@[simp] theorem finishAll_rtInstallResult (s : State) : (finishAll s).rtInstallResult = s.rtInstallResult := by simpa only [aside] using congrArg Aside.rtInstallResult (finishAll_aside s)
@[simp] theorem finishAll_rtBuild (s : State) : (finishAll s).rtBuild = s.rtBuild := by simpa only [aside] using congrArg Aside.rtBuild (finishAll_aside s)
@[simp] theorem finishAll_rtSvn (s : State) : (finishAll s).rtSvn = s.rtSvn := by simpa only [aside] using congrArg Aside.rtSvn (finishAll_aside s)
@[simp] theorem finishAll_rtDigest (s : State) : (finishAll s).rtDigest = s.rtDigest := by simpa only [aside] using congrArg Aside.rtDigest (finishAll_aside s)
@[simp] theorem finishAll_katResults (s : State) : (finishAll s).katResults = s.katResults := by simpa only [aside] using congrArg Aside.katResults (finishAll_aside s)
@[simp] theorem finishAll_digestHealth (s : State) : (finishAll s).digestHealth = s.digestHealth := by simpa only [aside] using congrArg Aside.digestHealth (finishAll_aside s)
@[simp] theorem finishAll_dgTransients (s : State) : (finishAll s).dgTransients = s.dgTransients := by simpa only [aside] using congrArg Aside.dgTransients (finishAll_aside s)
@[simp] theorem finishAll_cipherHealth (s : State) : (finishAll s).cipherHealth = s.cipherHealth := by simpa only [aside] using congrArg Aside.cipherHealth (finishAll_aside s)
@[simp] theorem finishAll_cxTransients (s : State) : (finishAll s).cxTransients = s.cxTransients := by simpa only [aside] using congrArg Aside.cxTransients (finishAll_aside s)
@[simp] theorem finishAll_freshAtHeath (s : State) : (finishAll s).freshAtHeath = s.freshAtHeath := by simpa only [aside] using congrArg Aside.freshAtHeath (finishAll_aside s)
@[simp] theorem finishAll_pacePs (s : State) : (finishAll s).pacePs = s.pacePs := by simpa only [aside] using congrArg Aside.pacePs (finishAll_aside s)
@[simp] theorem finishAll_paceMaxPs (s : State) : (finishAll s).paceMaxPs = s.paceMaxPs := by simpa only [aside] using congrArg Aside.paceMaxPs (finishAll_aside s)
@[simp] theorem finishAll_paceArmed (s : State) : (finishAll s).paceArmed = s.paceArmed := by simpa only [aside] using congrArg Aside.paceArmed (finishAll_aside s)
@[simp] theorem finishAll_tj (s : State) : (finishAll s).tj = s.tj := by simpa only [aside] using congrArg Aside.tj (finishAll_aside s)
@[simp] theorem finishAll_tjMax (s : State) : (finishAll s).tjMax = s.tjMax := by simpa only [aside] using congrArg Aside.tjMax (finishAll_aside s)
@[simp] theorem finishAll_railMv (s : State) : (finishAll s).railMv = s.railMv := by simpa only [aside] using congrArg Aside.railMv (finishAll_aside s)
@[simp] theorem finishAll_railMin (s : State) : (finishAll s).railMin = s.railMin := by simpa only [aside] using congrArg Aside.railMin (finishAll_aside s)
@[simp] theorem finishAll_railMax (s : State) : (finishAll s).railMax = s.railMax := by simpa only [aside] using congrArg Aside.railMax (finishAll_aside s)
@[simp] theorem finishAll_scrubPasses (s : State) : (finishAll s).scrubPasses = s.scrubPasses := by simpa only [aside] using congrArg Aside.scrubPasses (finishAll_aside s)
@[simp] theorem finishAll_scrubLast (s : State) : (finishAll s).scrubLast = s.scrubLast := by simpa only [aside] using congrArg Aside.scrubLast (finishAll_aside s)
@[simp] theorem finishAll_scrubPos (s : State) : (finishAll s).scrubPos = s.scrubPos := by simpa only [aside] using congrArg Aside.scrubPos (finishAll_aside s)
@[simp] theorem finishAll_bistResult (s : State) : (finishAll s).bistResult = s.bistResult := by simpa only [aside] using congrArg Aside.bistResult (finishAll_aside s)
@[simp] theorem finishAll_injWord (s : State) : (finishAll s).injWord = s.injWord := by simpa only [aside] using congrArg Aside.injWord (finishAll_aside s)
@[simp] theorem finishAll_injMask (s : State) : (finishAll s).injMask = s.injMask := by simpa only [aside] using congrArg Aside.injMask (finishAll_aside s)
@[simp] theorem finishAll_unitResult (s : State) : (finishAll s).unitResult = s.unitResult := by simpa only [aside] using congrArg Aside.unitResult (finishAll_aside s)
@[simp] theorem finishAll_logicSig (s : State) : (finishAll s).logicSig = s.logicSig := by simpa only [aside] using congrArg Aside.logicSig (finishAll_aside s)
@[simp] theorem finishAll_cfg (s : State) : (finishAll s).cfg = s.cfg := by simpa only [aside] using congrArg Aside.cfg (finishAll_aside s)
@[simp] theorem finishAll_commits (s : State) : (finishAll s).commits = s.commits := by simpa only [aside] using congrArg Aside.commits (finishAll_aside s)
@[simp] theorem finishAll_lastCommitPort (s : State) : (finishAll s).lastCommitPort = s.lastCommitPort := by simpa only [aside] using congrArg Aside.lastCommitPort (finishAll_aside s)
@[simp] theorem finishAll_lastCommitUs (s : State) : (finishAll s).lastCommitUs = s.lastCommitUs := by simpa only [aside] using congrArg Aside.lastCommitUs (finishAll_aside s)
@[simp] theorem finishAll_faReads (s : State) : (finishAll s).faReads = s.faReads := by simpa only [aside] using congrArg Aside.faReads (finishAll_aside s)
@[simp] theorem finishAll_banks (s : State) : (finishAll s).banks = s.banks := by simpa only [aside] using congrArg Aside.banks (finishAll_aside s)
@[simp] theorem finishAll_cxs (s : State) : (finishAll s).cxs = s.cxs := by simpa only [aside] using congrArg Aside.cxs (finishAll_aside s)
@[simp] theorem finishAll_keys (s : State) : (finishAll s).keys = s.keys := by simpa only [aside] using congrArg Aside.keys (finishAll_aside s)
@[simp] theorem finishAll_pke (s : State) : (finishAll s).pke = s.pke := by simpa only [aside] using congrArg Aside.pke (finishAll_aside s)
@[simp] theorem finishAll_random (s : State) : (finishAll s).random = s.random := by simpa only [aside] using congrArg Aside.random (finishAll_aside s)
@[simp] theorem finishAll_heath (s : State) : (finishAll s).heath = s.heath := by simpa only [aside] using congrArg Aside.heath (finishAll_aside s)
@[simp] theorem finishAll_wd (s : State) : (finishAll s).wd = s.wd := by simpa only [aside] using congrArg Aside.wd (finishAll_aside s)
@[simp] theorem finishAll_timers (s : State) : (finishAll s).timers = s.timers := by simpa only [aside] using congrArg Aside.timers (finishAll_aside s)
@[simp] theorem finishAll_cus (s : State) : (finishAll s).cus = s.cus := by simpa only [aside] using congrArg Aside.cus (finishAll_aside s)
@[simp] theorem finishAll_cuTransients (s : State) : (finishAll s).cuTransients = s.cuTransients := by simpa only [aside] using congrArg Aside.cuTransients (finishAll_aside s)
@[simp] theorem finishAll_lc (s : State) : (finishAll s).lc = s.lc := by simpa only [aside] using congrArg Aside.lc (finishAll_aside s)
@[simp] theorem finishAll_tap (s : State) : (finishAll s).tap = s.tap := by simpa only [aside] using congrArg Aside.tap (finishAll_aside s)
@[simp] theorem finishAll_mports (s : State) : (finishAll s).mports = s.mports := by simpa only [aside] using congrArg Aside.mports (finishAll_aside s)
@[simp] theorem finishAll_ports (s : State) : (finishAll s).ports = s.ports := by simpa only [aside] using congrArg Aside.ports (finishAll_aside s)

end Sys2Proof.Laws
end

