-- ==== Sys2Proof/Laws/GroundCrypto.lean ====
section
/-! SUPPORT. What leaves the ground of a state as it is: digest, cipher and random. -/
namespace Sys2Proof.Laws
open Sys2Proof.Machine
set_option linter.unusedVariables false
set_option linter.unusedSimpArgs false
set_option linter.unnecessarySeqFocus false
set_option linter.unreachableTactic false
set_option linter.unusedTactic false
set_option maxRecDepth 4000

@[simp] theorem bankOp_ground (a0 : Fin 8) (a1 : Bank → U8 × Bank) (s : State) : ground ((bankOp a0 a1 s).2) = ground s
    := by simp [bankOp]
@[simp] theorem dgAllocRule_ground (a0 : Port) (s : State) : ground ((dgAllocRule a0 s).2) = ground s := by
  unfold dgAllocRule
  (repeat' split) <;> simp [apply_ite ground, apply_ite Prod.snd]
@[simp] theorem execDgAlloc_ground (a0 : Port) (s : State) : ground ((after (execDgAlloc a0 s) s)) = ground s :=
  by simp [execDgAlloc]
@[simp] theorem bankWriteRule_ground (a0 : Fin 8) (a1 : Nat) (a2 : List Byte) (s : State) : ground ((bankWriteRule a0
    a1 a2 s).2) = ground s := by simp [bankWriteRule]
@[simp] theorem dgDeclRule_ground (a0 : Fin 8) (a1 : U40) (s : State) : ground ((dgDeclRule a0 a1 s).2) = ground s :=
  by simp [dgDeclRule]
@[simp] theorem execDgDeclLength_ground (a0 : Port) (a1 : Fin 8) (a2 : U40) (s : State) : ground ((after
    (execDgDeclLength a0 a1 a2 s) s)) = ground s := by simp [execDgDeclLength]
@[simp] theorem dgDataRule_ground (a0 : Fin 8) (a1 : Nat) (a2 : List Byte) (s : State) : ground ((dgDataRule a0 a1 a2
    s).2) = ground s := by simp [dgDataRule]
@[simp] theorem execDgData_ground (a0 : Port) (a1 : Fin 8) (a2 : U40) (a3 : List Byte) (s : State) : ground ((after
    (execDgData a0 a1 a2 a3 s) s)) = ground s := by simp [execDgData]
@[simp] theorem dgFinishRule_ground (a0 : Fin 8) (s : State) : ground ((dgFinishRule a0 s).2) = ground s :=
  by simp [dgFinishRule]
@[simp] theorem execDgFinish_ground (a0 : Port) (a1 : Fin 8) (s : State) : ground ((after (execDgFinish a0 a1 s) s)) =
    ground s := by simp [execDgFinish]
@[simp] theorem dgReleaseRule_ground (a0 : Fin 8) (s : State) : ground ((dgReleaseRule a0 s).2) = ground s :=
  by simp [dgReleaseRule]
@[simp] theorem execDgRelease_ground (a0 : Port) (a1 : Fin 8) (s : State) : ground ((after (execDgRelease a0 a1 s) s))
    = ground s := by simp [execDgRelease]
@[simp] theorem absorbKeyRule_ground (a0 : Port) (a1 : Fin 8) (a2 : U16) (s : State) : ground ((absorbKeyRule a0 a1 a2
    s).2) = ground s := by simp [absorbKeyRule]
@[simp] theorem execAbsorbKey_ground (a0 : Port) (a1 : Fin 8) (a2 : U16) (s : State) : ground ((after (execAbsorbKey a0
    a1 a2 s) s)) = ground s := by simp [execAbsorbKey]
@[simp] theorem exportRule_ground (a0 : Fin 8) (s : State) : ground ((exportRule a0 s).2) = ground s :=
  by simp [exportRule]
@[simp] theorem execExportState_ground (a0 : Port) (a1 : Fin 8) (s : State) : ground ((after (execExportState a0 a1 s)
    s)) = ground s := by simp [execExportState]
@[simp] theorem importRule_ground (a0 : Fin 8) (s : State) : ground ((importRule a0 s).2) = ground s :=
  by simp [importRule]
@[simp] theorem execImportState_ground (a0 : Port) (a1 : Fin 8) (s : State) : ground ((after (execImportState a0 a1 s)
    s)) = ground s := by simp [execImportState]
@[simp] theorem modSource_ground (a0 : Nat) (a1 : Source → Source) (s : State) : ground (modSource a0 a1 s) = ground s
    := by simp [modSource]
@[simp] theorem journalDrbg_ground (a0 : Nat) (a1 : Nat) (s : State) : ground (journalDrbg a0 a1 s) = ground s :=
  by simp [journalDrbg]
@[simp] theorem drbgReseed_ground (a0 : List Byte) (s : State) : ground (drbgReseed a0 s) = ground s :=
  by simp [drbgReseed]
@[simp] theorem kickReseed_ground (s : State) : ground (kickReseed s) = ground s := by
  unfold kickReseed
  (repeat' split) <;> simp [apply_ite ground, apply_ite Prod.snd]
@[simp] theorem drbgExpire_ground (s : State) : ground (drbgExpire s) = ground s := by simp [drbgExpire]
@[simp] theorem drbgThresholds_ground (s : State) : ground (drbgThresholds s) = ground s := by
  unfold drbgThresholds
  simp [apply_ite ground, apply_ite Prod.snd]
@[simp] theorem wireDeliver_ground (a0 : Nat) (s : State) : ground (wireDeliver a0 s) = ground s := by
  unfold wireDeliver
  (repeat' (first | dsimp only | split)) <;> (try simp only [drbgGenerate_some, storeRecord_ok, Prod.ext_iff] at *) <;> (try casesm* _ ∧ _) <;>
    subst_vars <;> simp [*, apply_ite ground, apply_ite Prod.snd]
@[simp] theorem serveWires_ground (s : State) : ground (serveWires s) = ground s := by
  unfold serveWires
  dsimp only
  split
  · refine (foldl_ground _ (fun t x => by simp) _ _).trans ((foldl_ground _ (fun t x => ?_) _ _).trans (by simp))
    split
    · rename_i h; simp only [drbgGenerate_some, Prod.ext_iff] at h; obtain ⟨_, _, rfl⟩ := h; simp
    · rfl
  · rfl
@[simp] theorem wireTimeout_ground (a0 : Nat) (s : State) : ground (wireTimeout a0 s) = ground s := by simp [wireTimeout]
@[simp] theorem wireGenerate_ground (a0 : Nat) (a1 : Nat) (s : State) : ground ((wireGenerate a0 a1 s).2) = ground s := by
  unfold wireGenerate
  (repeat' (first | dsimp only | split)) <;> (try simp only [drbgGenerate_some, storeRecord_ok, Prod.ext_iff] at *) <;> (try casesm* _ ∧ _) <;>
    subst_vars <;> simp [*, apply_ite ground, apply_ite Prod.snd]
@[simp] theorem drbgInstantiate_ground (a0 : List Byte) (s : State) : ground (drbgInstantiate a0 s) = ground s :=
  by simp [drbgInstantiate]
@[simp] theorem kickInstantiate_ground (s : State) : ground (kickInstantiate s) = ground s := by
  unfold kickInstantiate
  (repeat' split) <;> simp [apply_ite ground, apply_ite Prod.snd]
@[simp] theorem drbgFresh_ground (a0 : List Byte) (s : State) : ground (drbgFresh a0 s) = ground s := by
  unfold drbgFresh
  simp [apply_ite ground, apply_ite Prod.snd]
@[simp] theorem drbgZero_ground (s : State) : ground (drbgZero s) = ground s := by simp [drbgZero]
@[simp] theorem eraseRandom_ground (s : State) : ground (eraseRandom s) = ground s := by simp [eraseRandom]
@[simp] theorem assignWindow_ground (a0 : List Byte) (s : State) : ground (assignWindow a0 s) = ground s := by
  unfold assignWindow
  simp only [apply_ite ground, apply_ite Prod.snd]
  (repeat' split) <;> simp [*]
@[simp] theorem nextSource_ground (a0 : Nat) (s : State) : ground (nextSource a0 s) = ground s := by
  unfold nextSource
  split <;> simp
@[simp] theorem countSourceFail_ground (a0 : Nat) (a1 : Nat) (a2 : Bool) (s : State) : ground (countSourceFail a0 a1 a2
    s) = ground s := by simp [countSourceFail]
@[simp] theorem dropRaw_ground (s : State) : ground (dropRaw s) = ground s := by simp [dropRaw]
@[simp] theorem sourceAlarm_ground (a0 : Nat) (a1 : Bool) (s : State) : ground (sourceAlarm a0 a1 s) = ground s :=
  by simp [sourceAlarm]
@[simp] theorem startupEnd_ground (a0 : Nat) (a1 : Window) (s : State) : ground (startupEnd a0 a1 s) = ground s := by
  unfold startupEnd
  (repeat' split) <;> simp [apply_ite ground, apply_ite Prod.snd]
@[simp] theorem execSourceAlarm_ground (a0 : Bool) (s : State) : ground ((after (execSourceAlarm a0 s) s)) = ground s
    := by
  unfold execSourceAlarm
  split <;> simp
@[simp] theorem srcReinstateRule_ground (a0 : Nat) (a1 : Window) (s : State) : ground ((srcReinstateRule a0 a1 s).2) =
    ground s := by
  unfold srcReinstateRule
  simp [apply_ite ground, apply_ite Prod.snd]
@[simp] theorem execSrcReinstate_ground (a0 : Port) (a1 : U8) (a2 : Window) (s : State) : ground ((after
    (execSrcReinstate a0 a1 a2 s) s)) = ground s := by simp [execSrcReinstate]
@[simp] theorem execAutoReseed_ground (s : State) : ground ((after (execAutoReseed s) s)) = ground s := by
  unfold execAutoReseed
  split <;> simp
@[simp] theorem execDrbgExpiry_ground (a0 : Bool) (s : State) : ground ((after (execDrbgExpiry a0 s) s)) = ground s := by
  unfold execDrbgExpiry
  simp only [apply_ite ground, apply_ite Prod.snd]
  (repeat' split) <;> simp [*]
@[simp] theorem execDrbgParityError_ground (s : State) : ground ((after (execDrbgParityError s) s)) = ground s := by
  unfold execDrbgParityError
  split <;> simp
@[simp] theorem reseedRule_ground (a0 : Option Window) (s : State) : ground ((reseedRule a0 s).2) = ground s := by
  unfold reseedRule
  (repeat' split) <;> simp [apply_ite ground, apply_ite Prod.snd]
@[simp] theorem execReseed_ground (a0 : Port) (a1 : Option Window) (s : State) : ground ((after (execReseed a0 a1 s)
    s)) = ground s := by simp [execReseed]
@[simp] theorem execPrivateWireRequest_ground (a0 : Fin 5) (a1 : Bool) (s : State) : ground ((after
    (execPrivateWireRequest a0 a1 s) s)) = ground s := by
  unfold execPrivateWireRequest
  simp only [apply_ite ground, apply_ite Prod.snd]
  (repeat' split) <;> simp [*]
@[simp] theorem rawTake_ground (a0 : Port) (a1 : Nat) (s : State) : ground ((rawTake a0 a1 s).2) = ground s := by
  unfold rawTake
  (repeat' (first | dsimp only | split)) <;> (try simp only [drbgGenerate_some, storeRecord_ok, Prod.ext_iff] at *) <;> (try casesm* _ ∧ _) <;>
    subst_vars <;> simp [*, apply_ite ground, apply_ite Prod.snd]
@[simp] theorem rawWordRule_ground (a0 : Port) (s : State) : ground ((rawWordRule a0 s).2.2) = ground s := by
  unfold rawWordRule
  (repeat' (first | dsimp only | split)) <;> (try simp only [drbgGenerate_some, storeRecord_ok, Prod.ext_iff] at *) <;> (try casesm* _ ∧ _) <;>
    subst_vars <;> simp [*, apply_ite ground, apply_ite Prod.snd]
@[simp] theorem execRawWordRead_ground (a0 : Port) (s : State) : ground ((after (execRawWordRead a0 s) s)) = ground s :=
  by simp [execRawWordRead]
@[simp] theorem rawBlockRule_ground (a0 : Port) (a1 : Nat) (s : State) : ground ((rawBlockRule a0 a1 s).2.2) = ground s
    := by
  unfold rawBlockRule
  (repeat' (first | dsimp only | split)) <;> (try simp only [drbgGenerate_some, storeRecord_ok, Prod.ext_iff] at *) <;> (try casesm* _ ∧ _) <;>
    subst_vars <;> simp [*, apply_ite ground, apply_ite Prod.snd]
@[simp] theorem execRawBlockRead_ground (a0 : Port) (a1 : U16) (s : State) : ground ((after (execRawBlockRead a0 a1 s)
    s)) = ground s := by simp [execRawBlockRead]
@[simp] theorem rawSelectRule_ground (a0 : Port) (a1 : U8) (s : State) : ground ((rawSelectRule a0 a1 s).2) = ground s
    := by
  unfold rawSelectRule
  simp [apply_ite ground, apply_ite Prod.snd]
@[simp] theorem execRawSelectWrite_ground (a0 : Port) (a1 : U8) (s : State) : ground ((after (execRawSelectWrite a0 a1
    s) s)) = ground s := by simp [execRawSelectWrite]
@[simp] theorem patternSwitch_ground (a0 : Bool) (s : State) : ground (patternSwitch a0 s) = ground s :=
  by simp [patternSwitch]
@[simp] theorem patternOn_ground (s : State) : ground (patternOn s) = ground s := by simp [patternOn]
@[simp] theorem patternOff_ground (s : State) : ground (patternOff s) = ground s := by
  unfold patternOff
  (repeat' split) <;> simp [apply_ite ground, apply_ite Prod.snd]
@[simp] theorem testPatternRule_ground (a0 : Bool) (s : State) : ground ((testPatternRule a0 s).2) = ground s := by
  unfold testPatternRule
  simp [apply_ite ground, apply_ite Prod.snd]
@[simp] theorem execTestPatternWrite_ground (a0 : Port) (a1 : Bool) (s : State) : ground ((after (execTestPatternWrite
    a0 a1 s) s)) = ground s := by simp [execTestPatternWrite]
@[simp] theorem cxOp_ground (a0 : Fin 4) (a1 : CxJob → U8 × CxJob) (s : State) : ground ((cxOp a0 a1 s).2) = ground s :=
  by simp [cxOp]
@[simp] theorem cxAllocRule_ground (a0 : Port) (s : State) : ground ((cxAllocRule a0 s).2) = ground s := by
  unfold cxAllocRule
  (repeat' split) <;> simp [apply_ite ground, apply_ite Prod.snd]
@[simp] theorem execCxAlloc_ground (a0 : Port) (s : State) : ground ((after (execCxAlloc a0 s) s)) = ground s :=
  by simp [execCxAlloc]
@[simp] theorem cxWriteRule_ground (a0 : Fin 4) (a1 : Nat) (a2 : List Byte) (s : State) : ground ((cxWriteRule a0 a1 a2
    s).2) = ground s := by simp [cxWriteRule]
@[simp] theorem maskRefresh_ground (s : State) : ground (maskRefresh s) = ground s := by
  unfold maskRefresh
  (repeat' (first | dsimp only | split)) <;> (try simp only [drbgGenerate_some, storeRecord_ok, Prod.ext_iff] at *) <;> (try casesm* _ ∧ _) <;>
    subst_vars <;> simp [*, apply_ite ground, apply_ite Prod.snd]
@[simp] theorem cxDeclRule_ground (a0 : Port) (a1 : Fin 4) (a2 : U40) (s : State) : ground ((cxDeclRule a0 a1 a2 s).2)
    = ground s := by
  unfold cxDeclRule
  simp [apply_ite ground, apply_ite Prod.snd]
@[simp] theorem execCxDeclLength_ground (a0 : Port) (a1 : Fin 4) (a2 : U40) (s : State) : ground ((after
    (execCxDeclLength a0 a1 a2 s) s)) = ground s := by simp [execCxDeclLength]
@[simp] theorem cxDataRule_ground (a0 : Fin 4) (a1 : Nat) (a2 : List Byte) (s : State) : ground ((cxDataRule a0 a1 a2
    s).2) = ground s := by simp [cxDataRule]
@[simp] theorem execCxData_ground (a0 : Port) (a1 : Fin 4) (a2 : U40) (a3 : List Byte) (s : State) : ground ((after
    (execCxData a0 a1 a2 a3 s) s)) = ground s := by simp [execCxData]
@[simp] theorem cxReadRule_ground (a0 : Fin 4) (a1 : Nat) (a2 : Nat) (s : State) : ground ((cxReadRule a0 a1 a2 s).2.2)
    = ground s := by simp [cxReadRule]
@[simp] theorem cxFinishRule_ground (a0 : Fin 4) (s : State) : ground ((cxFinishRule a0 s).2) = ground s :=
  by simp [cxFinishRule]
@[simp] theorem execCxFinish_ground (a0 : Port) (a1 : Fin 4) (s : State) : ground ((after (execCxFinish a0 a1 s) s)) =
    ground s := by simp [execCxFinish]
@[simp] theorem cxReleaseRule_ground (a0 : Fin 4) (s : State) : ground ((cxReleaseRule a0 s).2) = ground s :=
  by simp [cxReleaseRule]
@[simp] theorem execCxRelease_ground (a0 : Port) (a1 : Fin 4) (s : State) : ground ((after (execCxRelease a0 a1 s) s))
    = ground s := by simp [execCxRelease]
@[simp] theorem retireDigest_ground (a0 : Nat) (s : State) : ground (retireDigest a0 s) = ground s :=
  by simp [retireDigest]
@[simp] theorem retireCipher_ground (a0 : Nat) (s : State) : ground (retireCipher a0 s) = ground s :=
  by simp [retireCipher]
@[simp] theorem chargeDigest_ground (s : State) : ground (chargeDigest s) = ground s := by
  unfold chargeDigest
  simp [apply_ite ground, apply_ite Prod.snd]
@[simp] theorem chargeCipher_ground (s : State) : ground (chargeCipher s) = ground s := by
  unfold chargeCipher
  simp [apply_ite ground, apply_ite Prod.snd]
@[simp] theorem execEngineParityError_ground (a0 : Bool) (a1 : Fin 8) (s : State) : ground ((after
    (execEngineParityError a0 a1 s) s)) = ground s := by
  unfold execEngineParityError
  (repeat' split) <;> simp [apply_ite ground, apply_ite Prod.snd]

end Sys2Proof.Laws
end

