-- ==== Sys2Proof/Laws/GroundChan.lean ====
section
/-! SUPPORT. What leaves the ground of a state as it is: channel commands, timers and the commit. -/
namespace Sys2Proof.Laws
open Sys2Proof.Machine
set_option linter.unusedVariables false
set_option linter.unusedSimpArgs false
set_option linter.unnecessarySeqFocus false
set_option linter.unreachableTactic false
set_option linter.unusedTactic false
set_option maxRecDepth 4000

@[simp] theorem flushRule_ground (s : State) : ground ((flushRule s).2) = ground s := by simp [flushRule]
@[simp] theorem execFlush_ground (a0 : Port) (s : State) : ground ((after (execFlush a0 s) s)) = ground s :=
  by simp [execFlush]
@[simp] theorem hayloftReqRule_ground (a0 : U8) (s : State) : ground ((hayloftReqRule a0 s).2) = ground s := by
  unfold hayloftReqRule
  simp [apply_ite ground, apply_ite Prod.snd]
@[simp] theorem execHayloftReqStateWrite_ground (a0 : Port) (a1 : U8) (s : State) : ground ((after
    (execHayloftReqStateWrite a0 a1 s) s)) = ground s := by simp [execHayloftReqStateWrite]
@[simp] theorem channelReqRule_ground (a0 : Chan) (a1 : U8) (a2 : Bool) (s : State) : ground ((channelReqRule a0 a1 a2
    s).2) = ground s := by
  unfold channelReqRule
  simp [apply_ite ground, apply_ite Prod.snd]
@[simp] theorem execChannelReqStateWrite_ground (a0 : Port) (a1 : Chan) (a2 : U8) (a3 : Bool) (s : State) : ground
    ((after (execChannelReqStateWrite a0 a1 a2 a3 s) s)) = ground s := by simp [execChannelReqStateWrite]
@[simp] theorem vaultFollow_ground (a0 : Bool) (s : State) : ground (vaultFollow a0 s) = ground s := by
  unfold vaultFollow
  simp [apply_ite ground, apply_ite Prod.snd]
@[simp] theorem execReqStateBoundary_ground (a0 : Fin 9) (s : State) : ground ((after (execReqStateBoundary a0 s) s)) =
    ground s := by
  unfold execReqStateBoundary
  (repeat' split) <;> simp [apply_ite ground, apply_ite Prod.snd]
@[simp] theorem abortOp_ground (a0 : PhysOp) (a1 : Flash) (s : State) : ground ((abortOp a0 a1 s).2) = ground s := by
  unfold abortOp
  split <;> simp
@[simp] theorem resetFlash_ground (a0 : Chan) (a1 : Cs) (s : State) : ground (resetFlash a0 a1 s) = ground s := by
  unfold resetFlash
  simp only [apply_ite ground, apply_ite Prod.snd]
  (repeat' split) <;> simp [*]
@[simp] theorem discoverCs_ground (a0 : Chan) (a1 : Cs) (a2 : Found) (s : State) : ground (discoverCs a0 a1 a2 s) =
    ground s := by
  unfold discoverCs
  (repeat' split) <;> simp [apply_ite ground, apply_ite Prod.snd]
@[simp] theorem deriveIds_ground (a0 : Chan) (s : State) : ground (deriveIds a0 s) = ground s := by simp [deriveIds]
@[simp] theorem discoverChan_ground (a0 : Chan) (a1 : Found) (a2 : Found) (s : State) : ground (discoverChan a0 a1 a2
    s) = ground s := by
  unfold discoverChan
  simp [apply_ite ground, apply_ite Prod.snd]
@[simp] theorem resettleCtxs_ground (s : State) : ground (resettleCtxs s) = ground s := by
  unfold resettleCtxs
  refine (foldl_ground _ (fun t x => ?_) _ _).trans rfl
  dsimp only
  split
  · simp
  · split
    · rfl
    · split <;> simp
@[simp] theorem setCompileFault_ground (a0 : Chan) (a1 : CompileFail) (s : State) : ground (setCompileFault a0 a1 s) =
    ground s := by simp [setCompileFault]
@[simp] theorem recompile_ground (a0 : Chan) (s : State) : ground (recompile a0 s) = ground s := by
  unfold recompile
  (repeat' (first | dsimp only | split)) <;> simp [apply_ite ground, apply_ite Prod.snd]
@[simp] theorem execRediscovery_ground (a0 : Chan) (a1 : Found) (a2 : Found) (s : State) : ground ((after
    (execRediscovery a0 a1 a2 s) s)) = ground s := by
  unfold execRediscovery
  simp only [apply_ite ground, apply_ite Prod.snd]
  (repeat' split) <;> simp [*]
@[simp] theorem execPlatPgFall_ground (a0 : Chan) (s : State) : ground ((after (execPlatPgFall a0 s) s)) = ground s := by
  unfold execPlatPgFall
  (repeat' split) <;> simp [apply_ite ground, apply_ite Prod.snd]
@[simp] theorem execPlatPgRise_ground (a0 : Chan) (s : State) : ground ((after (execPlatPgRise a0 s) s)) = ground s := by
  unfold execPlatPgRise
  simp [apply_ite ground, apply_ite Prod.snd]
@[simp] theorem dropPoisoned_ground (a0 : Chan) (s : State) : ground (dropPoisoned a0 s) = ground s :=
  by simp [dropPoisoned]
@[simp] theorem clearHoldRule_ground (a0 : Chan) (s : State) : ground ((clearHoldRule a0 s).2) = ground s := by
  unfold clearHoldRule
  simp [apply_ite ground, apply_ite Prod.snd]
@[simp] theorem execClearHold_ground (a0 : Port) (a1 : Chan) (s : State) : ground ((after (execClearHold a0 a1 s) s)) =
    ground s := by simp [execClearHold]
@[simp] theorem endTakeover_ground (a0 : Chan) (s : State) : ground (endTakeover a0 s) = ground s := by
  unfold endTakeover
  simp [apply_ite ground, apply_ite Prod.snd]
@[simp] theorem reinstateRule_ground (a0 : Chan) (a1 : Option (Fin 5)) (s : State) : ground ((reinstateRule a0 a1 s).2)
    = ground s := by
  unfold reinstateRule
  simp only [apply_ite ground, apply_ite Prod.snd]
  (repeat' split) <;> simp [*]
@[simp] theorem execReinstate_ground (a0 : Port) (a1 : Chan) (a2 : Option (Fin 5)) (s : State) : ground ((after
    (execReinstate a0 a1 a2 s) s)) = ground s := by simp [execReinstate]
@[simp] theorem fallowReinstateRule_ground (a0 : Option (Fin 5)) (s : State) : ground ((fallowReinstateRule a0 s).2) =
    ground s := by
  unfold fallowReinstateRule
  (repeat' split) <;> simp [apply_ite ground, apply_ite Prod.snd]
@[simp] theorem execFallowReinstate_ground (a0 : Port) (a1 : Option (Fin 5)) (s : State) : ground ((after
    (execFallowReinstate a0 a1 s) s)) = ground s := by simp [execFallowReinstate]
@[simp] theorem fallowReqRule_ground (a0 : U8) (s : State) : ground ((fallowReqRule a0 s).2) = ground s := by
  unfold fallowReqRule
  simp [apply_ite ground, apply_ite Prod.snd]
@[simp] theorem execFallowReqStateWrite_ground (a0 : Port) (a1 : U8) (s : State) : ground ((after
    (execFallowReqStateWrite a0 a1 s) s)) = ground s := by simp [execFallowReqStateWrite]
@[simp] theorem fallowServes_ground (a0 : Chan) (a1 : Nat) (s : State) : ground (fallowServes a0 a1 s) = ground s :=
  by simp [fallowServes]
@[simp] theorem execHotTakeoverSwitch_ground (a0 : Chan) (s : State) : ground ((after (execHotTakeoverSwitch a0 s) s))
    = ground s := by
  unfold execHotTakeoverSwitch
  split <;> simp
@[simp] theorem execColdTakeoverConnect_ground (a0 : Chan) (a1 : Bool) (s : State) : ground ((after
    (execColdTakeoverConnect a0 a1 s) s)) = ground s := by
  unfold execColdTakeoverConnect
  simp only [apply_ite ground, apply_ite Prod.snd]
  (repeat' split) <;> simp [*]
@[simp] theorem execFallowHandback_ground (a0 : Chan) (s : State) : ground ((after (execFallowHandback a0 s) s)) =
    ground s := by
  unfold execFallowHandback
  split <;> simp
@[simp] theorem execIndexWordReload_ground (a0 : Fin 8) (a1 : Nat) (s : State) : ground ((after (execIndexWordReload a0
    a1 s) s)) = ground s := by
  unfold execIndexWordReload
  simp only [apply_ite ground, apply_ite Prod.snd]
  (repeat' split) <;> simp [*]
@[simp] theorem execRelDelayExpiry_ground (a0 : Chan) (a1 : BitVec 8) (s : State) : ground ((after (execRelDelayExpiry
    a0 a1 s) s)) = ground s := by
  unfold execRelDelayExpiry
  split <;> simp
@[simp] theorem depExpire_ground (a0 : Chan) (s : State) : ground (depExpire a0 s) = ground s := by
  unfold depExpire
  simp [apply_ite ground, apply_ite Prod.snd]
@[simp] theorem execDepTimeoutExpiry_ground (a0 : Chan) (s : State) : ground ((after (execDepTimeoutExpiry a0 s) s)) =
    ground s := by simp [execDepTimeoutExpiry]
@[simp] theorem wdBegin_ground (a0 : Bool) (a1 : Nat) (a2 : Nat) (a3 : Nat) (s : State) : ground (wdBegin a0 a1 a2 a3
    s) = ground s := by simp [wdBegin]
@[simp] theorem wdWindow_ground (s : State) : ground (wdWindow s) = ground s := by simp [wdWindow]
@[simp] theorem wdRecovery_ground (s : State) : ground (wdRecovery s) = ground s := by simp [wdRecovery]
@[simp] theorem timerHalt_ground (a0 : Fin 8) (s : State) : ground (timerHalt a0 s) = ground s := by simp [timerHalt]
@[simp] theorem tuStartRule_ground (a0 : Fin 8) (s : State) : ground ((tuStartRule a0 s).2) = ground s := by
  unfold tuStartRule
  simp [apply_ite ground, apply_ite Prod.snd]
@[simp] theorem tuStopRule_ground (a0 : Fin 8) (s : State) : ground ((tuStopRule a0 s).2) = ground s :=
  by simp [tuStopRule]
@[simp] theorem tuWriteRule_ground (a0 : Fin 8) (a1 : Nat) (a2 : Nat) (s : State) : ground ((tuWriteRule a0 a1 a2 s).2)
    = ground s := by
  unfold tuWriteRule
  simp [apply_ite ground, apply_ite Prod.snd]
@[simp] theorem execTuStart_ground (a0 : Port) (a1 : Fin 8) (s : State) : ground ((after (execTuStart a0 a1 s) s)) =
    ground s := by simp [execTuStart]
@[simp] theorem execTuStop_ground (a0 : Port) (a1 : Fin 8) (s : State) : ground ((after (execTuStop a0 a1 s) s)) =
    ground s := by simp [execTuStop]
@[simp] theorem execTuExpiry_ground (a0 : Fin 8) (s : State) : ground ((after (execTuExpiry a0 s) s)) = ground s := by
  unfold execTuExpiry
  simp only [apply_ite ground, apply_ite Prod.snd]
  (repeat' split) <;> simp [*]
@[simp] theorem stageRule_ground (a0 : Port) (a1 : Nat) (a2 : Nat) (a3 : List Byte) (s : State) : ground ((stageRule a0
    a1 a2 a3 s).2) = ground s := by
  unfold stageRule
  simp [apply_ite ground, apply_ite Prod.snd]
@[simp] theorem ruleDataRule_ground (a0 : Port) (a1 : RuleRow) (s : State) : ground ((ruleDataRule a0 a1 s).2) = ground
    s := by
  unfold ruleDataRule
  simp [apply_ite ground, apply_ite Prod.snd]
@[simp] theorem ruleDomainRule_ground (a0 : Port) (a1 : Nat) (a2 : List Byte) (s : State) : ground ((ruleDomainRule a0
    a1 a2 s).2) = ground s := by
  unfold ruleDomainRule
  simp [apply_ite ground, apply_ite Prod.snd]
@[simp] theorem execRuleDataWrite_ground (a0 : Port) (a1 : RuleRow) (s : State) : ground ((after (execRuleDataWrite a0
    a1 s) s)) = ground s := by simp [execRuleDataWrite]
@[simp] theorem execRuleDomainWrite_ground (a0 : Port) (a1 : U40) (a2 : List Byte) (s : State) : ground ((after
    (execRuleDomainWrite a0 a1 a2 s) s)) = ground s := by simp [execRuleDomainWrite]
@[simp] theorem withStaged_ground (a0 : Port) (s : State) : ground (withStaged a0 s) = ground s := by simp [withStaged]
@[simp] theorem setCompile_ground (a0 : Port) (a1 : Option CompileFail × Nat) (s : State) : ground (setCompile a0 a1 s)
    = ground s := by simp [setCompile]
@[simp] theorem ruleSteps_ground (t : State) (a1 : Port) (s : State) : ground ((ruleSteps t a1 s).2) = ground s := by
  unfold ruleSteps
  simp only [apply_ite ground, apply_ite Prod.snd]
  (repeat' split) <;> simp [*]
@[simp] theorem stopFreed_ground (old : State) (s : State) : ground (stopFreed old s) = ground s := by
  unfold stopFreed
  simp [apply_ite ground, apply_ite Prod.snd]
@[simp] theorem smbDue_ground (old : State) (s : State) : ground (smbDue old s) = ground s := by
  unfold smbDue
  simp [apply_ite ground, apply_ite Prod.snd]
@[simp] theorem smbApply_ground (s : State) : ground (smbApply s) = ground s := by simp [smbApply]
@[simp] theorem applyCommit_ground (a0 : Port) (t : State) (s : State) : ground (applyCommit a0 t s) = ground t := by
  unfold applyCommit
  simp [apply_ite ground]
@[simp] theorem commitRule_ground (a0 : Port) (s : State) : ground ((commitRule a0 s).2) = ground s := by
  unfold commitRule
  dsimp only
  split
  · simp
  · split
    · simp
    · split <;> simp
@[simp] theorem discardRule_ground (a0 : Port) (s : State) : ground ((discardRule a0 s).2) = ground s :=
  by simp [discardRule]
@[simp] theorem checkRule_ground (a0 : Port) (s : State) : ground ((checkRule a0 s).2) = ground s := by
  unfold checkRule
  split
  · rfl
  · simp
@[simp] theorem execCommit_ground (a0 : Port) (s : State) : ground ((after (execCommit a0 s) s)) = ground s :=
  by simp [execCommit]
@[simp] theorem execDiscard_ground (a0 : Port) (s : State) : ground ((after (execDiscard a0 s) s)) = ground s :=
  by simp [execDiscard]
@[simp] theorem execCheck_ground (a0 : Port) (s : State) : ground ((after (execCheck a0 s) s)) = ground s :=
  by simp [execCheck]

end Sys2Proof.Laws
end

