-- ==== Sys2Proof/Laws/GroundUpdate.lean ====
section
/-! SUPPORT. What leaves the ground of a state as it is: the vault commands and the update. -/
namespace Sys2Proof.Laws
open Sys2Proof.Machine
set_option linter.unusedVariables false
set_option linter.unusedSimpArgs false
set_option linter.unnecessarySeqFocus false
set_option linter.unreachableTactic false
set_option linter.unusedTactic false
set_option maxRecDepth 4000

@[simp] theorem setLast_ground (a0 : Nat) (a1 : U8) (a2 : Nat) (s : State) : ground (setLast a0 a1 a2 s) = ground s :=
  by simp [setLast]
@[simp] theorem forgetTree_ground (a0 : Nat) (s : State) : ground (forgetTree a0 s) = ground s := by simp [forgetTree]
@[simp] theorem registerTree_ground (a0 : Nat) (a1 : TreeEntry) (s : State) : ground (registerTree a0 a1 s) = ground s
    := by
  unfold registerTree
  simp [apply_ite ground, apply_ite Prod.snd]
@[simp] theorem registerTargets_ground (a0 : List Byte) (s : State) : ground (registerTargets a0 s) = ground s := by
  unfold registerTargets
  simp only [unsaved_ground]
  refine (foldl_ground _ (fun t x => ?_) _ _).trans rfl
  split
  · split <;> simp
  · rfl
@[simp] theorem raiseCounters_ground (a0 : List (Nat × Nat)) (s : State) : ground (raiseCounters a0 s) = ground s := by
  unfold raiseCounters
  (repeat' split) <;> simp [apply_ite ground, apply_ite Prod.snd]
@[simp] theorem raiseOtp_ground (a0 : List Byte) (s : State) : ground (raiseOtp a0 s) = ground s := by
  unfold raiseOtp
  simp [apply_ite ground, apply_ite Prod.snd]
@[simp] theorem putProgress_ground (s : State) : ground (putProgress s) = ground s := by
  unfold putProgress
  (repeat' (first | dsimp only | split)) <;> (try simp only [drbgGenerate_some, storeRecord_ok, Prod.ext_iff] at *) <;> (try casesm* _ ∧ _) <;>
    subst_vars <;> simp [*, apply_ite ground, apply_ite Prod.snd]
@[simp] theorem updateIdle_ground (s : State) : ground (updateIdle s) = ground s := by simp [updateIdle]
@[simp] theorem resumeUpdate_ground (s : State) : ground (resumeUpdate s) = ground s := by
  unfold resumeUpdate
  (repeat' split) <;> simp [apply_ite ground, apply_ite Prod.snd]
@[simp] theorem vaultUp_ground (a0 : Nat) (a1 : Bool) (a2 : Bool) (a3 : EmmcInfo) (s : State) : ground (vaultUp a0 a1
    a2 a3 s) = ground s := by
  unfold vaultUp
  simp [apply_ite ground, apply_ite Prod.snd]
@[simp] theorem retireVault_ground (a0 : Nat) (s : State) : ground (retireVault a0 s) = ground s := by
  unfold retireVault
  dsimp only
  refine (allChans_ground _ _ (fun c t => ?_)).trans ((foldl_ground _ (fun t x => ?_) _ _).trans (by simp))
  · have h : ∀ x : StageOp, ground (denyHost c (BitVec.toNat x.word) (modChan c (fun y => { y with stageOp := none }) t)) = ground t := by simp
    split <;> split <;> (try split) <;> simp only [h, toHold_ground, countEscalation_ground]
  · split
    · simp
    · rfl
@[simp] theorem chargeVault_ground (s : State) : ground (chargeVault s) = ground s := by
  unfold chargeVault
  simp [apply_ite ground, apply_ite Prod.snd]
@[simp] theorem vaultReqRule_ground (a0 : U8) (s : State) : ground ((vaultReqRule a0 s).2) = ground s := by
  unfold vaultReqRule
  simp [apply_ite ground, apply_ite Prod.snd]
@[simp] theorem execVaultReqStateWrite_ground (a0 : Port) (a1 : U8) (s : State) : ground ((after
    (execVaultReqStateWrite a0 a1 s) s)) = ground s := by simp [execVaultReqStateWrite]
@[simp] theorem vaultReinstateRule_ground (a0 : VaultTry) (a1 : EmmcInfo) (s : State) : ground ((vaultReinstateRule a0
    a1 s).2) = ground s := by
  unfold vaultReinstateRule
  (repeat' split) <;> simp [apply_ite ground, apply_ite Prod.snd]
@[simp] theorem execVaultReinstate_ground (a0 : Port) (a1 : VaultTry) (a2 : EmmcInfo) (s : State) : ground ((after
    (execVaultReinstate a0 a1 a2 s) s)) = ground s := by simp [execVaultReinstate]
@[simp] theorem stageDone_ground (a0 : Chan) (s : State) : ground (stageDone a0 s) = ground s := by
  unfold stageDone
  (repeat' (first | dsimp only | split)) <;> (try simp only [drbgGenerate_some, storeRecord_ok, Prod.ext_iff] at *) <;> (try casesm* _ ∧ _) <;>
    subst_vars <;> simp [*, apply_ite ground, apply_ite Prod.snd]
@[simp] theorem scanDoneStep_ground (a0 : Nat) (s : State) : ground (scanDoneStep a0 s) = ground s := by
  unfold scanDoneStep
  simp only [apply_ite ground, apply_ite Prod.snd]
  (repeat' split) <;> simp [*]
@[simp] theorem scratchDone_ground (a0 : Chan) (s : State) : ground (scratchDone a0 s) = ground s := by
  unfold scratchDone
  (repeat' split) <;> simp [apply_ite ground, apply_ite Prod.snd]
@[simp] theorem vaultOpDone_ground (a0 : VaultOp) (s : State) : ground (vaultOpDone a0 s) = ground s := by
  unfold vaultOpDone
  split <;> simp
@[simp] theorem vaultCmdFail_ground (s : State) : ground (vaultCmdFail s) = ground s := by
  unfold vaultCmdFail
  simp [apply_ite ground, apply_ite Prod.snd]
@[simp] theorem execVaultIoComplete_ground (a0 : EmmcEnd) (s : State) : ground ((after (execVaultIoComplete a0 s) s)) =
    ground s := by
  unfold execVaultIoComplete
  (repeat' split) <;> simp [apply_ite ground, apply_ite Prod.snd]
@[simp] theorem saveConfig_ground (s : State) : ground (saveConfig s) = ground s := by
  unfold saveConfig
  (repeat' (first | dsimp only | split)) <;> (try simp only [drbgGenerate_some, storeRecord_ok, Prod.ext_iff] at *) <;> (try casesm* _ ∧ _) <;>
    subst_vars <;> simp [*, apply_ite ground, apply_ite Prod.snd]
@[simp] theorem execConfigSetSave_ground (a0 : WriteEnd) (s : State) : ground ((after (execConfigSetSave a0 s) s)) =
    ground s := by
  unfold execConfigSetSave
  split <;> simp
@[simp] theorem archive_ground (s : State) : ground (archive s) = ground s := by
  unfold archive
  (repeat' (first | dsimp only | split)) <;> (try simp only [drbgGenerate_some, storeRecord_ok, Prod.ext_iff] at *) <;> (try casesm* _ ∧ _) <;>
    subst_vars <;> simp [*, apply_ite ground, apply_ite Prod.snd]
@[simp] theorem execArchiveWrite_ground (a0 : WriteEnd) (s : State) : ground ((after (execArchiveWrite a0 s) s)) =
    ground s := by
  unfold execArchiveWrite
  split <;> simp
@[simp] theorem formatRule_ground (s : State) : ground ((formatRule s).2) = ground s := by
  unfold formatRule
  simp [apply_ite ground, apply_ite Prod.snd]
@[simp] theorem execFormat_ground (a0 : Port) (s : State) : ground ((after (execFormat a0 s) s)) = ground s :=
  by simp [execFormat]
@[simp] theorem stageClearRule_ground (s : State) : ground ((stageClearRule s).2) = ground s := by
  unfold stageClearRule
  simp [apply_ite ground, apply_ite Prod.snd]
@[simp] theorem execStageClear_ground (a0 : Port) (s : State) : ground ((after (execStageClear a0 s) s)) = ground s :=
  by simp [execStageClear]
@[simp] theorem restoreRule_ground (s : State) : ground ((restoreRule s).2) = ground s := by
  unfold restoreRule
  simp [apply_ite ground, apply_ite Prod.snd]
@[simp] theorem execRestore_ground (a0 : Port) (s : State) : ground ((after (execRestore a0 s) s)) = ground s :=
  by simp [execRestore]
@[simp] theorem manifestRule_ground (a0 : Nat) (a1 : List Byte) (s : State) : ground ((manifestRule a0 a1 s).2) =
    ground s := by
  unfold manifestRule
  simp [apply_ite ground, apply_ite Prod.snd]
@[simp] theorem execManifestWrite_ground (a0 : Port) (a1 : U40) (a2 : List Byte) (s : State) : ground ((after
    (execManifestWrite a0 a1 a2 s) s)) = ground s := by simp [execManifestWrite]
@[simp] theorem admitRule_ground (s : State) : ground ((admitRule s).2) = ground s := by
  unfold admitRule
  (repeat' (first | dsimp only | split)) <;> (try simp only [drbgGenerate_some, storeRecord_ok, Prod.ext_iff] at *) <;> (try casesm* _ ∧ _) <;>
    subst_vars <;> simp [*, apply_ite ground, apply_ite Prod.snd]
@[simp] theorem execAdmitManifest_ground (a0 : Port) (s : State) : ground ((after (execAdmitManifest a0 s) s)) = ground
    s := by simp [execAdmitManifest]
@[simp] theorem setPart_ground (a0 : Nat) (a1 : U8) (a2 : List Byte) (s : State) : ground (setPart a0 a1 a2 s) = ground
    s := by simp [setPart]
@[simp] theorem partArrived_ground (a0 : MPart) (a1 : List Byte) (s : State) : ground ((partArrived a0 a1 s).2) =
    ground s := by
  unfold partArrived
  (repeat' split) <;> simp [apply_ite ground, apply_ite Prod.snd]
theorem storePart_ok {part f off : Nat} {data : List Byte} {s t : State} (h : storePart part f off data s = .ok t) :
    ground t = ground s := by
  induction f generalizing off data s with
  | zero => simp [storePart] at h; rw [h]
  | succ n ih =>
    unfold storePart at h
    split at h
    · cases h; rfl
    · split at h
      · cases h
      · rename_i k u hs
        simp only [storeRecord_ok, Prod.ext_iff] at hs
        rw [ih h, ← hs.2.2]; simp
@[simp] theorem partDataRule_ground (a0 : Nat) (a1 : Nat) (a2 : List Byte) (s : State) : ground ((partDataRule a0 a1 a2
    s).2) = ground s := by
  unfold partDataRule
  dsimp only
  repeat' split
  all_goals first | rfl | skip
  all_goals (have := storePart_ok ‹_›; simp [this])
@[simp] theorem execPartDataWrite_ground (a0 : Port) (a1 : U40) (a2 : List Byte) (s : State) : ground ((after
    (execPartDataWrite a0 a1 a2 s) s)) = ground s := by simp [execPartDataWrite]
@[simp] theorem applyRule_ground (s : State) : ground ((applyRule s).2) = ground s := by
  unfold applyRule
  simp [apply_ite ground, apply_ite Prod.snd]
@[simp] theorem execApply_ground (a0 : Port) (s : State) : ground ((after (execApply a0 s) s)) = ground s :=
  by simp [execApply]
@[simp] theorem writeRuns_ground (a0 : Chan) (a1 : Nat) (a2 : List Byte) (a3 : List RestoreRun) (s : State) : ground
    (writeRuns a0 a1 a2 a3 s) = ground s := by simp [writeRuns]
@[simp] theorem partBase_ground (a0 : MPart) (s : State) : ground ((partBase a0 s).2) = ground s := by
  unfold partBase
  (repeat' (first | dsimp only | split)) <;> (try simp only [drbgGenerate_some, storeRecord_ok, Prod.ext_iff] at *) <;> (try casesm* _ ∧ _) <;>
    subst_vars <;> simp [*, apply_ite ground, apply_ite Prod.snd]
@[simp] theorem buildRuntime_ground (a0 : MPart) (a1 : List Byte) (s : State) : ground ((buildRuntime a0 a1 s).2) =
    ground s := by
  unfold buildRuntime
  simp only [apply_ite ground, apply_ite Prod.snd]
  (repeat' split) <;> simp [*]
@[simp] theorem buildLines_ground (a0 : MPart) (a1 : List Byte) (a2 : Option (Cs × PhysEnd)) (s : State) : ground
    ((buildLines a0 a1 a2 s).2) = ground s := by
  unfold buildLines
  dsimp only
  split
  · rfl
  · split
    · rfl
    · split
      · simp
      · split
        · simp
        · rename_i h
          simp only [storeRecord_ok, Prod.ext_iff] at h
          obtain ⟨_, _, rfl⟩ := h
          split <;> simp
@[simp] theorem buildPart_ground (a0 : MPart) (a1 : Option (Cs × PhysEnd)) (s : State) : ground ((buildPart a0 a1 s).2)
    = ground s := by
  unfold buildPart
  have h := partBase_ground a0 s
  split
  · simp_all
  · split
    · simp_all
    · split <;> simp_all
@[simp] theorem seedHold_ground (a0 : MPart) (s : State) : ground (seedHold a0 s) = ground s := by
  unfold seedHold
  simp [apply_ite ground, apply_ite Prod.snd]
@[simp] theorem partEnd_ground (a0 : MPart) (a1 : U8) (s : State) : ground (partEnd a0 a1 s) = ground s := by
  unfold partEnd
  simp [apply_ite ground, apply_ite Prod.snd]
@[simp] theorem execApplyPart_ground (a0 : Option (Cs × PhysEnd)) (s : State) : ground ((after (execApplyPart a0 s) s))
    = ground s := by
  unfold execApplyPart
  (repeat' split) <;> simp [apply_ite ground, apply_ite Prod.snd]
@[simp] theorem clearActivation_ground (a0 : List Nat) (s : State) : ground (clearActivation a0 s) = ground s :=
  by simp [clearActivation]
@[simp] theorem abortRule_ground (s : State) : ground ((abortRule s).2) = ground s := by
  unfold abortRule
  simp [apply_ite ground, apply_ite Prod.snd]
@[simp] theorem execAbort_ground (a0 : Port) (s : State) : ground ((after (execAbort a0 s) s)) = ground s :=
  by simp [execAbort]
@[simp] theorem holdAffected_ground (a0 : List Nat) (s : State) : ground (holdAffected a0 s) = ground s := by
  unfold holdAffected
  simp [apply_ite ground, apply_ite Prod.snd]
@[simp] theorem activateRule_ground (s : State) : ground ((activateRule s).2) = ground s := by
  unfold activateRule
  simp [apply_ite ground, apply_ite Prod.snd]
@[simp] theorem execActivate_ground (a0 : Port) (s : State) : ground ((after (execActivate a0 s) s)) = ground s :=
  by simp [execActivate]
@[simp] theorem dropTargeted_ground (a0 : Activation) (s : State) : ground (dropTargeted a0 s) = ground s :=
  by simp [dropTargeted]
@[simp] theorem switchRuntime_ground (a0 : Nat) (s : State) : ground (switchRuntime a0 s) = ground s := by
  unfold switchRuntime
  simp [apply_ite ground, apply_ite Prod.snd]
@[simp] theorem answerConfirm_ground (a0 : Activation) (a1 : U8) (s : State) : ground (answerConfirm a0 a1 s) = ground
    s := by
  unfold answerConfirm
  split <;> simp
@[simp] theorem stileCarried_ground (a0 : Activation) (a1 : List Byte) (s : State) : ground (stileCarried a0 a1 s) =
    ground s := by
  unfold stileCarried
  simp [apply_ite ground, apply_ite Prod.snd]
@[simp] theorem stileWritten_ground (a0 : StileJob) (s : State) : ground (stileWritten a0 s) = ground s := by
  unfold stileWritten
  simp only [apply_ite ground, apply_ite Prod.snd]
  (repeat' split) <;> simp [*]
@[simp] theorem stileFailed_ground (a0 : StileJob) (s : State) : ground (stileFailed a0 s) = ground s := by
  unfold stileFailed
  simp only [apply_ite ground, apply_ite Prod.snd]
  (repeat' split) <;> simp [*]
@[simp] theorem execStileWriteComplete_ground (a0 : WriteEnd) (s : State) : ground ((after (execStileWriteComplete a0
    s) s)) = ground s := by
  unfold execStileWriteComplete
  (repeat' split) <;> simp [apply_ite ground, apply_ite Prod.snd]
@[simp] theorem clearCovered_ground (a0 : Activation) (a1 : Nat) (s : State) : ground (clearCovered a0 a1 s) = ground s
    := by
  unfold clearCovered
  simp [apply_ite ground, apply_ite Prod.snd]
@[simp] theorem activationDone_ground (a0 : Activation) (s : State) : ground (activationDone a0 s) = ground s := by
  unfold activationDone
  simp [apply_ite ground, apply_ite Prod.snd]
@[simp] theorem execPreloadComplete_ground (a0 : Chan) (s : State) : ground ((after (execPreloadComplete a0 s) s)) =
    ground s := by
  unfold execPreloadComplete
  (repeat' split) <;> simp [apply_ite ground, apply_ite Prod.snd]
@[simp] theorem confirmStart_ground (a0 : Port) (s : State) : ground ((confirmStart a0 s).2) = ground s := by
  unfold confirmStart
  simp [apply_ite ground, apply_ite Prod.snd]
@[simp] theorem execConfirm_ground (a0 : Port) (s : State) : ground ((after (execConfirm a0 s) s)) = ground s := by
  unfold execConfirm
  (repeat' (first | dsimp only | split)) <;> (try simp only [drbgGenerate_some, storeRecord_ok, Prod.ext_iff] at *) <;> (try casesm* _ ∧ _) <;>
    subst_vars <;> simp [*, apply_ite ground, apply_ite Prod.snd]
@[simp] theorem endTrial_ground (a0 : U8) (a1 : U8) (s : State) : ground (endTrial a0 a1 s) = ground s := by
  unfold endTrial
  split <;> simp
@[simp] theorem revertRule_ground (s : State) : ground ((revertRule s).2) = ground s := by
  unfold revertRule
  simp [apply_ite ground, apply_ite Prod.snd]
@[simp] theorem execRevert_ground (a0 : Port) (s : State) : ground ((after (execRevert a0 s) s)) = ground s :=
  by simp [execRevert]
@[simp] theorem trialExpire_ground (s : State) : ground (trialExpire s) = ground s := by
  unfold trialExpire
  simp [apply_ite ground, apply_ite Prod.snd]
@[simp] theorem execTrialExpiry_ground (s : State) : ground ((after (execTrialExpiry s) s)) = ground s :=
  by simp [execTrialExpiry]

end Sys2Proof.Laws
end

