-- ==== Sys2Proof/Laws/GroundKeys.lean ====
section
/-! SUPPORT. What leaves the ground of a state as it is: keys, PKE, Heath and supervision. -/
namespace Sys2Proof.Laws
open Sys2Proof.Machine
set_option linter.unusedVariables false
set_option linter.unusedSimpArgs false
set_option linter.unnecessarySeqFocus false
set_option linter.unreachableTactic false
set_option linter.unusedTactic false
set_option maxRecDepth 4000

@[simp] theorem ksLoad_ground (a0 : Nat) (a1 : Nat) (a2 : Nat) (a3 : Nat) (a4 : List Byte) (s : State) : ground (ksLoad
    a0 a1 a2 a3 a4 s) = ground s := by simp [ksLoad]
@[simp] theorem ksDrop_ground (a0 : Nat) (s : State) : ground (ksDrop a0 s) = ground s := by simp [ksDrop]
@[simp] theorem ksGenerateRule_ground (a0 : Port) (s : State) : ground ((ksGenerateRule a0 s).2) = ground s := by
  unfold ksGenerateRule
  (repeat' (first | dsimp only | split)) <;> (try simp only [drbgGenerate_some, storeRecord_ok, Prod.ext_iff] at *) <;> (try casesm* _ ∧ _) <;>
    subst_vars <;> simp [*, apply_ite ground, apply_ite Prod.snd]
@[simp] theorem execKsGenerate_ground (a0 : Port) (s : State) : ground ((after (execKsGenerate a0 s) s)) = ground s :=
  by simp [execKsGenerate]
@[simp] theorem ksDeriveRule_ground (a0 : Port) (a1 : Nat) (s : State) : ground ((ksDeriveRule a0 a1 s).2) = ground s
    := by
  unfold ksDeriveRule
  simp [apply_ite ground, apply_ite Prod.snd]
@[simp] theorem execKsDerive_ground (a0 : Port) (a1 : U8) (s : State) : ground ((after (execKsDerive a0 a1 s) s)) =
    ground s := by simp [execKsDerive]
@[simp] theorem ksWrapRule_ground (a0 : Port) (a1 : Nat) (s : State) : ground ((ksWrapRule a0 a1 s).2) = ground s := by
  unfold ksWrapRule
  simp [apply_ite ground, apply_ite Prod.snd]
@[simp] theorem execKsWrap_ground (a0 : Port) (a1 : U8) (s : State) : ground ((after (execKsWrap a0 a1 s) s)) = ground
    s := by simp [execKsWrap]
@[simp] theorem ksUnwrapRule_ground (a0 : Port) (a1 : Nat) (s : State) : ground ((ksUnwrapRule a0 a1 s).2) = ground s
    := by
  unfold ksUnwrapRule
  simp only [apply_ite ground, apply_ite Prod.snd]
  (repeat' split) <;> simp [*]
@[simp] theorem execKsUnwrap_ground (a0 : Port) (a1 : U8) (s : State) : ground ((after (execKsUnwrap a0 a1 s) s)) =
    ground s := by simp [execKsUnwrap]
@[simp] theorem ksImportRule_ground (a0 : Port) (s : State) : ground ((ksImportRule a0 s).2) = ground s := by
  unfold ksImportRule
  simp [apply_ite ground, apply_ite Prod.snd]
@[simp] theorem execKsImportPlain_ground (a0 : Port) (s : State) : ground ((after (execKsImportPlain a0 s) s)) = ground
    s := by simp [execKsImportPlain]
@[simp] theorem ksClearRule_ground (a0 : Port) (s : State) : ground ((ksClearRule a0 s).2) = ground s := by
  unfold ksClearRule
  simp [apply_ite ground, apply_ite Prod.snd]
@[simp] theorem execKsClear_ground (a0 : Port) (s : State) : ground ((after (execKsClear a0 s) s)) = ground s :=
  by simp [execKsClear]
@[simp] theorem certificate_ground (a0 : Nat) (a1 : List Byte) (a2 : List Byte) (s : State) : ground ((certificate a0
    a1 a2 s).2) = ground s := by simp [certificate]
@[simp] theorem buildAliasCert_ground (s : State) : ground (buildAliasCert s) = ground s := by simp [buildAliasCert]
@[simp] theorem deriveAlias_ground (s : State) : ground (deriveAlias s) = ground s := by simp [deriveAlias]
@[simp] theorem deriveKeys_ground (s : State) : ground (deriveKeys s) = ground s := by
  unfold deriveKeys
  simp [apply_ite ground, apply_ite Prod.snd]
@[simp] theorem keysLoaded_ground (a0 : List Byte) (s : State) : ground (keysLoaded a0 s) = ground s :=
  by simp [keysLoaded]
@[simp] theorem keysLost_ground (s : State) : ground (keysLost s) = ground s := by simp [keysLost]
@[simp] theorem dssLoad_ground (s : State) : ground (dssLoad s) = ground s := by
  unfold dssLoad
  (repeat' split) <;> simp [apply_ite ground, apply_ite Prod.snd]
@[simp] theorem keysBack_ground (s : State) : ground (keysBack s) = ground s := by
  unfold keysBack
  simp [apply_ite ground, apply_ite Prod.snd]
@[simp] theorem keyReloadRule_ground (s : State) : ground ((keyReloadRule s).2) = ground s := by
  unfold keyReloadRule
  (repeat' split) <;> simp [apply_ite ground, apply_ite Prod.snd]
@[simp] theorem execKeyReload_ground (a0 : Port) (s : State) : ground ((after (execKeyReload a0 s) s)) = ground s :=
  by simp [execKeyReload]
@[simp] theorem wireFresh_ground (a0 : Nat) (a1 : Option Window) (s : State) : ground ((wireFresh a0 a1 s).2) = ground
    s := by
  unfold wireFresh
  (repeat' split) <;> simp [apply_ite ground, apply_ite Prod.snd]
@[simp] theorem dssProvisionRule_ground (a0 : Nat) (a1 : Option Window) (a2 : Bool) (s : State) : ground
    ((dssProvisionRule a0 a1 a2 s).2) = ground s := by
  unfold dssProvisionRule
  (repeat' (first | dsimp only | split)) <;> (try simp only [drbgGenerate_some, storeRecord_ok, Prod.ext_iff] at *) <;> (try casesm* _ ∧ _) <;>
    subst_vars <;> simp [*, apply_ite ground, apply_ite Prod.snd]
@[simp] theorem execDssProvision_ground (a0 : Port) (a1 : U8) (a2 : Option Window) (a3 : Bool) (s : State) : ground
    ((after (execDssProvision a0 a1 a2 a3 s) s)) = ground s := by simp [execDssProvision]
@[simp] theorem eraseKeys_ground (a0 : Bool) (s : State) : ground (eraseKeys a0 s) = ground s := by
  unfold eraseKeys
  simp [apply_ite ground, apply_ite Prod.snd]
@[simp] theorem modPk_ground (a0 : Port) (a1 : PkPort → PkPort) (s : State) : ground (modPk a0 a1 s) = ground s :=
  by simp [modPk]
@[simp] theorem pkLimbsRule_ground (a0 : Port) (a1 : U8) (s : State) : ground ((pkLimbsRule a0 a1 s).2) = ground s := by
  unfold pkLimbsRule
  simp [apply_ite ground, apply_ite Prod.snd]
@[simp] theorem execPkSlotLimbsWrite_ground (a0 : Port) (a1 : U8) (s : State) : ground ((after (execPkSlotLimbsWrite a0
    a1 s) s)) = ground s := by simp [execPkSlotLimbsWrite]
@[simp] theorem pkWipeRule_ground (a0 : Port) (s : State) : ground ((pkWipeRule a0 s).2) = ground s := by
  unfold pkWipeRule
  simp [apply_ite ground, apply_ite Prod.snd]
@[simp] theorem execPkWipe_ground (a0 : Port) (s : State) : ground ((after (execPkWipe a0 s) s)) = ground s :=
  by simp [execPkWipe]
@[simp] theorem pkBufRule_ground (a0 : Port) (a1 : Nat) (a2 : List Byte) (s : State) : ground ((pkBufRule a0 a1 a2
    s).2) = ground s := by
  unfold pkBufRule
  simp [apply_ite ground, apply_ite Prod.snd]
@[simp] theorem execPkBufWrite_ground (a0 : Port) (a1 : U40) (a2 : List Byte) (s : State) : ground ((after
    (execPkBufWrite a0 a1 a2 s) s)) = ground s := by simp [execPkBufWrite]
@[simp] theorem pkSubmitRule_ground (a0 : Port) (a1 : Nat) (a2 : PkWord) (s : State) : ground ((pkSubmitRule a0 a1 a2
    s).2) = ground s := by
  unfold pkSubmitRule
  (repeat' split) <;> simp [apply_ite ground, apply_ite Prod.snd]
@[simp] theorem pkSubmit_ground (a0 : Port) (a1 : Nat) (a2 : PkWord) (s : State) : ground ((after (pkSubmit a0 a1 a2 s)
    s)) = ground s := by simp [pkSubmit]
@[simp] theorem execAdd_ground (a0 : Port) (a1 : PkWord) (s : State) : ground ((after (execAdd a0 a1 s) s)) = ground s
    := by simp [execAdd]
@[simp] theorem execSub_ground (a0 : Port) (a1 : PkWord) (s : State) : ground ((after (execSub a0 a1 s) s)) = ground s
    := by simp [execSub]
@[simp] theorem execMul_ground (a0 : Port) (a1 : PkWord) (s : State) : ground ((after (execMul a0 a1 s) s)) = ground s
    := by simp [execMul]
@[simp] theorem execInv_ground (a0 : Port) (a1 : PkWord) (s : State) : ground ((after (execInv a0 a1 s) s)) = ground s
    := by simp [execInv]
@[simp] theorem execExp_ground (a0 : Port) (a1 : PkWord) (s : State) : ground ((after (execExp a0 a1 s) s)) = ground s
    := by simp [execExp]
@[simp] theorem execExpv_ground (a0 : Port) (a1 : PkWord) (s : State) : ground ((after (execExpv a0 a1 s) s)) = ground
    s := by simp [execExpv]
@[simp] theorem execReduce_ground (a0 : Port) (a1 : PkWord) (s : State) : ground ((after (execReduce a0 a1 s) s)) =
    ground s := by simp [execReduce]
@[simp] theorem execLoad_ground (a0 : Port) (a1 : PkWord) (s : State) : ground ((after (execLoad a0 a1 s) s)) = ground
    s := by simp [execLoad]
@[simp] theorem execStore_ground (a0 : Port) (a1 : PkWord) (s : State) : ground ((after (execStore a0 a1 s) s)) =
    ground s := by simp [execStore]
@[simp] theorem execCompare_ground (a0 : Port) (a1 : PkWord) (s : State) : ground ((after (execCompare a0 a1 s) s)) =
    ground s := by simp [execCompare]
@[simp] theorem execKeyload_ground (a0 : Port) (a1 : PkWord) (s : State) : ground ((after (execKeyload a0 a1 s) s)) =
    ground s := by simp [execKeyload]
@[simp] theorem execKeypub_ground (a0 : Port) (a1 : PkWord) (s : State) : ground ((after (execKeypub a0 a1 s) s)) =
    ground s := by simp [execKeypub]
@[simp] theorem execRand_ground (a0 : Port) (a1 : PkWord) (s : State) : ground ((after (execRand a0 a1 s) s)) = ground
    s := by simp [execRand]
@[simp] theorem execSeal_ground (a0 : Port) (a1 : PkWord) (s : State) : ground ((after (execSeal a0 a1 s) s)) = ground
    s := by simp [execSeal]
@[simp] theorem execVerify_ground (a0 : Port) (a1 : PkWord) (s : State) : ground ((after (execVerify a0 a1 s) s)) =
    ground s := by simp [execVerify]
@[simp] theorem execVerifyGate_ground (a0 : Port) (a1 : PkWord) (s : State) : ground ((after (execVerifyGate a0 a1 s)
    s)) = ground s := by simp [execVerifyGate]
@[simp] theorem execToKey_ground (a0 : Port) (a1 : PkWord) (s : State) : ground ((after (execToKey a0 a1 s) s)) =
    ground s := by simp [execToKey]
@[simp] theorem retirePke_ground (a0 : Nat) (s : State) : ground (retirePke a0 s) = ground s := by simp [retirePke]
@[simp] theorem chargePke_ground (s : State) : ground (chargePke s) = ground s := by
  unfold chargePke
  simp [apply_ite ground, apply_ite Prod.snd]
@[simp] theorem pkEnd_ground (a0 : PkEntry) (a1 : U8) (a2 : Nat) (s : State) : ground (pkEnd a0 a1 a2 s) = ground s := by
  unfold pkEnd
  simp [apply_ite ground, apply_ite Prod.snd]
@[simp] theorem execPkCommandDispatch_ground (s : State) : ground ((after (execPkCommandDispatch s) s)) = ground s := by
  unfold execPkCommandDispatch
  simp only [apply_ite ground, apply_ite Prod.snd]
  (repeat' split) <;> simp [*]
@[simp] theorem pkRun_ground (a0 : PkEntry) (s : State) : ground ((pkRun a0 s).2.2) = ground s := by
  unfold pkRun
  dsimp only
  split
  all_goals first | (simp; done) | skip
  all_goals (have := wireGenerate_ground 3 (5 * (pkPort s a0.port).limbs.toNat + 8) s; split <;> simp_all; done)
@[simp] theorem execPkCommandComplete_ground (s : State) : ground ((after (execPkCommandComplete s) s)) = ground s := by
  unfold execPkCommandComplete
  split <;> simp
@[simp] theorem execPkeParityError_ground (s : State) : ground ((after (execPkeParityError s) s)) = ground s := by
  unfold execPkeParityError
  split <;> simp
@[simp] theorem pkeCoreReset_ground (s : State) : ground (pkeCoreReset s) = ground s := by simp [pkeCoreReset]
@[simp] theorem erasePke_ground (s : State) : ground (erasePke s) = ground s := by
  unfold erasePke
  split <;> simp
@[simp] theorem tamperErase_ground (a0 : Bool) (s : State) : ground (tamperErase a0 s) = ground s := by simp [tamperErase]
@[simp] theorem journalSession_ground (a0 : U32) (a1 : Nat) (s : State) : ground (journalSession a0 a1 s) = ground s :=
  by simp [journalSession]
@[simp] theorem endSessions_ground (s : State) : ground (endSessions s) = ground s := by simp [endSessions]
@[simp] theorem recordAlarm_ground (a0 : Bool) (a1 : Bool) (a2 : Nat) (a3 : Nat) (s : State) : ground (recordAlarm a0
    a1 a2 a3 s) = ground s := by
  unfold recordAlarm
  simp [apply_ite ground, apply_ite Prod.snd]
@[simp] theorem eraseCell_ground (s : State) : ground (eraseCell s) = ground s := by simp [eraseCell]
@[simp] theorem eraseAll_ground (a0 : Bool) (s : State) : ground (eraseAll a0 s) = ground s := by simp [eraseAll]
@[simp] theorem tamperAll_ground (s : State) : ground (tamperAll s) = ground s := by simp [tamperAll]
@[simp] theorem heathHold_ground (s : State) : ground (heathHold s) = ground s := by
  unfold heathHold
  simp [apply_ite ground, apply_ite Prod.snd]
@[simp] theorem heathExecute_ground (a0 : List (Nat × Nat)) (s : State) : ground (heathExecute a0 s) = ground s := by
  unfold heathExecute
  simp [apply_ite ground, apply_ite Prod.snd]
@[simp] theorem gapCount_ground (a0 : Nat) (s : State) : ground (gapCount a0 s) = ground s := by simp [gapCount]
@[simp] theorem execHeathSampleTick_ground (a0 : HeathSample) (s : State) : ground ((after (execHeathSampleTick a0 s)
    s)) = ground s := by
  unfold execHeathSampleTick
  (repeat' split) <;> simp [apply_ite ground, apply_ite Prod.snd]
@[simp] theorem execMonitorWindowExpiry_ground (a0 : Fin 10) (s : State) : ground ((after (execMonitorWindowExpiry a0
    s) s)) = ground s := by
  unfold execMonitorWindowExpiry
  split <;> simp
@[simp] theorem execHeathOscMeasure_ground (a0 : U32) (s : State) : ground ((after (execHeathOscMeasure a0 s) s)) =
    ground s := by
  unfold execHeathOscMeasure
  split <;> simp
@[simp] theorem tamperClearRule_ground (s : State) : ground ((tamperClearRule s).2) = ground s := by
  unfold tamperClearRule
  simp [apply_ite ground, apply_ite Prod.snd]
@[simp] theorem execTamperClear_ground (a0 : Port) (s : State) : ground ((after (execTamperClear a0 s) s)) = ground s :=
  by simp [execTamperClear]
@[simp] theorem cellArmRule_ground (s : State) : ground ((cellArmRule s).2) = ground s := by
  unfold cellArmRule
  (repeat' (first | dsimp only | split)) <;> (try simp only [drbgGenerate_some, storeRecord_ok, Prod.ext_iff] at *) <;> (try casesm* _ ∧ _) <;>
    subst_vars <;> simp [*, apply_ite ground, apply_ite Prod.snd]
@[simp] theorem execCellArm_ground (a0 : Port) (s : State) : ground ((after (execCellArm a0 s) s)) = ground s :=
  by simp [execCellArm]
@[simp] theorem heathLockRule_ground (s : State) : ground ((heathLockRule s).2) = ground s := by simp [heathLockRule]
@[simp] theorem execHeathLock_ground (a0 : Port) (s : State) : ground ((after (execHeathLock a0 s) s)) = ground s :=
  by simp [execHeathLock]
@[simp] theorem heathStep_ground (s : State) : ground (heathStep s) = ground s := by
  unfold heathStep
  simp [apply_ite ground, apply_ite Prod.snd]
@[simp] theorem heathFromNothing_ground (a0 : Bool) (s : State) : ground (heathFromNothing a0 s) = ground s :=
  by simp [heathFromNothing]
@[simp] theorem execHeathPowerLoss_ground (s : State) : ground ((after (execHeathPowerLoss s) s)) = ground s := by
  unfold execHeathPowerLoss
  split <;> simp
@[simp] theorem execHeathPowerUp_ground (s : State) : ground ((after (execHeathPowerUp s) s)) = ground s := by
  unfold execHeathPowerUp
  split <;> simp
@[simp] theorem cuReplace_ground (s : State) : ground (cuReplace s) = ground s := by
  unfold cuReplace
  (repeat' split) <;> simp [apply_ite ground, apply_ite Prod.snd]
@[simp] theorem coreDrop_ground (s : State) : ground (coreDrop s) = ground s := by
  unfold coreDrop
  simp [apply_ite ground, apply_ite Prod.snd]
@[simp] theorem journalReset_ground (s : State) : ground (journalReset s) = ground s := by simp [journalReset]
@[simp] theorem coreReset_ground (a0 : Nat) (s : State) : ground (coreReset a0 s) = ground s := by
  unfold coreReset
  simp [apply_ite ground, apply_ite Prod.snd]
@[simp] theorem wdEvidence_ground (a0 : Nat) (s : State) : ground (wdEvidence a0 s) = ground s := by simp [wdEvidence]
@[simp] theorem wdBite_ground (a0 : Nat) (s : State) : ground (wdBite a0 s) = ground s := by
  unfold wdBite
  simp [apply_ite ground, apply_ite Prod.snd]
@[simp] theorem execWdBite_ground (s : State) : ground ((after (execWdBite s) s)) = ground s := by
  unfold execWdBite
  split <;> simp
@[simp] theorem wdCheckinRule_ground (a0 : Nat) (s : State) : ground ((wdCheckinRule a0 s).2) = ground s := by
  unfold wdCheckinRule
  simp [apply_ite ground, apply_ite Prod.snd]
@[simp] theorem execWdCheckin_ground (a0 : Port) (a1 : U8) (s : State) : ground ((after (execWdCheckin a0 a1 s) s)) =
    ground s := by simp [execWdCheckin]
@[simp] theorem wdServiceRule_ground (a0 : U16) (s : State) : ground ((wdServiceRule a0 s).2) = ground s := by
  unfold wdServiceRule
  simp [apply_ite ground, apply_ite Prod.snd]
@[simp] theorem execWdService_ground (a0 : Port) (a1 : U16) (s : State) : ground ((after (execWdService a0 a1 s) s)) =
    ground s := by simp [execWdService]
@[simp] theorem wdLockRule_ground (s : State) : ground ((wdLockRule s).2) = ground s := by
  unfold wdLockRule
  simp [apply_ite ground, apply_ite Prod.snd]
@[simp] theorem execWdLock_ground (a0 : Port) (s : State) : ground ((after (execWdLock a0 s) s)) = ground s :=
  by simp [execWdLock]
@[simp] theorem coreFault_ground (a0 : Nat) (a1 : Nat) (s : State) : ground (coreFault a0 a1 s) = ground s := by
  unfold coreFault
  simp [apply_ite ground, apply_ite Prod.snd]
@[simp] theorem execLockstepMismatch_ground (s : State) : ground ((after (execLockstepMismatch s) s)) = ground s := by
  unfold execLockstepMismatch
  split <;> simp
@[simp] theorem execSramDed_ground (s : State) : ground ((after (execSramDed s) s)) = ground s := by
  unfold execSramDed
  split <;> simp
@[simp] theorem cuAllocRule_ground (a0 : Port) (s : State) : ground ((cuAllocRule a0 s).2) = ground s := by
  unfold cuAllocRule
  simp only [apply_ite ground, apply_ite Prod.snd]
  (repeat' split) <;> simp [*]
@[simp] theorem execCuAlloc_ground (a0 : Port) (s : State) : ground ((after (execCuAlloc a0 s) s)) = ground s :=
  by simp [execCuAlloc]
@[simp] theorem cuWriteRule_ground (a0 : Fin 8) (a1 : Nat) (a2 : List Byte) (s : State) : ground ((cuWriteRule a0 a1 a2
    s).2) = ground s := by
  unfold cuWriteRule
  simp [apply_ite ground, apply_ite Prod.snd]
@[simp] theorem cuStartRule_ground (a0 : Fin 8) (s : State) : ground ((cuStartRule a0 s).2) = ground s := by
  unfold cuStartRule
  simp [apply_ite ground, apply_ite Prod.snd]
@[simp] theorem execCuStart_ground (a0 : Port) (a1 : Fin 8) (s : State) : ground ((after (execCuStart a0 a1 s) s)) =
    ground s := by simp [execCuStart]
@[simp] theorem cuFeedRule_ground (a0 : Fin 8) (a1 : List Byte) (s : State) : ground ((cuFeedRule a0 a1 s).2) = ground
    s := by
  unfold cuFeedRule
  simp [apply_ite ground, apply_ite Prod.snd]
@[simp] theorem execCuFeed8_ground (a0 : Port) (a1 : Fin 8) (a2 : U8) (s : State) : ground ((after (execCuFeed8 a0 a1
    a2 s) s)) = ground s := by simp [execCuFeed8]
@[simp] theorem execCuFeed16_ground (a0 : Port) (a1 : Fin 8) (a2 : U16) (s : State) : ground ((after (execCuFeed16 a0
    a1 a2 s) s)) = ground s := by simp [execCuFeed16]
@[simp] theorem execCuFeed40_ground (a0 : Port) (a1 : Fin 8) (a2 : U40) (s : State) : ground ((after (execCuFeed40 a0
    a1 a2 s) s)) = ground s := by simp [execCuFeed40]
@[simp] theorem execCuFeedBlock_ground (a0 : Port) (a1 : Fin 8) (a2 : List Byte) (s : State) : ground ((after
    (execCuFeedBlock a0 a1 a2 s) s)) = ground s := by simp [execCuFeedBlock]
@[simp] theorem cuFinishRule_ground (a0 : Fin 8) (s : State) : ground ((cuFinishRule a0 s).2) = ground s := by
  unfold cuFinishRule
  simp [apply_ite ground, apply_ite Prod.snd]
@[simp] theorem execCuFinish_ground (a0 : Port) (a1 : Fin 8) (s : State) : ground ((after (execCuFinish a0 a1 s) s)) =
    ground s := by simp [execCuFinish]
@[simp] theorem cuReleaseRule_ground (a0 : Fin 8) (s : State) : ground ((cuReleaseRule a0 s).2) = ground s := by
  unfold cuReleaseRule
  simp [apply_ite ground, apply_ite Prod.snd]
@[simp] theorem execCuRelease_ground (a0 : Port) (a1 : Fin 8) (s : State) : ground ((after (execCuRelease a0 a1 s) s))
    = ground s := by simp [execCuRelease]
@[simp] theorem retireCu_ground (a0 : Fin 8) (a1 : Nat) (s : State) : ground (retireCu a0 a1 s) = ground s := by
  unfold retireCu
  simp [apply_ite ground, apply_ite Prod.snd]
@[simp] theorem execCuParityError_ground (a0 : Fin 8) (s : State) : ground ((after (execCuParityError a0 s) s)) =
    ground s := by
  unfold execCuParityError
  simp only [apply_ite ground, apply_ite Prod.snd]
  (repeat' split) <;> simp [*]

end Sys2Proof.Laws
end

