-- ==== Sys2Proof/Laws/GroundBoot.lean ====
section
/-! SUPPORT. What leaves the ground of a state as it is: clock, life cycle and boot. -/
namespace Sys2Proof.Laws
open Sys2Proof.Machine
set_option linter.unusedVariables false
set_option linter.unusedSimpArgs false
set_option linter.unnecessarySeqFocus false
set_option linter.unreachableTactic false
set_option linter.unusedTactic false
set_option maxRecDepth 4000

@[simp] theorem stopRead_ground (a0 : Chan) (s : State) : ground (stopRead a0 s) = ground s := by
  unfold stopRead
  split <;> simp
@[simp] theorem failRead_ground (a0 : Chan) (s : State) : ground (failRead a0 s) = ground s := by
  unfold failRead
  split <;> simp
@[simp] theorem execPaceRefresh_ground (a0 : U16) (s : State) : ground ((after (execPaceRefresh a0 s) s)) = ground s := by
  unfold execPaceRefresh
  (repeat' (first | dsimp only | split)) <;> simp [apply_ite ground, apply_ite Prod.snd]
@[simp] theorem execSensorRefresh_ground (a0 : List Int) (a1 : List U16) (s : State) : ground ((after
    (execSensorRefresh a0 a1 s) s)) = ground s := by
  unfold execSensorRefresh
  split <;> simp
@[simp] theorem storedDouble_ground (a0 : Fin 8) (a1 : Nat) (s : State) : ground (storedDouble a0 a1 s) = ground s := by
  unfold storedDouble
  (repeat' split) <;> simp [apply_ite ground, apply_ite Prod.snd]
@[simp] theorem execScrubRead_ground (a0 : Option CodeWord) (s : State) : ground ((after (execScrubRead a0 s) s)) =
    ground s := by
  unfold execScrubRead
  (repeat' split) <;> simp [apply_ite ground, apply_ite Prod.snd]
@[simp] theorem opExpire_ground (a0 : Chan) (a1 : Fin 14) (s : State) : ground (opExpire a0 a1 s) = ground s := by
  unfold opExpire
  (repeat' split) <;> simp [apply_ite ground, apply_ite Prod.snd]
@[simp] theorem dropPartial_ground (a0 : MPort) (s : State) : ground (dropPartial a0 s) = ground s :=
  by simp [dropPartial]
@[simp] theorem assemblyExpire_ground (a0 : MPort) (s : State) : ground (assemblyExpire a0 s) = ground s := by
  unfold assemblyExpire
  simp [apply_ite ground, apply_ite Prod.snd]
@[simp] theorem execTimeoutExpiry_ground (a0 : Fin 14) (a1 : Chan) (s : State) : ground ((after (execTimeoutExpiry a0
    a1 s) s)) = ground s := by
  unfold execTimeoutExpiry
  (repeat' split) <;> simp [apply_ite ground, apply_ite Prod.snd]
@[simp] theorem countLate_ground (a0 : Fin 14) (a1 : Chan) (s : State) : ground (countLate a0 a1 s) = ground s := by
  unfold countLate
  simp [apply_ite ground, apply_ite Prod.snd]
@[simp] theorem execLateArrival_ground (a0 : Fin 14) (a1 : Chan) (s : State) : ground ((after (execLateArrival a0 a1 s)
    s)) = ground s := by
  unfold execLateArrival
  simp only [apply_ite ground, apply_ite Prod.snd]
  (repeat' split) <;> simp [*]
@[simp] theorem enterReturned_ground (s : State) : ground (enterReturned s) = ground s := by
  unfold enterReturned
  simp only [apply_ite ground, apply_ite Prod.snd]
  (repeat' split) <;> simp [*]
@[simp] theorem enterScrapped_ground (s : State) : ground (enterScrapped s) = ground s := by
  unfold enterScrapped
  simp [apply_ite ground, apply_ite Prod.snd]
@[simp] theorem lcEffects_ground (a0 : Nat) (s : State) : ground (lcEffects a0 s) = ground s := by
  unfold lcEffects
  split <;> simp
@[simp] theorem lcBurn_ground (a0 : Nat) (s : State) : ground (lcBurn a0 s) = ground s := by simp [lcBurn]
@[simp] theorem lcSet_ground (a0 : Nat) (s : State) : ground (lcSet a0 s) = ground s := by
  unfold lcSet
  simp [apply_ite ground, apply_ite Prod.snd]
@[simp] theorem lcDecide_ground (s : State) : ground ((lcDecide s).2) = ground s := by
  unfold lcDecide
  split <;> simp
@[simp] theorem newChallenge_ground (a0 : Nat) (s : State) : ground ((newChallenge a0 s).2) = ground s := by
  unfold newChallenge
  (repeat' (first | dsimp only | split)) <;> (try simp only [drbgGenerate_some, storeRecord_ok, Prod.ext_iff] at *) <;> (try casesm* _ ∧ _) <;>
    subst_vars <;> simp [*, apply_ite ground, apply_ite Prod.snd]
@[simp] theorem challengeRule_ground (a0 : Port) (s : State) : ground ((challengeRule a0 s).2.2) = ground s := by
  unfold challengeRule
  (repeat' (first | dsimp only | split)) <;> (try simp only [drbgGenerate_some, storeRecord_ok, Prod.ext_iff] at *) <;> (try casesm* _ ∧ _) <;>
    subst_vars <;> simp [*, apply_ite ground, apply_ite Prod.snd]
@[simp] theorem execChallenge_ground (a0 : Port) (s : State) : ground ((after (execChallenge a0 s) s)) = ground s :=
  by simp [execChallenge]
@[simp] theorem tokenCheck_ground (a0 : Nat) (a1 : Nat) (a2 : List Byte) (s : State) : ground ((tokenCheck a0 a1 a2
    s).2) = ground s := by simp [tokenCheck]
@[simp] theorem unlockRule_ground (a0 : Nat) (a1 : List Byte) (s : State) : ground ((unlockRule a0 a1 s).2) = ground s
    := by
  unfold unlockRule
  simp only [apply_ite ground, apply_ite Prod.snd]
  (repeat' split) <;> simp [*]
@[simp] theorem execDbgUnlock_ground (a0 : Port) (s : State) : ground ((after (execDbgUnlock a0 s) s)) = ground s :=
  by simp [execDbgUnlock]
@[simp] theorem lcTransit_ground (a0 : Nat) (s : State) : ground ((lcTransit a0 s).2) = ground s := by
  unfold lcTransit
  simp [apply_ite ground, apply_ite Prod.snd]
@[simp] theorem lcAdvanceRule_ground (a0 : Port) (a1 : Nat) (s : State) : ground ((lcAdvanceRule a0 a1 s).2) = ground s
    := by
  unfold lcAdvanceRule
  simp only [apply_ite ground, apply_ite Prod.snd]
  (repeat' split) <;> simp [*]
@[simp] theorem execLcAdvance_ground (a0 : Port) (a1 : U8) (s : State) : ground ((after (execLcAdvance a0 a1 s) s)) =
    ground s := by simp [execLcAdvance]
@[simp] theorem lcScrapRule_ground (a0 : Nat) (s : State) : ground ((lcScrapRule a0 s).2) = ground s := by
  unfold lcScrapRule
  simp [apply_ite ground, apply_ite Prod.snd]
@[simp] theorem execLcScrap_ground (a0 : Port) (a1 : U40) (s : State) : ground ((after (execLcScrap a0 a1 s) s)) =
    ground s := by simp [execLcScrap]
@[simp] theorem keyBurnRule_ground (a0 : Port) (a1 : Bool) (s : State) : ground ((keyBurnRule a0 a1 s).2) = ground s := by
  unfold keyBurnRule
  simp [apply_ite ground, apply_ite Prod.snd]
@[simp] theorem execKeyBurn_ground (a0 : Port) (a1 : Bool) (s : State) : ground ((after (execKeyBurn a0 a1 s) s)) =
    ground s := by simp [execKeyBurn]
@[simp] theorem keyRevokeRule_ground (a0 : Nat) (s : State) : ground ((keyRevokeRule a0 s).2) = ground s := by
  unfold keyRevokeRule
  simp [apply_ite ground, apply_ite Prod.snd]
@[simp] theorem execKeyRevoke_ground (a0 : Port) (a1 : U8) (s : State) : ground ((after (execKeyRevoke a0 a1 s) s)) =
    ground s := by simp [execKeyRevoke]
@[simp] theorem fuseBurnRule_ground (s : State) : ground ((fuseBurnRule s).2) = ground s := by
  unfold fuseBurnRule
  simp [apply_ite ground, apply_ite Prod.snd]
@[simp] theorem execFuseBurn_ground (a0 : Port) (s : State) : ground ((after (execFuseBurn a0 s) s)) = ground s :=
  by simp [execFuseBurn]
@[simp] theorem tapSelect_ground (a0 : Nat) (a1 : List Byte) (s : State) : ground (tapSelect a0 a1 s) = ground s :=
  by simp [tapSelect]
@[simp] theorem tapBypass_ground (a0 : Nat) (s : State) : ground (tapBypass a0 s) = ground s := by simp [tapBypass]
@[simp] theorem execTapReset_ground (s : State) : ground ((after (execTapReset s) s)) = ground s := by simp [execTapReset]
@[simp] theorem execExtest_ground (a0 : List Bool) (s : State) : ground ((after (execExtest a0 s) s)) = ground s := by
  unfold execExtest
  split <;> simp
@[simp] theorem execSamplePreload_ground (a0 : List Bool) (s : State) : ground ((after (execSamplePreload a0 s) s)) =
    ground s := by simp [execSamplePreload]
@[simp] theorem execIdcode_ground (s : State) : ground ((after (execIdcode s) s)) = ground s := by simp [execIdcode]
@[simp] theorem execTapChallenge_ground (s : State) : ground ((after (execTapChallenge s) s)) = ground s := by
  unfold execTapChallenge
  (repeat' (first | dsimp only | split)) <;> (try simp only [drbgGenerate_some, storeRecord_ok, Prod.ext_iff] at *) <;> (try casesm* _ ∧ _) <;>
    subst_vars <;> simp [*, apply_ite ground, apply_ite Prod.snd]
@[simp] theorem execTapToken_ground (a0 : List Byte) (s : State) : ground ((after (execTapToken a0 s) s)) = ground s := by
  unfold execTapToken
  simp only [apply_ite ground, apply_ite Prod.snd]
  (repeat' split) <;> simp [*]
@[simp] theorem execDbgResult_ground (s : State) : ground ((after (execDbgResult s) s)) = ground s := by
  unfold execDbgResult
  split <;> simp
@[simp] theorem execCoreDebug_ground (s : State) : ground ((after (execCoreDebug s) s)) = ground s := by
  unfold execCoreDebug
  split <;> simp
@[simp] theorem execBypass_ground (s : State) : ground ((after (execBypass s) s)) = ground s := by simp [execBypass]
@[simp] theorem deviceResetRule_ground (s : State) : ground ((deviceResetRule s).2) = ground s :=
  by simp [deviceResetRule]
@[simp] theorem execDeviceReset_ground (a0 : Port) (s : State) : ground ((after (execDeviceReset a0 s) s)) = ground s :=
  by simp [execDeviceReset]
@[simp] theorem katConsequence_ground (a0 : List KatFail) (a1 : Nat) (s : State) : ground (katConsequence a0 a1 s) =
    ground s := by
  unfold katConsequence
  (repeat' split) <;> simp [apply_ite ground, apply_ite Prod.snd]
@[simp] theorem katTest_ground (a0 : List KatFail) (s : State) (a2 : Nat) : ground (katTest a0 s a2) = ground s := by
  unfold katTest
  simp [apply_ite ground, apply_ite Prod.snd]
@[simp] theorem startupRun_ground (a0 : Nat) (a1 : List Window) (s : State) : ground ((startupRun a0 a1 s).2) = ground
    s := by
  induction a1 generalizing s with
  | nil => rfl
  | cons e es ih => unfold startupRun; (repeat' (first | dsimp only | split)) <;> simp_all [apply_ite ground]
@[simp] theorem startupPair_ground (a0 : List Window) (a1 : List Window) (s : State) : ground ((startupPair a0 a1 s).2)
    = ground s := by
  induction a0 generalizing a1 s with
  | nil => unfold startupPair; simp
  | cons e es ih => cases a1 <;> unfold startupPair <;> (repeat' (first | dsimp only | split)) <;> simp_all
@[simp] theorem bringUp_ground (a0 : Nat) (a1 : List VaultTry) (s : State) : ground ((bringUp a0 a1 s).2) = ground s := by
  induction a1 generalizing a0 s with
  | nil => unfold bringUp; rfl
  | cons e es ih => cases e <;> unfold bringUp <;> (repeat' (first | dsimp only | split)) <;> simp_all
@[simp] theorem acceptCopy_ground (a0 : Nat) (s : State) : ground (acceptCopy a0 s) = ground s := by simp [acceptCopy]
@[simp] theorem rtImageRule_ground (a0 : Nat) (a1 : List Byte) (s : State) : ground ((rtImageRule a0 a1 s).2) = ground
    s := by
  unfold rtImageRule
  simp [apply_ite ground, apply_ite Prod.snd]
@[simp] theorem execRtImageWrite_ground (a0 : Port) (a1 : U40) (a2 : List Byte) (s : State) : ground ((after
    (execRtImageWrite a0 a1 a2 s) s)) = ground s := by simp [execRtImageWrite]
@[simp] theorem rtInstallRule_ground (s : State) : ground ((rtInstallRule s).2) = ground s := by
  unfold rtInstallRule
  simp only [apply_ite ground, apply_ite Prod.snd]
  (repeat' split) <;> simp [*]
@[simp] theorem execRtInstall_ground (a0 : Port) (s : State) : ground ((after (execRtInstall a0 s) s)) = ground s :=
  by simp [execRtInstall]
@[simp] theorem applyScratch_ground (a0 : Chan) (a1 : Cs) (a2 : Bool) (s : State) : ground (applyScratch a0 a1 a2 s) =
    ground s := by
  unfold applyScratch
  split
  · rfl
  · split
    · rfl
    · split <;> simp
@[simp] theorem bootDiscover_ground (a0 : List Found) (a1 : List Chan) (a2 : Chan) (s : State) : ground (bootDiscover
    a0 a1 a2 s) = ground s := by simp [bootDiscover]
@[simp] theorem readCounters_ground (s : State) : ground (readCounters s) = ground s := by
  unfold readCounters
  split <;> simp
@[simp] theorem pickConfig_ground (a0 : List (Nat × Nat × Nat × Nat)) (s : State) : ground ((pickConfig a0 s).2) =
    ground s := by
  induction a0 generalizing s with
  | nil => rfl
  | cons e es ih => unfold pickConfig; (repeat' (first | dsimp only | split)) <;> simp_all [apply_ite ground]
@[simp] theorem loadConfig_ground (a0 : List Byte) (s : State) : ground (loadConfig a0 s) = ground s := by
  unfold loadConfig
  simp [apply_ite ground, apply_ite Prod.snd]
@[simp] theorem policyWrite_ground (a0 : WriteEnd) (s : State) : ground (policyWrite a0 s) = ground s := by
  unfold policyWrite
  simp [apply_ite ground, apply_ite Prod.snd]
@[simp] theorem policyRecord_ground (a0 : WriteEnd) (a1 : Nat) (a2 : Nat → List Byte) (s : State) : ground
    (policyRecord a0 a1 a2 s) = ground s := by
  unfold policyRecord
  simp [apply_ite ground, apply_ite Prod.snd]
@[simp] theorem policyRevert_ground (a0 : WriteEnd) (s : State) : ground (policyRevert a0 s) = ground s :=
  by simp [policyRevert]
@[simp] theorem resumeActivation_ground (a0 : List Byte) (s : State) : ground (resumeActivation a0 s) = ground s :=
  by simp [resumeActivation]
@[simp] theorem policyStile_ground (a0 : WriteEnd) (s : State) : ground ((policyStile a0 s).2) = ground s := by
  unfold policyStile
  (repeat' split) <;> simp [apply_ite ground, apply_ite Prod.snd]
@[simp] theorem policyRuntime_ground (a0 : Nat) (s : State) : ground (policyRuntime a0 s) = ground s := by
  unfold policyRuntime
  simp [apply_ite ground, apply_ite Prod.snd]
@[simp] theorem reapply_ground (s : State) (a1 : Nat × Nat) : ground (reapply s a1) = ground s := by
  unfold reapply
  (repeat' split) <;> simp [apply_ite ground, apply_ite Prod.snd]
@[simp] theorem policyCompile_ground (s : State) : ground (policyCompile s) = ground s := by
  unfold policyCompile
  dsimp only
  split
  · simp [apply_ite ground]
  · split <;> simp [apply_ite ground]
@[simp] theorem bootRequests_ground (s : State) : ground (bootRequests s) = ground s := by simp [bootRequests]
@[simp] theorem savedNow_ground (s : State) : ground (savedNow s) = ground s := by simp [savedNow]
@[simp] theorem settleFlash_ground (a0 : Chan) (a1 : Cs) (s : State) : ground (settleFlash a0 a1 s) = ground s := by
  unfold settleFlash
  split <;> simp
@[simp] theorem restartSeq_ground (a0 : Chan) (s : State) : ground (restartSeq a0 s) = ground s := by
  unfold restartSeq
  (repeat' split) <;> simp [apply_ite ground, apply_ite Prod.snd]
@[simp] theorem restartRuntime_ground (s : State) : ground (restartRuntime s) = ground s := by simp [restartRuntime]

end Sys2Proof.Laws
end

