-- ==== Sys2Proof/Laws/GroundLink.lean ====
section
/-! SUPPORT. What leaves the ground of a state as it is: objects, SPDM and the link. -/
namespace Sys2Proof.Laws
open Sys2Proof.Machine
set_option linter.unusedVariables false
set_option linter.unusedSimpArgs false
set_option linter.unnecessarySeqFocus false
set_option linter.unreachableTactic false
set_option linter.unusedTactic false
set_option maxRecDepth 4000

@[simp] theorem execMeasurementRecompute_ground (a0 : U8) (s : State) : ground ((after (execMeasurementRecompute a0 s)
    s)) = ground s := by
  unfold execMeasurementRecompute
  split <;> simp
@[simp] theorem readRule_ground (a0 : Port) (a1 : Nat) (a2 : Nat) (s : State) : ground ((readRule a0 a1 a2 s).2.2) =
    ground s := by
  unfold readRule
  (repeat' split) <;> simp [apply_ite ground, apply_ite Prod.snd]
@[simp] theorem journalBlock_ground (a0 : Nat) (a1 : List (Nat × JEntry)) (a2 : Nat) (a3 : Nat) (s : State) : ground
    ((journalBlock a0 a1 a2 a3 s).2.2) = ground s := by
  induction a3 generalizing a2 s with
  | zero => first | rfl | (simp [journalBlock]; done) | (unfold journalBlock; simp)
  | succ n ih => first | (simp [journalBlock, ih, apply_ite ground]; done) | (unfold journalBlock; (repeat' (first | dsimp only | split)) <;> simp_all)
@[simp] theorem readBlockRule_ground (a0 : Port) (a1 : Nat) (a2 : Nat) (a3 : Nat) (a4 : Nat) (s : State) : ground
    ((readBlockRule a0 a1 a2 a3 a4 s).2.2) = ground s := by
  unfold readBlockRule
  simp only [apply_ite ground, apply_ite Prod.snd]
  (repeat' split) <;> simp [*]
@[simp] theorem windowBeats_ground (a0 : Nat) (a1 : Nat) (s : State) : ground ((windowBeats a0 a1 s).2) = ground s := by
  induction a1 generalizing a0 s with
  | zero => first | rfl | (simp [windowBeats]; done) | (unfold windowBeats; simp)
  | succ n ih => first | (simp [windowBeats, ih, apply_ite ground]; done) | (unfold windowBeats; (repeat' (first | dsimp only | split)) <;> simp_all)
@[simp] theorem dataFabric_ground (s : State) : ground ((dataFabric s).2) = ground s := by
  unfold dataFabric
  simp [apply_ite ground, apply_ite Prod.snd]
@[simp] theorem faCount_ground (a0 : U8 × List Byte × State) : ground ((faCount a0).2) = ground (a0.2.2) := by
  unfold faCount
  simp [apply_ite ground, apply_ite Prod.snd]
@[simp] theorem faReadRule_ground (a0 : Port) (a1 : Nat) (a2 : Nat) (s : State) : ground ((faReadRule a0 a1 a2 s).2) =
    ground s := by
  unfold faReadRule
  simp [apply_ite ground, apply_ite Prod.snd]
@[simp] theorem blockRequest_ground (a0 : Port) (a1 : Nat) (a2 : Nat) (a3 : Nat) (s : State) : ground ((blockRequest a0
    a1 a2 a3 s).2) = ground s := by simp [blockRequest]
@[simp] theorem execFaWindowRead_ground (a0 : Port) (a1 : U40) (a2 : U16) (s : State) : ground ((after
    (execFaWindowRead a0 a1 a2 s) s)) = ground s := by
  unfold execFaWindowRead
  (repeat' (first | dsimp only | split)) <;> (try simp only [drbgGenerate_some, storeRecord_ok, Prod.ext_iff] at *) <;> (try casesm* _ ∧ _) <;>
    subst_vars <;> simp [*, apply_ite ground, apply_ite Prod.snd]
@[simp] theorem dropField_ground (a0 : Port) (s : State) : ground (dropField a0 s) = ground s := by simp [dropField]
@[simp] theorem execFaReadExpiry_ground (a0 : Port) (s : State) : ground ((after (execFaReadExpiry a0 s) s)) = ground s
    := by
  unfold execFaReadExpiry
  split <;> simp
@[simp] theorem wipeMemory_ground (a0 : Nat) (s : State) : ground (wipeMemory a0 s) = ground s := by
  unfold wipeMemory
  split <;> simp
@[simp] theorem bistRule_ground (a0 : Fin 8) (a1 : Bool) (s : State) : ground ((bistRule a0 a1 s).2) = ground s := by
  unfold bistRule
  simp [apply_ite ground, apply_ite Prod.snd]
@[simp] theorem execBist_ground (a0 : Port) (a1 : Fin 8) (a2 : Bool) (s : State) : ground ((after (execBist a0 a1 a2 s)
    s)) = ground s := by simp [execBist]
@[simp] theorem injectRule_ground (a0 : Fin 8) (s : State) : ground ((injectRule a0 s).2) = ground s := by
  unfold injectRule
  simp [apply_ite ground, apply_ite Prod.snd]
@[simp] theorem execInject_ground (a0 : Port) (a1 : Fin 8) (s : State) : ground ((after (execInject a0 a1 s) s)) =
    ground s := by simp [execInject]
@[simp] theorem unitTestRule_ground (a0 : Port) (a1 : U8) (a2 : Bool) (s : State) : ground ((unitTestRule a0 a1 a2
    s).2) = ground s := by
  unfold unitTestRule
  simp [apply_ite ground, apply_ite Prod.snd]
@[simp] theorem execUnitTest_ground (a0 : Port) (a1 : U8) (a2 : Bool) (s : State) : ground ((after (execUnitTest a0 a1
    a2 s) s)) = ground s := by simp [execUnitTest]
@[simp] theorem retainedClearRule_ground (s : State) : ground ((retainedClearRule s).2) = ground s := by
  unfold retainedClearRule
  simp [apply_ite ground, apply_ite Prod.snd]
@[simp] theorem execRetainedClear_ground (a0 : Port) (s : State) : ground ((after (execRetainedClear a0 s) s)) = ground
    s := by simp [execRetainedClear]
@[simp] theorem fenceRule_ground (a0 : Port) (s : State) : ground ((fenceRule a0 s).2.2) = ground s := by
  unfold fenceRule
  (repeat' split) <;> simp [apply_ite ground, apply_ite Prod.snd]
@[simp] theorem execFence_ground (a0 : Port) (s : State) : ground ((after (execFence a0 s) s)) = ground s := by
  unfold execFence
  simp only [apply_ite ground, apply_ite Prod.snd]
  (repeat' split) <;> simp [*]
@[simp] theorem drawBool_ground (s : State) : ground ((drawBool s).2) = ground s := by simp [drawBool]
@[simp] theorem drawWindow_ground (s : State) : ground ((drawWindow s).2) = ground s := by simp [drawWindow]
@[simp] theorem drawFailing_ground (s : State) : ground ((drawFailing s).2) = ground s := by simp [drawFailing]
@[simp] theorem drawTry_ground (s : State) : ground ((drawTry s).2) = ground s := by simp [drawTry]
@[simp] theorem portWrite_ground (a0 : Port) (a1 : PortRegs → PortRegs) (s : State) : ground ((portWrite a0 a1 s).2) =
    ground s := by simp [portWrite]
@[simp] theorem ranged_ground (a0 : Bool) (a1 : U8 × State) (s : State) (h1 : ground a1.2 = ground s) : ground ((ranged
    a0 a1 s).2) = ground s := by
  unfold ranged; split
  · exact h1
  · rfl
@[simp] theorem rwRule_ground (a0 : Port) (a1 : Nat) (a2 : Nat) (a3 : List Byte) (s : State) : ground ((rwRule a0 a1 a2
    a3 s).2) = ground s := by
  unfold rwRule
  repeat' with_reducible apply ite_ground
  all_goals simp
@[simp] theorem writeRule_ground (a0 : Port) (a1 : Nat) (a2 : Nat) (a3 : List Byte) (s : State) : ground ((writeRule a0
    a1 a2 a3 s).2) = ground s := by
  unfold writeRule
  (repeat' split) <;> simp [apply_ite ground, apply_ite Prod.snd]
@[simp] theorem execRegisterWrite_ground (a0 : Port) (a1 : U16) (a2 : U8) (a3 : List Byte) (s : State) : ground ((after
    (execRegisterWrite a0 a1 a2 a3 s) s)) = ground s := by simp [execRegisterWrite]
@[simp] theorem writeBlockRule_ground (a0 : Port) (a1 : Nat) (a2 : Nat) (a3 : List Byte) (s : State) : ground
    ((writeBlockRule a0 a1 a2 a3 s).2) = ground s := by
  unfold writeBlockRule
  (repeat' split) <;> simp [apply_ite ground, apply_ite Prod.snd]
@[simp] theorem execWriteBlock_ground (a0 : Port) (a1 : U16) (a2 : U8) (a3 : U40) (a4 : List Byte) (s : State) : ground
    ((after (execWriteBlock a0 a1 a2 a3 a4 s) s)) = ground s := by
  unfold execWriteBlock
  (repeat' split) <;> simp [apply_ite ground, apply_ite Prod.snd]
@[simp] theorem now_ground (a0 : U8 × State) : ground ((now a0).2) = ground (a0.2) := by simp [now]
@[simp] theorem execLow_ground (a0 : Port) (a1 : Nat) (a2 : Nat) (a3 : Nat) (s : State) : ground ((execLow a0 a1 a2 a3
    s).2) = ground s := by
  unfold execLow
  simp only [apply_ite ground, apply_ite Prod.snd]
  (repeat' split) <;> simp [*]
@[simp] theorem execHigh_ground (a0 : Port) (a1 : Nat) (a2 : Nat) (a3 : Nat) (s : State) : ground ((execHigh a0 a1 a2
    a3 s).2) = ground s := by
  unfold execHigh
  simp only [apply_ite ground, apply_ite Prod.snd]
  (repeat' split) <;> simp [*]
@[simp] theorem execRule_ground (a0 : Port) (a1 : Nat) (a2 : Nat) (a3 : List Byte) (s : State) : ground ((execRule a0
    a1 a2 a3 s).2) = ground s := by
  unfold execRule
  (repeat' split) <;> simp [apply_ite ground, apply_ite Prod.snd]
@[simp] theorem execRead_ground (a0 : Port) (a1 : U16) (a2 : U8) (s : State) : ground ((after (execRead a0 a1 a2 s) s))
    = ground s := by simp [execRead]
@[simp] theorem execReadBlock_ground (a0 : Port) (a1 : U16) (a2 : U8) (a3 : U40) (a4 : U16) (s : State) : ground
    ((after (execReadBlock a0 a1 a2 a3 a4 s) s)) = ground s := by
  unfold execReadBlock
  simp only [apply_ite ground, apply_ite Prod.snd]
  (repeat' split) <;> simp [*]
@[simp] theorem pollEntry_ground (a0 : Port) (a1 : Nat) (a2 : Nat) (s : State) : ground ((pollEntry a0 a1 a2 s).2.2) =
    ground s := by
  unfold pollEntry
  simp [apply_ite ground, apply_ite Prod.snd]
@[simp] theorem pollEntries_ground (a0 : Port) (a1 : List (U16 × U8)) (s : State) : ground ((pollEntries a0 a1 s).2.2)
    = ground s := by
  induction a1 generalizing s with
  | nil => first | rfl | (simp [pollEntries]; done) | (unfold pollEntries; simp)
  | cons e es ih => first | (simp [pollEntries, ih, apply_ite ground]; done) | (unfold pollEntries; (repeat' (first | dsimp only | split)) <;> simp_all)
@[simp] theorem pollRule_ground (a0 : Port) (a1 : List (U16 × U8)) (s : State) : ground ((pollRule a0 a1 s).2.2) =
    ground s := by
  unfold pollRule
  simp [apply_ite ground, apply_ite Prod.snd]
@[simp] theorem execPoll_ground (a0 : Port) (a1 : List (U16 × U8)) (s : State) : ground ((after (execPoll a0 a1 s) s))
    = ground s := by
  unfold execPoll
  simp only [apply_ite ground, apply_ite Prod.snd]
  (repeat' split) <;> simp [*]
@[simp] theorem modConn_ground (a0 : MPort) (a1 : SpdmConn → SpdmConn) (s : State) : ground (modConn a0 a1 s) = ground
    s := by simp [modConn]
@[simp] theorem spdmError_ground (a0 : Nat) (a1 : Nat) (s : State) : ground ((spdmError a0 a1 s).2) = ground s :=
  by simp [spdmError]
@[simp] theorem spdmNonce_ground (s : State) : ground ((spdmNonce s).2) = ground s := by simp [spdmNonce]
@[simp] theorem spdmScalar_ground (s : State) : ground ((spdmScalar s).2) = ground s := by
  unfold spdmScalar
  (repeat' (first | dsimp only | split)) <;> (try simp only [drbgGenerate_some, storeRecord_ok, Prod.ext_iff] at *) <;> (try casesm* _ ∧ _) <;>
    subst_vars <;> simp [*, apply_ite ground, apply_ite Prod.snd]
@[simp] theorem spdmSign_ground (a0 : Nat) (a1 : List Byte) (s : State) : ground ((spdmSign a0 a1 s).2) = ground s := by
  induction a0 generalizing s with
  | zero => rfl
  | succ n ih =>
    unfold spdmSign
    have h := spdmScalar_ground s
    split
    · simp_all
    · split
      · split <;> simp_all
      · simp_all
@[simp] theorem spdmRelease_ground (a0 : String) (a1 : List Byte) (a2 : List Byte) (a3 : List Byte → State → List Byte
    × State) (s : State) (h4 : ∀ y0 y1, ground ((((a3 y0 y1))).2) = ground ((y1))) : ground ((spdmRelease a0 a1 a2 a3 s).2) = ground s := by
  unfold spdmRelease
  (repeat' (first | dsimp only | split)) <;> (try simp only [drbgGenerate_some, storeRecord_ok, Prod.ext_iff] at *) <;> (try casesm* _ ∧ _) <;>
    subst_vars <;> simp [*, apply_ite ground, apply_ite Prod.snd]
@[simp] theorem spdmVersion_ground (a0 : MPort) (a1 : SpdmReq) (s : State) : ground ((spdmVersion a0 a1 s).2) = ground
    s := by simp [spdmVersion]
@[simp] theorem spdmCapabilities_ground (a0 : MPort) (a1 : SpdmReq) (s : State) : ground ((spdmCapabilities a0 a1 s).2)
    = ground s := by
  unfold spdmCapabilities
  simp [apply_ite ground, apply_ite Prod.snd]
@[simp] theorem spdmAlgorithms_ground (a0 : MPort) (a1 : SpdmReq) (s : State) : ground ((spdmAlgorithms a0 a1 s).2) =
    ground s := by
  unfold spdmAlgorithms
  simp [apply_ite ground, apply_ite Prod.snd]
@[simp] theorem spdmKeepM1_ground (a0 : MPort) (a1 : List Byte) (a2 : List Byte) (s : State) : ground (spdmKeepM1 a0 a1
    a2 s) = ground s := by simp [spdmKeepM1]
@[simp] theorem spdmDigests_ground (a0 : MPort) (a1 : SpdmReq) (s : State) : ground ((spdmDigests a0 a1 s).2) = ground
    s := by simp [spdmDigests]
@[simp] theorem spdmCertificate_ground (a0 : MPort) (a1 : SpdmReq) (s : State) : ground ((spdmCertificate a0 a1 s).2) =
    ground s := by
  unfold spdmCertificate
  simp [apply_ite ground, apply_ite Prod.snd]
@[simp] theorem spdmSummary_ground (a0 : Nat) (s : State) : ground ((spdmSummary a0 s).2) = ground s := by
  unfold spdmSummary
  simp [apply_ite ground, apply_ite Prod.snd]
@[simp] theorem spdmChallengeAuth_ground (a0 : MPort) (a1 : SpdmReq) (s : State) : ground ((spdmChallengeAuth a0 a1
    s).2) = ground s := by
  unfold spdmChallengeAuth
  (repeat' (first | dsimp only | split)) <;> (try simp only [drbgGenerate_some, storeRecord_ok, Prod.ext_iff] at *) <;> (try casesm* _ ∧ _) <;>
    subst_vars <;> simp [*, apply_ite ground, apply_ite Prod.snd]
@[simp] theorem spdmSetL1_ground (a0 : MPort) (a1 : Option U32) (a2 : List Byte) (s : State) : ground (spdmSetL1 a0 a1
    a2 s) = ground s := by
  unfold spdmSetL1
  split <;> simp
@[simp] theorem spdmMeasurements_ground (a0 : MPort) (a1 : Option U32) (a2 : SpdmReq) (s : State) : ground
    ((spdmMeasurements a0 a1 a2 s).2) = ground s := by
  unfold spdmMeasurements
  (repeat' (first | dsimp only | split)) <;> (try simp only [drbgGenerate_some, storeRecord_ok, Prod.ext_iff] at *) <;> (try casesm* _ ∧ _) <;>
    subst_vars <;> simp [*, apply_ite ground, apply_ite Prod.snd]
@[simp] theorem endSession_ground (a0 : U32) (a1 : Nat) (s : State) : ground (endSession a0 a1 s) = ground s :=
  by simp [endSession]
theorem sessionRoom_some {s t : State} (h : sessionRoom s = some t) : ground t = ground s := by
  unfold sessionRoom at h
  split at h
  · cases h; rfl
  · split at h
    · split at h
      · cases h; simp
      · cases h
    · cases h; rfl
@[simp] theorem spdmKeyExchange_ground (a0 : MPort) (a1 : SpdmReq) (s : State) : ground ((spdmKeyExchange a0 a1 s).2) =
    ground s := by
  unfold spdmKeyExchange
  dsimp only
  split
  · simp
  split
  · simp
  split
  · simp
  rename_i t ht
  rw [← sessionRoom_some ht]
  have h1 := draw_ground 16 t
  generalize draw 16 t = q at *
  obtain ⟨q, u⟩ := q
  dsimp only at *
  rw [← h1]
  have h2 := spdmSummary_ground a1.param1.toNat u
  generalize spdmSummary a1.param1.toNat u = q2 at *
  obtain ⟨q2, u2⟩ := q2
  dsimp only at *
  rw [← h2]
  split
  · simp_all
  rename_i hh; cases hh
  have h3 := spdmNonce_ground u2
  generalize spdmNonce u2 = q3 at *
  obtain ⟨q3, u3⟩ := q3
  dsimp only at *
  rw [← h3]
  split
  · simp_all
  rename_i hh; cases hh
  have h4 := spdmScalar_ground u3
  generalize spdmScalar u3 = q4 at *
  obtain ⟨q4, u4⟩ := q4
  dsimp only at *
  rw [← h4]
  split
  · simp_all
  rename_i hh; cases hh
  split
  · simp
  split
  · simp
  · refine spdmRelease_ground _ _ _ _ _ (fun a b => ?_)
    simp
@[simp] theorem spdmFinish_ground (a0 : Option U32) (a1 : SpdmReq) (s : State) : ground ((spdmFinish a0 a1 s).2) =
    ground s := by
  unfold spdmFinish
  (repeat' split) <;> simp [apply_ite ground, apply_ite Prod.snd]
@[simp] theorem spdmEnd_ground (a0 : Option U32) (a1 : SpdmReq) (s : State) : ground ((spdmEnd a0 a1 s).2) = ground s
    := by
  unfold spdmEnd
  simp [apply_ite ground, apply_ite Prod.snd]
@[simp] theorem spdmServe_ground (a0 : MPort) (a1 : Option U32) (a2 : Nat) (a3 : SpdmReq) (s : State) : ground
    ((spdmServe a0 a1 a2 a3 s).2) = ground s := by
  unfold spdmServe
  repeat' with_reducible apply ite_ground
  all_goals first | with_reducible exact spdmError_ground .. | with_reducible exact spdmVersion_ground .. | with_reducible exact spdmCapabilities_ground .. | with_reducible exact spdmAlgorithms_ground .. | split
  all_goals repeat' with_reducible apply ite_ground
  all_goals first | with_reducible exact spdmError_ground .. | with_reducible exact spdmMeasurements_ground .. | with_reducible exact spdmFinish_ground .. | with_reducible exact spdmEnd_ground .. | with_reducible exact spdmDigests_ground .. | with_reducible exact spdmCertificate_ground .. | with_reducible exact spdmChallengeAuth_ground .. | with_reducible exact spdmKeyExchange_ground ..
@[simp] theorem spdmAfter_ground (a0 : Option U32) (a1 : Nat) (a2 : List Byte) (s : State) : ground (spdmAfter a0 a1 a2
    s) = ground s := by
  unfold spdmAfter
  (repeat' split) <;> simp [apply_ite ground, apply_ite Prod.snd]
@[simp] theorem spdmHandle_ground (a0 : MPort) (a1 : Option U32) (a2 : Nat) (a3 : SpdmReq) (a4 : Nat) (a5 : Nat) (s :
    State) : ground (spdmHandle a0 a1 a2 a3 a4 a5 s) = ground s := by simp [spdmHandle]
@[simp] theorem spdmRefuse_ground (a0 : MPort) (a1 : Nat) (a2 : Nat) (s : State) : ground (spdmRefuse a0 a1 a2 s) =
    ground s := by simp [spdmRefuse]
@[simp] theorem spdmReceive_ground (a0 : Nat) (a1 : SpdmReq) (a2 : Nat) (a3 : Nat) (a4 : Option U32) (s : State) :
    ground (spdmReceive a0 a1 a2 a3 a4 s) = ground s := by
  unfold spdmReceive
  simp [apply_ite ground, apply_ite Prod.snd]
@[simp] theorem spdmRow_ground (a0 : Nat) (a1 : State → Option U32) (a2 : SpdmReq) (s : State) : ground ((after
    (spdmRow a0 a1 a2 s) s)) = ground s := by
  unfold spdmRow
  split <;> simp
@[simp] theorem execGetVersion_ground (a0 : SpdmReq) (s : State) : ground ((after (execGetVersion a0 s) s)) = ground s
    := by simp [execGetVersion]
@[simp] theorem execGetCapabilities_ground (a0 : SpdmReq) (s : State) : ground ((after (execGetCapabilities a0 s) s)) =
    ground s := by simp [execGetCapabilities]
@[simp] theorem execNegotiateAlgorithms_ground (a0 : SpdmReq) (s : State) : ground ((after (execNegotiateAlgorithms a0
    s) s)) = ground s := by simp [execNegotiateAlgorithms]
@[simp] theorem execGetDigests_ground (a0 : SpdmReq) (s : State) : ground ((after (execGetDigests a0 s) s)) = ground s
    := by simp [execGetDigests]
@[simp] theorem execGetCertificate_ground (a0 : SpdmReq) (s : State) : ground ((after (execGetCertificate a0 s) s)) =
    ground s := by simp [execGetCertificate]
@[simp] theorem execSpdmChallenge_ground (a0 : SpdmReq) (s : State) : ground ((after (execSpdmChallenge a0 s) s)) =
    ground s := by simp [execSpdmChallenge]
@[simp] theorem execGetMeasurements_ground (a0 : SpdmReq) (s : State) : ground ((after (execGetMeasurements a0 s) s)) =
    ground s := by simp [execGetMeasurements]
@[simp] theorem execKeyExchange_ground (a0 : SpdmReq) (s : State) : ground ((after (execKeyExchange a0 s) s)) = ground
    s := by simp [execKeyExchange]
@[simp] theorem execFinish_ground (a0 : SpdmReq) (s : State) : ground ((after (execFinish a0 s) s)) = ground s :=
  by simp [execFinish]
@[simp] theorem execEndSession_ground (a0 : SpdmReq) (s : State) : ground ((after (execEndSession a0 s) s)) = ground s
    := by simp [execEndSession]
@[simp] theorem execSpdmUnsupportedRequest_ground (a0 : SpdmReq) (a1 : Byte) (s : State) : ground ((after
    (execSpdmUnsupportedRequest a0 a1 s) s)) = ground s := by
  unfold execSpdmUnsupportedRequest
  split <;> simp
@[simp] theorem nack_ground (a0 : MPort) (s : State) : ground (nack a0 s) = ground s := by simp [nack]
@[simp] theorem acks_ground (a0 : MPort) (a1 : List Byte) (s : State) : ground (acks a0 a1 s) = ground s := by simp [acks]
@[simp] theorem controlReply_ground (a0 : MPort) (a1 : Byte) (a2 : Byte) (a3 : List Byte) (a4 : Nat) (a5 : Nat) (s :
    State) : ground (controlReply a0 a1 a2 a3 a4 a5 s) = ground s := by simp [controlReply]
@[simp] theorem setEid_ground (a0 : MPort) (a1 : Byte) (a2 : U8) (s : State) : ground ((setEid a0 a1 a2 s).2) = ground
    s := by
  unfold setEid
  simp [apply_ite ground, apply_ite Prod.snd]
@[simp] theorem versionSupport_ground (a0 : Byte) (s : State) : ground ((versionSupport a0 s).2) = ground s := by
  unfold versionSupport
  simp [apply_ite ground, apply_ite Prod.snd]
@[simp] theorem controlServe_ground (a0 : MPort) (a1 : Byte) (a2 : List Byte) (s : State) : ground ((controlServe a0 a1
    a2 s).2) = ground s := by
  unfold controlServe
  (repeat' split) <;> simp [apply_ite ground, apply_ite Prod.snd]
@[simp] theorem controlReceive_ground (a0 : MPort) (a1 : List Byte) (a2 : Nat) (a3 : Nat) (s : State) : ground
    (controlReceive a0 a1 a2 a3 s) = ground s := by
  unfold controlReceive
  simp [apply_ite ground, apply_ite Prod.snd]
@[simp] theorem controlRow_ground (a0 : MPort) (a1 : Byte) (a2 : List Byte) (s : State) : ground (controlRow a0 a1 a2
    s) = ground s := by
  unfold controlRow
  simp [apply_ite ground, apply_ite Prod.snd]
@[simp] theorem execSetEndpointId_ground (a0 : MPort) (a1 : Byte) (a2 : U8) (s : State) : ground ((after
    (execSetEndpointId a0 a1 a2 s) s)) = ground s := by simp [execSetEndpointId]
@[simp] theorem execGetEndpointId_ground (a0 : MPort) (s : State) : ground ((after (execGetEndpointId a0 s) s)) =
    ground s := by simp [execGetEndpointId]
@[simp] theorem execGetMctpVersionSupport_ground (a0 : MPort) (a1 : Byte) (s : State) : ground ((after
    (execGetMctpVersionSupport a0 a1 s) s)) = ground s := by simp [execGetMctpVersionSupport]
@[simp] theorem execGetMessageTypeSupport_ground (a0 : MPort) (s : State) : ground ((after (execGetMessageTypeSupport
    a0 s) s)) = ground s := by simp [execGetMessageTypeSupport]
@[simp] theorem execGetVendorDefinedMessageSupport_ground (a0 : MPort) (a1 : Byte) (s : State) : ground ((after
    (execGetVendorDefinedMessageSupport a0 a1 s) s)) = ground s := by simp [execGetVendorDefinedMessageSupport]
@[simp] theorem execMctpUnsupportedCommand_ground (a0 : MPort) (a1 : Byte) (s : State) : ground ((after
    (execMctpUnsupportedCommand a0 a1 s) s)) = ground s := by
  unfold execMctpUnsupportedCommand
  split <;> simp
@[simp] theorem refuse_ground (a0 : MPort) (a1 : Option U32) (a2 : List Byte) (a3 : Nat) (a4 : Nat) (s : State) :
    ground (refuse a0 a1 a2 a3 a4 s) = ground s := by
  unfold refuse
  (repeat' (first | dsimp only | split)) <;> (try simp only [drbgGenerate_some, storeRecord_ok, Prod.ext_iff] at *) <;> (try casesm* _ ∧ _) <;>
    subst_vars <;> simp [*, apply_ite ground, apply_ite Prod.snd]
@[simp] theorem aliveOf_ground (a0 : List Byte) (s : State) : ground ((aliveOf a0 s).2) = ground s := by
  unfold aliveOf
  split <;> simp
@[simp] theorem idpAdmit_ground (a0 : MPort) (a1 : Option U32) (a2 : List Byte) (a3 : Nat) (a4 : Nat) (s : State) :
    ground ((idpAdmit a0 a1 a2 a3 a4 s).2) = ground s := by
  unfold idpAdmit
  simp [apply_ite ground, apply_ite Prod.snd]
@[simp] theorem idpDone_ground (a0 : MPort) (a1 : LinkReq) (a2 : U8) (a3 : List Byte) (a4 : List Byte) (a5 : Bool) (s :
    State) : ground (idpDone a0 a1 a2 a3 a4 a5 s) = ground s := by simp [idpDone]
@[simp] theorem idpRead_ground (a0 : MPort) (a1 : LinkReq) (a2 : Nat) (a3 : Nat) (s : State) : ground (idpRead a0 a1 a2
    a3 s) = ground s := by
  unfold idpRead
  simp [apply_ite ground, apply_ite Prod.snd]
@[simp] theorem idpReadBlock_ground (a0 : MPort) (a1 : LinkReq) (a2 : Nat) (a3 : Nat) (a4 : Nat) (a5 : Nat) (s : State)
    : ground (idpReadBlock a0 a1 a2 a3 a4 a5 s) = ground s := by
  unfold idpReadBlock
  (repeat' (first | dsimp only | split)) <;> (try simp only [drbgGenerate_some, storeRecord_ok, Prod.ext_iff] at *) <;> (try casesm* _ ∧ _) <;>
    subst_vars <;> simp [*, apply_ite ground, apply_ite Prod.snd]
@[simp] theorem idpExec_ground (a0 : MPort) (a1 : LinkReq) (a2 : Nat) (a3 : Nat) (a4 : List Byte) (s : State) : ground
    (idpExec a0 a1 a2 a3 a4 s) = ground s := by
  unfold idpExec
  (repeat' (first | dsimp only | split)) <;> (try simp only [drbgGenerate_some, storeRecord_ok, Prod.ext_iff] at *) <;> (try casesm* _ ∧ _) <;>
    subst_vars <;> simp [*, apply_ite ground, apply_ite Prod.snd]
@[simp] theorem idpService_ground (a0 : MPort) (a1 : LinkReq) (a2 : List Byte) (s : State) : ground (idpService a0 a1
    a2 s) = ground s := by
  unfold idpService
  simp only [apply_ite ground, apply_ite Prod.snd]
  (repeat' split) <;> simp [*]
@[simp] theorem idpServe_ground (a0 : MPort) (a1 : Option U32) (a2 : List Byte) (a3 : Nat) (a4 : Nat) (s : State) :
    ground (idpServe a0 a1 a2 a3 a4 s) = ground s := by
  unfold idpServe
  simp only [apply_ite ground, apply_ite Prod.snd]
  (repeat' split) <;> simp [*]
@[simp] theorem spdmMessage_ground (a0 : MPort) (a1 : Option U32) (a2 : List Byte) (a3 : Nat) (a4 : Nat) (s : State) :
    ground (spdmMessage a0 a1 a2 a3 a4 s) = ground s := by
  unfold spdmMessage
  split <;> simp
@[simp] theorem securedServe_ground (a0 : MPort) (a1 : U32) (a2 : List Byte) (a3 : Nat) (a4 : Nat) (s : State) : ground
    (securedServe a0 a1 a2 a3 a4 s) = ground s := by
  unfold securedServe
  (repeat' split) <;> simp [apply_ite ground, apply_ite Prod.snd]
@[simp] theorem serveOne_ground (a0 : MPort) (a1 : RxMsg) (s : State) : ground (serveOne a0 a1 s) = ground s := by
  unfold serveOne
  simp [apply_ite ground, apply_ite Prod.snd]
@[simp] theorem serveRx_ground (a0 : Nat) (a1 : MPort) (s : State) : ground (serveRx a0 a1 s) = ground s := by
  induction a0 generalizing s with
  | zero => rfl
  | succ n ih => unfold serveRx; (repeat' (first | dsimp only | split)) <;> simp_all [apply_ite ground]
@[simp] theorem serveLink_ground (a0 : MPort) (s : State) : ground (serveLink a0 s) = ground s := by simp [serveLink]
@[simp] theorem serveLinks_ground (s : State) : ground (serveLinks s) = ground s := by simp [serveLinks]
@[simp] theorem enqueue_ground (a0 : MPort) (a1 : RxMsg) (s : State) : ground (enqueue a0 a1 s) = ground s :=
  by simp [enqueue]
@[simp] theorem receiveMsg_ground (a0 : MPort) (a1 : RxMsg) (s : State) : ground (receiveMsg a0 a1 s) = ground s := by
  unfold receiveMsg
  simp [apply_ite ground, apply_ite Prod.snd]
@[simp] theorem execSecuredMessage_ground (a0 : MPort) (a1 : U32) (a2 : List Byte) (s : State) : ground ((after
    (execSecuredMessage a0 a1 a2 s) s)) = ground s := by
  unfold execSecuredMessage
  split <;> simp
@[simp] theorem assemble_ground (a0 : MPort) (a1 : Bool) (a2 : Bool) (a3 : Nat) (a4 : Nat) (a5 : Nat) (a6 : List Byte)
    (s : State) : ground (assemble a0 a1 a2 a3 a4 a5 a6 s) = ground s := by
  unfold assemble
  simp only [apply_ite ground, apply_ite Prod.snd]
  (repeat' split) <;> simp [*]
@[simp] theorem execMctpPacket_ground (a0 : MPort) (a1 : Bool) (a2 : List Byte) (s : State) : ground ((after
    (execMctpPacket a0 a1 a2 s) s)) = ground s := by
  unfold execMctpPacket
  simp only [apply_ite ground, apply_ite Prod.snd]
  (repeat' split) <;> simp [*]
@[simp] theorem execMgmtAssemblyExpiry_ground (a0 : MPort) (s : State) : ground ((after (execMgmtAssemblyExpiry a0 s)
    s)) = ground s := by
  unfold execMgmtAssemblyExpiry
  split <;> simp
@[simp] theorem responseGone_ground (a0 : Response) (s : State) : ground (responseGone a0 s) = ground s := by
  unfold responseGone
  simp [apply_ite ground, apply_ite Prod.snd]
@[simp] theorem execResponseRead_ground (a0 : MPort) (s : State) : ground ((after (execResponseRead a0 s) s)) = ground
    s := by
  unfold execResponseRead
  simp only [apply_ite ground, apply_ite Prod.snd]
  (repeat' split) <;> simp [*]
@[simp] theorem execResponseExpiry_ground (a0 : MPort) (s : State) : ground ((after (execResponseExpiry a0 s) s)) =
    ground s := by
  unfold execResponseExpiry
  (repeat' split) <;> simp [apply_ite ground, apply_ite Prod.snd]
@[simp] theorem directed_ground (a0 : MPort) (a1 : State → State) (s : State) (h2 : ∀ y0, ground (((a1 y0))) = ground
    ((y0))) : ground ((after (directed a0 a1 s) s)) = ground s := by
  unfold directed
  (repeat' (first | dsimp only | split)) <;> (try simp only [drbgGenerate_some, storeRecord_ok, Prod.ext_iff] at *) <;> (try casesm* _ ∧ _) <;>
    subst_vars <;> simp [*, apply_ite ground, apply_ite Prod.snd]
@[simp] theorem takeAddress_ground (a0 : MPort) (a1 : U8) (s : State) : ground (takeAddress a0 a1 s) = ground s :=
  by simp [takeAddress]
@[simp] theorem execEntdaa_ground (a0 : MPort) (a1 : U8) (s : State) : ground ((after (execEntdaa a0 a1 s) s)) = ground
    s := by
  unfold execEntdaa
  split <;> simp
@[simp] theorem execSetdasa_ground (a0 : MPort) (a1 : U8) (a2 : U8) (s : State) : ground ((after (execSetdasa a0 a1 a2
    s) s)) = ground s := by
  unfold execSetdasa
  split <;> simp
@[simp] theorem execSetnewda_ground (a0 : MPort) (a1 : U8) (s : State) : ground ((after (execSetnewda a0 a1 s) s)) =
    ground s := by simp [execSetnewda]
@[simp] theorem execRstdaa_ground (a0 : MPort) (s : State) : ground ((after (execRstdaa a0 s) s)) = ground s := by
  unfold execRstdaa
  split <;> simp
@[simp] theorem execGetpid_ground (a0 : MPort) (s : State) : ground ((after (execGetpid a0 s) s)) = ground s :=
  by simp [execGetpid]
@[simp] theorem execGetbcr_ground (a0 : MPort) (s : State) : ground ((after (execGetbcr a0 s) s)) = ground s :=
  by simp [execGetbcr]
@[simp] theorem execGetdcr_ground (a0 : MPort) (s : State) : ground ((after (execGetdcr a0 s) s)) = ground s :=
  by simp [execGetdcr]
@[simp] theorem execGetstatus_ground (a0 : MPort) (s : State) : ground ((after (execGetstatus a0 s) s)) = ground s :=
  by simp [execGetstatus]
@[simp] theorem execGetmrl_ground (a0 : MPort) (s : State) : ground ((after (execGetmrl a0 s) s)) = ground s :=
  by simp [execGetmrl]
@[simp] theorem execGetmwl_ground (a0 : MPort) (s : State) : ground ((after (execGetmwl a0 s) s)) = ground s :=
  by simp [execGetmwl]
@[simp] theorem execSetmrl_ground (a0 : MPort) (a1 : U16) (s : State) : ground ((after (execSetmrl a0 a1 s) s)) =
    ground s := by
  unfold execSetmrl
  simp [apply_ite ground, apply_ite Prod.snd]
@[simp] theorem execSetmwl_ground (a0 : MPort) (a1 : U16) (s : State) : ground ((after (execSetmwl a0 a1 s) s)) =
    ground s := by
  unfold execSetmwl
  simp [apply_ite ground, apply_ite Prod.snd]
@[simp] theorem execEnec_ground (a0 : MPort) (s : State) : ground ((after (execEnec a0 s) s)) = ground s :=
  by simp [execEnec]
@[simp] theorem execDisec_ground (a0 : MPort) (s : State) : ground ((after (execDisec a0 s) s)) = ground s :=
  by simp [execDisec]

end Sys2Proof.Laws
end

