-- ==== Sys2Proof/Laws/State.lean ====
section
/-! SUPPORT. What each named update of the state leaves and what it sets: one lemma per field and update. -/
namespace Sys2Proof.Laws
open Sys2Proof.Machine

/-! ### modHay -/

@[simp] theorem modHay_hayloft (f : Hayloft → Hayloft) (s : State) : (modHay f s).hayloft = f s.hayloft := rfl
@[simp] theorem modHay_pending (f : Hayloft → Hayloft) (s : State) : (modHay f s).pending = s.pending := rfl
@[simp] theorem modHay_porPin (f : Hayloft → Hayloft) (s : State) : (modHay f s).porPin = s.porPin := rfl
@[simp] theorem modHay_straps (f : Hayloft → Hayloft) (s : State) : (modHay f s).straps = s.straps := rfl
@[simp] theorem modHay_deviceResetDue (f : Hayloft → Hayloft) (s : State) : (modHay f s).deviceResetDue = s.deviceResetDue := rfl
@[simp] theorem modHay_halted (f : Hayloft → Hayloft) (s : State) : (modHay f s).halted = s.halted := rfl
@[simp] theorem modHay_now (f : Hayloft → Hayloft) (s : State) : (modHay f s).now = s.now := rfl
@[simp] theorem modHay_tbUs (f : Hayloft → Hayloft) (s : State) : (modHay f s).tbUs = s.tbUs := rfl
@[simp] theorem modHay_tbEpoch (f : Hayloft → Hayloft) (s : State) : (modHay f s).tbEpoch = s.tbEpoch := rfl
@[simp] theorem modHay_refclk (f : Hayloft → Hayloft) (s : State) : (modHay f s).refclk = s.refclk := rfl
@[simp] theorem modHay_pllLock (f : Hayloft → Hayloft) (s : State) : (modHay f s).pllLock = s.pllLock := rfl
@[simp] theorem modHay_porN (f : Hayloft → Hayloft) (s : State) : (modHay f s).porN = s.porN := rfl
@[simp] theorem modHay_phase (f : Hayloft → Hayloft) (s : State) : (modHay f s).phase = s.phase := rfl
@[simp] theorem modHay_steps (f : Hayloft → Hayloft) (s : State) : (modHay f s).steps = s.steps := rfl
@[simp] theorem modHay_resetCause (f : Hayloft → Hayloft) (s : State) : (modHay f s).resetCause = s.resetCause := rfl
@[simp] theorem modHay_coresDown (f : Hayloft → Hayloft) (s : State) : (modHay f s).coresDown = s.coresDown := rfl
@[simp] theorem modHay_coresHeld (f : Hayloft → Hayloft) (s : State) : (modHay f s).coresHeld = s.coresHeld := rfl
@[simp] theorem modHay_mgmtUp (f : Hayloft → Hayloft) (s : State) : (modHay f s).mgmtUp = s.mgmtUp := rfl
@[simp] theorem modHay_upsets (f : Hayloft → Hayloft) (s : State) : (modHay f s).upsets = s.upsets := rfl
@[simp] theorem modHay_cfg (f : Hayloft → Hayloft) (s : State) : (modHay f s).cfg = s.cfg := rfl
@[simp] theorem modHay_chans (f : Hayloft → Hayloft) (s : State) : (modHay f s).chans = s.chans := rfl
@[simp] theorem modHay_fallow (f : Hayloft → Hayloft) (s : State) : (modHay f s).fallow = s.fallow := rfl
@[simp] theorem modHay_hedgerow (f : Hayloft → Hayloft) (s : State) : (modHay f s).hedgerow = s.hedgerow := rfl
@[simp] theorem modHay_vault (f : Hayloft → Hayloft) (s : State) : (modHay f s).vault = s.vault := rfl
@[simp] theorem modHay_update (f : Hayloft → Hayloft) (s : State) : (modHay f s).update = s.update := rfl
@[simp] theorem modHay_banks (f : Hayloft → Hayloft) (s : State) : (modHay f s).banks = s.banks := rfl
@[simp] theorem modHay_cxs (f : Hayloft → Hayloft) (s : State) : (modHay f s).cxs = s.cxs := rfl
@[simp] theorem modHay_keys (f : Hayloft → Hayloft) (s : State) : (modHay f s).keys = s.keys := rfl
@[simp] theorem modHay_pke (f : Hayloft → Hayloft) (s : State) : (modHay f s).pke = s.pke := rfl
@[simp] theorem modHay_random (f : Hayloft → Hayloft) (s : State) : (modHay f s).random = s.random := rfl
@[simp] theorem modHay_journal (f : Hayloft → Hayloft) (s : State) : (modHay f s).journal = s.journal := rfl
@[simp] theorem modHay_heath (f : Hayloft → Hayloft) (s : State) : (modHay f s).heath = s.heath := rfl
@[simp] theorem modHay_wd (f : Hayloft → Hayloft) (s : State) : (modHay f s).wd = s.wd := rfl
@[simp] theorem modHay_timers (f : Hayloft → Hayloft) (s : State) : (modHay f s).timers = s.timers := rfl
@[simp] theorem modHay_timeouts (f : Hayloft → Hayloft) (s : State) : (modHay f s).timeouts = s.timeouts := rfl
@[simp] theorem modHay_cus (f : Hayloft → Hayloft) (s : State) : (modHay f s).cus = s.cus := rfl
@[simp] theorem modHay_lc (f : Hayloft → Hayloft) (s : State) : (modHay f s).lc = s.lc := rfl
@[simp] theorem modHay_tap (f : Hayloft → Hayloft) (s : State) : (modHay f s).tap = s.tap := rfl
@[simp] theorem modHay_spdm (f : Hayloft → Hayloft) (s : State) : (modHay f s).spdm = s.spdm := rfl
@[simp] theorem modHay_mports (f : Hayloft → Hayloft) (s : State) : (modHay f s).mports = s.mports := rfl
@[simp] theorem modHay_ports (f : Hayloft → Hayloft) (s : State) : (modHay f s).ports = s.ports := rfl

/-! ### modHr -/

@[simp] theorem modHr_hedgerow (f : Hedgerow → Hedgerow) (s : State) : (modHr f s).hedgerow = f s.hedgerow := rfl
@[simp] theorem modHr_pending (f : Hedgerow → Hedgerow) (s : State) : (modHr f s).pending = s.pending := rfl
@[simp] theorem modHr_porPin (f : Hedgerow → Hedgerow) (s : State) : (modHr f s).porPin = s.porPin := rfl
@[simp] theorem modHr_straps (f : Hedgerow → Hedgerow) (s : State) : (modHr f s).straps = s.straps := rfl
@[simp] theorem modHr_deviceResetDue (f : Hedgerow → Hedgerow) (s : State) : (modHr f s).deviceResetDue = s.deviceResetDue := rfl
@[simp] theorem modHr_halted (f : Hedgerow → Hedgerow) (s : State) : (modHr f s).halted = s.halted := rfl
@[simp] theorem modHr_now (f : Hedgerow → Hedgerow) (s : State) : (modHr f s).now = s.now := rfl
@[simp] theorem modHr_tbUs (f : Hedgerow → Hedgerow) (s : State) : (modHr f s).tbUs = s.tbUs := rfl
@[simp] theorem modHr_tbEpoch (f : Hedgerow → Hedgerow) (s : State) : (modHr f s).tbEpoch = s.tbEpoch := rfl
@[simp] theorem modHr_refclk (f : Hedgerow → Hedgerow) (s : State) : (modHr f s).refclk = s.refclk := rfl
@[simp] theorem modHr_pllLock (f : Hedgerow → Hedgerow) (s : State) : (modHr f s).pllLock = s.pllLock := rfl
@[simp] theorem modHr_porN (f : Hedgerow → Hedgerow) (s : State) : (modHr f s).porN = s.porN := rfl
@[simp] theorem modHr_phase (f : Hedgerow → Hedgerow) (s : State) : (modHr f s).phase = s.phase := rfl
@[simp] theorem modHr_steps (f : Hedgerow → Hedgerow) (s : State) : (modHr f s).steps = s.steps := rfl
@[simp] theorem modHr_resetCause (f : Hedgerow → Hedgerow) (s : State) : (modHr f s).resetCause = s.resetCause := rfl
@[simp] theorem modHr_coresDown (f : Hedgerow → Hedgerow) (s : State) : (modHr f s).coresDown = s.coresDown := rfl
@[simp] theorem modHr_coresHeld (f : Hedgerow → Hedgerow) (s : State) : (modHr f s).coresHeld = s.coresHeld := rfl
@[simp] theorem modHr_mgmtUp (f : Hedgerow → Hedgerow) (s : State) : (modHr f s).mgmtUp = s.mgmtUp := rfl
@[simp] theorem modHr_upsets (f : Hedgerow → Hedgerow) (s : State) : (modHr f s).upsets = s.upsets := rfl
@[simp] theorem modHr_cfg (f : Hedgerow → Hedgerow) (s : State) : (modHr f s).cfg = s.cfg := rfl
@[simp] theorem modHr_chans (f : Hedgerow → Hedgerow) (s : State) : (modHr f s).chans = s.chans := rfl
@[simp] theorem modHr_fallow (f : Hedgerow → Hedgerow) (s : State) : (modHr f s).fallow = s.fallow := rfl
@[simp] theorem modHr_hayloft (f : Hedgerow → Hedgerow) (s : State) : (modHr f s).hayloft = s.hayloft := rfl
@[simp] theorem modHr_vault (f : Hedgerow → Hedgerow) (s : State) : (modHr f s).vault = s.vault := rfl
@[simp] theorem modHr_update (f : Hedgerow → Hedgerow) (s : State) : (modHr f s).update = s.update := rfl
@[simp] theorem modHr_banks (f : Hedgerow → Hedgerow) (s : State) : (modHr f s).banks = s.banks := rfl
@[simp] theorem modHr_cxs (f : Hedgerow → Hedgerow) (s : State) : (modHr f s).cxs = s.cxs := rfl
@[simp] theorem modHr_keys (f : Hedgerow → Hedgerow) (s : State) : (modHr f s).keys = s.keys := rfl
@[simp] theorem modHr_pke (f : Hedgerow → Hedgerow) (s : State) : (modHr f s).pke = s.pke := rfl
@[simp] theorem modHr_random (f : Hedgerow → Hedgerow) (s : State) : (modHr f s).random = s.random := rfl
@[simp] theorem modHr_journal (f : Hedgerow → Hedgerow) (s : State) : (modHr f s).journal = s.journal := rfl
@[simp] theorem modHr_heath (f : Hedgerow → Hedgerow) (s : State) : (modHr f s).heath = s.heath := rfl
@[simp] theorem modHr_wd (f : Hedgerow → Hedgerow) (s : State) : (modHr f s).wd = s.wd := rfl
@[simp] theorem modHr_timers (f : Hedgerow → Hedgerow) (s : State) : (modHr f s).timers = s.timers := rfl
@[simp] theorem modHr_timeouts (f : Hedgerow → Hedgerow) (s : State) : (modHr f s).timeouts = s.timeouts := rfl
@[simp] theorem modHr_cus (f : Hedgerow → Hedgerow) (s : State) : (modHr f s).cus = s.cus := rfl
@[simp] theorem modHr_lc (f : Hedgerow → Hedgerow) (s : State) : (modHr f s).lc = s.lc := rfl
@[simp] theorem modHr_tap (f : Hedgerow → Hedgerow) (s : State) : (modHr f s).tap = s.tap := rfl
@[simp] theorem modHr_spdm (f : Hedgerow → Hedgerow) (s : State) : (modHr f s).spdm = s.spdm := rfl
@[simp] theorem modHr_mports (f : Hedgerow → Hedgerow) (s : State) : (modHr f s).mports = s.mports := rfl
@[simp] theorem modHr_ports (f : Hedgerow → Hedgerow) (s : State) : (modHr f s).ports = s.ports := rfl

/-! ### modVault -/

@[simp] theorem modVault_vault (f : Vault → Vault) (s : State) : (modVault f s).vault = f s.vault := rfl
@[simp] theorem modVault_pending (f : Vault → Vault) (s : State) : (modVault f s).pending = s.pending := rfl
@[simp] theorem modVault_porPin (f : Vault → Vault) (s : State) : (modVault f s).porPin = s.porPin := rfl
@[simp] theorem modVault_straps (f : Vault → Vault) (s : State) : (modVault f s).straps = s.straps := rfl
@[simp] theorem modVault_deviceResetDue (f : Vault → Vault) (s : State) : (modVault f s).deviceResetDue = s.deviceResetDue := rfl
@[simp] theorem modVault_halted (f : Vault → Vault) (s : State) : (modVault f s).halted = s.halted := rfl
@[simp] theorem modVault_now (f : Vault → Vault) (s : State) : (modVault f s).now = s.now := rfl
@[simp] theorem modVault_tbUs (f : Vault → Vault) (s : State) : (modVault f s).tbUs = s.tbUs := rfl
@[simp] theorem modVault_tbEpoch (f : Vault → Vault) (s : State) : (modVault f s).tbEpoch = s.tbEpoch := rfl
@[simp] theorem modVault_refclk (f : Vault → Vault) (s : State) : (modVault f s).refclk = s.refclk := rfl
@[simp] theorem modVault_pllLock (f : Vault → Vault) (s : State) : (modVault f s).pllLock = s.pllLock := rfl
@[simp] theorem modVault_porN (f : Vault → Vault) (s : State) : (modVault f s).porN = s.porN := rfl
@[simp] theorem modVault_phase (f : Vault → Vault) (s : State) : (modVault f s).phase = s.phase := rfl
@[simp] theorem modVault_steps (f : Vault → Vault) (s : State) : (modVault f s).steps = s.steps := rfl
@[simp] theorem modVault_resetCause (f : Vault → Vault) (s : State) : (modVault f s).resetCause = s.resetCause := rfl
@[simp] theorem modVault_coresDown (f : Vault → Vault) (s : State) : (modVault f s).coresDown = s.coresDown := rfl
@[simp] theorem modVault_coresHeld (f : Vault → Vault) (s : State) : (modVault f s).coresHeld = s.coresHeld := rfl
@[simp] theorem modVault_mgmtUp (f : Vault → Vault) (s : State) : (modVault f s).mgmtUp = s.mgmtUp := rfl
@[simp] theorem modVault_upsets (f : Vault → Vault) (s : State) : (modVault f s).upsets = s.upsets := rfl
@[simp] theorem modVault_cfg (f : Vault → Vault) (s : State) : (modVault f s).cfg = s.cfg := rfl
@[simp] theorem modVault_chans (f : Vault → Vault) (s : State) : (modVault f s).chans = s.chans := rfl
@[simp] theorem modVault_fallow (f : Vault → Vault) (s : State) : (modVault f s).fallow = s.fallow := rfl
@[simp] theorem modVault_hedgerow (f : Vault → Vault) (s : State) : (modVault f s).hedgerow = s.hedgerow := rfl
@[simp] theorem modVault_hayloft (f : Vault → Vault) (s : State) : (modVault f s).hayloft = s.hayloft := rfl
@[simp] theorem modVault_update (f : Vault → Vault) (s : State) : (modVault f s).update = s.update := rfl
@[simp] theorem modVault_banks (f : Vault → Vault) (s : State) : (modVault f s).banks = s.banks := rfl
@[simp] theorem modVault_cxs (f : Vault → Vault) (s : State) : (modVault f s).cxs = s.cxs := rfl
@[simp] theorem modVault_keys (f : Vault → Vault) (s : State) : (modVault f s).keys = s.keys := rfl
@[simp] theorem modVault_pke (f : Vault → Vault) (s : State) : (modVault f s).pke = s.pke := rfl
@[simp] theorem modVault_random (f : Vault → Vault) (s : State) : (modVault f s).random = s.random := rfl
@[simp] theorem modVault_journal (f : Vault → Vault) (s : State) : (modVault f s).journal = s.journal := rfl
@[simp] theorem modVault_heath (f : Vault → Vault) (s : State) : (modVault f s).heath = s.heath := rfl
@[simp] theorem modVault_wd (f : Vault → Vault) (s : State) : (modVault f s).wd = s.wd := rfl
@[simp] theorem modVault_timers (f : Vault → Vault) (s : State) : (modVault f s).timers = s.timers := rfl
@[simp] theorem modVault_timeouts (f : Vault → Vault) (s : State) : (modVault f s).timeouts = s.timeouts := rfl
@[simp] theorem modVault_cus (f : Vault → Vault) (s : State) : (modVault f s).cus = s.cus := rfl
@[simp] theorem modVault_lc (f : Vault → Vault) (s : State) : (modVault f s).lc = s.lc := rfl
@[simp] theorem modVault_tap (f : Vault → Vault) (s : State) : (modVault f s).tap = s.tap := rfl
@[simp] theorem modVault_spdm (f : Vault → Vault) (s : State) : (modVault f s).spdm = s.spdm := rfl
@[simp] theorem modVault_mports (f : Vault → Vault) (s : State) : (modVault f s).mports = s.mports := rfl
@[simp] theorem modVault_ports (f : Vault → Vault) (s : State) : (modVault f s).ports = s.ports := rfl

/-! ### modUpd -/

@[simp] theorem modUpd_update (f : Update → Update) (s : State) : (modUpd f s).update = f s.update := rfl
@[simp] theorem modUpd_pending (f : Update → Update) (s : State) : (modUpd f s).pending = s.pending := rfl
@[simp] theorem modUpd_porPin (f : Update → Update) (s : State) : (modUpd f s).porPin = s.porPin := rfl
@[simp] theorem modUpd_straps (f : Update → Update) (s : State) : (modUpd f s).straps = s.straps := rfl
@[simp] theorem modUpd_deviceResetDue (f : Update → Update) (s : State) : (modUpd f s).deviceResetDue = s.deviceResetDue := rfl
@[simp] theorem modUpd_halted (f : Update → Update) (s : State) : (modUpd f s).halted = s.halted := rfl
@[simp] theorem modUpd_now (f : Update → Update) (s : State) : (modUpd f s).now = s.now := rfl
@[simp] theorem modUpd_tbUs (f : Update → Update) (s : State) : (modUpd f s).tbUs = s.tbUs := rfl
@[simp] theorem modUpd_tbEpoch (f : Update → Update) (s : State) : (modUpd f s).tbEpoch = s.tbEpoch := rfl
@[simp] theorem modUpd_refclk (f : Update → Update) (s : State) : (modUpd f s).refclk = s.refclk := rfl
@[simp] theorem modUpd_pllLock (f : Update → Update) (s : State) : (modUpd f s).pllLock = s.pllLock := rfl
@[simp] theorem modUpd_porN (f : Update → Update) (s : State) : (modUpd f s).porN = s.porN := rfl
@[simp] theorem modUpd_phase (f : Update → Update) (s : State) : (modUpd f s).phase = s.phase := rfl
@[simp] theorem modUpd_steps (f : Update → Update) (s : State) : (modUpd f s).steps = s.steps := rfl
@[simp] theorem modUpd_resetCause (f : Update → Update) (s : State) : (modUpd f s).resetCause = s.resetCause := rfl
@[simp] theorem modUpd_coresDown (f : Update → Update) (s : State) : (modUpd f s).coresDown = s.coresDown := rfl
@[simp] theorem modUpd_coresHeld (f : Update → Update) (s : State) : (modUpd f s).coresHeld = s.coresHeld := rfl
@[simp] theorem modUpd_mgmtUp (f : Update → Update) (s : State) : (modUpd f s).mgmtUp = s.mgmtUp := rfl
@[simp] theorem modUpd_upsets (f : Update → Update) (s : State) : (modUpd f s).upsets = s.upsets := rfl
@[simp] theorem modUpd_cfg (f : Update → Update) (s : State) : (modUpd f s).cfg = s.cfg := rfl
@[simp] theorem modUpd_chans (f : Update → Update) (s : State) : (modUpd f s).chans = s.chans := rfl
@[simp] theorem modUpd_fallow (f : Update → Update) (s : State) : (modUpd f s).fallow = s.fallow := rfl
@[simp] theorem modUpd_hedgerow (f : Update → Update) (s : State) : (modUpd f s).hedgerow = s.hedgerow := rfl
@[simp] theorem modUpd_hayloft (f : Update → Update) (s : State) : (modUpd f s).hayloft = s.hayloft := rfl
@[simp] theorem modUpd_vault (f : Update → Update) (s : State) : (modUpd f s).vault = s.vault := rfl
@[simp] theorem modUpd_banks (f : Update → Update) (s : State) : (modUpd f s).banks = s.banks := rfl
@[simp] theorem modUpd_cxs (f : Update → Update) (s : State) : (modUpd f s).cxs = s.cxs := rfl
@[simp] theorem modUpd_keys (f : Update → Update) (s : State) : (modUpd f s).keys = s.keys := rfl
@[simp] theorem modUpd_pke (f : Update → Update) (s : State) : (modUpd f s).pke = s.pke := rfl
@[simp] theorem modUpd_random (f : Update → Update) (s : State) : (modUpd f s).random = s.random := rfl
@[simp] theorem modUpd_journal (f : Update → Update) (s : State) : (modUpd f s).journal = s.journal := rfl
@[simp] theorem modUpd_heath (f : Update → Update) (s : State) : (modUpd f s).heath = s.heath := rfl
@[simp] theorem modUpd_wd (f : Update → Update) (s : State) : (modUpd f s).wd = s.wd := rfl
@[simp] theorem modUpd_timers (f : Update → Update) (s : State) : (modUpd f s).timers = s.timers := rfl
@[simp] theorem modUpd_timeouts (f : Update → Update) (s : State) : (modUpd f s).timeouts = s.timeouts := rfl
@[simp] theorem modUpd_cus (f : Update → Update) (s : State) : (modUpd f s).cus = s.cus := rfl
@[simp] theorem modUpd_lc (f : Update → Update) (s : State) : (modUpd f s).lc = s.lc := rfl
@[simp] theorem modUpd_tap (f : Update → Update) (s : State) : (modUpd f s).tap = s.tap := rfl
@[simp] theorem modUpd_spdm (f : Update → Update) (s : State) : (modUpd f s).spdm = s.spdm := rfl
@[simp] theorem modUpd_mports (f : Update → Update) (s : State) : (modUpd f s).mports = s.mports := rfl
@[simp] theorem modUpd_ports (f : Update → Update) (s : State) : (modUpd f s).ports = s.ports := rfl

/-! ### modKeys -/

@[simp] theorem modKeys_keys (f : KeyStore → KeyStore) (s : State) : (modKeys f s).keys = f s.keys := rfl
@[simp] theorem modKeys_pending (f : KeyStore → KeyStore) (s : State) : (modKeys f s).pending = s.pending := rfl
@[simp] theorem modKeys_porPin (f : KeyStore → KeyStore) (s : State) : (modKeys f s).porPin = s.porPin := rfl
@[simp] theorem modKeys_straps (f : KeyStore → KeyStore) (s : State) : (modKeys f s).straps = s.straps := rfl
@[simp] theorem modKeys_deviceResetDue (f : KeyStore → KeyStore) (s : State) : (modKeys f s).deviceResetDue = s.deviceResetDue := rfl
@[simp] theorem modKeys_halted (f : KeyStore → KeyStore) (s : State) : (modKeys f s).halted = s.halted := rfl
@[simp] theorem modKeys_now (f : KeyStore → KeyStore) (s : State) : (modKeys f s).now = s.now := rfl
@[simp] theorem modKeys_tbUs (f : KeyStore → KeyStore) (s : State) : (modKeys f s).tbUs = s.tbUs := rfl
@[simp] theorem modKeys_tbEpoch (f : KeyStore → KeyStore) (s : State) : (modKeys f s).tbEpoch = s.tbEpoch := rfl
@[simp] theorem modKeys_refclk (f : KeyStore → KeyStore) (s : State) : (modKeys f s).refclk = s.refclk := rfl
@[simp] theorem modKeys_pllLock (f : KeyStore → KeyStore) (s : State) : (modKeys f s).pllLock = s.pllLock := rfl
@[simp] theorem modKeys_porN (f : KeyStore → KeyStore) (s : State) : (modKeys f s).porN = s.porN := rfl
@[simp] theorem modKeys_phase (f : KeyStore → KeyStore) (s : State) : (modKeys f s).phase = s.phase := rfl
@[simp] theorem modKeys_steps (f : KeyStore → KeyStore) (s : State) : (modKeys f s).steps = s.steps := rfl
@[simp] theorem modKeys_resetCause (f : KeyStore → KeyStore) (s : State) : (modKeys f s).resetCause = s.resetCause := rfl
@[simp] theorem modKeys_coresDown (f : KeyStore → KeyStore) (s : State) : (modKeys f s).coresDown = s.coresDown := rfl
@[simp] theorem modKeys_coresHeld (f : KeyStore → KeyStore) (s : State) : (modKeys f s).coresHeld = s.coresHeld := rfl
@[simp] theorem modKeys_mgmtUp (f : KeyStore → KeyStore) (s : State) : (modKeys f s).mgmtUp = s.mgmtUp := rfl
@[simp] theorem modKeys_upsets (f : KeyStore → KeyStore) (s : State) : (modKeys f s).upsets = s.upsets := rfl
@[simp] theorem modKeys_cfg (f : KeyStore → KeyStore) (s : State) : (modKeys f s).cfg = s.cfg := rfl
@[simp] theorem modKeys_chans (f : KeyStore → KeyStore) (s : State) : (modKeys f s).chans = s.chans := rfl
@[simp] theorem modKeys_fallow (f : KeyStore → KeyStore) (s : State) : (modKeys f s).fallow = s.fallow := rfl
@[simp] theorem modKeys_hedgerow (f : KeyStore → KeyStore) (s : State) : (modKeys f s).hedgerow = s.hedgerow := rfl
@[simp] theorem modKeys_hayloft (f : KeyStore → KeyStore) (s : State) : (modKeys f s).hayloft = s.hayloft := rfl
@[simp] theorem modKeys_vault (f : KeyStore → KeyStore) (s : State) : (modKeys f s).vault = s.vault := rfl
@[simp] theorem modKeys_update (f : KeyStore → KeyStore) (s : State) : (modKeys f s).update = s.update := rfl
@[simp] theorem modKeys_banks (f : KeyStore → KeyStore) (s : State) : (modKeys f s).banks = s.banks := rfl
@[simp] theorem modKeys_cxs (f : KeyStore → KeyStore) (s : State) : (modKeys f s).cxs = s.cxs := rfl
@[simp] theorem modKeys_pke (f : KeyStore → KeyStore) (s : State) : (modKeys f s).pke = s.pke := rfl
@[simp] theorem modKeys_random (f : KeyStore → KeyStore) (s : State) : (modKeys f s).random = s.random := rfl
@[simp] theorem modKeys_journal (f : KeyStore → KeyStore) (s : State) : (modKeys f s).journal = s.journal := rfl
@[simp] theorem modKeys_heath (f : KeyStore → KeyStore) (s : State) : (modKeys f s).heath = s.heath := rfl
@[simp] theorem modKeys_wd (f : KeyStore → KeyStore) (s : State) : (modKeys f s).wd = s.wd := rfl
@[simp] theorem modKeys_timers (f : KeyStore → KeyStore) (s : State) : (modKeys f s).timers = s.timers := rfl
@[simp] theorem modKeys_timeouts (f : KeyStore → KeyStore) (s : State) : (modKeys f s).timeouts = s.timeouts := rfl
@[simp] theorem modKeys_cus (f : KeyStore → KeyStore) (s : State) : (modKeys f s).cus = s.cus := rfl
@[simp] theorem modKeys_lc (f : KeyStore → KeyStore) (s : State) : (modKeys f s).lc = s.lc := rfl
@[simp] theorem modKeys_tap (f : KeyStore → KeyStore) (s : State) : (modKeys f s).tap = s.tap := rfl
@[simp] theorem modKeys_spdm (f : KeyStore → KeyStore) (s : State) : (modKeys f s).spdm = s.spdm := rfl
@[simp] theorem modKeys_mports (f : KeyStore → KeyStore) (s : State) : (modKeys f s).mports = s.mports := rfl
@[simp] theorem modKeys_ports (f : KeyStore → KeyStore) (s : State) : (modKeys f s).ports = s.ports := rfl

/-! ### modPke -/

@[simp] theorem modPke_pke (f : Pke → Pke) (s : State) : (modPke f s).pke = f s.pke := rfl
@[simp] theorem modPke_pending (f : Pke → Pke) (s : State) : (modPke f s).pending = s.pending := rfl
@[simp] theorem modPke_porPin (f : Pke → Pke) (s : State) : (modPke f s).porPin = s.porPin := rfl
@[simp] theorem modPke_straps (f : Pke → Pke) (s : State) : (modPke f s).straps = s.straps := rfl
@[simp] theorem modPke_deviceResetDue (f : Pke → Pke) (s : State) : (modPke f s).deviceResetDue = s.deviceResetDue := rfl
@[simp] theorem modPke_halted (f : Pke → Pke) (s : State) : (modPke f s).halted = s.halted := rfl
@[simp] theorem modPke_now (f : Pke → Pke) (s : State) : (modPke f s).now = s.now := rfl
@[simp] theorem modPke_tbUs (f : Pke → Pke) (s : State) : (modPke f s).tbUs = s.tbUs := rfl
@[simp] theorem modPke_tbEpoch (f : Pke → Pke) (s : State) : (modPke f s).tbEpoch = s.tbEpoch := rfl
@[simp] theorem modPke_refclk (f : Pke → Pke) (s : State) : (modPke f s).refclk = s.refclk := rfl
@[simp] theorem modPke_pllLock (f : Pke → Pke) (s : State) : (modPke f s).pllLock = s.pllLock := rfl
@[simp] theorem modPke_porN (f : Pke → Pke) (s : State) : (modPke f s).porN = s.porN := rfl
@[simp] theorem modPke_phase (f : Pke → Pke) (s : State) : (modPke f s).phase = s.phase := rfl
@[simp] theorem modPke_steps (f : Pke → Pke) (s : State) : (modPke f s).steps = s.steps := rfl
@[simp] theorem modPke_resetCause (f : Pke → Pke) (s : State) : (modPke f s).resetCause = s.resetCause := rfl
@[simp] theorem modPke_coresDown (f : Pke → Pke) (s : State) : (modPke f s).coresDown = s.coresDown := rfl
@[simp] theorem modPke_coresHeld (f : Pke → Pke) (s : State) : (modPke f s).coresHeld = s.coresHeld := rfl
@[simp] theorem modPke_mgmtUp (f : Pke → Pke) (s : State) : (modPke f s).mgmtUp = s.mgmtUp := rfl
@[simp] theorem modPke_upsets (f : Pke → Pke) (s : State) : (modPke f s).upsets = s.upsets := rfl
@[simp] theorem modPke_cfg (f : Pke → Pke) (s : State) : (modPke f s).cfg = s.cfg := rfl
@[simp] theorem modPke_chans (f : Pke → Pke) (s : State) : (modPke f s).chans = s.chans := rfl
@[simp] theorem modPke_fallow (f : Pke → Pke) (s : State) : (modPke f s).fallow = s.fallow := rfl
@[simp] theorem modPke_hedgerow (f : Pke → Pke) (s : State) : (modPke f s).hedgerow = s.hedgerow := rfl
@[simp] theorem modPke_hayloft (f : Pke → Pke) (s : State) : (modPke f s).hayloft = s.hayloft := rfl
@[simp] theorem modPke_vault (f : Pke → Pke) (s : State) : (modPke f s).vault = s.vault := rfl
@[simp] theorem modPke_update (f : Pke → Pke) (s : State) : (modPke f s).update = s.update := rfl
@[simp] theorem modPke_banks (f : Pke → Pke) (s : State) : (modPke f s).banks = s.banks := rfl
@[simp] theorem modPke_cxs (f : Pke → Pke) (s : State) : (modPke f s).cxs = s.cxs := rfl
@[simp] theorem modPke_keys (f : Pke → Pke) (s : State) : (modPke f s).keys = s.keys := rfl
@[simp] theorem modPke_random (f : Pke → Pke) (s : State) : (modPke f s).random = s.random := rfl
@[simp] theorem modPke_journal (f : Pke → Pke) (s : State) : (modPke f s).journal = s.journal := rfl
@[simp] theorem modPke_heath (f : Pke → Pke) (s : State) : (modPke f s).heath = s.heath := rfl
@[simp] theorem modPke_wd (f : Pke → Pke) (s : State) : (modPke f s).wd = s.wd := rfl
@[simp] theorem modPke_timers (f : Pke → Pke) (s : State) : (modPke f s).timers = s.timers := rfl
@[simp] theorem modPke_timeouts (f : Pke → Pke) (s : State) : (modPke f s).timeouts = s.timeouts := rfl
@[simp] theorem modPke_cus (f : Pke → Pke) (s : State) : (modPke f s).cus = s.cus := rfl
@[simp] theorem modPke_lc (f : Pke → Pke) (s : State) : (modPke f s).lc = s.lc := rfl
@[simp] theorem modPke_tap (f : Pke → Pke) (s : State) : (modPke f s).tap = s.tap := rfl
@[simp] theorem modPke_spdm (f : Pke → Pke) (s : State) : (modPke f s).spdm = s.spdm := rfl
@[simp] theorem modPke_mports (f : Pke → Pke) (s : State) : (modPke f s).mports = s.mports := rfl
@[simp] theorem modPke_ports (f : Pke → Pke) (s : State) : (modPke f s).ports = s.ports := rfl

/-! ### modRandom -/

@[simp] theorem modRandom_random (f : Random → Random) (s : State) : (modRandom f s).random = f s.random := rfl
@[simp] theorem modRandom_pending (f : Random → Random) (s : State) : (modRandom f s).pending = s.pending := rfl
@[simp] theorem modRandom_porPin (f : Random → Random) (s : State) : (modRandom f s).porPin = s.porPin := rfl
@[simp] theorem modRandom_straps (f : Random → Random) (s : State) : (modRandom f s).straps = s.straps := rfl
@[simp] theorem modRandom_deviceResetDue (f : Random → Random) (s : State) : (modRandom f s).deviceResetDue = s.deviceResetDue := rfl
@[simp] theorem modRandom_halted (f : Random → Random) (s : State) : (modRandom f s).halted = s.halted := rfl
@[simp] theorem modRandom_now (f : Random → Random) (s : State) : (modRandom f s).now = s.now := rfl
@[simp] theorem modRandom_tbUs (f : Random → Random) (s : State) : (modRandom f s).tbUs = s.tbUs := rfl
@[simp] theorem modRandom_tbEpoch (f : Random → Random) (s : State) : (modRandom f s).tbEpoch = s.tbEpoch := rfl
@[simp] theorem modRandom_refclk (f : Random → Random) (s : State) : (modRandom f s).refclk = s.refclk := rfl
@[simp] theorem modRandom_pllLock (f : Random → Random) (s : State) : (modRandom f s).pllLock = s.pllLock := rfl
@[simp] theorem modRandom_porN (f : Random → Random) (s : State) : (modRandom f s).porN = s.porN := rfl
@[simp] theorem modRandom_phase (f : Random → Random) (s : State) : (modRandom f s).phase = s.phase := rfl
@[simp] theorem modRandom_steps (f : Random → Random) (s : State) : (modRandom f s).steps = s.steps := rfl
@[simp] theorem modRandom_resetCause (f : Random → Random) (s : State) : (modRandom f s).resetCause = s.resetCause := rfl
@[simp] theorem modRandom_coresDown (f : Random → Random) (s : State) : (modRandom f s).coresDown = s.coresDown := rfl
@[simp] theorem modRandom_coresHeld (f : Random → Random) (s : State) : (modRandom f s).coresHeld = s.coresHeld := rfl
@[simp] theorem modRandom_mgmtUp (f : Random → Random) (s : State) : (modRandom f s).mgmtUp = s.mgmtUp := rfl
@[simp] theorem modRandom_upsets (f : Random → Random) (s : State) : (modRandom f s).upsets = s.upsets := rfl
@[simp] theorem modRandom_cfg (f : Random → Random) (s : State) : (modRandom f s).cfg = s.cfg := rfl
@[simp] theorem modRandom_chans (f : Random → Random) (s : State) : (modRandom f s).chans = s.chans := rfl
@[simp] theorem modRandom_fallow (f : Random → Random) (s : State) : (modRandom f s).fallow = s.fallow := rfl
@[simp] theorem modRandom_hedgerow (f : Random → Random) (s : State) : (modRandom f s).hedgerow = s.hedgerow := rfl
@[simp] theorem modRandom_hayloft (f : Random → Random) (s : State) : (modRandom f s).hayloft = s.hayloft := rfl
@[simp] theorem modRandom_vault (f : Random → Random) (s : State) : (modRandom f s).vault = s.vault := rfl
@[simp] theorem modRandom_update (f : Random → Random) (s : State) : (modRandom f s).update = s.update := rfl
@[simp] theorem modRandom_banks (f : Random → Random) (s : State) : (modRandom f s).banks = s.banks := rfl
@[simp] theorem modRandom_cxs (f : Random → Random) (s : State) : (modRandom f s).cxs = s.cxs := rfl
@[simp] theorem modRandom_keys (f : Random → Random) (s : State) : (modRandom f s).keys = s.keys := rfl
@[simp] theorem modRandom_pke (f : Random → Random) (s : State) : (modRandom f s).pke = s.pke := rfl
@[simp] theorem modRandom_journal (f : Random → Random) (s : State) : (modRandom f s).journal = s.journal := rfl
@[simp] theorem modRandom_heath (f : Random → Random) (s : State) : (modRandom f s).heath = s.heath := rfl
@[simp] theorem modRandom_wd (f : Random → Random) (s : State) : (modRandom f s).wd = s.wd := rfl
@[simp] theorem modRandom_timers (f : Random → Random) (s : State) : (modRandom f s).timers = s.timers := rfl
@[simp] theorem modRandom_timeouts (f : Random → Random) (s : State) : (modRandom f s).timeouts = s.timeouts := rfl
@[simp] theorem modRandom_cus (f : Random → Random) (s : State) : (modRandom f s).cus = s.cus := rfl
@[simp] theorem modRandom_lc (f : Random → Random) (s : State) : (modRandom f s).lc = s.lc := rfl
@[simp] theorem modRandom_tap (f : Random → Random) (s : State) : (modRandom f s).tap = s.tap := rfl
@[simp] theorem modRandom_spdm (f : Random → Random) (s : State) : (modRandom f s).spdm = s.spdm := rfl
@[simp] theorem modRandom_mports (f : Random → Random) (s : State) : (modRandom f s).mports = s.mports := rfl
@[simp] theorem modRandom_ports (f : Random → Random) (s : State) : (modRandom f s).ports = s.ports := rfl

/-! ### modHeath -/

@[simp] theorem modHeath_heath (f : Heath → Heath) (s : State) : (modHeath f s).heath = f s.heath := rfl
@[simp] theorem modHeath_pending (f : Heath → Heath) (s : State) : (modHeath f s).pending = s.pending := rfl
@[simp] theorem modHeath_porPin (f : Heath → Heath) (s : State) : (modHeath f s).porPin = s.porPin := rfl
@[simp] theorem modHeath_straps (f : Heath → Heath) (s : State) : (modHeath f s).straps = s.straps := rfl
@[simp] theorem modHeath_deviceResetDue (f : Heath → Heath) (s : State) : (modHeath f s).deviceResetDue = s.deviceResetDue := rfl
@[simp] theorem modHeath_halted (f : Heath → Heath) (s : State) : (modHeath f s).halted = s.halted := rfl
@[simp] theorem modHeath_now (f : Heath → Heath) (s : State) : (modHeath f s).now = s.now := rfl
@[simp] theorem modHeath_tbUs (f : Heath → Heath) (s : State) : (modHeath f s).tbUs = s.tbUs := rfl
@[simp] theorem modHeath_tbEpoch (f : Heath → Heath) (s : State) : (modHeath f s).tbEpoch = s.tbEpoch := rfl
@[simp] theorem modHeath_refclk (f : Heath → Heath) (s : State) : (modHeath f s).refclk = s.refclk := rfl
@[simp] theorem modHeath_pllLock (f : Heath → Heath) (s : State) : (modHeath f s).pllLock = s.pllLock := rfl
@[simp] theorem modHeath_porN (f : Heath → Heath) (s : State) : (modHeath f s).porN = s.porN := rfl
@[simp] theorem modHeath_phase (f : Heath → Heath) (s : State) : (modHeath f s).phase = s.phase := rfl
@[simp] theorem modHeath_steps (f : Heath → Heath) (s : State) : (modHeath f s).steps = s.steps := rfl
@[simp] theorem modHeath_resetCause (f : Heath → Heath) (s : State) : (modHeath f s).resetCause = s.resetCause := rfl
@[simp] theorem modHeath_coresDown (f : Heath → Heath) (s : State) : (modHeath f s).coresDown = s.coresDown := rfl
@[simp] theorem modHeath_coresHeld (f : Heath → Heath) (s : State) : (modHeath f s).coresHeld = s.coresHeld := rfl
@[simp] theorem modHeath_mgmtUp (f : Heath → Heath) (s : State) : (modHeath f s).mgmtUp = s.mgmtUp := rfl
@[simp] theorem modHeath_upsets (f : Heath → Heath) (s : State) : (modHeath f s).upsets = s.upsets := rfl
@[simp] theorem modHeath_cfg (f : Heath → Heath) (s : State) : (modHeath f s).cfg = s.cfg := rfl
@[simp] theorem modHeath_chans (f : Heath → Heath) (s : State) : (modHeath f s).chans = s.chans := rfl
@[simp] theorem modHeath_fallow (f : Heath → Heath) (s : State) : (modHeath f s).fallow = s.fallow := rfl
@[simp] theorem modHeath_hedgerow (f : Heath → Heath) (s : State) : (modHeath f s).hedgerow = s.hedgerow := rfl
@[simp] theorem modHeath_hayloft (f : Heath → Heath) (s : State) : (modHeath f s).hayloft = s.hayloft := rfl
@[simp] theorem modHeath_vault (f : Heath → Heath) (s : State) : (modHeath f s).vault = s.vault := rfl
@[simp] theorem modHeath_update (f : Heath → Heath) (s : State) : (modHeath f s).update = s.update := rfl
@[simp] theorem modHeath_banks (f : Heath → Heath) (s : State) : (modHeath f s).banks = s.banks := rfl
@[simp] theorem modHeath_cxs (f : Heath → Heath) (s : State) : (modHeath f s).cxs = s.cxs := rfl
@[simp] theorem modHeath_keys (f : Heath → Heath) (s : State) : (modHeath f s).keys = s.keys := rfl
@[simp] theorem modHeath_pke (f : Heath → Heath) (s : State) : (modHeath f s).pke = s.pke := rfl
@[simp] theorem modHeath_random (f : Heath → Heath) (s : State) : (modHeath f s).random = s.random := rfl
@[simp] theorem modHeath_journal (f : Heath → Heath) (s : State) : (modHeath f s).journal = s.journal := rfl
@[simp] theorem modHeath_wd (f : Heath → Heath) (s : State) : (modHeath f s).wd = s.wd := rfl
@[simp] theorem modHeath_timers (f : Heath → Heath) (s : State) : (modHeath f s).timers = s.timers := rfl
@[simp] theorem modHeath_timeouts (f : Heath → Heath) (s : State) : (modHeath f s).timeouts = s.timeouts := rfl
@[simp] theorem modHeath_cus (f : Heath → Heath) (s : State) : (modHeath f s).cus = s.cus := rfl
@[simp] theorem modHeath_lc (f : Heath → Heath) (s : State) : (modHeath f s).lc = s.lc := rfl
@[simp] theorem modHeath_tap (f : Heath → Heath) (s : State) : (modHeath f s).tap = s.tap := rfl
@[simp] theorem modHeath_spdm (f : Heath → Heath) (s : State) : (modHeath f s).spdm = s.spdm := rfl
@[simp] theorem modHeath_mports (f : Heath → Heath) (s : State) : (modHeath f s).mports = s.mports := rfl
@[simp] theorem modHeath_ports (f : Heath → Heath) (s : State) : (modHeath f s).ports = s.ports := rfl

/-! ### modWd -/

@[simp] theorem modWd_wd (f : Watchdog → Watchdog) (s : State) : (modWd f s).wd = f s.wd := rfl
@[simp] theorem modWd_pending (f : Watchdog → Watchdog) (s : State) : (modWd f s).pending = s.pending := rfl
@[simp] theorem modWd_porPin (f : Watchdog → Watchdog) (s : State) : (modWd f s).porPin = s.porPin := rfl
@[simp] theorem modWd_straps (f : Watchdog → Watchdog) (s : State) : (modWd f s).straps = s.straps := rfl
@[simp] theorem modWd_deviceResetDue (f : Watchdog → Watchdog) (s : State) : (modWd f s).deviceResetDue = s.deviceResetDue := rfl
@[simp] theorem modWd_halted (f : Watchdog → Watchdog) (s : State) : (modWd f s).halted = s.halted := rfl
@[simp] theorem modWd_now (f : Watchdog → Watchdog) (s : State) : (modWd f s).now = s.now := rfl
@[simp] theorem modWd_tbUs (f : Watchdog → Watchdog) (s : State) : (modWd f s).tbUs = s.tbUs := rfl
@[simp] theorem modWd_tbEpoch (f : Watchdog → Watchdog) (s : State) : (modWd f s).tbEpoch = s.tbEpoch := rfl
@[simp] theorem modWd_refclk (f : Watchdog → Watchdog) (s : State) : (modWd f s).refclk = s.refclk := rfl
@[simp] theorem modWd_pllLock (f : Watchdog → Watchdog) (s : State) : (modWd f s).pllLock = s.pllLock := rfl
@[simp] theorem modWd_porN (f : Watchdog → Watchdog) (s : State) : (modWd f s).porN = s.porN := rfl
@[simp] theorem modWd_phase (f : Watchdog → Watchdog) (s : State) : (modWd f s).phase = s.phase := rfl
@[simp] theorem modWd_steps (f : Watchdog → Watchdog) (s : State) : (modWd f s).steps = s.steps := rfl
@[simp] theorem modWd_resetCause (f : Watchdog → Watchdog) (s : State) : (modWd f s).resetCause = s.resetCause := rfl
@[simp] theorem modWd_coresDown (f : Watchdog → Watchdog) (s : State) : (modWd f s).coresDown = s.coresDown := rfl
@[simp] theorem modWd_coresHeld (f : Watchdog → Watchdog) (s : State) : (modWd f s).coresHeld = s.coresHeld := rfl
@[simp] theorem modWd_mgmtUp (f : Watchdog → Watchdog) (s : State) : (modWd f s).mgmtUp = s.mgmtUp := rfl
@[simp] theorem modWd_upsets (f : Watchdog → Watchdog) (s : State) : (modWd f s).upsets = s.upsets := rfl
@[simp] theorem modWd_cfg (f : Watchdog → Watchdog) (s : State) : (modWd f s).cfg = s.cfg := rfl
@[simp] theorem modWd_chans (f : Watchdog → Watchdog) (s : State) : (modWd f s).chans = s.chans := rfl
@[simp] theorem modWd_fallow (f : Watchdog → Watchdog) (s : State) : (modWd f s).fallow = s.fallow := rfl
@[simp] theorem modWd_hedgerow (f : Watchdog → Watchdog) (s : State) : (modWd f s).hedgerow = s.hedgerow := rfl
@[simp] theorem modWd_hayloft (f : Watchdog → Watchdog) (s : State) : (modWd f s).hayloft = s.hayloft := rfl
@[simp] theorem modWd_vault (f : Watchdog → Watchdog) (s : State) : (modWd f s).vault = s.vault := rfl
@[simp] theorem modWd_update (f : Watchdog → Watchdog) (s : State) : (modWd f s).update = s.update := rfl
@[simp] theorem modWd_banks (f : Watchdog → Watchdog) (s : State) : (modWd f s).banks = s.banks := rfl
@[simp] theorem modWd_cxs (f : Watchdog → Watchdog) (s : State) : (modWd f s).cxs = s.cxs := rfl
@[simp] theorem modWd_keys (f : Watchdog → Watchdog) (s : State) : (modWd f s).keys = s.keys := rfl
@[simp] theorem modWd_pke (f : Watchdog → Watchdog) (s : State) : (modWd f s).pke = s.pke := rfl
@[simp] theorem modWd_random (f : Watchdog → Watchdog) (s : State) : (modWd f s).random = s.random := rfl
@[simp] theorem modWd_journal (f : Watchdog → Watchdog) (s : State) : (modWd f s).journal = s.journal := rfl
@[simp] theorem modWd_heath (f : Watchdog → Watchdog) (s : State) : (modWd f s).heath = s.heath := rfl
@[simp] theorem modWd_timers (f : Watchdog → Watchdog) (s : State) : (modWd f s).timers = s.timers := rfl
@[simp] theorem modWd_timeouts (f : Watchdog → Watchdog) (s : State) : (modWd f s).timeouts = s.timeouts := rfl
@[simp] theorem modWd_cus (f : Watchdog → Watchdog) (s : State) : (modWd f s).cus = s.cus := rfl
@[simp] theorem modWd_lc (f : Watchdog → Watchdog) (s : State) : (modWd f s).lc = s.lc := rfl
@[simp] theorem modWd_tap (f : Watchdog → Watchdog) (s : State) : (modWd f s).tap = s.tap := rfl
@[simp] theorem modWd_spdm (f : Watchdog → Watchdog) (s : State) : (modWd f s).spdm = s.spdm := rfl
@[simp] theorem modWd_mports (f : Watchdog → Watchdog) (s : State) : (modWd f s).mports = s.mports := rfl
@[simp] theorem modWd_ports (f : Watchdog → Watchdog) (s : State) : (modWd f s).ports = s.ports := rfl

/-! ### modLc -/

@[simp] theorem modLc_lc (f : LifeCycle → LifeCycle) (s : State) : (modLc f s).lc = f s.lc := rfl
@[simp] theorem modLc_pending (f : LifeCycle → LifeCycle) (s : State) : (modLc f s).pending = s.pending := rfl
@[simp] theorem modLc_porPin (f : LifeCycle → LifeCycle) (s : State) : (modLc f s).porPin = s.porPin := rfl
@[simp] theorem modLc_straps (f : LifeCycle → LifeCycle) (s : State) : (modLc f s).straps = s.straps := rfl
@[simp] theorem modLc_deviceResetDue (f : LifeCycle → LifeCycle) (s : State) : (modLc f s).deviceResetDue = s.deviceResetDue := rfl
@[simp] theorem modLc_halted (f : LifeCycle → LifeCycle) (s : State) : (modLc f s).halted = s.halted := rfl
@[simp] theorem modLc_now (f : LifeCycle → LifeCycle) (s : State) : (modLc f s).now = s.now := rfl
@[simp] theorem modLc_tbUs (f : LifeCycle → LifeCycle) (s : State) : (modLc f s).tbUs = s.tbUs := rfl
@[simp] theorem modLc_tbEpoch (f : LifeCycle → LifeCycle) (s : State) : (modLc f s).tbEpoch = s.tbEpoch := rfl
@[simp] theorem modLc_refclk (f : LifeCycle → LifeCycle) (s : State) : (modLc f s).refclk = s.refclk := rfl
@[simp] theorem modLc_pllLock (f : LifeCycle → LifeCycle) (s : State) : (modLc f s).pllLock = s.pllLock := rfl
@[simp] theorem modLc_porN (f : LifeCycle → LifeCycle) (s : State) : (modLc f s).porN = s.porN := rfl
@[simp] theorem modLc_phase (f : LifeCycle → LifeCycle) (s : State) : (modLc f s).phase = s.phase := rfl
@[simp] theorem modLc_steps (f : LifeCycle → LifeCycle) (s : State) : (modLc f s).steps = s.steps := rfl
@[simp] theorem modLc_resetCause (f : LifeCycle → LifeCycle) (s : State) : (modLc f s).resetCause = s.resetCause := rfl
@[simp] theorem modLc_coresDown (f : LifeCycle → LifeCycle) (s : State) : (modLc f s).coresDown = s.coresDown := rfl
@[simp] theorem modLc_coresHeld (f : LifeCycle → LifeCycle) (s : State) : (modLc f s).coresHeld = s.coresHeld := rfl
@[simp] theorem modLc_mgmtUp (f : LifeCycle → LifeCycle) (s : State) : (modLc f s).mgmtUp = s.mgmtUp := rfl
@[simp] theorem modLc_upsets (f : LifeCycle → LifeCycle) (s : State) : (modLc f s).upsets = s.upsets := rfl
@[simp] theorem modLc_cfg (f : LifeCycle → LifeCycle) (s : State) : (modLc f s).cfg = s.cfg := rfl
@[simp] theorem modLc_chans (f : LifeCycle → LifeCycle) (s : State) : (modLc f s).chans = s.chans := rfl
@[simp] theorem modLc_fallow (f : LifeCycle → LifeCycle) (s : State) : (modLc f s).fallow = s.fallow := rfl
@[simp] theorem modLc_hedgerow (f : LifeCycle → LifeCycle) (s : State) : (modLc f s).hedgerow = s.hedgerow := rfl
@[simp] theorem modLc_hayloft (f : LifeCycle → LifeCycle) (s : State) : (modLc f s).hayloft = s.hayloft := rfl
@[simp] theorem modLc_vault (f : LifeCycle → LifeCycle) (s : State) : (modLc f s).vault = s.vault := rfl
@[simp] theorem modLc_update (f : LifeCycle → LifeCycle) (s : State) : (modLc f s).update = s.update := rfl
@[simp] theorem modLc_banks (f : LifeCycle → LifeCycle) (s : State) : (modLc f s).banks = s.banks := rfl
@[simp] theorem modLc_cxs (f : LifeCycle → LifeCycle) (s : State) : (modLc f s).cxs = s.cxs := rfl
@[simp] theorem modLc_keys (f : LifeCycle → LifeCycle) (s : State) : (modLc f s).keys = s.keys := rfl
@[simp] theorem modLc_pke (f : LifeCycle → LifeCycle) (s : State) : (modLc f s).pke = s.pke := rfl
@[simp] theorem modLc_random (f : LifeCycle → LifeCycle) (s : State) : (modLc f s).random = s.random := rfl
@[simp] theorem modLc_journal (f : LifeCycle → LifeCycle) (s : State) : (modLc f s).journal = s.journal := rfl
@[simp] theorem modLc_heath (f : LifeCycle → LifeCycle) (s : State) : (modLc f s).heath = s.heath := rfl
@[simp] theorem modLc_wd (f : LifeCycle → LifeCycle) (s : State) : (modLc f s).wd = s.wd := rfl
@[simp] theorem modLc_timers (f : LifeCycle → LifeCycle) (s : State) : (modLc f s).timers = s.timers := rfl
@[simp] theorem modLc_timeouts (f : LifeCycle → LifeCycle) (s : State) : (modLc f s).timeouts = s.timeouts := rfl
@[simp] theorem modLc_cus (f : LifeCycle → LifeCycle) (s : State) : (modLc f s).cus = s.cus := rfl
@[simp] theorem modLc_tap (f : LifeCycle → LifeCycle) (s : State) : (modLc f s).tap = s.tap := rfl
@[simp] theorem modLc_spdm (f : LifeCycle → LifeCycle) (s : State) : (modLc f s).spdm = s.spdm := rfl
@[simp] theorem modLc_mports (f : LifeCycle → LifeCycle) (s : State) : (modLc f s).mports = s.mports := rfl
@[simp] theorem modLc_ports (f : LifeCycle → LifeCycle) (s : State) : (modLc f s).ports = s.ports := rfl

/-! ### modTap -/

@[simp] theorem modTap_tap (f : TestPort → TestPort) (s : State) : (modTap f s).tap = f s.tap := rfl
@[simp] theorem modTap_pending (f : TestPort → TestPort) (s : State) : (modTap f s).pending = s.pending := rfl
@[simp] theorem modTap_porPin (f : TestPort → TestPort) (s : State) : (modTap f s).porPin = s.porPin := rfl
@[simp] theorem modTap_straps (f : TestPort → TestPort) (s : State) : (modTap f s).straps = s.straps := rfl
@[simp] theorem modTap_deviceResetDue (f : TestPort → TestPort) (s : State) : (modTap f s).deviceResetDue = s.deviceResetDue := rfl
@[simp] theorem modTap_halted (f : TestPort → TestPort) (s : State) : (modTap f s).halted = s.halted := rfl
@[simp] theorem modTap_now (f : TestPort → TestPort) (s : State) : (modTap f s).now = s.now := rfl
@[simp] theorem modTap_tbUs (f : TestPort → TestPort) (s : State) : (modTap f s).tbUs = s.tbUs := rfl
@[simp] theorem modTap_tbEpoch (f : TestPort → TestPort) (s : State) : (modTap f s).tbEpoch = s.tbEpoch := rfl
@[simp] theorem modTap_refclk (f : TestPort → TestPort) (s : State) : (modTap f s).refclk = s.refclk := rfl
@[simp] theorem modTap_pllLock (f : TestPort → TestPort) (s : State) : (modTap f s).pllLock = s.pllLock := rfl
@[simp] theorem modTap_porN (f : TestPort → TestPort) (s : State) : (modTap f s).porN = s.porN := rfl
@[simp] theorem modTap_phase (f : TestPort → TestPort) (s : State) : (modTap f s).phase = s.phase := rfl
@[simp] theorem modTap_steps (f : TestPort → TestPort) (s : State) : (modTap f s).steps = s.steps := rfl
@[simp] theorem modTap_resetCause (f : TestPort → TestPort) (s : State) : (modTap f s).resetCause = s.resetCause := rfl
@[simp] theorem modTap_coresDown (f : TestPort → TestPort) (s : State) : (modTap f s).coresDown = s.coresDown := rfl
@[simp] theorem modTap_coresHeld (f : TestPort → TestPort) (s : State) : (modTap f s).coresHeld = s.coresHeld := rfl
@[simp] theorem modTap_mgmtUp (f : TestPort → TestPort) (s : State) : (modTap f s).mgmtUp = s.mgmtUp := rfl
@[simp] theorem modTap_upsets (f : TestPort → TestPort) (s : State) : (modTap f s).upsets = s.upsets := rfl
@[simp] theorem modTap_cfg (f : TestPort → TestPort) (s : State) : (modTap f s).cfg = s.cfg := rfl
@[simp] theorem modTap_chans (f : TestPort → TestPort) (s : State) : (modTap f s).chans = s.chans := rfl
@[simp] theorem modTap_fallow (f : TestPort → TestPort) (s : State) : (modTap f s).fallow = s.fallow := rfl
@[simp] theorem modTap_hedgerow (f : TestPort → TestPort) (s : State) : (modTap f s).hedgerow = s.hedgerow := rfl
@[simp] theorem modTap_hayloft (f : TestPort → TestPort) (s : State) : (modTap f s).hayloft = s.hayloft := rfl
@[simp] theorem modTap_vault (f : TestPort → TestPort) (s : State) : (modTap f s).vault = s.vault := rfl
@[simp] theorem modTap_update (f : TestPort → TestPort) (s : State) : (modTap f s).update = s.update := rfl
@[simp] theorem modTap_banks (f : TestPort → TestPort) (s : State) : (modTap f s).banks = s.banks := rfl
@[simp] theorem modTap_cxs (f : TestPort → TestPort) (s : State) : (modTap f s).cxs = s.cxs := rfl
@[simp] theorem modTap_keys (f : TestPort → TestPort) (s : State) : (modTap f s).keys = s.keys := rfl
@[simp] theorem modTap_pke (f : TestPort → TestPort) (s : State) : (modTap f s).pke = s.pke := rfl
@[simp] theorem modTap_random (f : TestPort → TestPort) (s : State) : (modTap f s).random = s.random := rfl
@[simp] theorem modTap_journal (f : TestPort → TestPort) (s : State) : (modTap f s).journal = s.journal := rfl
@[simp] theorem modTap_heath (f : TestPort → TestPort) (s : State) : (modTap f s).heath = s.heath := rfl
@[simp] theorem modTap_wd (f : TestPort → TestPort) (s : State) : (modTap f s).wd = s.wd := rfl
@[simp] theorem modTap_timers (f : TestPort → TestPort) (s : State) : (modTap f s).timers = s.timers := rfl
@[simp] theorem modTap_timeouts (f : TestPort → TestPort) (s : State) : (modTap f s).timeouts = s.timeouts := rfl
@[simp] theorem modTap_cus (f : TestPort → TestPort) (s : State) : (modTap f s).cus = s.cus := rfl
@[simp] theorem modTap_lc (f : TestPort → TestPort) (s : State) : (modTap f s).lc = s.lc := rfl
@[simp] theorem modTap_spdm (f : TestPort → TestPort) (s : State) : (modTap f s).spdm = s.spdm := rfl
@[simp] theorem modTap_mports (f : TestPort → TestPort) (s : State) : (modTap f s).mports = s.mports := rfl
@[simp] theorem modTap_ports (f : TestPort → TestPort) (s : State) : (modTap f s).ports = s.ports := rfl

/-! ### modSpdm -/

@[simp] theorem modSpdm_spdm (f : Spdm → Spdm) (s : State) : (modSpdm f s).spdm = f s.spdm := rfl
@[simp] theorem modSpdm_pending (f : Spdm → Spdm) (s : State) : (modSpdm f s).pending = s.pending := rfl
@[simp] theorem modSpdm_porPin (f : Spdm → Spdm) (s : State) : (modSpdm f s).porPin = s.porPin := rfl
@[simp] theorem modSpdm_straps (f : Spdm → Spdm) (s : State) : (modSpdm f s).straps = s.straps := rfl
@[simp] theorem modSpdm_deviceResetDue (f : Spdm → Spdm) (s : State) : (modSpdm f s).deviceResetDue = s.deviceResetDue := rfl
@[simp] theorem modSpdm_halted (f : Spdm → Spdm) (s : State) : (modSpdm f s).halted = s.halted := rfl
@[simp] theorem modSpdm_now (f : Spdm → Spdm) (s : State) : (modSpdm f s).now = s.now := rfl
@[simp] theorem modSpdm_tbUs (f : Spdm → Spdm) (s : State) : (modSpdm f s).tbUs = s.tbUs := rfl
@[simp] theorem modSpdm_tbEpoch (f : Spdm → Spdm) (s : State) : (modSpdm f s).tbEpoch = s.tbEpoch := rfl
@[simp] theorem modSpdm_refclk (f : Spdm → Spdm) (s : State) : (modSpdm f s).refclk = s.refclk := rfl
@[simp] theorem modSpdm_pllLock (f : Spdm → Spdm) (s : State) : (modSpdm f s).pllLock = s.pllLock := rfl
@[simp] theorem modSpdm_porN (f : Spdm → Spdm) (s : State) : (modSpdm f s).porN = s.porN := rfl
@[simp] theorem modSpdm_phase (f : Spdm → Spdm) (s : State) : (modSpdm f s).phase = s.phase := rfl
@[simp] theorem modSpdm_steps (f : Spdm → Spdm) (s : State) : (modSpdm f s).steps = s.steps := rfl
@[simp] theorem modSpdm_resetCause (f : Spdm → Spdm) (s : State) : (modSpdm f s).resetCause = s.resetCause := rfl
@[simp] theorem modSpdm_coresDown (f : Spdm → Spdm) (s : State) : (modSpdm f s).coresDown = s.coresDown := rfl
@[simp] theorem modSpdm_coresHeld (f : Spdm → Spdm) (s : State) : (modSpdm f s).coresHeld = s.coresHeld := rfl
@[simp] theorem modSpdm_mgmtUp (f : Spdm → Spdm) (s : State) : (modSpdm f s).mgmtUp = s.mgmtUp := rfl
@[simp] theorem modSpdm_upsets (f : Spdm → Spdm) (s : State) : (modSpdm f s).upsets = s.upsets := rfl
@[simp] theorem modSpdm_cfg (f : Spdm → Spdm) (s : State) : (modSpdm f s).cfg = s.cfg := rfl
@[simp] theorem modSpdm_chans (f : Spdm → Spdm) (s : State) : (modSpdm f s).chans = s.chans := rfl
@[simp] theorem modSpdm_fallow (f : Spdm → Spdm) (s : State) : (modSpdm f s).fallow = s.fallow := rfl
@[simp] theorem modSpdm_hedgerow (f : Spdm → Spdm) (s : State) : (modSpdm f s).hedgerow = s.hedgerow := rfl
@[simp] theorem modSpdm_hayloft (f : Spdm → Spdm) (s : State) : (modSpdm f s).hayloft = s.hayloft := rfl
@[simp] theorem modSpdm_vault (f : Spdm → Spdm) (s : State) : (modSpdm f s).vault = s.vault := rfl
@[simp] theorem modSpdm_update (f : Spdm → Spdm) (s : State) : (modSpdm f s).update = s.update := rfl
@[simp] theorem modSpdm_banks (f : Spdm → Spdm) (s : State) : (modSpdm f s).banks = s.banks := rfl
@[simp] theorem modSpdm_cxs (f : Spdm → Spdm) (s : State) : (modSpdm f s).cxs = s.cxs := rfl
@[simp] theorem modSpdm_keys (f : Spdm → Spdm) (s : State) : (modSpdm f s).keys = s.keys := rfl
@[simp] theorem modSpdm_pke (f : Spdm → Spdm) (s : State) : (modSpdm f s).pke = s.pke := rfl
@[simp] theorem modSpdm_random (f : Spdm → Spdm) (s : State) : (modSpdm f s).random = s.random := rfl
@[simp] theorem modSpdm_journal (f : Spdm → Spdm) (s : State) : (modSpdm f s).journal = s.journal := rfl
@[simp] theorem modSpdm_heath (f : Spdm → Spdm) (s : State) : (modSpdm f s).heath = s.heath := rfl
@[simp] theorem modSpdm_wd (f : Spdm → Spdm) (s : State) : (modSpdm f s).wd = s.wd := rfl
@[simp] theorem modSpdm_timers (f : Spdm → Spdm) (s : State) : (modSpdm f s).timers = s.timers := rfl
@[simp] theorem modSpdm_timeouts (f : Spdm → Spdm) (s : State) : (modSpdm f s).timeouts = s.timeouts := rfl
@[simp] theorem modSpdm_cus (f : Spdm → Spdm) (s : State) : (modSpdm f s).cus = s.cus := rfl
@[simp] theorem modSpdm_lc (f : Spdm → Spdm) (s : State) : (modSpdm f s).lc = s.lc := rfl
@[simp] theorem modSpdm_tap (f : Spdm → Spdm) (s : State) : (modSpdm f s).tap = s.tap := rfl
@[simp] theorem modSpdm_mports (f : Spdm → Spdm) (s : State) : (modSpdm f s).mports = s.mports := rfl
@[simp] theorem modSpdm_ports (f : Spdm → Spdm) (s : State) : (modSpdm f s).ports = s.ports := rfl

/-! ### modFallow -/

@[simp] theorem modFallow_fallow (f : Fallow → Fallow) (s : State) : (modFallow f s).fallow = f s.fallow := rfl
@[simp] theorem modFallow_pending (f : Fallow → Fallow) (s : State) : (modFallow f s).pending = s.pending := rfl
@[simp] theorem modFallow_porPin (f : Fallow → Fallow) (s : State) : (modFallow f s).porPin = s.porPin := rfl
@[simp] theorem modFallow_straps (f : Fallow → Fallow) (s : State) : (modFallow f s).straps = s.straps := rfl
@[simp] theorem modFallow_deviceResetDue (f : Fallow → Fallow) (s : State) : (modFallow f s).deviceResetDue = s.deviceResetDue := rfl
@[simp] theorem modFallow_halted (f : Fallow → Fallow) (s : State) : (modFallow f s).halted = s.halted := rfl
@[simp] theorem modFallow_now (f : Fallow → Fallow) (s : State) : (modFallow f s).now = s.now := rfl
@[simp] theorem modFallow_tbUs (f : Fallow → Fallow) (s : State) : (modFallow f s).tbUs = s.tbUs := rfl
@[simp] theorem modFallow_tbEpoch (f : Fallow → Fallow) (s : State) : (modFallow f s).tbEpoch = s.tbEpoch := rfl
@[simp] theorem modFallow_refclk (f : Fallow → Fallow) (s : State) : (modFallow f s).refclk = s.refclk := rfl
@[simp] theorem modFallow_pllLock (f : Fallow → Fallow) (s : State) : (modFallow f s).pllLock = s.pllLock := rfl
@[simp] theorem modFallow_porN (f : Fallow → Fallow) (s : State) : (modFallow f s).porN = s.porN := rfl
@[simp] theorem modFallow_phase (f : Fallow → Fallow) (s : State) : (modFallow f s).phase = s.phase := rfl
@[simp] theorem modFallow_steps (f : Fallow → Fallow) (s : State) : (modFallow f s).steps = s.steps := rfl
@[simp] theorem modFallow_resetCause (f : Fallow → Fallow) (s : State) : (modFallow f s).resetCause = s.resetCause := rfl
@[simp] theorem modFallow_coresDown (f : Fallow → Fallow) (s : State) : (modFallow f s).coresDown = s.coresDown := rfl
@[simp] theorem modFallow_coresHeld (f : Fallow → Fallow) (s : State) : (modFallow f s).coresHeld = s.coresHeld := rfl
@[simp] theorem modFallow_mgmtUp (f : Fallow → Fallow) (s : State) : (modFallow f s).mgmtUp = s.mgmtUp := rfl
@[simp] theorem modFallow_upsets (f : Fallow → Fallow) (s : State) : (modFallow f s).upsets = s.upsets := rfl
@[simp] theorem modFallow_cfg (f : Fallow → Fallow) (s : State) : (modFallow f s).cfg = s.cfg := rfl
@[simp] theorem modFallow_chans (f : Fallow → Fallow) (s : State) : (modFallow f s).chans = s.chans := rfl
@[simp] theorem modFallow_hedgerow (f : Fallow → Fallow) (s : State) : (modFallow f s).hedgerow = s.hedgerow := rfl
@[simp] theorem modFallow_hayloft (f : Fallow → Fallow) (s : State) : (modFallow f s).hayloft = s.hayloft := rfl
@[simp] theorem modFallow_vault (f : Fallow → Fallow) (s : State) : (modFallow f s).vault = s.vault := rfl
@[simp] theorem modFallow_update (f : Fallow → Fallow) (s : State) : (modFallow f s).update = s.update := rfl
@[simp] theorem modFallow_banks (f : Fallow → Fallow) (s : State) : (modFallow f s).banks = s.banks := rfl
@[simp] theorem modFallow_cxs (f : Fallow → Fallow) (s : State) : (modFallow f s).cxs = s.cxs := rfl
@[simp] theorem modFallow_keys (f : Fallow → Fallow) (s : State) : (modFallow f s).keys = s.keys := rfl
@[simp] theorem modFallow_pke (f : Fallow → Fallow) (s : State) : (modFallow f s).pke = s.pke := rfl
@[simp] theorem modFallow_random (f : Fallow → Fallow) (s : State) : (modFallow f s).random = s.random := rfl
@[simp] theorem modFallow_journal (f : Fallow → Fallow) (s : State) : (modFallow f s).journal = s.journal := rfl
@[simp] theorem modFallow_heath (f : Fallow → Fallow) (s : State) : (modFallow f s).heath = s.heath := rfl
@[simp] theorem modFallow_wd (f : Fallow → Fallow) (s : State) : (modFallow f s).wd = s.wd := rfl
@[simp] theorem modFallow_timers (f : Fallow → Fallow) (s : State) : (modFallow f s).timers = s.timers := rfl
@[simp] theorem modFallow_timeouts (f : Fallow → Fallow) (s : State) : (modFallow f s).timeouts = s.timeouts := rfl
@[simp] theorem modFallow_cus (f : Fallow → Fallow) (s : State) : (modFallow f s).cus = s.cus := rfl
@[simp] theorem modFallow_lc (f : Fallow → Fallow) (s : State) : (modFallow f s).lc = s.lc := rfl
@[simp] theorem modFallow_tap (f : Fallow → Fallow) (s : State) : (modFallow f s).tap = s.tap := rfl
@[simp] theorem modFallow_spdm (f : Fallow → Fallow) (s : State) : (modFallow f s).spdm = s.spdm := rfl
@[simp] theorem modFallow_mports (f : Fallow → Fallow) (s : State) : (modFallow f s).mports = s.mports := rfl
@[simp] theorem modFallow_ports (f : Fallow → Fallow) (s : State) : (modFallow f s).ports = s.ports := rfl

/-! ### modChan -/

@[simp] theorem modChan_self (c : Chan) (f : Channel → Channel) (s : State) : (modChan c f s).chans[c] = f s.chans[c] := by
  simp [modChan]
theorem modChan_other {c d : Chan} (h : c ≠ d) (f : Channel → Channel) (s : State) : (modChan c f s).chans[d] = s.chans[d] := by
  have : c.val ≠ d.val := fun e => h (Fin.ext e)
  simp [modChan, this]
@[simp] theorem modChan_pending (c : Chan) (f : Channel → Channel) (s : State) : (modChan c f s).pending = s.pending := rfl
@[simp] theorem modChan_porPin (c : Chan) (f : Channel → Channel) (s : State) : (modChan c f s).porPin = s.porPin := rfl
@[simp] theorem modChan_straps (c : Chan) (f : Channel → Channel) (s : State) : (modChan c f s).straps = s.straps := rfl
@[simp] theorem modChan_deviceResetDue (c : Chan) (f : Channel → Channel) (s : State) : (modChan c f s).deviceResetDue = s.deviceResetDue := rfl
@[simp] theorem modChan_halted (c : Chan) (f : Channel → Channel) (s : State) : (modChan c f s).halted = s.halted := rfl
@[simp] theorem modChan_now (c : Chan) (f : Channel → Channel) (s : State) : (modChan c f s).now = s.now := rfl
@[simp] theorem modChan_tbUs (c : Chan) (f : Channel → Channel) (s : State) : (modChan c f s).tbUs = s.tbUs := rfl
@[simp] theorem modChan_tbEpoch (c : Chan) (f : Channel → Channel) (s : State) : (modChan c f s).tbEpoch = s.tbEpoch := rfl
@[simp] theorem modChan_refclk (c : Chan) (f : Channel → Channel) (s : State) : (modChan c f s).refclk = s.refclk := rfl
@[simp] theorem modChan_pllLock (c : Chan) (f : Channel → Channel) (s : State) : (modChan c f s).pllLock = s.pllLock := rfl
@[simp] theorem modChan_porN (c : Chan) (f : Channel → Channel) (s : State) : (modChan c f s).porN = s.porN := rfl
@[simp] theorem modChan_phase (c : Chan) (f : Channel → Channel) (s : State) : (modChan c f s).phase = s.phase := rfl
@[simp] theorem modChan_steps (c : Chan) (f : Channel → Channel) (s : State) : (modChan c f s).steps = s.steps := rfl
@[simp] theorem modChan_resetCause (c : Chan) (f : Channel → Channel) (s : State) : (modChan c f s).resetCause = s.resetCause := rfl
@[simp] theorem modChan_coresDown (c : Chan) (f : Channel → Channel) (s : State) : (modChan c f s).coresDown = s.coresDown := rfl
@[simp] theorem modChan_coresHeld (c : Chan) (f : Channel → Channel) (s : State) : (modChan c f s).coresHeld = s.coresHeld := rfl
@[simp] theorem modChan_mgmtUp (c : Chan) (f : Channel → Channel) (s : State) : (modChan c f s).mgmtUp = s.mgmtUp := rfl
@[simp] theorem modChan_upsets (c : Chan) (f : Channel → Channel) (s : State) : (modChan c f s).upsets = s.upsets := rfl
@[simp] theorem modChan_cfg (c : Chan) (f : Channel → Channel) (s : State) : (modChan c f s).cfg = s.cfg := rfl
@[simp] theorem modChan_fallow (c : Chan) (f : Channel → Channel) (s : State) : (modChan c f s).fallow = s.fallow := rfl
@[simp] theorem modChan_hedgerow (c : Chan) (f : Channel → Channel) (s : State) : (modChan c f s).hedgerow = s.hedgerow := rfl
@[simp] theorem modChan_hayloft (c : Chan) (f : Channel → Channel) (s : State) : (modChan c f s).hayloft = s.hayloft := rfl
@[simp] theorem modChan_vault (c : Chan) (f : Channel → Channel) (s : State) : (modChan c f s).vault = s.vault := rfl
@[simp] theorem modChan_update (c : Chan) (f : Channel → Channel) (s : State) : (modChan c f s).update = s.update := rfl
@[simp] theorem modChan_banks (c : Chan) (f : Channel → Channel) (s : State) : (modChan c f s).banks = s.banks := rfl
@[simp] theorem modChan_cxs (c : Chan) (f : Channel → Channel) (s : State) : (modChan c f s).cxs = s.cxs := rfl
@[simp] theorem modChan_keys (c : Chan) (f : Channel → Channel) (s : State) : (modChan c f s).keys = s.keys := rfl
@[simp] theorem modChan_pke (c : Chan) (f : Channel → Channel) (s : State) : (modChan c f s).pke = s.pke := rfl
@[simp] theorem modChan_random (c : Chan) (f : Channel → Channel) (s : State) : (modChan c f s).random = s.random := rfl
@[simp] theorem modChan_journal (c : Chan) (f : Channel → Channel) (s : State) : (modChan c f s).journal = s.journal := rfl
@[simp] theorem modChan_heath (c : Chan) (f : Channel → Channel) (s : State) : (modChan c f s).heath = s.heath := rfl
@[simp] theorem modChan_wd (c : Chan) (f : Channel → Channel) (s : State) : (modChan c f s).wd = s.wd := rfl
@[simp] theorem modChan_timers (c : Chan) (f : Channel → Channel) (s : State) : (modChan c f s).timers = s.timers := rfl
@[simp] theorem modChan_timeouts (c : Chan) (f : Channel → Channel) (s : State) : (modChan c f s).timeouts = s.timeouts := rfl
@[simp] theorem modChan_cus (c : Chan) (f : Channel → Channel) (s : State) : (modChan c f s).cus = s.cus := rfl
@[simp] theorem modChan_lc (c : Chan) (f : Channel → Channel) (s : State) : (modChan c f s).lc = s.lc := rfl
@[simp] theorem modChan_tap (c : Chan) (f : Channel → Channel) (s : State) : (modChan c f s).tap = s.tap := rfl
@[simp] theorem modChan_spdm (c : Chan) (f : Channel → Channel) (s : State) : (modChan c f s).spdm = s.spdm := rfl
@[simp] theorem modChan_mports (c : Chan) (f : Channel → Channel) (s : State) : (modChan c f s).mports = s.mports := rfl
@[simp] theorem modChan_ports (c : Chan) (f : Channel → Channel) (s : State) : (modChan c f s).ports = s.ports := rfl

/-! ### modMport -/

@[simp] theorem modMport_self (p : MPort) (f : MgmtPort → MgmtPort) (s : State) : (modMport p f s).mports[p] = f s.mports[p] := by
  simp [modMport]
theorem modMport_other {p d : MPort} (h : p ≠ d) (f : MgmtPort → MgmtPort) (s : State) : (modMport p f s).mports[d] = s.mports[d] := by
  have : p.val ≠ d.val := fun e => h (Fin.ext e)
  simp [modMport, this]
@[simp] theorem modMport_pending (p : MPort) (f : MgmtPort → MgmtPort) (s : State) : (modMport p f s).pending = s.pending := rfl
@[simp] theorem modMport_porPin (p : MPort) (f : MgmtPort → MgmtPort) (s : State) : (modMport p f s).porPin = s.porPin := rfl
@[simp] theorem modMport_straps (p : MPort) (f : MgmtPort → MgmtPort) (s : State) : (modMport p f s).straps = s.straps := rfl
@[simp] theorem modMport_deviceResetDue (p : MPort) (f : MgmtPort → MgmtPort) (s : State) : (modMport p f s).deviceResetDue = s.deviceResetDue := rfl
@[simp] theorem modMport_halted (p : MPort) (f : MgmtPort → MgmtPort) (s : State) : (modMport p f s).halted = s.halted := rfl
@[simp] theorem modMport_now (p : MPort) (f : MgmtPort → MgmtPort) (s : State) : (modMport p f s).now = s.now := rfl
@[simp] theorem modMport_tbUs (p : MPort) (f : MgmtPort → MgmtPort) (s : State) : (modMport p f s).tbUs = s.tbUs := rfl
@[simp] theorem modMport_tbEpoch (p : MPort) (f : MgmtPort → MgmtPort) (s : State) : (modMport p f s).tbEpoch = s.tbEpoch := rfl
@[simp] theorem modMport_refclk (p : MPort) (f : MgmtPort → MgmtPort) (s : State) : (modMport p f s).refclk = s.refclk := rfl
@[simp] theorem modMport_pllLock (p : MPort) (f : MgmtPort → MgmtPort) (s : State) : (modMport p f s).pllLock = s.pllLock := rfl
@[simp] theorem modMport_porN (p : MPort) (f : MgmtPort → MgmtPort) (s : State) : (modMport p f s).porN = s.porN := rfl
@[simp] theorem modMport_phase (p : MPort) (f : MgmtPort → MgmtPort) (s : State) : (modMport p f s).phase = s.phase := rfl
@[simp] theorem modMport_steps (p : MPort) (f : MgmtPort → MgmtPort) (s : State) : (modMport p f s).steps = s.steps := rfl
@[simp] theorem modMport_resetCause (p : MPort) (f : MgmtPort → MgmtPort) (s : State) : (modMport p f s).resetCause = s.resetCause := rfl
@[simp] theorem modMport_coresDown (p : MPort) (f : MgmtPort → MgmtPort) (s : State) : (modMport p f s).coresDown = s.coresDown := rfl
@[simp] theorem modMport_coresHeld (p : MPort) (f : MgmtPort → MgmtPort) (s : State) : (modMport p f s).coresHeld = s.coresHeld := rfl
@[simp] theorem modMport_mgmtUp (p : MPort) (f : MgmtPort → MgmtPort) (s : State) : (modMport p f s).mgmtUp = s.mgmtUp := rfl
@[simp] theorem modMport_upsets (p : MPort) (f : MgmtPort → MgmtPort) (s : State) : (modMport p f s).upsets = s.upsets := rfl
@[simp] theorem modMport_cfg (p : MPort) (f : MgmtPort → MgmtPort) (s : State) : (modMport p f s).cfg = s.cfg := rfl
@[simp] theorem modMport_chans (p : MPort) (f : MgmtPort → MgmtPort) (s : State) : (modMport p f s).chans = s.chans := rfl
@[simp] theorem modMport_fallow (p : MPort) (f : MgmtPort → MgmtPort) (s : State) : (modMport p f s).fallow = s.fallow := rfl
@[simp] theorem modMport_hedgerow (p : MPort) (f : MgmtPort → MgmtPort) (s : State) : (modMport p f s).hedgerow = s.hedgerow := rfl
@[simp] theorem modMport_hayloft (p : MPort) (f : MgmtPort → MgmtPort) (s : State) : (modMport p f s).hayloft = s.hayloft := rfl
@[simp] theorem modMport_vault (p : MPort) (f : MgmtPort → MgmtPort) (s : State) : (modMport p f s).vault = s.vault := rfl
@[simp] theorem modMport_update (p : MPort) (f : MgmtPort → MgmtPort) (s : State) : (modMport p f s).update = s.update := rfl
@[simp] theorem modMport_banks (p : MPort) (f : MgmtPort → MgmtPort) (s : State) : (modMport p f s).banks = s.banks := rfl
@[simp] theorem modMport_cxs (p : MPort) (f : MgmtPort → MgmtPort) (s : State) : (modMport p f s).cxs = s.cxs := rfl
@[simp] theorem modMport_keys (p : MPort) (f : MgmtPort → MgmtPort) (s : State) : (modMport p f s).keys = s.keys := rfl
@[simp] theorem modMport_pke (p : MPort) (f : MgmtPort → MgmtPort) (s : State) : (modMport p f s).pke = s.pke := rfl
@[simp] theorem modMport_random (p : MPort) (f : MgmtPort → MgmtPort) (s : State) : (modMport p f s).random = s.random := rfl
@[simp] theorem modMport_journal (p : MPort) (f : MgmtPort → MgmtPort) (s : State) : (modMport p f s).journal = s.journal := rfl
@[simp] theorem modMport_heath (p : MPort) (f : MgmtPort → MgmtPort) (s : State) : (modMport p f s).heath = s.heath := rfl
@[simp] theorem modMport_wd (p : MPort) (f : MgmtPort → MgmtPort) (s : State) : (modMport p f s).wd = s.wd := rfl
@[simp] theorem modMport_timers (p : MPort) (f : MgmtPort → MgmtPort) (s : State) : (modMport p f s).timers = s.timers := rfl
@[simp] theorem modMport_timeouts (p : MPort) (f : MgmtPort → MgmtPort) (s : State) : (modMport p f s).timeouts = s.timeouts := rfl
@[simp] theorem modMport_cus (p : MPort) (f : MgmtPort → MgmtPort) (s : State) : (modMport p f s).cus = s.cus := rfl
@[simp] theorem modMport_lc (p : MPort) (f : MgmtPort → MgmtPort) (s : State) : (modMport p f s).lc = s.lc := rfl
@[simp] theorem modMport_tap (p : MPort) (f : MgmtPort → MgmtPort) (s : State) : (modMport p f s).tap = s.tap := rfl
@[simp] theorem modMport_spdm (p : MPort) (f : MgmtPort → MgmtPort) (s : State) : (modMport p f s).spdm = s.spdm := rfl
@[simp] theorem modMport_ports (p : MPort) (f : MgmtPort → MgmtPort) (s : State) : (modMport p f s).ports = s.ports := rfl

/-! ### modBank -/

@[simp] theorem modBank_self (b : Fin 8) (f : Bank → Bank) (s : State) : (modBank b f s).banks[b] = f s.banks[b] := by
  simp [modBank]
theorem modBank_other {b d : Fin 8} (h : b ≠ d) (f : Bank → Bank) (s : State) : (modBank b f s).banks[d] = s.banks[d] := by
  have : b.val ≠ d.val := fun e => h (Fin.ext e)
  simp [modBank, this]
@[simp] theorem modBank_pending (b : Fin 8) (f : Bank → Bank) (s : State) : (modBank b f s).pending = s.pending := rfl
@[simp] theorem modBank_porPin (b : Fin 8) (f : Bank → Bank) (s : State) : (modBank b f s).porPin = s.porPin := rfl
@[simp] theorem modBank_straps (b : Fin 8) (f : Bank → Bank) (s : State) : (modBank b f s).straps = s.straps := rfl
@[simp] theorem modBank_deviceResetDue (b : Fin 8) (f : Bank → Bank) (s : State) : (modBank b f s).deviceResetDue = s.deviceResetDue := rfl
@[simp] theorem modBank_halted (b : Fin 8) (f : Bank → Bank) (s : State) : (modBank b f s).halted = s.halted := rfl
@[simp] theorem modBank_now (b : Fin 8) (f : Bank → Bank) (s : State) : (modBank b f s).now = s.now := rfl
@[simp] theorem modBank_tbUs (b : Fin 8) (f : Bank → Bank) (s : State) : (modBank b f s).tbUs = s.tbUs := rfl
@[simp] theorem modBank_tbEpoch (b : Fin 8) (f : Bank → Bank) (s : State) : (modBank b f s).tbEpoch = s.tbEpoch := rfl
@[simp] theorem modBank_refclk (b : Fin 8) (f : Bank → Bank) (s : State) : (modBank b f s).refclk = s.refclk := rfl
@[simp] theorem modBank_pllLock (b : Fin 8) (f : Bank → Bank) (s : State) : (modBank b f s).pllLock = s.pllLock := rfl
@[simp] theorem modBank_porN (b : Fin 8) (f : Bank → Bank) (s : State) : (modBank b f s).porN = s.porN := rfl
@[simp] theorem modBank_phase (b : Fin 8) (f : Bank → Bank) (s : State) : (modBank b f s).phase = s.phase := rfl
@[simp] theorem modBank_steps (b : Fin 8) (f : Bank → Bank) (s : State) : (modBank b f s).steps = s.steps := rfl
@[simp] theorem modBank_resetCause (b : Fin 8) (f : Bank → Bank) (s : State) : (modBank b f s).resetCause = s.resetCause := rfl
@[simp] theorem modBank_coresDown (b : Fin 8) (f : Bank → Bank) (s : State) : (modBank b f s).coresDown = s.coresDown := rfl
@[simp] theorem modBank_coresHeld (b : Fin 8) (f : Bank → Bank) (s : State) : (modBank b f s).coresHeld = s.coresHeld := rfl
@[simp] theorem modBank_mgmtUp (b : Fin 8) (f : Bank → Bank) (s : State) : (modBank b f s).mgmtUp = s.mgmtUp := rfl
@[simp] theorem modBank_upsets (b : Fin 8) (f : Bank → Bank) (s : State) : (modBank b f s).upsets = s.upsets := rfl
@[simp] theorem modBank_cfg (b : Fin 8) (f : Bank → Bank) (s : State) : (modBank b f s).cfg = s.cfg := rfl
@[simp] theorem modBank_chans (b : Fin 8) (f : Bank → Bank) (s : State) : (modBank b f s).chans = s.chans := rfl
@[simp] theorem modBank_fallow (b : Fin 8) (f : Bank → Bank) (s : State) : (modBank b f s).fallow = s.fallow := rfl
@[simp] theorem modBank_hedgerow (b : Fin 8) (f : Bank → Bank) (s : State) : (modBank b f s).hedgerow = s.hedgerow := rfl
@[simp] theorem modBank_hayloft (b : Fin 8) (f : Bank → Bank) (s : State) : (modBank b f s).hayloft = s.hayloft := rfl
@[simp] theorem modBank_vault (b : Fin 8) (f : Bank → Bank) (s : State) : (modBank b f s).vault = s.vault := rfl
@[simp] theorem modBank_update (b : Fin 8) (f : Bank → Bank) (s : State) : (modBank b f s).update = s.update := rfl
@[simp] theorem modBank_cxs (b : Fin 8) (f : Bank → Bank) (s : State) : (modBank b f s).cxs = s.cxs := rfl
@[simp] theorem modBank_keys (b : Fin 8) (f : Bank → Bank) (s : State) : (modBank b f s).keys = s.keys := rfl
@[simp] theorem modBank_pke (b : Fin 8) (f : Bank → Bank) (s : State) : (modBank b f s).pke = s.pke := rfl
@[simp] theorem modBank_random (b : Fin 8) (f : Bank → Bank) (s : State) : (modBank b f s).random = s.random := rfl
@[simp] theorem modBank_journal (b : Fin 8) (f : Bank → Bank) (s : State) : (modBank b f s).journal = s.journal := rfl
@[simp] theorem modBank_heath (b : Fin 8) (f : Bank → Bank) (s : State) : (modBank b f s).heath = s.heath := rfl
@[simp] theorem modBank_wd (b : Fin 8) (f : Bank → Bank) (s : State) : (modBank b f s).wd = s.wd := rfl
@[simp] theorem modBank_timers (b : Fin 8) (f : Bank → Bank) (s : State) : (modBank b f s).timers = s.timers := rfl
@[simp] theorem modBank_timeouts (b : Fin 8) (f : Bank → Bank) (s : State) : (modBank b f s).timeouts = s.timeouts := rfl
@[simp] theorem modBank_cus (b : Fin 8) (f : Bank → Bank) (s : State) : (modBank b f s).cus = s.cus := rfl
@[simp] theorem modBank_lc (b : Fin 8) (f : Bank → Bank) (s : State) : (modBank b f s).lc = s.lc := rfl
@[simp] theorem modBank_tap (b : Fin 8) (f : Bank → Bank) (s : State) : (modBank b f s).tap = s.tap := rfl
@[simp] theorem modBank_spdm (b : Fin 8) (f : Bank → Bank) (s : State) : (modBank b f s).spdm = s.spdm := rfl
@[simp] theorem modBank_mports (b : Fin 8) (f : Bank → Bank) (s : State) : (modBank b f s).mports = s.mports := rfl
@[simp] theorem modBank_ports (b : Fin 8) (f : Bank → Bank) (s : State) : (modBank b f s).ports = s.ports := rfl

/-! ### modCx -/

@[simp] theorem modCx_self (c : Fin 4) (f : CxJob → CxJob) (s : State) : (modCx c f s).cxs[c] = f s.cxs[c] := by
  simp [modCx]
theorem modCx_other {c d : Fin 4} (h : c ≠ d) (f : CxJob → CxJob) (s : State) : (modCx c f s).cxs[d] = s.cxs[d] := by
  have : c.val ≠ d.val := fun e => h (Fin.ext e)
  simp [modCx, this]
@[simp] theorem modCx_pending (c : Fin 4) (f : CxJob → CxJob) (s : State) : (modCx c f s).pending = s.pending := rfl
@[simp] theorem modCx_porPin (c : Fin 4) (f : CxJob → CxJob) (s : State) : (modCx c f s).porPin = s.porPin := rfl
@[simp] theorem modCx_straps (c : Fin 4) (f : CxJob → CxJob) (s : State) : (modCx c f s).straps = s.straps := rfl
@[simp] theorem modCx_deviceResetDue (c : Fin 4) (f : CxJob → CxJob) (s : State) : (modCx c f s).deviceResetDue = s.deviceResetDue := rfl
@[simp] theorem modCx_halted (c : Fin 4) (f : CxJob → CxJob) (s : State) : (modCx c f s).halted = s.halted := rfl
@[simp] theorem modCx_now (c : Fin 4) (f : CxJob → CxJob) (s : State) : (modCx c f s).now = s.now := rfl
@[simp] theorem modCx_tbUs (c : Fin 4) (f : CxJob → CxJob) (s : State) : (modCx c f s).tbUs = s.tbUs := rfl
@[simp] theorem modCx_tbEpoch (c : Fin 4) (f : CxJob → CxJob) (s : State) : (modCx c f s).tbEpoch = s.tbEpoch := rfl
@[simp] theorem modCx_refclk (c : Fin 4) (f : CxJob → CxJob) (s : State) : (modCx c f s).refclk = s.refclk := rfl
@[simp] theorem modCx_pllLock (c : Fin 4) (f : CxJob → CxJob) (s : State) : (modCx c f s).pllLock = s.pllLock := rfl
@[simp] theorem modCx_porN (c : Fin 4) (f : CxJob → CxJob) (s : State) : (modCx c f s).porN = s.porN := rfl
@[simp] theorem modCx_phase (c : Fin 4) (f : CxJob → CxJob) (s : State) : (modCx c f s).phase = s.phase := rfl
@[simp] theorem modCx_steps (c : Fin 4) (f : CxJob → CxJob) (s : State) : (modCx c f s).steps = s.steps := rfl
@[simp] theorem modCx_resetCause (c : Fin 4) (f : CxJob → CxJob) (s : State) : (modCx c f s).resetCause = s.resetCause := rfl
@[simp] theorem modCx_coresDown (c : Fin 4) (f : CxJob → CxJob) (s : State) : (modCx c f s).coresDown = s.coresDown := rfl
@[simp] theorem modCx_coresHeld (c : Fin 4) (f : CxJob → CxJob) (s : State) : (modCx c f s).coresHeld = s.coresHeld := rfl
@[simp] theorem modCx_mgmtUp (c : Fin 4) (f : CxJob → CxJob) (s : State) : (modCx c f s).mgmtUp = s.mgmtUp := rfl
@[simp] theorem modCx_upsets (c : Fin 4) (f : CxJob → CxJob) (s : State) : (modCx c f s).upsets = s.upsets := rfl
@[simp] theorem modCx_cfg (c : Fin 4) (f : CxJob → CxJob) (s : State) : (modCx c f s).cfg = s.cfg := rfl
@[simp] theorem modCx_chans (c : Fin 4) (f : CxJob → CxJob) (s : State) : (modCx c f s).chans = s.chans := rfl
@[simp] theorem modCx_fallow (c : Fin 4) (f : CxJob → CxJob) (s : State) : (modCx c f s).fallow = s.fallow := rfl
@[simp] theorem modCx_hedgerow (c : Fin 4) (f : CxJob → CxJob) (s : State) : (modCx c f s).hedgerow = s.hedgerow := rfl
@[simp] theorem modCx_hayloft (c : Fin 4) (f : CxJob → CxJob) (s : State) : (modCx c f s).hayloft = s.hayloft := rfl
@[simp] theorem modCx_vault (c : Fin 4) (f : CxJob → CxJob) (s : State) : (modCx c f s).vault = s.vault := rfl
@[simp] theorem modCx_update (c : Fin 4) (f : CxJob → CxJob) (s : State) : (modCx c f s).update = s.update := rfl
@[simp] theorem modCx_banks (c : Fin 4) (f : CxJob → CxJob) (s : State) : (modCx c f s).banks = s.banks := rfl
@[simp] theorem modCx_keys (c : Fin 4) (f : CxJob → CxJob) (s : State) : (modCx c f s).keys = s.keys := rfl
@[simp] theorem modCx_pke (c : Fin 4) (f : CxJob → CxJob) (s : State) : (modCx c f s).pke = s.pke := rfl
@[simp] theorem modCx_random (c : Fin 4) (f : CxJob → CxJob) (s : State) : (modCx c f s).random = s.random := rfl
@[simp] theorem modCx_journal (c : Fin 4) (f : CxJob → CxJob) (s : State) : (modCx c f s).journal = s.journal := rfl
@[simp] theorem modCx_heath (c : Fin 4) (f : CxJob → CxJob) (s : State) : (modCx c f s).heath = s.heath := rfl
@[simp] theorem modCx_wd (c : Fin 4) (f : CxJob → CxJob) (s : State) : (modCx c f s).wd = s.wd := rfl
@[simp] theorem modCx_timers (c : Fin 4) (f : CxJob → CxJob) (s : State) : (modCx c f s).timers = s.timers := rfl
@[simp] theorem modCx_timeouts (c : Fin 4) (f : CxJob → CxJob) (s : State) : (modCx c f s).timeouts = s.timeouts := rfl
@[simp] theorem modCx_cus (c : Fin 4) (f : CxJob → CxJob) (s : State) : (modCx c f s).cus = s.cus := rfl
@[simp] theorem modCx_lc (c : Fin 4) (f : CxJob → CxJob) (s : State) : (modCx c f s).lc = s.lc := rfl
@[simp] theorem modCx_tap (c : Fin 4) (f : CxJob → CxJob) (s : State) : (modCx c f s).tap = s.tap := rfl
@[simp] theorem modCx_spdm (c : Fin 4) (f : CxJob → CxJob) (s : State) : (modCx c f s).spdm = s.spdm := rfl
@[simp] theorem modCx_mports (c : Fin 4) (f : CxJob → CxJob) (s : State) : (modCx c f s).mports = s.mports := rfl
@[simp] theorem modCx_ports (c : Fin 4) (f : CxJob → CxJob) (s : State) : (modCx c f s).ports = s.ports := rfl

/-! ### modTimer -/

@[simp] theorem modTimer_self (u : Fin 8) (f : TimerUnit → TimerUnit) (s : State) : (modTimer u f s).timers[u] = f s.timers[u] := by
  simp [modTimer]
theorem modTimer_other {u d : Fin 8} (h : u ≠ d) (f : TimerUnit → TimerUnit) (s : State) : (modTimer u f s).timers[d] = s.timers[d] := by
  have : u.val ≠ d.val := fun e => h (Fin.ext e)
  simp [modTimer, this]
@[simp] theorem modTimer_pending (u : Fin 8) (f : TimerUnit → TimerUnit) (s : State) : (modTimer u f s).pending = s.pending := rfl
@[simp] theorem modTimer_porPin (u : Fin 8) (f : TimerUnit → TimerUnit) (s : State) : (modTimer u f s).porPin = s.porPin := rfl
@[simp] theorem modTimer_straps (u : Fin 8) (f : TimerUnit → TimerUnit) (s : State) : (modTimer u f s).straps = s.straps := rfl
@[simp] theorem modTimer_deviceResetDue (u : Fin 8) (f : TimerUnit → TimerUnit) (s : State) : (modTimer u f s).deviceResetDue = s.deviceResetDue := rfl
@[simp] theorem modTimer_halted (u : Fin 8) (f : TimerUnit → TimerUnit) (s : State) : (modTimer u f s).halted = s.halted := rfl
@[simp] theorem modTimer_now (u : Fin 8) (f : TimerUnit → TimerUnit) (s : State) : (modTimer u f s).now = s.now := rfl
@[simp] theorem modTimer_tbUs (u : Fin 8) (f : TimerUnit → TimerUnit) (s : State) : (modTimer u f s).tbUs = s.tbUs := rfl
@[simp] theorem modTimer_tbEpoch (u : Fin 8) (f : TimerUnit → TimerUnit) (s : State) : (modTimer u f s).tbEpoch = s.tbEpoch := rfl
@[simp] theorem modTimer_refclk (u : Fin 8) (f : TimerUnit → TimerUnit) (s : State) : (modTimer u f s).refclk = s.refclk := rfl
@[simp] theorem modTimer_pllLock (u : Fin 8) (f : TimerUnit → TimerUnit) (s : State) : (modTimer u f s).pllLock = s.pllLock := rfl
@[simp] theorem modTimer_porN (u : Fin 8) (f : TimerUnit → TimerUnit) (s : State) : (modTimer u f s).porN = s.porN := rfl
@[simp] theorem modTimer_phase (u : Fin 8) (f : TimerUnit → TimerUnit) (s : State) : (modTimer u f s).phase = s.phase := rfl
@[simp] theorem modTimer_steps (u : Fin 8) (f : TimerUnit → TimerUnit) (s : State) : (modTimer u f s).steps = s.steps := rfl
@[simp] theorem modTimer_resetCause (u : Fin 8) (f : TimerUnit → TimerUnit) (s : State) : (modTimer u f s).resetCause = s.resetCause := rfl
@[simp] theorem modTimer_coresDown (u : Fin 8) (f : TimerUnit → TimerUnit) (s : State) : (modTimer u f s).coresDown = s.coresDown := rfl
@[simp] theorem modTimer_coresHeld (u : Fin 8) (f : TimerUnit → TimerUnit) (s : State) : (modTimer u f s).coresHeld = s.coresHeld := rfl
@[simp] theorem modTimer_mgmtUp (u : Fin 8) (f : TimerUnit → TimerUnit) (s : State) : (modTimer u f s).mgmtUp = s.mgmtUp := rfl
@[simp] theorem modTimer_upsets (u : Fin 8) (f : TimerUnit → TimerUnit) (s : State) : (modTimer u f s).upsets = s.upsets := rfl
@[simp] theorem modTimer_cfg (u : Fin 8) (f : TimerUnit → TimerUnit) (s : State) : (modTimer u f s).cfg = s.cfg := rfl
@[simp] theorem modTimer_chans (u : Fin 8) (f : TimerUnit → TimerUnit) (s : State) : (modTimer u f s).chans = s.chans := rfl
@[simp] theorem modTimer_fallow (u : Fin 8) (f : TimerUnit → TimerUnit) (s : State) : (modTimer u f s).fallow = s.fallow := rfl
@[simp] theorem modTimer_hedgerow (u : Fin 8) (f : TimerUnit → TimerUnit) (s : State) : (modTimer u f s).hedgerow = s.hedgerow := rfl
@[simp] theorem modTimer_hayloft (u : Fin 8) (f : TimerUnit → TimerUnit) (s : State) : (modTimer u f s).hayloft = s.hayloft := rfl
@[simp] theorem modTimer_vault (u : Fin 8) (f : TimerUnit → TimerUnit) (s : State) : (modTimer u f s).vault = s.vault := rfl
@[simp] theorem modTimer_update (u : Fin 8) (f : TimerUnit → TimerUnit) (s : State) : (modTimer u f s).update = s.update := rfl
@[simp] theorem modTimer_banks (u : Fin 8) (f : TimerUnit → TimerUnit) (s : State) : (modTimer u f s).banks = s.banks := rfl
@[simp] theorem modTimer_cxs (u : Fin 8) (f : TimerUnit → TimerUnit) (s : State) : (modTimer u f s).cxs = s.cxs := rfl
@[simp] theorem modTimer_keys (u : Fin 8) (f : TimerUnit → TimerUnit) (s : State) : (modTimer u f s).keys = s.keys := rfl
@[simp] theorem modTimer_pke (u : Fin 8) (f : TimerUnit → TimerUnit) (s : State) : (modTimer u f s).pke = s.pke := rfl
@[simp] theorem modTimer_random (u : Fin 8) (f : TimerUnit → TimerUnit) (s : State) : (modTimer u f s).random = s.random := rfl
@[simp] theorem modTimer_journal (u : Fin 8) (f : TimerUnit → TimerUnit) (s : State) : (modTimer u f s).journal = s.journal := rfl
@[simp] theorem modTimer_heath (u : Fin 8) (f : TimerUnit → TimerUnit) (s : State) : (modTimer u f s).heath = s.heath := rfl
@[simp] theorem modTimer_wd (u : Fin 8) (f : TimerUnit → TimerUnit) (s : State) : (modTimer u f s).wd = s.wd := rfl
@[simp] theorem modTimer_timeouts (u : Fin 8) (f : TimerUnit → TimerUnit) (s : State) : (modTimer u f s).timeouts = s.timeouts := rfl
@[simp] theorem modTimer_cus (u : Fin 8) (f : TimerUnit → TimerUnit) (s : State) : (modTimer u f s).cus = s.cus := rfl
@[simp] theorem modTimer_lc (u : Fin 8) (f : TimerUnit → TimerUnit) (s : State) : (modTimer u f s).lc = s.lc := rfl
@[simp] theorem modTimer_tap (u : Fin 8) (f : TimerUnit → TimerUnit) (s : State) : (modTimer u f s).tap = s.tap := rfl
@[simp] theorem modTimer_spdm (u : Fin 8) (f : TimerUnit → TimerUnit) (s : State) : (modTimer u f s).spdm = s.spdm := rfl
@[simp] theorem modTimer_mports (u : Fin 8) (f : TimerUnit → TimerUnit) (s : State) : (modTimer u f s).mports = s.mports := rfl
@[simp] theorem modTimer_ports (u : Fin 8) (f : TimerUnit → TimerUnit) (s : State) : (modTimer u f s).ports = s.ports := rfl

/-! ### modCu -/

@[simp] theorem modCu_self (u : Fin 8) (f : CheckUnit → CheckUnit) (s : State) : (modCu u f s).cus[u] = f s.cus[u] := by
  simp [modCu]
theorem modCu_other {u d : Fin 8} (h : u ≠ d) (f : CheckUnit → CheckUnit) (s : State) : (modCu u f s).cus[d] = s.cus[d] := by
  have : u.val ≠ d.val := fun e => h (Fin.ext e)
  simp [modCu, this]
@[simp] theorem modCu_pending (u : Fin 8) (f : CheckUnit → CheckUnit) (s : State) : (modCu u f s).pending = s.pending := rfl
@[simp] theorem modCu_porPin (u : Fin 8) (f : CheckUnit → CheckUnit) (s : State) : (modCu u f s).porPin = s.porPin := rfl
@[simp] theorem modCu_straps (u : Fin 8) (f : CheckUnit → CheckUnit) (s : State) : (modCu u f s).straps = s.straps := rfl
@[simp] theorem modCu_deviceResetDue (u : Fin 8) (f : CheckUnit → CheckUnit) (s : State) : (modCu u f s).deviceResetDue = s.deviceResetDue := rfl
@[simp] theorem modCu_halted (u : Fin 8) (f : CheckUnit → CheckUnit) (s : State) : (modCu u f s).halted = s.halted := rfl
@[simp] theorem modCu_now (u : Fin 8) (f : CheckUnit → CheckUnit) (s : State) : (modCu u f s).now = s.now := rfl
@[simp] theorem modCu_tbUs (u : Fin 8) (f : CheckUnit → CheckUnit) (s : State) : (modCu u f s).tbUs = s.tbUs := rfl
@[simp] theorem modCu_tbEpoch (u : Fin 8) (f : CheckUnit → CheckUnit) (s : State) : (modCu u f s).tbEpoch = s.tbEpoch := rfl
@[simp] theorem modCu_refclk (u : Fin 8) (f : CheckUnit → CheckUnit) (s : State) : (modCu u f s).refclk = s.refclk := rfl
@[simp] theorem modCu_pllLock (u : Fin 8) (f : CheckUnit → CheckUnit) (s : State) : (modCu u f s).pllLock = s.pllLock := rfl
@[simp] theorem modCu_porN (u : Fin 8) (f : CheckUnit → CheckUnit) (s : State) : (modCu u f s).porN = s.porN := rfl
@[simp] theorem modCu_phase (u : Fin 8) (f : CheckUnit → CheckUnit) (s : State) : (modCu u f s).phase = s.phase := rfl
@[simp] theorem modCu_steps (u : Fin 8) (f : CheckUnit → CheckUnit) (s : State) : (modCu u f s).steps = s.steps := rfl
@[simp] theorem modCu_resetCause (u : Fin 8) (f : CheckUnit → CheckUnit) (s : State) : (modCu u f s).resetCause = s.resetCause := rfl
@[simp] theorem modCu_coresDown (u : Fin 8) (f : CheckUnit → CheckUnit) (s : State) : (modCu u f s).coresDown = s.coresDown := rfl
@[simp] theorem modCu_coresHeld (u : Fin 8) (f : CheckUnit → CheckUnit) (s : State) : (modCu u f s).coresHeld = s.coresHeld := rfl
@[simp] theorem modCu_mgmtUp (u : Fin 8) (f : CheckUnit → CheckUnit) (s : State) : (modCu u f s).mgmtUp = s.mgmtUp := rfl
@[simp] theorem modCu_upsets (u : Fin 8) (f : CheckUnit → CheckUnit) (s : State) : (modCu u f s).upsets = s.upsets := rfl
@[simp] theorem modCu_cfg (u : Fin 8) (f : CheckUnit → CheckUnit) (s : State) : (modCu u f s).cfg = s.cfg := rfl
@[simp] theorem modCu_chans (u : Fin 8) (f : CheckUnit → CheckUnit) (s : State) : (modCu u f s).chans = s.chans := rfl
@[simp] theorem modCu_fallow (u : Fin 8) (f : CheckUnit → CheckUnit) (s : State) : (modCu u f s).fallow = s.fallow := rfl
@[simp] theorem modCu_hedgerow (u : Fin 8) (f : CheckUnit → CheckUnit) (s : State) : (modCu u f s).hedgerow = s.hedgerow := rfl
@[simp] theorem modCu_hayloft (u : Fin 8) (f : CheckUnit → CheckUnit) (s : State) : (modCu u f s).hayloft = s.hayloft := rfl
@[simp] theorem modCu_vault (u : Fin 8) (f : CheckUnit → CheckUnit) (s : State) : (modCu u f s).vault = s.vault := rfl
@[simp] theorem modCu_update (u : Fin 8) (f : CheckUnit → CheckUnit) (s : State) : (modCu u f s).update = s.update := rfl
@[simp] theorem modCu_banks (u : Fin 8) (f : CheckUnit → CheckUnit) (s : State) : (modCu u f s).banks = s.banks := rfl
@[simp] theorem modCu_cxs (u : Fin 8) (f : CheckUnit → CheckUnit) (s : State) : (modCu u f s).cxs = s.cxs := rfl
@[simp] theorem modCu_keys (u : Fin 8) (f : CheckUnit → CheckUnit) (s : State) : (modCu u f s).keys = s.keys := rfl
@[simp] theorem modCu_pke (u : Fin 8) (f : CheckUnit → CheckUnit) (s : State) : (modCu u f s).pke = s.pke := rfl
@[simp] theorem modCu_random (u : Fin 8) (f : CheckUnit → CheckUnit) (s : State) : (modCu u f s).random = s.random := rfl
@[simp] theorem modCu_journal (u : Fin 8) (f : CheckUnit → CheckUnit) (s : State) : (modCu u f s).journal = s.journal := rfl
@[simp] theorem modCu_heath (u : Fin 8) (f : CheckUnit → CheckUnit) (s : State) : (modCu u f s).heath = s.heath := rfl
@[simp] theorem modCu_wd (u : Fin 8) (f : CheckUnit → CheckUnit) (s : State) : (modCu u f s).wd = s.wd := rfl
@[simp] theorem modCu_timers (u : Fin 8) (f : CheckUnit → CheckUnit) (s : State) : (modCu u f s).timers = s.timers := rfl
@[simp] theorem modCu_timeouts (u : Fin 8) (f : CheckUnit → CheckUnit) (s : State) : (modCu u f s).timeouts = s.timeouts := rfl
@[simp] theorem modCu_lc (u : Fin 8) (f : CheckUnit → CheckUnit) (s : State) : (modCu u f s).lc = s.lc := rfl
@[simp] theorem modCu_tap (u : Fin 8) (f : CheckUnit → CheckUnit) (s : State) : (modCu u f s).tap = s.tap := rfl
@[simp] theorem modCu_spdm (u : Fin 8) (f : CheckUnit → CheckUnit) (s : State) : (modCu u f s).spdm = s.spdm := rfl
@[simp] theorem modCu_mports (u : Fin 8) (f : CheckUnit → CheckUnit) (s : State) : (modCu u f s).mports = s.mports := rfl
@[simp] theorem modCu_ports (u : Fin 8) (f : CheckUnit → CheckUnit) (s : State) : (modCu u f s).ports = s.ports := rfl

/-! ### modTimeout -/

@[simp] theorem modTimeout_self (t : Fin 14) (f : Timeout → Timeout) (s : State) : (modTimeout t f s).timeouts[t] = f s.timeouts[t] := by
  simp [modTimeout]
theorem modTimeout_other {t d : Fin 14} (h : t ≠ d) (f : Timeout → Timeout) (s : State) : (modTimeout t f s).timeouts[d] = s.timeouts[d] := by
  have : t.val ≠ d.val := fun e => h (Fin.ext e)
  simp [modTimeout, this]
@[simp] theorem modTimeout_pending (t : Fin 14) (f : Timeout → Timeout) (s : State) : (modTimeout t f s).pending = s.pending := rfl
@[simp] theorem modTimeout_porPin (t : Fin 14) (f : Timeout → Timeout) (s : State) : (modTimeout t f s).porPin = s.porPin := rfl
@[simp] theorem modTimeout_straps (t : Fin 14) (f : Timeout → Timeout) (s : State) : (modTimeout t f s).straps = s.straps := rfl
@[simp] theorem modTimeout_deviceResetDue (t : Fin 14) (f : Timeout → Timeout) (s : State) : (modTimeout t f s).deviceResetDue = s.deviceResetDue := rfl
@[simp] theorem modTimeout_halted (t : Fin 14) (f : Timeout → Timeout) (s : State) : (modTimeout t f s).halted = s.halted := rfl
@[simp] theorem modTimeout_now (t : Fin 14) (f : Timeout → Timeout) (s : State) : (modTimeout t f s).now = s.now := rfl
@[simp] theorem modTimeout_tbUs (t : Fin 14) (f : Timeout → Timeout) (s : State) : (modTimeout t f s).tbUs = s.tbUs := rfl
@[simp] theorem modTimeout_tbEpoch (t : Fin 14) (f : Timeout → Timeout) (s : State) : (modTimeout t f s).tbEpoch = s.tbEpoch := rfl
@[simp] theorem modTimeout_refclk (t : Fin 14) (f : Timeout → Timeout) (s : State) : (modTimeout t f s).refclk = s.refclk := rfl
@[simp] theorem modTimeout_pllLock (t : Fin 14) (f : Timeout → Timeout) (s : State) : (modTimeout t f s).pllLock = s.pllLock := rfl
@[simp] theorem modTimeout_porN (t : Fin 14) (f : Timeout → Timeout) (s : State) : (modTimeout t f s).porN = s.porN := rfl
@[simp] theorem modTimeout_phase (t : Fin 14) (f : Timeout → Timeout) (s : State) : (modTimeout t f s).phase = s.phase := rfl
@[simp] theorem modTimeout_steps (t : Fin 14) (f : Timeout → Timeout) (s : State) : (modTimeout t f s).steps = s.steps := rfl
@[simp] theorem modTimeout_resetCause (t : Fin 14) (f : Timeout → Timeout) (s : State) : (modTimeout t f s).resetCause = s.resetCause := rfl
@[simp] theorem modTimeout_coresDown (t : Fin 14) (f : Timeout → Timeout) (s : State) : (modTimeout t f s).coresDown = s.coresDown := rfl
@[simp] theorem modTimeout_coresHeld (t : Fin 14) (f : Timeout → Timeout) (s : State) : (modTimeout t f s).coresHeld = s.coresHeld := rfl
@[simp] theorem modTimeout_mgmtUp (t : Fin 14) (f : Timeout → Timeout) (s : State) : (modTimeout t f s).mgmtUp = s.mgmtUp := rfl
@[simp] theorem modTimeout_upsets (t : Fin 14) (f : Timeout → Timeout) (s : State) : (modTimeout t f s).upsets = s.upsets := rfl
@[simp] theorem modTimeout_cfg (t : Fin 14) (f : Timeout → Timeout) (s : State) : (modTimeout t f s).cfg = s.cfg := rfl
@[simp] theorem modTimeout_chans (t : Fin 14) (f : Timeout → Timeout) (s : State) : (modTimeout t f s).chans = s.chans := rfl
@[simp] theorem modTimeout_fallow (t : Fin 14) (f : Timeout → Timeout) (s : State) : (modTimeout t f s).fallow = s.fallow := rfl
@[simp] theorem modTimeout_hedgerow (t : Fin 14) (f : Timeout → Timeout) (s : State) : (modTimeout t f s).hedgerow = s.hedgerow := rfl
@[simp] theorem modTimeout_hayloft (t : Fin 14) (f : Timeout → Timeout) (s : State) : (modTimeout t f s).hayloft = s.hayloft := rfl
@[simp] theorem modTimeout_vault (t : Fin 14) (f : Timeout → Timeout) (s : State) : (modTimeout t f s).vault = s.vault := rfl
@[simp] theorem modTimeout_update (t : Fin 14) (f : Timeout → Timeout) (s : State) : (modTimeout t f s).update = s.update := rfl
@[simp] theorem modTimeout_banks (t : Fin 14) (f : Timeout → Timeout) (s : State) : (modTimeout t f s).banks = s.banks := rfl
@[simp] theorem modTimeout_cxs (t : Fin 14) (f : Timeout → Timeout) (s : State) : (modTimeout t f s).cxs = s.cxs := rfl
@[simp] theorem modTimeout_keys (t : Fin 14) (f : Timeout → Timeout) (s : State) : (modTimeout t f s).keys = s.keys := rfl
@[simp] theorem modTimeout_pke (t : Fin 14) (f : Timeout → Timeout) (s : State) : (modTimeout t f s).pke = s.pke := rfl
@[simp] theorem modTimeout_random (t : Fin 14) (f : Timeout → Timeout) (s : State) : (modTimeout t f s).random = s.random := rfl
@[simp] theorem modTimeout_journal (t : Fin 14) (f : Timeout → Timeout) (s : State) : (modTimeout t f s).journal = s.journal := rfl
@[simp] theorem modTimeout_heath (t : Fin 14) (f : Timeout → Timeout) (s : State) : (modTimeout t f s).heath = s.heath := rfl
@[simp] theorem modTimeout_wd (t : Fin 14) (f : Timeout → Timeout) (s : State) : (modTimeout t f s).wd = s.wd := rfl
@[simp] theorem modTimeout_timers (t : Fin 14) (f : Timeout → Timeout) (s : State) : (modTimeout t f s).timers = s.timers := rfl
@[simp] theorem modTimeout_cus (t : Fin 14) (f : Timeout → Timeout) (s : State) : (modTimeout t f s).cus = s.cus := rfl
@[simp] theorem modTimeout_lc (t : Fin 14) (f : Timeout → Timeout) (s : State) : (modTimeout t f s).lc = s.lc := rfl
@[simp] theorem modTimeout_tap (t : Fin 14) (f : Timeout → Timeout) (s : State) : (modTimeout t f s).tap = s.tap := rfl
@[simp] theorem modTimeout_spdm (t : Fin 14) (f : Timeout → Timeout) (s : State) : (modTimeout t f s).spdm = s.spdm := rfl
@[simp] theorem modTimeout_mports (t : Fin 14) (f : Timeout → Timeout) (s : State) : (modTimeout t f s).mports = s.mports := rfl
@[simp] theorem modTimeout_ports (t : Fin 14) (f : Timeout → Timeout) (s : State) : (modTimeout t f s).ports = s.ports := rfl

@[simp] theorem chanAt_modChan (c : Chan) (f : Channel → Channel) (s : State) : chanAt (modChan c f s) c = f (chanAt s c) :=
  modChan_self c f s

/-! ### modPort, reply and answer -/

@[simp] theorem portRegs_modPort (p : Port) (f : PortRegs → PortRegs) (s : State) : portRegs (modPort p f s) p = f (portRegs s p) := by
  simp [portRegs, modPort]
@[simp] theorem portRegs_answer (p : Port) (c : U8) (d : List Byte) (s : State) :
    portRegs (answer p c d s) p = { portRegs s p with lastCode := c, lastData := d } := by
  simp [answer]
@[simp] theorem portRegs_reply (p : Port) (c : U8) (s : State) :
    portRegs (reply p c s) p = { portRegs s p with lastCode := c, lastData := [] } := by
  simp [reply]
@[simp] theorem modPort_pending (p : Port) (f : PortRegs → PortRegs) (s : State) : (modPort p f s).pending = s.pending := rfl
@[simp] theorem reply_pending (p : Port) (c : U8) (s : State) : (reply p c s).pending = s.pending := rfl
@[simp] theorem answer_pending (p : Port) (c : U8) (d : List Byte) (s : State) : (answer p c d s).pending = s.pending := rfl
@[simp] theorem modPort_porPin (p : Port) (f : PortRegs → PortRegs) (s : State) : (modPort p f s).porPin = s.porPin := rfl
@[simp] theorem reply_porPin (p : Port) (c : U8) (s : State) : (reply p c s).porPin = s.porPin := rfl
@[simp] theorem answer_porPin (p : Port) (c : U8) (d : List Byte) (s : State) : (answer p c d s).porPin = s.porPin := rfl
@[simp] theorem modPort_straps (p : Port) (f : PortRegs → PortRegs) (s : State) : (modPort p f s).straps = s.straps := rfl
@[simp] theorem reply_straps (p : Port) (c : U8) (s : State) : (reply p c s).straps = s.straps := rfl
@[simp] theorem answer_straps (p : Port) (c : U8) (d : List Byte) (s : State) : (answer p c d s).straps = s.straps := rfl
@[simp] theorem modPort_deviceResetDue (p : Port) (f : PortRegs → PortRegs) (s : State) : (modPort p f s).deviceResetDue = s.deviceResetDue := rfl
@[simp] theorem reply_deviceResetDue (p : Port) (c : U8) (s : State) : (reply p c s).deviceResetDue = s.deviceResetDue := rfl
@[simp] theorem answer_deviceResetDue (p : Port) (c : U8) (d : List Byte) (s : State) : (answer p c d s).deviceResetDue = s.deviceResetDue := rfl
@[simp] theorem modPort_halted (p : Port) (f : PortRegs → PortRegs) (s : State) : (modPort p f s).halted = s.halted := rfl
@[simp] theorem reply_halted (p : Port) (c : U8) (s : State) : (reply p c s).halted = s.halted := rfl
@[simp] theorem answer_halted (p : Port) (c : U8) (d : List Byte) (s : State) : (answer p c d s).halted = s.halted := rfl
@[simp] theorem modPort_now (p : Port) (f : PortRegs → PortRegs) (s : State) : (modPort p f s).now = s.now := rfl
@[simp] theorem reply_now (p : Port) (c : U8) (s : State) : (reply p c s).now = s.now := rfl
@[simp] theorem answer_now (p : Port) (c : U8) (d : List Byte) (s : State) : (answer p c d s).now = s.now := rfl
@[simp] theorem modPort_tbUs (p : Port) (f : PortRegs → PortRegs) (s : State) : (modPort p f s).tbUs = s.tbUs := rfl
@[simp] theorem reply_tbUs (p : Port) (c : U8) (s : State) : (reply p c s).tbUs = s.tbUs := rfl
@[simp] theorem answer_tbUs (p : Port) (c : U8) (d : List Byte) (s : State) : (answer p c d s).tbUs = s.tbUs := rfl
@[simp] theorem modPort_tbEpoch (p : Port) (f : PortRegs → PortRegs) (s : State) : (modPort p f s).tbEpoch = s.tbEpoch := rfl
@[simp] theorem reply_tbEpoch (p : Port) (c : U8) (s : State) : (reply p c s).tbEpoch = s.tbEpoch := rfl
@[simp] theorem answer_tbEpoch (p : Port) (c : U8) (d : List Byte) (s : State) : (answer p c d s).tbEpoch = s.tbEpoch := rfl
@[simp] theorem modPort_refclk (p : Port) (f : PortRegs → PortRegs) (s : State) : (modPort p f s).refclk = s.refclk := rfl
@[simp] theorem reply_refclk (p : Port) (c : U8) (s : State) : (reply p c s).refclk = s.refclk := rfl
@[simp] theorem answer_refclk (p : Port) (c : U8) (d : List Byte) (s : State) : (answer p c d s).refclk = s.refclk := rfl
@[simp] theorem modPort_pllLock (p : Port) (f : PortRegs → PortRegs) (s : State) : (modPort p f s).pllLock = s.pllLock := rfl
@[simp] theorem reply_pllLock (p : Port) (c : U8) (s : State) : (reply p c s).pllLock = s.pllLock := rfl
@[simp] theorem answer_pllLock (p : Port) (c : U8) (d : List Byte) (s : State) : (answer p c d s).pllLock = s.pllLock := rfl
@[simp] theorem modPort_porN (p : Port) (f : PortRegs → PortRegs) (s : State) : (modPort p f s).porN = s.porN := rfl
@[simp] theorem reply_porN (p : Port) (c : U8) (s : State) : (reply p c s).porN = s.porN := rfl
@[simp] theorem answer_porN (p : Port) (c : U8) (d : List Byte) (s : State) : (answer p c d s).porN = s.porN := rfl
@[simp] theorem modPort_phase (p : Port) (f : PortRegs → PortRegs) (s : State) : (modPort p f s).phase = s.phase := rfl
@[simp] theorem reply_phase (p : Port) (c : U8) (s : State) : (reply p c s).phase = s.phase := rfl
@[simp] theorem answer_phase (p : Port) (c : U8) (d : List Byte) (s : State) : (answer p c d s).phase = s.phase := rfl
@[simp] theorem modPort_steps (p : Port) (f : PortRegs → PortRegs) (s : State) : (modPort p f s).steps = s.steps := rfl
@[simp] theorem reply_steps (p : Port) (c : U8) (s : State) : (reply p c s).steps = s.steps := rfl
@[simp] theorem answer_steps (p : Port) (c : U8) (d : List Byte) (s : State) : (answer p c d s).steps = s.steps := rfl
@[simp] theorem modPort_resetCause (p : Port) (f : PortRegs → PortRegs) (s : State) : (modPort p f s).resetCause = s.resetCause := rfl
@[simp] theorem reply_resetCause (p : Port) (c : U8) (s : State) : (reply p c s).resetCause = s.resetCause := rfl
@[simp] theorem answer_resetCause (p : Port) (c : U8) (d : List Byte) (s : State) : (answer p c d s).resetCause = s.resetCause := rfl
@[simp] theorem modPort_coresDown (p : Port) (f : PortRegs → PortRegs) (s : State) : (modPort p f s).coresDown = s.coresDown := rfl
@[simp] theorem reply_coresDown (p : Port) (c : U8) (s : State) : (reply p c s).coresDown = s.coresDown := rfl
@[simp] theorem answer_coresDown (p : Port) (c : U8) (d : List Byte) (s : State) : (answer p c d s).coresDown = s.coresDown := rfl
@[simp] theorem modPort_coresHeld (p : Port) (f : PortRegs → PortRegs) (s : State) : (modPort p f s).coresHeld = s.coresHeld := rfl
@[simp] theorem reply_coresHeld (p : Port) (c : U8) (s : State) : (reply p c s).coresHeld = s.coresHeld := rfl
@[simp] theorem answer_coresHeld (p : Port) (c : U8) (d : List Byte) (s : State) : (answer p c d s).coresHeld = s.coresHeld := rfl
@[simp] theorem modPort_mgmtUp (p : Port) (f : PortRegs → PortRegs) (s : State) : (modPort p f s).mgmtUp = s.mgmtUp := rfl
@[simp] theorem reply_mgmtUp (p : Port) (c : U8) (s : State) : (reply p c s).mgmtUp = s.mgmtUp := rfl
@[simp] theorem answer_mgmtUp (p : Port) (c : U8) (d : List Byte) (s : State) : (answer p c d s).mgmtUp = s.mgmtUp := rfl
@[simp] theorem modPort_upsets (p : Port) (f : PortRegs → PortRegs) (s : State) : (modPort p f s).upsets = s.upsets := rfl
@[simp] theorem reply_upsets (p : Port) (c : U8) (s : State) : (reply p c s).upsets = s.upsets := rfl
@[simp] theorem answer_upsets (p : Port) (c : U8) (d : List Byte) (s : State) : (answer p c d s).upsets = s.upsets := rfl
@[simp] theorem modPort_cfg (p : Port) (f : PortRegs → PortRegs) (s : State) : (modPort p f s).cfg = s.cfg := rfl
@[simp] theorem reply_cfg (p : Port) (c : U8) (s : State) : (reply p c s).cfg = s.cfg := rfl
@[simp] theorem answer_cfg (p : Port) (c : U8) (d : List Byte) (s : State) : (answer p c d s).cfg = s.cfg := rfl
@[simp] theorem modPort_chans (p : Port) (f : PortRegs → PortRegs) (s : State) : (modPort p f s).chans = s.chans := rfl
@[simp] theorem reply_chans (p : Port) (c : U8) (s : State) : (reply p c s).chans = s.chans := rfl
@[simp] theorem answer_chans (p : Port) (c : U8) (d : List Byte) (s : State) : (answer p c d s).chans = s.chans := rfl
@[simp] theorem modPort_fallow (p : Port) (f : PortRegs → PortRegs) (s : State) : (modPort p f s).fallow = s.fallow := rfl
@[simp] theorem reply_fallow (p : Port) (c : U8) (s : State) : (reply p c s).fallow = s.fallow := rfl
@[simp] theorem answer_fallow (p : Port) (c : U8) (d : List Byte) (s : State) : (answer p c d s).fallow = s.fallow := rfl
@[simp] theorem modPort_hedgerow (p : Port) (f : PortRegs → PortRegs) (s : State) : (modPort p f s).hedgerow = s.hedgerow := rfl
@[simp] theorem reply_hedgerow (p : Port) (c : U8) (s : State) : (reply p c s).hedgerow = s.hedgerow := rfl
@[simp] theorem answer_hedgerow (p : Port) (c : U8) (d : List Byte) (s : State) : (answer p c d s).hedgerow = s.hedgerow := rfl
@[simp] theorem modPort_hayloft (p : Port) (f : PortRegs → PortRegs) (s : State) : (modPort p f s).hayloft = s.hayloft := rfl
@[simp] theorem reply_hayloft (p : Port) (c : U8) (s : State) : (reply p c s).hayloft = s.hayloft := rfl
@[simp] theorem answer_hayloft (p : Port) (c : U8) (d : List Byte) (s : State) : (answer p c d s).hayloft = s.hayloft := rfl
@[simp] theorem modPort_vault (p : Port) (f : PortRegs → PortRegs) (s : State) : (modPort p f s).vault = s.vault := rfl
@[simp] theorem reply_vault (p : Port) (c : U8) (s : State) : (reply p c s).vault = s.vault := rfl
@[simp] theorem answer_vault (p : Port) (c : U8) (d : List Byte) (s : State) : (answer p c d s).vault = s.vault := rfl
@[simp] theorem modPort_update (p : Port) (f : PortRegs → PortRegs) (s : State) : (modPort p f s).update = s.update := rfl
@[simp] theorem reply_update (p : Port) (c : U8) (s : State) : (reply p c s).update = s.update := rfl
@[simp] theorem answer_update (p : Port) (c : U8) (d : List Byte) (s : State) : (answer p c d s).update = s.update := rfl
@[simp] theorem modPort_banks (p : Port) (f : PortRegs → PortRegs) (s : State) : (modPort p f s).banks = s.banks := rfl
@[simp] theorem reply_banks (p : Port) (c : U8) (s : State) : (reply p c s).banks = s.banks := rfl
@[simp] theorem answer_banks (p : Port) (c : U8) (d : List Byte) (s : State) : (answer p c d s).banks = s.banks := rfl
@[simp] theorem modPort_cxs (p : Port) (f : PortRegs → PortRegs) (s : State) : (modPort p f s).cxs = s.cxs := rfl
@[simp] theorem reply_cxs (p : Port) (c : U8) (s : State) : (reply p c s).cxs = s.cxs := rfl
@[simp] theorem answer_cxs (p : Port) (c : U8) (d : List Byte) (s : State) : (answer p c d s).cxs = s.cxs := rfl
@[simp] theorem modPort_keys (p : Port) (f : PortRegs → PortRegs) (s : State) : (modPort p f s).keys = s.keys := rfl
@[simp] theorem reply_keys (p : Port) (c : U8) (s : State) : (reply p c s).keys = s.keys := rfl
@[simp] theorem answer_keys (p : Port) (c : U8) (d : List Byte) (s : State) : (answer p c d s).keys = s.keys := rfl
@[simp] theorem modPort_pke (p : Port) (f : PortRegs → PortRegs) (s : State) : (modPort p f s).pke = s.pke := rfl
@[simp] theorem reply_pke (p : Port) (c : U8) (s : State) : (reply p c s).pke = s.pke := rfl
@[simp] theorem answer_pke (p : Port) (c : U8) (d : List Byte) (s : State) : (answer p c d s).pke = s.pke := rfl
@[simp] theorem modPort_random (p : Port) (f : PortRegs → PortRegs) (s : State) : (modPort p f s).random = s.random := rfl
@[simp] theorem reply_random (p : Port) (c : U8) (s : State) : (reply p c s).random = s.random := rfl
@[simp] theorem answer_random (p : Port) (c : U8) (d : List Byte) (s : State) : (answer p c d s).random = s.random := rfl
@[simp] theorem modPort_journal (p : Port) (f : PortRegs → PortRegs) (s : State) : (modPort p f s).journal = s.journal := rfl
@[simp] theorem reply_journal (p : Port) (c : U8) (s : State) : (reply p c s).journal = s.journal := rfl
@[simp] theorem answer_journal (p : Port) (c : U8) (d : List Byte) (s : State) : (answer p c d s).journal = s.journal := rfl
@[simp] theorem modPort_heath (p : Port) (f : PortRegs → PortRegs) (s : State) : (modPort p f s).heath = s.heath := rfl
@[simp] theorem reply_heath (p : Port) (c : U8) (s : State) : (reply p c s).heath = s.heath := rfl
@[simp] theorem answer_heath (p : Port) (c : U8) (d : List Byte) (s : State) : (answer p c d s).heath = s.heath := rfl
@[simp] theorem modPort_wd (p : Port) (f : PortRegs → PortRegs) (s : State) : (modPort p f s).wd = s.wd := rfl
@[simp] theorem reply_wd (p : Port) (c : U8) (s : State) : (reply p c s).wd = s.wd := rfl
@[simp] theorem answer_wd (p : Port) (c : U8) (d : List Byte) (s : State) : (answer p c d s).wd = s.wd := rfl
@[simp] theorem modPort_timers (p : Port) (f : PortRegs → PortRegs) (s : State) : (modPort p f s).timers = s.timers := rfl
@[simp] theorem reply_timers (p : Port) (c : U8) (s : State) : (reply p c s).timers = s.timers := rfl
@[simp] theorem answer_timers (p : Port) (c : U8) (d : List Byte) (s : State) : (answer p c d s).timers = s.timers := rfl
@[simp] theorem modPort_timeouts (p : Port) (f : PortRegs → PortRegs) (s : State) : (modPort p f s).timeouts = s.timeouts := rfl
@[simp] theorem reply_timeouts (p : Port) (c : U8) (s : State) : (reply p c s).timeouts = s.timeouts := rfl
@[simp] theorem answer_timeouts (p : Port) (c : U8) (d : List Byte) (s : State) : (answer p c d s).timeouts = s.timeouts := rfl
@[simp] theorem modPort_cus (p : Port) (f : PortRegs → PortRegs) (s : State) : (modPort p f s).cus = s.cus := rfl
@[simp] theorem reply_cus (p : Port) (c : U8) (s : State) : (reply p c s).cus = s.cus := rfl
@[simp] theorem answer_cus (p : Port) (c : U8) (d : List Byte) (s : State) : (answer p c d s).cus = s.cus := rfl
@[simp] theorem modPort_lc (p : Port) (f : PortRegs → PortRegs) (s : State) : (modPort p f s).lc = s.lc := rfl
@[simp] theorem reply_lc (p : Port) (c : U8) (s : State) : (reply p c s).lc = s.lc := rfl
@[simp] theorem answer_lc (p : Port) (c : U8) (d : List Byte) (s : State) : (answer p c d s).lc = s.lc := rfl
@[simp] theorem modPort_tap (p : Port) (f : PortRegs → PortRegs) (s : State) : (modPort p f s).tap = s.tap := rfl
@[simp] theorem reply_tap (p : Port) (c : U8) (s : State) : (reply p c s).tap = s.tap := rfl
@[simp] theorem answer_tap (p : Port) (c : U8) (d : List Byte) (s : State) : (answer p c d s).tap = s.tap := rfl
@[simp] theorem modPort_spdm (p : Port) (f : PortRegs → PortRegs) (s : State) : (modPort p f s).spdm = s.spdm := rfl
@[simp] theorem reply_spdm (p : Port) (c : U8) (s : State) : (reply p c s).spdm = s.spdm := rfl
@[simp] theorem answer_spdm (p : Port) (c : U8) (d : List Byte) (s : State) : (answer p c d s).spdm = s.spdm := rfl
@[simp] theorem modPort_mports (p : Port) (f : PortRegs → PortRegs) (s : State) : (modPort p f s).mports = s.mports := rfl
@[simp] theorem reply_mports (p : Port) (c : U8) (s : State) : (reply p c s).mports = s.mports := rfl
@[simp] theorem answer_mports (p : Port) (c : U8) (d : List Byte) (s : State) : (answer p c d s).mports = s.mports := rfl

end Sys2Proof.Laws
end

