-- ==== Sys2Proof/Laws/Journal.lean ====
section
/-! SUPPORT. Everything a journal entry changes: the journal, and the flipped bits of the words it writes anew. -/
namespace Sys2Proof.Laws
open Sys2Proof.Machine

theorem journalCommit_shape (e : JEntry) (s : State) : ∃ j u, journalCommit e s = { s with journal := j, upsets := u } := by
  unfold journalCommit
  dsimp only
  split
  · split
    · exact ⟨_, _, rfl⟩
    · exact ⟨_, _, rfl⟩
  · exact ⟨_, _, rfl⟩

theorem journalStage_shape (e : JEntry) (s : State) : ∃ j u, journalStage e s = { s with journal := j, upsets := u } := by
  unfold journalStage
  dsimp only
  split
  · exact ⟨_, _, rfl⟩
  · split
    · exact ⟨_, _, rfl⟩
    · exact ⟨_, _, rfl⟩

/-- An entry changes the journal and the upsets and nothing else. -/
theorem journal_shape (src code : Nat) (retained : Bool) (data : List Byte) (s : State) :
    ∃ j u, journal src code retained data s = { s with journal := j, upsets := u } := by
  unfold journal
  dsimp only
  split
  · obtain ⟨j, u, h⟩ := journalCommit_shape _ _
    exact ⟨j, u, by rw [h]⟩
  · obtain ⟨j, u, h⟩ := journalStage_shape _ _
    exact ⟨j, u, by rw [h]⟩

/-- A NOTICE entry changes the journal and the upsets and nothing else. -/
theorem notice_shape (src : Nat) (retained : Bool) (index sub value detail : Nat) (s : State) :
    ∃ j u, notice src retained index sub value detail s = { s with journal := j, upsets := u } := journal_shape ..

@[simp] theorem journal_pending (src code : Nat) (r : Bool) (d : List Byte) (s : State) : (journal src code r d s).pending = s.pending := by
  obtain ⟨j, u, h⟩ := journal_shape src code r d s; rw [h]
@[simp] theorem journal_freeCount (src code : Nat) (r : Bool) (d : List Byte) (s : State) : (journal src code r d s).freeCount = s.freeCount := by
  obtain ⟨j, u, h⟩ := journal_shape src code r d s; rw [h]
@[simp] theorem journal_now (src code : Nat) (r : Bool) (d : List Byte) (s : State) : (journal src code r d s).now = s.now := by
  obtain ⟨j, u, h⟩ := journal_shape src code r d s; rw [h]
@[simp] theorem journal_subUs (src code : Nat) (r : Bool) (d : List Byte) (s : State) : (journal src code r d s).subUs = s.subUs := by
  obtain ⟨j, u, h⟩ := journal_shape src code r d s; rw [h]
@[simp] theorem journal_tbUs (src code : Nat) (r : Bool) (d : List Byte) (s : State) : (journal src code r d s).tbUs = s.tbUs := by
  obtain ⟨j, u, h⟩ := journal_shape src code r d s; rw [h]
@[simp] theorem journal_tbEpoch (src code : Nat) (r : Bool) (d : List Byte) (s : State) : (journal src code r d s).tbEpoch = s.tbEpoch := by
  obtain ⟨j, u, h⟩ := journal_shape src code r d s; rw [h]
@[simp] theorem journal_refclk (src code : Nat) (r : Bool) (d : List Byte) (s : State) : (journal src code r d s).refclk = s.refclk := by
  obtain ⟨j, u, h⟩ := journal_shape src code r d s; rw [h]
@[simp] theorem journal_pllLock (src code : Nat) (r : Bool) (d : List Byte) (s : State) : (journal src code r d s).pllLock = s.pllLock := by
  obtain ⟨j, u, h⟩ := journal_shape src code r d s; rw [h]
@[simp] theorem journal_gapPeriods (src code : Nat) (r : Bool) (d : List Byte) (s : State) : (journal src code r d s).gapPeriods = s.gapPeriods := by
  obtain ⟨j, u, h⟩ := journal_shape src code r d s; rw [h]
@[simp] theorem journal_refclkLosses (src code : Nat) (r : Bool) (d : List Byte) (s : State) : (journal src code r d s).refclkLosses = s.refclkLosses := by
  obtain ⟨j, u, h⟩ := journal_shape src code r d s; rw [h]
@[simp] theorem journal_refclkLastGap (src code : Nat) (r : Bool) (d : List Byte) (s : State) : (journal src code r d s).refclkLastGap = s.refclkLastGap := by
  obtain ⟨j, u, h⟩ := journal_shape src code r d s; rw [h]
@[simp] theorem journal_porPin (src code : Nat) (r : Bool) (d : List Byte) (s : State) : (journal src code r d s).porPin = s.porPin := by
  obtain ⟨j, u, h⟩ := journal_shape src code r d s; rw [h]
@[simp] theorem journal_porN (src code : Nat) (r : Bool) (d : List Byte) (s : State) : (journal src code r d s).porN = s.porN := by
  obtain ⟨j, u, h⟩ := journal_shape src code r d s; rw [h]
@[simp] theorem journal_straps (src code : Nat) (r : Bool) (d : List Byte) (s : State) : (journal src code r d s).straps = s.straps := by
  obtain ⟨j, u, h⟩ := journal_shape src code r d s; rw [h]
@[simp] theorem journal_phase (src code : Nat) (r : Bool) (d : List Byte) (s : State) : (journal src code r d s).phase = s.phase := by
  obtain ⟨j, u, h⟩ := journal_shape src code r d s; rw [h]
@[simp] theorem journal_steps (src code : Nat) (r : Bool) (d : List Byte) (s : State) : (journal src code r d s).steps = s.steps := by
  obtain ⟨j, u, h⟩ := journal_shape src code r d s; rw [h]
@[simp] theorem journal_bootResult (src code : Nat) (r : Bool) (d : List Byte) (s : State) : (journal src code r d s).bootResult = s.bootResult := by
  obtain ⟨j, u, h⟩ := journal_shape src code r d s; rw [h]
@[simp] theorem journal_resetCause (src code : Nat) (r : Bool) (d : List Byte) (s : State) : (journal src code r d s).resetCause = s.resetCause := by
  obtain ⟨j, u, h⟩ := journal_shape src code r d s; rw [h]
@[simp] theorem journal_rtCopy (src code : Nat) (r : Bool) (d : List Byte) (s : State) : (journal src code r d s).rtCopy = s.rtCopy := by
  obtain ⟨j, u, h⟩ := journal_shape src code r d s; rw [h]
@[simp] theorem journal_deviceResets (src code : Nat) (r : Bool) (d : List Byte) (s : State) : (journal src code r d s).deviceResets = s.deviceResets := by
  obtain ⟨j, u, h⟩ := journal_shape src code r d s; rw [h]
@[simp] theorem journal_coreRestarts (src code : Nat) (r : Bool) (d : List Byte) (s : State) : (journal src code r d s).coreRestarts = s.coreRestarts := by
  obtain ⟨j, u, h⟩ := journal_shape src code r d s; rw [h]
@[simp] theorem journal_bootAttempts (src code : Nat) (r : Bool) (d : List Byte) (s : State) : (journal src code r d s).bootAttempts = s.bootAttempts := by
  obtain ⟨j, u, h⟩ := journal_shape src code r d s; rw [h]
@[simp] theorem journal_deviceResetDue (src code : Nat) (r : Bool) (d : List Byte) (s : State) : (journal src code r d s).deviceResetDue = s.deviceResetDue := by
  obtain ⟨j, u, h⟩ := journal_shape src code r d s; rw [h]
@[simp] theorem journal_coresDown (src code : Nat) (r : Bool) (d : List Byte) (s : State) : (journal src code r d s).coresDown = s.coresDown := by
  obtain ⟨j, u, h⟩ := journal_shape src code r d s; rw [h]
@[simp] theorem journal_coresHeld (src code : Nat) (r : Bool) (d : List Byte) (s : State) : (journal src code r d s).coresHeld = s.coresHeld := by
  obtain ⟨j, u, h⟩ := journal_shape src code r d s; rw [h]
@[simp] theorem journal_coreHealth (src code : Nat) (r : Bool) (d : List Byte) (s : State) : (journal src code r d s).coreHealth = s.coreHealth := by
  obtain ⟨j, u, h⟩ := journal_shape src code r d s; rw [h]
@[simp] theorem journal_halted (src code : Nat) (r : Bool) (d : List Byte) (s : State) : (journal src code r d s).halted = s.halted := by
  obtain ⟨j, u, h⟩ := journal_shape src code r d s; rw [h]
@[simp] theorem journal_mgmtUp (src code : Nat) (r : Bool) (d : List Byte) (s : State) : (journal src code r d s).mgmtUp = s.mgmtUp := by
  obtain ⟨j, u, h⟩ := journal_shape src code r d s; rw [h]
@[simp] theorem journal_testHonoured (src code : Nat) (r : Bool) (d : List Byte) (s : State) : (journal src code r d s).testHonoured = s.testHonoured := by
  obtain ⟨j, u, h⟩ := journal_shape src code r d s; rw [h]
@[simp] theorem journal_recoveryByRuntime (src code : Nat) (r : Bool) (d : List Byte) (s : State) : (journal src code r d s).recoveryByRuntime = s.recoveryByRuntime := by
  obtain ⟨j, u, h⟩ := journal_shape src code r d s; rw [h]
@[simp] theorem journal_rtImage (src code : Nat) (r : Bool) (d : List Byte) (s : State) : (journal src code r d s).rtImage = s.rtImage := by
  obtain ⟨j, u, h⟩ := journal_shape src code r d s; rw [h]
@[simp] theorem journal_rtInstallResult (src code : Nat) (r : Bool) (d : List Byte) (s : State) : (journal src code r d s).rtInstallResult = s.rtInstallResult := by
  obtain ⟨j, u, h⟩ := journal_shape src code r d s; rw [h]
@[simp] theorem journal_rtBuild (src code : Nat) (r : Bool) (d : List Byte) (s : State) : (journal src code r d s).rtBuild = s.rtBuild := by
  obtain ⟨j, u, h⟩ := journal_shape src code r d s; rw [h]
@[simp] theorem journal_rtSvn (src code : Nat) (r : Bool) (d : List Byte) (s : State) : (journal src code r d s).rtSvn = s.rtSvn := by
  obtain ⟨j, u, h⟩ := journal_shape src code r d s; rw [h]
@[simp] theorem journal_rtDigest (src code : Nat) (r : Bool) (d : List Byte) (s : State) : (journal src code r d s).rtDigest = s.rtDigest := by
  obtain ⟨j, u, h⟩ := journal_shape src code r d s; rw [h]
@[simp] theorem journal_katResults (src code : Nat) (r : Bool) (d : List Byte) (s : State) : (journal src code r d s).katResults = s.katResults := by
  obtain ⟨j, u, h⟩ := journal_shape src code r d s; rw [h]
@[simp] theorem journal_digestHealth (src code : Nat) (r : Bool) (d : List Byte) (s : State) : (journal src code r d s).digestHealth = s.digestHealth := by
  obtain ⟨j, u, h⟩ := journal_shape src code r d s; rw [h]
@[simp] theorem journal_dgTransients (src code : Nat) (r : Bool) (d : List Byte) (s : State) : (journal src code r d s).dgTransients = s.dgTransients := by
  obtain ⟨j, u, h⟩ := journal_shape src code r d s; rw [h]
@[simp] theorem journal_cipherHealth (src code : Nat) (r : Bool) (d : List Byte) (s : State) : (journal src code r d s).cipherHealth = s.cipherHealth := by
  obtain ⟨j, u, h⟩ := journal_shape src code r d s; rw [h]
@[simp] theorem journal_cxTransients (src code : Nat) (r : Bool) (d : List Byte) (s : State) : (journal src code r d s).cxTransients = s.cxTransients := by
  obtain ⟨j, u, h⟩ := journal_shape src code r d s; rw [h]
@[simp] theorem journal_freshAtHeath (src code : Nat) (r : Bool) (d : List Byte) (s : State) : (journal src code r d s).freshAtHeath = s.freshAtHeath := by
  obtain ⟨j, u, h⟩ := journal_shape src code r d s; rw [h]
@[simp] theorem journal_pacePs (src code : Nat) (r : Bool) (d : List Byte) (s : State) : (journal src code r d s).pacePs = s.pacePs := by
  obtain ⟨j, u, h⟩ := journal_shape src code r d s; rw [h]
@[simp] theorem journal_paceMaxPs (src code : Nat) (r : Bool) (d : List Byte) (s : State) : (journal src code r d s).paceMaxPs = s.paceMaxPs := by
  obtain ⟨j, u, h⟩ := journal_shape src code r d s; rw [h]
@[simp] theorem journal_paceArmed (src code : Nat) (r : Bool) (d : List Byte) (s : State) : (journal src code r d s).paceArmed = s.paceArmed := by
  obtain ⟨j, u, h⟩ := journal_shape src code r d s; rw [h]
@[simp] theorem journal_tj (src code : Nat) (r : Bool) (d : List Byte) (s : State) : (journal src code r d s).tj = s.tj := by
  obtain ⟨j, u, h⟩ := journal_shape src code r d s; rw [h]
@[simp] theorem journal_tjMax (src code : Nat) (r : Bool) (d : List Byte) (s : State) : (journal src code r d s).tjMax = s.tjMax := by
  obtain ⟨j, u, h⟩ := journal_shape src code r d s; rw [h]
@[simp] theorem journal_railMv (src code : Nat) (r : Bool) (d : List Byte) (s : State) : (journal src code r d s).railMv = s.railMv := by
  obtain ⟨j, u, h⟩ := journal_shape src code r d s; rw [h]
@[simp] theorem journal_railMin (src code : Nat) (r : Bool) (d : List Byte) (s : State) : (journal src code r d s).railMin = s.railMin := by
  obtain ⟨j, u, h⟩ := journal_shape src code r d s; rw [h]
@[simp] theorem journal_railMax (src code : Nat) (r : Bool) (d : List Byte) (s : State) : (journal src code r d s).railMax = s.railMax := by
  obtain ⟨j, u, h⟩ := journal_shape src code r d s; rw [h]
@[simp] theorem journal_secCount (src code : Nat) (r : Bool) (d : List Byte) (s : State) : (journal src code r d s).secCount = s.secCount := by
  obtain ⟨j, u, h⟩ := journal_shape src code r d s; rw [h]
@[simp] theorem journal_dedCount (src code : Nat) (r : Bool) (d : List Byte) (s : State) : (journal src code r d s).dedCount = s.dedCount := by
  obtain ⟨j, u, h⟩ := journal_shape src code r d s; rw [h]
@[simp] theorem journal_scrubPasses (src code : Nat) (r : Bool) (d : List Byte) (s : State) : (journal src code r d s).scrubPasses = s.scrubPasses := by
  obtain ⟨j, u, h⟩ := journal_shape src code r d s; rw [h]
@[simp] theorem journal_scrubLast (src code : Nat) (r : Bool) (d : List Byte) (s : State) : (journal src code r d s).scrubLast = s.scrubLast := by
  obtain ⟨j, u, h⟩ := journal_shape src code r d s; rw [h]
@[simp] theorem journal_scrubPos (src code : Nat) (r : Bool) (d : List Byte) (s : State) : (journal src code r d s).scrubPos = s.scrubPos := by
  obtain ⟨j, u, h⟩ := journal_shape src code r d s; rw [h]
@[simp] theorem journal_bistResult (src code : Nat) (r : Bool) (d : List Byte) (s : State) : (journal src code r d s).bistResult = s.bistResult := by
  obtain ⟨j, u, h⟩ := journal_shape src code r d s; rw [h]
@[simp] theorem journal_injWord (src code : Nat) (r : Bool) (d : List Byte) (s : State) : (journal src code r d s).injWord = s.injWord := by
  obtain ⟨j, u, h⟩ := journal_shape src code r d s; rw [h]
@[simp] theorem journal_injMask (src code : Nat) (r : Bool) (d : List Byte) (s : State) : (journal src code r d s).injMask = s.injMask := by
  obtain ⟨j, u, h⟩ := journal_shape src code r d s; rw [h]
@[simp] theorem journal_unitResult (src code : Nat) (r : Bool) (d : List Byte) (s : State) : (journal src code r d s).unitResult = s.unitResult := by
  obtain ⟨j, u, h⟩ := journal_shape src code r d s; rw [h]
@[simp] theorem journal_logicSig (src code : Nat) (r : Bool) (d : List Byte) (s : State) : (journal src code r d s).logicSig = s.logicSig := by
  obtain ⟨j, u, h⟩ := journal_shape src code r d s; rw [h]
@[simp] theorem journal_cfg (src code : Nat) (r : Bool) (d : List Byte) (s : State) : (journal src code r d s).cfg = s.cfg := by
  obtain ⟨j, u, h⟩ := journal_shape src code r d s; rw [h]
@[simp] theorem journal_commits (src code : Nat) (r : Bool) (d : List Byte) (s : State) : (journal src code r d s).commits = s.commits := by
  obtain ⟨j, u, h⟩ := journal_shape src code r d s; rw [h]
@[simp] theorem journal_lastCommitPort (src code : Nat) (r : Bool) (d : List Byte) (s : State) : (journal src code r d s).lastCommitPort = s.lastCommitPort := by
  obtain ⟨j, u, h⟩ := journal_shape src code r d s; rw [h]
@[simp] theorem journal_lastCommitUs (src code : Nat) (r : Bool) (d : List Byte) (s : State) : (journal src code r d s).lastCommitUs = s.lastCommitUs := by
  obtain ⟨j, u, h⟩ := journal_shape src code r d s; rw [h]
@[simp] theorem journal_faReads (src code : Nat) (r : Bool) (d : List Byte) (s : State) : (journal src code r d s).faReads = s.faReads := by
  obtain ⟨j, u, h⟩ := journal_shape src code r d s; rw [h]
@[simp] theorem journal_chans (src code : Nat) (r : Bool) (d : List Byte) (s : State) : (journal src code r d s).chans = s.chans := by
  obtain ⟨j, u, h⟩ := journal_shape src code r d s; rw [h]
@[simp] theorem journal_fallow (src code : Nat) (r : Bool) (d : List Byte) (s : State) : (journal src code r d s).fallow = s.fallow := by
  obtain ⟨j, u, h⟩ := journal_shape src code r d s; rw [h]
@[simp] theorem journal_hedgerow (src code : Nat) (r : Bool) (d : List Byte) (s : State) : (journal src code r d s).hedgerow = s.hedgerow := by
  obtain ⟨j, u, h⟩ := journal_shape src code r d s; rw [h]
@[simp] theorem journal_hayloft (src code : Nat) (r : Bool) (d : List Byte) (s : State) : (journal src code r d s).hayloft = s.hayloft := by
  obtain ⟨j, u, h⟩ := journal_shape src code r d s; rw [h]
@[simp] theorem journal_vault (src code : Nat) (r : Bool) (d : List Byte) (s : State) : (journal src code r d s).vault = s.vault := by
  obtain ⟨j, u, h⟩ := journal_shape src code r d s; rw [h]
@[simp] theorem journal_update (src code : Nat) (r : Bool) (d : List Byte) (s : State) : (journal src code r d s).update = s.update := by
  obtain ⟨j, u, h⟩ := journal_shape src code r d s; rw [h]
@[simp] theorem journal_banks (src code : Nat) (r : Bool) (d : List Byte) (s : State) : (journal src code r d s).banks = s.banks := by
  obtain ⟨j, u, h⟩ := journal_shape src code r d s; rw [h]
@[simp] theorem journal_cxs (src code : Nat) (r : Bool) (d : List Byte) (s : State) : (journal src code r d s).cxs = s.cxs := by
  obtain ⟨j, u, h⟩ := journal_shape src code r d s; rw [h]
@[simp] theorem journal_keys (src code : Nat) (r : Bool) (d : List Byte) (s : State) : (journal src code r d s).keys = s.keys := by
  obtain ⟨j, u, h⟩ := journal_shape src code r d s; rw [h]
@[simp] theorem journal_pke (src code : Nat) (r : Bool) (d : List Byte) (s : State) : (journal src code r d s).pke = s.pke := by
  obtain ⟨j, u, h⟩ := journal_shape src code r d s; rw [h]
@[simp] theorem journal_random (src code : Nat) (r : Bool) (d : List Byte) (s : State) : (journal src code r d s).random = s.random := by
  obtain ⟨j, u, h⟩ := journal_shape src code r d s; rw [h]
@[simp] theorem journal_heath (src code : Nat) (r : Bool) (d : List Byte) (s : State) : (journal src code r d s).heath = s.heath := by
  obtain ⟨j, u, h⟩ := journal_shape src code r d s; rw [h]
@[simp] theorem journal_wd (src code : Nat) (r : Bool) (d : List Byte) (s : State) : (journal src code r d s).wd = s.wd := by
  obtain ⟨j, u, h⟩ := journal_shape src code r d s; rw [h]
@[simp] theorem journal_timers (src code : Nat) (r : Bool) (d : List Byte) (s : State) : (journal src code r d s).timers = s.timers := by
  obtain ⟨j, u, h⟩ := journal_shape src code r d s; rw [h]
@[simp] theorem journal_timeouts (src code : Nat) (r : Bool) (d : List Byte) (s : State) : (journal src code r d s).timeouts = s.timeouts := by
  obtain ⟨j, u, h⟩ := journal_shape src code r d s; rw [h]
@[simp] theorem journal_cus (src code : Nat) (r : Bool) (d : List Byte) (s : State) : (journal src code r d s).cus = s.cus := by
  obtain ⟨j, u, h⟩ := journal_shape src code r d s; rw [h]
@[simp] theorem journal_cuTransients (src code : Nat) (r : Bool) (d : List Byte) (s : State) : (journal src code r d s).cuTransients = s.cuTransients := by
  obtain ⟨j, u, h⟩ := journal_shape src code r d s; rw [h]
@[simp] theorem journal_lc (src code : Nat) (r : Bool) (d : List Byte) (s : State) : (journal src code r d s).lc = s.lc := by
  obtain ⟨j, u, h⟩ := journal_shape src code r d s; rw [h]
@[simp] theorem journal_tap (src code : Nat) (r : Bool) (d : List Byte) (s : State) : (journal src code r d s).tap = s.tap := by
  obtain ⟨j, u, h⟩ := journal_shape src code r d s; rw [h]
@[simp] theorem journal_spdm (src code : Nat) (r : Bool) (d : List Byte) (s : State) : (journal src code r d s).spdm = s.spdm := by
  obtain ⟨j, u, h⟩ := journal_shape src code r d s; rw [h]
@[simp] theorem journal_mports (src code : Nat) (r : Bool) (d : List Byte) (s : State) : (journal src code r d s).mports = s.mports := by
  obtain ⟨j, u, h⟩ := journal_shape src code r d s; rw [h]
@[simp] theorem journal_ports (src code : Nat) (r : Bool) (d : List Byte) (s : State) : (journal src code r d s).ports = s.ports := by
  obtain ⟨j, u, h⟩ := journal_shape src code r d s; rw [h]
@[simp] theorem notice_pending (src : Nat) (r : Bool) (i k v d : Nat) (s : State) : (notice src r i k v d s).pending = s.pending := by
  obtain ⟨j, u, h⟩ := notice_shape src r i k v d s; rw [h]
@[simp] theorem notice_freeCount (src : Nat) (r : Bool) (i k v d : Nat) (s : State) : (notice src r i k v d s).freeCount = s.freeCount := by
  obtain ⟨j, u, h⟩ := notice_shape src r i k v d s; rw [h]
@[simp] theorem notice_now (src : Nat) (r : Bool) (i k v d : Nat) (s : State) : (notice src r i k v d s).now = s.now := by
  obtain ⟨j, u, h⟩ := notice_shape src r i k v d s; rw [h]
@[simp] theorem notice_subUs (src : Nat) (r : Bool) (i k v d : Nat) (s : State) : (notice src r i k v d s).subUs = s.subUs := by
  obtain ⟨j, u, h⟩ := notice_shape src r i k v d s; rw [h]
@[simp] theorem notice_tbUs (src : Nat) (r : Bool) (i k v d : Nat) (s : State) : (notice src r i k v d s).tbUs = s.tbUs := by
  obtain ⟨j, u, h⟩ := notice_shape src r i k v d s; rw [h]
@[simp] theorem notice_tbEpoch (src : Nat) (r : Bool) (i k v d : Nat) (s : State) : (notice src r i k v d s).tbEpoch = s.tbEpoch := by
  obtain ⟨j, u, h⟩ := notice_shape src r i k v d s; rw [h]
@[simp] theorem notice_refclk (src : Nat) (r : Bool) (i k v d : Nat) (s : State) : (notice src r i k v d s).refclk = s.refclk := by
  obtain ⟨j, u, h⟩ := notice_shape src r i k v d s; rw [h]
@[simp] theorem notice_pllLock (src : Nat) (r : Bool) (i k v d : Nat) (s : State) : (notice src r i k v d s).pllLock = s.pllLock := by
  obtain ⟨j, u, h⟩ := notice_shape src r i k v d s; rw [h]
@[simp] theorem notice_gapPeriods (src : Nat) (r : Bool) (i k v d : Nat) (s : State) : (notice src r i k v d s).gapPeriods = s.gapPeriods := by
  obtain ⟨j, u, h⟩ := notice_shape src r i k v d s; rw [h]
@[simp] theorem notice_refclkLosses (src : Nat) (r : Bool) (i k v d : Nat) (s : State) : (notice src r i k v d s).refclkLosses = s.refclkLosses := by
  obtain ⟨j, u, h⟩ := notice_shape src r i k v d s; rw [h]
@[simp] theorem notice_refclkLastGap (src : Nat) (r : Bool) (i k v d : Nat) (s : State) : (notice src r i k v d s).refclkLastGap = s.refclkLastGap := by
  obtain ⟨j, u, h⟩ := notice_shape src r i k v d s; rw [h]
@[simp] theorem notice_porPin (src : Nat) (r : Bool) (i k v d : Nat) (s : State) : (notice src r i k v d s).porPin = s.porPin := by
  obtain ⟨j, u, h⟩ := notice_shape src r i k v d s; rw [h]
@[simp] theorem notice_porN (src : Nat) (r : Bool) (i k v d : Nat) (s : State) : (notice src r i k v d s).porN = s.porN := by
  obtain ⟨j, u, h⟩ := notice_shape src r i k v d s; rw [h]
@[simp] theorem notice_straps (src : Nat) (r : Bool) (i k v d : Nat) (s : State) : (notice src r i k v d s).straps = s.straps := by
  obtain ⟨j, u, h⟩ := notice_shape src r i k v d s; rw [h]
@[simp] theorem notice_phase (src : Nat) (r : Bool) (i k v d : Nat) (s : State) : (notice src r i k v d s).phase = s.phase := by
  obtain ⟨j, u, h⟩ := notice_shape src r i k v d s; rw [h]
@[simp] theorem notice_steps (src : Nat) (r : Bool) (i k v d : Nat) (s : State) : (notice src r i k v d s).steps = s.steps := by
  obtain ⟨j, u, h⟩ := notice_shape src r i k v d s; rw [h]
@[simp] theorem notice_bootResult (src : Nat) (r : Bool) (i k v d : Nat) (s : State) : (notice src r i k v d s).bootResult = s.bootResult := by
  obtain ⟨j, u, h⟩ := notice_shape src r i k v d s; rw [h]
@[simp] theorem notice_resetCause (src : Nat) (r : Bool) (i k v d : Nat) (s : State) : (notice src r i k v d s).resetCause = s.resetCause := by
  obtain ⟨j, u, h⟩ := notice_shape src r i k v d s; rw [h]
@[simp] theorem notice_rtCopy (src : Nat) (r : Bool) (i k v d : Nat) (s : State) : (notice src r i k v d s).rtCopy = s.rtCopy := by
  obtain ⟨j, u, h⟩ := notice_shape src r i k v d s; rw [h]
@[simp] theorem notice_deviceResets (src : Nat) (r : Bool) (i k v d : Nat) (s : State) : (notice src r i k v d s).deviceResets = s.deviceResets := by
  obtain ⟨j, u, h⟩ := notice_shape src r i k v d s; rw [h]
@[simp] theorem notice_coreRestarts (src : Nat) (r : Bool) (i k v d : Nat) (s : State) : (notice src r i k v d s).coreRestarts = s.coreRestarts := by
  obtain ⟨j, u, h⟩ := notice_shape src r i k v d s; rw [h]
@[simp] theorem notice_bootAttempts (src : Nat) (r : Bool) (i k v d : Nat) (s : State) : (notice src r i k v d s).bootAttempts = s.bootAttempts := by
  obtain ⟨j, u, h⟩ := notice_shape src r i k v d s; rw [h]
@[simp] theorem notice_deviceResetDue (src : Nat) (r : Bool) (i k v d : Nat) (s : State) : (notice src r i k v d s).deviceResetDue = s.deviceResetDue := by
  obtain ⟨j, u, h⟩ := notice_shape src r i k v d s; rw [h]
@[simp] theorem notice_coresDown (src : Nat) (r : Bool) (i k v d : Nat) (s : State) : (notice src r i k v d s).coresDown = s.coresDown := by
  obtain ⟨j, u, h⟩ := notice_shape src r i k v d s; rw [h]
@[simp] theorem notice_coresHeld (src : Nat) (r : Bool) (i k v d : Nat) (s : State) : (notice src r i k v d s).coresHeld = s.coresHeld := by
  obtain ⟨j, u, h⟩ := notice_shape src r i k v d s; rw [h]
@[simp] theorem notice_coreHealth (src : Nat) (r : Bool) (i k v d : Nat) (s : State) : (notice src r i k v d s).coreHealth = s.coreHealth := by
  obtain ⟨j, u, h⟩ := notice_shape src r i k v d s; rw [h]
@[simp] theorem notice_halted (src : Nat) (r : Bool) (i k v d : Nat) (s : State) : (notice src r i k v d s).halted = s.halted := by
  obtain ⟨j, u, h⟩ := notice_shape src r i k v d s; rw [h]
@[simp] theorem notice_mgmtUp (src : Nat) (r : Bool) (i k v d : Nat) (s : State) : (notice src r i k v d s).mgmtUp = s.mgmtUp := by
  obtain ⟨j, u, h⟩ := notice_shape src r i k v d s; rw [h]
@[simp] theorem notice_testHonoured (src : Nat) (r : Bool) (i k v d : Nat) (s : State) : (notice src r i k v d s).testHonoured = s.testHonoured := by
  obtain ⟨j, u, h⟩ := notice_shape src r i k v d s; rw [h]
@[simp] theorem notice_recoveryByRuntime (src : Nat) (r : Bool) (i k v d : Nat) (s : State) : (notice src r i k v d s).recoveryByRuntime = s.recoveryByRuntime := by
  obtain ⟨j, u, h⟩ := notice_shape src r i k v d s; rw [h]
@[simp] theorem notice_rtImage (src : Nat) (r : Bool) (i k v d : Nat) (s : State) : (notice src r i k v d s).rtImage = s.rtImage := by
  obtain ⟨j, u, h⟩ := notice_shape src r i k v d s; rw [h]
@[simp] theorem notice_rtInstallResult (src : Nat) (r : Bool) (i k v d : Nat) (s : State) : (notice src r i k v d s).rtInstallResult = s.rtInstallResult := by
  obtain ⟨j, u, h⟩ := notice_shape src r i k v d s; rw [h]
@[simp] theorem notice_rtBuild (src : Nat) (r : Bool) (i k v d : Nat) (s : State) : (notice src r i k v d s).rtBuild = s.rtBuild := by
  obtain ⟨j, u, h⟩ := notice_shape src r i k v d s; rw [h]
@[simp] theorem notice_rtSvn (src : Nat) (r : Bool) (i k v d : Nat) (s : State) : (notice src r i k v d s).rtSvn = s.rtSvn := by
  obtain ⟨j, u, h⟩ := notice_shape src r i k v d s; rw [h]
@[simp] theorem notice_rtDigest (src : Nat) (r : Bool) (i k v d : Nat) (s : State) : (notice src r i k v d s).rtDigest = s.rtDigest := by
  obtain ⟨j, u, h⟩ := notice_shape src r i k v d s; rw [h]
@[simp] theorem notice_katResults (src : Nat) (r : Bool) (i k v d : Nat) (s : State) : (notice src r i k v d s).katResults = s.katResults := by
  obtain ⟨j, u, h⟩ := notice_shape src r i k v d s; rw [h]
@[simp] theorem notice_digestHealth (src : Nat) (r : Bool) (i k v d : Nat) (s : State) : (notice src r i k v d s).digestHealth = s.digestHealth := by
  obtain ⟨j, u, h⟩ := notice_shape src r i k v d s; rw [h]
@[simp] theorem notice_dgTransients (src : Nat) (r : Bool) (i k v d : Nat) (s : State) : (notice src r i k v d s).dgTransients = s.dgTransients := by
  obtain ⟨j, u, h⟩ := notice_shape src r i k v d s; rw [h]
@[simp] theorem notice_cipherHealth (src : Nat) (r : Bool) (i k v d : Nat) (s : State) : (notice src r i k v d s).cipherHealth = s.cipherHealth := by
  obtain ⟨j, u, h⟩ := notice_shape src r i k v d s; rw [h]
@[simp] theorem notice_cxTransients (src : Nat) (r : Bool) (i k v d : Nat) (s : State) : (notice src r i k v d s).cxTransients = s.cxTransients := by
  obtain ⟨j, u, h⟩ := notice_shape src r i k v d s; rw [h]
@[simp] theorem notice_freshAtHeath (src : Nat) (r : Bool) (i k v d : Nat) (s : State) : (notice src r i k v d s).freshAtHeath = s.freshAtHeath := by
  obtain ⟨j, u, h⟩ := notice_shape src r i k v d s; rw [h]
@[simp] theorem notice_pacePs (src : Nat) (r : Bool) (i k v d : Nat) (s : State) : (notice src r i k v d s).pacePs = s.pacePs := by
  obtain ⟨j, u, h⟩ := notice_shape src r i k v d s; rw [h]
@[simp] theorem notice_paceMaxPs (src : Nat) (r : Bool) (i k v d : Nat) (s : State) : (notice src r i k v d s).paceMaxPs = s.paceMaxPs := by
  obtain ⟨j, u, h⟩ := notice_shape src r i k v d s; rw [h]
@[simp] theorem notice_paceArmed (src : Nat) (r : Bool) (i k v d : Nat) (s : State) : (notice src r i k v d s).paceArmed = s.paceArmed := by
  obtain ⟨j, u, h⟩ := notice_shape src r i k v d s; rw [h]
@[simp] theorem notice_tj (src : Nat) (r : Bool) (i k v d : Nat) (s : State) : (notice src r i k v d s).tj = s.tj := by
  obtain ⟨j, u, h⟩ := notice_shape src r i k v d s; rw [h]
@[simp] theorem notice_tjMax (src : Nat) (r : Bool) (i k v d : Nat) (s : State) : (notice src r i k v d s).tjMax = s.tjMax := by
  obtain ⟨j, u, h⟩ := notice_shape src r i k v d s; rw [h]
@[simp] theorem notice_railMv (src : Nat) (r : Bool) (i k v d : Nat) (s : State) : (notice src r i k v d s).railMv = s.railMv := by
  obtain ⟨j, u, h⟩ := notice_shape src r i k v d s; rw [h]
@[simp] theorem notice_railMin (src : Nat) (r : Bool) (i k v d : Nat) (s : State) : (notice src r i k v d s).railMin = s.railMin := by
  obtain ⟨j, u, h⟩ := notice_shape src r i k v d s; rw [h]
@[simp] theorem notice_railMax (src : Nat) (r : Bool) (i k v d : Nat) (s : State) : (notice src r i k v d s).railMax = s.railMax := by
  obtain ⟨j, u, h⟩ := notice_shape src r i k v d s; rw [h]
@[simp] theorem notice_secCount (src : Nat) (r : Bool) (i k v d : Nat) (s : State) : (notice src r i k v d s).secCount = s.secCount := by
  obtain ⟨j, u, h⟩ := notice_shape src r i k v d s; rw [h]
@[simp] theorem notice_dedCount (src : Nat) (r : Bool) (i k v d : Nat) (s : State) : (notice src r i k v d s).dedCount = s.dedCount := by
  obtain ⟨j, u, h⟩ := notice_shape src r i k v d s; rw [h]
@[simp] theorem notice_scrubPasses (src : Nat) (r : Bool) (i k v d : Nat) (s : State) : (notice src r i k v d s).scrubPasses = s.scrubPasses := by
  obtain ⟨j, u, h⟩ := notice_shape src r i k v d s; rw [h]
@[simp] theorem notice_scrubLast (src : Nat) (r : Bool) (i k v d : Nat) (s : State) : (notice src r i k v d s).scrubLast = s.scrubLast := by
  obtain ⟨j, u, h⟩ := notice_shape src r i k v d s; rw [h]
@[simp] theorem notice_scrubPos (src : Nat) (r : Bool) (i k v d : Nat) (s : State) : (notice src r i k v d s).scrubPos = s.scrubPos := by
  obtain ⟨j, u, h⟩ := notice_shape src r i k v d s; rw [h]
@[simp] theorem notice_bistResult (src : Nat) (r : Bool) (i k v d : Nat) (s : State) : (notice src r i k v d s).bistResult = s.bistResult := by
  obtain ⟨j, u, h⟩ := notice_shape src r i k v d s; rw [h]
@[simp] theorem notice_injWord (src : Nat) (r : Bool) (i k v d : Nat) (s : State) : (notice src r i k v d s).injWord = s.injWord := by
  obtain ⟨j, u, h⟩ := notice_shape src r i k v d s; rw [h]
@[simp] theorem notice_injMask (src : Nat) (r : Bool) (i k v d : Nat) (s : State) : (notice src r i k v d s).injMask = s.injMask := by
  obtain ⟨j, u, h⟩ := notice_shape src r i k v d s; rw [h]
@[simp] theorem notice_unitResult (src : Nat) (r : Bool) (i k v d : Nat) (s : State) : (notice src r i k v d s).unitResult = s.unitResult := by
  obtain ⟨j, u, h⟩ := notice_shape src r i k v d s; rw [h]
@[simp] theorem notice_logicSig (src : Nat) (r : Bool) (i k v d : Nat) (s : State) : (notice src r i k v d s).logicSig = s.logicSig := by
  obtain ⟨j, u, h⟩ := notice_shape src r i k v d s; rw [h]
@[simp] theorem notice_cfg (src : Nat) (r : Bool) (i k v d : Nat) (s : State) : (notice src r i k v d s).cfg = s.cfg := by
  obtain ⟨j, u, h⟩ := notice_shape src r i k v d s; rw [h]
@[simp] theorem notice_commits (src : Nat) (r : Bool) (i k v d : Nat) (s : State) : (notice src r i k v d s).commits = s.commits := by
  obtain ⟨j, u, h⟩ := notice_shape src r i k v d s; rw [h]
@[simp] theorem notice_lastCommitPort (src : Nat) (r : Bool) (i k v d : Nat) (s : State) : (notice src r i k v d s).lastCommitPort = s.lastCommitPort := by
  obtain ⟨j, u, h⟩ := notice_shape src r i k v d s; rw [h]
@[simp] theorem notice_lastCommitUs (src : Nat) (r : Bool) (i k v d : Nat) (s : State) : (notice src r i k v d s).lastCommitUs = s.lastCommitUs := by
  obtain ⟨j, u, h⟩ := notice_shape src r i k v d s; rw [h]
@[simp] theorem notice_faReads (src : Nat) (r : Bool) (i k v d : Nat) (s : State) : (notice src r i k v d s).faReads = s.faReads := by
  obtain ⟨j, u, h⟩ := notice_shape src r i k v d s; rw [h]
@[simp] theorem notice_chans (src : Nat) (r : Bool) (i k v d : Nat) (s : State) : (notice src r i k v d s).chans = s.chans := by
  obtain ⟨j, u, h⟩ := notice_shape src r i k v d s; rw [h]
@[simp] theorem notice_fallow (src : Nat) (r : Bool) (i k v d : Nat) (s : State) : (notice src r i k v d s).fallow = s.fallow := by
  obtain ⟨j, u, h⟩ := notice_shape src r i k v d s; rw [h]
@[simp] theorem notice_hedgerow (src : Nat) (r : Bool) (i k v d : Nat) (s : State) : (notice src r i k v d s).hedgerow = s.hedgerow := by
  obtain ⟨j, u, h⟩ := notice_shape src r i k v d s; rw [h]
@[simp] theorem notice_hayloft (src : Nat) (r : Bool) (i k v d : Nat) (s : State) : (notice src r i k v d s).hayloft = s.hayloft := by
  obtain ⟨j, u, h⟩ := notice_shape src r i k v d s; rw [h]
@[simp] theorem notice_vault (src : Nat) (r : Bool) (i k v d : Nat) (s : State) : (notice src r i k v d s).vault = s.vault := by
  obtain ⟨j, u, h⟩ := notice_shape src r i k v d s; rw [h]
@[simp] theorem notice_update (src : Nat) (r : Bool) (i k v d : Nat) (s : State) : (notice src r i k v d s).update = s.update := by
  obtain ⟨j, u, h⟩ := notice_shape src r i k v d s; rw [h]
@[simp] theorem notice_banks (src : Nat) (r : Bool) (i k v d : Nat) (s : State) : (notice src r i k v d s).banks = s.banks := by
  obtain ⟨j, u, h⟩ := notice_shape src r i k v d s; rw [h]
@[simp] theorem notice_cxs (src : Nat) (r : Bool) (i k v d : Nat) (s : State) : (notice src r i k v d s).cxs = s.cxs := by
  obtain ⟨j, u, h⟩ := notice_shape src r i k v d s; rw [h]
@[simp] theorem notice_keys (src : Nat) (r : Bool) (i k v d : Nat) (s : State) : (notice src r i k v d s).keys = s.keys := by
  obtain ⟨j, u, h⟩ := notice_shape src r i k v d s; rw [h]
@[simp] theorem notice_pke (src : Nat) (r : Bool) (i k v d : Nat) (s : State) : (notice src r i k v d s).pke = s.pke := by
  obtain ⟨j, u, h⟩ := notice_shape src r i k v d s; rw [h]
@[simp] theorem notice_random (src : Nat) (r : Bool) (i k v d : Nat) (s : State) : (notice src r i k v d s).random = s.random := by
  obtain ⟨j, u, h⟩ := notice_shape src r i k v d s; rw [h]
@[simp] theorem notice_heath (src : Nat) (r : Bool) (i k v d : Nat) (s : State) : (notice src r i k v d s).heath = s.heath := by
  obtain ⟨j, u, h⟩ := notice_shape src r i k v d s; rw [h]
@[simp] theorem notice_wd (src : Nat) (r : Bool) (i k v d : Nat) (s : State) : (notice src r i k v d s).wd = s.wd := by
  obtain ⟨j, u, h⟩ := notice_shape src r i k v d s; rw [h]
@[simp] theorem notice_timers (src : Nat) (r : Bool) (i k v d : Nat) (s : State) : (notice src r i k v d s).timers = s.timers := by
  obtain ⟨j, u, h⟩ := notice_shape src r i k v d s; rw [h]
@[simp] theorem notice_timeouts (src : Nat) (r : Bool) (i k v d : Nat) (s : State) : (notice src r i k v d s).timeouts = s.timeouts := by
  obtain ⟨j, u, h⟩ := notice_shape src r i k v d s; rw [h]
@[simp] theorem notice_cus (src : Nat) (r : Bool) (i k v d : Nat) (s : State) : (notice src r i k v d s).cus = s.cus := by
  obtain ⟨j, u, h⟩ := notice_shape src r i k v d s; rw [h]
@[simp] theorem notice_cuTransients (src : Nat) (r : Bool) (i k v d : Nat) (s : State) : (notice src r i k v d s).cuTransients = s.cuTransients := by
  obtain ⟨j, u, h⟩ := notice_shape src r i k v d s; rw [h]
@[simp] theorem notice_lc (src : Nat) (r : Bool) (i k v d : Nat) (s : State) : (notice src r i k v d s).lc = s.lc := by
  obtain ⟨j, u, h⟩ := notice_shape src r i k v d s; rw [h]
@[simp] theorem notice_tap (src : Nat) (r : Bool) (i k v d : Nat) (s : State) : (notice src r i k v d s).tap = s.tap := by
  obtain ⟨j, u, h⟩ := notice_shape src r i k v d s; rw [h]
@[simp] theorem notice_spdm (src : Nat) (r : Bool) (i k v d : Nat) (s : State) : (notice src r i k v d s).spdm = s.spdm := by
  obtain ⟨j, u, h⟩ := notice_shape src r i k v d s; rw [h]
@[simp] theorem notice_mports (src : Nat) (r : Bool) (i k v d : Nat) (s : State) : (notice src r i k v d s).mports = s.mports := by
  obtain ⟨j, u, h⟩ := notice_shape src r i k v d s; rw [h]
@[simp] theorem notice_ports (src : Nat) (r : Bool) (i k v d : Nat) (s : State) : (notice src r i k v d s).ports = s.ports := by
  obtain ⟨j, u, h⟩ := notice_shape src r i k v d s; rw [h]

end Sys2Proof.Laws
end

