-- ==== Sys2Proof/Laws/Memory.lean ====
section
/-! SUPPORT. Byte memories: every operation keeps the canonical form (log entry 5), a read after a write, and a write
leaves every other byte. -/
namespace Sys2Proof.Laws
open Sys2Proof.Machine

/-- Every key of the table is above `b`. -/
def Above {α : Type} (b : Nat) (m : List (Nat × α)) : Prop := ∀ x ∈ m, b < x.1

theorem sortedKeys_cons {α : Type} (a : Nat × α) (m : List (Nat × α)) :
    sortedKeys (a :: m) = true ↔ Above a.1 m ∧ sortedKeys m = true := by
  induction m generalizing a with
  | nil => simp [sortedKeys, Above]
  | cons b t ih =>
    simp only [sortedKeys, Bool.and_eq_true, decide_eq_true_eq]
    constructor
    · rintro ⟨h, hs⟩
      refine ⟨fun x hx => ?_, hs⟩
      rcases List.mem_cons.mp hx with rfl | hx
      · exact h
      · exact Nat.lt_trans h (((ih b).mp hs).1 x hx)
    · rintro ⟨h, hs⟩
      exact ⟨h b List.mem_cons_self, hs⟩

theorem tput_above {α : Type} {b k : Nat} {v : α} {m : List (Nat × α)} (h : Above b m) (hk : b < k) : Above b (tput m k v) := by
  induction m with
  | nil => simpa [tput, Above] using hk
  | cons a t ih =>
    obtain ⟨j, w⟩ := a
    have ht : Above b t := fun x hx => h x (List.mem_cons_of_mem _ hx)
    have hj : b < j := h (j, w) List.mem_cons_self
    unfold tput
    intro x hx
    split at hx
    · rcases List.mem_cons.mp hx with rfl | hx
      · exact hk
      · exact h x hx
    · split at hx
      · rcases List.mem_cons.mp hx with rfl | hx
        · exact hk
        · exact ht x hx
      · rcases List.mem_cons.mp hx with rfl | hx
        · exact hj
        · exact ih ht x hx

theorem tput_sorted {α : Type} (k : Nat) (v : α) (m : List (Nat × α)) (h : sortedKeys m = true) :
    sortedKeys (tput m k v) = true := by
  induction m with
  | nil => rfl
  | cons a t ih =>
    obtain ⟨j, w⟩ := a
    have ⟨ha, ht⟩ := (sortedKeys_cons _ _).mp h
    unfold tput
    split
    · rename_i hk
      refine (sortedKeys_cons _ _).mpr ⟨fun x hx => ?_, h⟩
      rcases List.mem_cons.mp hx with rfl | hx
      · exact hk
      · exact Nat.lt_trans hk (ha x hx)
    · split
      · rename_i hk
        subst hk
        exact (sortedKeys_cons _ _).mpr ⟨ha, ht⟩
      · exact (sortedKeys_cons _ _).mpr ⟨tput_above ha (by simp only; omega), ih ht⟩

theorem tdel_subset {α : Type} (k : Nat) (m : List (Nat × α)) : ∀ x ∈ tdel m k, x ∈ m := by
  induction m with
  | nil => simp [tdel]
  | cons a t ih =>
    obtain ⟨j, w⟩ := a
    intro x hx
    unfold tdel at hx
    split at hx
    · exact List.mem_cons_of_mem _ hx
    · rcases List.mem_cons.mp hx with rfl | hx
      · exact List.mem_cons_self
      · exact List.mem_cons_of_mem _ (ih x hx)

theorem tdel_sorted {α : Type} (k : Nat) (m : List (Nat × α)) (h : sortedKeys m = true) : sortedKeys (tdel m k) = true := by
  induction m with
  | nil => rfl
  | cons a t ih =>
    obtain ⟨j, w⟩ := a
    have ⟨ha, ht⟩ := (sortedKeys_cons _ _).mp h
    unfold tdel
    split
    · exact ht
    · exact (sortedKeys_cons _ _).mpr ⟨fun x hx => ha x (tdel_subset k t x hx), ih ht⟩

theorem tput_mem {α : Type} (k : Nat) (v : α) (m : List (Nat × α)) : ∀ x ∈ tput m k v, x = (k, v) ∨ x ∈ m := by
  induction m with
  | nil => simp [tput]
  | cons a t ih =>
    obtain ⟨j, w⟩ := a
    intro x hx
    unfold tput at hx
    split at hx
    · exact List.mem_cons.mp hx
    · split at hx
      · rcases List.mem_cons.mp hx with h | h
        · exact .inl h
        · exact .inr (List.mem_cons_of_mem _ h)
      · rcases List.mem_cons.mp hx with rfl | hx
        · exact .inr List.mem_cons_self
        · exact (ih x hx).imp id (List.mem_cons_of_mem _)

theorem wf_iff {d : Byte} {m : List (Nat × Byte)} :
    Memory.wf d m = true ↔ sortedKeys m = true ∧ ∀ x ∈ m, x.2 ≠ d := by
  simp [Memory.wf]

/-- Writing one byte keeps the canonical form. -/
theorem write_wf {d : Byte} {m : List (Nat × Byte)} (a : Nat) (v : Byte) (h : Memory.wf d m = true) :
    Memory.wf d (Mem.write d m a v) = true := by
  have ⟨hs, hd⟩ := wf_iff.mp h
  unfold Mem.write
  split
  · exact wf_iff.mpr ⟨tdel_sorted a m hs, fun x hx => hd x (tdel_subset a m x hx)⟩
  · rename_i hv
    refine wf_iff.mpr ⟨tput_sorted a v m hs, fun x hx => ?_⟩
    rcases tput_mem a v m x hx with rfl | hx
    · exact hv
    · exact hd x hx

/-- Writing a byte string keeps the canonical form. -/
theorem writeL_wf {d : Byte} (bs : List Byte) {m : List (Nat × Byte)} (a : Nat) (h : Memory.wf d m = true) :
    Memory.wf d (Mem.writeL d m a bs) = true := by
  induction bs generalizing m a with
  | nil => exact h
  | cons b bs ih => exact ih (a + 1) (write_wf a b h)

theorem filter_above {α : Type} {b : Nat} {m : List (Nat × α)} (p : Nat × α → Bool) (h : Above b m) : Above b (m.filter p) :=
  fun x hx => h x (List.mem_filter.mp hx).1

theorem filter_sorted {α : Type} (p : Nat × α → Bool) (m : List (Nat × α)) (h : sortedKeys m = true) :
    sortedKeys (m.filter p) = true := by
  induction m with
  | nil => rfl
  | cons a t ih =>
    have ⟨ha, ht⟩ := (sortedKeys_cons _ _).mp h
    rw [List.filter_cons]
    split
    · exact (sortedKeys_cons _ _).mpr ⟨filter_above p ha, ih ht⟩
    · exact ih ht

/-- Clearing a range keeps the canonical form. -/
theorem clear_wf {d : Byte} {m : List (Nat × Byte)} (a n : Nat) (h : Memory.wf d m = true) :
    Memory.wf d (Mem.clear m a n) = true := by
  have ⟨hs, hd⟩ := wf_iff.mp h
  exact wf_iff.mpr ⟨filter_sorted _ m hs, fun x hx => hd x (List.mem_filter.mp hx).1⟩

/-- Bytes written one by one, each computed from the memory so far, keep the canonical form. -/
theorem foldl_write_wf {α : Type} {d : Byte} (at_ : α → Nat) (v : List (Nat × Byte) → α → Byte) (l : List α)
    {m : List (Nat × Byte)} (h : Memory.wf d m = true) :
    Memory.wf d (l.foldl (fun m x => Mem.write d m (at_ x) (v m x)) m) = true := by
  induction l generalizing m with
  | nil => exact h
  | cons x l ih => exact ih (write_wf _ _ h)

/-- A program or an erase keeps the flash's memory canonical. -/
theorem flashApply_wf (op : PhysOp) (f : Flash) (h : Memory.wf 0xFF f.cells = true) :
    Memory.wf 0xFF (flashApply op f).cells = true := by
  unfold flashApply
  split
  · exact clear_wf _ _ h
  · exact foldl_write_wf (fun x : Nat × Byte => x.1) (fun m x => Mem.read 0xFF m x.1 &&& x.2) _ h

/-- The bytes that a failed operation changed keep the flash's memory canonical. -/
theorem flashPatch_wf (cells : List (Nat × Byte)) (f : Flash) (h : Memory.wf 0xFF f.cells = true) :
    Memory.wf 0xFF (flashPatch cells f).cells = true :=
  foldl_write_wf (fun x : Nat × Byte => x.1) (fun _ x => x.2) _ h

/-- A burn keeps the OTP's memory canonical. -/
theorem otpBurn_wf (a : Nat) (bs : List Byte) (s : State) (h : Memory.wf 0 s.lc.otp = true) :
    Memory.wf 0 (otpBurn a bs s).lc.otp = true :=
  foldl_write_wf (fun x : Byte × Nat => a + x.2) (fun m x => ((tget m (a + x.2)).getD 0) ||| x.1) _ h

/-- Writing the user area keeps its memory canonical. -/
theorem userWrite_wf (sector : Nat) (bs : List Byte) (s : State) (h : Memory.wf 0 s.vault.user = true) :
    Memory.wf 0 (userWrite sector bs s).vault.user = true :=
  writeL_wf bs _ h

/-- Writing the RPMB keeps its memory canonical. -/
theorem rpmbWrite_wf (unit : Nat) (bs : List Byte) (s : State) (h : Memory.wf 0 s.vault.rpmb.cells = true) :
    Memory.wf 0 (rpmbWrite unit bs s).vault.rpmb.cells = true :=
  writeL_wf bs _ h

/-- After reset every byte memory is in canonical form. -/
theorem reset_memories_wf :
    (∀ c : Chan, Memory.wf 0xFF State.reset.chans[c].flash0.cells = true ∧ Memory.wf 0xFF State.reset.chans[c].flash1.cells = true) ∧
    Memory.wf 0 State.reset.vault.user = true ∧ Memory.wf 0 State.reset.vault.rpmb.cells = true ∧
    Memory.wf 0 State.reset.lc.otp = true := by
  refine ⟨fun c => ?_, rfl, rfl, rfl⟩
  simp [State.reset]
  decide

theorem tget_tput {α : Type} (m : List (Nat × α)) (k j : Nat) (v : α) :
    tget (tput m k v) j = if j = k then some v else tget m j := by
  induction m with
  | nil => simp [tput, tget, eq_comm]
  | cons a t ih =>
    obtain ⟨i, w⟩ := a
    unfold tput
    split
    · simp only [tget]
      split <;> simp_all [eq_comm]
    · split
      · rename_i h; subst h
        simp only [tget]
        split <;> simp_all [eq_comm]
      · simp only [tget, ih]
        split
        · split
          · omega
          · rfl
        · rfl

theorem tget_none {α : Type} {m : List (Nat × α)} {j b : Nat} (h : Above b m) (hj : j ≤ b) : tget m j = none := by
  induction m with
  | nil => rfl
  | cons a t ih =>
    have h1 := h a List.mem_cons_self
    unfold tget
    rw [if_neg (by omega)]
    exact ih (fun x hx => h x (List.mem_cons_of_mem _ hx))

theorem tget_tdel {α : Type} (m : List (Nat × α)) (k j : Nat) (h : sortedKeys m = true) :
    tget (tdel m k) j = if j = k then none else tget m j := by
  induction m with
  | nil => simp [tdel, tget]
  | cons a t ih =>
    obtain ⟨i, w⟩ := a
    have ⟨ha, ht⟩ := (sortedKeys_cons _ _).mp h
    unfold tdel
    split
    · rename_i hi
      subst hi
      split
      · rename_i hj; subst hj
        exact tget_none ha (Nat.le_refl _)
      · simp only [tget]; rw [if_neg (by omega)]
    · simp only [tget, ih ht]
      split
      · rw [if_neg (by omega)]
      · rfl

/-- A read after a write: the byte written at its address, every other byte as it was. -/
theorem read_write {d : Byte} {m : List (Nat × Byte)} (a b : Nat) (v : Byte) (h : Memory.wf d m = true) :
    Mem.read d (Mem.write d m a v) b = if b = a then v else Mem.read d m b := by
  have ⟨hs, _⟩ := wf_iff.mp h
  unfold Mem.read Mem.write
  split
  · rename_i hv
    rw [tget_tdel m a b hs]
    split <;> simp_all
  · rw [tget_tput]
    split <;> simp

end Sys2Proof.Laws
end

