-- ==== Sys2Proof/Laws/Reset.lean ====
section
/-! SUPPORT. Everything the entries into the power-up sequence do (R218, R220, R244 to R246). -/
namespace Sys2Proof.Laws
open Sys2Proof.Machine

theorem journalDrain_shape (s : State) : ∃ j u, journalDrain s = { s with journal := j, upsets := u } := by
  unfold journalDrain
  dsimp only
  have h2 : ∀ (l : List JEntry) (t : State), (∃ j u, t = { s with journal := j, upsets := u }) →
      ∃ j u, l.foldl (fun t e => journalCommit e t) t = { s with journal := j, upsets := u } := by
    intro l
    induction l with
    | nil => exact fun t h => h
    | cons a l ih =>
      rintro t ⟨j, u, rfl⟩
      apply ih
      obtain ⟨j2, u2, h⟩ := journalCommit_shape a { s with journal := j, upsets := u }
      exact ⟨j2, u2, h⟩
  have h3 : ∀ (l : List (Nat × List JEntry)) (t : State), (∃ j u, t = { s with journal := j, upsets := u }) →
      ∃ j u, l.foldl (fun t x => x.2.foldl (fun t e => journalCommit e t) t) t = { s with journal := j, upsets := u } := by
    intro l
    induction l with
    | nil => exact fun t h => h
    | cons a l ih => exact fun t h => ih _ (h2 _ _ h)
  exact h3 _ _ ⟨_, _, rfl⟩

/-- Entry into a phase sets the phase and writes one entry. -/
theorem enterPhase_shape (p : Phase) (s : State) :
    ∃ j u, enterPhase p s = { s with phase := p, journal := j, upsets := u } := by
  obtain ⟨j, u, h⟩ := journal_shape (match p with | .service | .test => 0x02 | _ => 0x01) 0x0004 false
    [BitVec.ofNat 8 (phaseCode p)] { s with phase := p }
  exact ⟨j, u, h⟩

/-- A power-on reset leaves the values after reset, with POR_N counted high. -/
theorem powerOn_shape (s : State) :
    ∃ j u, powerOn s = { powerReset s with porN := true, phase := .start, journal := j, upsets := u } := by
  obtain ⟨j, u, h⟩ := journal_shape 0x00 0x0002 true [0x01, 0] { powerReset s with porN := true }
  obtain ⟨j2, u2, h2⟩ := enterPhase_shape .start (journalReset { powerReset s with porN := true })
  refine ⟨j2, u2, ?_⟩
  have e : journalReset { powerReset s with porN := true } = _ := h
  rw [e] at h2
  exact (congrArg (enterPhase .start) e).trans h2

/-- The state a DEVICE reset leaves, but for the entries it writes. -/
def deviceCore (cause : U8) (s : State) : State :=
  { powerReset s with
    porN := s.porN, now := s.now, subUs := s.subUs, tbUs := s.tbUs, tbEpoch := s.tbEpoch
    refclk := s.refclk, pllLock := s.pllLock, gapPeriods := s.gapPeriods
    resetCause := cause, deviceResets := satInc s.deviceResets, coreRestarts := s.coreRestarts
    bootAttempts := if s.phase != .service && 2 ≤ cause.toNat && cause.toNat ≤ 5 then satInc s.bootAttempts
      else s.bootAttempts
    wd := { evCause := s.wd.evCause, evMissing := s.wd.evMissing, evDuplicate := s.wd.evDuplicate, evPc0 := s.wd.evPc0,
            evPc1 := s.wd.evPc1, evLastUs := s.wd.evLastUs, evLastEpoch := s.wd.evLastEpoch, evTime := s.wd.evTime,
            bites := s.wd.bites }
    lc := { otp := s.lc.otp, dbgToken := s.lc.dbgToken, dbgMaker := s.lc.dbgMaker, dbgEver := s.lc.dbgEver } }

/-- A DEVICE reset: the kept state, and the entries. -/
theorem deviceReset_shape (cause : U8) (s : State) :
    ∃ j u, deviceReset cause s = { deviceCore cause s with phase := .start, journal := j, upsets := u } := by
  obtain ⟨j0, u0, h0⟩ := journalDrain_shape s
  unfold deviceReset
  rw [h0]
  dsimp only
  generalize hx : ({ powerReset { s with journal := j0, upsets := u0 } with
    porN := s.porN, now := s.now, subUs := s.subUs, tbUs := s.tbUs, tbEpoch := s.tbEpoch
    refclk := s.refclk, pllLock := s.pllLock, gapPeriods := s.gapPeriods
    journal := j0, upsets := u0.filter (fun u => u.mem == 4)
    resetCause := cause, deviceResets := satInc s.deviceResets, coreRestarts := s.coreRestarts
    bootAttempts := if s.phase != .service && 2 ≤ cause.toNat && cause.toNat ≤ 5 then satInc s.bootAttempts
      else s.bootAttempts
    wd := { evCause := s.wd.evCause, evMissing := s.wd.evMissing, evDuplicate := s.wd.evDuplicate, evPc0 := s.wd.evPc0,
            evPc1 := s.wd.evPc1, evLastUs := s.wd.evLastUs, evLastEpoch := s.wd.evLastEpoch, evTime := s.wd.evTime,
            bites := s.wd.bites }
    lc := { otp := s.lc.otp, dbgToken := s.lc.dbgToken, dbgMaker := s.lc.dbgMaker, dbgEver := s.lc.dbgEver } } : State) = x
  obtain ⟨j1, u1, h1⟩ := journal_shape 0x00 0x0002 true [x.resetCause, x.bootAttempts] x
  obtain ⟨j2, u2, h2⟩ := enterPhase_shape .start (journalReset x)
  refine ⟨j2, u2, h2.trans ?_⟩
  have e : journalReset x = _ := h1
  rw [e, ← hx]
  rfl

end Sys2Proof.Laws
end

