-- ==== Sys2Proof/Laws/Sober.lean ====
section
/-! SUPPORT. What the random domain's work leaves alone: everything but the random domain, the key store, the journal, the
flipped bits, the timeouts' outcomes, the completed steps and BOOT_RESULT. -/
namespace Sys2Proof.Laws
open Sys2Proof.Machine
set_option maxRecDepth 8000
/-- The state aside from what the random domain's work may change. -/
def sober (s : State) : State :=
  { s with random := {}, keys := {}, journal := {}, upsets := [], timeouts := Vector.replicate 14 {}, steps := [], bootResult := 0 }
@[simp] theorem sober_journal (a b : Nat) (c : Bool) (d : List Byte) (s : State) : sober (journal a b c d s) = sober s := by
  obtain ⟨j, u, h⟩ := journal_shape a b c d s; rw [h]; rfl
@[simp] theorem sober_modRandom (f : Random → Random) (s : State) : sober (modRandom f s) = sober s := rfl
@[simp] theorem sober_modKeys (f : KeyStore → KeyStore) (s : State) : sober (modKeys f s) = sober s := rfl
@[simp] theorem sober_modTimeout (i) (f : Timeout → Timeout) (s : State) : sober (modTimeout i f s) = sober s := by simp [sober, modTimeout]
@[simp] theorem sober_modSource (i) (f : Source → Source) (s : State) : sober (modSource i f s) = sober s := rfl
@[simp] theorem sober_stepDone (k : Nat) (s : State) : sober (stepDone k s) = sober s := by
  unfold stepDone; split <;> simp [sober]
@[simp] theorem sober_ite (c : Prop) [Decidable c] (v : U40) (s : State) :
    sober (if c then { s with bootResult := v } else s) = sober s := by split <;> simp [sober]
@[simp] theorem sober_bootFail (k : Nat) (c : U8) (d : Nat) (s : State) : sober (bootFail k c d s) = sober s := by
  simp only [bootFail]; split <;> simp
@[simp] theorem sober_journalDrbg (a b : Nat) (s : State) : sober (journalDrbg a b s) = sober s := by simp [journalDrbg]
@[simp] theorem sober_drbgReseed (w) (s : State) : sober (drbgReseed w s) = sober s := rfl
@[simp] theorem sober_kickReseed (s : State) : sober (kickReseed s) = sober s := by
  unfold kickReseed; split
  · split <;> simp
  · rfl
@[simp] theorem sober_drbgExpire (s : State) : sober (drbgExpire s) = sober s := by simp [drbgExpire]
@[simp] theorem sober_drbgThresholds (s : State) : sober (drbgThresholds s) = sober s := by
  unfold drbgThresholds; dsimp only; split
  · simp
  · split <;> simp
theorem sober_drbgGenerate {n : Nat} {s t : State} {bs} (h : drbgGenerate n s = some (bs, t)) : sober t = sober s := by
  unfold drbgGenerate at h; split at h
  · simp at h; rw [← h.2]; simp
  · simp at h
@[simp] theorem sober_wireDeliver (c) (s : State) : sober (wireDeliver c s) = sober s := by
  unfold wireDeliver; split
  · rfl
  · rename_i h; split <;> simp [sober_drbgGenerate h]
theorem sober_foldl {α : Type} (f : State → α → State) (h : ∀ t x, sober (f t x) = sober t) (l : List α) (s : State) :
    sober (l.foldl f s) = sober s := by
  induction l generalizing s with
  | nil => rfl
  | cons a l ih => simp [ih, h]
@[simp] theorem sober_serveWires (s : State) : sober (serveWires s) = sober s := by
  unfold serveWires; split
  · dsimp only
    rw [sober_foldl _ (by simp), sober_foldl]
    · simp
    · intro t x; split
      · rename_i h; simp [sober_drbgGenerate h]
      · rfl
  · rfl
@[simp] theorem sober_wireTimeout (c) (s : State) : sober (wireTimeout c s) = sober s := by simp [wireTimeout]
@[simp] theorem sober_drbgInstantiate (w) (s : State) : sober (drbgInstantiate w s) = sober s := by simp [drbgInstantiate]
@[simp] theorem sober_kickInstantiate (s : State) : sober (kickInstantiate s) = sober s := by
  unfold kickInstantiate; split
  · split <;> simp
  · rfl
@[simp] theorem sober_drbgFresh (w) (s : State) : sober (drbgFresh w s) = sober s := by unfold drbgFresh; split <;> simp
@[simp] theorem sober_assignWindow (w) (s : State) : sober (assignWindow w s) = sober s := by
  unfold assignWindow; dsimp only; split
  · simp
  · split
    · simp
    · split
      · simp
      · split <;> simp
@[simp] theorem sober_nextSource (i) (s : State) : sober (nextSource i s) = sober s := by unfold nextSource; split <;> simp
@[simp] theorem sober_countSourceFail (i t a) (s : State) : sober (countSourceFail i t a s) = sober s := by simp [countSourceFail]
@[simp] theorem sober_dropRaw (s : State) : sober (dropRaw s) = sober s := by simp [dropRaw]
@[simp] theorem sober_sourceAlarm (i a) (s : State) : sober (sourceAlarm i a s) = sober s := by simp [sourceAlarm]
@[simp] theorem sober_startupEnd (i w) (s : State) : sober (startupEnd i w s) = sober s := by
  unfold startupEnd; split
  · simp
  · dsimp only; split
    · split <;> simp
    · simp
@[simp] theorem sober_entropyStep (s : State) : sober (entropyStep s) = sober s := by
  unfold entropyStep; dsimp only; split
  · rfl
  · split
    · split <;> simp
    · simp
@[simp] theorem sober_drbgZero (s : State) : sober (drbgZero s) = sober s := rfl
theorem sober_wireGenerate (c n) (s : State) : sober (wireGenerate c n s).2 = sober s := by
  unfold wireGenerate; split
  · rename_i h; simp [sober_drbgGenerate h]
  · dsimp only; split <;> simp

theorem sober_rest {s t : State} (h : sober t = sober s) :
    t.lc = s.lc ∧ t.mgmtUp = s.mgmtUp ∧ t.testHonoured = s.testHonoured ∧ t.halted = s.halted ∧ t.katResults = s.katResults ∧
    t.heath = s.heath ∧ t.vault = s.vault ∧ t.pke = s.pke ∧ t.wd = s.wd ∧ t.chans = s.chans ∧ t.ports = s.ports ∧
    t.banks = s.banks ∧ t.cxs = s.cxs ∧ t.cfg = s.cfg ∧ t.update = s.update ∧ t.hayloft = s.hayloft ∧
    t.hedgerow = s.hedgerow ∧ t.spdm = s.spdm ∧ t.mports = s.mports ∧ t.tap = s.tap ∧ t.timers = s.timers ∧ t.cus = s.cus ∧
    t.fallow = s.fallow := by
  have g : ∀ {α : Type} (f : State → α), f (sober t) = f (sober s) := fun f => congrArg f h
  refine ⟨g State.lc, g State.mgmtUp, g State.testHonoured, g State.halted, g State.katResults, g State.heath, g State.vault,
    g State.pke, g State.wd, g State.chans, g State.ports, g State.banks, g State.cxs, g State.cfg, g State.update,
    g State.hayloft, g State.hedgerow, g State.spdm, g State.mports, g State.tap, g State.timers, g State.cus, g State.fallow⟩

theorem ground_pending {s t : State} (h : ground t = ground s) : t.pending = s.pending := congrArg Ground.pending h
theorem ground_now {s t : State} (h : ground t = ground s) : t.now = s.now := congrArg Ground.now h
theorem ground_tbUs {s t : State} (h : ground t = ground s) : t.tbUs = s.tbUs := congrArg Ground.tbUs h
theorem ground_refclk {s t : State} (h : ground t = ground s) : t.refclk = s.refclk := congrArg Ground.refclk h
theorem ground_pllLock {s t : State} (h : ground t = ground s) : t.pllLock = s.pllLock := congrArg Ground.pllLock h
theorem ground_porN {s t : State} (h : ground t = ground s) : t.porN = s.porN := congrArg Ground.porN h
theorem ground_phase {s t : State} (h : ground t = ground s) : t.phase = s.phase := congrArg Ground.phase h
theorem ground_steps {s t : State} (h : ground t = ground s) : t.steps = s.steps := congrArg Ground.steps h
theorem ground_halted {s t : State} (h : ground t = ground s) : t.halted = s.halted := congrArg Ground.halted h

end Sys2Proof.Laws
end

