-- ==== Sys2Proof/Laws/Keep.lean ====
section
/-! SUPPORT. What the boot's and the random domain's operations leave alone, field by field. -/
namespace Sys2Proof.Laws
open Sys2Proof.Machine
set_option maxRecDepth 4000

theorem enterPhase_keep (p : Phase) (s : State) : ∃ j u, enterPhase p s = { s with phase := p, journal := j, upsets := u } :=
  enterPhase_shape p s
theorem stepDone_keep (k : Nat) (s : State) : ∃ st, stepDone k s = { s with steps := st } := by
  unfold stepDone; split
  · exact ⟨s.steps, rfl⟩
  · exact ⟨_, rfl⟩
theorem bootFail_ite (c : Prop) [Decidable c] (v : U40) (s : State) :
    (if c then { s with bootResult := v } else s) = { s with bootResult := if c then v else s.bootResult } := by
  split <;> rfl
theorem bootFail_keep (k : Nat) (c : U8) (d : Nat) (s : State) :
    ∃ b j u, bootFail k c d s = { s with bootResult := b, journal := j, upsets := u } := by
  simp only [bootFail, bootFail_ite]
  split
  · exact ⟨_, s.journal, s.upsets, rfl⟩
  · obtain ⟨j, u, h⟩ := journal_shape (if k ≤ 7 then 0x01 else 0x02) 0x0003 true
      (leBytes 5 (BitVec.ofNat 40 (k * 2 ^ 24 + c.toNat * 2 ^ 16 + d % 2 ^ 16)).toNat)
      { s with bootResult := if (bits s.bootResult.toNat 31 24 = 0 ∨ k < bits s.bootResult.toNat 31 24 ∨
        (k = 1 ∧ bits s.bootResult.toNat 31 24 = 1)) then BitVec.ofNat 40 (k * 2 ^ 24 + c.toNat * 2 ^ 16 + d % 2 ^ 16)
        else s.bootResult }
    exact ⟨_, j, u, h⟩
@[simp] theorem enterPhase_pending (p : Phase) (s : State) : (enterPhase p s).pending = s.pending := by
  obtain ⟨j, u, h⟩ := enterPhase_keep p s; rw [h]
@[simp] theorem enterPhase_freeCount (p : Phase) (s : State) : (enterPhase p s).freeCount = s.freeCount := by
  obtain ⟨j, u, h⟩ := enterPhase_keep p s; rw [h]
@[simp] theorem enterPhase_now (p : Phase) (s : State) : (enterPhase p s).now = s.now := by
  obtain ⟨j, u, h⟩ := enterPhase_keep p s; rw [h]
@[simp] theorem enterPhase_subUs (p : Phase) (s : State) : (enterPhase p s).subUs = s.subUs := by
  obtain ⟨j, u, h⟩ := enterPhase_keep p s; rw [h]
@[simp] theorem enterPhase_tbUs (p : Phase) (s : State) : (enterPhase p s).tbUs = s.tbUs := by
  obtain ⟨j, u, h⟩ := enterPhase_keep p s; rw [h]
@[simp] theorem enterPhase_tbEpoch (p : Phase) (s : State) : (enterPhase p s).tbEpoch = s.tbEpoch := by
  obtain ⟨j, u, h⟩ := enterPhase_keep p s; rw [h]
@[simp] theorem enterPhase_refclk (p : Phase) (s : State) : (enterPhase p s).refclk = s.refclk := by
  obtain ⟨j, u, h⟩ := enterPhase_keep p s; rw [h]
@[simp] theorem enterPhase_pllLock (p : Phase) (s : State) : (enterPhase p s).pllLock = s.pllLock := by
  obtain ⟨j, u, h⟩ := enterPhase_keep p s; rw [h]
@[simp] theorem enterPhase_gapPeriods (p : Phase) (s : State) : (enterPhase p s).gapPeriods = s.gapPeriods := by
  obtain ⟨j, u, h⟩ := enterPhase_keep p s; rw [h]
@[simp] theorem enterPhase_refclkLosses (p : Phase) (s : State) : (enterPhase p s).refclkLosses = s.refclkLosses := by
  obtain ⟨j, u, h⟩ := enterPhase_keep p s; rw [h]
@[simp] theorem enterPhase_refclkLastGap (p : Phase) (s : State) : (enterPhase p s).refclkLastGap = s.refclkLastGap := by
  obtain ⟨j, u, h⟩ := enterPhase_keep p s; rw [h]
@[simp] theorem enterPhase_porPin (p : Phase) (s : State) : (enterPhase p s).porPin = s.porPin := by
  obtain ⟨j, u, h⟩ := enterPhase_keep p s; rw [h]
@[simp] theorem enterPhase_porN (p : Phase) (s : State) : (enterPhase p s).porN = s.porN := by
  obtain ⟨j, u, h⟩ := enterPhase_keep p s; rw [h]
@[simp] theorem enterPhase_straps (p : Phase) (s : State) : (enterPhase p s).straps = s.straps := by
  obtain ⟨j, u, h⟩ := enterPhase_keep p s; rw [h]
@[simp] theorem enterPhase_steps (p : Phase) (s : State) : (enterPhase p s).steps = s.steps := by
  obtain ⟨j, u, h⟩ := enterPhase_keep p s; rw [h]
@[simp] theorem enterPhase_bootResult (p : Phase) (s : State) : (enterPhase p s).bootResult = s.bootResult := by
  obtain ⟨j, u, h⟩ := enterPhase_keep p s; rw [h]
@[simp] theorem enterPhase_resetCause (p : Phase) (s : State) : (enterPhase p s).resetCause = s.resetCause := by
  obtain ⟨j, u, h⟩ := enterPhase_keep p s; rw [h]
@[simp] theorem enterPhase_rtCopy (p : Phase) (s : State) : (enterPhase p s).rtCopy = s.rtCopy := by
  obtain ⟨j, u, h⟩ := enterPhase_keep p s; rw [h]
@[simp] theorem enterPhase_deviceResets (p : Phase) (s : State) : (enterPhase p s).deviceResets = s.deviceResets := by
  obtain ⟨j, u, h⟩ := enterPhase_keep p s; rw [h]
@[simp] theorem enterPhase_coreRestarts (p : Phase) (s : State) : (enterPhase p s).coreRestarts = s.coreRestarts := by
  obtain ⟨j, u, h⟩ := enterPhase_keep p s; rw [h]
@[simp] theorem enterPhase_bootAttempts (p : Phase) (s : State) : (enterPhase p s).bootAttempts = s.bootAttempts := by
  obtain ⟨j, u, h⟩ := enterPhase_keep p s; rw [h]
@[simp] theorem enterPhase_deviceResetDue (p : Phase) (s : State) : (enterPhase p s).deviceResetDue = s.deviceResetDue := by
  obtain ⟨j, u, h⟩ := enterPhase_keep p s; rw [h]
@[simp] theorem enterPhase_coresDown (p : Phase) (s : State) : (enterPhase p s).coresDown = s.coresDown := by
  obtain ⟨j, u, h⟩ := enterPhase_keep p s; rw [h]
@[simp] theorem enterPhase_coresHeld (p : Phase) (s : State) : (enterPhase p s).coresHeld = s.coresHeld := by
  obtain ⟨j, u, h⟩ := enterPhase_keep p s; rw [h]
@[simp] theorem enterPhase_coreHealth (p : Phase) (s : State) : (enterPhase p s).coreHealth = s.coreHealth := by
  obtain ⟨j, u, h⟩ := enterPhase_keep p s; rw [h]
@[simp] theorem enterPhase_halted (p : Phase) (s : State) : (enterPhase p s).halted = s.halted := by
  obtain ⟨j, u, h⟩ := enterPhase_keep p s; rw [h]
@[simp] theorem enterPhase_mgmtUp (p : Phase) (s : State) : (enterPhase p s).mgmtUp = s.mgmtUp := by
  obtain ⟨j, u, h⟩ := enterPhase_keep p s; rw [h]
@[simp] theorem enterPhase_testHonoured (p : Phase) (s : State) : (enterPhase p s).testHonoured = s.testHonoured := by
  obtain ⟨j, u, h⟩ := enterPhase_keep p s; rw [h]
@[simp] theorem enterPhase_recoveryByRuntime (p : Phase) (s : State) : (enterPhase p s).recoveryByRuntime = s.recoveryByRuntime := by
  obtain ⟨j, u, h⟩ := enterPhase_keep p s; rw [h]
@[simp] theorem enterPhase_rtImage (p : Phase) (s : State) : (enterPhase p s).rtImage = s.rtImage := by
  obtain ⟨j, u, h⟩ := enterPhase_keep p s; rw [h]
@[simp] theorem enterPhase_rtInstallResult (p : Phase) (s : State) : (enterPhase p s).rtInstallResult = s.rtInstallResult := by
  obtain ⟨j, u, h⟩ := enterPhase_keep p s; rw [h]
@[simp] theorem enterPhase_rtBuild (p : Phase) (s : State) : (enterPhase p s).rtBuild = s.rtBuild := by
  obtain ⟨j, u, h⟩ := enterPhase_keep p s; rw [h]
@[simp] theorem enterPhase_rtSvn (p : Phase) (s : State) : (enterPhase p s).rtSvn = s.rtSvn := by
  obtain ⟨j, u, h⟩ := enterPhase_keep p s; rw [h]
@[simp] theorem enterPhase_rtDigest (p : Phase) (s : State) : (enterPhase p s).rtDigest = s.rtDigest := by
  obtain ⟨j, u, h⟩ := enterPhase_keep p s; rw [h]
@[simp] theorem enterPhase_katResults (p : Phase) (s : State) : (enterPhase p s).katResults = s.katResults := by
  obtain ⟨j, u, h⟩ := enterPhase_keep p s; rw [h]
@[simp] theorem enterPhase_digestHealth (p : Phase) (s : State) : (enterPhase p s).digestHealth = s.digestHealth := by
  obtain ⟨j, u, h⟩ := enterPhase_keep p s; rw [h]
@[simp] theorem enterPhase_dgTransients (p : Phase) (s : State) : (enterPhase p s).dgTransients = s.dgTransients := by
  obtain ⟨j, u, h⟩ := enterPhase_keep p s; rw [h]
@[simp] theorem enterPhase_cipherHealth (p : Phase) (s : State) : (enterPhase p s).cipherHealth = s.cipherHealth := by
  obtain ⟨j, u, h⟩ := enterPhase_keep p s; rw [h]
@[simp] theorem enterPhase_cxTransients (p : Phase) (s : State) : (enterPhase p s).cxTransients = s.cxTransients := by
  obtain ⟨j, u, h⟩ := enterPhase_keep p s; rw [h]
@[simp] theorem enterPhase_freshAtHeath (p : Phase) (s : State) : (enterPhase p s).freshAtHeath = s.freshAtHeath := by
  obtain ⟨j, u, h⟩ := enterPhase_keep p s; rw [h]
@[simp] theorem enterPhase_pacePs (p : Phase) (s : State) : (enterPhase p s).pacePs = s.pacePs := by
  obtain ⟨j, u, h⟩ := enterPhase_keep p s; rw [h]
@[simp] theorem enterPhase_paceMaxPs (p : Phase) (s : State) : (enterPhase p s).paceMaxPs = s.paceMaxPs := by
  obtain ⟨j, u, h⟩ := enterPhase_keep p s; rw [h]
@[simp] theorem enterPhase_paceArmed (p : Phase) (s : State) : (enterPhase p s).paceArmed = s.paceArmed := by
  obtain ⟨j, u, h⟩ := enterPhase_keep p s; rw [h]
@[simp] theorem enterPhase_tj (p : Phase) (s : State) : (enterPhase p s).tj = s.tj := by
  obtain ⟨j, u, h⟩ := enterPhase_keep p s; rw [h]
@[simp] theorem enterPhase_tjMax (p : Phase) (s : State) : (enterPhase p s).tjMax = s.tjMax := by
  obtain ⟨j, u, h⟩ := enterPhase_keep p s; rw [h]
@[simp] theorem enterPhase_railMv (p : Phase) (s : State) : (enterPhase p s).railMv = s.railMv := by
  obtain ⟨j, u, h⟩ := enterPhase_keep p s; rw [h]
@[simp] theorem enterPhase_railMin (p : Phase) (s : State) : (enterPhase p s).railMin = s.railMin := by
  obtain ⟨j, u, h⟩ := enterPhase_keep p s; rw [h]
@[simp] theorem enterPhase_railMax (p : Phase) (s : State) : (enterPhase p s).railMax = s.railMax := by
  obtain ⟨j, u, h⟩ := enterPhase_keep p s; rw [h]
@[simp] theorem enterPhase_secCount (p : Phase) (s : State) : (enterPhase p s).secCount = s.secCount := by
  obtain ⟨j, u, h⟩ := enterPhase_keep p s; rw [h]
@[simp] theorem enterPhase_dedCount (p : Phase) (s : State) : (enterPhase p s).dedCount = s.dedCount := by
  obtain ⟨j, u, h⟩ := enterPhase_keep p s; rw [h]
@[simp] theorem enterPhase_scrubPasses (p : Phase) (s : State) : (enterPhase p s).scrubPasses = s.scrubPasses := by
  obtain ⟨j, u, h⟩ := enterPhase_keep p s; rw [h]
@[simp] theorem enterPhase_scrubLast (p : Phase) (s : State) : (enterPhase p s).scrubLast = s.scrubLast := by
  obtain ⟨j, u, h⟩ := enterPhase_keep p s; rw [h]
@[simp] theorem enterPhase_scrubPos (p : Phase) (s : State) : (enterPhase p s).scrubPos = s.scrubPos := by
  obtain ⟨j, u, h⟩ := enterPhase_keep p s; rw [h]
@[simp] theorem enterPhase_bistResult (p : Phase) (s : State) : (enterPhase p s).bistResult = s.bistResult := by
  obtain ⟨j, u, h⟩ := enterPhase_keep p s; rw [h]
@[simp] theorem enterPhase_injWord (p : Phase) (s : State) : (enterPhase p s).injWord = s.injWord := by
  obtain ⟨j, u, h⟩ := enterPhase_keep p s; rw [h]
@[simp] theorem enterPhase_injMask (p : Phase) (s : State) : (enterPhase p s).injMask = s.injMask := by
  obtain ⟨j, u, h⟩ := enterPhase_keep p s; rw [h]
@[simp] theorem enterPhase_unitResult (p : Phase) (s : State) : (enterPhase p s).unitResult = s.unitResult := by
  obtain ⟨j, u, h⟩ := enterPhase_keep p s; rw [h]
@[simp] theorem enterPhase_logicSig (p : Phase) (s : State) : (enterPhase p s).logicSig = s.logicSig := by
  obtain ⟨j, u, h⟩ := enterPhase_keep p s; rw [h]
@[simp] theorem enterPhase_cfg (p : Phase) (s : State) : (enterPhase p s).cfg = s.cfg := by
  obtain ⟨j, u, h⟩ := enterPhase_keep p s; rw [h]
@[simp] theorem enterPhase_commits (p : Phase) (s : State) : (enterPhase p s).commits = s.commits := by
  obtain ⟨j, u, h⟩ := enterPhase_keep p s; rw [h]
@[simp] theorem enterPhase_lastCommitPort (p : Phase) (s : State) : (enterPhase p s).lastCommitPort = s.lastCommitPort := by
  obtain ⟨j, u, h⟩ := enterPhase_keep p s; rw [h]
@[simp] theorem enterPhase_lastCommitUs (p : Phase) (s : State) : (enterPhase p s).lastCommitUs = s.lastCommitUs := by
  obtain ⟨j, u, h⟩ := enterPhase_keep p s; rw [h]
@[simp] theorem enterPhase_faReads (p : Phase) (s : State) : (enterPhase p s).faReads = s.faReads := by
  obtain ⟨j, u, h⟩ := enterPhase_keep p s; rw [h]
@[simp] theorem enterPhase_chans (p : Phase) (s : State) : (enterPhase p s).chans = s.chans := by
  obtain ⟨j, u, h⟩ := enterPhase_keep p s; rw [h]
@[simp] theorem enterPhase_fallow (p : Phase) (s : State) : (enterPhase p s).fallow = s.fallow := by
  obtain ⟨j, u, h⟩ := enterPhase_keep p s; rw [h]
@[simp] theorem enterPhase_hedgerow (p : Phase) (s : State) : (enterPhase p s).hedgerow = s.hedgerow := by
  obtain ⟨j, u, h⟩ := enterPhase_keep p s; rw [h]
@[simp] theorem enterPhase_hayloft (p : Phase) (s : State) : (enterPhase p s).hayloft = s.hayloft := by
  obtain ⟨j, u, h⟩ := enterPhase_keep p s; rw [h]
@[simp] theorem enterPhase_vault (p : Phase) (s : State) : (enterPhase p s).vault = s.vault := by
  obtain ⟨j, u, h⟩ := enterPhase_keep p s; rw [h]
@[simp] theorem enterPhase_update (p : Phase) (s : State) : (enterPhase p s).update = s.update := by
  obtain ⟨j, u, h⟩ := enterPhase_keep p s; rw [h]
@[simp] theorem enterPhase_banks (p : Phase) (s : State) : (enterPhase p s).banks = s.banks := by
  obtain ⟨j, u, h⟩ := enterPhase_keep p s; rw [h]
@[simp] theorem enterPhase_cxs (p : Phase) (s : State) : (enterPhase p s).cxs = s.cxs := by
  obtain ⟨j, u, h⟩ := enterPhase_keep p s; rw [h]
@[simp] theorem enterPhase_keys (p : Phase) (s : State) : (enterPhase p s).keys = s.keys := by
  obtain ⟨j, u, h⟩ := enterPhase_keep p s; rw [h]
@[simp] theorem enterPhase_pke (p : Phase) (s : State) : (enterPhase p s).pke = s.pke := by
  obtain ⟨j, u, h⟩ := enterPhase_keep p s; rw [h]
@[simp] theorem enterPhase_random (p : Phase) (s : State) : (enterPhase p s).random = s.random := by
  obtain ⟨j, u, h⟩ := enterPhase_keep p s; rw [h]
@[simp] theorem enterPhase_heath (p : Phase) (s : State) : (enterPhase p s).heath = s.heath := by
  obtain ⟨j, u, h⟩ := enterPhase_keep p s; rw [h]
@[simp] theorem enterPhase_wd (p : Phase) (s : State) : (enterPhase p s).wd = s.wd := by
  obtain ⟨j, u, h⟩ := enterPhase_keep p s; rw [h]
@[simp] theorem enterPhase_timers (p : Phase) (s : State) : (enterPhase p s).timers = s.timers := by
  obtain ⟨j, u, h⟩ := enterPhase_keep p s; rw [h]
@[simp] theorem enterPhase_timeouts (p : Phase) (s : State) : (enterPhase p s).timeouts = s.timeouts := by
  obtain ⟨j, u, h⟩ := enterPhase_keep p s; rw [h]
@[simp] theorem enterPhase_cus (p : Phase) (s : State) : (enterPhase p s).cus = s.cus := by
  obtain ⟨j, u, h⟩ := enterPhase_keep p s; rw [h]
@[simp] theorem enterPhase_cuTransients (p : Phase) (s : State) : (enterPhase p s).cuTransients = s.cuTransients := by
  obtain ⟨j, u, h⟩ := enterPhase_keep p s; rw [h]
@[simp] theorem enterPhase_lc (p : Phase) (s : State) : (enterPhase p s).lc = s.lc := by
  obtain ⟨j, u, h⟩ := enterPhase_keep p s; rw [h]
@[simp] theorem enterPhase_tap (p : Phase) (s : State) : (enterPhase p s).tap = s.tap := by
  obtain ⟨j, u, h⟩ := enterPhase_keep p s; rw [h]
@[simp] theorem enterPhase_spdm (p : Phase) (s : State) : (enterPhase p s).spdm = s.spdm := by
  obtain ⟨j, u, h⟩ := enterPhase_keep p s; rw [h]
@[simp] theorem enterPhase_mports (p : Phase) (s : State) : (enterPhase p s).mports = s.mports := by
  obtain ⟨j, u, h⟩ := enterPhase_keep p s; rw [h]
@[simp] theorem enterPhase_ports (p : Phase) (s : State) : (enterPhase p s).ports = s.ports := by
  obtain ⟨j, u, h⟩ := enterPhase_keep p s; rw [h]
@[simp] theorem enterPhase_phase (p : Phase) (s : State) : (enterPhase p s).phase = p := by
  obtain ⟨j, u, h⟩ := enterPhase_keep p s; rw [h]
@[simp] theorem stepDone_pending (k : Nat) (s : State) : (stepDone k s).pending = s.pending := by
  obtain ⟨j, h⟩ := stepDone_keep k s; rw [h]
@[simp] theorem stepDone_freeCount (k : Nat) (s : State) : (stepDone k s).freeCount = s.freeCount := by
  obtain ⟨j, h⟩ := stepDone_keep k s; rw [h]
@[simp] theorem stepDone_now (k : Nat) (s : State) : (stepDone k s).now = s.now := by
  obtain ⟨j, h⟩ := stepDone_keep k s; rw [h]
@[simp] theorem stepDone_subUs (k : Nat) (s : State) : (stepDone k s).subUs = s.subUs := by
  obtain ⟨j, h⟩ := stepDone_keep k s; rw [h]
@[simp] theorem stepDone_tbUs (k : Nat) (s : State) : (stepDone k s).tbUs = s.tbUs := by
  obtain ⟨j, h⟩ := stepDone_keep k s; rw [h]
@[simp] theorem stepDone_tbEpoch (k : Nat) (s : State) : (stepDone k s).tbEpoch = s.tbEpoch := by
  obtain ⟨j, h⟩ := stepDone_keep k s; rw [h]
@[simp] theorem stepDone_refclk (k : Nat) (s : State) : (stepDone k s).refclk = s.refclk := by
  obtain ⟨j, h⟩ := stepDone_keep k s; rw [h]
@[simp] theorem stepDone_pllLock (k : Nat) (s : State) : (stepDone k s).pllLock = s.pllLock := by
  obtain ⟨j, h⟩ := stepDone_keep k s; rw [h]
@[simp] theorem stepDone_gapPeriods (k : Nat) (s : State) : (stepDone k s).gapPeriods = s.gapPeriods := by
  obtain ⟨j, h⟩ := stepDone_keep k s; rw [h]
@[simp] theorem stepDone_refclkLosses (k : Nat) (s : State) : (stepDone k s).refclkLosses = s.refclkLosses := by
  obtain ⟨j, h⟩ := stepDone_keep k s; rw [h]
@[simp] theorem stepDone_refclkLastGap (k : Nat) (s : State) : (stepDone k s).refclkLastGap = s.refclkLastGap := by
  obtain ⟨j, h⟩ := stepDone_keep k s; rw [h]
@[simp] theorem stepDone_porPin (k : Nat) (s : State) : (stepDone k s).porPin = s.porPin := by
  obtain ⟨j, h⟩ := stepDone_keep k s; rw [h]
@[simp] theorem stepDone_porN (k : Nat) (s : State) : (stepDone k s).porN = s.porN := by
  obtain ⟨j, h⟩ := stepDone_keep k s; rw [h]
@[simp] theorem stepDone_straps (k : Nat) (s : State) : (stepDone k s).straps = s.straps := by
  obtain ⟨j, h⟩ := stepDone_keep k s; rw [h]
@[simp] theorem stepDone_phase (k : Nat) (s : State) : (stepDone k s).phase = s.phase := by
  obtain ⟨j, h⟩ := stepDone_keep k s; rw [h]
@[simp] theorem stepDone_bootResult (k : Nat) (s : State) : (stepDone k s).bootResult = s.bootResult := by
  obtain ⟨j, h⟩ := stepDone_keep k s; rw [h]
@[simp] theorem stepDone_resetCause (k : Nat) (s : State) : (stepDone k s).resetCause = s.resetCause := by
  obtain ⟨j, h⟩ := stepDone_keep k s; rw [h]
@[simp] theorem stepDone_rtCopy (k : Nat) (s : State) : (stepDone k s).rtCopy = s.rtCopy := by
  obtain ⟨j, h⟩ := stepDone_keep k s; rw [h]
@[simp] theorem stepDone_deviceResets (k : Nat) (s : State) : (stepDone k s).deviceResets = s.deviceResets := by
  obtain ⟨j, h⟩ := stepDone_keep k s; rw [h]
@[simp] theorem stepDone_coreRestarts (k : Nat) (s : State) : (stepDone k s).coreRestarts = s.coreRestarts := by
  obtain ⟨j, h⟩ := stepDone_keep k s; rw [h]
@[simp] theorem stepDone_bootAttempts (k : Nat) (s : State) : (stepDone k s).bootAttempts = s.bootAttempts := by
  obtain ⟨j, h⟩ := stepDone_keep k s; rw [h]
@[simp] theorem stepDone_deviceResetDue (k : Nat) (s : State) : (stepDone k s).deviceResetDue = s.deviceResetDue := by
  obtain ⟨j, h⟩ := stepDone_keep k s; rw [h]
@[simp] theorem stepDone_coresDown (k : Nat) (s : State) : (stepDone k s).coresDown = s.coresDown := by
  obtain ⟨j, h⟩ := stepDone_keep k s; rw [h]
@[simp] theorem stepDone_coresHeld (k : Nat) (s : State) : (stepDone k s).coresHeld = s.coresHeld := by
  obtain ⟨j, h⟩ := stepDone_keep k s; rw [h]
@[simp] theorem stepDone_coreHealth (k : Nat) (s : State) : (stepDone k s).coreHealth = s.coreHealth := by
  obtain ⟨j, h⟩ := stepDone_keep k s; rw [h]
@[simp] theorem stepDone_halted (k : Nat) (s : State) : (stepDone k s).halted = s.halted := by
  obtain ⟨j, h⟩ := stepDone_keep k s; rw [h]
@[simp] theorem stepDone_mgmtUp (k : Nat) (s : State) : (stepDone k s).mgmtUp = s.mgmtUp := by
  obtain ⟨j, h⟩ := stepDone_keep k s; rw [h]
@[simp] theorem stepDone_testHonoured (k : Nat) (s : State) : (stepDone k s).testHonoured = s.testHonoured := by
  obtain ⟨j, h⟩ := stepDone_keep k s; rw [h]
@[simp] theorem stepDone_recoveryByRuntime (k : Nat) (s : State) : (stepDone k s).recoveryByRuntime = s.recoveryByRuntime := by
  obtain ⟨j, h⟩ := stepDone_keep k s; rw [h]
@[simp] theorem stepDone_rtImage (k : Nat) (s : State) : (stepDone k s).rtImage = s.rtImage := by
  obtain ⟨j, h⟩ := stepDone_keep k s; rw [h]
@[simp] theorem stepDone_rtInstallResult (k : Nat) (s : State) : (stepDone k s).rtInstallResult = s.rtInstallResult := by
  obtain ⟨j, h⟩ := stepDone_keep k s; rw [h]
@[simp] theorem stepDone_rtBuild (k : Nat) (s : State) : (stepDone k s).rtBuild = s.rtBuild := by
  obtain ⟨j, h⟩ := stepDone_keep k s; rw [h]
@[simp] theorem stepDone_rtSvn (k : Nat) (s : State) : (stepDone k s).rtSvn = s.rtSvn := by
  obtain ⟨j, h⟩ := stepDone_keep k s; rw [h]
@[simp] theorem stepDone_rtDigest (k : Nat) (s : State) : (stepDone k s).rtDigest = s.rtDigest := by
  obtain ⟨j, h⟩ := stepDone_keep k s; rw [h]
@[simp] theorem stepDone_katResults (k : Nat) (s : State) : (stepDone k s).katResults = s.katResults := by
  obtain ⟨j, h⟩ := stepDone_keep k s; rw [h]
@[simp] theorem stepDone_digestHealth (k : Nat) (s : State) : (stepDone k s).digestHealth = s.digestHealth := by
  obtain ⟨j, h⟩ := stepDone_keep k s; rw [h]
@[simp] theorem stepDone_dgTransients (k : Nat) (s : State) : (stepDone k s).dgTransients = s.dgTransients := by
  obtain ⟨j, h⟩ := stepDone_keep k s; rw [h]
@[simp] theorem stepDone_cipherHealth (k : Nat) (s : State) : (stepDone k s).cipherHealth = s.cipherHealth := by
  obtain ⟨j, h⟩ := stepDone_keep k s; rw [h]
@[simp] theorem stepDone_cxTransients (k : Nat) (s : State) : (stepDone k s).cxTransients = s.cxTransients := by
  obtain ⟨j, h⟩ := stepDone_keep k s; rw [h]
@[simp] theorem stepDone_freshAtHeath (k : Nat) (s : State) : (stepDone k s).freshAtHeath = s.freshAtHeath := by
  obtain ⟨j, h⟩ := stepDone_keep k s; rw [h]
@[simp] theorem stepDone_pacePs (k : Nat) (s : State) : (stepDone k s).pacePs = s.pacePs := by
  obtain ⟨j, h⟩ := stepDone_keep k s; rw [h]
@[simp] theorem stepDone_paceMaxPs (k : Nat) (s : State) : (stepDone k s).paceMaxPs = s.paceMaxPs := by
  obtain ⟨j, h⟩ := stepDone_keep k s; rw [h]
@[simp] theorem stepDone_paceArmed (k : Nat) (s : State) : (stepDone k s).paceArmed = s.paceArmed := by
  obtain ⟨j, h⟩ := stepDone_keep k s; rw [h]
@[simp] theorem stepDone_tj (k : Nat) (s : State) : (stepDone k s).tj = s.tj := by
  obtain ⟨j, h⟩ := stepDone_keep k s; rw [h]
@[simp] theorem stepDone_tjMax (k : Nat) (s : State) : (stepDone k s).tjMax = s.tjMax := by
  obtain ⟨j, h⟩ := stepDone_keep k s; rw [h]
@[simp] theorem stepDone_railMv (k : Nat) (s : State) : (stepDone k s).railMv = s.railMv := by
  obtain ⟨j, h⟩ := stepDone_keep k s; rw [h]
@[simp] theorem stepDone_railMin (k : Nat) (s : State) : (stepDone k s).railMin = s.railMin := by
  obtain ⟨j, h⟩ := stepDone_keep k s; rw [h]
@[simp] theorem stepDone_railMax (k : Nat) (s : State) : (stepDone k s).railMax = s.railMax := by
  obtain ⟨j, h⟩ := stepDone_keep k s; rw [h]
@[simp] theorem stepDone_secCount (k : Nat) (s : State) : (stepDone k s).secCount = s.secCount := by
  obtain ⟨j, h⟩ := stepDone_keep k s; rw [h]
@[simp] theorem stepDone_dedCount (k : Nat) (s : State) : (stepDone k s).dedCount = s.dedCount := by
  obtain ⟨j, h⟩ := stepDone_keep k s; rw [h]
@[simp] theorem stepDone_scrubPasses (k : Nat) (s : State) : (stepDone k s).scrubPasses = s.scrubPasses := by
  obtain ⟨j, h⟩ := stepDone_keep k s; rw [h]
@[simp] theorem stepDone_scrubLast (k : Nat) (s : State) : (stepDone k s).scrubLast = s.scrubLast := by
  obtain ⟨j, h⟩ := stepDone_keep k s; rw [h]
@[simp] theorem stepDone_scrubPos (k : Nat) (s : State) : (stepDone k s).scrubPos = s.scrubPos := by
  obtain ⟨j, h⟩ := stepDone_keep k s; rw [h]
@[simp] theorem stepDone_upsets (k : Nat) (s : State) : (stepDone k s).upsets = s.upsets := by
  obtain ⟨j, h⟩ := stepDone_keep k s; rw [h]
@[simp] theorem stepDone_bistResult (k : Nat) (s : State) : (stepDone k s).bistResult = s.bistResult := by
  obtain ⟨j, h⟩ := stepDone_keep k s; rw [h]
@[simp] theorem stepDone_injWord (k : Nat) (s : State) : (stepDone k s).injWord = s.injWord := by
  obtain ⟨j, h⟩ := stepDone_keep k s; rw [h]
@[simp] theorem stepDone_injMask (k : Nat) (s : State) : (stepDone k s).injMask = s.injMask := by
  obtain ⟨j, h⟩ := stepDone_keep k s; rw [h]
@[simp] theorem stepDone_unitResult (k : Nat) (s : State) : (stepDone k s).unitResult = s.unitResult := by
  obtain ⟨j, h⟩ := stepDone_keep k s; rw [h]
@[simp] theorem stepDone_logicSig (k : Nat) (s : State) : (stepDone k s).logicSig = s.logicSig := by
  obtain ⟨j, h⟩ := stepDone_keep k s; rw [h]
@[simp] theorem stepDone_cfg (k : Nat) (s : State) : (stepDone k s).cfg = s.cfg := by
  obtain ⟨j, h⟩ := stepDone_keep k s; rw [h]
@[simp] theorem stepDone_commits (k : Nat) (s : State) : (stepDone k s).commits = s.commits := by
  obtain ⟨j, h⟩ := stepDone_keep k s; rw [h]
@[simp] theorem stepDone_lastCommitPort (k : Nat) (s : State) : (stepDone k s).lastCommitPort = s.lastCommitPort := by
  obtain ⟨j, h⟩ := stepDone_keep k s; rw [h]
@[simp] theorem stepDone_lastCommitUs (k : Nat) (s : State) : (stepDone k s).lastCommitUs = s.lastCommitUs := by
  obtain ⟨j, h⟩ := stepDone_keep k s; rw [h]
@[simp] theorem stepDone_faReads (k : Nat) (s : State) : (stepDone k s).faReads = s.faReads := by
  obtain ⟨j, h⟩ := stepDone_keep k s; rw [h]
@[simp] theorem stepDone_chans (k : Nat) (s : State) : (stepDone k s).chans = s.chans := by
  obtain ⟨j, h⟩ := stepDone_keep k s; rw [h]
@[simp] theorem stepDone_fallow (k : Nat) (s : State) : (stepDone k s).fallow = s.fallow := by
  obtain ⟨j, h⟩ := stepDone_keep k s; rw [h]
@[simp] theorem stepDone_hedgerow (k : Nat) (s : State) : (stepDone k s).hedgerow = s.hedgerow := by
  obtain ⟨j, h⟩ := stepDone_keep k s; rw [h]
@[simp] theorem stepDone_hayloft (k : Nat) (s : State) : (stepDone k s).hayloft = s.hayloft := by
  obtain ⟨j, h⟩ := stepDone_keep k s; rw [h]
@[simp] theorem stepDone_vault (k : Nat) (s : State) : (stepDone k s).vault = s.vault := by
  obtain ⟨j, h⟩ := stepDone_keep k s; rw [h]
@[simp] theorem stepDone_update (k : Nat) (s : State) : (stepDone k s).update = s.update := by
  obtain ⟨j, h⟩ := stepDone_keep k s; rw [h]
@[simp] theorem stepDone_banks (k : Nat) (s : State) : (stepDone k s).banks = s.banks := by
  obtain ⟨j, h⟩ := stepDone_keep k s; rw [h]
@[simp] theorem stepDone_cxs (k : Nat) (s : State) : (stepDone k s).cxs = s.cxs := by
  obtain ⟨j, h⟩ := stepDone_keep k s; rw [h]
@[simp] theorem stepDone_keys (k : Nat) (s : State) : (stepDone k s).keys = s.keys := by
  obtain ⟨j, h⟩ := stepDone_keep k s; rw [h]
@[simp] theorem stepDone_pke (k : Nat) (s : State) : (stepDone k s).pke = s.pke := by
  obtain ⟨j, h⟩ := stepDone_keep k s; rw [h]
@[simp] theorem stepDone_random (k : Nat) (s : State) : (stepDone k s).random = s.random := by
  obtain ⟨j, h⟩ := stepDone_keep k s; rw [h]
@[simp] theorem stepDone_journal (k : Nat) (s : State) : (stepDone k s).journal = s.journal := by
  obtain ⟨j, h⟩ := stepDone_keep k s; rw [h]
@[simp] theorem stepDone_heath (k : Nat) (s : State) : (stepDone k s).heath = s.heath := by
  obtain ⟨j, h⟩ := stepDone_keep k s; rw [h]
@[simp] theorem stepDone_wd (k : Nat) (s : State) : (stepDone k s).wd = s.wd := by
  obtain ⟨j, h⟩ := stepDone_keep k s; rw [h]
@[simp] theorem stepDone_timers (k : Nat) (s : State) : (stepDone k s).timers = s.timers := by
  obtain ⟨j, h⟩ := stepDone_keep k s; rw [h]
@[simp] theorem stepDone_timeouts (k : Nat) (s : State) : (stepDone k s).timeouts = s.timeouts := by
  obtain ⟨j, h⟩ := stepDone_keep k s; rw [h]
@[simp] theorem stepDone_cus (k : Nat) (s : State) : (stepDone k s).cus = s.cus := by
  obtain ⟨j, h⟩ := stepDone_keep k s; rw [h]
@[simp] theorem stepDone_cuTransients (k : Nat) (s : State) : (stepDone k s).cuTransients = s.cuTransients := by
  obtain ⟨j, h⟩ := stepDone_keep k s; rw [h]
@[simp] theorem stepDone_lc (k : Nat) (s : State) : (stepDone k s).lc = s.lc := by
  obtain ⟨j, h⟩ := stepDone_keep k s; rw [h]
@[simp] theorem stepDone_tap (k : Nat) (s : State) : (stepDone k s).tap = s.tap := by
  obtain ⟨j, h⟩ := stepDone_keep k s; rw [h]
@[simp] theorem stepDone_spdm (k : Nat) (s : State) : (stepDone k s).spdm = s.spdm := by
  obtain ⟨j, h⟩ := stepDone_keep k s; rw [h]
@[simp] theorem stepDone_mports (k : Nat) (s : State) : (stepDone k s).mports = s.mports := by
  obtain ⟨j, h⟩ := stepDone_keep k s; rw [h]
@[simp] theorem stepDone_ports (k : Nat) (s : State) : (stepDone k s).ports = s.ports := by
  obtain ⟨j, h⟩ := stepDone_keep k s; rw [h]
@[simp] theorem bootFail_pending (k : Nat) (c : U8) (d : Nat) (s : State) : (bootFail k c d s).pending = s.pending := by
  obtain ⟨b, j, u, h⟩ := bootFail_keep k c d s; rw [h]
@[simp] theorem bootFail_freeCount (k : Nat) (c : U8) (d : Nat) (s : State) : (bootFail k c d s).freeCount = s.freeCount := by
  obtain ⟨b, j, u, h⟩ := bootFail_keep k c d s; rw [h]
@[simp] theorem bootFail_now (k : Nat) (c : U8) (d : Nat) (s : State) : (bootFail k c d s).now = s.now := by
  obtain ⟨b, j, u, h⟩ := bootFail_keep k c d s; rw [h]
@[simp] theorem bootFail_subUs (k : Nat) (c : U8) (d : Nat) (s : State) : (bootFail k c d s).subUs = s.subUs := by
  obtain ⟨b, j, u, h⟩ := bootFail_keep k c d s; rw [h]
@[simp] theorem bootFail_tbUs (k : Nat) (c : U8) (d : Nat) (s : State) : (bootFail k c d s).tbUs = s.tbUs := by
  obtain ⟨b, j, u, h⟩ := bootFail_keep k c d s; rw [h]
@[simp] theorem bootFail_tbEpoch (k : Nat) (c : U8) (d : Nat) (s : State) : (bootFail k c d s).tbEpoch = s.tbEpoch := by
  obtain ⟨b, j, u, h⟩ := bootFail_keep k c d s; rw [h]
@[simp] theorem bootFail_refclk (k : Nat) (c : U8) (d : Nat) (s : State) : (bootFail k c d s).refclk = s.refclk := by
  obtain ⟨b, j, u, h⟩ := bootFail_keep k c d s; rw [h]
@[simp] theorem bootFail_pllLock (k : Nat) (c : U8) (d : Nat) (s : State) : (bootFail k c d s).pllLock = s.pllLock := by
  obtain ⟨b, j, u, h⟩ := bootFail_keep k c d s; rw [h]
@[simp] theorem bootFail_gapPeriods (k : Nat) (c : U8) (d : Nat) (s : State) : (bootFail k c d s).gapPeriods = s.gapPeriods := by
  obtain ⟨b, j, u, h⟩ := bootFail_keep k c d s; rw [h]
@[simp] theorem bootFail_refclkLosses (k : Nat) (c : U8) (d : Nat) (s : State) : (bootFail k c d s).refclkLosses = s.refclkLosses := by
  obtain ⟨b, j, u, h⟩ := bootFail_keep k c d s; rw [h]
@[simp] theorem bootFail_refclkLastGap (k : Nat) (c : U8) (d : Nat) (s : State) : (bootFail k c d s).refclkLastGap = s.refclkLastGap := by
  obtain ⟨b, j, u, h⟩ := bootFail_keep k c d s; rw [h]
@[simp] theorem bootFail_porPin (k : Nat) (c : U8) (d : Nat) (s : State) : (bootFail k c d s).porPin = s.porPin := by
  obtain ⟨b, j, u, h⟩ := bootFail_keep k c d s; rw [h]
@[simp] theorem bootFail_porN (k : Nat) (c : U8) (d : Nat) (s : State) : (bootFail k c d s).porN = s.porN := by
  obtain ⟨b, j, u, h⟩ := bootFail_keep k c d s; rw [h]
@[simp] theorem bootFail_straps (k : Nat) (c : U8) (d : Nat) (s : State) : (bootFail k c d s).straps = s.straps := by
  obtain ⟨b, j, u, h⟩ := bootFail_keep k c d s; rw [h]
@[simp] theorem bootFail_phase (k : Nat) (c : U8) (d : Nat) (s : State) : (bootFail k c d s).phase = s.phase := by
  obtain ⟨b, j, u, h⟩ := bootFail_keep k c d s; rw [h]
@[simp] theorem bootFail_steps (k : Nat) (c : U8) (d : Nat) (s : State) : (bootFail k c d s).steps = s.steps := by
  obtain ⟨b, j, u, h⟩ := bootFail_keep k c d s; rw [h]
@[simp] theorem bootFail_resetCause (k : Nat) (c : U8) (d : Nat) (s : State) : (bootFail k c d s).resetCause = s.resetCause := by
  obtain ⟨b, j, u, h⟩ := bootFail_keep k c d s; rw [h]
@[simp] theorem bootFail_rtCopy (k : Nat) (c : U8) (d : Nat) (s : State) : (bootFail k c d s).rtCopy = s.rtCopy := by
  obtain ⟨b, j, u, h⟩ := bootFail_keep k c d s; rw [h]
@[simp] theorem bootFail_deviceResets (k : Nat) (c : U8) (d : Nat) (s : State) : (bootFail k c d s).deviceResets = s.deviceResets := by
  obtain ⟨b, j, u, h⟩ := bootFail_keep k c d s; rw [h]
@[simp] theorem bootFail_coreRestarts (k : Nat) (c : U8) (d : Nat) (s : State) : (bootFail k c d s).coreRestarts = s.coreRestarts := by
  obtain ⟨b, j, u, h⟩ := bootFail_keep k c d s; rw [h]
@[simp] theorem bootFail_bootAttempts (k : Nat) (c : U8) (d : Nat) (s : State) : (bootFail k c d s).bootAttempts = s.bootAttempts := by
  obtain ⟨b, j, u, h⟩ := bootFail_keep k c d s; rw [h]
@[simp] theorem bootFail_deviceResetDue (k : Nat) (c : U8) (d : Nat) (s : State) : (bootFail k c d s).deviceResetDue = s.deviceResetDue := by
  obtain ⟨b, j, u, h⟩ := bootFail_keep k c d s; rw [h]
@[simp] theorem bootFail_coresDown (k : Nat) (c : U8) (d : Nat) (s : State) : (bootFail k c d s).coresDown = s.coresDown := by
  obtain ⟨b, j, u, h⟩ := bootFail_keep k c d s; rw [h]
@[simp] theorem bootFail_coresHeld (k : Nat) (c : U8) (d : Nat) (s : State) : (bootFail k c d s).coresHeld = s.coresHeld := by
  obtain ⟨b, j, u, h⟩ := bootFail_keep k c d s; rw [h]
@[simp] theorem bootFail_coreHealth (k : Nat) (c : U8) (d : Nat) (s : State) : (bootFail k c d s).coreHealth = s.coreHealth := by
  obtain ⟨b, j, u, h⟩ := bootFail_keep k c d s; rw [h]
@[simp] theorem bootFail_halted (k : Nat) (c : U8) (d : Nat) (s : State) : (bootFail k c d s).halted = s.halted := by
  obtain ⟨b, j, u, h⟩ := bootFail_keep k c d s; rw [h]
@[simp] theorem bootFail_mgmtUp (k : Nat) (c : U8) (d : Nat) (s : State) : (bootFail k c d s).mgmtUp = s.mgmtUp := by
  obtain ⟨b, j, u, h⟩ := bootFail_keep k c d s; rw [h]
@[simp] theorem bootFail_testHonoured (k : Nat) (c : U8) (d : Nat) (s : State) : (bootFail k c d s).testHonoured = s.testHonoured := by
  obtain ⟨b, j, u, h⟩ := bootFail_keep k c d s; rw [h]
@[simp] theorem bootFail_recoveryByRuntime (k : Nat) (c : U8) (d : Nat) (s : State) : (bootFail k c d s).recoveryByRuntime = s.recoveryByRuntime := by
  obtain ⟨b, j, u, h⟩ := bootFail_keep k c d s; rw [h]
@[simp] theorem bootFail_rtImage (k : Nat) (c : U8) (d : Nat) (s : State) : (bootFail k c d s).rtImage = s.rtImage := by
  obtain ⟨b, j, u, h⟩ := bootFail_keep k c d s; rw [h]
@[simp] theorem bootFail_rtInstallResult (k : Nat) (c : U8) (d : Nat) (s : State) : (bootFail k c d s).rtInstallResult = s.rtInstallResult := by
  obtain ⟨b, j, u, h⟩ := bootFail_keep k c d s; rw [h]
@[simp] theorem bootFail_rtBuild (k : Nat) (c : U8) (d : Nat) (s : State) : (bootFail k c d s).rtBuild = s.rtBuild := by
  obtain ⟨b, j, u, h⟩ := bootFail_keep k c d s; rw [h]
@[simp] theorem bootFail_rtSvn (k : Nat) (c : U8) (d : Nat) (s : State) : (bootFail k c d s).rtSvn = s.rtSvn := by
  obtain ⟨b, j, u, h⟩ := bootFail_keep k c d s; rw [h]
@[simp] theorem bootFail_rtDigest (k : Nat) (c : U8) (d : Nat) (s : State) : (bootFail k c d s).rtDigest = s.rtDigest := by
  obtain ⟨b, j, u, h⟩ := bootFail_keep k c d s; rw [h]
@[simp] theorem bootFail_katResults (k : Nat) (c : U8) (d : Nat) (s : State) : (bootFail k c d s).katResults = s.katResults := by
  obtain ⟨b, j, u, h⟩ := bootFail_keep k c d s; rw [h]
@[simp] theorem bootFail_digestHealth (k : Nat) (c : U8) (d : Nat) (s : State) : (bootFail k c d s).digestHealth = s.digestHealth := by
  obtain ⟨b, j, u, h⟩ := bootFail_keep k c d s; rw [h]
@[simp] theorem bootFail_dgTransients (k : Nat) (c : U8) (d : Nat) (s : State) : (bootFail k c d s).dgTransients = s.dgTransients := by
  obtain ⟨b, j, u, h⟩ := bootFail_keep k c d s; rw [h]
@[simp] theorem bootFail_cipherHealth (k : Nat) (c : U8) (d : Nat) (s : State) : (bootFail k c d s).cipherHealth = s.cipherHealth := by
  obtain ⟨b, j, u, h⟩ := bootFail_keep k c d s; rw [h]
@[simp] theorem bootFail_cxTransients (k : Nat) (c : U8) (d : Nat) (s : State) : (bootFail k c d s).cxTransients = s.cxTransients := by
  obtain ⟨b, j, u, h⟩ := bootFail_keep k c d s; rw [h]
@[simp] theorem bootFail_freshAtHeath (k : Nat) (c : U8) (d : Nat) (s : State) : (bootFail k c d s).freshAtHeath = s.freshAtHeath := by
  obtain ⟨b, j, u, h⟩ := bootFail_keep k c d s; rw [h]
@[simp] theorem bootFail_pacePs (k : Nat) (c : U8) (d : Nat) (s : State) : (bootFail k c d s).pacePs = s.pacePs := by
  obtain ⟨b, j, u, h⟩ := bootFail_keep k c d s; rw [h]
@[simp] theorem bootFail_paceMaxPs (k : Nat) (c : U8) (d : Nat) (s : State) : (bootFail k c d s).paceMaxPs = s.paceMaxPs := by
  obtain ⟨b, j, u, h⟩ := bootFail_keep k c d s; rw [h]
@[simp] theorem bootFail_paceArmed (k : Nat) (c : U8) (d : Nat) (s : State) : (bootFail k c d s).paceArmed = s.paceArmed := by
  obtain ⟨b, j, u, h⟩ := bootFail_keep k c d s; rw [h]
@[simp] theorem bootFail_tj (k : Nat) (c : U8) (d : Nat) (s : State) : (bootFail k c d s).tj = s.tj := by
  obtain ⟨b, j, u, h⟩ := bootFail_keep k c d s; rw [h]
@[simp] theorem bootFail_tjMax (k : Nat) (c : U8) (d : Nat) (s : State) : (bootFail k c d s).tjMax = s.tjMax := by
  obtain ⟨b, j, u, h⟩ := bootFail_keep k c d s; rw [h]
@[simp] theorem bootFail_railMv (k : Nat) (c : U8) (d : Nat) (s : State) : (bootFail k c d s).railMv = s.railMv := by
  obtain ⟨b, j, u, h⟩ := bootFail_keep k c d s; rw [h]
@[simp] theorem bootFail_railMin (k : Nat) (c : U8) (d : Nat) (s : State) : (bootFail k c d s).railMin = s.railMin := by
  obtain ⟨b, j, u, h⟩ := bootFail_keep k c d s; rw [h]
@[simp] theorem bootFail_railMax (k : Nat) (c : U8) (d : Nat) (s : State) : (bootFail k c d s).railMax = s.railMax := by
  obtain ⟨b, j, u, h⟩ := bootFail_keep k c d s; rw [h]
@[simp] theorem bootFail_secCount (k : Nat) (c : U8) (d : Nat) (s : State) : (bootFail k c d s).secCount = s.secCount := by
  obtain ⟨b, j, u, h⟩ := bootFail_keep k c d s; rw [h]
@[simp] theorem bootFail_dedCount (k : Nat) (c : U8) (d : Nat) (s : State) : (bootFail k c d s).dedCount = s.dedCount := by
  obtain ⟨b, j, u, h⟩ := bootFail_keep k c d s; rw [h]
@[simp] theorem bootFail_scrubPasses (k : Nat) (c : U8) (d : Nat) (s : State) : (bootFail k c d s).scrubPasses = s.scrubPasses := by
  obtain ⟨b, j, u, h⟩ := bootFail_keep k c d s; rw [h]
@[simp] theorem bootFail_scrubLast (k : Nat) (c : U8) (d : Nat) (s : State) : (bootFail k c d s).scrubLast = s.scrubLast := by
  obtain ⟨b, j, u, h⟩ := bootFail_keep k c d s; rw [h]
@[simp] theorem bootFail_scrubPos (k : Nat) (c : U8) (d : Nat) (s : State) : (bootFail k c d s).scrubPos = s.scrubPos := by
  obtain ⟨b, j, u, h⟩ := bootFail_keep k c d s; rw [h]
@[simp] theorem bootFail_bistResult (k : Nat) (c : U8) (d : Nat) (s : State) : (bootFail k c d s).bistResult = s.bistResult := by
  obtain ⟨b, j, u, h⟩ := bootFail_keep k c d s; rw [h]
@[simp] theorem bootFail_injWord (k : Nat) (c : U8) (d : Nat) (s : State) : (bootFail k c d s).injWord = s.injWord := by
  obtain ⟨b, j, u, h⟩ := bootFail_keep k c d s; rw [h]
@[simp] theorem bootFail_injMask (k : Nat) (c : U8) (d : Nat) (s : State) : (bootFail k c d s).injMask = s.injMask := by
  obtain ⟨b, j, u, h⟩ := bootFail_keep k c d s; rw [h]
@[simp] theorem bootFail_unitResult (k : Nat) (c : U8) (d : Nat) (s : State) : (bootFail k c d s).unitResult = s.unitResult := by
  obtain ⟨b, j, u, h⟩ := bootFail_keep k c d s; rw [h]
@[simp] theorem bootFail_logicSig (k : Nat) (c : U8) (d : Nat) (s : State) : (bootFail k c d s).logicSig = s.logicSig := by
  obtain ⟨b, j, u, h⟩ := bootFail_keep k c d s; rw [h]
@[simp] theorem bootFail_cfg (k : Nat) (c : U8) (d : Nat) (s : State) : (bootFail k c d s).cfg = s.cfg := by
  obtain ⟨b, j, u, h⟩ := bootFail_keep k c d s; rw [h]
@[simp] theorem bootFail_commits (k : Nat) (c : U8) (d : Nat) (s : State) : (bootFail k c d s).commits = s.commits := by
  obtain ⟨b, j, u, h⟩ := bootFail_keep k c d s; rw [h]
@[simp] theorem bootFail_lastCommitPort (k : Nat) (c : U8) (d : Nat) (s : State) : (bootFail k c d s).lastCommitPort = s.lastCommitPort := by
  obtain ⟨b, j, u, h⟩ := bootFail_keep k c d s; rw [h]
@[simp] theorem bootFail_lastCommitUs (k : Nat) (c : U8) (d : Nat) (s : State) : (bootFail k c d s).lastCommitUs = s.lastCommitUs := by
  obtain ⟨b, j, u, h⟩ := bootFail_keep k c d s; rw [h]
@[simp] theorem bootFail_faReads (k : Nat) (c : U8) (d : Nat) (s : State) : (bootFail k c d s).faReads = s.faReads := by
  obtain ⟨b, j, u, h⟩ := bootFail_keep k c d s; rw [h]
@[simp] theorem bootFail_chans (k : Nat) (c : U8) (d : Nat) (s : State) : (bootFail k c d s).chans = s.chans := by
  obtain ⟨b, j, u, h⟩ := bootFail_keep k c d s; rw [h]
@[simp] theorem bootFail_fallow (k : Nat) (c : U8) (d : Nat) (s : State) : (bootFail k c d s).fallow = s.fallow := by
  obtain ⟨b, j, u, h⟩ := bootFail_keep k c d s; rw [h]
@[simp] theorem bootFail_hedgerow (k : Nat) (c : U8) (d : Nat) (s : State) : (bootFail k c d s).hedgerow = s.hedgerow := by
  obtain ⟨b, j, u, h⟩ := bootFail_keep k c d s; rw [h]
@[simp] theorem bootFail_hayloft (k : Nat) (c : U8) (d : Nat) (s : State) : (bootFail k c d s).hayloft = s.hayloft := by
  obtain ⟨b, j, u, h⟩ := bootFail_keep k c d s; rw [h]
@[simp] theorem bootFail_vault (k : Nat) (c : U8) (d : Nat) (s : State) : (bootFail k c d s).vault = s.vault := by
  obtain ⟨b, j, u, h⟩ := bootFail_keep k c d s; rw [h]
@[simp] theorem bootFail_update (k : Nat) (c : U8) (d : Nat) (s : State) : (bootFail k c d s).update = s.update := by
  obtain ⟨b, j, u, h⟩ := bootFail_keep k c d s; rw [h]
@[simp] theorem bootFail_banks (k : Nat) (c : U8) (d : Nat) (s : State) : (bootFail k c d s).banks = s.banks := by
  obtain ⟨b, j, u, h⟩ := bootFail_keep k c d s; rw [h]
@[simp] theorem bootFail_cxs (k : Nat) (c : U8) (d : Nat) (s : State) : (bootFail k c d s).cxs = s.cxs := by
  obtain ⟨b, j, u, h⟩ := bootFail_keep k c d s; rw [h]
@[simp] theorem bootFail_keys (k : Nat) (c : U8) (d : Nat) (s : State) : (bootFail k c d s).keys = s.keys := by
  obtain ⟨b, j, u, h⟩ := bootFail_keep k c d s; rw [h]
@[simp] theorem bootFail_pke (k : Nat) (c : U8) (d : Nat) (s : State) : (bootFail k c d s).pke = s.pke := by
  obtain ⟨b, j, u, h⟩ := bootFail_keep k c d s; rw [h]
@[simp] theorem bootFail_random (k : Nat) (c : U8) (d : Nat) (s : State) : (bootFail k c d s).random = s.random := by
  obtain ⟨b, j, u, h⟩ := bootFail_keep k c d s; rw [h]
@[simp] theorem bootFail_heath (k : Nat) (c : U8) (d : Nat) (s : State) : (bootFail k c d s).heath = s.heath := by
  obtain ⟨b, j, u, h⟩ := bootFail_keep k c d s; rw [h]
@[simp] theorem bootFail_wd (k : Nat) (c : U8) (d : Nat) (s : State) : (bootFail k c d s).wd = s.wd := by
  obtain ⟨b, j, u, h⟩ := bootFail_keep k c d s; rw [h]
@[simp] theorem bootFail_timers (k : Nat) (c : U8) (d : Nat) (s : State) : (bootFail k c d s).timers = s.timers := by
  obtain ⟨b, j, u, h⟩ := bootFail_keep k c d s; rw [h]
@[simp] theorem bootFail_timeouts (k : Nat) (c : U8) (d : Nat) (s : State) : (bootFail k c d s).timeouts = s.timeouts := by
  obtain ⟨b, j, u, h⟩ := bootFail_keep k c d s; rw [h]
@[simp] theorem bootFail_cus (k : Nat) (c : U8) (d : Nat) (s : State) : (bootFail k c d s).cus = s.cus := by
  obtain ⟨b, j, u, h⟩ := bootFail_keep k c d s; rw [h]
@[simp] theorem bootFail_cuTransients (k : Nat) (c : U8) (d : Nat) (s : State) : (bootFail k c d s).cuTransients = s.cuTransients := by
  obtain ⟨b, j, u, h⟩ := bootFail_keep k c d s; rw [h]
@[simp] theorem bootFail_lc (k : Nat) (c : U8) (d : Nat) (s : State) : (bootFail k c d s).lc = s.lc := by
  obtain ⟨b, j, u, h⟩ := bootFail_keep k c d s; rw [h]
@[simp] theorem bootFail_tap (k : Nat) (c : U8) (d : Nat) (s : State) : (bootFail k c d s).tap = s.tap := by
  obtain ⟨b, j, u, h⟩ := bootFail_keep k c d s; rw [h]
@[simp] theorem bootFail_spdm (k : Nat) (c : U8) (d : Nat) (s : State) : (bootFail k c d s).spdm = s.spdm := by
  obtain ⟨b, j, u, h⟩ := bootFail_keep k c d s; rw [h]
@[simp] theorem bootFail_mports (k : Nat) (c : U8) (d : Nat) (s : State) : (bootFail k c d s).mports = s.mports := by
  obtain ⟨b, j, u, h⟩ := bootFail_keep k c d s; rw [h]
@[simp] theorem bootFail_ports (k : Nat) (c : U8) (d : Nat) (s : State) : (bootFail k c d s).ports = s.ports := by
  obtain ⟨b, j, u, h⟩ := bootFail_keep k c d s; rw [h]
@[simp] theorem journalRetire_pending (a b c d : Nat) (s : State) : (journalRetire a b c d s).pending = s.pending := by
  obtain ⟨j, u, h⟩ := journal_shape a 0x0108 true (leBytes 1 b ++ leBytes 2 c ++ leBytes 2 d) s
  rw [journalRetire, h]
@[simp] theorem journalRetire_freeCount (a b c d : Nat) (s : State) : (journalRetire a b c d s).freeCount = s.freeCount := by
  obtain ⟨j, u, h⟩ := journal_shape a 0x0108 true (leBytes 1 b ++ leBytes 2 c ++ leBytes 2 d) s
  rw [journalRetire, h]
@[simp] theorem journalRetire_now (a b c d : Nat) (s : State) : (journalRetire a b c d s).now = s.now := by
  obtain ⟨j, u, h⟩ := journal_shape a 0x0108 true (leBytes 1 b ++ leBytes 2 c ++ leBytes 2 d) s
  rw [journalRetire, h]
@[simp] theorem journalRetire_subUs (a b c d : Nat) (s : State) : (journalRetire a b c d s).subUs = s.subUs := by
  obtain ⟨j, u, h⟩ := journal_shape a 0x0108 true (leBytes 1 b ++ leBytes 2 c ++ leBytes 2 d) s
  rw [journalRetire, h]
@[simp] theorem journalRetire_tbUs (a b c d : Nat) (s : State) : (journalRetire a b c d s).tbUs = s.tbUs := by
  obtain ⟨j, u, h⟩ := journal_shape a 0x0108 true (leBytes 1 b ++ leBytes 2 c ++ leBytes 2 d) s
  rw [journalRetire, h]
@[simp] theorem journalRetire_tbEpoch (a b c d : Nat) (s : State) : (journalRetire a b c d s).tbEpoch = s.tbEpoch := by
  obtain ⟨j, u, h⟩ := journal_shape a 0x0108 true (leBytes 1 b ++ leBytes 2 c ++ leBytes 2 d) s
  rw [journalRetire, h]
@[simp] theorem journalRetire_refclk (a b c d : Nat) (s : State) : (journalRetire a b c d s).refclk = s.refclk := by
  obtain ⟨j, u, h⟩ := journal_shape a 0x0108 true (leBytes 1 b ++ leBytes 2 c ++ leBytes 2 d) s
  rw [journalRetire, h]
@[simp] theorem journalRetire_pllLock (a b c d : Nat) (s : State) : (journalRetire a b c d s).pllLock = s.pllLock := by
  obtain ⟨j, u, h⟩ := journal_shape a 0x0108 true (leBytes 1 b ++ leBytes 2 c ++ leBytes 2 d) s
  rw [journalRetire, h]
@[simp] theorem journalRetire_gapPeriods (a b c d : Nat) (s : State) : (journalRetire a b c d s).gapPeriods = s.gapPeriods := by
  obtain ⟨j, u, h⟩ := journal_shape a 0x0108 true (leBytes 1 b ++ leBytes 2 c ++ leBytes 2 d) s
  rw [journalRetire, h]
@[simp] theorem journalRetire_refclkLosses (a b c d : Nat) (s : State) : (journalRetire a b c d s).refclkLosses = s.refclkLosses := by
  obtain ⟨j, u, h⟩ := journal_shape a 0x0108 true (leBytes 1 b ++ leBytes 2 c ++ leBytes 2 d) s
  rw [journalRetire, h]
@[simp] theorem journalRetire_refclkLastGap (a b c d : Nat) (s : State) : (journalRetire a b c d s).refclkLastGap = s.refclkLastGap := by
  obtain ⟨j, u, h⟩ := journal_shape a 0x0108 true (leBytes 1 b ++ leBytes 2 c ++ leBytes 2 d) s
  rw [journalRetire, h]
@[simp] theorem journalRetire_porPin (a b c d : Nat) (s : State) : (journalRetire a b c d s).porPin = s.porPin := by
  obtain ⟨j, u, h⟩ := journal_shape a 0x0108 true (leBytes 1 b ++ leBytes 2 c ++ leBytes 2 d) s
  rw [journalRetire, h]
@[simp] theorem journalRetire_porN (a b c d : Nat) (s : State) : (journalRetire a b c d s).porN = s.porN := by
  obtain ⟨j, u, h⟩ := journal_shape a 0x0108 true (leBytes 1 b ++ leBytes 2 c ++ leBytes 2 d) s
  rw [journalRetire, h]
@[simp] theorem journalRetire_straps (a b c d : Nat) (s : State) : (journalRetire a b c d s).straps = s.straps := by
  obtain ⟨j, u, h⟩ := journal_shape a 0x0108 true (leBytes 1 b ++ leBytes 2 c ++ leBytes 2 d) s
  rw [journalRetire, h]
@[simp] theorem journalRetire_phase (a b c d : Nat) (s : State) : (journalRetire a b c d s).phase = s.phase := by
  obtain ⟨j, u, h⟩ := journal_shape a 0x0108 true (leBytes 1 b ++ leBytes 2 c ++ leBytes 2 d) s
  rw [journalRetire, h]
@[simp] theorem journalRetire_steps (a b c d : Nat) (s : State) : (journalRetire a b c d s).steps = s.steps := by
  obtain ⟨j, u, h⟩ := journal_shape a 0x0108 true (leBytes 1 b ++ leBytes 2 c ++ leBytes 2 d) s
  rw [journalRetire, h]
@[simp] theorem journalRetire_bootResult (a b c d : Nat) (s : State) : (journalRetire a b c d s).bootResult = s.bootResult := by
  obtain ⟨j, u, h⟩ := journal_shape a 0x0108 true (leBytes 1 b ++ leBytes 2 c ++ leBytes 2 d) s
  rw [journalRetire, h]
@[simp] theorem journalRetire_resetCause (a b c d : Nat) (s : State) : (journalRetire a b c d s).resetCause = s.resetCause := by
  obtain ⟨j, u, h⟩ := journal_shape a 0x0108 true (leBytes 1 b ++ leBytes 2 c ++ leBytes 2 d) s
  rw [journalRetire, h]
@[simp] theorem journalRetire_rtCopy (a b c d : Nat) (s : State) : (journalRetire a b c d s).rtCopy = s.rtCopy := by
  obtain ⟨j, u, h⟩ := journal_shape a 0x0108 true (leBytes 1 b ++ leBytes 2 c ++ leBytes 2 d) s
  rw [journalRetire, h]
@[simp] theorem journalRetire_deviceResets (a b c d : Nat) (s : State) : (journalRetire a b c d s).deviceResets = s.deviceResets := by
  obtain ⟨j, u, h⟩ := journal_shape a 0x0108 true (leBytes 1 b ++ leBytes 2 c ++ leBytes 2 d) s
  rw [journalRetire, h]
@[simp] theorem journalRetire_coreRestarts (a b c d : Nat) (s : State) : (journalRetire a b c d s).coreRestarts = s.coreRestarts := by
  obtain ⟨j, u, h⟩ := journal_shape a 0x0108 true (leBytes 1 b ++ leBytes 2 c ++ leBytes 2 d) s
  rw [journalRetire, h]
@[simp] theorem journalRetire_bootAttempts (a b c d : Nat) (s : State) : (journalRetire a b c d s).bootAttempts = s.bootAttempts := by
  obtain ⟨j, u, h⟩ := journal_shape a 0x0108 true (leBytes 1 b ++ leBytes 2 c ++ leBytes 2 d) s
  rw [journalRetire, h]
@[simp] theorem journalRetire_deviceResetDue (a b c d : Nat) (s : State) : (journalRetire a b c d s).deviceResetDue = s.deviceResetDue := by
  obtain ⟨j, u, h⟩ := journal_shape a 0x0108 true (leBytes 1 b ++ leBytes 2 c ++ leBytes 2 d) s
  rw [journalRetire, h]
@[simp] theorem journalRetire_coresDown (a b c d : Nat) (s : State) : (journalRetire a b c d s).coresDown = s.coresDown := by
  obtain ⟨j, u, h⟩ := journal_shape a 0x0108 true (leBytes 1 b ++ leBytes 2 c ++ leBytes 2 d) s
  rw [journalRetire, h]
@[simp] theorem journalRetire_coresHeld (a b c d : Nat) (s : State) : (journalRetire a b c d s).coresHeld = s.coresHeld := by
  obtain ⟨j, u, h⟩ := journal_shape a 0x0108 true (leBytes 1 b ++ leBytes 2 c ++ leBytes 2 d) s
  rw [journalRetire, h]
@[simp] theorem journalRetire_coreHealth (a b c d : Nat) (s : State) : (journalRetire a b c d s).coreHealth = s.coreHealth := by
  obtain ⟨j, u, h⟩ := journal_shape a 0x0108 true (leBytes 1 b ++ leBytes 2 c ++ leBytes 2 d) s
  rw [journalRetire, h]
@[simp] theorem journalRetire_halted (a b c d : Nat) (s : State) : (journalRetire a b c d s).halted = s.halted := by
  obtain ⟨j, u, h⟩ := journal_shape a 0x0108 true (leBytes 1 b ++ leBytes 2 c ++ leBytes 2 d) s
  rw [journalRetire, h]
@[simp] theorem journalRetire_mgmtUp (a b c d : Nat) (s : State) : (journalRetire a b c d s).mgmtUp = s.mgmtUp := by
  obtain ⟨j, u, h⟩ := journal_shape a 0x0108 true (leBytes 1 b ++ leBytes 2 c ++ leBytes 2 d) s
  rw [journalRetire, h]
@[simp] theorem journalRetire_testHonoured (a b c d : Nat) (s : State) : (journalRetire a b c d s).testHonoured = s.testHonoured := by
  obtain ⟨j, u, h⟩ := journal_shape a 0x0108 true (leBytes 1 b ++ leBytes 2 c ++ leBytes 2 d) s
  rw [journalRetire, h]
@[simp] theorem journalRetire_recoveryByRuntime (a b c d : Nat) (s : State) : (journalRetire a b c d s).recoveryByRuntime = s.recoveryByRuntime := by
  obtain ⟨j, u, h⟩ := journal_shape a 0x0108 true (leBytes 1 b ++ leBytes 2 c ++ leBytes 2 d) s
  rw [journalRetire, h]
@[simp] theorem journalRetire_rtImage (a b c d : Nat) (s : State) : (journalRetire a b c d s).rtImage = s.rtImage := by
  obtain ⟨j, u, h⟩ := journal_shape a 0x0108 true (leBytes 1 b ++ leBytes 2 c ++ leBytes 2 d) s
  rw [journalRetire, h]
@[simp] theorem journalRetire_rtInstallResult (a b c d : Nat) (s : State) : (journalRetire a b c d s).rtInstallResult = s.rtInstallResult := by
  obtain ⟨j, u, h⟩ := journal_shape a 0x0108 true (leBytes 1 b ++ leBytes 2 c ++ leBytes 2 d) s
  rw [journalRetire, h]
@[simp] theorem journalRetire_rtBuild (a b c d : Nat) (s : State) : (journalRetire a b c d s).rtBuild = s.rtBuild := by
  obtain ⟨j, u, h⟩ := journal_shape a 0x0108 true (leBytes 1 b ++ leBytes 2 c ++ leBytes 2 d) s
  rw [journalRetire, h]
@[simp] theorem journalRetire_rtSvn (a b c d : Nat) (s : State) : (journalRetire a b c d s).rtSvn = s.rtSvn := by
  obtain ⟨j, u, h⟩ := journal_shape a 0x0108 true (leBytes 1 b ++ leBytes 2 c ++ leBytes 2 d) s
  rw [journalRetire, h]
@[simp] theorem journalRetire_rtDigest (a b c d : Nat) (s : State) : (journalRetire a b c d s).rtDigest = s.rtDigest := by
  obtain ⟨j, u, h⟩ := journal_shape a 0x0108 true (leBytes 1 b ++ leBytes 2 c ++ leBytes 2 d) s
  rw [journalRetire, h]
@[simp] theorem journalRetire_katResults (a b c d : Nat) (s : State) : (journalRetire a b c d s).katResults = s.katResults := by
  obtain ⟨j, u, h⟩ := journal_shape a 0x0108 true (leBytes 1 b ++ leBytes 2 c ++ leBytes 2 d) s
  rw [journalRetire, h]
@[simp] theorem journalRetire_digestHealth (a b c d : Nat) (s : State) : (journalRetire a b c d s).digestHealth = s.digestHealth := by
  obtain ⟨j, u, h⟩ := journal_shape a 0x0108 true (leBytes 1 b ++ leBytes 2 c ++ leBytes 2 d) s
  rw [journalRetire, h]
@[simp] theorem journalRetire_dgTransients (a b c d : Nat) (s : State) : (journalRetire a b c d s).dgTransients = s.dgTransients := by
  obtain ⟨j, u, h⟩ := journal_shape a 0x0108 true (leBytes 1 b ++ leBytes 2 c ++ leBytes 2 d) s
  rw [journalRetire, h]
@[simp] theorem journalRetire_cipherHealth (a b c d : Nat) (s : State) : (journalRetire a b c d s).cipherHealth = s.cipherHealth := by
  obtain ⟨j, u, h⟩ := journal_shape a 0x0108 true (leBytes 1 b ++ leBytes 2 c ++ leBytes 2 d) s
  rw [journalRetire, h]
@[simp] theorem journalRetire_cxTransients (a b c d : Nat) (s : State) : (journalRetire a b c d s).cxTransients = s.cxTransients := by
  obtain ⟨j, u, h⟩ := journal_shape a 0x0108 true (leBytes 1 b ++ leBytes 2 c ++ leBytes 2 d) s
  rw [journalRetire, h]
@[simp] theorem journalRetire_freshAtHeath (a b c d : Nat) (s : State) : (journalRetire a b c d s).freshAtHeath = s.freshAtHeath := by
  obtain ⟨j, u, h⟩ := journal_shape a 0x0108 true (leBytes 1 b ++ leBytes 2 c ++ leBytes 2 d) s
  rw [journalRetire, h]
@[simp] theorem journalRetire_pacePs (a b c d : Nat) (s : State) : (journalRetire a b c d s).pacePs = s.pacePs := by
  obtain ⟨j, u, h⟩ := journal_shape a 0x0108 true (leBytes 1 b ++ leBytes 2 c ++ leBytes 2 d) s
  rw [journalRetire, h]
@[simp] theorem journalRetire_paceMaxPs (a b c d : Nat) (s : State) : (journalRetire a b c d s).paceMaxPs = s.paceMaxPs := by
  obtain ⟨j, u, h⟩ := journal_shape a 0x0108 true (leBytes 1 b ++ leBytes 2 c ++ leBytes 2 d) s
  rw [journalRetire, h]
@[simp] theorem journalRetire_paceArmed (a b c d : Nat) (s : State) : (journalRetire a b c d s).paceArmed = s.paceArmed := by
  obtain ⟨j, u, h⟩ := journal_shape a 0x0108 true (leBytes 1 b ++ leBytes 2 c ++ leBytes 2 d) s
  rw [journalRetire, h]
@[simp] theorem journalRetire_tj (a b c d : Nat) (s : State) : (journalRetire a b c d s).tj = s.tj := by
  obtain ⟨j, u, h⟩ := journal_shape a 0x0108 true (leBytes 1 b ++ leBytes 2 c ++ leBytes 2 d) s
  rw [journalRetire, h]
@[simp] theorem journalRetire_tjMax (a b c d : Nat) (s : State) : (journalRetire a b c d s).tjMax = s.tjMax := by
  obtain ⟨j, u, h⟩ := journal_shape a 0x0108 true (leBytes 1 b ++ leBytes 2 c ++ leBytes 2 d) s
  rw [journalRetire, h]
@[simp] theorem journalRetire_railMv (a b c d : Nat) (s : State) : (journalRetire a b c d s).railMv = s.railMv := by
  obtain ⟨j, u, h⟩ := journal_shape a 0x0108 true (leBytes 1 b ++ leBytes 2 c ++ leBytes 2 d) s
  rw [journalRetire, h]
@[simp] theorem journalRetire_railMin (a b c d : Nat) (s : State) : (journalRetire a b c d s).railMin = s.railMin := by
  obtain ⟨j, u, h⟩ := journal_shape a 0x0108 true (leBytes 1 b ++ leBytes 2 c ++ leBytes 2 d) s
  rw [journalRetire, h]
@[simp] theorem journalRetire_railMax (a b c d : Nat) (s : State) : (journalRetire a b c d s).railMax = s.railMax := by
  obtain ⟨j, u, h⟩ := journal_shape a 0x0108 true (leBytes 1 b ++ leBytes 2 c ++ leBytes 2 d) s
  rw [journalRetire, h]
@[simp] theorem journalRetire_secCount (a b c d : Nat) (s : State) : (journalRetire a b c d s).secCount = s.secCount := by
  obtain ⟨j, u, h⟩ := journal_shape a 0x0108 true (leBytes 1 b ++ leBytes 2 c ++ leBytes 2 d) s
  rw [journalRetire, h]
@[simp] theorem journalRetire_dedCount (a b c d : Nat) (s : State) : (journalRetire a b c d s).dedCount = s.dedCount := by
  obtain ⟨j, u, h⟩ := journal_shape a 0x0108 true (leBytes 1 b ++ leBytes 2 c ++ leBytes 2 d) s
  rw [journalRetire, h]
@[simp] theorem journalRetire_scrubPasses (a b c d : Nat) (s : State) : (journalRetire a b c d s).scrubPasses = s.scrubPasses := by
  obtain ⟨j, u, h⟩ := journal_shape a 0x0108 true (leBytes 1 b ++ leBytes 2 c ++ leBytes 2 d) s
  rw [journalRetire, h]
@[simp] theorem journalRetire_scrubLast (a b c d : Nat) (s : State) : (journalRetire a b c d s).scrubLast = s.scrubLast := by
  obtain ⟨j, u, h⟩ := journal_shape a 0x0108 true (leBytes 1 b ++ leBytes 2 c ++ leBytes 2 d) s
  rw [journalRetire, h]
@[simp] theorem journalRetire_scrubPos (a b c d : Nat) (s : State) : (journalRetire a b c d s).scrubPos = s.scrubPos := by
  obtain ⟨j, u, h⟩ := journal_shape a 0x0108 true (leBytes 1 b ++ leBytes 2 c ++ leBytes 2 d) s
  rw [journalRetire, h]
@[simp] theorem journalRetire_bistResult (a b c d : Nat) (s : State) : (journalRetire a b c d s).bistResult = s.bistResult := by
  obtain ⟨j, u, h⟩ := journal_shape a 0x0108 true (leBytes 1 b ++ leBytes 2 c ++ leBytes 2 d) s
  rw [journalRetire, h]
@[simp] theorem journalRetire_injWord (a b c d : Nat) (s : State) : (journalRetire a b c d s).injWord = s.injWord := by
  obtain ⟨j, u, h⟩ := journal_shape a 0x0108 true (leBytes 1 b ++ leBytes 2 c ++ leBytes 2 d) s
  rw [journalRetire, h]
@[simp] theorem journalRetire_injMask (a b c d : Nat) (s : State) : (journalRetire a b c d s).injMask = s.injMask := by
  obtain ⟨j, u, h⟩ := journal_shape a 0x0108 true (leBytes 1 b ++ leBytes 2 c ++ leBytes 2 d) s
  rw [journalRetire, h]
@[simp] theorem journalRetire_unitResult (a b c d : Nat) (s : State) : (journalRetire a b c d s).unitResult = s.unitResult := by
  obtain ⟨j, u, h⟩ := journal_shape a 0x0108 true (leBytes 1 b ++ leBytes 2 c ++ leBytes 2 d) s
  rw [journalRetire, h]
@[simp] theorem journalRetire_logicSig (a b c d : Nat) (s : State) : (journalRetire a b c d s).logicSig = s.logicSig := by
  obtain ⟨j, u, h⟩ := journal_shape a 0x0108 true (leBytes 1 b ++ leBytes 2 c ++ leBytes 2 d) s
  rw [journalRetire, h]
@[simp] theorem journalRetire_cfg (a b c d : Nat) (s : State) : (journalRetire a b c d s).cfg = s.cfg := by
  obtain ⟨j, u, h⟩ := journal_shape a 0x0108 true (leBytes 1 b ++ leBytes 2 c ++ leBytes 2 d) s
  rw [journalRetire, h]
@[simp] theorem journalRetire_commits (a b c d : Nat) (s : State) : (journalRetire a b c d s).commits = s.commits := by
  obtain ⟨j, u, h⟩ := journal_shape a 0x0108 true (leBytes 1 b ++ leBytes 2 c ++ leBytes 2 d) s
  rw [journalRetire, h]
@[simp] theorem journalRetire_lastCommitPort (a b c d : Nat) (s : State) : (journalRetire a b c d s).lastCommitPort = s.lastCommitPort := by
  obtain ⟨j, u, h⟩ := journal_shape a 0x0108 true (leBytes 1 b ++ leBytes 2 c ++ leBytes 2 d) s
  rw [journalRetire, h]
@[simp] theorem journalRetire_lastCommitUs (a b c d : Nat) (s : State) : (journalRetire a b c d s).lastCommitUs = s.lastCommitUs := by
  obtain ⟨j, u, h⟩ := journal_shape a 0x0108 true (leBytes 1 b ++ leBytes 2 c ++ leBytes 2 d) s
  rw [journalRetire, h]
@[simp] theorem journalRetire_faReads (a b c d : Nat) (s : State) : (journalRetire a b c d s).faReads = s.faReads := by
  obtain ⟨j, u, h⟩ := journal_shape a 0x0108 true (leBytes 1 b ++ leBytes 2 c ++ leBytes 2 d) s
  rw [journalRetire, h]
@[simp] theorem journalRetire_chans (a b c d : Nat) (s : State) : (journalRetire a b c d s).chans = s.chans := by
  obtain ⟨j, u, h⟩ := journal_shape a 0x0108 true (leBytes 1 b ++ leBytes 2 c ++ leBytes 2 d) s
  rw [journalRetire, h]
@[simp] theorem journalRetire_fallow (a b c d : Nat) (s : State) : (journalRetire a b c d s).fallow = s.fallow := by
  obtain ⟨j, u, h⟩ := journal_shape a 0x0108 true (leBytes 1 b ++ leBytes 2 c ++ leBytes 2 d) s
  rw [journalRetire, h]
@[simp] theorem journalRetire_hedgerow (a b c d : Nat) (s : State) : (journalRetire a b c d s).hedgerow = s.hedgerow := by
  obtain ⟨j, u, h⟩ := journal_shape a 0x0108 true (leBytes 1 b ++ leBytes 2 c ++ leBytes 2 d) s
  rw [journalRetire, h]
@[simp] theorem journalRetire_hayloft (a b c d : Nat) (s : State) : (journalRetire a b c d s).hayloft = s.hayloft := by
  obtain ⟨j, u, h⟩ := journal_shape a 0x0108 true (leBytes 1 b ++ leBytes 2 c ++ leBytes 2 d) s
  rw [journalRetire, h]
@[simp] theorem journalRetire_vault (a b c d : Nat) (s : State) : (journalRetire a b c d s).vault = s.vault := by
  obtain ⟨j, u, h⟩ := journal_shape a 0x0108 true (leBytes 1 b ++ leBytes 2 c ++ leBytes 2 d) s
  rw [journalRetire, h]
@[simp] theorem journalRetire_update (a b c d : Nat) (s : State) : (journalRetire a b c d s).update = s.update := by
  obtain ⟨j, u, h⟩ := journal_shape a 0x0108 true (leBytes 1 b ++ leBytes 2 c ++ leBytes 2 d) s
  rw [journalRetire, h]
@[simp] theorem journalRetire_banks (a b c d : Nat) (s : State) : (journalRetire a b c d s).banks = s.banks := by
  obtain ⟨j, u, h⟩ := journal_shape a 0x0108 true (leBytes 1 b ++ leBytes 2 c ++ leBytes 2 d) s
  rw [journalRetire, h]
@[simp] theorem journalRetire_cxs (a b c d : Nat) (s : State) : (journalRetire a b c d s).cxs = s.cxs := by
  obtain ⟨j, u, h⟩ := journal_shape a 0x0108 true (leBytes 1 b ++ leBytes 2 c ++ leBytes 2 d) s
  rw [journalRetire, h]
@[simp] theorem journalRetire_keys (a b c d : Nat) (s : State) : (journalRetire a b c d s).keys = s.keys := by
  obtain ⟨j, u, h⟩ := journal_shape a 0x0108 true (leBytes 1 b ++ leBytes 2 c ++ leBytes 2 d) s
  rw [journalRetire, h]
@[simp] theorem journalRetire_pke (a b c d : Nat) (s : State) : (journalRetire a b c d s).pke = s.pke := by
  obtain ⟨j, u, h⟩ := journal_shape a 0x0108 true (leBytes 1 b ++ leBytes 2 c ++ leBytes 2 d) s
  rw [journalRetire, h]
@[simp] theorem journalRetire_random (a b c d : Nat) (s : State) : (journalRetire a b c d s).random = s.random := by
  obtain ⟨j, u, h⟩ := journal_shape a 0x0108 true (leBytes 1 b ++ leBytes 2 c ++ leBytes 2 d) s
  rw [journalRetire, h]
@[simp] theorem journalRetire_heath (a b c d : Nat) (s : State) : (journalRetire a b c d s).heath = s.heath := by
  obtain ⟨j, u, h⟩ := journal_shape a 0x0108 true (leBytes 1 b ++ leBytes 2 c ++ leBytes 2 d) s
  rw [journalRetire, h]
@[simp] theorem journalRetire_wd (a b c d : Nat) (s : State) : (journalRetire a b c d s).wd = s.wd := by
  obtain ⟨j, u, h⟩ := journal_shape a 0x0108 true (leBytes 1 b ++ leBytes 2 c ++ leBytes 2 d) s
  rw [journalRetire, h]
@[simp] theorem journalRetire_timers (a b c d : Nat) (s : State) : (journalRetire a b c d s).timers = s.timers := by
  obtain ⟨j, u, h⟩ := journal_shape a 0x0108 true (leBytes 1 b ++ leBytes 2 c ++ leBytes 2 d) s
  rw [journalRetire, h]
@[simp] theorem journalRetire_timeouts (a b c d : Nat) (s : State) : (journalRetire a b c d s).timeouts = s.timeouts := by
  obtain ⟨j, u, h⟩ := journal_shape a 0x0108 true (leBytes 1 b ++ leBytes 2 c ++ leBytes 2 d) s
  rw [journalRetire, h]
@[simp] theorem journalRetire_cus (a b c d : Nat) (s : State) : (journalRetire a b c d s).cus = s.cus := by
  obtain ⟨j, u, h⟩ := journal_shape a 0x0108 true (leBytes 1 b ++ leBytes 2 c ++ leBytes 2 d) s
  rw [journalRetire, h]
@[simp] theorem journalRetire_cuTransients (a b c d : Nat) (s : State) : (journalRetire a b c d s).cuTransients = s.cuTransients := by
  obtain ⟨j, u, h⟩ := journal_shape a 0x0108 true (leBytes 1 b ++ leBytes 2 c ++ leBytes 2 d) s
  rw [journalRetire, h]
@[simp] theorem journalRetire_lc (a b c d : Nat) (s : State) : (journalRetire a b c d s).lc = s.lc := by
  obtain ⟨j, u, h⟩ := journal_shape a 0x0108 true (leBytes 1 b ++ leBytes 2 c ++ leBytes 2 d) s
  rw [journalRetire, h]
@[simp] theorem journalRetire_tap (a b c d : Nat) (s : State) : (journalRetire a b c d s).tap = s.tap := by
  obtain ⟨j, u, h⟩ := journal_shape a 0x0108 true (leBytes 1 b ++ leBytes 2 c ++ leBytes 2 d) s
  rw [journalRetire, h]
@[simp] theorem journalRetire_spdm (a b c d : Nat) (s : State) : (journalRetire a b c d s).spdm = s.spdm := by
  obtain ⟨j, u, h⟩ := journal_shape a 0x0108 true (leBytes 1 b ++ leBytes 2 c ++ leBytes 2 d) s
  rw [journalRetire, h]
@[simp] theorem journalRetire_mports (a b c d : Nat) (s : State) : (journalRetire a b c d s).mports = s.mports := by
  obtain ⟨j, u, h⟩ := journal_shape a 0x0108 true (leBytes 1 b ++ leBytes 2 c ++ leBytes 2 d) s
  rw [journalRetire, h]
@[simp] theorem journalRetire_ports (a b c d : Nat) (s : State) : (journalRetire a b c d s).ports = s.ports := by
  obtain ⟨j, u, h⟩ := journal_shape a 0x0108 true (leBytes 1 b ++ leBytes 2 c ++ leBytes 2 d) s
  rw [journalRetire, h]
@[simp] theorem journalDrain_pending  (s : State) : (journalDrain s).pending = s.pending := by
  obtain ⟨j, u, h⟩ := journalDrain_shape s; rw [h]
@[simp] theorem journalDrain_freeCount  (s : State) : (journalDrain s).freeCount = s.freeCount := by
  obtain ⟨j, u, h⟩ := journalDrain_shape s; rw [h]
@[simp] theorem journalDrain_now  (s : State) : (journalDrain s).now = s.now := by
  obtain ⟨j, u, h⟩ := journalDrain_shape s; rw [h]
@[simp] theorem journalDrain_subUs  (s : State) : (journalDrain s).subUs = s.subUs := by
  obtain ⟨j, u, h⟩ := journalDrain_shape s; rw [h]
@[simp] theorem journalDrain_tbUs  (s : State) : (journalDrain s).tbUs = s.tbUs := by
  obtain ⟨j, u, h⟩ := journalDrain_shape s; rw [h]
@[simp] theorem journalDrain_tbEpoch  (s : State) : (journalDrain s).tbEpoch = s.tbEpoch := by
  obtain ⟨j, u, h⟩ := journalDrain_shape s; rw [h]
@[simp] theorem journalDrain_refclk  (s : State) : (journalDrain s).refclk = s.refclk := by
  obtain ⟨j, u, h⟩ := journalDrain_shape s; rw [h]
@[simp] theorem journalDrain_pllLock  (s : State) : (journalDrain s).pllLock = s.pllLock := by
  obtain ⟨j, u, h⟩ := journalDrain_shape s; rw [h]
@[simp] theorem journalDrain_gapPeriods  (s : State) : (journalDrain s).gapPeriods = s.gapPeriods := by
  obtain ⟨j, u, h⟩ := journalDrain_shape s; rw [h]
@[simp] theorem journalDrain_refclkLosses  (s : State) : (journalDrain s).refclkLosses = s.refclkLosses := by
  obtain ⟨j, u, h⟩ := journalDrain_shape s; rw [h]
@[simp] theorem journalDrain_refclkLastGap  (s : State) : (journalDrain s).refclkLastGap = s.refclkLastGap := by
  obtain ⟨j, u, h⟩ := journalDrain_shape s; rw [h]
@[simp] theorem journalDrain_porPin  (s : State) : (journalDrain s).porPin = s.porPin := by
  obtain ⟨j, u, h⟩ := journalDrain_shape s; rw [h]
@[simp] theorem journalDrain_porN  (s : State) : (journalDrain s).porN = s.porN := by
  obtain ⟨j, u, h⟩ := journalDrain_shape s; rw [h]
@[simp] theorem journalDrain_straps  (s : State) : (journalDrain s).straps = s.straps := by
  obtain ⟨j, u, h⟩ := journalDrain_shape s; rw [h]
@[simp] theorem journalDrain_phase  (s : State) : (journalDrain s).phase = s.phase := by
  obtain ⟨j, u, h⟩ := journalDrain_shape s; rw [h]
@[simp] theorem journalDrain_steps  (s : State) : (journalDrain s).steps = s.steps := by
  obtain ⟨j, u, h⟩ := journalDrain_shape s; rw [h]
@[simp] theorem journalDrain_bootResult  (s : State) : (journalDrain s).bootResult = s.bootResult := by
  obtain ⟨j, u, h⟩ := journalDrain_shape s; rw [h]
@[simp] theorem journalDrain_resetCause  (s : State) : (journalDrain s).resetCause = s.resetCause := by
  obtain ⟨j, u, h⟩ := journalDrain_shape s; rw [h]
@[simp] theorem journalDrain_rtCopy  (s : State) : (journalDrain s).rtCopy = s.rtCopy := by
  obtain ⟨j, u, h⟩ := journalDrain_shape s; rw [h]
@[simp] theorem journalDrain_deviceResets  (s : State) : (journalDrain s).deviceResets = s.deviceResets := by
  obtain ⟨j, u, h⟩ := journalDrain_shape s; rw [h]
@[simp] theorem journalDrain_coreRestarts  (s : State) : (journalDrain s).coreRestarts = s.coreRestarts := by
  obtain ⟨j, u, h⟩ := journalDrain_shape s; rw [h]
@[simp] theorem journalDrain_bootAttempts  (s : State) : (journalDrain s).bootAttempts = s.bootAttempts := by
  obtain ⟨j, u, h⟩ := journalDrain_shape s; rw [h]
@[simp] theorem journalDrain_deviceResetDue  (s : State) : (journalDrain s).deviceResetDue = s.deviceResetDue := by
  obtain ⟨j, u, h⟩ := journalDrain_shape s; rw [h]
@[simp] theorem journalDrain_coresDown  (s : State) : (journalDrain s).coresDown = s.coresDown := by
  obtain ⟨j, u, h⟩ := journalDrain_shape s; rw [h]
@[simp] theorem journalDrain_coresHeld  (s : State) : (journalDrain s).coresHeld = s.coresHeld := by
  obtain ⟨j, u, h⟩ := journalDrain_shape s; rw [h]
@[simp] theorem journalDrain_coreHealth  (s : State) : (journalDrain s).coreHealth = s.coreHealth := by
  obtain ⟨j, u, h⟩ := journalDrain_shape s; rw [h]
@[simp] theorem journalDrain_halted  (s : State) : (journalDrain s).halted = s.halted := by
  obtain ⟨j, u, h⟩ := journalDrain_shape s; rw [h]
@[simp] theorem journalDrain_mgmtUp  (s : State) : (journalDrain s).mgmtUp = s.mgmtUp := by
  obtain ⟨j, u, h⟩ := journalDrain_shape s; rw [h]
@[simp] theorem journalDrain_testHonoured  (s : State) : (journalDrain s).testHonoured = s.testHonoured := by
  obtain ⟨j, u, h⟩ := journalDrain_shape s; rw [h]
@[simp] theorem journalDrain_recoveryByRuntime  (s : State) : (journalDrain s).recoveryByRuntime = s.recoveryByRuntime := by
  obtain ⟨j, u, h⟩ := journalDrain_shape s; rw [h]
@[simp] theorem journalDrain_rtImage  (s : State) : (journalDrain s).rtImage = s.rtImage := by
  obtain ⟨j, u, h⟩ := journalDrain_shape s; rw [h]
@[simp] theorem journalDrain_rtInstallResult  (s : State) : (journalDrain s).rtInstallResult = s.rtInstallResult := by
  obtain ⟨j, u, h⟩ := journalDrain_shape s; rw [h]
@[simp] theorem journalDrain_rtBuild  (s : State) : (journalDrain s).rtBuild = s.rtBuild := by
  obtain ⟨j, u, h⟩ := journalDrain_shape s; rw [h]
@[simp] theorem journalDrain_rtSvn  (s : State) : (journalDrain s).rtSvn = s.rtSvn := by
  obtain ⟨j, u, h⟩ := journalDrain_shape s; rw [h]
@[simp] theorem journalDrain_rtDigest  (s : State) : (journalDrain s).rtDigest = s.rtDigest := by
  obtain ⟨j, u, h⟩ := journalDrain_shape s; rw [h]
@[simp] theorem journalDrain_katResults  (s : State) : (journalDrain s).katResults = s.katResults := by
  obtain ⟨j, u, h⟩ := journalDrain_shape s; rw [h]
@[simp] theorem journalDrain_digestHealth  (s : State) : (journalDrain s).digestHealth = s.digestHealth := by
  obtain ⟨j, u, h⟩ := journalDrain_shape s; rw [h]
@[simp] theorem journalDrain_dgTransients  (s : State) : (journalDrain s).dgTransients = s.dgTransients := by
  obtain ⟨j, u, h⟩ := journalDrain_shape s; rw [h]
@[simp] theorem journalDrain_cipherHealth  (s : State) : (journalDrain s).cipherHealth = s.cipherHealth := by
  obtain ⟨j, u, h⟩ := journalDrain_shape s; rw [h]
@[simp] theorem journalDrain_cxTransients  (s : State) : (journalDrain s).cxTransients = s.cxTransients := by
  obtain ⟨j, u, h⟩ := journalDrain_shape s; rw [h]
@[simp] theorem journalDrain_freshAtHeath  (s : State) : (journalDrain s).freshAtHeath = s.freshAtHeath := by
  obtain ⟨j, u, h⟩ := journalDrain_shape s; rw [h]
@[simp] theorem journalDrain_pacePs  (s : State) : (journalDrain s).pacePs = s.pacePs := by
  obtain ⟨j, u, h⟩ := journalDrain_shape s; rw [h]
@[simp] theorem journalDrain_paceMaxPs  (s : State) : (journalDrain s).paceMaxPs = s.paceMaxPs := by
  obtain ⟨j, u, h⟩ := journalDrain_shape s; rw [h]
@[simp] theorem journalDrain_paceArmed  (s : State) : (journalDrain s).paceArmed = s.paceArmed := by
  obtain ⟨j, u, h⟩ := journalDrain_shape s; rw [h]
@[simp] theorem journalDrain_tj  (s : State) : (journalDrain s).tj = s.tj := by
  obtain ⟨j, u, h⟩ := journalDrain_shape s; rw [h]
@[simp] theorem journalDrain_tjMax  (s : State) : (journalDrain s).tjMax = s.tjMax := by
  obtain ⟨j, u, h⟩ := journalDrain_shape s; rw [h]
@[simp] theorem journalDrain_railMv  (s : State) : (journalDrain s).railMv = s.railMv := by
  obtain ⟨j, u, h⟩ := journalDrain_shape s; rw [h]
@[simp] theorem journalDrain_railMin  (s : State) : (journalDrain s).railMin = s.railMin := by
  obtain ⟨j, u, h⟩ := journalDrain_shape s; rw [h]
@[simp] theorem journalDrain_railMax  (s : State) : (journalDrain s).railMax = s.railMax := by
  obtain ⟨j, u, h⟩ := journalDrain_shape s; rw [h]
@[simp] theorem journalDrain_secCount  (s : State) : (journalDrain s).secCount = s.secCount := by
  obtain ⟨j, u, h⟩ := journalDrain_shape s; rw [h]
@[simp] theorem journalDrain_dedCount  (s : State) : (journalDrain s).dedCount = s.dedCount := by
  obtain ⟨j, u, h⟩ := journalDrain_shape s; rw [h]
@[simp] theorem journalDrain_scrubPasses  (s : State) : (journalDrain s).scrubPasses = s.scrubPasses := by
  obtain ⟨j, u, h⟩ := journalDrain_shape s; rw [h]
@[simp] theorem journalDrain_scrubLast  (s : State) : (journalDrain s).scrubLast = s.scrubLast := by
  obtain ⟨j, u, h⟩ := journalDrain_shape s; rw [h]
@[simp] theorem journalDrain_scrubPos  (s : State) : (journalDrain s).scrubPos = s.scrubPos := by
  obtain ⟨j, u, h⟩ := journalDrain_shape s; rw [h]
@[simp] theorem journalDrain_bistResult  (s : State) : (journalDrain s).bistResult = s.bistResult := by
  obtain ⟨j, u, h⟩ := journalDrain_shape s; rw [h]
@[simp] theorem journalDrain_injWord  (s : State) : (journalDrain s).injWord = s.injWord := by
  obtain ⟨j, u, h⟩ := journalDrain_shape s; rw [h]
@[simp] theorem journalDrain_injMask  (s : State) : (journalDrain s).injMask = s.injMask := by
  obtain ⟨j, u, h⟩ := journalDrain_shape s; rw [h]
@[simp] theorem journalDrain_unitResult  (s : State) : (journalDrain s).unitResult = s.unitResult := by
  obtain ⟨j, u, h⟩ := journalDrain_shape s; rw [h]
@[simp] theorem journalDrain_logicSig  (s : State) : (journalDrain s).logicSig = s.logicSig := by
  obtain ⟨j, u, h⟩ := journalDrain_shape s; rw [h]
@[simp] theorem journalDrain_cfg  (s : State) : (journalDrain s).cfg = s.cfg := by
  obtain ⟨j, u, h⟩ := journalDrain_shape s; rw [h]
@[simp] theorem journalDrain_commits  (s : State) : (journalDrain s).commits = s.commits := by
  obtain ⟨j, u, h⟩ := journalDrain_shape s; rw [h]
@[simp] theorem journalDrain_lastCommitPort  (s : State) : (journalDrain s).lastCommitPort = s.lastCommitPort := by
  obtain ⟨j, u, h⟩ := journalDrain_shape s; rw [h]
@[simp] theorem journalDrain_lastCommitUs  (s : State) : (journalDrain s).lastCommitUs = s.lastCommitUs := by
  obtain ⟨j, u, h⟩ := journalDrain_shape s; rw [h]
@[simp] theorem journalDrain_faReads  (s : State) : (journalDrain s).faReads = s.faReads := by
  obtain ⟨j, u, h⟩ := journalDrain_shape s; rw [h]
@[simp] theorem journalDrain_chans  (s : State) : (journalDrain s).chans = s.chans := by
  obtain ⟨j, u, h⟩ := journalDrain_shape s; rw [h]
@[simp] theorem journalDrain_fallow  (s : State) : (journalDrain s).fallow = s.fallow := by
  obtain ⟨j, u, h⟩ := journalDrain_shape s; rw [h]
@[simp] theorem journalDrain_hedgerow  (s : State) : (journalDrain s).hedgerow = s.hedgerow := by
  obtain ⟨j, u, h⟩ := journalDrain_shape s; rw [h]
@[simp] theorem journalDrain_hayloft  (s : State) : (journalDrain s).hayloft = s.hayloft := by
  obtain ⟨j, u, h⟩ := journalDrain_shape s; rw [h]
@[simp] theorem journalDrain_vault  (s : State) : (journalDrain s).vault = s.vault := by
  obtain ⟨j, u, h⟩ := journalDrain_shape s; rw [h]
@[simp] theorem journalDrain_update  (s : State) : (journalDrain s).update = s.update := by
  obtain ⟨j, u, h⟩ := journalDrain_shape s; rw [h]
@[simp] theorem journalDrain_banks  (s : State) : (journalDrain s).banks = s.banks := by
  obtain ⟨j, u, h⟩ := journalDrain_shape s; rw [h]
@[simp] theorem journalDrain_cxs  (s : State) : (journalDrain s).cxs = s.cxs := by
  obtain ⟨j, u, h⟩ := journalDrain_shape s; rw [h]
@[simp] theorem journalDrain_keys  (s : State) : (journalDrain s).keys = s.keys := by
  obtain ⟨j, u, h⟩ := journalDrain_shape s; rw [h]
@[simp] theorem journalDrain_pke  (s : State) : (journalDrain s).pke = s.pke := by
  obtain ⟨j, u, h⟩ := journalDrain_shape s; rw [h]
@[simp] theorem journalDrain_random  (s : State) : (journalDrain s).random = s.random := by
  obtain ⟨j, u, h⟩ := journalDrain_shape s; rw [h]
@[simp] theorem journalDrain_heath  (s : State) : (journalDrain s).heath = s.heath := by
  obtain ⟨j, u, h⟩ := journalDrain_shape s; rw [h]
@[simp] theorem journalDrain_wd  (s : State) : (journalDrain s).wd = s.wd := by
  obtain ⟨j, u, h⟩ := journalDrain_shape s; rw [h]
@[simp] theorem journalDrain_timers  (s : State) : (journalDrain s).timers = s.timers := by
  obtain ⟨j, u, h⟩ := journalDrain_shape s; rw [h]
@[simp] theorem journalDrain_timeouts  (s : State) : (journalDrain s).timeouts = s.timeouts := by
  obtain ⟨j, u, h⟩ := journalDrain_shape s; rw [h]
@[simp] theorem journalDrain_cus  (s : State) : (journalDrain s).cus = s.cus := by
  obtain ⟨j, u, h⟩ := journalDrain_shape s; rw [h]
@[simp] theorem journalDrain_cuTransients  (s : State) : (journalDrain s).cuTransients = s.cuTransients := by
  obtain ⟨j, u, h⟩ := journalDrain_shape s; rw [h]
@[simp] theorem journalDrain_lc  (s : State) : (journalDrain s).lc = s.lc := by
  obtain ⟨j, u, h⟩ := journalDrain_shape s; rw [h]
@[simp] theorem journalDrain_tap  (s : State) : (journalDrain s).tap = s.tap := by
  obtain ⟨j, u, h⟩ := journalDrain_shape s; rw [h]
@[simp] theorem journalDrain_spdm  (s : State) : (journalDrain s).spdm = s.spdm := by
  obtain ⟨j, u, h⟩ := journalDrain_shape s; rw [h]
@[simp] theorem journalDrain_mports  (s : State) : (journalDrain s).mports = s.mports := by
  obtain ⟨j, u, h⟩ := journalDrain_shape s; rw [h]
@[simp] theorem journalDrain_ports  (s : State) : (journalDrain s).ports = s.ports := by
  obtain ⟨j, u, h⟩ := journalDrain_shape s; rw [h]
@[simp] theorem entropyStep_pending  (s : State) : (entropyStep s).pending = s.pending :=
  congrArg (f := State.pending) (a₁ := sober _) (a₂ := sober s) (sober_entropyStep  s)
@[simp] theorem entropyStep_freeCount  (s : State) : (entropyStep s).freeCount = s.freeCount :=
  congrArg (f := State.freeCount) (a₁ := sober _) (a₂ := sober s) (sober_entropyStep  s)
@[simp] theorem entropyStep_now  (s : State) : (entropyStep s).now = s.now :=
  congrArg (f := State.now) (a₁ := sober _) (a₂ := sober s) (sober_entropyStep  s)
@[simp] theorem entropyStep_subUs  (s : State) : (entropyStep s).subUs = s.subUs :=
  congrArg (f := State.subUs) (a₁ := sober _) (a₂ := sober s) (sober_entropyStep  s)
@[simp] theorem entropyStep_tbUs  (s : State) : (entropyStep s).tbUs = s.tbUs :=
  congrArg (f := State.tbUs) (a₁ := sober _) (a₂ := sober s) (sober_entropyStep  s)
@[simp] theorem entropyStep_tbEpoch  (s : State) : (entropyStep s).tbEpoch = s.tbEpoch :=
  congrArg (f := State.tbEpoch) (a₁ := sober _) (a₂ := sober s) (sober_entropyStep  s)
@[simp] theorem entropyStep_refclk  (s : State) : (entropyStep s).refclk = s.refclk :=
  congrArg (f := State.refclk) (a₁ := sober _) (a₂ := sober s) (sober_entropyStep  s)
@[simp] theorem entropyStep_pllLock  (s : State) : (entropyStep s).pllLock = s.pllLock :=
  congrArg (f := State.pllLock) (a₁ := sober _) (a₂ := sober s) (sober_entropyStep  s)
@[simp] theorem entropyStep_gapPeriods  (s : State) : (entropyStep s).gapPeriods = s.gapPeriods :=
  congrArg (f := State.gapPeriods) (a₁ := sober _) (a₂ := sober s) (sober_entropyStep  s)
@[simp] theorem entropyStep_refclkLosses  (s : State) : (entropyStep s).refclkLosses = s.refclkLosses :=
  congrArg (f := State.refclkLosses) (a₁ := sober _) (a₂ := sober s) (sober_entropyStep  s)
@[simp] theorem entropyStep_refclkLastGap  (s : State) : (entropyStep s).refclkLastGap = s.refclkLastGap :=
  congrArg (f := State.refclkLastGap) (a₁ := sober _) (a₂ := sober s) (sober_entropyStep  s)
@[simp] theorem entropyStep_porPin  (s : State) : (entropyStep s).porPin = s.porPin :=
  congrArg (f := State.porPin) (a₁ := sober _) (a₂ := sober s) (sober_entropyStep  s)
@[simp] theorem entropyStep_porN  (s : State) : (entropyStep s).porN = s.porN :=
  congrArg (f := State.porN) (a₁ := sober _) (a₂ := sober s) (sober_entropyStep  s)
@[simp] theorem entropyStep_straps  (s : State) : (entropyStep s).straps = s.straps :=
  congrArg (f := State.straps) (a₁ := sober _) (a₂ := sober s) (sober_entropyStep  s)
@[simp] theorem entropyStep_phase  (s : State) : (entropyStep s).phase = s.phase :=
  congrArg (f := State.phase) (a₁ := sober _) (a₂ := sober s) (sober_entropyStep  s)
@[simp] theorem entropyStep_resetCause  (s : State) : (entropyStep s).resetCause = s.resetCause :=
  congrArg (f := State.resetCause) (a₁ := sober _) (a₂ := sober s) (sober_entropyStep  s)
@[simp] theorem entropyStep_rtCopy  (s : State) : (entropyStep s).rtCopy = s.rtCopy :=
  congrArg (f := State.rtCopy) (a₁ := sober _) (a₂ := sober s) (sober_entropyStep  s)
@[simp] theorem entropyStep_deviceResets  (s : State) : (entropyStep s).deviceResets = s.deviceResets :=
  congrArg (f := State.deviceResets) (a₁ := sober _) (a₂ := sober s) (sober_entropyStep  s)
@[simp] theorem entropyStep_coreRestarts  (s : State) : (entropyStep s).coreRestarts = s.coreRestarts :=
  congrArg (f := State.coreRestarts) (a₁ := sober _) (a₂ := sober s) (sober_entropyStep  s)
@[simp] theorem entropyStep_bootAttempts  (s : State) : (entropyStep s).bootAttempts = s.bootAttempts :=
  congrArg (f := State.bootAttempts) (a₁ := sober _) (a₂ := sober s) (sober_entropyStep  s)
@[simp] theorem entropyStep_deviceResetDue  (s : State) : (entropyStep s).deviceResetDue = s.deviceResetDue :=
  congrArg (f := State.deviceResetDue) (a₁ := sober _) (a₂ := sober s) (sober_entropyStep  s)
@[simp] theorem entropyStep_coresDown  (s : State) : (entropyStep s).coresDown = s.coresDown :=
  congrArg (f := State.coresDown) (a₁ := sober _) (a₂ := sober s) (sober_entropyStep  s)
@[simp] theorem entropyStep_coresHeld  (s : State) : (entropyStep s).coresHeld = s.coresHeld :=
  congrArg (f := State.coresHeld) (a₁ := sober _) (a₂ := sober s) (sober_entropyStep  s)
@[simp] theorem entropyStep_coreHealth  (s : State) : (entropyStep s).coreHealth = s.coreHealth :=
  congrArg (f := State.coreHealth) (a₁ := sober _) (a₂ := sober s) (sober_entropyStep  s)
@[simp] theorem entropyStep_halted  (s : State) : (entropyStep s).halted = s.halted :=
  congrArg (f := State.halted) (a₁ := sober _) (a₂ := sober s) (sober_entropyStep  s)
@[simp] theorem entropyStep_mgmtUp  (s : State) : (entropyStep s).mgmtUp = s.mgmtUp :=
  congrArg (f := State.mgmtUp) (a₁ := sober _) (a₂ := sober s) (sober_entropyStep  s)
@[simp] theorem entropyStep_testHonoured  (s : State) : (entropyStep s).testHonoured = s.testHonoured :=
  congrArg (f := State.testHonoured) (a₁ := sober _) (a₂ := sober s) (sober_entropyStep  s)
@[simp] theorem entropyStep_recoveryByRuntime  (s : State) : (entropyStep s).recoveryByRuntime = s.recoveryByRuntime :=
  congrArg (f := State.recoveryByRuntime) (a₁ := sober _) (a₂ := sober s) (sober_entropyStep  s)
@[simp] theorem entropyStep_rtImage  (s : State) : (entropyStep s).rtImage = s.rtImage :=
  congrArg (f := State.rtImage) (a₁ := sober _) (a₂ := sober s) (sober_entropyStep  s)
@[simp] theorem entropyStep_rtInstallResult  (s : State) : (entropyStep s).rtInstallResult = s.rtInstallResult :=
  congrArg (f := State.rtInstallResult) (a₁ := sober _) (a₂ := sober s) (sober_entropyStep  s)
@[simp] theorem entropyStep_rtBuild  (s : State) : (entropyStep s).rtBuild = s.rtBuild :=
  congrArg (f := State.rtBuild) (a₁ := sober _) (a₂ := sober s) (sober_entropyStep  s)
@[simp] theorem entropyStep_rtSvn  (s : State) : (entropyStep s).rtSvn = s.rtSvn :=
  congrArg (f := State.rtSvn) (a₁ := sober _) (a₂ := sober s) (sober_entropyStep  s)
@[simp] theorem entropyStep_rtDigest  (s : State) : (entropyStep s).rtDigest = s.rtDigest :=
  congrArg (f := State.rtDigest) (a₁ := sober _) (a₂ := sober s) (sober_entropyStep  s)
@[simp] theorem entropyStep_katResults  (s : State) : (entropyStep s).katResults = s.katResults :=
  congrArg (f := State.katResults) (a₁ := sober _) (a₂ := sober s) (sober_entropyStep  s)
@[simp] theorem entropyStep_digestHealth  (s : State) : (entropyStep s).digestHealth = s.digestHealth :=
  congrArg (f := State.digestHealth) (a₁ := sober _) (a₂ := sober s) (sober_entropyStep  s)
@[simp] theorem entropyStep_dgTransients  (s : State) : (entropyStep s).dgTransients = s.dgTransients :=
  congrArg (f := State.dgTransients) (a₁ := sober _) (a₂ := sober s) (sober_entropyStep  s)
@[simp] theorem entropyStep_cipherHealth  (s : State) : (entropyStep s).cipherHealth = s.cipherHealth :=
  congrArg (f := State.cipherHealth) (a₁ := sober _) (a₂ := sober s) (sober_entropyStep  s)
@[simp] theorem entropyStep_cxTransients  (s : State) : (entropyStep s).cxTransients = s.cxTransients :=
  congrArg (f := State.cxTransients) (a₁ := sober _) (a₂ := sober s) (sober_entropyStep  s)
@[simp] theorem entropyStep_freshAtHeath  (s : State) : (entropyStep s).freshAtHeath = s.freshAtHeath :=
  congrArg (f := State.freshAtHeath) (a₁ := sober _) (a₂ := sober s) (sober_entropyStep  s)
@[simp] theorem entropyStep_pacePs  (s : State) : (entropyStep s).pacePs = s.pacePs :=
  congrArg (f := State.pacePs) (a₁ := sober _) (a₂ := sober s) (sober_entropyStep  s)
@[simp] theorem entropyStep_paceMaxPs  (s : State) : (entropyStep s).paceMaxPs = s.paceMaxPs :=
  congrArg (f := State.paceMaxPs) (a₁ := sober _) (a₂ := sober s) (sober_entropyStep  s)
@[simp] theorem entropyStep_paceArmed  (s : State) : (entropyStep s).paceArmed = s.paceArmed :=
  congrArg (f := State.paceArmed) (a₁ := sober _) (a₂ := sober s) (sober_entropyStep  s)
@[simp] theorem entropyStep_tj  (s : State) : (entropyStep s).tj = s.tj :=
  congrArg (f := State.tj) (a₁ := sober _) (a₂ := sober s) (sober_entropyStep  s)
@[simp] theorem entropyStep_tjMax  (s : State) : (entropyStep s).tjMax = s.tjMax :=
  congrArg (f := State.tjMax) (a₁ := sober _) (a₂ := sober s) (sober_entropyStep  s)
@[simp] theorem entropyStep_railMv  (s : State) : (entropyStep s).railMv = s.railMv :=
  congrArg (f := State.railMv) (a₁ := sober _) (a₂ := sober s) (sober_entropyStep  s)
@[simp] theorem entropyStep_railMin  (s : State) : (entropyStep s).railMin = s.railMin :=
  congrArg (f := State.railMin) (a₁ := sober _) (a₂ := sober s) (sober_entropyStep  s)
@[simp] theorem entropyStep_railMax  (s : State) : (entropyStep s).railMax = s.railMax :=
  congrArg (f := State.railMax) (a₁ := sober _) (a₂ := sober s) (sober_entropyStep  s)
@[simp] theorem entropyStep_secCount  (s : State) : (entropyStep s).secCount = s.secCount :=
  congrArg (f := State.secCount) (a₁ := sober _) (a₂ := sober s) (sober_entropyStep  s)
@[simp] theorem entropyStep_dedCount  (s : State) : (entropyStep s).dedCount = s.dedCount :=
  congrArg (f := State.dedCount) (a₁ := sober _) (a₂ := sober s) (sober_entropyStep  s)
@[simp] theorem entropyStep_scrubPasses  (s : State) : (entropyStep s).scrubPasses = s.scrubPasses :=
  congrArg (f := State.scrubPasses) (a₁ := sober _) (a₂ := sober s) (sober_entropyStep  s)
@[simp] theorem entropyStep_scrubLast  (s : State) : (entropyStep s).scrubLast = s.scrubLast :=
  congrArg (f := State.scrubLast) (a₁ := sober _) (a₂ := sober s) (sober_entropyStep  s)
@[simp] theorem entropyStep_scrubPos  (s : State) : (entropyStep s).scrubPos = s.scrubPos :=
  congrArg (f := State.scrubPos) (a₁ := sober _) (a₂ := sober s) (sober_entropyStep  s)
@[simp] theorem entropyStep_bistResult  (s : State) : (entropyStep s).bistResult = s.bistResult :=
  congrArg (f := State.bistResult) (a₁ := sober _) (a₂ := sober s) (sober_entropyStep  s)
@[simp] theorem entropyStep_injWord  (s : State) : (entropyStep s).injWord = s.injWord :=
  congrArg (f := State.injWord) (a₁ := sober _) (a₂ := sober s) (sober_entropyStep  s)
@[simp] theorem entropyStep_injMask  (s : State) : (entropyStep s).injMask = s.injMask :=
  congrArg (f := State.injMask) (a₁ := sober _) (a₂ := sober s) (sober_entropyStep  s)
@[simp] theorem entropyStep_unitResult  (s : State) : (entropyStep s).unitResult = s.unitResult :=
  congrArg (f := State.unitResult) (a₁ := sober _) (a₂ := sober s) (sober_entropyStep  s)
@[simp] theorem entropyStep_logicSig  (s : State) : (entropyStep s).logicSig = s.logicSig :=
  congrArg (f := State.logicSig) (a₁ := sober _) (a₂ := sober s) (sober_entropyStep  s)
@[simp] theorem entropyStep_cfg  (s : State) : (entropyStep s).cfg = s.cfg :=
  congrArg (f := State.cfg) (a₁ := sober _) (a₂ := sober s) (sober_entropyStep  s)
@[simp] theorem entropyStep_commits  (s : State) : (entropyStep s).commits = s.commits :=
  congrArg (f := State.commits) (a₁ := sober _) (a₂ := sober s) (sober_entropyStep  s)
@[simp] theorem entropyStep_lastCommitPort  (s : State) : (entropyStep s).lastCommitPort = s.lastCommitPort :=
  congrArg (f := State.lastCommitPort) (a₁ := sober _) (a₂ := sober s) (sober_entropyStep  s)
@[simp] theorem entropyStep_lastCommitUs  (s : State) : (entropyStep s).lastCommitUs = s.lastCommitUs :=
  congrArg (f := State.lastCommitUs) (a₁ := sober _) (a₂ := sober s) (sober_entropyStep  s)
@[simp] theorem entropyStep_faReads  (s : State) : (entropyStep s).faReads = s.faReads :=
  congrArg (f := State.faReads) (a₁ := sober _) (a₂ := sober s) (sober_entropyStep  s)
@[simp] theorem entropyStep_chans  (s : State) : (entropyStep s).chans = s.chans :=
  congrArg (f := State.chans) (a₁ := sober _) (a₂ := sober s) (sober_entropyStep  s)
@[simp] theorem entropyStep_fallow  (s : State) : (entropyStep s).fallow = s.fallow :=
  congrArg (f := State.fallow) (a₁ := sober _) (a₂ := sober s) (sober_entropyStep  s)
@[simp] theorem entropyStep_hedgerow  (s : State) : (entropyStep s).hedgerow = s.hedgerow :=
  congrArg (f := State.hedgerow) (a₁ := sober _) (a₂ := sober s) (sober_entropyStep  s)
@[simp] theorem entropyStep_hayloft  (s : State) : (entropyStep s).hayloft = s.hayloft :=
  congrArg (f := State.hayloft) (a₁ := sober _) (a₂ := sober s) (sober_entropyStep  s)
@[simp] theorem entropyStep_vault  (s : State) : (entropyStep s).vault = s.vault :=
  congrArg (f := State.vault) (a₁ := sober _) (a₂ := sober s) (sober_entropyStep  s)
@[simp] theorem entropyStep_update  (s : State) : (entropyStep s).update = s.update :=
  congrArg (f := State.update) (a₁ := sober _) (a₂ := sober s) (sober_entropyStep  s)
@[simp] theorem entropyStep_banks  (s : State) : (entropyStep s).banks = s.banks :=
  congrArg (f := State.banks) (a₁ := sober _) (a₂ := sober s) (sober_entropyStep  s)
@[simp] theorem entropyStep_cxs  (s : State) : (entropyStep s).cxs = s.cxs :=
  congrArg (f := State.cxs) (a₁ := sober _) (a₂ := sober s) (sober_entropyStep  s)
@[simp] theorem entropyStep_pke  (s : State) : (entropyStep s).pke = s.pke :=
  congrArg (f := State.pke) (a₁ := sober _) (a₂ := sober s) (sober_entropyStep  s)
@[simp] theorem entropyStep_heath  (s : State) : (entropyStep s).heath = s.heath :=
  congrArg (f := State.heath) (a₁ := sober _) (a₂ := sober s) (sober_entropyStep  s)
@[simp] theorem entropyStep_wd  (s : State) : (entropyStep s).wd = s.wd :=
  congrArg (f := State.wd) (a₁ := sober _) (a₂ := sober s) (sober_entropyStep  s)
@[simp] theorem entropyStep_timers  (s : State) : (entropyStep s).timers = s.timers :=
  congrArg (f := State.timers) (a₁ := sober _) (a₂ := sober s) (sober_entropyStep  s)
@[simp] theorem entropyStep_cus  (s : State) : (entropyStep s).cus = s.cus :=
  congrArg (f := State.cus) (a₁ := sober _) (a₂ := sober s) (sober_entropyStep  s)
@[simp] theorem entropyStep_cuTransients  (s : State) : (entropyStep s).cuTransients = s.cuTransients :=
  congrArg (f := State.cuTransients) (a₁ := sober _) (a₂ := sober s) (sober_entropyStep  s)
@[simp] theorem entropyStep_lc  (s : State) : (entropyStep s).lc = s.lc :=
  congrArg (f := State.lc) (a₁ := sober _) (a₂ := sober s) (sober_entropyStep  s)
@[simp] theorem entropyStep_tap  (s : State) : (entropyStep s).tap = s.tap :=
  congrArg (f := State.tap) (a₁ := sober _) (a₂ := sober s) (sober_entropyStep  s)
@[simp] theorem entropyStep_spdm  (s : State) : (entropyStep s).spdm = s.spdm :=
  congrArg (f := State.spdm) (a₁ := sober _) (a₂ := sober s) (sober_entropyStep  s)
@[simp] theorem entropyStep_mports  (s : State) : (entropyStep s).mports = s.mports :=
  congrArg (f := State.mports) (a₁ := sober _) (a₂ := sober s) (sober_entropyStep  s)
@[simp] theorem entropyStep_ports  (s : State) : (entropyStep s).ports = s.ports :=
  congrArg (f := State.ports) (a₁ := sober _) (a₂ := sober s) (sober_entropyStep  s)
@[simp] theorem kickInstantiate_pending  (s : State) : (kickInstantiate s).pending = s.pending :=
  congrArg (f := State.pending) (a₁ := sober _) (a₂ := sober s) (sober_kickInstantiate  s)
@[simp] theorem kickInstantiate_freeCount  (s : State) : (kickInstantiate s).freeCount = s.freeCount :=
  congrArg (f := State.freeCount) (a₁ := sober _) (a₂ := sober s) (sober_kickInstantiate  s)
@[simp] theorem kickInstantiate_now  (s : State) : (kickInstantiate s).now = s.now :=
  congrArg (f := State.now) (a₁ := sober _) (a₂ := sober s) (sober_kickInstantiate  s)
@[simp] theorem kickInstantiate_subUs  (s : State) : (kickInstantiate s).subUs = s.subUs :=
  congrArg (f := State.subUs) (a₁ := sober _) (a₂ := sober s) (sober_kickInstantiate  s)
@[simp] theorem kickInstantiate_tbUs  (s : State) : (kickInstantiate s).tbUs = s.tbUs :=
  congrArg (f := State.tbUs) (a₁ := sober _) (a₂ := sober s) (sober_kickInstantiate  s)
@[simp] theorem kickInstantiate_tbEpoch  (s : State) : (kickInstantiate s).tbEpoch = s.tbEpoch :=
  congrArg (f := State.tbEpoch) (a₁ := sober _) (a₂ := sober s) (sober_kickInstantiate  s)
@[simp] theorem kickInstantiate_refclk  (s : State) : (kickInstantiate s).refclk = s.refclk :=
  congrArg (f := State.refclk) (a₁ := sober _) (a₂ := sober s) (sober_kickInstantiate  s)
@[simp] theorem kickInstantiate_pllLock  (s : State) : (kickInstantiate s).pllLock = s.pllLock :=
  congrArg (f := State.pllLock) (a₁ := sober _) (a₂ := sober s) (sober_kickInstantiate  s)
@[simp] theorem kickInstantiate_gapPeriods  (s : State) : (kickInstantiate s).gapPeriods = s.gapPeriods :=
  congrArg (f := State.gapPeriods) (a₁ := sober _) (a₂ := sober s) (sober_kickInstantiate  s)
@[simp] theorem kickInstantiate_refclkLosses  (s : State) : (kickInstantiate s).refclkLosses = s.refclkLosses :=
  congrArg (f := State.refclkLosses) (a₁ := sober _) (a₂ := sober s) (sober_kickInstantiate  s)
@[simp] theorem kickInstantiate_refclkLastGap  (s : State) : (kickInstantiate s).refclkLastGap = s.refclkLastGap :=
  congrArg (f := State.refclkLastGap) (a₁ := sober _) (a₂ := sober s) (sober_kickInstantiate  s)
@[simp] theorem kickInstantiate_porPin  (s : State) : (kickInstantiate s).porPin = s.porPin :=
  congrArg (f := State.porPin) (a₁ := sober _) (a₂ := sober s) (sober_kickInstantiate  s)
@[simp] theorem kickInstantiate_porN  (s : State) : (kickInstantiate s).porN = s.porN :=
  congrArg (f := State.porN) (a₁ := sober _) (a₂ := sober s) (sober_kickInstantiate  s)
@[simp] theorem kickInstantiate_straps  (s : State) : (kickInstantiate s).straps = s.straps :=
  congrArg (f := State.straps) (a₁ := sober _) (a₂ := sober s) (sober_kickInstantiate  s)
@[simp] theorem kickInstantiate_phase  (s : State) : (kickInstantiate s).phase = s.phase :=
  congrArg (f := State.phase) (a₁ := sober _) (a₂ := sober s) (sober_kickInstantiate  s)
@[simp] theorem kickInstantiate_resetCause  (s : State) : (kickInstantiate s).resetCause = s.resetCause :=
  congrArg (f := State.resetCause) (a₁ := sober _) (a₂ := sober s) (sober_kickInstantiate  s)
@[simp] theorem kickInstantiate_rtCopy  (s : State) : (kickInstantiate s).rtCopy = s.rtCopy :=
  congrArg (f := State.rtCopy) (a₁ := sober _) (a₂ := sober s) (sober_kickInstantiate  s)
@[simp] theorem kickInstantiate_deviceResets  (s : State) : (kickInstantiate s).deviceResets = s.deviceResets :=
  congrArg (f := State.deviceResets) (a₁ := sober _) (a₂ := sober s) (sober_kickInstantiate  s)
@[simp] theorem kickInstantiate_coreRestarts  (s : State) : (kickInstantiate s).coreRestarts = s.coreRestarts :=
  congrArg (f := State.coreRestarts) (a₁ := sober _) (a₂ := sober s) (sober_kickInstantiate  s)
@[simp] theorem kickInstantiate_bootAttempts  (s : State) : (kickInstantiate s).bootAttempts = s.bootAttempts :=
  congrArg (f := State.bootAttempts) (a₁ := sober _) (a₂ := sober s) (sober_kickInstantiate  s)
@[simp] theorem kickInstantiate_deviceResetDue  (s : State) : (kickInstantiate s).deviceResetDue = s.deviceResetDue :=
  congrArg (f := State.deviceResetDue) (a₁ := sober _) (a₂ := sober s) (sober_kickInstantiate  s)
@[simp] theorem kickInstantiate_coresDown  (s : State) : (kickInstantiate s).coresDown = s.coresDown :=
  congrArg (f := State.coresDown) (a₁ := sober _) (a₂ := sober s) (sober_kickInstantiate  s)
@[simp] theorem kickInstantiate_coresHeld  (s : State) : (kickInstantiate s).coresHeld = s.coresHeld :=
  congrArg (f := State.coresHeld) (a₁ := sober _) (a₂ := sober s) (sober_kickInstantiate  s)
@[simp] theorem kickInstantiate_coreHealth  (s : State) : (kickInstantiate s).coreHealth = s.coreHealth :=
  congrArg (f := State.coreHealth) (a₁ := sober _) (a₂ := sober s) (sober_kickInstantiate  s)
@[simp] theorem kickInstantiate_halted  (s : State) : (kickInstantiate s).halted = s.halted :=
  congrArg (f := State.halted) (a₁ := sober _) (a₂ := sober s) (sober_kickInstantiate  s)
@[simp] theorem kickInstantiate_mgmtUp  (s : State) : (kickInstantiate s).mgmtUp = s.mgmtUp :=
  congrArg (f := State.mgmtUp) (a₁ := sober _) (a₂ := sober s) (sober_kickInstantiate  s)
@[simp] theorem kickInstantiate_testHonoured  (s : State) : (kickInstantiate s).testHonoured = s.testHonoured :=
  congrArg (f := State.testHonoured) (a₁ := sober _) (a₂ := sober s) (sober_kickInstantiate  s)
@[simp] theorem kickInstantiate_recoveryByRuntime  (s : State) : (kickInstantiate s).recoveryByRuntime = s.recoveryByRuntime :=
  congrArg (f := State.recoveryByRuntime) (a₁ := sober _) (a₂ := sober s) (sober_kickInstantiate  s)
@[simp] theorem kickInstantiate_rtImage  (s : State) : (kickInstantiate s).rtImage = s.rtImage :=
  congrArg (f := State.rtImage) (a₁ := sober _) (a₂ := sober s) (sober_kickInstantiate  s)
@[simp] theorem kickInstantiate_rtInstallResult  (s : State) : (kickInstantiate s).rtInstallResult = s.rtInstallResult :=
  congrArg (f := State.rtInstallResult) (a₁ := sober _) (a₂ := sober s) (sober_kickInstantiate  s)
@[simp] theorem kickInstantiate_rtBuild  (s : State) : (kickInstantiate s).rtBuild = s.rtBuild :=
  congrArg (f := State.rtBuild) (a₁ := sober _) (a₂ := sober s) (sober_kickInstantiate  s)
@[simp] theorem kickInstantiate_rtSvn  (s : State) : (kickInstantiate s).rtSvn = s.rtSvn :=
  congrArg (f := State.rtSvn) (a₁ := sober _) (a₂ := sober s) (sober_kickInstantiate  s)
@[simp] theorem kickInstantiate_rtDigest  (s : State) : (kickInstantiate s).rtDigest = s.rtDigest :=
  congrArg (f := State.rtDigest) (a₁ := sober _) (a₂ := sober s) (sober_kickInstantiate  s)
@[simp] theorem kickInstantiate_katResults  (s : State) : (kickInstantiate s).katResults = s.katResults :=
  congrArg (f := State.katResults) (a₁ := sober _) (a₂ := sober s) (sober_kickInstantiate  s)
@[simp] theorem kickInstantiate_digestHealth  (s : State) : (kickInstantiate s).digestHealth = s.digestHealth :=
  congrArg (f := State.digestHealth) (a₁ := sober _) (a₂ := sober s) (sober_kickInstantiate  s)
@[simp] theorem kickInstantiate_dgTransients  (s : State) : (kickInstantiate s).dgTransients = s.dgTransients :=
  congrArg (f := State.dgTransients) (a₁ := sober _) (a₂ := sober s) (sober_kickInstantiate  s)
@[simp] theorem kickInstantiate_cipherHealth  (s : State) : (kickInstantiate s).cipherHealth = s.cipherHealth :=
  congrArg (f := State.cipherHealth) (a₁ := sober _) (a₂ := sober s) (sober_kickInstantiate  s)
@[simp] theorem kickInstantiate_cxTransients  (s : State) : (kickInstantiate s).cxTransients = s.cxTransients :=
  congrArg (f := State.cxTransients) (a₁ := sober _) (a₂ := sober s) (sober_kickInstantiate  s)
@[simp] theorem kickInstantiate_freshAtHeath  (s : State) : (kickInstantiate s).freshAtHeath = s.freshAtHeath :=
  congrArg (f := State.freshAtHeath) (a₁ := sober _) (a₂ := sober s) (sober_kickInstantiate  s)
@[simp] theorem kickInstantiate_pacePs  (s : State) : (kickInstantiate s).pacePs = s.pacePs :=
  congrArg (f := State.pacePs) (a₁ := sober _) (a₂ := sober s) (sober_kickInstantiate  s)
@[simp] theorem kickInstantiate_paceMaxPs  (s : State) : (kickInstantiate s).paceMaxPs = s.paceMaxPs :=
  congrArg (f := State.paceMaxPs) (a₁ := sober _) (a₂ := sober s) (sober_kickInstantiate  s)
@[simp] theorem kickInstantiate_paceArmed  (s : State) : (kickInstantiate s).paceArmed = s.paceArmed :=
  congrArg (f := State.paceArmed) (a₁ := sober _) (a₂ := sober s) (sober_kickInstantiate  s)
@[simp] theorem kickInstantiate_tj  (s : State) : (kickInstantiate s).tj = s.tj :=
  congrArg (f := State.tj) (a₁ := sober _) (a₂ := sober s) (sober_kickInstantiate  s)
@[simp] theorem kickInstantiate_tjMax  (s : State) : (kickInstantiate s).tjMax = s.tjMax :=
  congrArg (f := State.tjMax) (a₁ := sober _) (a₂ := sober s) (sober_kickInstantiate  s)
@[simp] theorem kickInstantiate_railMv  (s : State) : (kickInstantiate s).railMv = s.railMv :=
  congrArg (f := State.railMv) (a₁ := sober _) (a₂ := sober s) (sober_kickInstantiate  s)
@[simp] theorem kickInstantiate_railMin  (s : State) : (kickInstantiate s).railMin = s.railMin :=
  congrArg (f := State.railMin) (a₁ := sober _) (a₂ := sober s) (sober_kickInstantiate  s)
@[simp] theorem kickInstantiate_railMax  (s : State) : (kickInstantiate s).railMax = s.railMax :=
  congrArg (f := State.railMax) (a₁ := sober _) (a₂ := sober s) (sober_kickInstantiate  s)
@[simp] theorem kickInstantiate_secCount  (s : State) : (kickInstantiate s).secCount = s.secCount :=
  congrArg (f := State.secCount) (a₁ := sober _) (a₂ := sober s) (sober_kickInstantiate  s)
@[simp] theorem kickInstantiate_dedCount  (s : State) : (kickInstantiate s).dedCount = s.dedCount :=
  congrArg (f := State.dedCount) (a₁ := sober _) (a₂ := sober s) (sober_kickInstantiate  s)
@[simp] theorem kickInstantiate_scrubPasses  (s : State) : (kickInstantiate s).scrubPasses = s.scrubPasses :=
  congrArg (f := State.scrubPasses) (a₁ := sober _) (a₂ := sober s) (sober_kickInstantiate  s)
@[simp] theorem kickInstantiate_scrubLast  (s : State) : (kickInstantiate s).scrubLast = s.scrubLast :=
  congrArg (f := State.scrubLast) (a₁ := sober _) (a₂ := sober s) (sober_kickInstantiate  s)
@[simp] theorem kickInstantiate_scrubPos  (s : State) : (kickInstantiate s).scrubPos = s.scrubPos :=
  congrArg (f := State.scrubPos) (a₁ := sober _) (a₂ := sober s) (sober_kickInstantiate  s)
@[simp] theorem kickInstantiate_bistResult  (s : State) : (kickInstantiate s).bistResult = s.bistResult :=
  congrArg (f := State.bistResult) (a₁ := sober _) (a₂ := sober s) (sober_kickInstantiate  s)
@[simp] theorem kickInstantiate_injWord  (s : State) : (kickInstantiate s).injWord = s.injWord :=
  congrArg (f := State.injWord) (a₁ := sober _) (a₂ := sober s) (sober_kickInstantiate  s)
@[simp] theorem kickInstantiate_injMask  (s : State) : (kickInstantiate s).injMask = s.injMask :=
  congrArg (f := State.injMask) (a₁ := sober _) (a₂ := sober s) (sober_kickInstantiate  s)
@[simp] theorem kickInstantiate_unitResult  (s : State) : (kickInstantiate s).unitResult = s.unitResult :=
  congrArg (f := State.unitResult) (a₁ := sober _) (a₂ := sober s) (sober_kickInstantiate  s)
@[simp] theorem kickInstantiate_logicSig  (s : State) : (kickInstantiate s).logicSig = s.logicSig :=
  congrArg (f := State.logicSig) (a₁ := sober _) (a₂ := sober s) (sober_kickInstantiate  s)
@[simp] theorem kickInstantiate_cfg  (s : State) : (kickInstantiate s).cfg = s.cfg :=
  congrArg (f := State.cfg) (a₁ := sober _) (a₂ := sober s) (sober_kickInstantiate  s)
@[simp] theorem kickInstantiate_commits  (s : State) : (kickInstantiate s).commits = s.commits :=
  congrArg (f := State.commits) (a₁ := sober _) (a₂ := sober s) (sober_kickInstantiate  s)
@[simp] theorem kickInstantiate_lastCommitPort  (s : State) : (kickInstantiate s).lastCommitPort = s.lastCommitPort :=
  congrArg (f := State.lastCommitPort) (a₁ := sober _) (a₂ := sober s) (sober_kickInstantiate  s)
@[simp] theorem kickInstantiate_lastCommitUs  (s : State) : (kickInstantiate s).lastCommitUs = s.lastCommitUs :=
  congrArg (f := State.lastCommitUs) (a₁ := sober _) (a₂ := sober s) (sober_kickInstantiate  s)
@[simp] theorem kickInstantiate_faReads  (s : State) : (kickInstantiate s).faReads = s.faReads :=
  congrArg (f := State.faReads) (a₁ := sober _) (a₂ := sober s) (sober_kickInstantiate  s)
@[simp] theorem kickInstantiate_chans  (s : State) : (kickInstantiate s).chans = s.chans :=
  congrArg (f := State.chans) (a₁ := sober _) (a₂ := sober s) (sober_kickInstantiate  s)
@[simp] theorem kickInstantiate_fallow  (s : State) : (kickInstantiate s).fallow = s.fallow :=
  congrArg (f := State.fallow) (a₁ := sober _) (a₂ := sober s) (sober_kickInstantiate  s)
@[simp] theorem kickInstantiate_hedgerow  (s : State) : (kickInstantiate s).hedgerow = s.hedgerow :=
  congrArg (f := State.hedgerow) (a₁ := sober _) (a₂ := sober s) (sober_kickInstantiate  s)
@[simp] theorem kickInstantiate_hayloft  (s : State) : (kickInstantiate s).hayloft = s.hayloft :=
  congrArg (f := State.hayloft) (a₁ := sober _) (a₂ := sober s) (sober_kickInstantiate  s)
@[simp] theorem kickInstantiate_vault  (s : State) : (kickInstantiate s).vault = s.vault :=
  congrArg (f := State.vault) (a₁ := sober _) (a₂ := sober s) (sober_kickInstantiate  s)
@[simp] theorem kickInstantiate_update  (s : State) : (kickInstantiate s).update = s.update :=
  congrArg (f := State.update) (a₁ := sober _) (a₂ := sober s) (sober_kickInstantiate  s)
@[simp] theorem kickInstantiate_banks  (s : State) : (kickInstantiate s).banks = s.banks :=
  congrArg (f := State.banks) (a₁ := sober _) (a₂ := sober s) (sober_kickInstantiate  s)
@[simp] theorem kickInstantiate_cxs  (s : State) : (kickInstantiate s).cxs = s.cxs :=
  congrArg (f := State.cxs) (a₁ := sober _) (a₂ := sober s) (sober_kickInstantiate  s)
@[simp] theorem kickInstantiate_pke  (s : State) : (kickInstantiate s).pke = s.pke :=
  congrArg (f := State.pke) (a₁ := sober _) (a₂ := sober s) (sober_kickInstantiate  s)
@[simp] theorem kickInstantiate_heath  (s : State) : (kickInstantiate s).heath = s.heath :=
  congrArg (f := State.heath) (a₁ := sober _) (a₂ := sober s) (sober_kickInstantiate  s)
@[simp] theorem kickInstantiate_wd  (s : State) : (kickInstantiate s).wd = s.wd :=
  congrArg (f := State.wd) (a₁ := sober _) (a₂ := sober s) (sober_kickInstantiate  s)
@[simp] theorem kickInstantiate_timers  (s : State) : (kickInstantiate s).timers = s.timers :=
  congrArg (f := State.timers) (a₁ := sober _) (a₂ := sober s) (sober_kickInstantiate  s)
@[simp] theorem kickInstantiate_cus  (s : State) : (kickInstantiate s).cus = s.cus :=
  congrArg (f := State.cus) (a₁ := sober _) (a₂ := sober s) (sober_kickInstantiate  s)
@[simp] theorem kickInstantiate_cuTransients  (s : State) : (kickInstantiate s).cuTransients = s.cuTransients :=
  congrArg (f := State.cuTransients) (a₁ := sober _) (a₂ := sober s) (sober_kickInstantiate  s)
@[simp] theorem kickInstantiate_lc  (s : State) : (kickInstantiate s).lc = s.lc :=
  congrArg (f := State.lc) (a₁ := sober _) (a₂ := sober s) (sober_kickInstantiate  s)
@[simp] theorem kickInstantiate_tap  (s : State) : (kickInstantiate s).tap = s.tap :=
  congrArg (f := State.tap) (a₁ := sober _) (a₂ := sober s) (sober_kickInstantiate  s)
@[simp] theorem kickInstantiate_spdm  (s : State) : (kickInstantiate s).spdm = s.spdm :=
  congrArg (f := State.spdm) (a₁ := sober _) (a₂ := sober s) (sober_kickInstantiate  s)
@[simp] theorem kickInstantiate_mports  (s : State) : (kickInstantiate s).mports = s.mports :=
  congrArg (f := State.mports) (a₁ := sober _) (a₂ := sober s) (sober_kickInstantiate  s)
@[simp] theorem kickInstantiate_ports  (s : State) : (kickInstantiate s).ports = s.ports :=
  congrArg (f := State.ports) (a₁ := sober _) (a₂ := sober s) (sober_kickInstantiate  s)
@[simp] theorem kickInstantiate_steps  (s : State) : (kickInstantiate s).steps = s.steps := ground_steps (kickInstantiate_ground  s)
@[simp] theorem serveWires_pending  (s : State) : (serveWires s).pending = s.pending :=
  congrArg (f := State.pending) (a₁ := sober _) (a₂ := sober s) (sober_serveWires  s)
@[simp] theorem serveWires_freeCount  (s : State) : (serveWires s).freeCount = s.freeCount :=
  congrArg (f := State.freeCount) (a₁ := sober _) (a₂ := sober s) (sober_serveWires  s)
@[simp] theorem serveWires_now  (s : State) : (serveWires s).now = s.now :=
  congrArg (f := State.now) (a₁ := sober _) (a₂ := sober s) (sober_serveWires  s)
@[simp] theorem serveWires_subUs  (s : State) : (serveWires s).subUs = s.subUs :=
  congrArg (f := State.subUs) (a₁ := sober _) (a₂ := sober s) (sober_serveWires  s)
@[simp] theorem serveWires_tbUs  (s : State) : (serveWires s).tbUs = s.tbUs :=
  congrArg (f := State.tbUs) (a₁ := sober _) (a₂ := sober s) (sober_serveWires  s)
@[simp] theorem serveWires_tbEpoch  (s : State) : (serveWires s).tbEpoch = s.tbEpoch :=
  congrArg (f := State.tbEpoch) (a₁ := sober _) (a₂ := sober s) (sober_serveWires  s)
@[simp] theorem serveWires_refclk  (s : State) : (serveWires s).refclk = s.refclk :=
  congrArg (f := State.refclk) (a₁ := sober _) (a₂ := sober s) (sober_serveWires  s)
@[simp] theorem serveWires_pllLock  (s : State) : (serveWires s).pllLock = s.pllLock :=
  congrArg (f := State.pllLock) (a₁ := sober _) (a₂ := sober s) (sober_serveWires  s)
@[simp] theorem serveWires_gapPeriods  (s : State) : (serveWires s).gapPeriods = s.gapPeriods :=
  congrArg (f := State.gapPeriods) (a₁ := sober _) (a₂ := sober s) (sober_serveWires  s)
@[simp] theorem serveWires_refclkLosses  (s : State) : (serveWires s).refclkLosses = s.refclkLosses :=
  congrArg (f := State.refclkLosses) (a₁ := sober _) (a₂ := sober s) (sober_serveWires  s)
@[simp] theorem serveWires_refclkLastGap  (s : State) : (serveWires s).refclkLastGap = s.refclkLastGap :=
  congrArg (f := State.refclkLastGap) (a₁ := sober _) (a₂ := sober s) (sober_serveWires  s)
@[simp] theorem serveWires_porPin  (s : State) : (serveWires s).porPin = s.porPin :=
  congrArg (f := State.porPin) (a₁ := sober _) (a₂ := sober s) (sober_serveWires  s)
@[simp] theorem serveWires_porN  (s : State) : (serveWires s).porN = s.porN :=
  congrArg (f := State.porN) (a₁ := sober _) (a₂ := sober s) (sober_serveWires  s)
@[simp] theorem serveWires_straps  (s : State) : (serveWires s).straps = s.straps :=
  congrArg (f := State.straps) (a₁ := sober _) (a₂ := sober s) (sober_serveWires  s)
@[simp] theorem serveWires_phase  (s : State) : (serveWires s).phase = s.phase :=
  congrArg (f := State.phase) (a₁ := sober _) (a₂ := sober s) (sober_serveWires  s)
@[simp] theorem serveWires_resetCause  (s : State) : (serveWires s).resetCause = s.resetCause :=
  congrArg (f := State.resetCause) (a₁ := sober _) (a₂ := sober s) (sober_serveWires  s)
@[simp] theorem serveWires_rtCopy  (s : State) : (serveWires s).rtCopy = s.rtCopy :=
  congrArg (f := State.rtCopy) (a₁ := sober _) (a₂ := sober s) (sober_serveWires  s)
@[simp] theorem serveWires_deviceResets  (s : State) : (serveWires s).deviceResets = s.deviceResets :=
  congrArg (f := State.deviceResets) (a₁ := sober _) (a₂ := sober s) (sober_serveWires  s)
@[simp] theorem serveWires_coreRestarts  (s : State) : (serveWires s).coreRestarts = s.coreRestarts :=
  congrArg (f := State.coreRestarts) (a₁ := sober _) (a₂ := sober s) (sober_serveWires  s)
@[simp] theorem serveWires_bootAttempts  (s : State) : (serveWires s).bootAttempts = s.bootAttempts :=
  congrArg (f := State.bootAttempts) (a₁ := sober _) (a₂ := sober s) (sober_serveWires  s)
@[simp] theorem serveWires_deviceResetDue  (s : State) : (serveWires s).deviceResetDue = s.deviceResetDue :=
  congrArg (f := State.deviceResetDue) (a₁ := sober _) (a₂ := sober s) (sober_serveWires  s)
@[simp] theorem serveWires_coresDown  (s : State) : (serveWires s).coresDown = s.coresDown :=
  congrArg (f := State.coresDown) (a₁ := sober _) (a₂ := sober s) (sober_serveWires  s)
@[simp] theorem serveWires_coresHeld  (s : State) : (serveWires s).coresHeld = s.coresHeld :=
  congrArg (f := State.coresHeld) (a₁ := sober _) (a₂ := sober s) (sober_serveWires  s)
@[simp] theorem serveWires_coreHealth  (s : State) : (serveWires s).coreHealth = s.coreHealth :=
  congrArg (f := State.coreHealth) (a₁ := sober _) (a₂ := sober s) (sober_serveWires  s)
@[simp] theorem serveWires_halted  (s : State) : (serveWires s).halted = s.halted :=
  congrArg (f := State.halted) (a₁ := sober _) (a₂ := sober s) (sober_serveWires  s)
@[simp] theorem serveWires_mgmtUp  (s : State) : (serveWires s).mgmtUp = s.mgmtUp :=
  congrArg (f := State.mgmtUp) (a₁ := sober _) (a₂ := sober s) (sober_serveWires  s)
@[simp] theorem serveWires_testHonoured  (s : State) : (serveWires s).testHonoured = s.testHonoured :=
  congrArg (f := State.testHonoured) (a₁ := sober _) (a₂ := sober s) (sober_serveWires  s)
@[simp] theorem serveWires_recoveryByRuntime  (s : State) : (serveWires s).recoveryByRuntime = s.recoveryByRuntime :=
  congrArg (f := State.recoveryByRuntime) (a₁ := sober _) (a₂ := sober s) (sober_serveWires  s)
@[simp] theorem serveWires_rtImage  (s : State) : (serveWires s).rtImage = s.rtImage :=
  congrArg (f := State.rtImage) (a₁ := sober _) (a₂ := sober s) (sober_serveWires  s)
@[simp] theorem serveWires_rtInstallResult  (s : State) : (serveWires s).rtInstallResult = s.rtInstallResult :=
  congrArg (f := State.rtInstallResult) (a₁ := sober _) (a₂ := sober s) (sober_serveWires  s)
@[simp] theorem serveWires_rtBuild  (s : State) : (serveWires s).rtBuild = s.rtBuild :=
  congrArg (f := State.rtBuild) (a₁ := sober _) (a₂ := sober s) (sober_serveWires  s)
@[simp] theorem serveWires_rtSvn  (s : State) : (serveWires s).rtSvn = s.rtSvn :=
  congrArg (f := State.rtSvn) (a₁ := sober _) (a₂ := sober s) (sober_serveWires  s)
@[simp] theorem serveWires_rtDigest  (s : State) : (serveWires s).rtDigest = s.rtDigest :=
  congrArg (f := State.rtDigest) (a₁ := sober _) (a₂ := sober s) (sober_serveWires  s)
@[simp] theorem serveWires_katResults  (s : State) : (serveWires s).katResults = s.katResults :=
  congrArg (f := State.katResults) (a₁ := sober _) (a₂ := sober s) (sober_serveWires  s)
@[simp] theorem serveWires_digestHealth  (s : State) : (serveWires s).digestHealth = s.digestHealth :=
  congrArg (f := State.digestHealth) (a₁ := sober _) (a₂ := sober s) (sober_serveWires  s)
@[simp] theorem serveWires_dgTransients  (s : State) : (serveWires s).dgTransients = s.dgTransients :=
  congrArg (f := State.dgTransients) (a₁ := sober _) (a₂ := sober s) (sober_serveWires  s)
@[simp] theorem serveWires_cipherHealth  (s : State) : (serveWires s).cipherHealth = s.cipherHealth :=
  congrArg (f := State.cipherHealth) (a₁ := sober _) (a₂ := sober s) (sober_serveWires  s)
@[simp] theorem serveWires_cxTransients  (s : State) : (serveWires s).cxTransients = s.cxTransients :=
  congrArg (f := State.cxTransients) (a₁ := sober _) (a₂ := sober s) (sober_serveWires  s)
@[simp] theorem serveWires_freshAtHeath  (s : State) : (serveWires s).freshAtHeath = s.freshAtHeath :=
  congrArg (f := State.freshAtHeath) (a₁ := sober _) (a₂ := sober s) (sober_serveWires  s)
@[simp] theorem serveWires_pacePs  (s : State) : (serveWires s).pacePs = s.pacePs :=
  congrArg (f := State.pacePs) (a₁ := sober _) (a₂ := sober s) (sober_serveWires  s)
@[simp] theorem serveWires_paceMaxPs  (s : State) : (serveWires s).paceMaxPs = s.paceMaxPs :=
  congrArg (f := State.paceMaxPs) (a₁ := sober _) (a₂ := sober s) (sober_serveWires  s)
@[simp] theorem serveWires_paceArmed  (s : State) : (serveWires s).paceArmed = s.paceArmed :=
  congrArg (f := State.paceArmed) (a₁ := sober _) (a₂ := sober s) (sober_serveWires  s)
@[simp] theorem serveWires_tj  (s : State) : (serveWires s).tj = s.tj :=
  congrArg (f := State.tj) (a₁ := sober _) (a₂ := sober s) (sober_serveWires  s)
@[simp] theorem serveWires_tjMax  (s : State) : (serveWires s).tjMax = s.tjMax :=
  congrArg (f := State.tjMax) (a₁ := sober _) (a₂ := sober s) (sober_serveWires  s)
@[simp] theorem serveWires_railMv  (s : State) : (serveWires s).railMv = s.railMv :=
  congrArg (f := State.railMv) (a₁ := sober _) (a₂ := sober s) (sober_serveWires  s)
@[simp] theorem serveWires_railMin  (s : State) : (serveWires s).railMin = s.railMin :=
  congrArg (f := State.railMin) (a₁ := sober _) (a₂ := sober s) (sober_serveWires  s)
@[simp] theorem serveWires_railMax  (s : State) : (serveWires s).railMax = s.railMax :=
  congrArg (f := State.railMax) (a₁ := sober _) (a₂ := sober s) (sober_serveWires  s)
@[simp] theorem serveWires_secCount  (s : State) : (serveWires s).secCount = s.secCount :=
  congrArg (f := State.secCount) (a₁ := sober _) (a₂ := sober s) (sober_serveWires  s)
@[simp] theorem serveWires_dedCount  (s : State) : (serveWires s).dedCount = s.dedCount :=
  congrArg (f := State.dedCount) (a₁ := sober _) (a₂ := sober s) (sober_serveWires  s)
@[simp] theorem serveWires_scrubPasses  (s : State) : (serveWires s).scrubPasses = s.scrubPasses :=
  congrArg (f := State.scrubPasses) (a₁ := sober _) (a₂ := sober s) (sober_serveWires  s)
@[simp] theorem serveWires_scrubLast  (s : State) : (serveWires s).scrubLast = s.scrubLast :=
  congrArg (f := State.scrubLast) (a₁ := sober _) (a₂ := sober s) (sober_serveWires  s)
@[simp] theorem serveWires_scrubPos  (s : State) : (serveWires s).scrubPos = s.scrubPos :=
  congrArg (f := State.scrubPos) (a₁ := sober _) (a₂ := sober s) (sober_serveWires  s)
@[simp] theorem serveWires_bistResult  (s : State) : (serveWires s).bistResult = s.bistResult :=
  congrArg (f := State.bistResult) (a₁ := sober _) (a₂ := sober s) (sober_serveWires  s)
@[simp] theorem serveWires_injWord  (s : State) : (serveWires s).injWord = s.injWord :=
  congrArg (f := State.injWord) (a₁ := sober _) (a₂ := sober s) (sober_serveWires  s)
@[simp] theorem serveWires_injMask  (s : State) : (serveWires s).injMask = s.injMask :=
  congrArg (f := State.injMask) (a₁ := sober _) (a₂ := sober s) (sober_serveWires  s)
@[simp] theorem serveWires_unitResult  (s : State) : (serveWires s).unitResult = s.unitResult :=
  congrArg (f := State.unitResult) (a₁ := sober _) (a₂ := sober s) (sober_serveWires  s)
@[simp] theorem serveWires_logicSig  (s : State) : (serveWires s).logicSig = s.logicSig :=
  congrArg (f := State.logicSig) (a₁ := sober _) (a₂ := sober s) (sober_serveWires  s)
@[simp] theorem serveWires_cfg  (s : State) : (serveWires s).cfg = s.cfg :=
  congrArg (f := State.cfg) (a₁ := sober _) (a₂ := sober s) (sober_serveWires  s)
@[simp] theorem serveWires_commits  (s : State) : (serveWires s).commits = s.commits :=
  congrArg (f := State.commits) (a₁ := sober _) (a₂ := sober s) (sober_serveWires  s)
@[simp] theorem serveWires_lastCommitPort  (s : State) : (serveWires s).lastCommitPort = s.lastCommitPort :=
  congrArg (f := State.lastCommitPort) (a₁ := sober _) (a₂ := sober s) (sober_serveWires  s)
@[simp] theorem serveWires_lastCommitUs  (s : State) : (serveWires s).lastCommitUs = s.lastCommitUs :=
  congrArg (f := State.lastCommitUs) (a₁ := sober _) (a₂ := sober s) (sober_serveWires  s)
@[simp] theorem serveWires_faReads  (s : State) : (serveWires s).faReads = s.faReads :=
  congrArg (f := State.faReads) (a₁ := sober _) (a₂ := sober s) (sober_serveWires  s)
@[simp] theorem serveWires_chans  (s : State) : (serveWires s).chans = s.chans :=
  congrArg (f := State.chans) (a₁ := sober _) (a₂ := sober s) (sober_serveWires  s)
@[simp] theorem serveWires_fallow  (s : State) : (serveWires s).fallow = s.fallow :=
  congrArg (f := State.fallow) (a₁ := sober _) (a₂ := sober s) (sober_serveWires  s)
@[simp] theorem serveWires_hedgerow  (s : State) : (serveWires s).hedgerow = s.hedgerow :=
  congrArg (f := State.hedgerow) (a₁ := sober _) (a₂ := sober s) (sober_serveWires  s)
@[simp] theorem serveWires_hayloft  (s : State) : (serveWires s).hayloft = s.hayloft :=
  congrArg (f := State.hayloft) (a₁ := sober _) (a₂ := sober s) (sober_serveWires  s)
@[simp] theorem serveWires_vault  (s : State) : (serveWires s).vault = s.vault :=
  congrArg (f := State.vault) (a₁ := sober _) (a₂ := sober s) (sober_serveWires  s)
@[simp] theorem serveWires_update  (s : State) : (serveWires s).update = s.update :=
  congrArg (f := State.update) (a₁ := sober _) (a₂ := sober s) (sober_serveWires  s)
@[simp] theorem serveWires_banks  (s : State) : (serveWires s).banks = s.banks :=
  congrArg (f := State.banks) (a₁ := sober _) (a₂ := sober s) (sober_serveWires  s)
@[simp] theorem serveWires_cxs  (s : State) : (serveWires s).cxs = s.cxs :=
  congrArg (f := State.cxs) (a₁ := sober _) (a₂ := sober s) (sober_serveWires  s)
@[simp] theorem serveWires_pke  (s : State) : (serveWires s).pke = s.pke :=
  congrArg (f := State.pke) (a₁ := sober _) (a₂ := sober s) (sober_serveWires  s)
@[simp] theorem serveWires_heath  (s : State) : (serveWires s).heath = s.heath :=
  congrArg (f := State.heath) (a₁ := sober _) (a₂ := sober s) (sober_serveWires  s)
@[simp] theorem serveWires_wd  (s : State) : (serveWires s).wd = s.wd :=
  congrArg (f := State.wd) (a₁ := sober _) (a₂ := sober s) (sober_serveWires  s)
@[simp] theorem serveWires_timers  (s : State) : (serveWires s).timers = s.timers :=
  congrArg (f := State.timers) (a₁ := sober _) (a₂ := sober s) (sober_serveWires  s)
@[simp] theorem serveWires_cus  (s : State) : (serveWires s).cus = s.cus :=
  congrArg (f := State.cus) (a₁ := sober _) (a₂ := sober s) (sober_serveWires  s)
@[simp] theorem serveWires_cuTransients  (s : State) : (serveWires s).cuTransients = s.cuTransients :=
  congrArg (f := State.cuTransients) (a₁ := sober _) (a₂ := sober s) (sober_serveWires  s)
@[simp] theorem serveWires_lc  (s : State) : (serveWires s).lc = s.lc :=
  congrArg (f := State.lc) (a₁ := sober _) (a₂ := sober s) (sober_serveWires  s)
@[simp] theorem serveWires_tap  (s : State) : (serveWires s).tap = s.tap :=
  congrArg (f := State.tap) (a₁ := sober _) (a₂ := sober s) (sober_serveWires  s)
@[simp] theorem serveWires_spdm  (s : State) : (serveWires s).spdm = s.spdm :=
  congrArg (f := State.spdm) (a₁ := sober _) (a₂ := sober s) (sober_serveWires  s)
@[simp] theorem serveWires_mports  (s : State) : (serveWires s).mports = s.mports :=
  congrArg (f := State.mports) (a₁ := sober _) (a₂ := sober s) (sober_serveWires  s)
@[simp] theorem serveWires_ports  (s : State) : (serveWires s).ports = s.ports :=
  congrArg (f := State.ports) (a₁ := sober _) (a₂ := sober s) (sober_serveWires  s)
@[simp] theorem serveWires_steps  (s : State) : (serveWires s).steps = s.steps := ground_steps (serveWires_ground  s)
@[simp] theorem assignWindow_pending (w : List Byte) (s : State) : (assignWindow w s).pending = s.pending :=
  congrArg (f := State.pending) (a₁ := sober _) (a₂ := sober s) (sober_assignWindow w s)
@[simp] theorem assignWindow_freeCount (w : List Byte) (s : State) : (assignWindow w s).freeCount = s.freeCount :=
  congrArg (f := State.freeCount) (a₁ := sober _) (a₂ := sober s) (sober_assignWindow w s)
@[simp] theorem assignWindow_now (w : List Byte) (s : State) : (assignWindow w s).now = s.now :=
  congrArg (f := State.now) (a₁ := sober _) (a₂ := sober s) (sober_assignWindow w s)
@[simp] theorem assignWindow_subUs (w : List Byte) (s : State) : (assignWindow w s).subUs = s.subUs :=
  congrArg (f := State.subUs) (a₁ := sober _) (a₂ := sober s) (sober_assignWindow w s)
@[simp] theorem assignWindow_tbUs (w : List Byte) (s : State) : (assignWindow w s).tbUs = s.tbUs :=
  congrArg (f := State.tbUs) (a₁ := sober _) (a₂ := sober s) (sober_assignWindow w s)
@[simp] theorem assignWindow_tbEpoch (w : List Byte) (s : State) : (assignWindow w s).tbEpoch = s.tbEpoch :=
  congrArg (f := State.tbEpoch) (a₁ := sober _) (a₂ := sober s) (sober_assignWindow w s)
@[simp] theorem assignWindow_refclk (w : List Byte) (s : State) : (assignWindow w s).refclk = s.refclk :=
  congrArg (f := State.refclk) (a₁ := sober _) (a₂ := sober s) (sober_assignWindow w s)
@[simp] theorem assignWindow_pllLock (w : List Byte) (s : State) : (assignWindow w s).pllLock = s.pllLock :=
  congrArg (f := State.pllLock) (a₁ := sober _) (a₂ := sober s) (sober_assignWindow w s)
@[simp] theorem assignWindow_gapPeriods (w : List Byte) (s : State) : (assignWindow w s).gapPeriods = s.gapPeriods :=
  congrArg (f := State.gapPeriods) (a₁ := sober _) (a₂ := sober s) (sober_assignWindow w s)
@[simp] theorem assignWindow_refclkLosses (w : List Byte) (s : State) : (assignWindow w s).refclkLosses = s.refclkLosses :=
  congrArg (f := State.refclkLosses) (a₁ := sober _) (a₂ := sober s) (sober_assignWindow w s)
@[simp] theorem assignWindow_refclkLastGap (w : List Byte) (s : State) : (assignWindow w s).refclkLastGap = s.refclkLastGap :=
  congrArg (f := State.refclkLastGap) (a₁ := sober _) (a₂ := sober s) (sober_assignWindow w s)
@[simp] theorem assignWindow_porPin (w : List Byte) (s : State) : (assignWindow w s).porPin = s.porPin :=
  congrArg (f := State.porPin) (a₁ := sober _) (a₂ := sober s) (sober_assignWindow w s)
@[simp] theorem assignWindow_porN (w : List Byte) (s : State) : (assignWindow w s).porN = s.porN :=
  congrArg (f := State.porN) (a₁ := sober _) (a₂ := sober s) (sober_assignWindow w s)
@[simp] theorem assignWindow_straps (w : List Byte) (s : State) : (assignWindow w s).straps = s.straps :=
  congrArg (f := State.straps) (a₁ := sober _) (a₂ := sober s) (sober_assignWindow w s)
@[simp] theorem assignWindow_phase (w : List Byte) (s : State) : (assignWindow w s).phase = s.phase :=
  congrArg (f := State.phase) (a₁ := sober _) (a₂ := sober s) (sober_assignWindow w s)
@[simp] theorem assignWindow_resetCause (w : List Byte) (s : State) : (assignWindow w s).resetCause = s.resetCause :=
  congrArg (f := State.resetCause) (a₁ := sober _) (a₂ := sober s) (sober_assignWindow w s)
@[simp] theorem assignWindow_rtCopy (w : List Byte) (s : State) : (assignWindow w s).rtCopy = s.rtCopy :=
  congrArg (f := State.rtCopy) (a₁ := sober _) (a₂ := sober s) (sober_assignWindow w s)
@[simp] theorem assignWindow_deviceResets (w : List Byte) (s : State) : (assignWindow w s).deviceResets = s.deviceResets :=
  congrArg (f := State.deviceResets) (a₁ := sober _) (a₂ := sober s) (sober_assignWindow w s)
@[simp] theorem assignWindow_coreRestarts (w : List Byte) (s : State) : (assignWindow w s).coreRestarts = s.coreRestarts :=
  congrArg (f := State.coreRestarts) (a₁ := sober _) (a₂ := sober s) (sober_assignWindow w s)
@[simp] theorem assignWindow_bootAttempts (w : List Byte) (s : State) : (assignWindow w s).bootAttempts = s.bootAttempts :=
  congrArg (f := State.bootAttempts) (a₁ := sober _) (a₂ := sober s) (sober_assignWindow w s)
@[simp] theorem assignWindow_deviceResetDue (w : List Byte) (s : State) : (assignWindow w s).deviceResetDue = s.deviceResetDue :=
  congrArg (f := State.deviceResetDue) (a₁ := sober _) (a₂ := sober s) (sober_assignWindow w s)
@[simp] theorem assignWindow_coresDown (w : List Byte) (s : State) : (assignWindow w s).coresDown = s.coresDown :=
  congrArg (f := State.coresDown) (a₁ := sober _) (a₂ := sober s) (sober_assignWindow w s)
@[simp] theorem assignWindow_coresHeld (w : List Byte) (s : State) : (assignWindow w s).coresHeld = s.coresHeld :=
  congrArg (f := State.coresHeld) (a₁ := sober _) (a₂ := sober s) (sober_assignWindow w s)
@[simp] theorem assignWindow_coreHealth (w : List Byte) (s : State) : (assignWindow w s).coreHealth = s.coreHealth :=
  congrArg (f := State.coreHealth) (a₁ := sober _) (a₂ := sober s) (sober_assignWindow w s)
@[simp] theorem assignWindow_halted (w : List Byte) (s : State) : (assignWindow w s).halted = s.halted :=
  congrArg (f := State.halted) (a₁ := sober _) (a₂ := sober s) (sober_assignWindow w s)
@[simp] theorem assignWindow_mgmtUp (w : List Byte) (s : State) : (assignWindow w s).mgmtUp = s.mgmtUp :=
  congrArg (f := State.mgmtUp) (a₁ := sober _) (a₂ := sober s) (sober_assignWindow w s)
@[simp] theorem assignWindow_testHonoured (w : List Byte) (s : State) : (assignWindow w s).testHonoured = s.testHonoured :=
  congrArg (f := State.testHonoured) (a₁ := sober _) (a₂ := sober s) (sober_assignWindow w s)
@[simp] theorem assignWindow_recoveryByRuntime (w : List Byte) (s : State) : (assignWindow w s).recoveryByRuntime = s.recoveryByRuntime :=
  congrArg (f := State.recoveryByRuntime) (a₁ := sober _) (a₂ := sober s) (sober_assignWindow w s)
@[simp] theorem assignWindow_rtImage (w : List Byte) (s : State) : (assignWindow w s).rtImage = s.rtImage :=
  congrArg (f := State.rtImage) (a₁ := sober _) (a₂ := sober s) (sober_assignWindow w s)
@[simp] theorem assignWindow_rtInstallResult (w : List Byte) (s : State) : (assignWindow w s).rtInstallResult = s.rtInstallResult :=
  congrArg (f := State.rtInstallResult) (a₁ := sober _) (a₂ := sober s) (sober_assignWindow w s)
@[simp] theorem assignWindow_rtBuild (w : List Byte) (s : State) : (assignWindow w s).rtBuild = s.rtBuild :=
  congrArg (f := State.rtBuild) (a₁ := sober _) (a₂ := sober s) (sober_assignWindow w s)
@[simp] theorem assignWindow_rtSvn (w : List Byte) (s : State) : (assignWindow w s).rtSvn = s.rtSvn :=
  congrArg (f := State.rtSvn) (a₁ := sober _) (a₂ := sober s) (sober_assignWindow w s)
@[simp] theorem assignWindow_rtDigest (w : List Byte) (s : State) : (assignWindow w s).rtDigest = s.rtDigest :=
  congrArg (f := State.rtDigest) (a₁ := sober _) (a₂ := sober s) (sober_assignWindow w s)
@[simp] theorem assignWindow_katResults (w : List Byte) (s : State) : (assignWindow w s).katResults = s.katResults :=
  congrArg (f := State.katResults) (a₁ := sober _) (a₂ := sober s) (sober_assignWindow w s)
@[simp] theorem assignWindow_digestHealth (w : List Byte) (s : State) : (assignWindow w s).digestHealth = s.digestHealth :=
  congrArg (f := State.digestHealth) (a₁ := sober _) (a₂ := sober s) (sober_assignWindow w s)
@[simp] theorem assignWindow_dgTransients (w : List Byte) (s : State) : (assignWindow w s).dgTransients = s.dgTransients :=
  congrArg (f := State.dgTransients) (a₁ := sober _) (a₂ := sober s) (sober_assignWindow w s)
@[simp] theorem assignWindow_cipherHealth (w : List Byte) (s : State) : (assignWindow w s).cipherHealth = s.cipherHealth :=
  congrArg (f := State.cipherHealth) (a₁ := sober _) (a₂ := sober s) (sober_assignWindow w s)
@[simp] theorem assignWindow_cxTransients (w : List Byte) (s : State) : (assignWindow w s).cxTransients = s.cxTransients :=
  congrArg (f := State.cxTransients) (a₁ := sober _) (a₂ := sober s) (sober_assignWindow w s)
@[simp] theorem assignWindow_freshAtHeath (w : List Byte) (s : State) : (assignWindow w s).freshAtHeath = s.freshAtHeath :=
  congrArg (f := State.freshAtHeath) (a₁ := sober _) (a₂ := sober s) (sober_assignWindow w s)
@[simp] theorem assignWindow_pacePs (w : List Byte) (s : State) : (assignWindow w s).pacePs = s.pacePs :=
  congrArg (f := State.pacePs) (a₁ := sober _) (a₂ := sober s) (sober_assignWindow w s)
@[simp] theorem assignWindow_paceMaxPs (w : List Byte) (s : State) : (assignWindow w s).paceMaxPs = s.paceMaxPs :=
  congrArg (f := State.paceMaxPs) (a₁ := sober _) (a₂ := sober s) (sober_assignWindow w s)
@[simp] theorem assignWindow_paceArmed (w : List Byte) (s : State) : (assignWindow w s).paceArmed = s.paceArmed :=
  congrArg (f := State.paceArmed) (a₁ := sober _) (a₂ := sober s) (sober_assignWindow w s)
@[simp] theorem assignWindow_tj (w : List Byte) (s : State) : (assignWindow w s).tj = s.tj :=
  congrArg (f := State.tj) (a₁ := sober _) (a₂ := sober s) (sober_assignWindow w s)
@[simp] theorem assignWindow_tjMax (w : List Byte) (s : State) : (assignWindow w s).tjMax = s.tjMax :=
  congrArg (f := State.tjMax) (a₁ := sober _) (a₂ := sober s) (sober_assignWindow w s)
@[simp] theorem assignWindow_railMv (w : List Byte) (s : State) : (assignWindow w s).railMv = s.railMv :=
  congrArg (f := State.railMv) (a₁ := sober _) (a₂ := sober s) (sober_assignWindow w s)
@[simp] theorem assignWindow_railMin (w : List Byte) (s : State) : (assignWindow w s).railMin = s.railMin :=
  congrArg (f := State.railMin) (a₁ := sober _) (a₂ := sober s) (sober_assignWindow w s)
@[simp] theorem assignWindow_railMax (w : List Byte) (s : State) : (assignWindow w s).railMax = s.railMax :=
  congrArg (f := State.railMax) (a₁ := sober _) (a₂ := sober s) (sober_assignWindow w s)
@[simp] theorem assignWindow_secCount (w : List Byte) (s : State) : (assignWindow w s).secCount = s.secCount :=
  congrArg (f := State.secCount) (a₁ := sober _) (a₂ := sober s) (sober_assignWindow w s)
@[simp] theorem assignWindow_dedCount (w : List Byte) (s : State) : (assignWindow w s).dedCount = s.dedCount :=
  congrArg (f := State.dedCount) (a₁ := sober _) (a₂ := sober s) (sober_assignWindow w s)
@[simp] theorem assignWindow_scrubPasses (w : List Byte) (s : State) : (assignWindow w s).scrubPasses = s.scrubPasses :=
  congrArg (f := State.scrubPasses) (a₁ := sober _) (a₂ := sober s) (sober_assignWindow w s)
@[simp] theorem assignWindow_scrubLast (w : List Byte) (s : State) : (assignWindow w s).scrubLast = s.scrubLast :=
  congrArg (f := State.scrubLast) (a₁ := sober _) (a₂ := sober s) (sober_assignWindow w s)
@[simp] theorem assignWindow_scrubPos (w : List Byte) (s : State) : (assignWindow w s).scrubPos = s.scrubPos :=
  congrArg (f := State.scrubPos) (a₁ := sober _) (a₂ := sober s) (sober_assignWindow w s)
@[simp] theorem assignWindow_bistResult (w : List Byte) (s : State) : (assignWindow w s).bistResult = s.bistResult :=
  congrArg (f := State.bistResult) (a₁ := sober _) (a₂ := sober s) (sober_assignWindow w s)
@[simp] theorem assignWindow_injWord (w : List Byte) (s : State) : (assignWindow w s).injWord = s.injWord :=
  congrArg (f := State.injWord) (a₁ := sober _) (a₂ := sober s) (sober_assignWindow w s)
@[simp] theorem assignWindow_injMask (w : List Byte) (s : State) : (assignWindow w s).injMask = s.injMask :=
  congrArg (f := State.injMask) (a₁ := sober _) (a₂ := sober s) (sober_assignWindow w s)
@[simp] theorem assignWindow_unitResult (w : List Byte) (s : State) : (assignWindow w s).unitResult = s.unitResult :=
  congrArg (f := State.unitResult) (a₁ := sober _) (a₂ := sober s) (sober_assignWindow w s)
@[simp] theorem assignWindow_logicSig (w : List Byte) (s : State) : (assignWindow w s).logicSig = s.logicSig :=
  congrArg (f := State.logicSig) (a₁ := sober _) (a₂ := sober s) (sober_assignWindow w s)
@[simp] theorem assignWindow_cfg (w : List Byte) (s : State) : (assignWindow w s).cfg = s.cfg :=
  congrArg (f := State.cfg) (a₁ := sober _) (a₂ := sober s) (sober_assignWindow w s)
@[simp] theorem assignWindow_commits (w : List Byte) (s : State) : (assignWindow w s).commits = s.commits :=
  congrArg (f := State.commits) (a₁ := sober _) (a₂ := sober s) (sober_assignWindow w s)
@[simp] theorem assignWindow_lastCommitPort (w : List Byte) (s : State) : (assignWindow w s).lastCommitPort = s.lastCommitPort :=
  congrArg (f := State.lastCommitPort) (a₁ := sober _) (a₂ := sober s) (sober_assignWindow w s)
@[simp] theorem assignWindow_lastCommitUs (w : List Byte) (s : State) : (assignWindow w s).lastCommitUs = s.lastCommitUs :=
  congrArg (f := State.lastCommitUs) (a₁ := sober _) (a₂ := sober s) (sober_assignWindow w s)
@[simp] theorem assignWindow_faReads (w : List Byte) (s : State) : (assignWindow w s).faReads = s.faReads :=
  congrArg (f := State.faReads) (a₁ := sober _) (a₂ := sober s) (sober_assignWindow w s)
@[simp] theorem assignWindow_chans (w : List Byte) (s : State) : (assignWindow w s).chans = s.chans :=
  congrArg (f := State.chans) (a₁ := sober _) (a₂ := sober s) (sober_assignWindow w s)
@[simp] theorem assignWindow_fallow (w : List Byte) (s : State) : (assignWindow w s).fallow = s.fallow :=
  congrArg (f := State.fallow) (a₁ := sober _) (a₂ := sober s) (sober_assignWindow w s)
@[simp] theorem assignWindow_hedgerow (w : List Byte) (s : State) : (assignWindow w s).hedgerow = s.hedgerow :=
  congrArg (f := State.hedgerow) (a₁ := sober _) (a₂ := sober s) (sober_assignWindow w s)
@[simp] theorem assignWindow_hayloft (w : List Byte) (s : State) : (assignWindow w s).hayloft = s.hayloft :=
  congrArg (f := State.hayloft) (a₁ := sober _) (a₂ := sober s) (sober_assignWindow w s)
@[simp] theorem assignWindow_vault (w : List Byte) (s : State) : (assignWindow w s).vault = s.vault :=
  congrArg (f := State.vault) (a₁ := sober _) (a₂ := sober s) (sober_assignWindow w s)
@[simp] theorem assignWindow_update (w : List Byte) (s : State) : (assignWindow w s).update = s.update :=
  congrArg (f := State.update) (a₁ := sober _) (a₂ := sober s) (sober_assignWindow w s)
@[simp] theorem assignWindow_banks (w : List Byte) (s : State) : (assignWindow w s).banks = s.banks :=
  congrArg (f := State.banks) (a₁ := sober _) (a₂ := sober s) (sober_assignWindow w s)
@[simp] theorem assignWindow_cxs (w : List Byte) (s : State) : (assignWindow w s).cxs = s.cxs :=
  congrArg (f := State.cxs) (a₁ := sober _) (a₂ := sober s) (sober_assignWindow w s)
@[simp] theorem assignWindow_pke (w : List Byte) (s : State) : (assignWindow w s).pke = s.pke :=
  congrArg (f := State.pke) (a₁ := sober _) (a₂ := sober s) (sober_assignWindow w s)
@[simp] theorem assignWindow_heath (w : List Byte) (s : State) : (assignWindow w s).heath = s.heath :=
  congrArg (f := State.heath) (a₁ := sober _) (a₂ := sober s) (sober_assignWindow w s)
@[simp] theorem assignWindow_wd (w : List Byte) (s : State) : (assignWindow w s).wd = s.wd :=
  congrArg (f := State.wd) (a₁ := sober _) (a₂ := sober s) (sober_assignWindow w s)
@[simp] theorem assignWindow_timers (w : List Byte) (s : State) : (assignWindow w s).timers = s.timers :=
  congrArg (f := State.timers) (a₁ := sober _) (a₂ := sober s) (sober_assignWindow w s)
@[simp] theorem assignWindow_cus (w : List Byte) (s : State) : (assignWindow w s).cus = s.cus :=
  congrArg (f := State.cus) (a₁ := sober _) (a₂ := sober s) (sober_assignWindow w s)
@[simp] theorem assignWindow_cuTransients (w : List Byte) (s : State) : (assignWindow w s).cuTransients = s.cuTransients :=
  congrArg (f := State.cuTransients) (a₁ := sober _) (a₂ := sober s) (sober_assignWindow w s)
@[simp] theorem assignWindow_lc (w : List Byte) (s : State) : (assignWindow w s).lc = s.lc :=
  congrArg (f := State.lc) (a₁ := sober _) (a₂ := sober s) (sober_assignWindow w s)
@[simp] theorem assignWindow_tap (w : List Byte) (s : State) : (assignWindow w s).tap = s.tap :=
  congrArg (f := State.tap) (a₁ := sober _) (a₂ := sober s) (sober_assignWindow w s)
@[simp] theorem assignWindow_spdm (w : List Byte) (s : State) : (assignWindow w s).spdm = s.spdm :=
  congrArg (f := State.spdm) (a₁ := sober _) (a₂ := sober s) (sober_assignWindow w s)
@[simp] theorem assignWindow_mports (w : List Byte) (s : State) : (assignWindow w s).mports = s.mports :=
  congrArg (f := State.mports) (a₁ := sober _) (a₂ := sober s) (sober_assignWindow w s)
@[simp] theorem assignWindow_ports (w : List Byte) (s : State) : (assignWindow w s).ports = s.ports :=
  congrArg (f := State.ports) (a₁ := sober _) (a₂ := sober s) (sober_assignWindow w s)
@[simp] theorem assignWindow_steps (w : List Byte) (s : State) : (assignWindow w s).steps = s.steps := ground_steps (assignWindow_ground w s)
@[simp] theorem sourceAlarm_pending (i : Nat) (a : Bool) (s : State) : (sourceAlarm i a s).pending = s.pending :=
  congrArg (f := State.pending) (a₁ := sober _) (a₂ := sober s) (sober_sourceAlarm i a s)
@[simp] theorem sourceAlarm_freeCount (i : Nat) (a : Bool) (s : State) : (sourceAlarm i a s).freeCount = s.freeCount :=
  congrArg (f := State.freeCount) (a₁ := sober _) (a₂ := sober s) (sober_sourceAlarm i a s)
@[simp] theorem sourceAlarm_now (i : Nat) (a : Bool) (s : State) : (sourceAlarm i a s).now = s.now :=
  congrArg (f := State.now) (a₁ := sober _) (a₂ := sober s) (sober_sourceAlarm i a s)
@[simp] theorem sourceAlarm_subUs (i : Nat) (a : Bool) (s : State) : (sourceAlarm i a s).subUs = s.subUs :=
  congrArg (f := State.subUs) (a₁ := sober _) (a₂ := sober s) (sober_sourceAlarm i a s)
@[simp] theorem sourceAlarm_tbUs (i : Nat) (a : Bool) (s : State) : (sourceAlarm i a s).tbUs = s.tbUs :=
  congrArg (f := State.tbUs) (a₁ := sober _) (a₂ := sober s) (sober_sourceAlarm i a s)
@[simp] theorem sourceAlarm_tbEpoch (i : Nat) (a : Bool) (s : State) : (sourceAlarm i a s).tbEpoch = s.tbEpoch :=
  congrArg (f := State.tbEpoch) (a₁ := sober _) (a₂ := sober s) (sober_sourceAlarm i a s)
@[simp] theorem sourceAlarm_refclk (i : Nat) (a : Bool) (s : State) : (sourceAlarm i a s).refclk = s.refclk :=
  congrArg (f := State.refclk) (a₁ := sober _) (a₂ := sober s) (sober_sourceAlarm i a s)
@[simp] theorem sourceAlarm_pllLock (i : Nat) (a : Bool) (s : State) : (sourceAlarm i a s).pllLock = s.pllLock :=
  congrArg (f := State.pllLock) (a₁ := sober _) (a₂ := sober s) (sober_sourceAlarm i a s)
@[simp] theorem sourceAlarm_gapPeriods (i : Nat) (a : Bool) (s : State) : (sourceAlarm i a s).gapPeriods = s.gapPeriods :=
  congrArg (f := State.gapPeriods) (a₁ := sober _) (a₂ := sober s) (sober_sourceAlarm i a s)
@[simp] theorem sourceAlarm_refclkLosses (i : Nat) (a : Bool) (s : State) : (sourceAlarm i a s).refclkLosses = s.refclkLosses :=
  congrArg (f := State.refclkLosses) (a₁ := sober _) (a₂ := sober s) (sober_sourceAlarm i a s)
@[simp] theorem sourceAlarm_refclkLastGap (i : Nat) (a : Bool) (s : State) : (sourceAlarm i a s).refclkLastGap = s.refclkLastGap :=
  congrArg (f := State.refclkLastGap) (a₁ := sober _) (a₂ := sober s) (sober_sourceAlarm i a s)
@[simp] theorem sourceAlarm_porPin (i : Nat) (a : Bool) (s : State) : (sourceAlarm i a s).porPin = s.porPin :=
  congrArg (f := State.porPin) (a₁ := sober _) (a₂ := sober s) (sober_sourceAlarm i a s)
@[simp] theorem sourceAlarm_porN (i : Nat) (a : Bool) (s : State) : (sourceAlarm i a s).porN = s.porN :=
  congrArg (f := State.porN) (a₁ := sober _) (a₂ := sober s) (sober_sourceAlarm i a s)
@[simp] theorem sourceAlarm_straps (i : Nat) (a : Bool) (s : State) : (sourceAlarm i a s).straps = s.straps :=
  congrArg (f := State.straps) (a₁ := sober _) (a₂ := sober s) (sober_sourceAlarm i a s)
@[simp] theorem sourceAlarm_phase (i : Nat) (a : Bool) (s : State) : (sourceAlarm i a s).phase = s.phase :=
  congrArg (f := State.phase) (a₁ := sober _) (a₂ := sober s) (sober_sourceAlarm i a s)
@[simp] theorem sourceAlarm_resetCause (i : Nat) (a : Bool) (s : State) : (sourceAlarm i a s).resetCause = s.resetCause :=
  congrArg (f := State.resetCause) (a₁ := sober _) (a₂ := sober s) (sober_sourceAlarm i a s)
@[simp] theorem sourceAlarm_rtCopy (i : Nat) (a : Bool) (s : State) : (sourceAlarm i a s).rtCopy = s.rtCopy :=
  congrArg (f := State.rtCopy) (a₁ := sober _) (a₂ := sober s) (sober_sourceAlarm i a s)
@[simp] theorem sourceAlarm_deviceResets (i : Nat) (a : Bool) (s : State) : (sourceAlarm i a s).deviceResets = s.deviceResets :=
  congrArg (f := State.deviceResets) (a₁ := sober _) (a₂ := sober s) (sober_sourceAlarm i a s)
@[simp] theorem sourceAlarm_coreRestarts (i : Nat) (a : Bool) (s : State) : (sourceAlarm i a s).coreRestarts = s.coreRestarts :=
  congrArg (f := State.coreRestarts) (a₁ := sober _) (a₂ := sober s) (sober_sourceAlarm i a s)
@[simp] theorem sourceAlarm_bootAttempts (i : Nat) (a : Bool) (s : State) : (sourceAlarm i a s).bootAttempts = s.bootAttempts :=
  congrArg (f := State.bootAttempts) (a₁ := sober _) (a₂ := sober s) (sober_sourceAlarm i a s)
@[simp] theorem sourceAlarm_deviceResetDue (i : Nat) (a : Bool) (s : State) : (sourceAlarm i a s).deviceResetDue = s.deviceResetDue :=
  congrArg (f := State.deviceResetDue) (a₁ := sober _) (a₂ := sober s) (sober_sourceAlarm i a s)
@[simp] theorem sourceAlarm_coresDown (i : Nat) (a : Bool) (s : State) : (sourceAlarm i a s).coresDown = s.coresDown :=
  congrArg (f := State.coresDown) (a₁ := sober _) (a₂ := sober s) (sober_sourceAlarm i a s)
@[simp] theorem sourceAlarm_coresHeld (i : Nat) (a : Bool) (s : State) : (sourceAlarm i a s).coresHeld = s.coresHeld :=
  congrArg (f := State.coresHeld) (a₁ := sober _) (a₂ := sober s) (sober_sourceAlarm i a s)
@[simp] theorem sourceAlarm_coreHealth (i : Nat) (a : Bool) (s : State) : (sourceAlarm i a s).coreHealth = s.coreHealth :=
  congrArg (f := State.coreHealth) (a₁ := sober _) (a₂ := sober s) (sober_sourceAlarm i a s)
@[simp] theorem sourceAlarm_halted (i : Nat) (a : Bool) (s : State) : (sourceAlarm i a s).halted = s.halted :=
  congrArg (f := State.halted) (a₁ := sober _) (a₂ := sober s) (sober_sourceAlarm i a s)
@[simp] theorem sourceAlarm_mgmtUp (i : Nat) (a : Bool) (s : State) : (sourceAlarm i a s).mgmtUp = s.mgmtUp :=
  congrArg (f := State.mgmtUp) (a₁ := sober _) (a₂ := sober s) (sober_sourceAlarm i a s)
@[simp] theorem sourceAlarm_testHonoured (i : Nat) (a : Bool) (s : State) : (sourceAlarm i a s).testHonoured = s.testHonoured :=
  congrArg (f := State.testHonoured) (a₁ := sober _) (a₂ := sober s) (sober_sourceAlarm i a s)
@[simp] theorem sourceAlarm_recoveryByRuntime (i : Nat) (a : Bool) (s : State) : (sourceAlarm i a s).recoveryByRuntime = s.recoveryByRuntime :=
  congrArg (f := State.recoveryByRuntime) (a₁ := sober _) (a₂ := sober s) (sober_sourceAlarm i a s)
@[simp] theorem sourceAlarm_rtImage (i : Nat) (a : Bool) (s : State) : (sourceAlarm i a s).rtImage = s.rtImage :=
  congrArg (f := State.rtImage) (a₁ := sober _) (a₂ := sober s) (sober_sourceAlarm i a s)
@[simp] theorem sourceAlarm_rtInstallResult (i : Nat) (a : Bool) (s : State) : (sourceAlarm i a s).rtInstallResult = s.rtInstallResult :=
  congrArg (f := State.rtInstallResult) (a₁ := sober _) (a₂ := sober s) (sober_sourceAlarm i a s)
@[simp] theorem sourceAlarm_rtBuild (i : Nat) (a : Bool) (s : State) : (sourceAlarm i a s).rtBuild = s.rtBuild :=
  congrArg (f := State.rtBuild) (a₁ := sober _) (a₂ := sober s) (sober_sourceAlarm i a s)
@[simp] theorem sourceAlarm_rtSvn (i : Nat) (a : Bool) (s : State) : (sourceAlarm i a s).rtSvn = s.rtSvn :=
  congrArg (f := State.rtSvn) (a₁ := sober _) (a₂ := sober s) (sober_sourceAlarm i a s)
@[simp] theorem sourceAlarm_rtDigest (i : Nat) (a : Bool) (s : State) : (sourceAlarm i a s).rtDigest = s.rtDigest :=
  congrArg (f := State.rtDigest) (a₁ := sober _) (a₂ := sober s) (sober_sourceAlarm i a s)
@[simp] theorem sourceAlarm_katResults (i : Nat) (a : Bool) (s : State) : (sourceAlarm i a s).katResults = s.katResults :=
  congrArg (f := State.katResults) (a₁ := sober _) (a₂ := sober s) (sober_sourceAlarm i a s)
@[simp] theorem sourceAlarm_digestHealth (i : Nat) (a : Bool) (s : State) : (sourceAlarm i a s).digestHealth = s.digestHealth :=
  congrArg (f := State.digestHealth) (a₁ := sober _) (a₂ := sober s) (sober_sourceAlarm i a s)
@[simp] theorem sourceAlarm_dgTransients (i : Nat) (a : Bool) (s : State) : (sourceAlarm i a s).dgTransients = s.dgTransients :=
  congrArg (f := State.dgTransients) (a₁ := sober _) (a₂ := sober s) (sober_sourceAlarm i a s)
@[simp] theorem sourceAlarm_cipherHealth (i : Nat) (a : Bool) (s : State) : (sourceAlarm i a s).cipherHealth = s.cipherHealth :=
  congrArg (f := State.cipherHealth) (a₁ := sober _) (a₂ := sober s) (sober_sourceAlarm i a s)
@[simp] theorem sourceAlarm_cxTransients (i : Nat) (a : Bool) (s : State) : (sourceAlarm i a s).cxTransients = s.cxTransients :=
  congrArg (f := State.cxTransients) (a₁ := sober _) (a₂ := sober s) (sober_sourceAlarm i a s)
@[simp] theorem sourceAlarm_freshAtHeath (i : Nat) (a : Bool) (s : State) : (sourceAlarm i a s).freshAtHeath = s.freshAtHeath :=
  congrArg (f := State.freshAtHeath) (a₁ := sober _) (a₂ := sober s) (sober_sourceAlarm i a s)
@[simp] theorem sourceAlarm_pacePs (i : Nat) (a : Bool) (s : State) : (sourceAlarm i a s).pacePs = s.pacePs :=
  congrArg (f := State.pacePs) (a₁ := sober _) (a₂ := sober s) (sober_sourceAlarm i a s)
@[simp] theorem sourceAlarm_paceMaxPs (i : Nat) (a : Bool) (s : State) : (sourceAlarm i a s).paceMaxPs = s.paceMaxPs :=
  congrArg (f := State.paceMaxPs) (a₁ := sober _) (a₂ := sober s) (sober_sourceAlarm i a s)
@[simp] theorem sourceAlarm_paceArmed (i : Nat) (a : Bool) (s : State) : (sourceAlarm i a s).paceArmed = s.paceArmed :=
  congrArg (f := State.paceArmed) (a₁ := sober _) (a₂ := sober s) (sober_sourceAlarm i a s)
@[simp] theorem sourceAlarm_tj (i : Nat) (a : Bool) (s : State) : (sourceAlarm i a s).tj = s.tj :=
  congrArg (f := State.tj) (a₁ := sober _) (a₂ := sober s) (sober_sourceAlarm i a s)
@[simp] theorem sourceAlarm_tjMax (i : Nat) (a : Bool) (s : State) : (sourceAlarm i a s).tjMax = s.tjMax :=
  congrArg (f := State.tjMax) (a₁ := sober _) (a₂ := sober s) (sober_sourceAlarm i a s)
@[simp] theorem sourceAlarm_railMv (i : Nat) (a : Bool) (s : State) : (sourceAlarm i a s).railMv = s.railMv :=
  congrArg (f := State.railMv) (a₁ := sober _) (a₂ := sober s) (sober_sourceAlarm i a s)
@[simp] theorem sourceAlarm_railMin (i : Nat) (a : Bool) (s : State) : (sourceAlarm i a s).railMin = s.railMin :=
  congrArg (f := State.railMin) (a₁ := sober _) (a₂ := sober s) (sober_sourceAlarm i a s)
@[simp] theorem sourceAlarm_railMax (i : Nat) (a : Bool) (s : State) : (sourceAlarm i a s).railMax = s.railMax :=
  congrArg (f := State.railMax) (a₁ := sober _) (a₂ := sober s) (sober_sourceAlarm i a s)
@[simp] theorem sourceAlarm_secCount (i : Nat) (a : Bool) (s : State) : (sourceAlarm i a s).secCount = s.secCount :=
  congrArg (f := State.secCount) (a₁ := sober _) (a₂ := sober s) (sober_sourceAlarm i a s)
@[simp] theorem sourceAlarm_dedCount (i : Nat) (a : Bool) (s : State) : (sourceAlarm i a s).dedCount = s.dedCount :=
  congrArg (f := State.dedCount) (a₁ := sober _) (a₂ := sober s) (sober_sourceAlarm i a s)
@[simp] theorem sourceAlarm_scrubPasses (i : Nat) (a : Bool) (s : State) : (sourceAlarm i a s).scrubPasses = s.scrubPasses :=
  congrArg (f := State.scrubPasses) (a₁ := sober _) (a₂ := sober s) (sober_sourceAlarm i a s)
@[simp] theorem sourceAlarm_scrubLast (i : Nat) (a : Bool) (s : State) : (sourceAlarm i a s).scrubLast = s.scrubLast :=
  congrArg (f := State.scrubLast) (a₁ := sober _) (a₂ := sober s) (sober_sourceAlarm i a s)
@[simp] theorem sourceAlarm_scrubPos (i : Nat) (a : Bool) (s : State) : (sourceAlarm i a s).scrubPos = s.scrubPos :=
  congrArg (f := State.scrubPos) (a₁ := sober _) (a₂ := sober s) (sober_sourceAlarm i a s)
@[simp] theorem sourceAlarm_bistResult (i : Nat) (a : Bool) (s : State) : (sourceAlarm i a s).bistResult = s.bistResult :=
  congrArg (f := State.bistResult) (a₁ := sober _) (a₂ := sober s) (sober_sourceAlarm i a s)
@[simp] theorem sourceAlarm_injWord (i : Nat) (a : Bool) (s : State) : (sourceAlarm i a s).injWord = s.injWord :=
  congrArg (f := State.injWord) (a₁ := sober _) (a₂ := sober s) (sober_sourceAlarm i a s)
@[simp] theorem sourceAlarm_injMask (i : Nat) (a : Bool) (s : State) : (sourceAlarm i a s).injMask = s.injMask :=
  congrArg (f := State.injMask) (a₁ := sober _) (a₂ := sober s) (sober_sourceAlarm i a s)
@[simp] theorem sourceAlarm_unitResult (i : Nat) (a : Bool) (s : State) : (sourceAlarm i a s).unitResult = s.unitResult :=
  congrArg (f := State.unitResult) (a₁ := sober _) (a₂ := sober s) (sober_sourceAlarm i a s)
@[simp] theorem sourceAlarm_logicSig (i : Nat) (a : Bool) (s : State) : (sourceAlarm i a s).logicSig = s.logicSig :=
  congrArg (f := State.logicSig) (a₁ := sober _) (a₂ := sober s) (sober_sourceAlarm i a s)
@[simp] theorem sourceAlarm_cfg (i : Nat) (a : Bool) (s : State) : (sourceAlarm i a s).cfg = s.cfg :=
  congrArg (f := State.cfg) (a₁ := sober _) (a₂ := sober s) (sober_sourceAlarm i a s)
@[simp] theorem sourceAlarm_commits (i : Nat) (a : Bool) (s : State) : (sourceAlarm i a s).commits = s.commits :=
  congrArg (f := State.commits) (a₁ := sober _) (a₂ := sober s) (sober_sourceAlarm i a s)
@[simp] theorem sourceAlarm_lastCommitPort (i : Nat) (a : Bool) (s : State) : (sourceAlarm i a s).lastCommitPort = s.lastCommitPort :=
  congrArg (f := State.lastCommitPort) (a₁ := sober _) (a₂ := sober s) (sober_sourceAlarm i a s)
@[simp] theorem sourceAlarm_lastCommitUs (i : Nat) (a : Bool) (s : State) : (sourceAlarm i a s).lastCommitUs = s.lastCommitUs :=
  congrArg (f := State.lastCommitUs) (a₁ := sober _) (a₂ := sober s) (sober_sourceAlarm i a s)
@[simp] theorem sourceAlarm_faReads (i : Nat) (a : Bool) (s : State) : (sourceAlarm i a s).faReads = s.faReads :=
  congrArg (f := State.faReads) (a₁ := sober _) (a₂ := sober s) (sober_sourceAlarm i a s)
@[simp] theorem sourceAlarm_chans (i : Nat) (a : Bool) (s : State) : (sourceAlarm i a s).chans = s.chans :=
  congrArg (f := State.chans) (a₁ := sober _) (a₂ := sober s) (sober_sourceAlarm i a s)
@[simp] theorem sourceAlarm_fallow (i : Nat) (a : Bool) (s : State) : (sourceAlarm i a s).fallow = s.fallow :=
  congrArg (f := State.fallow) (a₁ := sober _) (a₂ := sober s) (sober_sourceAlarm i a s)
@[simp] theorem sourceAlarm_hedgerow (i : Nat) (a : Bool) (s : State) : (sourceAlarm i a s).hedgerow = s.hedgerow :=
  congrArg (f := State.hedgerow) (a₁ := sober _) (a₂ := sober s) (sober_sourceAlarm i a s)
@[simp] theorem sourceAlarm_hayloft (i : Nat) (a : Bool) (s : State) : (sourceAlarm i a s).hayloft = s.hayloft :=
  congrArg (f := State.hayloft) (a₁ := sober _) (a₂ := sober s) (sober_sourceAlarm i a s)
@[simp] theorem sourceAlarm_vault (i : Nat) (a : Bool) (s : State) : (sourceAlarm i a s).vault = s.vault :=
  congrArg (f := State.vault) (a₁ := sober _) (a₂ := sober s) (sober_sourceAlarm i a s)
@[simp] theorem sourceAlarm_update (i : Nat) (a : Bool) (s : State) : (sourceAlarm i a s).update = s.update :=
  congrArg (f := State.update) (a₁ := sober _) (a₂ := sober s) (sober_sourceAlarm i a s)
@[simp] theorem sourceAlarm_banks (i : Nat) (a : Bool) (s : State) : (sourceAlarm i a s).banks = s.banks :=
  congrArg (f := State.banks) (a₁ := sober _) (a₂ := sober s) (sober_sourceAlarm i a s)
@[simp] theorem sourceAlarm_cxs (i : Nat) (a : Bool) (s : State) : (sourceAlarm i a s).cxs = s.cxs :=
  congrArg (f := State.cxs) (a₁ := sober _) (a₂ := sober s) (sober_sourceAlarm i a s)
@[simp] theorem sourceAlarm_pke (i : Nat) (a : Bool) (s : State) : (sourceAlarm i a s).pke = s.pke :=
  congrArg (f := State.pke) (a₁ := sober _) (a₂ := sober s) (sober_sourceAlarm i a s)
@[simp] theorem sourceAlarm_heath (i : Nat) (a : Bool) (s : State) : (sourceAlarm i a s).heath = s.heath :=
  congrArg (f := State.heath) (a₁ := sober _) (a₂ := sober s) (sober_sourceAlarm i a s)
@[simp] theorem sourceAlarm_wd (i : Nat) (a : Bool) (s : State) : (sourceAlarm i a s).wd = s.wd :=
  congrArg (f := State.wd) (a₁ := sober _) (a₂ := sober s) (sober_sourceAlarm i a s)
@[simp] theorem sourceAlarm_timers (i : Nat) (a : Bool) (s : State) : (sourceAlarm i a s).timers = s.timers :=
  congrArg (f := State.timers) (a₁ := sober _) (a₂ := sober s) (sober_sourceAlarm i a s)
@[simp] theorem sourceAlarm_cus (i : Nat) (a : Bool) (s : State) : (sourceAlarm i a s).cus = s.cus :=
  congrArg (f := State.cus) (a₁ := sober _) (a₂ := sober s) (sober_sourceAlarm i a s)
@[simp] theorem sourceAlarm_cuTransients (i : Nat) (a : Bool) (s : State) : (sourceAlarm i a s).cuTransients = s.cuTransients :=
  congrArg (f := State.cuTransients) (a₁ := sober _) (a₂ := sober s) (sober_sourceAlarm i a s)
@[simp] theorem sourceAlarm_lc (i : Nat) (a : Bool) (s : State) : (sourceAlarm i a s).lc = s.lc :=
  congrArg (f := State.lc) (a₁ := sober _) (a₂ := sober s) (sober_sourceAlarm i a s)
@[simp] theorem sourceAlarm_tap (i : Nat) (a : Bool) (s : State) : (sourceAlarm i a s).tap = s.tap :=
  congrArg (f := State.tap) (a₁ := sober _) (a₂ := sober s) (sober_sourceAlarm i a s)
@[simp] theorem sourceAlarm_spdm (i : Nat) (a : Bool) (s : State) : (sourceAlarm i a s).spdm = s.spdm :=
  congrArg (f := State.spdm) (a₁ := sober _) (a₂ := sober s) (sober_sourceAlarm i a s)
@[simp] theorem sourceAlarm_mports (i : Nat) (a : Bool) (s : State) : (sourceAlarm i a s).mports = s.mports :=
  congrArg (f := State.mports) (a₁ := sober _) (a₂ := sober s) (sober_sourceAlarm i a s)
@[simp] theorem sourceAlarm_ports (i : Nat) (a : Bool) (s : State) : (sourceAlarm i a s).ports = s.ports :=
  congrArg (f := State.ports) (a₁ := sober _) (a₂ := sober s) (sober_sourceAlarm i a s)
@[simp] theorem sourceAlarm_steps (i : Nat) (a : Bool) (s : State) : (sourceAlarm i a s).steps = s.steps := ground_steps (sourceAlarm_ground i a s)
@[simp] theorem startupEnd_pending (i : Nat) (w : Window) (s : State) : (startupEnd i w s).pending = s.pending :=
  congrArg (f := State.pending) (a₁ := sober _) (a₂ := sober s) (sober_startupEnd i w s)
@[simp] theorem startupEnd_freeCount (i : Nat) (w : Window) (s : State) : (startupEnd i w s).freeCount = s.freeCount :=
  congrArg (f := State.freeCount) (a₁ := sober _) (a₂ := sober s) (sober_startupEnd i w s)
@[simp] theorem startupEnd_now (i : Nat) (w : Window) (s : State) : (startupEnd i w s).now = s.now :=
  congrArg (f := State.now) (a₁ := sober _) (a₂ := sober s) (sober_startupEnd i w s)
@[simp] theorem startupEnd_subUs (i : Nat) (w : Window) (s : State) : (startupEnd i w s).subUs = s.subUs :=
  congrArg (f := State.subUs) (a₁ := sober _) (a₂ := sober s) (sober_startupEnd i w s)
@[simp] theorem startupEnd_tbUs (i : Nat) (w : Window) (s : State) : (startupEnd i w s).tbUs = s.tbUs :=
  congrArg (f := State.tbUs) (a₁ := sober _) (a₂ := sober s) (sober_startupEnd i w s)
@[simp] theorem startupEnd_tbEpoch (i : Nat) (w : Window) (s : State) : (startupEnd i w s).tbEpoch = s.tbEpoch :=
  congrArg (f := State.tbEpoch) (a₁ := sober _) (a₂ := sober s) (sober_startupEnd i w s)
@[simp] theorem startupEnd_refclk (i : Nat) (w : Window) (s : State) : (startupEnd i w s).refclk = s.refclk :=
  congrArg (f := State.refclk) (a₁ := sober _) (a₂ := sober s) (sober_startupEnd i w s)
@[simp] theorem startupEnd_pllLock (i : Nat) (w : Window) (s : State) : (startupEnd i w s).pllLock = s.pllLock :=
  congrArg (f := State.pllLock) (a₁ := sober _) (a₂ := sober s) (sober_startupEnd i w s)
@[simp] theorem startupEnd_gapPeriods (i : Nat) (w : Window) (s : State) : (startupEnd i w s).gapPeriods = s.gapPeriods :=
  congrArg (f := State.gapPeriods) (a₁ := sober _) (a₂ := sober s) (sober_startupEnd i w s)
@[simp] theorem startupEnd_refclkLosses (i : Nat) (w : Window) (s : State) : (startupEnd i w s).refclkLosses = s.refclkLosses :=
  congrArg (f := State.refclkLosses) (a₁ := sober _) (a₂ := sober s) (sober_startupEnd i w s)
@[simp] theorem startupEnd_refclkLastGap (i : Nat) (w : Window) (s : State) : (startupEnd i w s).refclkLastGap = s.refclkLastGap :=
  congrArg (f := State.refclkLastGap) (a₁ := sober _) (a₂ := sober s) (sober_startupEnd i w s)
@[simp] theorem startupEnd_porPin (i : Nat) (w : Window) (s : State) : (startupEnd i w s).porPin = s.porPin :=
  congrArg (f := State.porPin) (a₁ := sober _) (a₂ := sober s) (sober_startupEnd i w s)
@[simp] theorem startupEnd_porN (i : Nat) (w : Window) (s : State) : (startupEnd i w s).porN = s.porN :=
  congrArg (f := State.porN) (a₁ := sober _) (a₂ := sober s) (sober_startupEnd i w s)
@[simp] theorem startupEnd_straps (i : Nat) (w : Window) (s : State) : (startupEnd i w s).straps = s.straps :=
  congrArg (f := State.straps) (a₁ := sober _) (a₂ := sober s) (sober_startupEnd i w s)
@[simp] theorem startupEnd_phase (i : Nat) (w : Window) (s : State) : (startupEnd i w s).phase = s.phase :=
  congrArg (f := State.phase) (a₁ := sober _) (a₂ := sober s) (sober_startupEnd i w s)
@[simp] theorem startupEnd_resetCause (i : Nat) (w : Window) (s : State) : (startupEnd i w s).resetCause = s.resetCause :=
  congrArg (f := State.resetCause) (a₁ := sober _) (a₂ := sober s) (sober_startupEnd i w s)
@[simp] theorem startupEnd_rtCopy (i : Nat) (w : Window) (s : State) : (startupEnd i w s).rtCopy = s.rtCopy :=
  congrArg (f := State.rtCopy) (a₁ := sober _) (a₂ := sober s) (sober_startupEnd i w s)
@[simp] theorem startupEnd_deviceResets (i : Nat) (w : Window) (s : State) : (startupEnd i w s).deviceResets = s.deviceResets :=
  congrArg (f := State.deviceResets) (a₁ := sober _) (a₂ := sober s) (sober_startupEnd i w s)
@[simp] theorem startupEnd_coreRestarts (i : Nat) (w : Window) (s : State) : (startupEnd i w s).coreRestarts = s.coreRestarts :=
  congrArg (f := State.coreRestarts) (a₁ := sober _) (a₂ := sober s) (sober_startupEnd i w s)
@[simp] theorem startupEnd_bootAttempts (i : Nat) (w : Window) (s : State) : (startupEnd i w s).bootAttempts = s.bootAttempts :=
  congrArg (f := State.bootAttempts) (a₁ := sober _) (a₂ := sober s) (sober_startupEnd i w s)
@[simp] theorem startupEnd_deviceResetDue (i : Nat) (w : Window) (s : State) : (startupEnd i w s).deviceResetDue = s.deviceResetDue :=
  congrArg (f := State.deviceResetDue) (a₁ := sober _) (a₂ := sober s) (sober_startupEnd i w s)
@[simp] theorem startupEnd_coresDown (i : Nat) (w : Window) (s : State) : (startupEnd i w s).coresDown = s.coresDown :=
  congrArg (f := State.coresDown) (a₁ := sober _) (a₂ := sober s) (sober_startupEnd i w s)
@[simp] theorem startupEnd_coresHeld (i : Nat) (w : Window) (s : State) : (startupEnd i w s).coresHeld = s.coresHeld :=
  congrArg (f := State.coresHeld) (a₁ := sober _) (a₂ := sober s) (sober_startupEnd i w s)
@[simp] theorem startupEnd_coreHealth (i : Nat) (w : Window) (s : State) : (startupEnd i w s).coreHealth = s.coreHealth :=
  congrArg (f := State.coreHealth) (a₁ := sober _) (a₂ := sober s) (sober_startupEnd i w s)
@[simp] theorem startupEnd_halted (i : Nat) (w : Window) (s : State) : (startupEnd i w s).halted = s.halted :=
  congrArg (f := State.halted) (a₁ := sober _) (a₂ := sober s) (sober_startupEnd i w s)
@[simp] theorem startupEnd_mgmtUp (i : Nat) (w : Window) (s : State) : (startupEnd i w s).mgmtUp = s.mgmtUp :=
  congrArg (f := State.mgmtUp) (a₁ := sober _) (a₂ := sober s) (sober_startupEnd i w s)
@[simp] theorem startupEnd_testHonoured (i : Nat) (w : Window) (s : State) : (startupEnd i w s).testHonoured = s.testHonoured :=
  congrArg (f := State.testHonoured) (a₁ := sober _) (a₂ := sober s) (sober_startupEnd i w s)
@[simp] theorem startupEnd_recoveryByRuntime (i : Nat) (w : Window) (s : State) : (startupEnd i w s).recoveryByRuntime = s.recoveryByRuntime :=
  congrArg (f := State.recoveryByRuntime) (a₁ := sober _) (a₂ := sober s) (sober_startupEnd i w s)
@[simp] theorem startupEnd_rtImage (i : Nat) (w : Window) (s : State) : (startupEnd i w s).rtImage = s.rtImage :=
  congrArg (f := State.rtImage) (a₁ := sober _) (a₂ := sober s) (sober_startupEnd i w s)
@[simp] theorem startupEnd_rtInstallResult (i : Nat) (w : Window) (s : State) : (startupEnd i w s).rtInstallResult = s.rtInstallResult :=
  congrArg (f := State.rtInstallResult) (a₁ := sober _) (a₂ := sober s) (sober_startupEnd i w s)
@[simp] theorem startupEnd_rtBuild (i : Nat) (w : Window) (s : State) : (startupEnd i w s).rtBuild = s.rtBuild :=
  congrArg (f := State.rtBuild) (a₁ := sober _) (a₂ := sober s) (sober_startupEnd i w s)
@[simp] theorem startupEnd_rtSvn (i : Nat) (w : Window) (s : State) : (startupEnd i w s).rtSvn = s.rtSvn :=
  congrArg (f := State.rtSvn) (a₁ := sober _) (a₂ := sober s) (sober_startupEnd i w s)
@[simp] theorem startupEnd_rtDigest (i : Nat) (w : Window) (s : State) : (startupEnd i w s).rtDigest = s.rtDigest :=
  congrArg (f := State.rtDigest) (a₁ := sober _) (a₂ := sober s) (sober_startupEnd i w s)
@[simp] theorem startupEnd_katResults (i : Nat) (w : Window) (s : State) : (startupEnd i w s).katResults = s.katResults :=
  congrArg (f := State.katResults) (a₁ := sober _) (a₂ := sober s) (sober_startupEnd i w s)
@[simp] theorem startupEnd_digestHealth (i : Nat) (w : Window) (s : State) : (startupEnd i w s).digestHealth = s.digestHealth :=
  congrArg (f := State.digestHealth) (a₁ := sober _) (a₂ := sober s) (sober_startupEnd i w s)
@[simp] theorem startupEnd_dgTransients (i : Nat) (w : Window) (s : State) : (startupEnd i w s).dgTransients = s.dgTransients :=
  congrArg (f := State.dgTransients) (a₁ := sober _) (a₂ := sober s) (sober_startupEnd i w s)
@[simp] theorem startupEnd_cipherHealth (i : Nat) (w : Window) (s : State) : (startupEnd i w s).cipherHealth = s.cipherHealth :=
  congrArg (f := State.cipherHealth) (a₁ := sober _) (a₂ := sober s) (sober_startupEnd i w s)
@[simp] theorem startupEnd_cxTransients (i : Nat) (w : Window) (s : State) : (startupEnd i w s).cxTransients = s.cxTransients :=
  congrArg (f := State.cxTransients) (a₁ := sober _) (a₂ := sober s) (sober_startupEnd i w s)
@[simp] theorem startupEnd_freshAtHeath (i : Nat) (w : Window) (s : State) : (startupEnd i w s).freshAtHeath = s.freshAtHeath :=
  congrArg (f := State.freshAtHeath) (a₁ := sober _) (a₂ := sober s) (sober_startupEnd i w s)
@[simp] theorem startupEnd_pacePs (i : Nat) (w : Window) (s : State) : (startupEnd i w s).pacePs = s.pacePs :=
  congrArg (f := State.pacePs) (a₁ := sober _) (a₂ := sober s) (sober_startupEnd i w s)
@[simp] theorem startupEnd_paceMaxPs (i : Nat) (w : Window) (s : State) : (startupEnd i w s).paceMaxPs = s.paceMaxPs :=
  congrArg (f := State.paceMaxPs) (a₁ := sober _) (a₂ := sober s) (sober_startupEnd i w s)
@[simp] theorem startupEnd_paceArmed (i : Nat) (w : Window) (s : State) : (startupEnd i w s).paceArmed = s.paceArmed :=
  congrArg (f := State.paceArmed) (a₁ := sober _) (a₂ := sober s) (sober_startupEnd i w s)
@[simp] theorem startupEnd_tj (i : Nat) (w : Window) (s : State) : (startupEnd i w s).tj = s.tj :=
  congrArg (f := State.tj) (a₁ := sober _) (a₂ := sober s) (sober_startupEnd i w s)
@[simp] theorem startupEnd_tjMax (i : Nat) (w : Window) (s : State) : (startupEnd i w s).tjMax = s.tjMax :=
  congrArg (f := State.tjMax) (a₁ := sober _) (a₂ := sober s) (sober_startupEnd i w s)
@[simp] theorem startupEnd_railMv (i : Nat) (w : Window) (s : State) : (startupEnd i w s).railMv = s.railMv :=
  congrArg (f := State.railMv) (a₁ := sober _) (a₂ := sober s) (sober_startupEnd i w s)
@[simp] theorem startupEnd_railMin (i : Nat) (w : Window) (s : State) : (startupEnd i w s).railMin = s.railMin :=
  congrArg (f := State.railMin) (a₁ := sober _) (a₂ := sober s) (sober_startupEnd i w s)
@[simp] theorem startupEnd_railMax (i : Nat) (w : Window) (s : State) : (startupEnd i w s).railMax = s.railMax :=
  congrArg (f := State.railMax) (a₁ := sober _) (a₂ := sober s) (sober_startupEnd i w s)
@[simp] theorem startupEnd_secCount (i : Nat) (w : Window) (s : State) : (startupEnd i w s).secCount = s.secCount :=
  congrArg (f := State.secCount) (a₁ := sober _) (a₂ := sober s) (sober_startupEnd i w s)
@[simp] theorem startupEnd_dedCount (i : Nat) (w : Window) (s : State) : (startupEnd i w s).dedCount = s.dedCount :=
  congrArg (f := State.dedCount) (a₁ := sober _) (a₂ := sober s) (sober_startupEnd i w s)
@[simp] theorem startupEnd_scrubPasses (i : Nat) (w : Window) (s : State) : (startupEnd i w s).scrubPasses = s.scrubPasses :=
  congrArg (f := State.scrubPasses) (a₁ := sober _) (a₂ := sober s) (sober_startupEnd i w s)
@[simp] theorem startupEnd_scrubLast (i : Nat) (w : Window) (s : State) : (startupEnd i w s).scrubLast = s.scrubLast :=
  congrArg (f := State.scrubLast) (a₁ := sober _) (a₂ := sober s) (sober_startupEnd i w s)
@[simp] theorem startupEnd_scrubPos (i : Nat) (w : Window) (s : State) : (startupEnd i w s).scrubPos = s.scrubPos :=
  congrArg (f := State.scrubPos) (a₁ := sober _) (a₂ := sober s) (sober_startupEnd i w s)
@[simp] theorem startupEnd_bistResult (i : Nat) (w : Window) (s : State) : (startupEnd i w s).bistResult = s.bistResult :=
  congrArg (f := State.bistResult) (a₁ := sober _) (a₂ := sober s) (sober_startupEnd i w s)
@[simp] theorem startupEnd_injWord (i : Nat) (w : Window) (s : State) : (startupEnd i w s).injWord = s.injWord :=
  congrArg (f := State.injWord) (a₁ := sober _) (a₂ := sober s) (sober_startupEnd i w s)
@[simp] theorem startupEnd_injMask (i : Nat) (w : Window) (s : State) : (startupEnd i w s).injMask = s.injMask :=
  congrArg (f := State.injMask) (a₁ := sober _) (a₂ := sober s) (sober_startupEnd i w s)
@[simp] theorem startupEnd_unitResult (i : Nat) (w : Window) (s : State) : (startupEnd i w s).unitResult = s.unitResult :=
  congrArg (f := State.unitResult) (a₁ := sober _) (a₂ := sober s) (sober_startupEnd i w s)
@[simp] theorem startupEnd_logicSig (i : Nat) (w : Window) (s : State) : (startupEnd i w s).logicSig = s.logicSig :=
  congrArg (f := State.logicSig) (a₁ := sober _) (a₂ := sober s) (sober_startupEnd i w s)
@[simp] theorem startupEnd_cfg (i : Nat) (w : Window) (s : State) : (startupEnd i w s).cfg = s.cfg :=
  congrArg (f := State.cfg) (a₁ := sober _) (a₂ := sober s) (sober_startupEnd i w s)
@[simp] theorem startupEnd_commits (i : Nat) (w : Window) (s : State) : (startupEnd i w s).commits = s.commits :=
  congrArg (f := State.commits) (a₁ := sober _) (a₂ := sober s) (sober_startupEnd i w s)
@[simp] theorem startupEnd_lastCommitPort (i : Nat) (w : Window) (s : State) : (startupEnd i w s).lastCommitPort = s.lastCommitPort :=
  congrArg (f := State.lastCommitPort) (a₁ := sober _) (a₂ := sober s) (sober_startupEnd i w s)
@[simp] theorem startupEnd_lastCommitUs (i : Nat) (w : Window) (s : State) : (startupEnd i w s).lastCommitUs = s.lastCommitUs :=
  congrArg (f := State.lastCommitUs) (a₁ := sober _) (a₂ := sober s) (sober_startupEnd i w s)
@[simp] theorem startupEnd_faReads (i : Nat) (w : Window) (s : State) : (startupEnd i w s).faReads = s.faReads :=
  congrArg (f := State.faReads) (a₁ := sober _) (a₂ := sober s) (sober_startupEnd i w s)
@[simp] theorem startupEnd_chans (i : Nat) (w : Window) (s : State) : (startupEnd i w s).chans = s.chans :=
  congrArg (f := State.chans) (a₁ := sober _) (a₂ := sober s) (sober_startupEnd i w s)
@[simp] theorem startupEnd_fallow (i : Nat) (w : Window) (s : State) : (startupEnd i w s).fallow = s.fallow :=
  congrArg (f := State.fallow) (a₁ := sober _) (a₂ := sober s) (sober_startupEnd i w s)
@[simp] theorem startupEnd_hedgerow (i : Nat) (w : Window) (s : State) : (startupEnd i w s).hedgerow = s.hedgerow :=
  congrArg (f := State.hedgerow) (a₁ := sober _) (a₂ := sober s) (sober_startupEnd i w s)
@[simp] theorem startupEnd_hayloft (i : Nat) (w : Window) (s : State) : (startupEnd i w s).hayloft = s.hayloft :=
  congrArg (f := State.hayloft) (a₁ := sober _) (a₂ := sober s) (sober_startupEnd i w s)
@[simp] theorem startupEnd_vault (i : Nat) (w : Window) (s : State) : (startupEnd i w s).vault = s.vault :=
  congrArg (f := State.vault) (a₁ := sober _) (a₂ := sober s) (sober_startupEnd i w s)
@[simp] theorem startupEnd_update (i : Nat) (w : Window) (s : State) : (startupEnd i w s).update = s.update :=
  congrArg (f := State.update) (a₁ := sober _) (a₂ := sober s) (sober_startupEnd i w s)
@[simp] theorem startupEnd_banks (i : Nat) (w : Window) (s : State) : (startupEnd i w s).banks = s.banks :=
  congrArg (f := State.banks) (a₁ := sober _) (a₂ := sober s) (sober_startupEnd i w s)
@[simp] theorem startupEnd_cxs (i : Nat) (w : Window) (s : State) : (startupEnd i w s).cxs = s.cxs :=
  congrArg (f := State.cxs) (a₁ := sober _) (a₂ := sober s) (sober_startupEnd i w s)
@[simp] theorem startupEnd_pke (i : Nat) (w : Window) (s : State) : (startupEnd i w s).pke = s.pke :=
  congrArg (f := State.pke) (a₁ := sober _) (a₂ := sober s) (sober_startupEnd i w s)
@[simp] theorem startupEnd_heath (i : Nat) (w : Window) (s : State) : (startupEnd i w s).heath = s.heath :=
  congrArg (f := State.heath) (a₁ := sober _) (a₂ := sober s) (sober_startupEnd i w s)
@[simp] theorem startupEnd_wd (i : Nat) (w : Window) (s : State) : (startupEnd i w s).wd = s.wd :=
  congrArg (f := State.wd) (a₁ := sober _) (a₂ := sober s) (sober_startupEnd i w s)
@[simp] theorem startupEnd_timers (i : Nat) (w : Window) (s : State) : (startupEnd i w s).timers = s.timers :=
  congrArg (f := State.timers) (a₁ := sober _) (a₂ := sober s) (sober_startupEnd i w s)
@[simp] theorem startupEnd_cus (i : Nat) (w : Window) (s : State) : (startupEnd i w s).cus = s.cus :=
  congrArg (f := State.cus) (a₁ := sober _) (a₂ := sober s) (sober_startupEnd i w s)
@[simp] theorem startupEnd_cuTransients (i : Nat) (w : Window) (s : State) : (startupEnd i w s).cuTransients = s.cuTransients :=
  congrArg (f := State.cuTransients) (a₁ := sober _) (a₂ := sober s) (sober_startupEnd i w s)
@[simp] theorem startupEnd_lc (i : Nat) (w : Window) (s : State) : (startupEnd i w s).lc = s.lc :=
  congrArg (f := State.lc) (a₁ := sober _) (a₂ := sober s) (sober_startupEnd i w s)
@[simp] theorem startupEnd_tap (i : Nat) (w : Window) (s : State) : (startupEnd i w s).tap = s.tap :=
  congrArg (f := State.tap) (a₁ := sober _) (a₂ := sober s) (sober_startupEnd i w s)
@[simp] theorem startupEnd_spdm (i : Nat) (w : Window) (s : State) : (startupEnd i w s).spdm = s.spdm :=
  congrArg (f := State.spdm) (a₁ := sober _) (a₂ := sober s) (sober_startupEnd i w s)
@[simp] theorem startupEnd_mports (i : Nat) (w : Window) (s : State) : (startupEnd i w s).mports = s.mports :=
  congrArg (f := State.mports) (a₁ := sober _) (a₂ := sober s) (sober_startupEnd i w s)
@[simp] theorem startupEnd_ports (i : Nat) (w : Window) (s : State) : (startupEnd i w s).ports = s.ports :=
  congrArg (f := State.ports) (a₁ := sober _) (a₂ := sober s) (sober_startupEnd i w s)
@[simp] theorem startupEnd_steps (i : Nat) (w : Window) (s : State) : (startupEnd i w s).steps = s.steps := ground_steps (startupEnd_ground i w s)
@[simp] theorem kickReseed_pending  (s : State) : (kickReseed s).pending = s.pending :=
  congrArg (f := State.pending) (a₁ := sober _) (a₂ := sober s) (sober_kickReseed  s)
@[simp] theorem kickReseed_freeCount  (s : State) : (kickReseed s).freeCount = s.freeCount :=
  congrArg (f := State.freeCount) (a₁ := sober _) (a₂ := sober s) (sober_kickReseed  s)
@[simp] theorem kickReseed_now  (s : State) : (kickReseed s).now = s.now :=
  congrArg (f := State.now) (a₁ := sober _) (a₂ := sober s) (sober_kickReseed  s)
@[simp] theorem kickReseed_subUs  (s : State) : (kickReseed s).subUs = s.subUs :=
  congrArg (f := State.subUs) (a₁ := sober _) (a₂ := sober s) (sober_kickReseed  s)
@[simp] theorem kickReseed_tbUs  (s : State) : (kickReseed s).tbUs = s.tbUs :=
  congrArg (f := State.tbUs) (a₁ := sober _) (a₂ := sober s) (sober_kickReseed  s)
@[simp] theorem kickReseed_tbEpoch  (s : State) : (kickReseed s).tbEpoch = s.tbEpoch :=
  congrArg (f := State.tbEpoch) (a₁ := sober _) (a₂ := sober s) (sober_kickReseed  s)
@[simp] theorem kickReseed_refclk  (s : State) : (kickReseed s).refclk = s.refclk :=
  congrArg (f := State.refclk) (a₁ := sober _) (a₂ := sober s) (sober_kickReseed  s)
@[simp] theorem kickReseed_pllLock  (s : State) : (kickReseed s).pllLock = s.pllLock :=
  congrArg (f := State.pllLock) (a₁ := sober _) (a₂ := sober s) (sober_kickReseed  s)
@[simp] theorem kickReseed_gapPeriods  (s : State) : (kickReseed s).gapPeriods = s.gapPeriods :=
  congrArg (f := State.gapPeriods) (a₁ := sober _) (a₂ := sober s) (sober_kickReseed  s)
@[simp] theorem kickReseed_refclkLosses  (s : State) : (kickReseed s).refclkLosses = s.refclkLosses :=
  congrArg (f := State.refclkLosses) (a₁ := sober _) (a₂ := sober s) (sober_kickReseed  s)
@[simp] theorem kickReseed_refclkLastGap  (s : State) : (kickReseed s).refclkLastGap = s.refclkLastGap :=
  congrArg (f := State.refclkLastGap) (a₁ := sober _) (a₂ := sober s) (sober_kickReseed  s)
@[simp] theorem kickReseed_porPin  (s : State) : (kickReseed s).porPin = s.porPin :=
  congrArg (f := State.porPin) (a₁ := sober _) (a₂ := sober s) (sober_kickReseed  s)
@[simp] theorem kickReseed_porN  (s : State) : (kickReseed s).porN = s.porN :=
  congrArg (f := State.porN) (a₁ := sober _) (a₂ := sober s) (sober_kickReseed  s)
@[simp] theorem kickReseed_straps  (s : State) : (kickReseed s).straps = s.straps :=
  congrArg (f := State.straps) (a₁ := sober _) (a₂ := sober s) (sober_kickReseed  s)
@[simp] theorem kickReseed_phase  (s : State) : (kickReseed s).phase = s.phase :=
  congrArg (f := State.phase) (a₁ := sober _) (a₂ := sober s) (sober_kickReseed  s)
@[simp] theorem kickReseed_resetCause  (s : State) : (kickReseed s).resetCause = s.resetCause :=
  congrArg (f := State.resetCause) (a₁ := sober _) (a₂ := sober s) (sober_kickReseed  s)
@[simp] theorem kickReseed_rtCopy  (s : State) : (kickReseed s).rtCopy = s.rtCopy :=
  congrArg (f := State.rtCopy) (a₁ := sober _) (a₂ := sober s) (sober_kickReseed  s)
@[simp] theorem kickReseed_deviceResets  (s : State) : (kickReseed s).deviceResets = s.deviceResets :=
  congrArg (f := State.deviceResets) (a₁ := sober _) (a₂ := sober s) (sober_kickReseed  s)
@[simp] theorem kickReseed_coreRestarts  (s : State) : (kickReseed s).coreRestarts = s.coreRestarts :=
  congrArg (f := State.coreRestarts) (a₁ := sober _) (a₂ := sober s) (sober_kickReseed  s)
@[simp] theorem kickReseed_bootAttempts  (s : State) : (kickReseed s).bootAttempts = s.bootAttempts :=
  congrArg (f := State.bootAttempts) (a₁ := sober _) (a₂ := sober s) (sober_kickReseed  s)
@[simp] theorem kickReseed_deviceResetDue  (s : State) : (kickReseed s).deviceResetDue = s.deviceResetDue :=
  congrArg (f := State.deviceResetDue) (a₁ := sober _) (a₂ := sober s) (sober_kickReseed  s)
@[simp] theorem kickReseed_coresDown  (s : State) : (kickReseed s).coresDown = s.coresDown :=
  congrArg (f := State.coresDown) (a₁ := sober _) (a₂ := sober s) (sober_kickReseed  s)
@[simp] theorem kickReseed_coresHeld  (s : State) : (kickReseed s).coresHeld = s.coresHeld :=
  congrArg (f := State.coresHeld) (a₁ := sober _) (a₂ := sober s) (sober_kickReseed  s)
@[simp] theorem kickReseed_coreHealth  (s : State) : (kickReseed s).coreHealth = s.coreHealth :=
  congrArg (f := State.coreHealth) (a₁ := sober _) (a₂ := sober s) (sober_kickReseed  s)
@[simp] theorem kickReseed_halted  (s : State) : (kickReseed s).halted = s.halted :=
  congrArg (f := State.halted) (a₁ := sober _) (a₂ := sober s) (sober_kickReseed  s)
@[simp] theorem kickReseed_mgmtUp  (s : State) : (kickReseed s).mgmtUp = s.mgmtUp :=
  congrArg (f := State.mgmtUp) (a₁ := sober _) (a₂ := sober s) (sober_kickReseed  s)
@[simp] theorem kickReseed_testHonoured  (s : State) : (kickReseed s).testHonoured = s.testHonoured :=
  congrArg (f := State.testHonoured) (a₁ := sober _) (a₂ := sober s) (sober_kickReseed  s)
@[simp] theorem kickReseed_recoveryByRuntime  (s : State) : (kickReseed s).recoveryByRuntime = s.recoveryByRuntime :=
  congrArg (f := State.recoveryByRuntime) (a₁ := sober _) (a₂ := sober s) (sober_kickReseed  s)
@[simp] theorem kickReseed_rtImage  (s : State) : (kickReseed s).rtImage = s.rtImage :=
  congrArg (f := State.rtImage) (a₁ := sober _) (a₂ := sober s) (sober_kickReseed  s)
@[simp] theorem kickReseed_rtInstallResult  (s : State) : (kickReseed s).rtInstallResult = s.rtInstallResult :=
  congrArg (f := State.rtInstallResult) (a₁ := sober _) (a₂ := sober s) (sober_kickReseed  s)
@[simp] theorem kickReseed_rtBuild  (s : State) : (kickReseed s).rtBuild = s.rtBuild :=
  congrArg (f := State.rtBuild) (a₁ := sober _) (a₂ := sober s) (sober_kickReseed  s)
@[simp] theorem kickReseed_rtSvn  (s : State) : (kickReseed s).rtSvn = s.rtSvn :=
  congrArg (f := State.rtSvn) (a₁ := sober _) (a₂ := sober s) (sober_kickReseed  s)
@[simp] theorem kickReseed_rtDigest  (s : State) : (kickReseed s).rtDigest = s.rtDigest :=
  congrArg (f := State.rtDigest) (a₁ := sober _) (a₂ := sober s) (sober_kickReseed  s)
@[simp] theorem kickReseed_katResults  (s : State) : (kickReseed s).katResults = s.katResults :=
  congrArg (f := State.katResults) (a₁ := sober _) (a₂ := sober s) (sober_kickReseed  s)
@[simp] theorem kickReseed_digestHealth  (s : State) : (kickReseed s).digestHealth = s.digestHealth :=
  congrArg (f := State.digestHealth) (a₁ := sober _) (a₂ := sober s) (sober_kickReseed  s)
@[simp] theorem kickReseed_dgTransients  (s : State) : (kickReseed s).dgTransients = s.dgTransients :=
  congrArg (f := State.dgTransients) (a₁ := sober _) (a₂ := sober s) (sober_kickReseed  s)
@[simp] theorem kickReseed_cipherHealth  (s : State) : (kickReseed s).cipherHealth = s.cipherHealth :=
  congrArg (f := State.cipherHealth) (a₁ := sober _) (a₂ := sober s) (sober_kickReseed  s)
@[simp] theorem kickReseed_cxTransients  (s : State) : (kickReseed s).cxTransients = s.cxTransients :=
  congrArg (f := State.cxTransients) (a₁ := sober _) (a₂ := sober s) (sober_kickReseed  s)
@[simp] theorem kickReseed_freshAtHeath  (s : State) : (kickReseed s).freshAtHeath = s.freshAtHeath :=
  congrArg (f := State.freshAtHeath) (a₁ := sober _) (a₂ := sober s) (sober_kickReseed  s)
@[simp] theorem kickReseed_pacePs  (s : State) : (kickReseed s).pacePs = s.pacePs :=
  congrArg (f := State.pacePs) (a₁ := sober _) (a₂ := sober s) (sober_kickReseed  s)
@[simp] theorem kickReseed_paceMaxPs  (s : State) : (kickReseed s).paceMaxPs = s.paceMaxPs :=
  congrArg (f := State.paceMaxPs) (a₁ := sober _) (a₂ := sober s) (sober_kickReseed  s)
@[simp] theorem kickReseed_paceArmed  (s : State) : (kickReseed s).paceArmed = s.paceArmed :=
  congrArg (f := State.paceArmed) (a₁ := sober _) (a₂ := sober s) (sober_kickReseed  s)
@[simp] theorem kickReseed_tj  (s : State) : (kickReseed s).tj = s.tj :=
  congrArg (f := State.tj) (a₁ := sober _) (a₂ := sober s) (sober_kickReseed  s)
@[simp] theorem kickReseed_tjMax  (s : State) : (kickReseed s).tjMax = s.tjMax :=
  congrArg (f := State.tjMax) (a₁ := sober _) (a₂ := sober s) (sober_kickReseed  s)
@[simp] theorem kickReseed_railMv  (s : State) : (kickReseed s).railMv = s.railMv :=
  congrArg (f := State.railMv) (a₁ := sober _) (a₂ := sober s) (sober_kickReseed  s)
@[simp] theorem kickReseed_railMin  (s : State) : (kickReseed s).railMin = s.railMin :=
  congrArg (f := State.railMin) (a₁ := sober _) (a₂ := sober s) (sober_kickReseed  s)
@[simp] theorem kickReseed_railMax  (s : State) : (kickReseed s).railMax = s.railMax :=
  congrArg (f := State.railMax) (a₁ := sober _) (a₂ := sober s) (sober_kickReseed  s)
@[simp] theorem kickReseed_secCount  (s : State) : (kickReseed s).secCount = s.secCount :=
  congrArg (f := State.secCount) (a₁ := sober _) (a₂ := sober s) (sober_kickReseed  s)
@[simp] theorem kickReseed_dedCount  (s : State) : (kickReseed s).dedCount = s.dedCount :=
  congrArg (f := State.dedCount) (a₁ := sober _) (a₂ := sober s) (sober_kickReseed  s)
@[simp] theorem kickReseed_scrubPasses  (s : State) : (kickReseed s).scrubPasses = s.scrubPasses :=
  congrArg (f := State.scrubPasses) (a₁ := sober _) (a₂ := sober s) (sober_kickReseed  s)
@[simp] theorem kickReseed_scrubLast  (s : State) : (kickReseed s).scrubLast = s.scrubLast :=
  congrArg (f := State.scrubLast) (a₁ := sober _) (a₂ := sober s) (sober_kickReseed  s)
@[simp] theorem kickReseed_scrubPos  (s : State) : (kickReseed s).scrubPos = s.scrubPos :=
  congrArg (f := State.scrubPos) (a₁ := sober _) (a₂ := sober s) (sober_kickReseed  s)
@[simp] theorem kickReseed_bistResult  (s : State) : (kickReseed s).bistResult = s.bistResult :=
  congrArg (f := State.bistResult) (a₁ := sober _) (a₂ := sober s) (sober_kickReseed  s)
@[simp] theorem kickReseed_injWord  (s : State) : (kickReseed s).injWord = s.injWord :=
  congrArg (f := State.injWord) (a₁ := sober _) (a₂ := sober s) (sober_kickReseed  s)
@[simp] theorem kickReseed_injMask  (s : State) : (kickReseed s).injMask = s.injMask :=
  congrArg (f := State.injMask) (a₁ := sober _) (a₂ := sober s) (sober_kickReseed  s)
@[simp] theorem kickReseed_unitResult  (s : State) : (kickReseed s).unitResult = s.unitResult :=
  congrArg (f := State.unitResult) (a₁ := sober _) (a₂ := sober s) (sober_kickReseed  s)
@[simp] theorem kickReseed_logicSig  (s : State) : (kickReseed s).logicSig = s.logicSig :=
  congrArg (f := State.logicSig) (a₁ := sober _) (a₂ := sober s) (sober_kickReseed  s)
@[simp] theorem kickReseed_cfg  (s : State) : (kickReseed s).cfg = s.cfg :=
  congrArg (f := State.cfg) (a₁ := sober _) (a₂ := sober s) (sober_kickReseed  s)
@[simp] theorem kickReseed_commits  (s : State) : (kickReseed s).commits = s.commits :=
  congrArg (f := State.commits) (a₁ := sober _) (a₂ := sober s) (sober_kickReseed  s)
@[simp] theorem kickReseed_lastCommitPort  (s : State) : (kickReseed s).lastCommitPort = s.lastCommitPort :=
  congrArg (f := State.lastCommitPort) (a₁ := sober _) (a₂ := sober s) (sober_kickReseed  s)
@[simp] theorem kickReseed_lastCommitUs  (s : State) : (kickReseed s).lastCommitUs = s.lastCommitUs :=
  congrArg (f := State.lastCommitUs) (a₁ := sober _) (a₂ := sober s) (sober_kickReseed  s)
@[simp] theorem kickReseed_faReads  (s : State) : (kickReseed s).faReads = s.faReads :=
  congrArg (f := State.faReads) (a₁ := sober _) (a₂ := sober s) (sober_kickReseed  s)
@[simp] theorem kickReseed_chans  (s : State) : (kickReseed s).chans = s.chans :=
  congrArg (f := State.chans) (a₁ := sober _) (a₂ := sober s) (sober_kickReseed  s)
@[simp] theorem kickReseed_fallow  (s : State) : (kickReseed s).fallow = s.fallow :=
  congrArg (f := State.fallow) (a₁ := sober _) (a₂ := sober s) (sober_kickReseed  s)
@[simp] theorem kickReseed_hedgerow  (s : State) : (kickReseed s).hedgerow = s.hedgerow :=
  congrArg (f := State.hedgerow) (a₁ := sober _) (a₂ := sober s) (sober_kickReseed  s)
@[simp] theorem kickReseed_hayloft  (s : State) : (kickReseed s).hayloft = s.hayloft :=
  congrArg (f := State.hayloft) (a₁ := sober _) (a₂ := sober s) (sober_kickReseed  s)
@[simp] theorem kickReseed_vault  (s : State) : (kickReseed s).vault = s.vault :=
  congrArg (f := State.vault) (a₁ := sober _) (a₂ := sober s) (sober_kickReseed  s)
@[simp] theorem kickReseed_update  (s : State) : (kickReseed s).update = s.update :=
  congrArg (f := State.update) (a₁ := sober _) (a₂ := sober s) (sober_kickReseed  s)
@[simp] theorem kickReseed_banks  (s : State) : (kickReseed s).banks = s.banks :=
  congrArg (f := State.banks) (a₁ := sober _) (a₂ := sober s) (sober_kickReseed  s)
@[simp] theorem kickReseed_cxs  (s : State) : (kickReseed s).cxs = s.cxs :=
  congrArg (f := State.cxs) (a₁ := sober _) (a₂ := sober s) (sober_kickReseed  s)
@[simp] theorem kickReseed_pke  (s : State) : (kickReseed s).pke = s.pke :=
  congrArg (f := State.pke) (a₁ := sober _) (a₂ := sober s) (sober_kickReseed  s)
@[simp] theorem kickReseed_heath  (s : State) : (kickReseed s).heath = s.heath :=
  congrArg (f := State.heath) (a₁ := sober _) (a₂ := sober s) (sober_kickReseed  s)
@[simp] theorem kickReseed_wd  (s : State) : (kickReseed s).wd = s.wd :=
  congrArg (f := State.wd) (a₁ := sober _) (a₂ := sober s) (sober_kickReseed  s)
@[simp] theorem kickReseed_timers  (s : State) : (kickReseed s).timers = s.timers :=
  congrArg (f := State.timers) (a₁ := sober _) (a₂ := sober s) (sober_kickReseed  s)
@[simp] theorem kickReseed_cus  (s : State) : (kickReseed s).cus = s.cus :=
  congrArg (f := State.cus) (a₁ := sober _) (a₂ := sober s) (sober_kickReseed  s)
@[simp] theorem kickReseed_cuTransients  (s : State) : (kickReseed s).cuTransients = s.cuTransients :=
  congrArg (f := State.cuTransients) (a₁ := sober _) (a₂ := sober s) (sober_kickReseed  s)
@[simp] theorem kickReseed_lc  (s : State) : (kickReseed s).lc = s.lc :=
  congrArg (f := State.lc) (a₁ := sober _) (a₂ := sober s) (sober_kickReseed  s)
@[simp] theorem kickReseed_tap  (s : State) : (kickReseed s).tap = s.tap :=
  congrArg (f := State.tap) (a₁ := sober _) (a₂ := sober s) (sober_kickReseed  s)
@[simp] theorem kickReseed_spdm  (s : State) : (kickReseed s).spdm = s.spdm :=
  congrArg (f := State.spdm) (a₁ := sober _) (a₂ := sober s) (sober_kickReseed  s)
@[simp] theorem kickReseed_mports  (s : State) : (kickReseed s).mports = s.mports :=
  congrArg (f := State.mports) (a₁ := sober _) (a₂ := sober s) (sober_kickReseed  s)
@[simp] theorem kickReseed_ports  (s : State) : (kickReseed s).ports = s.ports :=
  congrArg (f := State.ports) (a₁ := sober _) (a₂ := sober s) (sober_kickReseed  s)
@[simp] theorem kickReseed_steps  (s : State) : (kickReseed s).steps = s.steps := ground_steps (kickReseed_ground  s)
@[simp] theorem wireDeliver_pending (c : Nat) (s : State) : (wireDeliver c s).pending = s.pending :=
  congrArg (f := State.pending) (a₁ := sober _) (a₂ := sober s) (sober_wireDeliver c s)
@[simp] theorem wireDeliver_freeCount (c : Nat) (s : State) : (wireDeliver c s).freeCount = s.freeCount :=
  congrArg (f := State.freeCount) (a₁ := sober _) (a₂ := sober s) (sober_wireDeliver c s)
@[simp] theorem wireDeliver_now (c : Nat) (s : State) : (wireDeliver c s).now = s.now :=
  congrArg (f := State.now) (a₁ := sober _) (a₂ := sober s) (sober_wireDeliver c s)
@[simp] theorem wireDeliver_subUs (c : Nat) (s : State) : (wireDeliver c s).subUs = s.subUs :=
  congrArg (f := State.subUs) (a₁ := sober _) (a₂ := sober s) (sober_wireDeliver c s)
@[simp] theorem wireDeliver_tbUs (c : Nat) (s : State) : (wireDeliver c s).tbUs = s.tbUs :=
  congrArg (f := State.tbUs) (a₁ := sober _) (a₂ := sober s) (sober_wireDeliver c s)
@[simp] theorem wireDeliver_tbEpoch (c : Nat) (s : State) : (wireDeliver c s).tbEpoch = s.tbEpoch :=
  congrArg (f := State.tbEpoch) (a₁ := sober _) (a₂ := sober s) (sober_wireDeliver c s)
@[simp] theorem wireDeliver_refclk (c : Nat) (s : State) : (wireDeliver c s).refclk = s.refclk :=
  congrArg (f := State.refclk) (a₁ := sober _) (a₂ := sober s) (sober_wireDeliver c s)
@[simp] theorem wireDeliver_pllLock (c : Nat) (s : State) : (wireDeliver c s).pllLock = s.pllLock :=
  congrArg (f := State.pllLock) (a₁ := sober _) (a₂ := sober s) (sober_wireDeliver c s)
@[simp] theorem wireDeliver_gapPeriods (c : Nat) (s : State) : (wireDeliver c s).gapPeriods = s.gapPeriods :=
  congrArg (f := State.gapPeriods) (a₁ := sober _) (a₂ := sober s) (sober_wireDeliver c s)
@[simp] theorem wireDeliver_refclkLosses (c : Nat) (s : State) : (wireDeliver c s).refclkLosses = s.refclkLosses :=
  congrArg (f := State.refclkLosses) (a₁ := sober _) (a₂ := sober s) (sober_wireDeliver c s)
@[simp] theorem wireDeliver_refclkLastGap (c : Nat) (s : State) : (wireDeliver c s).refclkLastGap = s.refclkLastGap :=
  congrArg (f := State.refclkLastGap) (a₁ := sober _) (a₂ := sober s) (sober_wireDeliver c s)
@[simp] theorem wireDeliver_porPin (c : Nat) (s : State) : (wireDeliver c s).porPin = s.porPin :=
  congrArg (f := State.porPin) (a₁ := sober _) (a₂ := sober s) (sober_wireDeliver c s)
@[simp] theorem wireDeliver_porN (c : Nat) (s : State) : (wireDeliver c s).porN = s.porN :=
  congrArg (f := State.porN) (a₁ := sober _) (a₂ := sober s) (sober_wireDeliver c s)
@[simp] theorem wireDeliver_straps (c : Nat) (s : State) : (wireDeliver c s).straps = s.straps :=
  congrArg (f := State.straps) (a₁ := sober _) (a₂ := sober s) (sober_wireDeliver c s)
@[simp] theorem wireDeliver_phase (c : Nat) (s : State) : (wireDeliver c s).phase = s.phase :=
  congrArg (f := State.phase) (a₁ := sober _) (a₂ := sober s) (sober_wireDeliver c s)
@[simp] theorem wireDeliver_resetCause (c : Nat) (s : State) : (wireDeliver c s).resetCause = s.resetCause :=
  congrArg (f := State.resetCause) (a₁ := sober _) (a₂ := sober s) (sober_wireDeliver c s)
@[simp] theorem wireDeliver_rtCopy (c : Nat) (s : State) : (wireDeliver c s).rtCopy = s.rtCopy :=
  congrArg (f := State.rtCopy) (a₁ := sober _) (a₂ := sober s) (sober_wireDeliver c s)
@[simp] theorem wireDeliver_deviceResets (c : Nat) (s : State) : (wireDeliver c s).deviceResets = s.deviceResets :=
  congrArg (f := State.deviceResets) (a₁ := sober _) (a₂ := sober s) (sober_wireDeliver c s)
@[simp] theorem wireDeliver_coreRestarts (c : Nat) (s : State) : (wireDeliver c s).coreRestarts = s.coreRestarts :=
  congrArg (f := State.coreRestarts) (a₁ := sober _) (a₂ := sober s) (sober_wireDeliver c s)
@[simp] theorem wireDeliver_bootAttempts (c : Nat) (s : State) : (wireDeliver c s).bootAttempts = s.bootAttempts :=
  congrArg (f := State.bootAttempts) (a₁ := sober _) (a₂ := sober s) (sober_wireDeliver c s)
@[simp] theorem wireDeliver_deviceResetDue (c : Nat) (s : State) : (wireDeliver c s).deviceResetDue = s.deviceResetDue :=
  congrArg (f := State.deviceResetDue) (a₁ := sober _) (a₂ := sober s) (sober_wireDeliver c s)
@[simp] theorem wireDeliver_coresDown (c : Nat) (s : State) : (wireDeliver c s).coresDown = s.coresDown :=
  congrArg (f := State.coresDown) (a₁ := sober _) (a₂ := sober s) (sober_wireDeliver c s)
@[simp] theorem wireDeliver_coresHeld (c : Nat) (s : State) : (wireDeliver c s).coresHeld = s.coresHeld :=
  congrArg (f := State.coresHeld) (a₁ := sober _) (a₂ := sober s) (sober_wireDeliver c s)
@[simp] theorem wireDeliver_coreHealth (c : Nat) (s : State) : (wireDeliver c s).coreHealth = s.coreHealth :=
  congrArg (f := State.coreHealth) (a₁ := sober _) (a₂ := sober s) (sober_wireDeliver c s)
@[simp] theorem wireDeliver_halted (c : Nat) (s : State) : (wireDeliver c s).halted = s.halted :=
  congrArg (f := State.halted) (a₁ := sober _) (a₂ := sober s) (sober_wireDeliver c s)
@[simp] theorem wireDeliver_mgmtUp (c : Nat) (s : State) : (wireDeliver c s).mgmtUp = s.mgmtUp :=
  congrArg (f := State.mgmtUp) (a₁ := sober _) (a₂ := sober s) (sober_wireDeliver c s)
@[simp] theorem wireDeliver_testHonoured (c : Nat) (s : State) : (wireDeliver c s).testHonoured = s.testHonoured :=
  congrArg (f := State.testHonoured) (a₁ := sober _) (a₂ := sober s) (sober_wireDeliver c s)
@[simp] theorem wireDeliver_recoveryByRuntime (c : Nat) (s : State) : (wireDeliver c s).recoveryByRuntime = s.recoveryByRuntime :=
  congrArg (f := State.recoveryByRuntime) (a₁ := sober _) (a₂ := sober s) (sober_wireDeliver c s)
@[simp] theorem wireDeliver_rtImage (c : Nat) (s : State) : (wireDeliver c s).rtImage = s.rtImage :=
  congrArg (f := State.rtImage) (a₁ := sober _) (a₂ := sober s) (sober_wireDeliver c s)
@[simp] theorem wireDeliver_rtInstallResult (c : Nat) (s : State) : (wireDeliver c s).rtInstallResult = s.rtInstallResult :=
  congrArg (f := State.rtInstallResult) (a₁ := sober _) (a₂ := sober s) (sober_wireDeliver c s)
@[simp] theorem wireDeliver_rtBuild (c : Nat) (s : State) : (wireDeliver c s).rtBuild = s.rtBuild :=
  congrArg (f := State.rtBuild) (a₁ := sober _) (a₂ := sober s) (sober_wireDeliver c s)
@[simp] theorem wireDeliver_rtSvn (c : Nat) (s : State) : (wireDeliver c s).rtSvn = s.rtSvn :=
  congrArg (f := State.rtSvn) (a₁ := sober _) (a₂ := sober s) (sober_wireDeliver c s)
@[simp] theorem wireDeliver_rtDigest (c : Nat) (s : State) : (wireDeliver c s).rtDigest = s.rtDigest :=
  congrArg (f := State.rtDigest) (a₁ := sober _) (a₂ := sober s) (sober_wireDeliver c s)
@[simp] theorem wireDeliver_katResults (c : Nat) (s : State) : (wireDeliver c s).katResults = s.katResults :=
  congrArg (f := State.katResults) (a₁ := sober _) (a₂ := sober s) (sober_wireDeliver c s)
@[simp] theorem wireDeliver_digestHealth (c : Nat) (s : State) : (wireDeliver c s).digestHealth = s.digestHealth :=
  congrArg (f := State.digestHealth) (a₁ := sober _) (a₂ := sober s) (sober_wireDeliver c s)
@[simp] theorem wireDeliver_dgTransients (c : Nat) (s : State) : (wireDeliver c s).dgTransients = s.dgTransients :=
  congrArg (f := State.dgTransients) (a₁ := sober _) (a₂ := sober s) (sober_wireDeliver c s)
@[simp] theorem wireDeliver_cipherHealth (c : Nat) (s : State) : (wireDeliver c s).cipherHealth = s.cipherHealth :=
  congrArg (f := State.cipherHealth) (a₁ := sober _) (a₂ := sober s) (sober_wireDeliver c s)
@[simp] theorem wireDeliver_cxTransients (c : Nat) (s : State) : (wireDeliver c s).cxTransients = s.cxTransients :=
  congrArg (f := State.cxTransients) (a₁ := sober _) (a₂ := sober s) (sober_wireDeliver c s)
@[simp] theorem wireDeliver_freshAtHeath (c : Nat) (s : State) : (wireDeliver c s).freshAtHeath = s.freshAtHeath :=
  congrArg (f := State.freshAtHeath) (a₁ := sober _) (a₂ := sober s) (sober_wireDeliver c s)
@[simp] theorem wireDeliver_pacePs (c : Nat) (s : State) : (wireDeliver c s).pacePs = s.pacePs :=
  congrArg (f := State.pacePs) (a₁ := sober _) (a₂ := sober s) (sober_wireDeliver c s)
@[simp] theorem wireDeliver_paceMaxPs (c : Nat) (s : State) : (wireDeliver c s).paceMaxPs = s.paceMaxPs :=
  congrArg (f := State.paceMaxPs) (a₁ := sober _) (a₂ := sober s) (sober_wireDeliver c s)
@[simp] theorem wireDeliver_paceArmed (c : Nat) (s : State) : (wireDeliver c s).paceArmed = s.paceArmed :=
  congrArg (f := State.paceArmed) (a₁ := sober _) (a₂ := sober s) (sober_wireDeliver c s)
@[simp] theorem wireDeliver_tj (c : Nat) (s : State) : (wireDeliver c s).tj = s.tj :=
  congrArg (f := State.tj) (a₁ := sober _) (a₂ := sober s) (sober_wireDeliver c s)
@[simp] theorem wireDeliver_tjMax (c : Nat) (s : State) : (wireDeliver c s).tjMax = s.tjMax :=
  congrArg (f := State.tjMax) (a₁ := sober _) (a₂ := sober s) (sober_wireDeliver c s)
@[simp] theorem wireDeliver_railMv (c : Nat) (s : State) : (wireDeliver c s).railMv = s.railMv :=
  congrArg (f := State.railMv) (a₁ := sober _) (a₂ := sober s) (sober_wireDeliver c s)
@[simp] theorem wireDeliver_railMin (c : Nat) (s : State) : (wireDeliver c s).railMin = s.railMin :=
  congrArg (f := State.railMin) (a₁ := sober _) (a₂ := sober s) (sober_wireDeliver c s)
@[simp] theorem wireDeliver_railMax (c : Nat) (s : State) : (wireDeliver c s).railMax = s.railMax :=
  congrArg (f := State.railMax) (a₁ := sober _) (a₂ := sober s) (sober_wireDeliver c s)
@[simp] theorem wireDeliver_secCount (c : Nat) (s : State) : (wireDeliver c s).secCount = s.secCount :=
  congrArg (f := State.secCount) (a₁ := sober _) (a₂ := sober s) (sober_wireDeliver c s)
@[simp] theorem wireDeliver_dedCount (c : Nat) (s : State) : (wireDeliver c s).dedCount = s.dedCount :=
  congrArg (f := State.dedCount) (a₁ := sober _) (a₂ := sober s) (sober_wireDeliver c s)
@[simp] theorem wireDeliver_scrubPasses (c : Nat) (s : State) : (wireDeliver c s).scrubPasses = s.scrubPasses :=
  congrArg (f := State.scrubPasses) (a₁ := sober _) (a₂ := sober s) (sober_wireDeliver c s)
@[simp] theorem wireDeliver_scrubLast (c : Nat) (s : State) : (wireDeliver c s).scrubLast = s.scrubLast :=
  congrArg (f := State.scrubLast) (a₁ := sober _) (a₂ := sober s) (sober_wireDeliver c s)
@[simp] theorem wireDeliver_scrubPos (c : Nat) (s : State) : (wireDeliver c s).scrubPos = s.scrubPos :=
  congrArg (f := State.scrubPos) (a₁ := sober _) (a₂ := sober s) (sober_wireDeliver c s)
@[simp] theorem wireDeliver_bistResult (c : Nat) (s : State) : (wireDeliver c s).bistResult = s.bistResult :=
  congrArg (f := State.bistResult) (a₁ := sober _) (a₂ := sober s) (sober_wireDeliver c s)
@[simp] theorem wireDeliver_injWord (c : Nat) (s : State) : (wireDeliver c s).injWord = s.injWord :=
  congrArg (f := State.injWord) (a₁ := sober _) (a₂ := sober s) (sober_wireDeliver c s)
@[simp] theorem wireDeliver_injMask (c : Nat) (s : State) : (wireDeliver c s).injMask = s.injMask :=
  congrArg (f := State.injMask) (a₁ := sober _) (a₂ := sober s) (sober_wireDeliver c s)
@[simp] theorem wireDeliver_unitResult (c : Nat) (s : State) : (wireDeliver c s).unitResult = s.unitResult :=
  congrArg (f := State.unitResult) (a₁ := sober _) (a₂ := sober s) (sober_wireDeliver c s)
@[simp] theorem wireDeliver_logicSig (c : Nat) (s : State) : (wireDeliver c s).logicSig = s.logicSig :=
  congrArg (f := State.logicSig) (a₁ := sober _) (a₂ := sober s) (sober_wireDeliver c s)
@[simp] theorem wireDeliver_cfg (c : Nat) (s : State) : (wireDeliver c s).cfg = s.cfg :=
  congrArg (f := State.cfg) (a₁ := sober _) (a₂ := sober s) (sober_wireDeliver c s)
@[simp] theorem wireDeliver_commits (c : Nat) (s : State) : (wireDeliver c s).commits = s.commits :=
  congrArg (f := State.commits) (a₁ := sober _) (a₂ := sober s) (sober_wireDeliver c s)
@[simp] theorem wireDeliver_lastCommitPort (c : Nat) (s : State) : (wireDeliver c s).lastCommitPort = s.lastCommitPort :=
  congrArg (f := State.lastCommitPort) (a₁ := sober _) (a₂ := sober s) (sober_wireDeliver c s)
@[simp] theorem wireDeliver_lastCommitUs (c : Nat) (s : State) : (wireDeliver c s).lastCommitUs = s.lastCommitUs :=
  congrArg (f := State.lastCommitUs) (a₁ := sober _) (a₂ := sober s) (sober_wireDeliver c s)
@[simp] theorem wireDeliver_faReads (c : Nat) (s : State) : (wireDeliver c s).faReads = s.faReads :=
  congrArg (f := State.faReads) (a₁ := sober _) (a₂ := sober s) (sober_wireDeliver c s)
@[simp] theorem wireDeliver_chans (c : Nat) (s : State) : (wireDeliver c s).chans = s.chans :=
  congrArg (f := State.chans) (a₁ := sober _) (a₂ := sober s) (sober_wireDeliver c s)
@[simp] theorem wireDeliver_fallow (c : Nat) (s : State) : (wireDeliver c s).fallow = s.fallow :=
  congrArg (f := State.fallow) (a₁ := sober _) (a₂ := sober s) (sober_wireDeliver c s)
@[simp] theorem wireDeliver_hedgerow (c : Nat) (s : State) : (wireDeliver c s).hedgerow = s.hedgerow :=
  congrArg (f := State.hedgerow) (a₁ := sober _) (a₂ := sober s) (sober_wireDeliver c s)
@[simp] theorem wireDeliver_hayloft (c : Nat) (s : State) : (wireDeliver c s).hayloft = s.hayloft :=
  congrArg (f := State.hayloft) (a₁ := sober _) (a₂ := sober s) (sober_wireDeliver c s)
@[simp] theorem wireDeliver_vault (c : Nat) (s : State) : (wireDeliver c s).vault = s.vault :=
  congrArg (f := State.vault) (a₁ := sober _) (a₂ := sober s) (sober_wireDeliver c s)
@[simp] theorem wireDeliver_update (c : Nat) (s : State) : (wireDeliver c s).update = s.update :=
  congrArg (f := State.update) (a₁ := sober _) (a₂ := sober s) (sober_wireDeliver c s)
@[simp] theorem wireDeliver_banks (c : Nat) (s : State) : (wireDeliver c s).banks = s.banks :=
  congrArg (f := State.banks) (a₁ := sober _) (a₂ := sober s) (sober_wireDeliver c s)
@[simp] theorem wireDeliver_cxs (c : Nat) (s : State) : (wireDeliver c s).cxs = s.cxs :=
  congrArg (f := State.cxs) (a₁ := sober _) (a₂ := sober s) (sober_wireDeliver c s)
@[simp] theorem wireDeliver_pke (c : Nat) (s : State) : (wireDeliver c s).pke = s.pke :=
  congrArg (f := State.pke) (a₁ := sober _) (a₂ := sober s) (sober_wireDeliver c s)
@[simp] theorem wireDeliver_heath (c : Nat) (s : State) : (wireDeliver c s).heath = s.heath :=
  congrArg (f := State.heath) (a₁ := sober _) (a₂ := sober s) (sober_wireDeliver c s)
@[simp] theorem wireDeliver_wd (c : Nat) (s : State) : (wireDeliver c s).wd = s.wd :=
  congrArg (f := State.wd) (a₁ := sober _) (a₂ := sober s) (sober_wireDeliver c s)
@[simp] theorem wireDeliver_timers (c : Nat) (s : State) : (wireDeliver c s).timers = s.timers :=
  congrArg (f := State.timers) (a₁ := sober _) (a₂ := sober s) (sober_wireDeliver c s)
@[simp] theorem wireDeliver_cus (c : Nat) (s : State) : (wireDeliver c s).cus = s.cus :=
  congrArg (f := State.cus) (a₁ := sober _) (a₂ := sober s) (sober_wireDeliver c s)
@[simp] theorem wireDeliver_cuTransients (c : Nat) (s : State) : (wireDeliver c s).cuTransients = s.cuTransients :=
  congrArg (f := State.cuTransients) (a₁ := sober _) (a₂ := sober s) (sober_wireDeliver c s)
@[simp] theorem wireDeliver_lc (c : Nat) (s : State) : (wireDeliver c s).lc = s.lc :=
  congrArg (f := State.lc) (a₁ := sober _) (a₂ := sober s) (sober_wireDeliver c s)
@[simp] theorem wireDeliver_tap (c : Nat) (s : State) : (wireDeliver c s).tap = s.tap :=
  congrArg (f := State.tap) (a₁ := sober _) (a₂ := sober s) (sober_wireDeliver c s)
@[simp] theorem wireDeliver_spdm (c : Nat) (s : State) : (wireDeliver c s).spdm = s.spdm :=
  congrArg (f := State.spdm) (a₁ := sober _) (a₂ := sober s) (sober_wireDeliver c s)
@[simp] theorem wireDeliver_mports (c : Nat) (s : State) : (wireDeliver c s).mports = s.mports :=
  congrArg (f := State.mports) (a₁ := sober _) (a₂ := sober s) (sober_wireDeliver c s)
@[simp] theorem wireDeliver_ports (c : Nat) (s : State) : (wireDeliver c s).ports = s.ports :=
  congrArg (f := State.ports) (a₁ := sober _) (a₂ := sober s) (sober_wireDeliver c s)
@[simp] theorem wireDeliver_steps (c : Nat) (s : State) : (wireDeliver c s).steps = s.steps := ground_steps (wireDeliver_ground c s)
@[simp] theorem wireTimeout_pending (c : Nat) (s : State) : (wireTimeout c s).pending = s.pending :=
  congrArg (f := State.pending) (a₁ := sober _) (a₂ := sober s) (sober_wireTimeout c s)
@[simp] theorem wireTimeout_freeCount (c : Nat) (s : State) : (wireTimeout c s).freeCount = s.freeCount :=
  congrArg (f := State.freeCount) (a₁ := sober _) (a₂ := sober s) (sober_wireTimeout c s)
@[simp] theorem wireTimeout_now (c : Nat) (s : State) : (wireTimeout c s).now = s.now :=
  congrArg (f := State.now) (a₁ := sober _) (a₂ := sober s) (sober_wireTimeout c s)
@[simp] theorem wireTimeout_subUs (c : Nat) (s : State) : (wireTimeout c s).subUs = s.subUs :=
  congrArg (f := State.subUs) (a₁ := sober _) (a₂ := sober s) (sober_wireTimeout c s)
@[simp] theorem wireTimeout_tbUs (c : Nat) (s : State) : (wireTimeout c s).tbUs = s.tbUs :=
  congrArg (f := State.tbUs) (a₁ := sober _) (a₂ := sober s) (sober_wireTimeout c s)
@[simp] theorem wireTimeout_tbEpoch (c : Nat) (s : State) : (wireTimeout c s).tbEpoch = s.tbEpoch :=
  congrArg (f := State.tbEpoch) (a₁ := sober _) (a₂ := sober s) (sober_wireTimeout c s)
@[simp] theorem wireTimeout_refclk (c : Nat) (s : State) : (wireTimeout c s).refclk = s.refclk :=
  congrArg (f := State.refclk) (a₁ := sober _) (a₂ := sober s) (sober_wireTimeout c s)
@[simp] theorem wireTimeout_pllLock (c : Nat) (s : State) : (wireTimeout c s).pllLock = s.pllLock :=
  congrArg (f := State.pllLock) (a₁ := sober _) (a₂ := sober s) (sober_wireTimeout c s)
@[simp] theorem wireTimeout_gapPeriods (c : Nat) (s : State) : (wireTimeout c s).gapPeriods = s.gapPeriods :=
  congrArg (f := State.gapPeriods) (a₁ := sober _) (a₂ := sober s) (sober_wireTimeout c s)
@[simp] theorem wireTimeout_refclkLosses (c : Nat) (s : State) : (wireTimeout c s).refclkLosses = s.refclkLosses :=
  congrArg (f := State.refclkLosses) (a₁ := sober _) (a₂ := sober s) (sober_wireTimeout c s)
@[simp] theorem wireTimeout_refclkLastGap (c : Nat) (s : State) : (wireTimeout c s).refclkLastGap = s.refclkLastGap :=
  congrArg (f := State.refclkLastGap) (a₁ := sober _) (a₂ := sober s) (sober_wireTimeout c s)
@[simp] theorem wireTimeout_porPin (c : Nat) (s : State) : (wireTimeout c s).porPin = s.porPin :=
  congrArg (f := State.porPin) (a₁ := sober _) (a₂ := sober s) (sober_wireTimeout c s)
@[simp] theorem wireTimeout_porN (c : Nat) (s : State) : (wireTimeout c s).porN = s.porN :=
  congrArg (f := State.porN) (a₁ := sober _) (a₂ := sober s) (sober_wireTimeout c s)
@[simp] theorem wireTimeout_straps (c : Nat) (s : State) : (wireTimeout c s).straps = s.straps :=
  congrArg (f := State.straps) (a₁ := sober _) (a₂ := sober s) (sober_wireTimeout c s)
@[simp] theorem wireTimeout_phase (c : Nat) (s : State) : (wireTimeout c s).phase = s.phase :=
  congrArg (f := State.phase) (a₁ := sober _) (a₂ := sober s) (sober_wireTimeout c s)
@[simp] theorem wireTimeout_resetCause (c : Nat) (s : State) : (wireTimeout c s).resetCause = s.resetCause :=
  congrArg (f := State.resetCause) (a₁ := sober _) (a₂ := sober s) (sober_wireTimeout c s)
@[simp] theorem wireTimeout_rtCopy (c : Nat) (s : State) : (wireTimeout c s).rtCopy = s.rtCopy :=
  congrArg (f := State.rtCopy) (a₁ := sober _) (a₂ := sober s) (sober_wireTimeout c s)
@[simp] theorem wireTimeout_deviceResets (c : Nat) (s : State) : (wireTimeout c s).deviceResets = s.deviceResets :=
  congrArg (f := State.deviceResets) (a₁ := sober _) (a₂ := sober s) (sober_wireTimeout c s)
@[simp] theorem wireTimeout_coreRestarts (c : Nat) (s : State) : (wireTimeout c s).coreRestarts = s.coreRestarts :=
  congrArg (f := State.coreRestarts) (a₁ := sober _) (a₂ := sober s) (sober_wireTimeout c s)
@[simp] theorem wireTimeout_bootAttempts (c : Nat) (s : State) : (wireTimeout c s).bootAttempts = s.bootAttempts :=
  congrArg (f := State.bootAttempts) (a₁ := sober _) (a₂ := sober s) (sober_wireTimeout c s)
@[simp] theorem wireTimeout_deviceResetDue (c : Nat) (s : State) : (wireTimeout c s).deviceResetDue = s.deviceResetDue :=
  congrArg (f := State.deviceResetDue) (a₁ := sober _) (a₂ := sober s) (sober_wireTimeout c s)
@[simp] theorem wireTimeout_coresDown (c : Nat) (s : State) : (wireTimeout c s).coresDown = s.coresDown :=
  congrArg (f := State.coresDown) (a₁ := sober _) (a₂ := sober s) (sober_wireTimeout c s)
@[simp] theorem wireTimeout_coresHeld (c : Nat) (s : State) : (wireTimeout c s).coresHeld = s.coresHeld :=
  congrArg (f := State.coresHeld) (a₁ := sober _) (a₂ := sober s) (sober_wireTimeout c s)
@[simp] theorem wireTimeout_coreHealth (c : Nat) (s : State) : (wireTimeout c s).coreHealth = s.coreHealth :=
  congrArg (f := State.coreHealth) (a₁ := sober _) (a₂ := sober s) (sober_wireTimeout c s)
@[simp] theorem wireTimeout_halted (c : Nat) (s : State) : (wireTimeout c s).halted = s.halted :=
  congrArg (f := State.halted) (a₁ := sober _) (a₂ := sober s) (sober_wireTimeout c s)
@[simp] theorem wireTimeout_mgmtUp (c : Nat) (s : State) : (wireTimeout c s).mgmtUp = s.mgmtUp :=
  congrArg (f := State.mgmtUp) (a₁ := sober _) (a₂ := sober s) (sober_wireTimeout c s)
@[simp] theorem wireTimeout_testHonoured (c : Nat) (s : State) : (wireTimeout c s).testHonoured = s.testHonoured :=
  congrArg (f := State.testHonoured) (a₁ := sober _) (a₂ := sober s) (sober_wireTimeout c s)
@[simp] theorem wireTimeout_recoveryByRuntime (c : Nat) (s : State) : (wireTimeout c s).recoveryByRuntime = s.recoveryByRuntime :=
  congrArg (f := State.recoveryByRuntime) (a₁ := sober _) (a₂ := sober s) (sober_wireTimeout c s)
@[simp] theorem wireTimeout_rtImage (c : Nat) (s : State) : (wireTimeout c s).rtImage = s.rtImage :=
  congrArg (f := State.rtImage) (a₁ := sober _) (a₂ := sober s) (sober_wireTimeout c s)
@[simp] theorem wireTimeout_rtInstallResult (c : Nat) (s : State) : (wireTimeout c s).rtInstallResult = s.rtInstallResult :=
  congrArg (f := State.rtInstallResult) (a₁ := sober _) (a₂ := sober s) (sober_wireTimeout c s)
@[simp] theorem wireTimeout_rtBuild (c : Nat) (s : State) : (wireTimeout c s).rtBuild = s.rtBuild :=
  congrArg (f := State.rtBuild) (a₁ := sober _) (a₂ := sober s) (sober_wireTimeout c s)
@[simp] theorem wireTimeout_rtSvn (c : Nat) (s : State) : (wireTimeout c s).rtSvn = s.rtSvn :=
  congrArg (f := State.rtSvn) (a₁ := sober _) (a₂ := sober s) (sober_wireTimeout c s)
@[simp] theorem wireTimeout_rtDigest (c : Nat) (s : State) : (wireTimeout c s).rtDigest = s.rtDigest :=
  congrArg (f := State.rtDigest) (a₁ := sober _) (a₂ := sober s) (sober_wireTimeout c s)
@[simp] theorem wireTimeout_katResults (c : Nat) (s : State) : (wireTimeout c s).katResults = s.katResults :=
  congrArg (f := State.katResults) (a₁ := sober _) (a₂ := sober s) (sober_wireTimeout c s)
@[simp] theorem wireTimeout_digestHealth (c : Nat) (s : State) : (wireTimeout c s).digestHealth = s.digestHealth :=
  congrArg (f := State.digestHealth) (a₁ := sober _) (a₂ := sober s) (sober_wireTimeout c s)
@[simp] theorem wireTimeout_dgTransients (c : Nat) (s : State) : (wireTimeout c s).dgTransients = s.dgTransients :=
  congrArg (f := State.dgTransients) (a₁ := sober _) (a₂ := sober s) (sober_wireTimeout c s)
@[simp] theorem wireTimeout_cipherHealth (c : Nat) (s : State) : (wireTimeout c s).cipherHealth = s.cipherHealth :=
  congrArg (f := State.cipherHealth) (a₁ := sober _) (a₂ := sober s) (sober_wireTimeout c s)
@[simp] theorem wireTimeout_cxTransients (c : Nat) (s : State) : (wireTimeout c s).cxTransients = s.cxTransients :=
  congrArg (f := State.cxTransients) (a₁ := sober _) (a₂ := sober s) (sober_wireTimeout c s)
@[simp] theorem wireTimeout_freshAtHeath (c : Nat) (s : State) : (wireTimeout c s).freshAtHeath = s.freshAtHeath :=
  congrArg (f := State.freshAtHeath) (a₁ := sober _) (a₂ := sober s) (sober_wireTimeout c s)
@[simp] theorem wireTimeout_pacePs (c : Nat) (s : State) : (wireTimeout c s).pacePs = s.pacePs :=
  congrArg (f := State.pacePs) (a₁ := sober _) (a₂ := sober s) (sober_wireTimeout c s)
@[simp] theorem wireTimeout_paceMaxPs (c : Nat) (s : State) : (wireTimeout c s).paceMaxPs = s.paceMaxPs :=
  congrArg (f := State.paceMaxPs) (a₁ := sober _) (a₂ := sober s) (sober_wireTimeout c s)
@[simp] theorem wireTimeout_paceArmed (c : Nat) (s : State) : (wireTimeout c s).paceArmed = s.paceArmed :=
  congrArg (f := State.paceArmed) (a₁ := sober _) (a₂ := sober s) (sober_wireTimeout c s)
@[simp] theorem wireTimeout_tj (c : Nat) (s : State) : (wireTimeout c s).tj = s.tj :=
  congrArg (f := State.tj) (a₁ := sober _) (a₂ := sober s) (sober_wireTimeout c s)
@[simp] theorem wireTimeout_tjMax (c : Nat) (s : State) : (wireTimeout c s).tjMax = s.tjMax :=
  congrArg (f := State.tjMax) (a₁ := sober _) (a₂ := sober s) (sober_wireTimeout c s)
@[simp] theorem wireTimeout_railMv (c : Nat) (s : State) : (wireTimeout c s).railMv = s.railMv :=
  congrArg (f := State.railMv) (a₁ := sober _) (a₂ := sober s) (sober_wireTimeout c s)
@[simp] theorem wireTimeout_railMin (c : Nat) (s : State) : (wireTimeout c s).railMin = s.railMin :=
  congrArg (f := State.railMin) (a₁ := sober _) (a₂ := sober s) (sober_wireTimeout c s)
@[simp] theorem wireTimeout_railMax (c : Nat) (s : State) : (wireTimeout c s).railMax = s.railMax :=
  congrArg (f := State.railMax) (a₁ := sober _) (a₂ := sober s) (sober_wireTimeout c s)
@[simp] theorem wireTimeout_secCount (c : Nat) (s : State) : (wireTimeout c s).secCount = s.secCount :=
  congrArg (f := State.secCount) (a₁ := sober _) (a₂ := sober s) (sober_wireTimeout c s)
@[simp] theorem wireTimeout_dedCount (c : Nat) (s : State) : (wireTimeout c s).dedCount = s.dedCount :=
  congrArg (f := State.dedCount) (a₁ := sober _) (a₂ := sober s) (sober_wireTimeout c s)
@[simp] theorem wireTimeout_scrubPasses (c : Nat) (s : State) : (wireTimeout c s).scrubPasses = s.scrubPasses :=
  congrArg (f := State.scrubPasses) (a₁ := sober _) (a₂ := sober s) (sober_wireTimeout c s)
@[simp] theorem wireTimeout_scrubLast (c : Nat) (s : State) : (wireTimeout c s).scrubLast = s.scrubLast :=
  congrArg (f := State.scrubLast) (a₁ := sober _) (a₂ := sober s) (sober_wireTimeout c s)
@[simp] theorem wireTimeout_scrubPos (c : Nat) (s : State) : (wireTimeout c s).scrubPos = s.scrubPos :=
  congrArg (f := State.scrubPos) (a₁ := sober _) (a₂ := sober s) (sober_wireTimeout c s)
@[simp] theorem wireTimeout_bistResult (c : Nat) (s : State) : (wireTimeout c s).bistResult = s.bistResult :=
  congrArg (f := State.bistResult) (a₁ := sober _) (a₂ := sober s) (sober_wireTimeout c s)
@[simp] theorem wireTimeout_injWord (c : Nat) (s : State) : (wireTimeout c s).injWord = s.injWord :=
  congrArg (f := State.injWord) (a₁ := sober _) (a₂ := sober s) (sober_wireTimeout c s)
@[simp] theorem wireTimeout_injMask (c : Nat) (s : State) : (wireTimeout c s).injMask = s.injMask :=
  congrArg (f := State.injMask) (a₁ := sober _) (a₂ := sober s) (sober_wireTimeout c s)
@[simp] theorem wireTimeout_unitResult (c : Nat) (s : State) : (wireTimeout c s).unitResult = s.unitResult :=
  congrArg (f := State.unitResult) (a₁ := sober _) (a₂ := sober s) (sober_wireTimeout c s)
@[simp] theorem wireTimeout_logicSig (c : Nat) (s : State) : (wireTimeout c s).logicSig = s.logicSig :=
  congrArg (f := State.logicSig) (a₁ := sober _) (a₂ := sober s) (sober_wireTimeout c s)
@[simp] theorem wireTimeout_cfg (c : Nat) (s : State) : (wireTimeout c s).cfg = s.cfg :=
  congrArg (f := State.cfg) (a₁ := sober _) (a₂ := sober s) (sober_wireTimeout c s)
@[simp] theorem wireTimeout_commits (c : Nat) (s : State) : (wireTimeout c s).commits = s.commits :=
  congrArg (f := State.commits) (a₁ := sober _) (a₂ := sober s) (sober_wireTimeout c s)
@[simp] theorem wireTimeout_lastCommitPort (c : Nat) (s : State) : (wireTimeout c s).lastCommitPort = s.lastCommitPort :=
  congrArg (f := State.lastCommitPort) (a₁ := sober _) (a₂ := sober s) (sober_wireTimeout c s)
@[simp] theorem wireTimeout_lastCommitUs (c : Nat) (s : State) : (wireTimeout c s).lastCommitUs = s.lastCommitUs :=
  congrArg (f := State.lastCommitUs) (a₁ := sober _) (a₂ := sober s) (sober_wireTimeout c s)
@[simp] theorem wireTimeout_faReads (c : Nat) (s : State) : (wireTimeout c s).faReads = s.faReads :=
  congrArg (f := State.faReads) (a₁ := sober _) (a₂ := sober s) (sober_wireTimeout c s)
@[simp] theorem wireTimeout_chans (c : Nat) (s : State) : (wireTimeout c s).chans = s.chans :=
  congrArg (f := State.chans) (a₁ := sober _) (a₂ := sober s) (sober_wireTimeout c s)
@[simp] theorem wireTimeout_fallow (c : Nat) (s : State) : (wireTimeout c s).fallow = s.fallow :=
  congrArg (f := State.fallow) (a₁ := sober _) (a₂ := sober s) (sober_wireTimeout c s)
@[simp] theorem wireTimeout_hedgerow (c : Nat) (s : State) : (wireTimeout c s).hedgerow = s.hedgerow :=
  congrArg (f := State.hedgerow) (a₁ := sober _) (a₂ := sober s) (sober_wireTimeout c s)
@[simp] theorem wireTimeout_hayloft (c : Nat) (s : State) : (wireTimeout c s).hayloft = s.hayloft :=
  congrArg (f := State.hayloft) (a₁ := sober _) (a₂ := sober s) (sober_wireTimeout c s)
@[simp] theorem wireTimeout_vault (c : Nat) (s : State) : (wireTimeout c s).vault = s.vault :=
  congrArg (f := State.vault) (a₁ := sober _) (a₂ := sober s) (sober_wireTimeout c s)
@[simp] theorem wireTimeout_update (c : Nat) (s : State) : (wireTimeout c s).update = s.update :=
  congrArg (f := State.update) (a₁ := sober _) (a₂ := sober s) (sober_wireTimeout c s)
@[simp] theorem wireTimeout_banks (c : Nat) (s : State) : (wireTimeout c s).banks = s.banks :=
  congrArg (f := State.banks) (a₁ := sober _) (a₂ := sober s) (sober_wireTimeout c s)
@[simp] theorem wireTimeout_cxs (c : Nat) (s : State) : (wireTimeout c s).cxs = s.cxs :=
  congrArg (f := State.cxs) (a₁ := sober _) (a₂ := sober s) (sober_wireTimeout c s)
@[simp] theorem wireTimeout_pke (c : Nat) (s : State) : (wireTimeout c s).pke = s.pke :=
  congrArg (f := State.pke) (a₁ := sober _) (a₂ := sober s) (sober_wireTimeout c s)
@[simp] theorem wireTimeout_heath (c : Nat) (s : State) : (wireTimeout c s).heath = s.heath :=
  congrArg (f := State.heath) (a₁ := sober _) (a₂ := sober s) (sober_wireTimeout c s)
@[simp] theorem wireTimeout_wd (c : Nat) (s : State) : (wireTimeout c s).wd = s.wd :=
  congrArg (f := State.wd) (a₁ := sober _) (a₂ := sober s) (sober_wireTimeout c s)
@[simp] theorem wireTimeout_timers (c : Nat) (s : State) : (wireTimeout c s).timers = s.timers :=
  congrArg (f := State.timers) (a₁ := sober _) (a₂ := sober s) (sober_wireTimeout c s)
@[simp] theorem wireTimeout_cus (c : Nat) (s : State) : (wireTimeout c s).cus = s.cus :=
  congrArg (f := State.cus) (a₁ := sober _) (a₂ := sober s) (sober_wireTimeout c s)
@[simp] theorem wireTimeout_cuTransients (c : Nat) (s : State) : (wireTimeout c s).cuTransients = s.cuTransients :=
  congrArg (f := State.cuTransients) (a₁ := sober _) (a₂ := sober s) (sober_wireTimeout c s)
@[simp] theorem wireTimeout_lc (c : Nat) (s : State) : (wireTimeout c s).lc = s.lc :=
  congrArg (f := State.lc) (a₁ := sober _) (a₂ := sober s) (sober_wireTimeout c s)
@[simp] theorem wireTimeout_tap (c : Nat) (s : State) : (wireTimeout c s).tap = s.tap :=
  congrArg (f := State.tap) (a₁ := sober _) (a₂ := sober s) (sober_wireTimeout c s)
@[simp] theorem wireTimeout_spdm (c : Nat) (s : State) : (wireTimeout c s).spdm = s.spdm :=
  congrArg (f := State.spdm) (a₁ := sober _) (a₂ := sober s) (sober_wireTimeout c s)
@[simp] theorem wireTimeout_mports (c : Nat) (s : State) : (wireTimeout c s).mports = s.mports :=
  congrArg (f := State.mports) (a₁ := sober _) (a₂ := sober s) (sober_wireTimeout c s)
@[simp] theorem wireTimeout_ports (c : Nat) (s : State) : (wireTimeout c s).ports = s.ports :=
  congrArg (f := State.ports) (a₁ := sober _) (a₂ := sober s) (sober_wireTimeout c s)
@[simp] theorem wireTimeout_steps (c : Nat) (s : State) : (wireTimeout c s).steps = s.steps := ground_steps (wireTimeout_ground c s)

theorem aside_pending {s t : State} (h : aside t = aside s) : t.pending = s.pending := congrArg Aside.pending h
theorem aside_now {s t : State} (h : aside t = aside s) : t.now = s.now := congrArg Aside.now h
theorem aside_subUs {s t : State} (h : aside t = aside s) : t.subUs = s.subUs := congrArg Aside.subUs h
theorem aside_tbUs {s t : State} (h : aside t = aside s) : t.tbUs = s.tbUs := congrArg Aside.tbUs h
theorem aside_tbEpoch {s t : State} (h : aside t = aside s) : t.tbEpoch = s.tbEpoch := congrArg Aside.tbEpoch h
theorem aside_refclk {s t : State} (h : aside t = aside s) : t.refclk = s.refclk := congrArg Aside.refclk h
theorem aside_pllLock {s t : State} (h : aside t = aside s) : t.pllLock = s.pllLock := congrArg Aside.pllLock h
theorem aside_gapPeriods {s t : State} (h : aside t = aside s) : t.gapPeriods = s.gapPeriods := congrArg Aside.gapPeriods h
theorem aside_refclkLosses {s t : State} (h : aside t = aside s) : t.refclkLosses = s.refclkLosses := congrArg Aside.refclkLosses h
theorem aside_refclkLastGap {s t : State} (h : aside t = aside s) : t.refclkLastGap = s.refclkLastGap := congrArg Aside.refclkLastGap h
theorem aside_porPin {s t : State} (h : aside t = aside s) : t.porPin = s.porPin := congrArg Aside.porPin h
theorem aside_porN {s t : State} (h : aside t = aside s) : t.porN = s.porN := congrArg Aside.porN h
theorem aside_straps {s t : State} (h : aside t = aside s) : t.straps = s.straps := congrArg Aside.straps h
theorem aside_phase {s t : State} (h : aside t = aside s) : t.phase = s.phase := congrArg Aside.phase h
theorem aside_steps {s t : State} (h : aside t = aside s) : t.steps = s.steps := congrArg Aside.steps h
theorem aside_resetCause {s t : State} (h : aside t = aside s) : t.resetCause = s.resetCause := congrArg Aside.resetCause h
theorem aside_rtCopy {s t : State} (h : aside t = aside s) : t.rtCopy = s.rtCopy := congrArg Aside.rtCopy h
theorem aside_deviceResets {s t : State} (h : aside t = aside s) : t.deviceResets = s.deviceResets := congrArg Aside.deviceResets h
theorem aside_coreRestarts {s t : State} (h : aside t = aside s) : t.coreRestarts = s.coreRestarts := congrArg Aside.coreRestarts h
theorem aside_bootAttempts {s t : State} (h : aside t = aside s) : t.bootAttempts = s.bootAttempts := congrArg Aside.bootAttempts h
theorem aside_deviceResetDue {s t : State} (h : aside t = aside s) : t.deviceResetDue = s.deviceResetDue := congrArg Aside.deviceResetDue h
theorem aside_coresDown {s t : State} (h : aside t = aside s) : t.coresDown = s.coresDown := congrArg Aside.coresDown h
theorem aside_coresHeld {s t : State} (h : aside t = aside s) : t.coresHeld = s.coresHeld := congrArg Aside.coresHeld h
theorem aside_coreHealth {s t : State} (h : aside t = aside s) : t.coreHealth = s.coreHealth := congrArg Aside.coreHealth h
theorem aside_halted {s t : State} (h : aside t = aside s) : t.halted = s.halted := congrArg Aside.halted h
theorem aside_mgmtUp {s t : State} (h : aside t = aside s) : t.mgmtUp = s.mgmtUp := congrArg Aside.mgmtUp h
theorem aside_testHonoured {s t : State} (h : aside t = aside s) : t.testHonoured = s.testHonoured := congrArg Aside.testHonoured h
theorem aside_recoveryByRuntime {s t : State} (h : aside t = aside s) : t.recoveryByRuntime = s.recoveryByRuntime := congrArg Aside.recoveryByRuntime h
theorem aside_rtImage {s t : State} (h : aside t = aside s) : t.rtImage = s.rtImage := congrArg Aside.rtImage h
theorem aside_rtInstallResult {s t : State} (h : aside t = aside s) : t.rtInstallResult = s.rtInstallResult := congrArg Aside.rtInstallResult h
theorem aside_rtBuild {s t : State} (h : aside t = aside s) : t.rtBuild = s.rtBuild := congrArg Aside.rtBuild h
theorem aside_rtSvn {s t : State} (h : aside t = aside s) : t.rtSvn = s.rtSvn := congrArg Aside.rtSvn h
theorem aside_rtDigest {s t : State} (h : aside t = aside s) : t.rtDigest = s.rtDigest := congrArg Aside.rtDigest h
theorem aside_katResults {s t : State} (h : aside t = aside s) : t.katResults = s.katResults := congrArg Aside.katResults h
theorem aside_digestHealth {s t : State} (h : aside t = aside s) : t.digestHealth = s.digestHealth := congrArg Aside.digestHealth h
theorem aside_dgTransients {s t : State} (h : aside t = aside s) : t.dgTransients = s.dgTransients := congrArg Aside.dgTransients h
theorem aside_cipherHealth {s t : State} (h : aside t = aside s) : t.cipherHealth = s.cipherHealth := congrArg Aside.cipherHealth h
theorem aside_cxTransients {s t : State} (h : aside t = aside s) : t.cxTransients = s.cxTransients := congrArg Aside.cxTransients h
theorem aside_freshAtHeath {s t : State} (h : aside t = aside s) : t.freshAtHeath = s.freshAtHeath := congrArg Aside.freshAtHeath h
theorem aside_pacePs {s t : State} (h : aside t = aside s) : t.pacePs = s.pacePs := congrArg Aside.pacePs h
theorem aside_paceMaxPs {s t : State} (h : aside t = aside s) : t.paceMaxPs = s.paceMaxPs := congrArg Aside.paceMaxPs h
theorem aside_paceArmed {s t : State} (h : aside t = aside s) : t.paceArmed = s.paceArmed := congrArg Aside.paceArmed h
theorem aside_tj {s t : State} (h : aside t = aside s) : t.tj = s.tj := congrArg Aside.tj h
theorem aside_tjMax {s t : State} (h : aside t = aside s) : t.tjMax = s.tjMax := congrArg Aside.tjMax h
theorem aside_railMv {s t : State} (h : aside t = aside s) : t.railMv = s.railMv := congrArg Aside.railMv h
theorem aside_railMin {s t : State} (h : aside t = aside s) : t.railMin = s.railMin := congrArg Aside.railMin h
theorem aside_railMax {s t : State} (h : aside t = aside s) : t.railMax = s.railMax := congrArg Aside.railMax h
theorem aside_scrubPasses {s t : State} (h : aside t = aside s) : t.scrubPasses = s.scrubPasses := congrArg Aside.scrubPasses h
theorem aside_scrubLast {s t : State} (h : aside t = aside s) : t.scrubLast = s.scrubLast := congrArg Aside.scrubLast h
theorem aside_scrubPos {s t : State} (h : aside t = aside s) : t.scrubPos = s.scrubPos := congrArg Aside.scrubPos h
theorem aside_bistResult {s t : State} (h : aside t = aside s) : t.bistResult = s.bistResult := congrArg Aside.bistResult h
theorem aside_injWord {s t : State} (h : aside t = aside s) : t.injWord = s.injWord := congrArg Aside.injWord h
theorem aside_injMask {s t : State} (h : aside t = aside s) : t.injMask = s.injMask := congrArg Aside.injMask h
theorem aside_unitResult {s t : State} (h : aside t = aside s) : t.unitResult = s.unitResult := congrArg Aside.unitResult h
theorem aside_logicSig {s t : State} (h : aside t = aside s) : t.logicSig = s.logicSig := congrArg Aside.logicSig h
theorem aside_cfg {s t : State} (h : aside t = aside s) : t.cfg = s.cfg := congrArg Aside.cfg h
theorem aside_commits {s t : State} (h : aside t = aside s) : t.commits = s.commits := congrArg Aside.commits h
theorem aside_lastCommitPort {s t : State} (h : aside t = aside s) : t.lastCommitPort = s.lastCommitPort := congrArg Aside.lastCommitPort h
theorem aside_lastCommitUs {s t : State} (h : aside t = aside s) : t.lastCommitUs = s.lastCommitUs := congrArg Aside.lastCommitUs h
theorem aside_faReads {s t : State} (h : aside t = aside s) : t.faReads = s.faReads := congrArg Aside.faReads h
theorem aside_banks {s t : State} (h : aside t = aside s) : t.banks = s.banks := congrArg Aside.banks h
theorem aside_cxs {s t : State} (h : aside t = aside s) : t.cxs = s.cxs := congrArg Aside.cxs h
theorem aside_keys {s t : State} (h : aside t = aside s) : t.keys = s.keys := congrArg Aside.keys h
theorem aside_pke {s t : State} (h : aside t = aside s) : t.pke = s.pke := congrArg Aside.pke h
theorem aside_random {s t : State} (h : aside t = aside s) : t.random = s.random := congrArg Aside.random h
theorem aside_heath {s t : State} (h : aside t = aside s) : t.heath = s.heath := congrArg Aside.heath h
theorem aside_wd {s t : State} (h : aside t = aside s) : t.wd = s.wd := congrArg Aside.wd h
theorem aside_timers {s t : State} (h : aside t = aside s) : t.timers = s.timers := congrArg Aside.timers h
theorem aside_cus {s t : State} (h : aside t = aside s) : t.cus = s.cus := congrArg Aside.cus h
theorem aside_cuTransients {s t : State} (h : aside t = aside s) : t.cuTransients = s.cuTransients := congrArg Aside.cuTransients h
theorem aside_lc {s t : State} (h : aside t = aside s) : t.lc = s.lc := congrArg Aside.lc h
theorem aside_tap {s t : State} (h : aside t = aside s) : t.tap = s.tap := congrArg Aside.tap h
theorem aside_mports {s t : State} (h : aside t = aside s) : t.mports = s.mports := congrArg Aside.mports h
theorem aside_ports {s t : State} (h : aside t = aside s) : t.ports = s.ports := congrArg Aside.ports h
theorem stepDone_steps_other (k j : Nat) (s : State) (h : j ≠ k) : tget (stepDone k s).steps j = tget s.steps j := by
  unfold stepDone; split
  · rfl
  · simp [tget_tput, h]
theorem entropyStep_steps (s : State) (j : Nat) (h : j ≠ 5) : tget (entropyStep s).steps j = tget s.steps j := by
  unfold entropyStep; dsimp only; split
  · rfl
  · split
    · split
      · rw [stepDone_steps_other 5 j _ h]; simp
      · rfl
    · rw [stepDone_steps_other 5 j _ h]
theorem stepRuns_steps {s : State} {k : Nat} (h : stepRuns s k = true) : tget s.steps k = none := by
  simp [stepRuns] at h; simp [h]
theorem stepRuns_start {s : State} {k : Nat} (h : stepRuns s k = true) : s.phase = .start := by
  simp [stepRuns] at h; simp [h]
theorem stepRuns_halted {s : State} {k : Nat} (h : stepRuns s k = true) : s.halted = false := by
  simp [stepRuns] at h; simp [h]
theorem stepDone_new {s : State} {k : Nat} (h : tget s.steps k = none) :
    stepDone k s = { s with steps := tput s.steps k s.tbUs } := by
  simp [stepDone, h]

end Sys2Proof.Laws
end

