-- ==== Sys2Proof/Laws/PerInstr.lean ====
section
/-! SUPPORT. The family Row: no word spells a row's command, because spec/opcode_table.json gives no row any bits. -/
namespace Sys2Proof.Laws

/-- No table word spells the command. -/
def Row.Statement (i : Instr) : Prop := ∀ nbits w, decodeTableWord nbits w ≠ some i

/-- The table is empty, so every word spells nothing. -/
theorem table_spells_nothing (i : Instr) : Row.Statement i := by
  intro nbits w h
  simp [decodeTableWord, tableRows] at h

theorem Row.porNRise (straps : BitVec 4) : Row.Statement (.porNRise straps) := table_spells_nothing _
theorem Row.porNFall : Row.Statement .porNFall := table_spells_nothing _
theorem Row.clock (waitedMs : Nat) (locked : Bool) : Row.Statement (.clock waitedMs locked) := table_spells_nothing _
theorem Row.heath : Row.Statement .heath := table_spells_nothing _
theorem Row.lifecycle : Row.Statement .lifecycle := table_spells_nothing _
theorem Row.kat (run : List KatFail) : Row.Statement (.kat run) := table_spells_nothing _
theorem Row.entropy (ling sedge fescue : List Window) : Row.Statement (.entropy ling sedge fescue) := table_spells_nothing _
theorem Row.vault (tries : List VaultTry) (info : EmmcInfo) : Row.Statement (.vault tries info) := table_spells_nothing _
theorem Row.runtime (readErrA readErrB : Bool) : Row.Statement (.runtime readErrA readErrB) := table_spells_nothing _
theorem Row.discovery (found : List Found) (scratchFails : List Chan) : Row.Statement (.discovery found scratchFails) := table_spells_nothing _
theorem Row.policy (rpmb : WriteEnd) : Row.Statement (.policy rpmb) := table_spells_nothing _
theorem Row.coreReset (readErrA readErrB : Bool) : Row.Statement (.coreReset readErrA readErrB) := table_spells_nothing _
theorem Row.deviceReset (p : Port) : Row.Statement (.deviceReset p) := table_spells_nothing _
theorem Row.deviceResetTakesEffect : Row.Statement .deviceResetTakesEffect := table_spells_nothing _
theorem Row.rtImageWrite (p : Port) (offset : U40) (data : List Byte) : Row.Statement (.rtImageWrite p offset data) := table_spells_nothing _
theorem Row.rtInstall (p : Port) : Row.Statement (.rtInstall p) := table_spells_nothing _
theorem Row.refclkLoss : Row.Statement .refclkLoss := table_spells_nothing _
theorem Row.refclkReturn (periods : Nat) : Row.Statement (.refclkReturn periods) := table_spells_nothing _
theorem Row.pllLockLoss : Row.Statement .pllLockLoss := table_spells_nothing _
theorem Row.pllRelock : Row.Statement .pllRelock := table_spells_nothing _
theorem Row.tbUsWrap : Row.Statement .tbUsWrap := table_spells_nothing _
theorem Row.paceRefresh (ps : U16) : Row.Statement (.paceRefresh ps) := table_spells_nothing _
theorem Row.sensorRefresh (tj : List Int) (railMv : List U16) : Row.Statement (.sensorRefresh tj railMv) := table_spells_nothing _
theorem Row.scrubRead (struck : Option CodeWord) : Row.Statement (.scrubRead struck) := table_spells_nothing _
theorem Row.timeoutExpiry (t : Fin 14) (ch : Chan) : Row.Statement (.timeoutExpiry t ch) := table_spells_nothing _
theorem Row.lateArrival (t : Fin 14) (ch : Chan) : Row.Statement (.lateArrival t ch) := table_spells_nothing _
theorem Row.fastRead (c : HostCmd) (addr : U32) (len : Nat) : Row.Statement (.fastRead c addr len) := table_spells_nothing _
theorem Row.fastRead4B (c : HostCmd) (addr : U32) (len : Nat) : Row.Statement (.fastRead4B c addr len) := table_spells_nothing _
theorem Row.quadOutputRead (c : HostCmd) (addr : U32) (len : Nat) : Row.Statement (.quadOutputRead c addr len) := table_spells_nothing _
theorem Row.quadOutputRead4B (c : HostCmd) (addr : U32) (len : Nat) : Row.Statement (.quadOutputRead4B c addr len) := table_spells_nothing _
theorem Row.quadIoRead (c : HostCmd) (addr : U32) (len : Nat) : Row.Statement (.quadIoRead c addr len) := table_spells_nothing _
theorem Row.quadIoRead4B (c : HostCmd) (addr : U32) (len : Nat) : Row.Statement (.quadIoRead4B c addr len) := table_spells_nothing _
theorem Row.octalDtrRead (c : HostCmd) (addr : U32) (len : Nat) : Row.Statement (.octalDtrRead c addr len) := table_spells_nothing _
theorem Row.pageProgram (c : HostCmd) (addr : U32) (data : List Byte) : Row.Statement (.pageProgram c addr data) := table_spells_nothing _
theorem Row.pageProgram4B (c : HostCmd) (addr : U32) (data : List Byte) : Row.Statement (.pageProgram4B c addr data) := table_spells_nothing _
theorem Row.quadInputPageProgram (c : HostCmd) (addr : U32) (data : List Byte) : Row.Statement (.quadInputPageProgram c addr data) := table_spells_nothing _
theorem Row.quadInputPageProgram4B (c : HostCmd) (addr : U32) (data : List Byte) : Row.Statement (.quadInputPageProgram4B c addr data) := table_spells_nothing _
theorem Row.erase4K (c : HostCmd) (addr : U32) : Row.Statement (.erase4K c addr) := table_spells_nothing _
theorem Row.erase4K4B (c : HostCmd) (addr : U32) : Row.Statement (.erase4K4B c addr) := table_spells_nothing _
theorem Row.erase32K (c : HostCmd) (addr : U32) : Row.Statement (.erase32K c addr) := table_spells_nothing _
theorem Row.erase32K4B (c : HostCmd) (addr : U32) : Row.Statement (.erase32K4B c addr) := table_spells_nothing _
theorem Row.erase64K (c : HostCmd) (addr : U32) : Row.Statement (.erase64K c addr) := table_spells_nothing _
theorem Row.erase64K4B (c : HostCmd) (addr : U32) : Row.Statement (.erase64K4B c addr) := table_spells_nothing _
theorem Row.chipErase (c : HostCmd) (second : Bool) : Row.Statement (.chipErase c second) := table_spells_nothing _
theorem Row.writeEnable (c : HostCmd) : Row.Statement (.writeEnable c) := table_spells_nothing _
theorem Row.writeDisable (c : HostCmd) : Row.Statement (.writeDisable c) := table_spells_nothing _
theorem Row.readStatus (c : HostCmd) (len : Nat) : Row.Statement (.readStatus c len) := table_spells_nothing _
theorem Row.writeStatus (c : HostCmd) : Row.Statement (.writeStatus c) := table_spells_nothing _
theorem Row.clearFlags (c : HostCmd) : Row.Statement (.clearFlags c) := table_spells_nothing _
theorem Row.readId (c : HostCmd) (len : Nat) : Row.Statement (.readId c len) := table_spells_nothing _
theorem Row.readSfdp (c : HostCmd) (addr : U32) (len : Nat) : Row.Statement (.readSfdp c addr len) := table_spells_nothing _
theorem Row.writeVolatileConfiguration (c : HostCmd) (addr : U32) (value : Byte) : Row.Statement (.writeVolatileConfiguration c addr value) := table_spells_nothing _
theorem Row.enterQpi (c : HostCmd) : Row.Statement (.enterQpi c) := table_spells_nothing _
theorem Row.exitQpi (c : HostCmd) : Row.Statement (.exitQpi c) := table_spells_nothing _
theorem Row.resetEnable (c : HostCmd) : Row.Statement (.resetEnable c) := table_spells_nothing _
theorem Row.reset (c : HostCmd) : Row.Statement (.reset c) := table_spells_nothing _
theorem Row.enter4ByteMode (c : HostCmd) : Row.Statement (.enter4ByteMode c) := table_spells_nothing _
theorem Row.exit4ByteMode (c : HostCmd) : Row.Statement (.exit4ByteMode c) := table_spells_nothing _
theorem Row.powerDown (c : HostCmd) : Row.Statement (.powerDown c) := table_spells_nothing _
theorem Row.releasePowerDown (c : HostCmd) : Row.Statement (.releasePowerDown c) := table_spells_nothing _
theorem Row.unsupportedCommand (c : HostCmd) (op : Byte) (addr : U32) : Row.Statement (.unsupportedCommand c op addr) := table_spells_nothing _
theorem Row.physicalModeSync (ch : Chan) : Row.Statement (.physicalModeSync ch) := table_spells_nothing _
theorem Row.physOpComplete (ch : Chan) (cs : Cs) (e : PhysEnd) : Row.Statement (.physOpComplete ch cs e) := table_spells_nothing _
theorem Row.flashOpRetry (ch : Chan) : Row.Statement (.flashOpRetry ch) := table_spells_nothing _
theorem Row.stageStoreExpiry (ch : Chan) : Row.Statement (.stageStoreExpiry ch) := table_spells_nothing _
theorem Row.gapFill (ch : Chan) : Row.Statement (.gapFill ch) := table_spells_nothing _
theorem Row.pinFill (ch : Chan) (haddr : U32) : Row.Statement (.pinFill ch haddr) := table_spells_nothing _
theorem Row.nodeFetch (ch : Chan) (cs : Cs) (line : BitVec 24) : Row.Statement (.nodeFetch ch cs line) := table_spells_nothing _
theorem Row.gleaningRead (ch : Chan) : Row.Statement (.gleaningRead ch) := table_spells_nothing _
theorem Row.deviceReadComplete (ch : Chan) (e : FlashEnd) (ball : Option U8) (upsets : List Upset) : Row.Statement (.deviceReadComplete ch e ball upsets) := table_spells_nothing _
theorem Row.lineCheckComplete (ch : Chan) (cs : Cs) (line : BitVec 24) : Row.Statement (.lineCheckComplete ch cs line) := table_spells_nothing _
theorem Row.lineStale (ch : Chan) (cs : Cs) (line : BitVec 24) : Row.Statement (.lineStale ch cs line) := table_spells_nothing _
theorem Row.preloadComplete (ch : Chan) : Row.Statement (.preloadComplete ch) := table_spells_nothing _
theorem Row.flush (p : Port) : Row.Statement (.flush p) := table_spells_nothing _
theorem Row.hayloftReqStateWrite (p : Port) (value : U8) : Row.Statement (.hayloftReqStateWrite p value) := table_spells_nothing _
theorem Row.channelReqStateWrite (p : Port) (ch : Chan) (value : U8) (csLow : Bool) : Row.Statement (.channelReqStateWrite p ch value csLow) := table_spells_nothing _
theorem Row.reqStateBoundary (node : Fin 9) : Row.Statement (.reqStateBoundary node) := table_spells_nothing _
theorem Row.rediscovery (ch : Chan) (found0 found1 : Found) : Row.Statement (.rediscovery ch found0 found1) := table_spells_nothing _
theorem Row.platPgFall (ch : Chan) : Row.Statement (.platPgFall ch) := table_spells_nothing _
theorem Row.platPgRise (ch : Chan) : Row.Statement (.platPgRise ch) := table_spells_nothing _
theorem Row.clearHold (p : Port) (ch : Chan) : Row.Statement (.clearHold p ch) := table_spells_nothing _
theorem Row.reinstate (p : Port) (ch : Chan) (failing : Option (Fin 5)) : Row.Statement (.reinstate p ch failing) := table_spells_nothing _
theorem Row.fallowReinstate (p : Port) (failing : Option (Fin 5)) : Row.Statement (.fallowReinstate p failing) := table_spells_nothing _
theorem Row.fallowReqStateWrite (p : Port) (value : U8) : Row.Statement (.fallowReqStateWrite p value) := table_spells_nothing _
theorem Row.hotTakeoverSwitch (ch : Chan) : Row.Statement (.hotTakeoverSwitch ch) := table_spells_nothing _
theorem Row.coldTakeoverConnect (ch : Chan) (marchPass : Bool) : Row.Statement (.coldTakeoverConnect ch marchPass) := table_spells_nothing _
theorem Row.fallowHandback (ch : Chan) : Row.Statement (.fallowHandback ch) := table_spells_nothing _
theorem Row.indexWordReload (mem : Fin 8) (word : Nat) : Row.Statement (.indexWordReload mem word) := table_spells_nothing _
theorem Row.channelRelease (ch : Chan) (gpio : BitVec 8) : Row.Statement (.channelRelease ch gpio) := table_spells_nothing _
theorem Row.relDelayExpiry (ch : Chan) (gpio : BitVec 8) : Row.Statement (.relDelayExpiry ch gpio) := table_spells_nothing _
theorem Row.depTimeoutExpiry (ch : Chan) : Row.Statement (.depTimeoutExpiry ch) := table_spells_nothing _
theorem Row.commit (p : Port) : Row.Statement (.commit p) := table_spells_nothing _
theorem Row.discard (p : Port) : Row.Statement (.discard p) := table_spells_nothing _
theorem Row.check (p : Port) : Row.Statement (.check p) := table_spells_nothing _
theorem Row.ruleDataWrite (p : Port) (row : RuleRow) : Row.Statement (.ruleDataWrite p row) := table_spells_nothing _
theorem Row.ruleDomainWrite (p : Port) (offset : U40) (data : List Byte) : Row.Statement (.ruleDomainWrite p offset data) := table_spells_nothing _
theorem Row.registerWrite (p : Port) (index : U16) (sub : U8) (value : List Byte) : Row.Statement (.registerWrite p index sub value) := table_spells_nothing _
theorem Row.writeBlock (p : Port) (index : U16) (sub : U8) (offset : U40) (data : List Byte) : Row.Statement (.writeBlock p index sub offset data) := table_spells_nothing _
theorem Row.configSetSave (e : WriteEnd) : Row.Statement (.configSetSave e) := table_spells_nothing _
theorem Row.vaultReqStateWrite (p : Port) (value : U8) : Row.Statement (.vaultReqStateWrite p value) := table_spells_nothing _
theorem Row.vaultReinstate (p : Port) (attempt : VaultTry) (info : EmmcInfo) : Row.Statement (.vaultReinstate p attempt info) := table_spells_nothing _
theorem Row.vaultIoComplete (e : EmmcEnd) : Row.Statement (.vaultIoComplete e) := table_spells_nothing _
theorem Row.stileWriteComplete (e : WriteEnd) : Row.Statement (.stileWriteComplete e) := table_spells_nothing _
theorem Row.archiveWrite (e : WriteEnd) : Row.Statement (.archiveWrite e) := table_spells_nothing _
theorem Row.format (p : Port) : Row.Statement (.format p) := table_spells_nothing _
theorem Row.stageClear (p : Port) : Row.Statement (.stageClear p) := table_spells_nothing _
theorem Row.restore (p : Port) : Row.Statement (.restore p) := table_spells_nothing _
theorem Row.manifestWrite (p : Port) (offset : U40) (data : List Byte) : Row.Statement (.manifestWrite p offset data) := table_spells_nothing _
theorem Row.admitManifest (p : Port) : Row.Statement (.admitManifest p) := table_spells_nothing _
theorem Row.partDataWrite (p : Port) (offset : U40) (data : List Byte) : Row.Statement (.partDataWrite p offset data) := table_spells_nothing _
theorem Row.apply (p : Port) : Row.Statement (.apply p) := table_spells_nothing _
theorem Row.applyPart (fail : Option (Cs × PhysEnd)) : Row.Statement (.applyPart fail) := table_spells_nothing _
theorem Row.abort (p : Port) : Row.Statement (.abort p) := table_spells_nothing _
theorem Row.activate (p : Port) : Row.Statement (.activate p) := table_spells_nothing _
theorem Row.confirm (p : Port) : Row.Statement (.confirm p) := table_spells_nothing _
theorem Row.revert (p : Port) : Row.Statement (.revert p) := table_spells_nothing _
theorem Row.trialExpiry : Row.Statement .trialExpiry := table_spells_nothing _
theorem Row.dgAlloc (p : Port) : Row.Statement (.dgAlloc p) := table_spells_nothing _
theorem Row.dgDeclLength (p : Port) (b : Fin 8) (value : U40) : Row.Statement (.dgDeclLength p b value) := table_spells_nothing _
theorem Row.dgData (p : Port) (b : Fin 8) (offset : U40) (data : List Byte) : Row.Statement (.dgData p b offset data) := table_spells_nothing _
theorem Row.absorbKey (p : Port) (b : Fin 8) (value : U16) : Row.Statement (.absorbKey p b value) := table_spells_nothing _
theorem Row.dgFinish (p : Port) (b : Fin 8) : Row.Statement (.dgFinish p b) := table_spells_nothing _
theorem Row.exportState (p : Port) (b : Fin 8) : Row.Statement (.exportState p b) := table_spells_nothing _
theorem Row.importState (p : Port) (b : Fin 8) : Row.Statement (.importState p b) := table_spells_nothing _
theorem Row.dgRelease (p : Port) (b : Fin 8) : Row.Statement (.dgRelease p b) := table_spells_nothing _
theorem Row.engineParityError (cipher : Bool) (unit : Fin 8) : Row.Statement (.engineParityError cipher unit) := table_spells_nothing _
theorem Row.cxAlloc (p : Port) : Row.Statement (.cxAlloc p) := table_spells_nothing _
theorem Row.cxDeclLength (p : Port) (c : Fin 4) (value : U40) : Row.Statement (.cxDeclLength p c value) := table_spells_nothing _
theorem Row.cxData (p : Port) (c : Fin 4) (offset : U40) (data : List Byte) : Row.Statement (.cxData p c offset data) := table_spells_nothing _
theorem Row.cxFinish (p : Port) (c : Fin 4) : Row.Statement (.cxFinish p c) := table_spells_nothing _
theorem Row.cxRelease (p : Port) (c : Fin 4) : Row.Statement (.cxRelease p c) := table_spells_nothing _
theorem Row.ksGenerate (p : Port) : Row.Statement (.ksGenerate p) := table_spells_nothing _
theorem Row.ksDerive (p : Port) (slot : U8) : Row.Statement (.ksDerive p slot) := table_spells_nothing _
theorem Row.ksWrap (p : Port) (slot : U8) : Row.Statement (.ksWrap p slot) := table_spells_nothing _
theorem Row.ksUnwrap (p : Port) (slot : U8) : Row.Statement (.ksUnwrap p slot) := table_spells_nothing _
theorem Row.ksImportPlain (p : Port) : Row.Statement (.ksImportPlain p) := table_spells_nothing _
theorem Row.ksClear (p : Port) : Row.Statement (.ksClear p) := table_spells_nothing _
theorem Row.dssProvision (p : Port) (value : U8) (window : Option Window) (burnOk : Bool) : Row.Statement (.dssProvision p value window burnOk) := table_spells_nothing _
theorem Row.keyReload (p : Port) : Row.Statement (.keyReload p) := table_spells_nothing _
theorem Row.pkSlotLimbsWrite (p : Port) (value : U8) : Row.Statement (.pkSlotLimbsWrite p value) := table_spells_nothing _
theorem Row.pkWipe (p : Port) : Row.Statement (.pkWipe p) := table_spells_nothing _
theorem Row.pkBufWrite (p : Port) (offset : U40) (data : List Byte) : Row.Statement (.pkBufWrite p offset data) := table_spells_nothing _
theorem Row.add (p : Port) (w : PkWord) : Row.Statement (.add p w) := table_spells_nothing _
theorem Row.sub (p : Port) (w : PkWord) : Row.Statement (.sub p w) := table_spells_nothing _
theorem Row.mul (p : Port) (w : PkWord) : Row.Statement (.mul p w) := table_spells_nothing _
theorem Row.inv (p : Port) (w : PkWord) : Row.Statement (.inv p w) := table_spells_nothing _
theorem Row.exp (p : Port) (w : PkWord) : Row.Statement (.exp p w) := table_spells_nothing _
theorem Row.expv (p : Port) (w : PkWord) : Row.Statement (.expv p w) := table_spells_nothing _
theorem Row.reduce (p : Port) (w : PkWord) : Row.Statement (.reduce p w) := table_spells_nothing _
theorem Row.load (p : Port) (w : PkWord) : Row.Statement (.load p w) := table_spells_nothing _
theorem Row.store (p : Port) (w : PkWord) : Row.Statement (.store p w) := table_spells_nothing _
theorem Row.compare (p : Port) (w : PkWord) : Row.Statement (.compare p w) := table_spells_nothing _
theorem Row.keyload (p : Port) (w : PkWord) : Row.Statement (.keyload p w) := table_spells_nothing _
theorem Row.keypub (p : Port) (w : PkWord) : Row.Statement (.keypub p w) := table_spells_nothing _
theorem Row.rand (p : Port) (w : PkWord) : Row.Statement (.rand p w) := table_spells_nothing _
theorem Row.seal (p : Port) (w : PkWord) : Row.Statement (.seal p w) := table_spells_nothing _
theorem Row.verify (p : Port) (w : PkWord) : Row.Statement (.verify p w) := table_spells_nothing _
theorem Row.verifyGate (p : Port) (w : PkWord) : Row.Statement (.verifyGate p w) := table_spells_nothing _
theorem Row.toKey (p : Port) (w : PkWord) : Row.Statement (.toKey p w) := table_spells_nothing _
theorem Row.pkCommandDispatch : Row.Statement .pkCommandDispatch := table_spells_nothing _
theorem Row.pkeParityError : Row.Statement .pkeParityError := table_spells_nothing _
theorem Row.startupTestComplete (src : Fin 3) (w : Window) : Row.Statement (.startupTestComplete src w) := table_spells_nothing _
theorem Row.sourceAlarm (apt : Bool) : Row.Statement (.sourceAlarm apt) := table_spells_nothing _
theorem Row.windowPass (w : Window) : Row.Statement (.windowPass w) := table_spells_nothing _
theorem Row.autoReseed : Row.Statement .autoReseed := table_spells_nothing _
theorem Row.drbgExpiry (byCount : Bool) : Row.Statement (.drbgExpiry byCount) := table_spells_nothing _
theorem Row.drbgParityError : Row.Statement .drbgParityError := table_spells_nothing _
theorem Row.reseed (p : Port) (w : Option Window) : Row.Statement (.reseed p w) := table_spells_nothing _
theorem Row.srcReinstate (p : Port) (src : U8) (w : Window) : Row.Statement (.srcReinstate p src w) := table_spells_nothing _
theorem Row.privateWireRequest (consumer : Fin 5) (delivered : Bool) : Row.Statement (.privateWireRequest consumer delivered) := table_spells_nothing _
theorem Row.rawWordRead (p : Port) : Row.Statement (.rawWordRead p) := table_spells_nothing _
theorem Row.rawBlockRead (p : Port) (count : U16) : Row.Statement (.rawBlockRead p count) := table_spells_nothing _
theorem Row.rawSelectWrite (p : Port) (value : U8) : Row.Statement (.rawSelectWrite p value) := table_spells_nothing _
theorem Row.testPatternWrite (p : Port) (value : Bool) : Row.Statement (.testPatternWrite p value) := table_spells_nothing _
theorem Row.getVersion (r : SpdmReq) : Row.Statement (.getVersion r) := table_spells_nothing _
theorem Row.getCapabilities (r : SpdmReq) : Row.Statement (.getCapabilities r) := table_spells_nothing _
theorem Row.negotiateAlgorithms (r : SpdmReq) : Row.Statement (.negotiateAlgorithms r) := table_spells_nothing _
theorem Row.getDigests (r : SpdmReq) : Row.Statement (.getDigests r) := table_spells_nothing _
theorem Row.getCertificate (r : SpdmReq) : Row.Statement (.getCertificate r) := table_spells_nothing _
theorem Row.spdmChallenge (r : SpdmReq) : Row.Statement (.spdmChallenge r) := table_spells_nothing _
theorem Row.getMeasurements (r : SpdmReq) : Row.Statement (.getMeasurements r) := table_spells_nothing _
theorem Row.keyExchange (r : SpdmReq) : Row.Statement (.keyExchange r) := table_spells_nothing _
theorem Row.finish (r : SpdmReq) : Row.Statement (.finish r) := table_spells_nothing _
theorem Row.endSession (r : SpdmReq) : Row.Statement (.endSession r) := table_spells_nothing _
theorem Row.spdmUnsupportedRequest (r : SpdmReq) (code : Byte) : Row.Statement (.spdmUnsupportedRequest r code) := table_spells_nothing _
theorem Row.securedMessage (port : MPort) (session : U32) (record : List Byte) : Row.Statement (.securedMessage port session record) := table_spells_nothing _
theorem Row.measurementRecompute (block : U8) : Row.Statement (.measurementRecompute block) := table_spells_nothing _
theorem Row.retainedClear (p : Port) : Row.Statement (.retainedClear p) := table_spells_nothing _
theorem Row.fence (p : Port) : Row.Statement (.fence p) := table_spells_nothing _
theorem Row.mainPowerLoss : Row.Statement .mainPowerLoss := table_spells_nothing _
theorem Row.mainPowerReturn : Row.Statement .mainPowerReturn := table_spells_nothing _
theorem Row.heathPowerLoss : Row.Statement .heathPowerLoss := table_spells_nothing _
theorem Row.heathPowerUp : Row.Statement .heathPowerUp := table_spells_nothing _
theorem Row.heathSampleTick (x : HeathSample) : Row.Statement (.heathSampleTick x) := table_spells_nothing _
theorem Row.monitorWindowExpiry (m : Fin 10) : Row.Statement (.monitorWindowExpiry m) := table_spells_nothing _
theorem Row.heathOscMeasure (hz : U32) : Row.Statement (.heathOscMeasure hz) := table_spells_nothing _
theorem Row.tamperClear (p : Port) : Row.Statement (.tamperClear p) := table_spells_nothing _
theorem Row.cellArm (p : Port) : Row.Statement (.cellArm p) := table_spells_nothing _
theorem Row.heathLock (p : Port) : Row.Statement (.heathLock p) := table_spells_nothing _
theorem Row.wdCheckin (p : Port) (task : U8) : Row.Statement (.wdCheckin p task) := table_spells_nothing _
theorem Row.wdService (p : Port) (key : U16) : Row.Statement (.wdService p key) := table_spells_nothing _
theorem Row.wdBite : Row.Statement .wdBite := table_spells_nothing _
theorem Row.wdLock (p : Port) : Row.Statement (.wdLock p) := table_spells_nothing _
theorem Row.lockstepMismatch : Row.Statement .lockstepMismatch := table_spells_nothing _
theorem Row.sramDed : Row.Statement .sramDed := table_spells_nothing _
theorem Row.tuStart (p : Port) (u : Fin 8) : Row.Statement (.tuStart p u) := table_spells_nothing _
theorem Row.tuStop (p : Port) (u : Fin 8) : Row.Statement (.tuStop p u) := table_spells_nothing _
theorem Row.tuExpiry (u : Fin 8) : Row.Statement (.tuExpiry u) := table_spells_nothing _
theorem Row.cuAlloc (p : Port) : Row.Statement (.cuAlloc p) := table_spells_nothing _
theorem Row.cuStart (p : Port) (u : Fin 8) : Row.Statement (.cuStart p u) := table_spells_nothing _
theorem Row.cuFeed8 (p : Port) (u : Fin 8) (value : U8) : Row.Statement (.cuFeed8 p u value) := table_spells_nothing _
theorem Row.cuFeed16 (p : Port) (u : Fin 8) (value : U16) : Row.Statement (.cuFeed16 p u value) := table_spells_nothing _
theorem Row.cuFeed40 (p : Port) (u : Fin 8) (value : U40) : Row.Statement (.cuFeed40 p u value) := table_spells_nothing _
theorem Row.cuFeedBlock (p : Port) (u : Fin 8) (data : List Byte) : Row.Statement (.cuFeedBlock p u data) := table_spells_nothing _
theorem Row.cuFinish (p : Port) (u : Fin 8) : Row.Statement (.cuFinish p u) := table_spells_nothing _
theorem Row.cuRelease (p : Port) (u : Fin 8) : Row.Statement (.cuRelease p u) := table_spells_nothing _
theorem Row.cuParityError (u : Fin 8) : Row.Statement (.cuParityError u) := table_spells_nothing _
theorem Row.lcAdvance (p : Port) (target : U8) : Row.Statement (.lcAdvance p target) := table_spells_nothing _
theorem Row.lcScrap (p : Port) (value : U40) : Row.Statement (.lcScrap p value) := table_spells_nothing _
theorem Row.challenge (p : Port) : Row.Statement (.challenge p) := table_spells_nothing _
theorem Row.dbgUnlock (p : Port) : Row.Statement (.dbgUnlock p) := table_spells_nothing _
theorem Row.keyBurn (p : Port) (readback : Bool) : Row.Statement (.keyBurn p readback) := table_spells_nothing _
theorem Row.keyRevoke (p : Port) (slot : U8) : Row.Statement (.keyRevoke p slot) := table_spells_nothing _
theorem Row.fuseBurn (p : Port) : Row.Statement (.fuseBurn p) := table_spells_nothing _
theorem Row.tapReset : Row.Statement .tapReset := table_spells_nothing _
theorem Row.extest (cells : List Bool) : Row.Statement (.extest cells) := table_spells_nothing _
theorem Row.samplePreload (cells : List Bool) : Row.Statement (.samplePreload cells) := table_spells_nothing _
theorem Row.idcode : Row.Statement .idcode := table_spells_nothing _
theorem Row.tapChallenge : Row.Statement .tapChallenge := table_spells_nothing _
theorem Row.tapToken (token : List Byte) : Row.Statement (.tapToken token) := table_spells_nothing _
theorem Row.dbgResult : Row.Statement .dbgResult := table_spells_nothing _
theorem Row.coreDebug : Row.Statement .coreDebug := table_spells_nothing _
theorem Row.bypass : Row.Statement .bypass := table_spells_nothing _
theorem Row.mctpPacket (port : MPort) (pecOk : Bool) (packet : List Byte) : Row.Statement (.mctpPacket port pecOk packet) := table_spells_nothing _
theorem Row.mgmtAssemblyExpiry (port : MPort) : Row.Statement (.mgmtAssemblyExpiry port) := table_spells_nothing _
theorem Row.responseRead (port : MPort) : Row.Statement (.responseRead port) := table_spells_nothing _
theorem Row.responseExpiry (port : MPort) : Row.Statement (.responseExpiry port) := table_spells_nothing _
theorem Row.setEndpointId (port : MPort) (op : Byte) (eid : U8) : Row.Statement (.setEndpointId port op eid) := table_spells_nothing _
theorem Row.getEndpointId (port : MPort) : Row.Statement (.getEndpointId port) := table_spells_nothing _
theorem Row.getMctpVersionSupport (port : MPort) (msgType : Byte) : Row.Statement (.getMctpVersionSupport port msgType) := table_spells_nothing _
theorem Row.getMessageTypeSupport (port : MPort) : Row.Statement (.getMessageTypeSupport port) := table_spells_nothing _
theorem Row.getVendorDefinedMessageSupport (port : MPort) (selector : Byte) : Row.Statement (.getVendorDefinedMessageSupport port selector) := table_spells_nothing _
theorem Row.mctpUnsupportedCommand (port : MPort) (code : Byte) : Row.Statement (.mctpUnsupportedCommand port code) := table_spells_nothing _
theorem Row.entdaa (port : MPort) (da : U8) : Row.Statement (.entdaa port da) := table_spells_nothing _
theorem Row.setdasa (port : MPort) (static da : U8) : Row.Statement (.setdasa port static da) := table_spells_nothing _
theorem Row.setnewda (port : MPort) (da : U8) : Row.Statement (.setnewda port da) := table_spells_nothing _
theorem Row.rstdaa (port : MPort) : Row.Statement (.rstdaa port) := table_spells_nothing _
theorem Row.getpid (port : MPort) : Row.Statement (.getpid port) := table_spells_nothing _
theorem Row.getbcr (port : MPort) : Row.Statement (.getbcr port) := table_spells_nothing _
theorem Row.getdcr (port : MPort) : Row.Statement (.getdcr port) := table_spells_nothing _
theorem Row.getstatus (port : MPort) : Row.Statement (.getstatus port) := table_spells_nothing _
theorem Row.getmrl (port : MPort) : Row.Statement (.getmrl port) := table_spells_nothing _
theorem Row.getmwl (port : MPort) : Row.Statement (.getmwl port) := table_spells_nothing _
theorem Row.setmrl (port : MPort) (value : U16) : Row.Statement (.setmrl port value) := table_spells_nothing _
theorem Row.setmwl (port : MPort) (value : U16) : Row.Statement (.setmwl port value) := table_spells_nothing _
theorem Row.enec (port : MPort) : Row.Statement (.enec port) := table_spells_nothing _
theorem Row.disec (port : MPort) : Row.Statement (.disec port) := table_spells_nothing _
theorem Row.read (p : Port) (index : U16) (sub : U8) : Row.Statement (.read p index sub) := table_spells_nothing _
theorem Row.readBlock (p : Port) (index : U16) (sub : U8) (offset : U40) (count : U16) : Row.Statement (.readBlock p index sub offset count) := table_spells_nothing _
theorem Row.poll (p : Port) (entries : List (U16 × U8)) : Row.Statement (.poll p entries) := table_spells_nothing _
theorem Row.faWindowRead (p : Port) (offset : U40) (count : U16) : Row.Statement (.faWindowRead p offset count) := table_spells_nothing _
theorem Row.bist (p : Port) (m : Fin 8) (pass : Bool) : Row.Statement (.bist p m pass) := table_spells_nothing _
theorem Row.inject (p : Port) (m : Fin 8) : Row.Statement (.inject p m) := table_spells_nothing _
theorem Row.unitTest (p : Port) (code : U8) (pass : Bool) : Row.Statement (.unitTest p code pass) := table_spells_nothing _
theorem Row.pkCommandComplete : Row.Statement .pkCommandComplete := table_spells_nothing _
theorem Row.faReadExpiry (p : Port) : Row.Statement (.faReadExpiry p) := table_spells_nothing _

end Sys2Proof.Laws
end

