-- ==== Sys2Proof/Laws/Request.lean ====
section
/-! SUPPORT. Everything a dictionary request can do: no occurrence, an answer that a check gives, or the object's own rule
(R525, R529). -/
namespace Sys2Proof.Laws
open Sys2Proof.Machine

theorem admitted_iff {s : State} {p : Port} {v : Svc} {i sub n : Nat} :
    admitted s p v i sub n = true ↔ servable s p = true ∧ flipsOf s 7 0 = 0 ∧ opCheck s p v i sub n = eOk := by
  simp [admitted, and_assoc]

theorem fabricWord_whole {s : State} (h : flipsOf s 7 0 = 0) : fabricWord s = (false, s) := by
  simp [fabricWord, readWord, h]

/-- A request whose port is not reached or has one in progress is no occurrence. -/
theorem requestOp_unserved {s : State} {p : Port} {v : Svc} {i sub n : Nat} {rule : State → U8 × State}
    (h : servable s p = false) : requestOp p v i sub n rule s = .next s := by
  simp [requestOp, h]

/-- A request that a check refuses is answered with the check's code and changes nothing else. -/
theorem requestOp_refused {s : State} {p : Port} {v : Svc} {i sub n : Nat} {rule : State → U8 × State}
    (h : servable s p = true) (hf : flipsOf s 7 0 = 0) (hc : opCheck s p v i sub n ≠ eOk) :
    requestOp p v i sub n rule s = .next (reply p (opCheck s p v i sub n) s) := by
  have hc' : ¬opCheck s p v i sub n = 0#8 := hc
  simp [requestOp, request, h, fabricWord_whole hf, hc']

/-- An admitted request runs the object's rule and answers with its code. -/
theorem requestOp_admitted {s : State} {p : Port} {v : Svc} {i sub n : Nat} {rule : State → U8 × State}
    (h : admitted s p v i sub n = true) : requestOp p v i sub n rule s = .next (reply p (rule s).1 (rule s).2) := by
  obtain ⟨h1, h2, h3⟩ := admitted_iff.mp h
  simp [requestOp, request, h1, fabricWord_whole h2, h3]

/-- An admitted read answers with the object's bytes. -/
theorem readOp_admitted {s : State} {p : Port} {v : Svc} {i sub : Nat} {rule : State → U8 × List Byte × State}
    (h : admitted s p v i sub 0 = true) :
    readOp p v i sub rule s = .next (answer p (rule s).1 (rule s).2.1 (rule s).2.2) := by
  obtain ⟨h1, h2, h3⟩ := admitted_iff.mp h
  simp [readOp, request, h1, fabricWord_whole h2, h3]

theorem execOp_admitted {s : State} {p : Port} {i sub n : Nat} {rule : State → U8 × State}
    (h : admitted s p .exec i sub n = true) : execOp p i sub n rule s = .next (reply p (rule s).1 (rule s).2) :=
  requestOp_admitted h

theorem writeOp_admitted {s : State} {p : Port} {i sub n : Nat} {rule : State → U8 × State}
    (h : admitted s p .write i sub n = true) : writeOp p i sub n rule s = .next (reply p (rule s).1 (rule s).2) :=
  requestOp_admitted h

theorem blockOp_admitted {s : State} {p : Port} {i sub n : Nat} {rule : State → U8 × State}
    (h : admitted s p .writeBlock i sub n = true) : blockOp p i sub n rule s = .next (reply p (rule s).1 (rule s).2) :=
  requestOp_admitted h

end Sys2Proof.Laws
end

