-- ==== Sys2Proof/Tests/Slice0.lean ====
section
/-! SUPPORT. The model's own tests: each check of WellFormed refuses an ill-formed term, and the hypotheses of the
statements are met by concrete states. -/
namespace Sys2Proof.Tests
open Sys2Proof Sys2Proof.Machine
set_option Elab.async false

/-! ### WellFormed refuses -/

/-- A host command of channel 0 that nothing disturbs. -/
def h0 : HostCmd := { ch := 0 }

/-- A flash as discovery may find it. -/
def facts : FlashFacts where
  capacity := 2 ^ 24
  id := [0xEF, 0x40, 0x18]
  page256 := true
  cmds4B := true
  octal := true
  qpi := true
  meetsR92 := true
  erase4K := true
  erase32K := true
  dphys := List.replicate 7 8
  fast := [true, true, true]
  progTyp := 100
  progMax := 1000
  eraseTyp := 1000
  eraseMax := 10000

theorem test_wf_upset_word : (Upset.wf { mem := 6, word := 1, mask := 1 }) = false := by decide
theorem test_wf_upset_mask : (Upset.wf { mem := 0, word := 0, mask := 0 }) = false := by decide
theorem test_wf_host_ball : ({ h0 with hostBall := some 0x0B } : HostCmd).wf = false := by decide
theorem test_wf_flash_ball : ({ h0 with flashBall := some 0x1C } : HostCmd).wf = false := by decide
theorem test_wf_host_upset : ({ h0 with upsets := [{ mem := 7, word := 5, mask := 1 }] } : HostCmd).wf = false := by decide
theorem test_wf_flash_facts : (Found.populated { facts with capacity := 0 }).wf = false := by decide
theorem test_wf_kat : (Instr.kat (List.replicate 89 ⟨6, 0, 4⟩)).wf = false := by decide +kernel
theorem test_wf_sensors : (Instr.sensorRefresh [] []).wf = false := by decide
theorem test_wf_block_data : (Instr.manifestWrite .mp0 0 []).wf = false := by decide
theorem test_wf_register_write : (Instr.registerWrite .mp0 0x2000 1 []).wf = false := by decide
theorem test_wf_read_block : (Instr.readBlock .mp0 0x2101 0 0 4095).wf = false := by decide
theorem test_wf_poll : (Instr.poll .mp0 []).wf = false := by decide
theorem test_wf_device_read : (Instr.deviceReadComplete 0 .ok (some 0x0F) []).wf = false := by decide
theorem test_wf_packet : (Instr.mctpPacket 0 true (List.replicate 256 0)).wf = false := by decide +kernel
theorem test_wf_token : (Instr.tapToken []).wf = false := by decide
theorem test_wf_reload : (Instr.indexWordReload 2 131072).wf = false := by decide
theorem test_wf_accepts : (Instr.readBlock .mp0 0x2101 0 0 4094).wf = true ∧ (Instr.fastRead h0 0 1).wf = true := by decide

/-! ### The hypotheses of the statements are met -/

/-- The block in SERVICE phase, no channel started, the vault online. -/
def up : State := { State.reset with
  porPin := true, porN := true, refclk := true, pllLock := true, phase := .service, mgmtUp := true
  steps := [(1, 0), (2, 0), (3, 0), (4, 0), (5, 0), (6, 0), (7, 0), (8, 0), (9, 0), (10, 0)]
  vault := { eff := 0, rpmb := { key := [1] }, counters := some (List.replicate 62 0), userSectors := 65536, scanDone := true } }

/-- The block before step k of the power-up sequence. -/
def before (k : Nat) : State := { up with phase := .start, steps := up.steps.filter (fun x => x.1 < k) }

/-- Channel 0 changed. -/
def ch0 (f : Channel → Channel) (s : State) : State := modChan 0 f s

theorem test_time : up.pending = [] ∧ up.refclk = true ∧ up.porN = true ∧ up.subUs < 24 ∧
    ({ up with subUs := 24 } : State).subUs = 24 ∧ up.tbUs ≠ BitVec.allOnes 40 ∧ State.reset.refclk = false := by decide +kernel
theorem test_time_links : serveLinks (tick up) = tick up ∧ serveLinks (tick { up with subUs := 24 }) = tick { up with subUs := 24 } ∧
    serveLinks (tick State.reset) = tick State.reset := by decide +kernel
theorem test_order : clocksInOrder up ∧ Memory.wf 0 up.vault.user = true := by
  refine ⟨by unfold clocksInOrder; decide +kernel, by decide +kernel⟩
theorem test_requests : servable State.reset .l = false ∧ servable up .l = true ∧ flipsOf up 7 0 = 0 ∧
    opCheck up .l .read 0xFFFF 0 0 ≠ eOk ∧ admitted up .l .read 0x3001 0 0 = true ∧ admitted up .mp0 .read 0x3001 0 0 = true := by
  decide +kernel
theorem test_power : State.reset.porPin = false ∧ State.reset.heath.mainPower = true ∧
    (modHeath (fun h => { h with mainPower := false }) State.reset).heath.mainPower = false ∧ up.porN = true ∧
    (modHeath (fun h => { h with mainPower := false }) { State.reset with porPin := true }).heath.powered = true := by decide +kernel
theorem test_device_reset : admitted up .l .exec 0x1101 8 1 = true ∧ ({ up with deviceResetDue := some 6 } : State).porN = true := by
  decide +kernel
theorem test_boot : stepRuns (before 1) 1 = true ∧ stepRuns (before 2) 2 = true ∧ stepRuns (before 3) 3 = true ∧
    stepRuns (before 4) 4 = true ∧ stepRuns (before 5) 5 = true ∧ stepRuns (before 6) 6 = true ∧ stepRuns (before 7) 7 = true ∧
    stepRuns (before 8) 8 = true ∧ stepRuns (before 9) 9 = true ∧ (before 1).resetCause = 1 ∧ (before 1).bootResult = 0 := by
  decide +kernel
/-- OTP with its probe, every copy of the life cycle at `bs`. -/
def otpOf (bs : List Byte) : List (Nat × Byte) :=
  Mem.writeL 0 (Mem.writeL 0 (Mem.writeL 0 (Mem.writeL 0 [] 0 [0x96, 0x3C, 0xA5, 0xC3, 0x5A]) 8 bs) 16 bs) 24 bs

theorem test_boot_vote : lcVote { before 3 with lc := { otp := otpOf [] } } = .majority 0 ∧
    lcVote { before 3 with lc := { otp := otpOf [0xFF, 0xFF, 0xFF] } } = .majority 3 ∧
    lcVote { before 3 with lc := { otp := otpOf [0, 0, 0, 0xFF] } } = .majority 4 := by decide +kernel
theorem test_boot_entropy : (before 4).katResults.length = 10 ∧ (tget (before 5).steps 3).isSome = true ∧
    (let s := modRandom (fun r => { r with ling := { st := 1 }, sedge := { st := 1 }, fescue := { st := 1 } }) (before 5)
     (sourceAt s 0).st = 1 ∧ (sourceAt s 1).st = 1 ∧ (sourceAt s 2).st = 1 ∧ s.random.pool = [] ∧ s.random.st = 0) := by
  decide +kernel
theorem test_boot_attempts : (before 7).bootAttempts.toNat < 3 ∧ (before 7).vault.bootEnable ≠ 2 ∧
    6 ≤ ({ before 7 with bootAttempts := 6 } : State).bootAttempts.toNat := by decide +kernel
theorem test_core_reset : (let s := { up with coresDown := true, rtCopy := 0 }
    s.coresDown = true ∧ s.porN = true ∧ s.deviceResetDue = none ∧ s.coresHeld = false ∧ s.refclk = true ∧ s.vault.eff = 0 ∧
    runtimeDone s = true ∧ s.phase ≠ .recovery ∧ s.rtCopy = 0) := by decide +kernel
theorem test_runtime_install : (let s := { up with phase := .recovery, recoveryByRuntime := true }
    admitted s .mp0 .writeBlock 0x1103 0 1 = true ∧ admitted s .mp0 .exec 0x1103 1 1 = true ∧ rtReject s s.rtImage ≠ none ∧
    admitted { s with recoveryByRuntime := false } .mp0 .exec 0x1103 1 1 = true) := by decide +kernel
theorem test_clock : clockDone up = true ∧ clockDone { up with refclk := false } = true ∧
    ({ up with pllLock := false } : State).pllLock = false := by decide +kernel
theorem test_sensors : up.paceArmed = true ∧ 170 < (171 : U16).toNat ∧ (170 : U16).toNat ≤ 170 ∧ up.tj.length = 8 ∧ up.tjMax.length = 8 ∧
    up.railMv.length = 7 ∧ up.railMin.length = 7 ∧ up.railMax.length = 7 ∧
    ({ up with tbUs := BitVec.allOnes 40 } : State).tbUs = BitVec.allOnes 40 := by decide +kernel
theorem test_scrub : flipsOf up (scrubPlace up.scrubPos).1 (scrubPlace up.scrubPos).2 = 0 ∧ up.scrubPos + 1 < scrubTotal ∧
    (let s := { up with scrubPos := scrubTotal - 1 }
     flipsOf s (scrubPlace s.scrubPos).1 (scrubPlace s.scrubPos).2 = 0 ∧ s.scrubPos + 1 = scrubTotal) := by decide +kernel
theorem test_timeouts : (chanAt (ch0 (fun x => { x with devRead := some (.glean 0) }) up) 0).devRead = some (.glean 0) ∧
    (chanAt up 0).eff = .off ∧ vaultReady up = true ∧ (modVault (fun v => { v with ops := [.stage 0] }) up).vault.ops ≠ [] ∧
    (modRandom (fun r => { r with wires := [0] }) up).random.wires = [0] ∧
    (mportAt (modMport 0 (fun x => { x with partialMsg := some ([], 0, 0, 0) }) up) 0).partialMsg.isSome = true ∧
    (let s := modTimeout 0 (fun o => { o with expired := 1 }) up
     (s.timeouts[(0 : Fin 14)]).late.toNat < (s.timeouts[(0 : Fin 14)]).expired.toNat ∧ (chanAt s 0).flash0.busy = none) := by
  decide +kernel
/-- Channel 0 RUNNING with one rule over its lines: read mode and program policy as given. -/
def run (mode policy : Nat) : State :=
  let row : RuleRow := BitVec.ofNat 128 (2 ^ 127 + 0xFFFF * 2 ^ 76 + mode * 2 ^ 74 + policy * 2 ^ 72)
  let s := ch0 (fun x => { x with eff := .running, flash0 := { facts := some facts }, discovered := true, pg := true }) up
  { s with hedgerow := { table := [(0, row)], index := [(0, row)] } }

/-- A context of line 0 of channel 0. -/
def ctx (st : LineState) (pin : Bool) : Ctx :=
  { state := st, space := 0, line := 0, pin := pin, tree := 0, data := List.replicate 256 0, present := BitVec.allOnes 32,
    used := 0, start := 0, haddr := 0 }

theorem test_host_reads : hostClean h0 (run 0 0) = true ∧ (chanAt (run 0 0) 0).vf.mode = .spi ∧
    (let l := lookup 0 0 (run 0 0); l.2.1 = false ∧ l.2.2 = run 0 0 ∧ l.1 = verdictAt (run 0 0) 0 0) ∧
    (verdictAt (run 0 0) 0 0).rule ≠ none ∧ (verdictAt (run 0 0) 0 0).readMode = 0 ∧
    pieceInTime (chanAt (run 0 0) 0) false { first := false } (verdictAt (run 0 0) 0 0) = true ∧
    (verdictAt (run 3 0) 0 0).readMode = 3 ∧ (verdictAt (run 1 0) 0 0).readMode = 1 ∧
    (verdictAt (run 2 0) 0 0).readMode = 2 ∧ running (chanAt up 0) = false ∧ h0.upsets = [] := by decide +kernel
theorem test_host_reads_hayloft :
    (let s := modHay (fun h => { h with ctxs := [(0, ctx .verified false)] }) (run 1 0)
     (findCtx s 0 0).isSome = true ∧ (serveHayloft 0 (ctx .verified false) 0 1 (touchCtx 0 (ctx .verified false) s)).1 = some [0]) ∧
    (let s := modHay (fun h => { h with ctxs := [(0, ctx .pinned true)] }) (run 2 0)
     (findCtx s 0 0).isSome = true ∧ (serveHayloft 0 (ctx .pinned true) 0 1 s).1 = some [0]) := by decide +kernel
theorem test_host_programs : (let s := modVf 0 (fun v => { v with wel := true }) (run 0 1)
    hostClean h0 s = true ∧ h0.whole = true ∧ (chanAt s 0).vf.wel = true ∧ wipOf (chanAt s 0) = false ∧
    (let u := clearWel 0 (drive 0 [] s); (lookup 0 0 u).2.1 = false ∧ (lookup 0 0 u).2.2 = u ∧ (verdictAt u 0 0).policy ≤ 1 ∧
      (verdictAt u 0 0).readMode ≠ 3)) ∧ (verdictAt (run 0 3) 0 0).policy = 3 ∧ (verdictAt (run 0 3) 0 70000).rule = none ∧
    (verdictAt (run 3 0) 0 0).readMode = 3 := by decide +kernel
theorem test_host_erases : (let s := modVf 0 (fun v => { v with wel := true }) (run 0 0)
    (let x := (List.range (2 ^ 12 / 256)).foldl (fun y i => judgeLine h0 0 i y) (({} : WriteRun), clearWel 0 (drive 0 [] s))
     x.1.noRule = false ∧ x.1.policy ≤ 1 ∧ x.1.place = some (0, 0))) ∧
    (let s := modVf 0 (fun v => { v with wel := true }) (run 0 3)
     (let x := (List.range (2 ^ 12 / 256)).foldl (fun y i => judgeLine h0 0 i y) (({} : WriteRun), clearWel 0 (drive 0 [] s))
      x.1.noRule = false ∧ 3 ≤ x.1.policy)) := by decide +kernel
theorem test_host_modes : modeSupported (run 0 0) 0 .qpi = true ∧ modeSupported (run 0 0) 0 .octal = true ∧
    (chanAt (modVf 0 (fun v => { v with mode := .qpi }) (run 0 0)) 0).vf.mode = .qpi ∧
    (chanAt (modVf 0 (fun v => { v with mode := .octal }) (run 0 0)) 0).vf.mode = .octal ∧
    (chanAt (modVf 0 (fun v => { v with rstArmed := true }) (run 0 0)) 0).vf.rstArmed = true := by decide +kernel
theorem test_flash_operations : (let s := ch0 (fun x => { x with flash0 := { busy := some (.host (.erase 0 12)) } }) up
    (flashOf (chanAt s 0) 0).busy = some (.host (.erase 0 12)) ∧ Memory.wf 0xFF (flashOf (chanAt s 0) 0).cells = true) ∧
    (let s := ch0 (fun x => { x with failedOp := some (0, .erase 0 12) }) up
     coresRun s = true ∧ (flashOf (chanAt s 0) 0).busy = none ∧ (chanAt s 0).devRead = none) ∧
    (let s := ch0 (fun x => { x with failedRead := some (.glean 0) }) up
     (chanAt s 0).failedOp = none ∧ (chanAt s 0).csLow = false) ∧
    (chanAt (modVf 0 (fun v => { v with syncDue := true }) up) 0).vf.syncDue = true ∧
    (chanAt (ch0 (fun x => { x with stageOp := some ⟨0, 0, 0, 0, 0, []⟩ }) up) 0).stageOp.isSome = true := by decide +kernel
theorem test_device_reads : (let x := { ctx .filling false with present := 1 }
    let s := modHay (fun h => { h with ctxs := [(0, x)] }) (run 1 0)
    fillDue s 0 = some x ∧ missingBeats x = some (1, 31) ∧ portFree s 0 0 = true) ∧
    (let s := run 2 0
     (verdictAt s 0 0).readMode = 2 ∧ findCtx s 0 0 = none ∧ takeWay s 0 0 = .way 0 ∧ portFree s 0 0 = true) ∧
    (let s := modHay (fun h => { h with ctxs := [(0, ctx .filling true)] }) (run 2 0)
     findCtx s 0 0 = some (0, ctx .filling true)) ∧
    (let s := modHay (fun h => { h with retiredCtx := List.range 16 }) (run 2 0)
     takeWay s 0 0 = .none ∧ (chanAt s 0).placeFailed.contains (0, 0) = false) ∧
    (let s := modHay (fun h => { h with ctxs := [(0, ctx .pinned true)], reqState := 1 }) (run 2 0)
     hayloftEff s = 1 ∧ canWork s = true ∧ gleanNext s = some 0 ∧ portFree s 0 0 = true) ∧
    (let s := ch0 (fun x => { x with eff := .preloading }) up
     s.update.act = none ∧ preloadReady s 0 = true) := by decide +kernel
/-- The tree of line 0. -/
def tree0 : TreeEntry where
  depth := 1
  channel := 0
  taCs := 0
  hbase := 0
  nlines := 16
  taAddr := 0
  vaultFa := 0
  root := List.replicate 32 0

theorem test_node_fetch : (let s := modHay (fun h => { h with ctxs := [(0, ctx .checking false)], trees := [(0, tree0)] }) (run 1 0)
    treeCovers s 0 0 0 = true ∧ (nextNode s (ctx .checking false)).isSome = true ∧ soundAncestor 7 (ctx .checking false) s = s ∧
    portFree s 0 0 = true ∧ findCtx s 0 0 = some (0, ctx .checking false)) := by decide +kernel
theorem test_line_checks : (let x := { ctx .checking false with path := [(1, 0, List.replicate 512 0)], fetched := true }
    let s := modHay (fun h => { h with ctxs := [(0, x)], trees := [(0, tree0)] }) (run 1 0)
    findCtx s 0 0 = some (0, x) ∧ treeCovers s 0 0 0 = true ∧ nextNode s x = none ∧ readBeats 0 0 32 s = (true, s) ∧
    (x.path.find? (fun p => p.1 == 1 && p.2.1 == pathIndex (leafIndex tree0 x.haddr) 1)).isSome = true) ∧
    (let s := modHay (fun h => { h with ctxs := [(0, ctx .checking false)] }) (run 1 0)
     treeCovers s 0 0 0 = false) := by decide +kernel
theorem test_requested_states : admitted up .l .write 0x3001 0 1 = true ∧ admitted up .l .write 0x3501 0 1 = true ∧
    (chanAt up 0).eff ≠ .retired ∧ up.lc.state ≠ 4 ∧
    (let s := ch0 (fun x => { x with eff := .retired }) up; admitted s .l .write 0x3001 0 1 = true ∧ (chanAt s 0).eff = .retired) ∧
    admitted up .l .write 0x5001 0 1 = true ∧ admitted up .l .write 0x3601 0 1 = true ∧ up.fallow.retired = false ∧
    (let s := modFallow (fun f => { f with retired := true }) up
     admitted s .l .write 0x3601 0 1 = true ∧ s.fallow.retired = true) ∧
    admitted up .l .write 0x6001 0 1 = true ∧ up.vault.eff = 0 ∧ canWork up = true ∧ vaultBusy up = false ∧
    (let s := modVault (fun v => { v with eff := 3 }) up; admitted s .l .write 0x6001 0 1 = true ∧ s.vault.eff = 3) := by
  decide +kernel
theorem test_channel_events : (let s := ch0 (fun x => { x with eff := .held }) up
    (chanAt s 0).eff ≠ .off ∧ (chanAt s 0).eff ≠ .retired ∧ (chanAt s 0).discovered = false ∧ canWork s = true ∧
    s.pllLock = true ∧ s.phase = .service) ∧ (chanAt (run 0 0) 0).pg = true ∧ State.reset.porN = false ∧
    (let s := modHr (fun h => { h with reloadDue := [(2, 5)] }) up
     s.hedgerow.reloadDue.contains (2, 5) = true ∧ runtimeUp s = true ∧ s.hedgerow.rewritten.contains (2, 5) = false) := by
  decide +kernel
theorem test_holds : admitted up .l .exec 0x5000 6 1 = true ∧ admitted up .l .exec 0x3003 0 1 = true ∧
    admitted up .l .exec 0x3003 1 1 = true ∧ admitted up .l .exec 0x3602 0 1 = true ∧ admitted up .l .exec 0x6002 0 1 = true ∧
    (chanAt up 0).eff = .off ∧
    (let s := ch0 (fun x => { x with eff := .quarantined }) up
     admitted s .l .exec 0x3003 0 1 = true ∧ (chanAt s 0).eff = .quarantined) ∧
    (let s := ch0 (fun x => { x with quarPending := true }) (run 0 0)
     admitted s .l .exec 0x3003 0 1 = true ∧ (chanAt s 0).eff = .running ∧ (chanAt s 0).quarPending = true) ∧
    (let s := ch0 (fun x => { x with eff := .retired, hostPort := { retired := true } }) up
     admitted s .l .exec 0x3003 1 1 = true ∧ (chanAt s 0).flashPort.retired = false ∧ (chanAt s 0).pipeline.retired = false) ∧
    (let s := modFallow (fun f => { f with retired := true }) up; admitted s .l .exec 0x3602 0 1 = true) ∧
    (let s := modVault (fun v => { v with eff := 3 }) up; admitted s .l .exec 0x6002 0 1 = true) := by decide +kernel
theorem test_takeovers : (chanAt (ch0 (fun x => { x with hotPending := true, takeover := true, handbackPending := true }) up) 0).takeover = true ∧
    up.fallow.retired = false ∧ up.fallow.marchDue = false ∧ canWork up = true := by decide +kernel
theorem test_releases : (let s := ch0 (fun x => { x with eff := .preloading, preloadDone := true, pg := true }) up
    releaseReady s 0 0xFF = true ∧ planRelDelay (planOf s 0) = 0 ∧ (chanAt s 0).released = false) ∧
    (let s := { ch0 (fun x => { x with eff := .preloading, preloadDone := true, pg := true }) up with
       cfg := [(objKey 0x3004 0, leBytes 5 (0x4000000000 + 5))] }
     coresRun s = true) ∧
    (chanAt (ch0 (fun x => { x with depArmed := true }) up) 0).depArmed = true := by decide +kernel
theorem test_staging : admitted up .l .write 0x4100 1 16 = true ∧ ruleAcceptable 0 = true ∧ ruleAcceptable 1 = false ∧
    admitted up .l .writeBlock 0x4101 0 16 = true ∧ admitted up .l .write 0x3000 2 1 = true ∧
    (entryAt 0x3000 2).map (·.acc) = some .rwc ∧ (portRegs up .l).staged.length < 1024 := by decide +kernel
theorem test_staging_rows : blockRows (List.replicate 16 0) = [0] := by decide +kernel
theorem test_staging_codes : rwcCheck up .l 0x3000 2 0 = eOk ∧ rwcCheck up .l 0x3000 2 0xFF ≠ eOk := by decide +kernel
theorem test_staging_full : (let s := modPort .l (fun r => { r with staged := List.replicate 1024 (0, []) }) up
    1024 ≤ (portRegs s .l).staged.length) := by
  exact Nat.le_of_eq (List.length_replicate (n := 1024) (a := ((0 : Nat), ([] : List Byte)))).symm
theorem test_commit : admitted up .l .exec 0xC001 0 1 = true ∧ admitted up .l .exec 0xC001 2 1 = true ∧
    admitted up .l .exec 0x4000 7 1 = true ∧ (let u := withStaged .l up
     valueStep up u .l = none ∧ (ruleSteps u .l up).1 = none ∧ planStep (ruleSteps u .l up).2 u = none ∧
     claimStep (ruleSteps u .l up).2 u .l = none) ∧
    (let s := { up with phase := .recovery }; admitted s .l .exec 0xC001 0 1 = true) := by decide +kernel
theorem test_vault_work : (let s := modVault (fun v => { v with ops := [.stage 0] }) up
    s.vault.ops = [.stage 0] ∧ vaultReady s = true ∧ s.vault.retries = 0 ∧
    (modVault (fun v => { v with retries := 3 }) s).vault.retries = 3) ∧ up.vault.configSaved = false ∧
    keptOnly up ++ unarchived up = [] := by decide +kernel
theorem test_vault_orders : admitted up .l .exec 0x6000 6 1 = true ∧ up.lc.state = 0 ∧
    (let s := modLc (fun l => { l with state := 2 }) up; admitted s .l .exec 0x6000 6 1 = true) ∧
    admitted up .l .exec 0x6005 1 1 = true ∧ vaultReady up = true ∧ up.vault.scanDone = true ∧
    (let s := modVault (fun v => { v with scanDone := false }) up; admitted s .l .exec 0x6005 1 1 = true) ∧
    (let s := modVault (fun v => { v with restoreTarget := 0x8000 }) (run 0 0)
     admitted s .l .exec 0x6100 1 1 = true ∧ (chanAt s 0).eff = .running ∧ (chanAt s 0).seq = none ∧
     regionTrees s 0 (orderedRegion s 0 true 0) = []) ∧
    (let s := modVault (fun v => { v with restoreTarget := 0x8000 }) up
     admitted s .l .exec 0x6100 1 1 = true ∧ (chanAt s 0).eff = .off) := by decide +kernel
theorem test_stile : (let j : StileJob := { kind := 1, volatileJob := false, record := [], flips := [] }
    let s := modUpd (fun u => { u with job := some j }) up
    s.update.job = some j ∧ canWork s = true ∧ rpmbReady s = true ∧ s.update.act = none) := by decide +kernel
theorem test_update : admitted up .l .writeBlock 0x7001 0 1 = true ∧ up.update.state = 0 ∧ admitted up .l .exec 0x7000 1 1 = true ∧
    (admitCheck up []).isSome = true ∧ admitted up .l .writeBlock 0x7002 1 1 = true ∧ up.update.state ≠ 1 ∧
    admitted up .l .exec 0x7000 2 1 = true ∧ admitted up .l .exec 0x7000 6 1 = true ∧ admitted up .l .exec 0x7000 3 1 = true ∧
    admitted up .l .exec 0x7000 4 1 = true ∧ admitted up .l .exec 0x7000 5 1 = true ∧
    (let s := modUpd (fun u => { u with state := 6, trialStart := some 0 }) up
     admitted s .l .exec 0x7000 4 1 = true ∧ admitted s .l .exec 0x7000 5 1 = true ∧ s.update.act = none) ∧
    (let s := modUpd (fun u => { u with state := 4 }) up
     admitted s .l .exec 0x7000 3 1 = true ∧ s.vault.degraded = false ∧ rpmbWritable s = true ∧ affectedBy s.update.manifest = []) ∧
    (let s := modUpd (fun u => { u with state := 3 }) up
     suspended s = false ∧ vaultReady s = true ∧ (partAt s.update.manifest s.update.currentPart).kind ≠ 2) ∧
    (let s := modUpd (fun u => { u with state := 1, manifest := List.replicate 2048 1 }) up
     admitted s .l .writeBlock 0x7002 1 1 = true ∧ 0 < mfCount s.update.manifest) := by decide +kernel
theorem test_digest : admitted up .l .exec 0x8100 1 1 = true ∧ up.digestHealth.retired = false ∧ (bankChoice up .l).isSome = true ∧
    (let s := { up with banks := Vector.replicate 8 { st := .idle, owner := some .l, alg := 2 } }
     admitted s .l .exec 0x8100 1 1 = true ∧ bankChoice s .l = none ∧ admitted s .l .write 0x8110 4 5 = true ∧
     admitted s .l .write 0x8117 4 5 = true ∧ algBlock (bankAt s 0).alg.toNat ≠ 0 ∧ (bankAt s 7).st = .idle) ∧
    (let s := { up with banks := Vector.replicate 8 { st := .absorbing, owner := some .l, alg := 2, declLength := 4 } }
     admitted s .l .writeBlock 0x8110 6 4 = true ∧ admitted s .l .writeBlock 0x8117 6 5 = true ∧
     admitted s .l .exec 0x8110 8 1 = true ∧ admitted s .l .exec 0x8117 0xD 1 = true ∧ (bankAt s 0).absorbed = 0 ∧
     (bankAt s 0).declLength.toNat = 4) ∧
    (let s := { up with banks := Vector.replicate 8 { st := .absorbing, owner := some .l, alg := 2, declLength := 4, absorbed := 4 } }
     (bankAt s 0).declLength.toNat ≤ (bankAt s 0).absorbed.toNat) := by decide +kernel
/-- Key slot `k` holds a key with every usage, owned by port L. -/
def keyed (k : Nat) (s : State) : State :=
  modKeys (fun x => { x with slots := tput x.slots k { attr := BitVec.ofNat 32 (0xFF + 2 ^ 31 + 2 ^ 25) } }) s
theorem test_digest_keys : (let s := { up with banks := Vector.replicate 8 { st := .absorbing, owner := some .l, alg := 2, declLength := 1024 } }
    admitted s .l .exec 0x8110 7 2 = true ∧ ksLoaded s 20 = false ∧ admitted s .l .exec 0x8110 0xA 1 = true ∧
    (bankAt s 0).absorbed.toNat % algBlock (bankAt s 0).alg.toNat = 0) ∧
    (let s := { up with banks := Vector.replicate 8 { st := .idle, owner := some .l } }
     admitted s .l .exec 0x8110 0xC 1 = true) ∧ (bankAt { up with banks := Vector.replicate 8 { st := .idle } } 0).st ≠ .free := by
  decide +kernel
theorem test_cipher : admitted up .l .exec 0x8200 1 1 = true ∧ up.cipherHealth.retired = false ∧ (cxChoice up .l).isSome = true ∧
    (let s := { up with cxs := Vector.replicate 4 { st := .idle, owner := some .l, mode := 1, keySlot := 20 } }
     cxChoice s .l = none ∧ admitted s .l .write 0x8210 7 5 = true ∧ admitted s .l .write 0x8213 7 5 = true ∧
     cxFormOk (cxAt s 0) 16 = true ∧ ksLoaded s 20 = false) ∧
    (let s := { up with cxs := Vector.replicate 4 { st := .absorbing, owner := some .l, mode := 1, declLength := 16, key := zeros 32 } }
     admitted s .l .writeBlock 0x8210 8 16 = true ∧ (cxAt s 0).input.length = 0 ∧ admitted s .l .exec 0x8210 0xB 1 = true) ∧
    (let s := { up with cxs := Vector.replicate 4 { st := .absorbing, owner := some .l, mode := 2, dir := 1, key := zeros 32 } }
     admitted s .l .exec 0x8210 0xA 1 = true ∧ (cxAt s 0).declLength.toNat ≤ (cxAt s 0).input.length) := by decide +kernel
theorem test_keys : admitted up .l .exec 0x8300 3 1 = true ∧ admitted up .l .exec 0x8300 4 1 = true ∧
    admitted up .l .exec 0x8300 8 1 = true ∧ admitted up .l .exec 0x8300 0xB 1 = true ∧ admitted up .l .exec 0x8300 7 1 = true ∧
    admitted up .l .exec 0x8300 0xC 1 = true ∧ admitted up .l .exec 0x8300 0x10 1 = true ∧ admitted up .l .exec 0x8300 0x11 1 = true ∧
    ksLoadCheck up .l ≠ eOk ∧ (let s := modPort .l (fun r => { r with ksSelect := 20, ksReqAttr := 1 }) up
     ksLoadCheck s .l = eOk ∧ tget s.keys.slots 20 = none ∧ s.lc.state = 0) ∧ ksWith up .l 20 6 = false ∧ dssNext up = some 0 ∧
    up.keys.keyState ≠ 2 := by decide +kernel
theorem test_key_in_slot : (let s := keyed 20 (modPort .l (fun r => { r with ksSelect := 20 }) up)
    tget s.keys.slots 20 ≠ none ∧ admitted s .l .exec 0x8300 0xC 1 = true) := by decide +kernel
theorem test_pke : admitted up .l .write 0x8401 0 1 = true ∧ pkPending up .l = 0 ∧ admitted up .l .exec 0x8401 9 1 = true ∧
    admitted up .l .writeBlock 0x8401 6 50 = true ∧ 50 = 5 * (pkPort up .l).limbs.toNat ∧ admitted up .l .exec 0x8401 2 5 = true ∧
    up.pke.health.retired = false ∧ (pkEntryFor up .l).isSome = true ∧ up.pke.running = none := by decide +kernel
/-- An ADD of slots 0 and 1 modulo slot 2 into slot 3, of port L. -/
def add0 : PkEntry := { entry := 0, port := .l, op := 1, w := { secret := false, reserved := 0, key := 0, r := 3, a := 0, b := 1, m := 2 }, seq := 1 }
theorem test_pke_commands : (let s := modPke (fun k => { k with queue := [add0] }) up
    pkNext s = some add0 ∧ pkCheck (modPke (fun k => { k with queue := [], running := some add0 }) s) add0 ≠ eOk ∧
    pkPending s .l ≠ 0) ∧
    (let s := modPke (fun k => { k with running := some add0 }) (modPk .l (fun k => { k with
       slots := [(0, { value := 3 }), (1, { value := 4 }), (2, { value := 5 })] }) up)
     s.pke.running = some add0 ∧ (let v := pkVals (pkPort s .l) add0.w; (v.a + v.b) % v.m = 2) ∧
     pkCheck s add0 = eOk ∧ (pkSlot (pkPort s .l) 3).cls ≠ .withheld) := by decide +kernel
theorem test_random : (let s := modRandom (fun r => { r with ling := { st := 1 }, st := 1 }) up
    (sourceAt s 0).st = 1 ∧ (tget s.steps 5).isSome = true ∧ s.random.st = 1 ∧ (sourceAt s 1).st ≠ 4) ∧
    (let s := modRandom (fun r => { r with ling := { st := 2 }, st := 1, pool := [[]] }) up
     activeSource s = some 0 ∧ s.random.testPattern = false ∧ s.random.wires = [] ∧ rawTaker s.random = none) ∧
    admitted up .l .exec 0x8000 5 1 = true ∧ (sourceAt up 2).st ≠ 4 ∧
    (let s := modRandom (fun r => { r with fescue := { st := 4 } }) up; admitted s .l .exec 0x8000 5 1 = true ∧ (sourceAt s 2).st = 4) ∧
    admitted up .l .write 0x8000 3 1 = true ∧ up.lc.state = 0 ∧ up.random.st ≠ 3 ∧
    (let s := modRandom (fun r => { r with testPattern := true, ling := { st := 2 } }) up
     admitted s .l .write 0x8000 3 1 = true ∧ activeSource s = some 0) ∧
    (let s := modLc (fun l => { l with state := 1 }) up; admitted s .l .write 0x8000 3 1 = true) := by decide +kernel
theorem test_random_output : (let s := modRandom (fun r => { r with st := 1 }) up
    s.random.pool = [] ∧ s.random.wiresLate = [] ∧ s.refclk = true) ∧
    (modRandom (fun r => { r with st := 2, pool := [[]] }) up).random.pool = [[]] ∧ admitted up .l .exec 0x8030 4 1 = true ∧
    (let s := modRandom (fun r => { r with st := 3 }) up; admitted s .l .exec 0x8030 4 1 = true ∧ s.random.st = 3) ∧
    windowNow none up = none ∧ admitted up .l .read 0x8020 2 0 = true ∧ rawModeOf up .l = 1 ∧
    (let s := modRandom (fun r => { r with rawSelect := [0, 0, 0], rawBuf := [[], [], zeros 128] }) up
     rawModeOf s .l ≠ 1 ∧ 5 ≤ (s.random.rawBuf.getD 2 []).length ∧ admitted s .l .read 0x8020 2 0 = true ∧
     admitted s .l .readBlock 0x8020 3 0 = true) ∧
    rawDrbgReady (modRandom (fun r => { r with st := 1 }) up) .l = true ∧ admitted up .l .write 0x8020 0 1 = true := by decide +kernel
/-- Port 0's SPDM connection at stage `n`, with an identity, a chain and random values. -/
def spdmUp (n : Nat) : State :=
  modConn 0 (fun c => { c with stage := n }) (modSpdm (fun x => { x with chain := zeros 100 })
    (modKeys (fun k => { k with keyState := 1 }) (modRandom (fun r => { r with st := 1 }) up)))
/-- An SPDM request of port 0 with `n` body bytes. -/
def spdmReq (n : Nat) : SpdmReq := { port := 0, version := 0x13, body := zeros n }

theorem test_spdm : servable (spdmUp 0) .mp0 = true ∧ portOfM (spdmReq 0).port = .mp0 ∧
    creditsFree (mportAt (spdmUp 0) 0) ≠ 0 ∧ inService (spdmUp 0) = true ∧ (spdmConn (spdmUp 1) 0).stage = 1 ∧
    (spdmReq 16).body.length = 16 ∧ (spdmConn (spdmUp 2) 0).stage = 2 ∧ (spdmConn (spdmUp 3) 0).stage = 3 ∧
    hasIdentity (spdmUp 3) = true ∧ hasIdentity up = false ∧ fieldAt (spdmReq 4).body 0 2 < (spdmUp 3).spdm.chain.length ∧
    (spdmReq 40).body.length = 40 ∧ (spdmUp 3).pke.health.retired = false := by decide +kernel
theorem test_spdm_algorithms : (let b : List Byte := [0x20, 0, 0, 0, 0x80, 0, 0, 0, 2, 0, 0, 0] ++ zeros 16
    b.length = 28 + 4 * (byteAt b 24 + byteAt b 25) + 4 * 0 ∧ fieldAt b 0 2 = 4 + b.length ∧
    bit (fieldAt b 4 4) 7 = true ∧ bit (fieldAt b 8 4) 1 = true) := by decide +kernel
theorem test_spdm_nonce : (spdmNonce (spdmUp 3)).1.isSome = true ∧ spdmBlocks 0 = some [] ∧
    spdmBlocks 0x10 = some [0x10] ∧ (spdmUp 3).spdm.pendingBlocks = [] ∧ (0x50 : Byte).toNat ∉ spdmCodes := by decide +kernel
theorem test_spdm_key_exchange : (spdmReq 134).body.length = 134 + fieldAt (spdmReq 134).body 132 2 ∧
    (spdmScalar (spdmNonce (spdmUp 3)).2).1.isSome = true ∧ (spdmUp 3).spdm.sessions = [] ∧
    (spdmScalar (spdmNonce (spdmUp 3)).2).2.spdm.sessions = [] := by decide +kernel
theorem test_ecdh : (ecdh 5 (pointBytes gx384 gy384)).isSome = true := by decide +kernel
/-- A session of port 0. -/
def session0 (done : Bool) : Session := { id := 7, port := 0, lastTick := 0, finished := done }
theorem test_spdm_session : (let s := modSpdm (fun x => { x with sessions := [session0 false] }) (spdmUp 3)
    lastSession 0 false s = some 7 ∧ s.spdm.sessions.find? (fun y => y.id == 7) = some (session0 false)) ∧
    (let s := modSpdm (fun x => { x with sessions := [session0 true] }) (spdmUp 3)
     lastSession 0 true s = some 7 ∧ s.spdm.sessions.find? (fun y => y.id == 7) = some (session0 true) ∧
     s.spdm.sessions.find? (fun x => x.id == 7 && x.port == (0 : MPort).val) = some (session0 true) ∧
     s.cipherHealth.retired = false ∧ openRecord (session0 true) [] = none ∧ (mportAt s 0).rx = []) := by decide +kernel
theorem test_heath : up.heath.powered = true ∧ (modHeath (fun h => { h with mainPower := false }) up).heath.mainPower = false ∧
    (modHeath (fun h => { h with powered := false }) up).heath.powered = false ∧ up.refclk = true ∧ up.heath.mainPower = true ∧
    admitted up .l .exec 0x9000 4 1 = true ∧ inService up = true ∧ holdCondition up = false ∧
    (let s := modHeath (fun h => { h with condition := BitVec.allOnes 10, monitors := h.monitors.map (fun m => { m with cfg := 0xA100 }) }) up
     holdCondition s = true ∧ admitted s .l .exec 0x9000 4 1 = true) ∧ admitted up .l .exec 0x9000 3 1 = true := by decide +kernel
theorem test_heath_alarm : (let s := modLc (fun l => { l with otp := otpOf [0xFF] }) (modHeath (fun h => { h with
      monitors := h.monitors.map (fun m => { m with cfg := 0xF100 }) }) up)
    lcInOtp s ≠ 0 ∧ s.heath.hrec.length < 16 ∧ s.heath.mainPower = true ∧ (monCfg s 3).toNat = 0xF100 ∧
    (monitorTick (monCfg s 3).toNat true 0 {}).2 = some 1 ∧ (monitorTick (monCfg s 3).toNat false 0 {}).2 = none) := by
  decide +kernel
theorem test_cell_arm : admitted up .l .exec 0x9002 1 1 = true ∧ up.lc.state = 0 ∧ up.phase = .service ∧
    up.keys.keyState ≠ 1 ∧ up.random.st ≠ 1 ∧ (let s := modRandom (fun r => { r with st := 1 }) up
      s.random.st = 1 ∧ admitted s .l .exec 0x9002 1 1 = true ∧ cellArmed s = false) ∧
    (let s := modLc (fun l => { l with state := 2 }) up
     s.lc.state = 2 ∧ admitted s .l .exec 0x9002 1 1 = true) := by decide +kernel
/-- The watchdog runs a window of one unit closed and ten open that started at tick 0, with task 3, now at tick `t`. -/
def watched (t : Nat) (f : Watchdog → Watchdog) : State :=
  modWd (fun w => f { w with running := true, prescale := 100, closedLen := 1, openLen := 10, tasks := 8 }) { up with now := t }
theorem test_watchdog : (let s := watched 200 id
    admitted s .l .exec 0xA001 0 1 = true ∧ s.wd.running = true ∧ (wdTaskSet s).getLsbD 3 = true ∧
    (wdTaskSet s).getLsbD 4 = false ∧ s.wd.present.getLsbD 3 = false ∧ admitted s .l .exec 0xA001 1 2 = true ∧
    s.wd.keyNext = 0xA55A ∧ wdClosedEnd s.wd ≤ wdElapsed s ∧ wdElapsed s < wdOpenEnd s.wd ∧ s.wd.recovery = false ∧
    (s.wd.tasks &&& ~~~s.wd.present) ≠ 0 ∧ s.deviceResetDue = none ∧ s.porN = true ∧ s.wd.response = 0 ∧
    runtimeDone s = true ∧ admitted s .l .exec 0xA000 6 1 = true) ∧
    wdElapsed (watched 50 id) < wdClosedEnd (watched 50 id).wd ∧ up.wd.running = false ∧
    admitted { up with refclk := false } .l .exec 0xA001 0 1 = true ∧
    (let s := watched 200 (fun w => { w with present := 8 })
     s.wd.present.getLsbD 3 = true ∧ (s.wd.tasks &&& ~~~s.wd.present) = 0) ∧
    (watched 200 (fun w => { w with response := 1 })).wd.response ≠ 0 ∧
    (watched 200 (fun w => { w with recovery := true })).wd.recovery = true := by decide +kernel
theorem test_cores : coresRun up = true ∧ up.deviceResetDue = none ∧ (chargeHealth (wdEvidence 5 up) up.coreHealth).2 = false ∧
    (let s := { up with coreHealth := { up.coreHealth with times := List.replicate 15 (absUs up) } }
     coresRun s = true ∧ (chargeHealth (wdEvidence 5 s) s.coreHealth).2 = true) := by decide +kernel
theorem test_timers : admitted up .l .exec 0xA100 4 1 = true ∧ admitted up .l .exec 0xA107 4 1 = true ∧ timerOwner up 2 = 0 ∧ admitted up .l .exec 0xA102 4 1 = true ∧
    admitted up .l .exec 0xA101 5 1 = true ∧
    (let s := modTimer 7 (fun t => { t with st := 1, reload := 5, mode := 1 }) up
     (s.timers[(7 : Fin 8)]).st = 1 ∧ (s.timers[(7 : Fin 8)]).reload ≠ 0 ∧ bit (s.timers[(7 : Fin 8)]).mode.toNat 0 = true) ∧
    (let s := { up with cfg := [(objKey 0xA107 0, [2])] }
     timerOwner s 7 ≠ 0 ∧ (s.timers[(7 : Fin 8)]).reload = 0 ∧ admitted s .l .exec 0xA107 4 1 = true) := by decide +kernel
/-- Check-value unit `u` of port MP0, changed. -/
def unit (u : Fin 8) (f : CheckUnit → CheckUnit) : State := modCu u (fun k => f { k with owner := some .mp0 }) up
theorem test_check_units : admitted up .mp0 .exec 0x8500 1 1 = true ∧ admitted up .l .exec 0x8500 1 1 = true ∧
    [2, 3, 4, 5].find? (fun u => (cuAt up u).st == 0) = some 2 ∧
    ([2, 3, 4, 5].filter (fun (u : Fin 8) => (cuAt up u).owner == some .mp0)).length < 2 ∧
    (let s := unit 5 (fun k => { k with st := 2, flags := 0x14 })
     admitted s .mp0 .exec 0x8515 0xB 1 = true ∧ admitted s .mp0 .exec 0x8515 0xC 2 = true ∧
     admitted s .mp0 .exec 0x8515 0xD 5 = true ∧ admitted s .mp0 .writeBlock 0x8515 0xE 4 = true ∧ (cuAt s 5).st = 2 ∧
     admitted s .mp0 .exec 0x8515 0xF 1 = true ∧ (cuAt s 5).flags.getLsbD 4 = true ∧
     admitted s .mp0 .write 0x8515 2 1 = true ∧ admitted s .mp0 .write 0x8515 9 4 = true ∧ (cuAt s 5).owner = some .mp0) ∧
    (let s := unit 2 (fun k => { k with st := 1 })
     admitted s .mp0 .exec 0x8512 0xF 1 = true ∧ (cuAt s 2).st ≠ 2 ∧ admitted s .mp0 .exec 0x8512 0x11 1 = true ∧
     cuGeneral 2 = true ∧ (cuAt s 2).st ≠ 4 ∧ (cuAt s 0).st ≠ 4 ∧ (cuAt s 1).st ≠ 4 ∧
     (chargeHealth s (cuAt s 2).health).2 = false ∧ s.porN = true) := by decide +kernel
theorem test_check_modes : cuAliveMode (cuAt (unit 5 (fun k => { k with flags := 0x18 })) 5) = 2 ∨
    cuAliveMode (cuAt (unit 5 (fun k => { k with flags := 0x14 })) 5) = 2 := by decide +kernel
theorem test_check_starts : (let s := unit 5 (fun k => { k with st := 1, width := 32 })
    admitted s .mp0 .exec 0x8515 0xA 1 = true ∧ ((cuAt s 5).st = 1 ∨ (cuAt s 5).st = 3) ∧
    3 ≤ (cuAt s 5).width.toNat ∧ (cuAt s 5).width.toNat ≤ 32 ∧ (cuAt s 5).poly.toNat < 2 ^ (cuAt s 5).width.toNat ∧
    cuAliveMode (cuAt s 5) ≠ 3 ∧ cuLarge 5 = false ∧ (cuAt s 5).flags.getLsbD 5 = false) ∧
    (let s := unit 5 (fun k => { k with st := 3, width := 2 })
     admitted s .mp0 .exec 0x8515 0xA 1 = true ∧ ¬(3 ≤ (cuAt s 5).width.toNat)) ∧
    (let s := unit 5 (fun k => { k with st := 1, width := 8, poly := 256 })
     admitted s .mp0 .exec 0x8515 0xA 1 = true ∧ ¬((cuAt s 5).poly.toNat < 2 ^ (cuAt s 5).width.toNat)) ∧
    (let s := unit 5 (fun k => { k with st := 1, flags := 0x20 })
     admitted s .mp0 .exec 0x8515 0xA 1 = true ∧ (cuAt s 5).flags.getLsbD 5 = true) ∧
    (let s := unit 5 (fun k => { k with st := 2 }) ; admitted s .mp0 .exec 0x8515 0xA 1 = true ∧ (cuAt s 5).st = 2) := by
  decide +kernel
/-- Life-cycle state `n`, in OTP and in force, with its bytes. -/
def aged (n : Nat) : State :=
  modLc (fun l => { l with otp := otpOf (if n = 4 then [0, 0, 0, 0xFF] else List.replicate n 0xFF), state := BitVec.ofNat 8 n }) up
theorem test_life_cycle : admitted (aged 1) .l .exec 0x1200 2 1 = true ∧ (aged 1).phase = .service ∧
    (2 : U8).toNat = (aged 1).lc.state.toNat + 1 ∧ lcPrerequisites (aged 1) 2 = false ∧ lcToken 2 = none ∧
    lcAll (aged 1) 1 = true ∧ Memory.wf 0 (aged 1).lc.otp = true ∧ lcPrerequisites (aged 0) 1 = false ∧
    lcPrerequisites (aged 2) 3 = true ∧ lcToken 3 = some 3 ∧ lcAll (aged 2) 2 = true ∧ lcAll (aged 3) 3 = true ∧ lcAll (aged 0) 0 = true ∧
    tokenCode (aged 2) (pathOf .l) 3 (portRegs (aged 2) .l).token ≠ eOk ∧ admitted (aged 2) .l .exec 0x1200 2 1 = true ∧
    admitted (aged 3) .l .exec 0x1200 3 5 = true ∧ leNat ((uidOf (aged 3)).take 5) = 0 ∧
    ({ aged 3 with phase := .start } : State).phase ≠ .service := by decide +kernel
theorem test_life_cycle_advance : (let s := modKeys (fun k => { k with keyState := 1 }) (modLc (fun l => { l with
      otp := Mem.writeL 0 (Mem.writeL 0 l.otp 0x050 [1]) (0x050 + 48 * 4) [1] }) (aged 1))
    lcPrerequisites s 2 = true ∧ lcAll s 1 = true ∧ admitted s .l .exec 0x1200 2 1 = true ∧
    Memory.wf 0 s.lc.otp = true) := by decide +kernel
theorem test_tokens : admitted up .l .read 0x1201 0 0 = true ∧ (rawTake .l 32 up).1 = none ∧
    (rawTake .l 32 (spdmUp 0)).1.isSome = true ∧ admitted (spdmUp 0) .l .read 0x1201 0 0 = true ∧
    admitted up .l .exec 0x1201 2 1 = true ∧ tokenCode up (pathOf .l) 1 (portRegs up .l).token ≠ eOk ∧
    admitted up .l .exec 0x1202 3 1 = true ∧ up.lc.keySel = 0 ∧ admitted up .l .exec 0x1202 6 1 = true ∧
    (let s := modLc (fun l => { l with keySel := 9 }) up
     s.lc.keySel.toNat ∈ [1, 2, 3, 5, 6, 7, 9] ∧ keyBurned s 9 = false ∧ admitted s .l .exec 0x1202 3 1 = true) ∧
    (let s := modLc (fun l => { l with keySel := 9, otp := Mem.writeL 0 l.otp (0x050 + 48 * 9) [1] }) up
     keyBurned s 9 = true ∧ admitted s .l .exec 0x1202 3 1 = true) ∧ admitted (aged 2) .l .exec 0x1202 3 1 = true := by
  decide +kernel
theorem test_test_port : lcKnown (aged 4) = true ∧ (aged 4).lc.state = 4 ∧ tapServed up = true ∧ tapServed (spdmUp 0) = true ∧
    (rawTake .l 32 (spdmUp 0)).1.isSome = true ∧ tokenCode up 3 1 (padTo [] 256) ≠ eOk ∧ up.lc.state ≠ 4 ∧ dbgStatus up ≠ 0 ∧
    dbgStatus (aged 2) = 0 ∧ State.reset.porN = false ∧ up.porN = true := by decide +kernel
/-- Management port 0 changed. -/
def mp (f : MgmtPort → MgmtPort) : State := modMport 0 f up
theorem test_i3c : portUp up 0 = true ∧ portUp State.reset 0 = false ∧ (mportAt up 0).da = 0 ∧ (mportAt up 0).mode ≠ 1 ∧
    (mportAt (mp (fun x => { x with da := 9, mode := 1 })) 0).mode = 1 ∧ (mportAt (mp (fun x => { x with da := 9, mode := 1 })) 0).da ≠ 0 ∧
    portUp (mp (fun x => { x with da := 9, mode := 1 })) 0 = true ∧ (69 : U16).toNat = 69 ∧ (68 : U16).toNat < 69 ∧
    (0x07 : U8) ∉ [(0x01 : U8), 0x02, 0x04, 0x05, 0x06] ∧ 8 ≤ (8 : U8).toNat ∧ (8 : U8) ≠ 0xFF ∧ 8 ≤ (0xFE : U8).toNat := by
  decide +kernel
theorem test_packets : (let p : List Byte := [1, 0, 5, 0x88, 0x7F]
    portUp up 0 = true ∧ (mportAt up 0).rx = [] ∧ packetFits up 0 p = true ∧ bit (byteAt p 3) 7 = true ∧
    bit (byteAt p 3) 6 = false ∧ (mportAt up 0).partialMsg = none) ∧
    (let p : List Byte := [1, 0, 5, 0x18, 0x7F]
     let s := mp (fun x => { x with partialMsg := some ([1], byteAt p 3 % 8, bits (byteAt p 3) 5 4, byteAt p 2) })
     packetFits s 0 p = true ∧ bit (byteAt p 3) 7 = false ∧ bit (byteAt p 3) 6 = false ∧
     (mportAt s 0).partialMsg = some ([1], byteAt p 3 % 8, bits (byteAt p 3) 5 4, byteAt p 2) ∧
     (mportAt s 0).partialMsg.isSome = true ∧ 2 ≠ bits (byteAt p 3) 5 4 ∧ s.refclk = true ∧ s.porN = true) := by decide +kernel
/-- A response of `n` bytes. -/
def resp (n : Nat) : Response := { msg := zeros n, tag := 0, dest := 0, credit := true }
theorem test_responses : (let s := mp (fun x => { x with responses := [resp 65] })
    (mportAt s 0).rx = [] ∧ (mportAt s 0).refusal = none ∧ (mportAt s 0).responses = [resp 65] ∧
    64 * ((resp 65).sent + 1) < (resp 65).msg.length ∧ (resp 64).msg.length ≤ 64 * ((resp 64).sent + 1) ∧
    (resp 64).ofCommit = false ∧ portUp s 0 = true) ∧ (mportAt up 0).responses = [] ∧ (mportAt up 0).mode = 0 := by decide +kernel
theorem test_reads : admitted up .l .read 0x3001 0 0 = true ∧ admitted up .l .read 0x3501 1 0 = true ∧
    (entryAt 0x3001 0).isSome = true ∧ admitted up .l .readBlock 0xD000 1 0 = true ∧ admitted up .l .readBlock 0x8020 3 0 = true ∧
    (4094 : U16).toNat ≤ 4094 ∧ servable up .l = true ∧ flipsOf up 7 0 = 0 ∧ phaseAdmits up .l .poll 0x3001 0 = true ∧
    (let s := before 9; servable s .mp0 = true ∧ phaseAdmits s .mp0 .poll 0x3001 0 = false) := by decide +kernel
/-- Port L's field access to space `sp`. -/
def field (sp : Nat) (s : State) : State := modPort .l (fun r => { r with faBase := BitVec.ofNat 40 (sp * 2 ^ 35) }) s
theorem test_field : admitted (field 0x10 up) .l .readBlock 0xD000 1 0 = true ∧ faAddress (field 0x10 up) .l 0 4094 = eOk ∧
    faRights (field 0x10 up) .l = true ∧ faSpace (portRegs (field 0x10 up) .l).faBase = 0x10 ∧ vaultOnline (field 0x10 up) = true ∧
    up.keys.keyState ≠ 2 ∧ flipsOf up 6 0 = 0 ∧ faAddress (field 0x11 up) .l 0 1 ≠ eOk ∧ faAddress (field 0 (run 0 0)) .l 0 1 = eOk ∧
    faSpace (portRegs (field 0 (run 0 0)) .l).faBase < 0x0C ∧ (chanAt (field 0 (run 0 0)) 0).eff ≠ .off ∧
    (chanAt (field 0 (run 0 0)) 0).eff ≠ .retired ∧
    (let s := field 0 (ch0 (fun x => { x with eff := .off }) (run 0 0))
     faAddress s .l 0 1 = eOk ∧ (chanAt s 0).eff = .off ∧ faRights s .l = true) ∧
    (portRegs (modPort .l (fun r => { r with faWait := some (0, 0, 0, 1) }) up) .l).faWait.isSome = true ∧
    (portRegs up .l).faWait = none := by decide +kernel
/-- The block in TEST phase. -/
def testing : State := { up with phase := .test }
theorem test_field_tests : admitted testing .l .exec 0xE010 0 1 = true ∧ admitted testing .l .exec 0xE017 0 1 = true ∧
    admitted testing .l .exec 0xE010 4 1 = true ∧ admitted up .l .exec 0xE017 4 1 = true ∧ testing.phase = .test ∧
    BitVec.ofNat 72 (leNat (testing.injMask.getD 0 [])) = (0 : CodeWord) ∧
    (let s := { testing with injMask := List.replicate 8 [1] }
     BitVec.ofNat 72 (leNat (s.injMask.getD 7 [])) ≠ (0 : CodeWord) ∧ (s.injWord.getD 7 0).toNat < memWords.getD 7 1 ∧
     admitted s .l .exec 0xE017 4 1 = true) ∧ admitted testing .l .exec 0xE002 1 1 = true ∧
    testFits (portRegs testing .l).unitSelect.toNat 1 = true ∧ testFits (portRegs testing .l).unitSelect.toNat 2 = true ∧
    testFits (portRegs testing .l).unitSelect.toNat 3 = false := by decide +kernel
theorem test_journal_orders : (let s := modSpdm (fun x => { x with pendingBlocks := [7] }) up
    s.spdm.pendingBlocks.contains (7 : U8).toNat = true ∧ digestBlock 7 = true ∧ coresRun s = true) ∧ servable up .mp1 = true ∧
    flipsOf up 7 0 = 0 ∧ inService up = true ∧ servable (before 9) .mp0 = true ∧ inService (before 9) = false := by decide +kernel
theorem test_retained_clear : admitted up .l .exec 0x2100 3 1 = true ∧
    up.journal.retainedCount.toNat ≤ up.vault.retainedArchived ∧
    (let s := { up with journal := { up.journal with retainedCount := 1 } }
     admitted s .l .exec 0x2100 3 1 = true ∧ s.vault.retainedArchived < s.journal.retainedCount.toNat) := by decide +kernel
theorem test_extest : State.reset.porN = false ∧ up.porN = true := by decide +kernel
theorem test_key_revocation : admitted (aged 1) .l .exec 0x1202 4 1 = true ∧ (aged 1).lc.state = 1 ∧ (aged 0).lc.state ≠ 1 ∧
    admitted (aged 0) .l .exec 0x1202 4 1 = true ∧ keyLast (aged 1) 9 = false ∧ keyLast (aged 1) 0 = false ∧
    Memory.wf 0 (aged 1).lc.otp = true ∧ 9 < (10 : U8).toNat ∧
    (let s := modLc (fun l => { l with otp := Mem.writeL 0 l.otp 0x050 [1] }) (aged 2)
     keyLast s 0 = true ∧ keyLast s 1 = false ∧ admitted s .l .exec 0x1202 4 1 = true) := by decide +kernel
/-- A token of `kind` signed with key slot `signer` for the device of UID 0 under nonce 0. -/
def token (kind signer : Byte) (sig : Nat) : List Byte :=
  leBytes 4 0x4B545651 ++ [1, kind, signer, 0] ++ zeros 56 ++ beBytes 96 0x11de24a2c251c777573cac5ea025e467f208e51dbff98fc54f6661cbe56583b037882f4a1ca297e60abcdbc3836d84bc8fa696c77440f92d0f5837e90a00e7c5284b447754d5dee88c986533b6901aeb3177686d0ae8fb33184414abe6c1713a ++ beBytes 96 sig
/-- The block in life-cycle state `n` with the token's key burned in slot `k`, and nonce 0 in path 2. -/
def keyedTo (n k : Nat) (tk : List Byte) : State :=
  modPort .l (fun r => { r with token := tk }) (modLc (fun l => { l with
    nonces := [(2, zeros 32), (3, zeros 32)], otp := Mem.writeL 0 l.otp (0x050 + 48 * k) (beBytes 48 0x3966d6c7e6a199e21807f0f8347406aa40aa59c18578b061c2bcafb3da86b24ecd4da2100402993d56c9b5e1f6b0f369) }) (aged n))
/-- A debug token of slot 9 and a return token of slot 8; key and nonce of the signature are 5 and 7. -/
def debugToken : List Byte := token 1 9
  0x283c1d7365ce4788f29f8ebf234edffead6fe997fbea5ffa2d58cc9dfa7b1c508b05526f55b9ebb2040f05b48fb6d0e19e9c98f6026272c41644a2d80d4b420852d12f24fec9db3a14800ca24ce0ea194fbc2eb3ebd2c86bc1ccd409b530204c
def returnToken : List Byte := token 3 8
  0x283c1d7365ce4788f29f8ebf234edffead6fe997fbea5ffa2d58cc9dfa7b1c508b05526f55b9ebb2040f05b48fb6d0e1c77ffbcd02e77b0936395a39d46d07d600997e4c224be609f3c719053408bc2ccc094f926b68eb0c050e5e6f5f1d2b0e
theorem test_debug_token : tokenCode (keyedTo 1 9 debugToken) 2 1 debugToken = eOk := by decide +kernel
theorem test_tap_token : tokenCode (keyedTo 1 9 []) 3 1 (padTo debugToken 256) = eOk := by decide +kernel
theorem test_return_token : tokenCode (keyedTo 2 8 returnToken) 2 3 returnToken = eOk := by decide +kernel
theorem test_secured_record : openRecord { session0 true with reqKey := zeros 32, reqIv := zeros 12 }
    ((sealRecord (zeros 32) (zeros 12) 7 0 [5, 0x13, 0x84, 0, 0]).drop 4) = some [5, 0x13, 0x84, 0, 0] := by decide +kernel

end Sys2Proof.Tests
end

section
/-! The journal's RETAINED_CLEAR (R433): what its rule answers and leaves, as the archive has caught up or not. -/
namespace Sys2Proof.Proofs
open Sys2Proof Sys2Proof.Machine Sys2Proof.Laws

theorem exec_retainedClear (p : Port) (s : State) : exec (.retainedClear p) s = execRetainedClear p s := rfl

/-- An admitted RETAINED_CLEAR is its rule, answered on the port. -/
theorem exec_retainedClear_admitted {s : State} {p : Port} (h : admitted s p .exec 0x2100 3 1 = true) :
    exec (.retainedClear p) s = .next (reply p (retainedClearRule s).1 (retainedClearRule s).2) := by
  rw [exec_retainedClear, execRetainedClear, execOp_admitted h]

theorem retainedClearRule_archived {s : State} (h : s.journal.retainedCount.toNat ≤ s.vault.retainedArchived) :
    retainedClearRule s = (eOk, modVault (fun v => { v with retainedArchived := 0 })
      { s with journal := { s.journal with kept := [], retainedCount := 0 } }) :=
  if_neg (Nat.not_lt.mpr h)

theorem retainedClearRule_unarchived {s : State} (h : s.vault.retainedArchived < s.journal.retainedCount.toNat) :
    retainedClearRule s = (eState, s) :=
  if_pos h

/-- What the rule does to the journal once all is archived: the area and its count go, everything else stays, the
overflow count among it. -/
theorem retainedClearRule_journal {s : State} (h : s.journal.retainedCount.toNat ≤ s.vault.retainedArchived) :
    (retainedClearRule s).2.journal = { s.journal with kept := [], retainedCount := 0 } := by
  rw [retainedClearRule_archived h]; rfl

@[simp] theorem retainedClearRule_chans (s : State) : (retainedClearRule s).2.chans = s.chans := by
  unfold retainedClearRule
  split <;> rfl

/-- Settles O57: the rule's two branches are the statement's two clauses. -/
theorem retainedClear : Obligations.RetainedClear := by
  unfold Obligations.RetainedClear
  intro s p hadm
  refine ⟨fun harch => ?_, fun hwait => ?_⟩
  · have hcode : (retainedClearRule s).1 = eOk := by rw [retainedClearRule_archived harch]
    have hj := retainedClearRule_journal harch
    refine ⟨(retainedClearRule s).2, by rw [exec_retainedClear_admitted hadm, hcode], ?_⟩
    simp [hj]
  · rw [exec_retainedClear_admitted hadm, retainedClearRule_unarchived hwait]

end Sys2Proof.Proofs
end

section
/-! The check-value units: the checks of CU_START in their order and what a start leaves (R485), and a parameter write to a
RUNNING unit. -/
namespace Sys2Proof.Proofs
open Sys2Proof Sys2Proof.Machine Sys2Proof.Laws

/-! ### What CU_START checks (R485) -/

/-- Check 1: the width suits the unit's size. -/
abbrev CuWidthFits (u : Fin 8) (k : CheckUnit) : Prop :=
  3 ≤ k.width.toNat ∧ k.width.toNat ≤ (if cuLarge u = true then 64 else 32)

/-- Check 2: no bit at or above the width is set. -/
abbrev CuParamsFit (k : CheckUnit) : Prop :=
  k.poly.toNat < 2 ^ k.width.toNat ∧ k.init.toNat < 2 ^ k.width.toNat ∧ k.xorout.toNat < 2 ^ k.width.toNat

/-- Check 3: the flags ask only for what a unit of this size has. -/
abbrev CuModesFit (u : Fin 8) (k : CheckUnit) : Prop :=
  cuAliveMode k ≠ 3 ∧ (cuLarge u = true → cuAliveMode k = 0) ∧ (cuLarge u = false → k.flags.getLsbD 5 = false)

theorem not_cuWidthFits {u : Fin 8} {k : CheckUnit} : ¬CuWidthFits u k ↔
    k.width.toNat < 3 ∨ (if cuLarge u = true then 64 else 32) < k.width.toNat := by
  rw [not_and_or, not_le, not_le]

theorem not_cuParamsFit {k : CheckUnit} : ¬CuParamsFit k ↔
    2 ^ k.width.toNat ≤ k.poly.toNat ∨ 2 ^ k.width.toNat ≤ k.init.toNat ∨ 2 ^ k.width.toNat ≤ k.xorout.toNat := by
  simp only [not_and_or, not_lt]

theorem not_cuModesFit {u : Fin 8} {k : CheckUnit} : ¬CuModesFit u k ↔
    cuAliveMode k = 3 ∨ (cuLarge u = true ∧ cuAliveMode k ≠ 0) ∨ ((!cuLarge u) = true ∧ k.flags.getLsbD 5 = true) := by
  simp only [CuModesFit, not_and_or, ne_eq, not_not, Classical.not_imp, Bool.not_eq_true', Bool.not_eq_false]

/-! ### The rule of CU_START -/

section Start
variable {u : Fin 8} {s : State}

/-- A started unit: RUNNING from its initial value, with CU_ADDR and CU_SEQ fed first where its flags ask for it. -/
def cuStarted (pre : Bool) (k : CheckUnit) : CheckUnit :=
  let k := { k with st := 2, reg := k.init, fed := 0 }
  if pre = true then cuAbsorb (leBytes 5 k.addr.toNat ++ leBytes 4 k.seq.toNat) k else k

/-- A FREE, RUNNING or RETIRED unit is not started. -/
theorem cuStartRule_unready (h : (cuAt s u).st = 0 ∨ (cuAt s u).st = 2 ∨ (cuAt s u).st = 4) :
    cuStartRule u s = (eState, s) :=
  if_pos (or_rotate.mpr h)

/-- In an IDLE or DONE unit the three parameter checks decide, in their order. -/
theorem cuStartRule_ready (h : (cuAt s u).st = 1 ∨ (cuAt s u).st = 3) :
    cuStartRule u s =
      if ¬CuWidthFits u (cuAt s u) then (eRange, s)
      else if ¬CuParamsFit (cuAt s u) then (eRange, s)
      else if ¬CuModesFit u (cuAt s u) then (eRange, s)
      else (eOk, modCu u (cuStarted ((cuAt s u).flags.getLsbD 5)) s) := by
  have hst : ¬((cuAt s u).st = 4 ∨ (cuAt s u).st = 0 ∨ (cuAt s u).st = 2) := by
    rcases h with h | h <;> simp [h]
  simp only [not_cuWidthFits, not_cuParamsFit, not_cuModesFit]
  exact if_neg hst

end Start

theorem exec_cuStart (p : Port) (u : Fin 8) (s : State) : exec (.cuStart p u) s = execCuStart p u s := rfl

/-- An admitted CU_START is its rule, answered on the port. -/
theorem exec_cuStart_admitted {s : State} {p : Port} {u : Fin 8}
    (h : admitted s p .exec (0x8510 + u.val) 0xA 1 = true) :
    exec (.cuStart p u) s = .next (reply p (cuStartRule u s).1 (cuStartRule u s).2) := by
  rw [exec_cuStart, execCuStart, execOp_admitted h]

/-! ### Writes to a unit's parameters -/

@[simp] theorem unit8_val (u : Fin 8) : unit8 u.val = u := dif_pos u.isLt

/-- CU0 to CU7 have one page of the dictionary between them. -/
theorem pageOf_checkUnit (u : Fin 8) : pageOf (0x8510 + u.val) = unitPage := by
  revert u
  decide

theorem entryAt_checkUnit (u : Fin 8) (sub : Nat) : entryAt (0x8510 + u.val) sub = unitPage.2[sub]? := by
  have hdrops : 0x8510 + u.val ≠ 0x2103 := by omega
  have hclaim : 0x8510 + u.val ≠ 0xC010 := by omega
  rw [entryAt, if_neg hdrops, if_neg hclaim, pageOf_checkUnit]
  rfl

/-- Subindices 2 to 9, CU_WIDTH to CU_SEQ, are values written at once. -/
theorem entryAt_checkUnit_param (u : Fin 8) {sub : Nat} (h2 : 2 ≤ sub) (h9 : sub ≤ 9) :
    ∃ e, entryAt (0x8510 + u.val) sub = some e ∧ e.acc = .rw := by
  rw [entryAt_checkUnit]
  interval_cases sub <;> exact ⟨_, rfl, rfl⟩

theorem rwRule_checkUnit (p : Port) (u : Fin 8) (sub : Nat) (v : List Byte) (s : State) :
    rwRule p (0x8510 + u.val) sub v s = cuWriteRule u sub v s := by
  have hu := u.isLt
  simp (disch := omega) only [rwRule, if_neg, if_pos, Nat.add_sub_cancel_left, unit8_val]

theorem writeRule_checkUnit_param (p : Port) (u : Fin 8) {sub : Nat} (h2 : 2 ≤ sub) (h9 : sub ≤ 9) (v : List Byte)
    (s : State) : writeRule p (0x8510 + u.val) sub v s = cuWriteRule u sub v s := by
  obtain ⟨e, he, hacc⟩ := entryAt_checkUnit_param u h2 h9
  simp [writeRule, he, hacc, rwRule_checkUnit]

theorem cuWriteRule_running {u : Fin 8} {s : State} (h : (cuAt s u).st = 2) (sub : Nat) (v : List Byte) :
    cuWriteRule u sub v s = (eState, s) :=
  if_pos h

theorem exec_registerWrite (p : Port) (i : U16) (sub : U8) (v : List Byte) (s : State) :
    exec (.registerWrite p i sub v) s = execRegisterWrite p i sub v s := rfl

/-- An admitted REGISTER_WRITE is the rule of its object, answered on the port. -/
theorem exec_registerWrite_admitted {s : State} {p : Port} {i : U16} {sub : U8} {v : List Byte}
    (h : admitted s p .write i.toNat sub.toNat v.length = true) :
    exec (.registerWrite p i sub v) s =
      .next (reply p (writeRule p i.toNat sub.toNat v s).1 (writeRule p i.toNat sub.toNat v s).2) := by
  rw [exec_registerWrite, execRegisterWrite, writeOp_admitted h]

/-- Settles O58: the state of the unit and then the three checks of R485 are the rule's branches in its order; a parameter
write reaches the unit's own rule, which a RUNNING unit refuses. -/
theorem checkUnitStarts : Obligations.CheckUnitStarts := by
  unfold Obligations.CheckUnitStarts
  refine ⟨?start, ?write⟩
  case start =>
    intro s p u hadm k top wide within modes
    rw [exec_cuStart_admitted hadm]
    refine ⟨fun hst => ?unready, fun hst hwide => ?width, fun hst hwide hwithin => ?params,
      fun hst hwide hwithin hmodes => ?modes, fun hst hwide hwithin hmodes => ?started⟩
    case unready => rw [cuStartRule_unready hst]
    case width => rw [cuStartRule_ready hst, if_pos hwide]
    case params => rw [cuStartRule_ready hst, if_neg (not_not_intro hwide), if_pos hwithin]
    case modes =>
      rw [cuStartRule_ready hst, if_neg (not_not_intro hwide), if_neg (not_not_intro hwithin), if_pos hmodes]
    case started =>
      rw [cuStartRule_ready hst, if_neg (not_not_intro hwide), if_neg (not_not_intro hwithin),
        if_neg (not_not_intro hmodes)]
      rfl
  case write =>
    intro s p u i sub v hi h2 h9 hadm hrun
    rw [exec_registerWrite_admitted hadm, hi, writeRule_checkUnit_param p u h2 h9, cuWriteRule_running hrun]

end Sys2Proof.Proofs
end

section
/-! KEY_REVOKE (R510): what the burn of a flag byte leaves in the OTP (R491, R492), the rule's checks in their order, and the
revocation of a slot. -/
namespace Sys2Proof.Proofs
open Sys2Proof Sys2Proof.Machine Sys2Proof.Laws

/-! ### The burn of a flag byte (R491, R492) -/

section Burn
variable {s : State}

theorem burnFlag_otp (a : Nat) (s : State) :
    (burnFlag a s).lc.otp = Mem.write 0 s.lc.otp a (otpByte s a ||| 0xFF) := rfl

@[simp] theorem burnFlag_update (a : Nat) (s : State) : (burnFlag a s).update = s.update := modLc_update _ s

@[simp] theorem burnFlag_lcState (a : Nat) (s : State) : (burnFlag a s).lc.state = s.lc.state := by
  rw [burnFlag, otpBurn, modLc_lc]

/-- A burn sets every bit of its own byte and leaves every other byte of the OTP as it was. -/
theorem otpByte_burnFlag (h : Memory.wf 0 s.lc.otp = true) (a b : Nat) :
    otpByte (burnFlag a s) b = if b = a then 0xFF else otpByte s b := by
  have hones : otpByte s a ||| 0xFF = 0xFF := BitVec.or_allOnes
  have hread := read_write a b (otpByte s a ||| 0xFF) h
  rw [← burnFlag_otp, hones] at hread
  exact hread

theorem flagOf_burned : flagOf 0xFF = .set := by decide

theorem flagSet_burnFlag (h : Memory.wf 0 s.lc.otp = true) (a : Nat) : flagSet (burnFlag a s) a = true := by
  rw [flagSet, flagAt, otpByte_burnFlag h, if_pos rfl, flagOf_burned]
  rfl

end Burn

/-! ### The rule of KEY_REVOKE -/

section Revoke
variable {s : State} {k : Nat}

/-- Outside the Integrator and Fielded states the slot is not looked at. -/
theorem keyRevokeRule_otherState (h1 : s.lc.state ≠ 1) (h2 : s.lc.state ≠ 2) : keyRevokeRule k s = (eState, s) :=
  if_pos ⟨h1, h2⟩

/-- In the Integrator and Fielded states the slot decides: that it exists, and that it may be revoked. -/
theorem keyRevokeRule_accepted (h : s.lc.state = 1 ∨ s.lc.state = 2) :
    keyRevokeRule k s =
      if 9 < k then (eRange, s)
      else if k = 8 ∨ keyLast s k = true then (eRefused, s)
      else (eOk, burnFlag (0x038 + k) s) :=
  if_neg fun ⟨h1, h2⟩ => h.elim h1 h2

theorem keyRevoked_burnFlag (h : Memory.wf 0 s.lc.otp = true) : keyRevoked (burnFlag (0x038 + k) s) k = true :=
  flagSet_burnFlag h _

end Revoke

theorem exec_keyRevoke (p : Port) (k : U8) (s : State) : exec (.keyRevoke p k) s = execKeyRevoke p k s := rfl

/-- An admitted KEY_REVOKE is its rule, answered on the port. -/
theorem exec_keyRevoke_admitted {s : State} {p : Port} {k : U8} (h : admitted s p .exec 0x1202 4 1 = true) :
    exec (.keyRevoke p k) s = .next (reply p (keyRevokeRule k.toNat s).1 (keyRevokeRule k.toNat s).2) := by
  rw [exec_keyRevoke, execKeyRevoke, execOp_admitted h]

theorem slot_eq_8_iff {k : U8} : k = 8 ↔ k.toNat = 8 :=
  ⟨fun h => h ▸ rfl, fun h => BitVec.eq_of_toNat_eq h⟩

/-- Settles O60: the state and then the slot are the rule's branches in its order (log entries 26 and 49), and the byte that
the last branch burns is the one the revocation is read from. -/
theorem keyRevocation : Obligations.KeyRevocation := by
  unfold Obligations.KeyRevocation
  intro s p k hadm
  rw [exec_keyRevoke_admitted hadm]
  refine ⟨fun h1 h2 => ?otherState, fun hst => ?accepted⟩
  case otherState => rw [keyRevokeRule_otherState h1 h2]
  case accepted =>
    rw [keyRevokeRule_accepted hst, slot_eq_8_iff]
    refine ⟨fun hnone => ?noSlot, fun hkept => ?kept, fun hslot h8 hlast hwf => ?burned⟩
    case noSlot => rw [if_pos hnone]
    case kept =>
      have hslot : k.toNat ≤ 9 := hkept.elim (fun h8 => by omega) And.left
      rw [if_neg (Nat.not_lt.mpr hslot), if_pos (hkept.imp id And.right)]
    case burned =>
      have hfree : ¬(k.toNat = 8 ∨ keyLast s k.toNat = true) :=
        not_or.mpr ⟨mt slot_eq_8_iff.mpr h8, Bool.eq_false_iff.mp hlast⟩
      rw [if_neg (Nat.not_lt.mpr hslot), if_neg hfree]
      exact ⟨_, rfl, rfl, keyRevoked_burnFlag hwf, burnFlag_update _ s, burnFlag_lcState _ s, burnFlag_ground _ s⟩

end Sys2Proof.Proofs
end

section
/-! EXTEST on the test port (R508): what it does while POR_N is low, and that it is BYPASS under its own code while POR_N is
high. -/
namespace Sys2Proof.Proofs
open Sys2Proof Sys2Proof.Machine Sys2Proof.Laws

/-- The balls and the boundary register take the cells of an EXTEST. -/
abbrev extestDrive (c : List Bool) (t : TestPort) : TestPort := { t with ir := 0x00, boundary := c, extestBalls := c }

theorem exec_extest (c : List Bool) (s : State) : exec (.extest c) s = execExtest c s := rfl

theorem exec_bypass (s : State) : exec .bypass s = .next (tapBypass 0xFF s) := rfl

theorem exec_extest_inReset {s : State} (h : s.porN = false) (c : List Bool) :
    exec (.extest c) s = .next (modTap (extestDrive c) s) := by
  rw [exec_extest, execExtest, h]
  rfl

theorem exec_extest_outOfReset {s : State} (h : s.porN = true) (c : List Bool) :
    exec (.extest c) s = .next (tapBypass 0x00 s) := by
  rw [exec_extest, execExtest, if_pos h]

/-- Which instruction selects the bypass register shows in IR alone. -/
theorem tapBypass_tap (ir : Nat) (s : State) :
    (tapBypass ir s).tap = { s.tap with ir := BitVec.ofNat 8 ir, dr := [0], extestBalls := [] } := rfl

/-- Settles O59: in reset only the test port changes; out of reset both instructions select the bypass register. -/
theorem extestOnlyInReset : Obligations.ExtestOnlyInReset := by
  unfold Obligations.ExtestOnlyInReset
  intro s c
  refine ⟨fun hlow => ?inReset, fun hhigh => ?outOfReset⟩
  case inReset =>
    rw [exec_extest_inReset hlow]
    exact ⟨rfl, modTap_heath _ s⟩
  case outOfReset =>
    rw [exec_extest_outOfReset hhigh, exec_bypass]
    refine ⟨rfl, fun t u ht hu => ?_⟩
    obtain rfl : tapBypass 0x00 s = t := Host.Outcome.next.inj ht
    obtain rfl : tapBypass 0xFF s = u := Host.Outcome.next.inj hu
    simp only [tapBypass_tap, and_self]

end Sys2Proof.Proofs
end

section
/-! What each rule leaves of the byte memories beside the flashes -/

set_option maxRecDepth 4000
namespace Sys2Proof.Proofs
open Sys2Proof Sys2Proof.Machine Sys2Proof.Laws

/-- The byte memories beside the flashes: the eMMC's user area, the RPMB and the OTP. -/
structure Stored where
  user : List (Nat × Byte)
  rpmb : List (Nat × Byte)
  otp : List (Nat × Byte)

/-- The byte memories beside the flashes of a state. -/
def stored (s : State) : Stored := ⟨s.vault.user, s.vault.rpmb.cells, s.lc.otp⟩

@[simp] theorem stored_upd (s : State) (x_pending : List Instr) (x_freeCount : Nat) (x_now : Nat) (x_subUs : Nat)
    (x_tbUs : U40) (x_tbEpoch : U40) (x_refclk : Bool) (x_pllLock : Bool) (x_gapPeriods : Nat) (x_refclkLosses : U32)
    (x_refclkLastGap : U32) (x_porPin : Bool) (x_porN : Bool) (x_straps : BitVec 4) (x_phase : Phase) (x_steps : List
    (Nat × U40)) (x_bootResult : U40) (x_resetCause : U8) (x_rtCopy : U8) (x_deviceResets : U32) (x_coreRestarts :
    U32) (x_bootAttempts : U8) (x_deviceResetDue : Option U8) (x_coresDown : Bool) (x_coresHeld : Bool) (x_coreHealth
    : UnitHealth) (x_halted : Bool) (x_mgmtUp : Bool) (x_testHonoured : Bool) (x_recoveryByRuntime : Bool) (x_rtImage
    : List Byte) (x_rtInstallResult : U8) (x_rtBuild : U40) (x_rtSvn : U8) (x_rtDigest : List Byte) (x_katResults :
    List U8) (x_digestHealth : UnitHealth) (x_dgTransients : U32) (x_cipherHealth : UnitHealth) (x_cxTransients : U32)
    (x_freshAtHeath : Bool) (x_pacePs : U16) (x_paceMaxPs : U16) (x_paceArmed : Bool) (x_tj : List Int) (x_tjMax :
    List Int) (x_railMv : List U16) (x_railMin : List U16) (x_railMax : List U16) (x_secCount : List U32) (x_dedCount
    : List U32) (x_scrubPasses : U32) (x_scrubLast : U40) (x_scrubPos : Nat) (x_upsets : List Upset) (x_bistResult :
    List U8) (x_injWord : List U40) (x_injMask : List (List Byte)) (x_unitResult : U8) (x_logicSig : U32) (x_cfg :
    List (Nat × List Byte)) (x_commits : U32) (x_lastCommitPort : U8) (x_lastCommitUs : U40) (x_faReads : U32)
    (x_chans : Vector Channel 6) (x_fallow : Fallow) (x_hedgerow : Hedgerow) (x_hayloft : Hayloft) (x_update : Update)
    (x_banks : Vector Bank 8) (x_cxs : Vector CxJob 4) (x_keys : KeyStore) (x_pke : Pke) (x_random : Random)
    (x_journal : Journal) (x_heath : Heath) (x_wd : Watchdog) (x_timers : Vector TimerUnit 8) (x_timeouts : Vector
    Timeout 14) (x_cus : Vector CheckUnit 8) (x_cuTransients : U32) (x_tap : TestPort) (x_spdm : Spdm) (x_mports :
    Vector MgmtPort 2) (x_ports : Vector PortRegs 3) : stored (⟨x_pending, x_freeCount, x_now, x_subUs, x_tbUs,
    x_tbEpoch, x_refclk, x_pllLock, x_gapPeriods, x_refclkLosses, x_refclkLastGap, x_porPin, x_porN, x_straps,
    x_phase, x_steps, x_bootResult, x_resetCause, x_rtCopy, x_deviceResets, x_coreRestarts, x_bootAttempts,
    x_deviceResetDue, x_coresDown, x_coresHeld, x_coreHealth, x_halted, x_mgmtUp, x_testHonoured, x_recoveryByRuntime,
    x_rtImage, x_rtInstallResult, x_rtBuild, x_rtSvn, x_rtDigest, x_katResults, x_digestHealth, x_dgTransients,
    x_cipherHealth, x_cxTransients, x_freshAtHeath, x_pacePs, x_paceMaxPs, x_paceArmed, x_tj, x_tjMax, x_railMv,
    x_railMin, x_railMax, x_secCount, x_dedCount, x_scrubPasses, x_scrubLast, x_scrubPos, x_upsets, x_bistResult,
    x_injWord, x_injMask, x_unitResult, x_logicSig, x_cfg, x_commits, x_lastCommitPort, x_lastCommitUs, x_faReads,
    x_chans, x_fallow, x_hedgerow, x_hayloft, s.vault, x_update, x_banks, x_cxs, x_keys, x_pke, x_random, x_journal,
    x_heath, x_wd, x_timers, x_timeouts, x_cus, x_cuTransients, s.lc, x_tap, x_spdm, x_mports, x_ports⟩ : State) =
    stored s := rfl

@[simp] theorem modVault_stored (f : Vault → Vault) (s : State) (hu : ∀ v, (f v).user = v.user)
    (hr : ∀ v, (f v).rpmb.cells = v.rpmb.cells) : stored (modVault f s) = stored s := by
  simp [stored, modVault, hu, hr]
@[simp] theorem modLc_stored (f : LifeCycle → LifeCycle) (s : State) (h : ∀ l, (f l).otp = l.otp) :
    stored (modLc f s) = stored s := by
  simp [stored, modLc, h]
@[simp] theorem modChan_stored (c : Chan) (f : Channel → Channel) (s : State) : stored (modChan c f s) = stored s := by simp [modChan]
@[simp] theorem modFlash_stored (c : Chan) (m : Cs) (f : Flash → Flash) (s : State) : stored (modFlash c m f s) = stored s := by simp [modFlash]

@[simp] theorem foldl_stored {α : Type} (f : State → α → State) (h : ∀ t x, stored (f t x) = stored t) (l : List α)
    (s : State) : stored (l.foldl f s) = stored s := by
  induction l generalizing s with
  | nil => rfl
  | cons a l ih => simp [ih, h]
@[simp] theorem foldl_stored2 {α β : Type} (f : β × State → α → β × State) (h : ∀ t x, stored (f t x).2 = stored
    t.2) (l : List α) (s : β × State) : stored (l.foldl f s).2 = stored s.2 := by
  induction l generalizing s with
  | nil => rfl
  | cons a l ih => simp [ih, h]
@[simp] theorem foldl_stored3 {α β γ : Type} (f : β × γ × State → α → β × γ × State) (h : ∀ t x, stored (f t x).2.2 =
    stored t.2.2) (l : List α) (s : β × γ × State) : stored (l.foldl f s).2.2 = stored s.2.2 := by
  induction l generalizing s with
  | nil => rfl
  | cons a l ih => simp [ih, h]
theorem ite_stored {α : Type} {c : Prop} [Decidable c] {x y : α × State} {s : State} (hx : stored x.2 = stored s)
    (hy : stored y.2 = stored s) : stored (if c then x else y).2 = stored s := by
  split
  · exact hx
  · exact hy
@[simp] theorem modVf_stored (a0 : Chan) (a1 : VFlash → VFlash) (s : State) : stored (modVf a0 a1 s) = stored s := by
  simp [modVf]
@[simp] theorem modCounts_stored (a0 : Chan) (a1 : ChCounts → ChCounts) (s : State) : stored (modCounts a0 a1 s) =
    stored s := by
  simp [modCounts]
@[simp] theorem allChans_stored (a0 : Chan → State → State) (s : State) (h1 : ∀ y0 y1, stored (((a0 y0 y1))) =
    stored ((y1))) : stored (allChans a0 s) = stored s := by
  unfold allChans
  (repeat' split) <;> simp [*]
@[simp] theorem modPort_stored (a0 : Port) (a1 : PortRegs → PortRegs) (s : State) : stored (modPort a0 a1 s) =
    stored s := by
  simp [modPort]
@[simp] theorem modMport_stored (a0 : MPort) (a1 : MgmtPort → MgmtPort) (s : State) : stored (modMport a0 a1 s) =
    stored s := by
  simp [modMport]
@[simp] theorem modBank_stored (a0 : Fin 8) (a1 : Bank → Bank) (s : State) : stored (modBank a0 a1 s) = stored s := by
  simp [modBank]
@[simp] theorem modCx_stored (a0 : Fin 4) (a1 : CxJob → CxJob) (s : State) : stored (modCx a0 a1 s) = stored s := by
  simp [modCx]
@[simp] theorem modTimer_stored (a0 : Fin 8) (a1 : TimerUnit → TimerUnit) (s : State) : stored (modTimer a0 a1 s) =
    stored s := by
  simp [modTimer]
@[simp] theorem modCu_stored (a0 : Fin 8) (a1 : CheckUnit → CheckUnit) (s : State) : stored (modCu a0 a1 s) = stored
    s := by
  simp [modCu]
@[simp] theorem modTimeout_stored (a0 : Fin 14) (a1 : Timeout → Timeout) (s : State) : stored (modTimeout a0 a1 s) =
    stored s := by
  simp [modTimeout]
@[simp] theorem modHay_stored (a0 : Hayloft → Hayloft) (s : State) : stored (modHay a0 s) = stored s := by
  simp [modHay]
@[simp] theorem modHr_stored (a0 : Hedgerow → Hedgerow) (s : State) : stored (modHr a0 s) = stored s := by
  simp [modHr]
@[simp] theorem modUpd_stored (a0 : Update → Update) (s : State) : stored (modUpd a0 s) = stored s := by
  simp [modUpd]
@[simp] theorem modKeys_stored (a0 : KeyStore → KeyStore) (s : State) : stored (modKeys a0 s) = stored s := by
  simp [modKeys]
@[simp] theorem modPke_stored (a0 : Pke → Pke) (s : State) : stored (modPke a0 s) = stored s := by
  simp [modPke]
@[simp] theorem modRandom_stored (a0 : Random → Random) (s : State) : stored (modRandom a0 s) = stored s := by
  simp [modRandom]
@[simp] theorem modHeath_stored (a0 : Heath → Heath) (s : State) : stored (modHeath a0 s) = stored s := by
  simp [modHeath]
@[simp] theorem modWd_stored (a0 : Watchdog → Watchdog) (s : State) : stored (modWd a0 s) = stored s := by
  simp [modWd]
@[simp] theorem modTap_stored (a0 : TestPort → TestPort) (s : State) : stored (modTap a0 s) = stored s := by
  simp [modTap]
@[simp] theorem modSpdm_stored (a0 : Spdm → Spdm) (s : State) : stored (modSpdm a0 s) = stored s := by
  simp [modSpdm]
@[simp] theorem markBlocks_stored (a0 : List Nat) (s : State) : stored (markBlocks a0 s) = stored s := by
  simp [markBlocks]
@[simp] theorem setVector_stored (a0 : BitVec 256) (s : State) : stored (setVector a0 s) = stored s := by
  unfold setVector
  split <;> simp
@[simp] theorem modFallow_stored (a0 : Fallow → Fallow) (s : State) : stored (modFallow a0 s) = stored s := by
  simp [modFallow]
@[simp] theorem tick_stored (s : State) : stored (tick s) = stored s := by
  simp [tick, apply_ite stored]
@[simp] theorem draw_stored (a0 : Nat) (s : State) : stored ((draw a0 s).2) = stored s := by
  simp [draw]
@[simp] theorem drawBytes_stored (a0 : Nat) (s : State) : stored ((drawBytes a0 s).2) = stored s := by
  induction a0 generalizing s with
  | zero => rfl
  | succ n ih => unfold drawBytes; (repeat' (first | dsimp only | split)) <;> simp_all [apply_ite stored]
@[simp] theorem answer_stored (a0 : Port) (a1 : U8) (a2 : List Byte) (s : State) : stored (answer a0 a1 a2 s) =
    stored s := by
  simp [answer]
@[simp] theorem reply_stored (a0 : Port) (a1 : U8) (s : State) : stored (reply a0 a1 s) = stored s := by
  simp [reply]
@[simp] theorem cfgPut_stored (a0 : Nat) (a1 : Nat) (a2 : List Byte) (s : State) : stored (cfgPut a0 a1 a2 s) =
    stored s := by
  simp [cfgPut, apply_ite stored]
@[simp] theorem timeoutExpired_stored (a0 : Fin 14) (s : State) : stored (timeoutExpired a0 s) = stored s := by
  simp [timeoutExpired]
@[simp] theorem timeoutArrived_stored (a0 : Fin 14) (s : State) : stored (timeoutArrived a0 s) = stored s := by
  simp [timeoutArrived]
@[simp] theorem cleanWords_stored (a0 : Fin 8) (a1 : Nat) (a2 : Nat) (s : State) : stored (cleanWords a0 a1 a2 s) =
    stored s := by
  simp [cleanWords]
@[simp] theorem countSec_stored (a0 : Fin 8) (s : State) : stored (countSec a0 s) = stored s := by
  simp [countSec]
@[simp] theorem countDed_stored (a0 : Fin 8) (s : State) : stored (countDed a0 s) = stored s := by
  simp [countDed]
@[simp] theorem readWord_stored (a0 : Fin 8) (a1 : Nat) (s : State) : stored ((readWord a0 a1 s).2) = stored s := by
  unfold readWord
  dsimp only
  (repeat' split) <;> simp [*, apply_ite stored]
@[simp] theorem readWords_stored (a0 : Fin 8) (a1 : Nat) (a2 : Nat) (s : State) : stored ((readWords a0 a1 a2 s).2) =
    stored s := by
  induction a2 generalizing a1 s with
  | zero => rfl
  | succ n ih => simp [readWords, ih, apply_ite stored]
@[simp] theorem strike_stored (a0 : List Upset) (s : State) : stored (strike a0 s) = stored s := by
  simp [strike]
@[simp] theorem journalCommit_stored (a0 : JEntry) (s : State) : stored (journalCommit a0 s) = stored s := by
  simp [journalCommit, apply_ite stored]
@[simp] theorem journalStage_stored (a0 : JEntry) (s : State) : stored (journalStage a0 s) = stored s := by
  simp [journalStage, apply_ite stored]
@[simp] theorem journal_stored (a0 : Nat) (a1 : Nat) (a2 : Bool) (a3 : List Byte) (s : State) : stored (journal a0 a1
    a2 a3 s) = stored s := by
  simp [journal, apply_ite stored]
@[simp] theorem notice_stored (a0 : Nat) (a1 : Bool) (a2 : Nat) (a3 : Nat) (a4 : Nat) (a5 : Nat) (s : State) : stored
    (notice a0 a1 a2 a3 a4 a5 s) = stored s := by
  simp [notice]
@[simp] theorem journalDrain_stored (s : State) : stored (journalDrain s) = stored s := by
  simp [journalDrain]
@[simp] theorem stepDone_stored (a0 : Nat) (s : State) : stored (stepDone a0 s) = stored s := by
  unfold stepDone
  split <;> simp
theorem bootFail_shape_stored (v : U40) (c d : Prop) [Decidable c] [Decidable d] (src : Nat) (bs : List Byte) (s :
    State) :
    stored (let s' := if c then { s with bootResult := v } else s
      if d then s' else journal src 0x0003 true bs s') = stored s := by
  simp only [apply_ite stored, journal_stored, stored_upd, ite_self]
@[simp] theorem bootFail_stored (a0 : Nat) (a1 : U8) (a2 : Nat) (s : State) : stored (bootFail a0 a1 a2 s) = stored
    s := by
  exact bootFail_shape_stored _ _ _ _ _ s
@[simp] theorem markReload_stored (a0 : Fin 8) (a1 : Nat) (s : State) : stored (markReload a0 a1 s) = stored s := by
  simp [markReload]
@[simp] theorem lookup_stored (a0 : Chan) (a1 : Nat) (s : State) : stored ((lookup a0 a1 s).2.2) = stored s := by
  unfold lookup
  simp [apply_ite stored, apply_ite Prod.snd]
@[simp] theorem setIndex_stored (a0 : List (Nat × RuleRow)) (a1 : List (Nat × RuleRow)) (s : State) : stored
    (setIndex a0 a1 s) = stored s := by
  simp [setIndex]
@[simp] theorem switchIndex_stored (a0 : List (Nat × RuleRow)) (a1 : List (Nat × RuleRow)) (s : State) : stored
    (switchIndex a0 a1 s) = stored s := by
  simp [switchIndex]
@[simp] theorem journalRetire_stored (a0 : Nat) (a1 : Nat) (a2 : Nat) (a3 : Nat) (s : State) : stored (journalRetire
    a0 a1 a2 a3 s) = stored s := by
  simp [journalRetire]
@[simp] theorem chargeWay_stored (a0 : Nat) (s : State) : stored (chargeWay a0 s) = stored s := by
  simp [chargeWay, apply_ite stored]
@[simp] theorem wayDouble_stored (a0 : Nat) (s : State) : stored (wayDouble a0 s) = stored s := by
  simp [wayDouble]
@[simp] theorem cacheUse_stored (a0 : Nat) (a1 : Nat) (a2 : Nat) (s : State) : stored ((cacheUse a0 a1 a2 s).2) =
    stored s := by
  unfold cacheUse
  dsimp only
  (repeat' split) <;> simp [*, apply_ite stored]
@[simp] theorem putCtx_stored (a0 : Nat) (a1 : Ctx) (s : State) : stored (putCtx a0 a1 s) = stored s := by
  simp [putCtx]
@[simp] theorem dropCtx_stored (a0 : Nat) (s : State) : stored (dropCtx a0 s) = stored s := by
  simp [dropCtx]
@[simp] theorem dropCtxs_stored (a0 : Ctx → Bool) (s : State) : stored (dropCtxs a0 s) = stored s := by
  simp [dropCtxs]
@[simp] theorem touchCtx_stored (a0 : Nat) (a1 : Ctx) (s : State) : stored (touchCtx a0 a1 s) = stored s := by
  simp [touchCtx]
@[simp] theorem openCtx_stored (a0 : Nat) (a1 : Ctx) (s : State) : stored (openCtx a0 a1 s) = stored s := by
  simp [openCtx]
@[simp] theorem chargeCtx_stored (a0 : Nat) (s : State) : stored (chargeCtx a0 s) = stored s := by
  simp [chargeCtx, apply_ite stored]
@[simp] theorem ctxDouble_stored (a0 : Nat) (a1 : Ctx) (a2 : Nat) (s : State) : stored (ctxDouble a0 a1 a2 s) =
    stored s := by
  unfold ctxDouble
  split <;> simp
@[simp] theorem readBeats_stored (a0 : Nat) (a1 : Nat) (a2 : Nat) (s : State) : stored ((readBeats a0 a1 a2 s).2) =
    stored s := by
  induction a2 generalizing a1 s with
  | zero => rfl
  | succ n ih => unfold readBeats; (repeat' (first | dsimp only | split)) <;> simp_all [apply_ite stored]
@[simp] theorem fixVirtual_stored (s : State) (a1 : Chan) : stored (fixVirtual s a1) = stored s := by
  simp [fixVirtual]
@[simp] theorem resetByHold_stored (a0 : Chan) (s : State) : stored (resetByHold a0 s) = stored s := by
  simp [resetByHold]
@[simp] theorem hostReset_stored (a0 : Chan) (s : State) : stored (hostReset a0 s) = stored s := by
  simp [hostReset]
@[simp] theorem setEff_stored (a0 : Chan) (a1 : ChState) (s : State) : stored (setEff a0 a1 s) = stored s := by
  simp [setEff, apply_ite stored]
@[simp] theorem settleDown_stored (a0 : Bool) (a1 : Chan) (s : State) : stored (settleDown a0 a1 s) = stored s := by
  simp [settleDown, apply_ite stored]
@[simp] theorem settleUp_stored (a0 : Chan) (s : State) : stored (settleUp a0 s) = stored s := by
  unfold settleUp
  split <;> simp
@[simp] theorem settleWait_stored (a0 : Chan) (s : State) : stored (settleWait a0 s) = stored s := by
  simp [settleWait, apply_ite stored]
@[simp] theorem kickPreload_stored (a0 : Chan) (s : State) : stored (kickPreload a0 s) = stored s := by
  unfold kickPreload
  dsimp only
  (repeat' split) <;> simp [*, apply_ite stored]
@[simp] theorem settleAll_stored (s : State) : stored (settleAll s) = stored s := by
  simp [settleAll]
@[simp] theorem unsaved_stored (s : State) : stored (unsaved s) = stored s := by
  simp [unsaved]
@[simp] theorem retireChannel_stored (a0 : Chan) (s : State) : stored (retireChannel a0 s) = stored s := by
  simp [retireChannel]
@[simp] theorem setCause_stored (a0 : Chan) (a1 : Nat) (s : State) : stored (setCause a0 a1 s) = stored s := by
  simp [setCause]
@[simp] theorem retirePipeline_stored (a0 : Chan) (a1 : Nat) (s : State) : stored (retirePipeline a0 a1 s) = stored
    s := by
  simp [retirePipeline, apply_ite stored]
@[simp] theorem fallowReturn_stored (s : State) : stored (fallowReturn s) = stored s := by
  simp [fallowReturn]
@[simp] theorem retirePort_stored (a0 : Chan) (a1 : Nat) (a2 : Nat) (a3 : Nat) (s : State) : stored (retirePort a0 a1
    a2 a3 s) = stored s := by
  simp [retirePort, apply_ite stored]
@[simp] theorem retireFallow_stored (a0 : Nat) (s : State) : stored (retireFallow a0 s) = stored s := by
  unfold retireFallow
  dsimp only
  (repeat' split) <;> simp [*, apply_ite stored]
@[simp] theorem chargeFallow_stored (s : State) : stored (chargeFallow s) = stored s := by
  simp [chargeFallow, apply_ite stored]
@[simp] theorem chargePipe_stored (a0 : Chan) (s : State) : stored (chargePipe a0 s) = stored s := by
  simp [chargePipe, apply_ite stored]
@[simp] theorem chargeHostPort_stored (a0 : Chan) (s : State) : stored (chargeHostPort a0 s) = stored s := by
  simp [chargeHostPort, apply_ite stored]
@[simp] theorem chargeFlashPort_stored (a0 : Chan) (s : State) : stored (chargeFlashPort a0 s) = stored s := by
  simp [chargeFlashPort, apply_ite stored]
@[simp] theorem hostBallCheck_stored (a0 : Chan) (a1 : Option U8) (s : State) : stored (hostBallCheck a0 a1 s) =
    stored s := by
  unfold hostBallCheck
  (repeat' split) <;> simp [apply_ite stored]
@[simp] theorem flashBallCheck_stored (a0 : Chan) (a1 : Option U8) (s : State) : stored (flashBallCheck a0 a1 s) =
    stored s := by
  unfold flashBallCheck
  (repeat' split) <;> simp [apply_ite stored]
@[simp] theorem dropRegion_stored (a0 : Chan) (a1 : List Nat) (s : State) : stored (dropRegion a0 a1 s) = stored s := by
  simp [dropRegion]
@[simp] theorem flipLanded_stored (a0 : Chan) (s : State) : stored (flipLanded a0 s) = stored s := by
  unfold flipLanded
  (repeat' split) <;> simp
@[simp] theorem flipsLand_stored (a0 : List (Nat × List Nat)) (s : State) : stored (flipsLand a0 s) = stored s := by
  simp [flipsLand]
@[simp] theorem volatileFlips_stored (a0 : List (Nat × List Nat)) (s : State) : stored (volatileFlips a0 s) = stored
    s := by
  simp [volatileFlips]
@[simp] theorem kickStile_stored (s : State) : stored (kickStile s) = stored s := by
  unfold kickStile
  (repeat' split) <;> simp [apply_ite stored]
@[simp] theorem finish_stored (s : State) : stored (finish s) = stored s := by
  simp [finish]
@[simp] theorem recordFail_stored (a0 : Chan) (a1 : Nat) (a2 : Nat) (a3 : Nat) (a4 : Nat) (a5 : Nat) (s : State) :
    stored (recordFail a0 a1 a2 a3 a4 a5 s) = stored s := by
  simp [recordFail]
@[simp] theorem countEscalation_stored (s : State) : stored (countEscalation s) = stored s := by
  simp [countEscalation]
@[simp] theorem toHold_stored (a0 : Chan) (a1 : List Nat) (a2 : U8) (a3 : Nat) (s : State) : stored (toHold a0 a1 a2
    a3 s) = stored s := by
  simp [toHold]
@[simp] theorem dropRestoreOps_stored (a0 : Chan) (s : State) : stored (dropRestoreOps a0 s) = stored s := by
  simp [dropRestoreOps]
@[simp] theorem toRestore_stored (a0 : Chan) (a1 : List Nat) (a2 : Bool) (a3 : Nat) (s : State) : stored (toRestore
    a0 a1 a2 a3 s) = stored s := by
  simp [toRestore, apply_ite stored]
@[simp] theorem toFlip_stored (a0 : Chan) (a1 : RuleRow) (a2 : List Nat) (s : State) : stored (toFlip a0 a1 a2 s) =
    stored s := by
  simp [toFlip, apply_ite stored]
@[simp] theorem joinFail_stored (a0 : Chan) (a1 : Seq) (a2 : Nat) (a3 : List Nat) (a4 : Nat) (s : State) : stored
    (joinFail a0 a1 a2 a3 a4 s) = stored s := by
  unfold joinFail
  (repeat' split) <;> simp
@[simp] theorem respond_stored (a0 : Chan) (a1 : Nat) (a2 : RuleRow) (a3 : Nat) (s : State) : stored (respond a0 a1
    a2 a3 s) = stored s := by
  unfold respond
  dsimp only
  (repeat' split) <;> simp [*, apply_ite stored]
@[simp] theorem startRevert_stored (a0 : U8) (s : State) : stored (startRevert a0 s) = stored s := by
  simp [startRevert, apply_ite stored]
@[simp] theorem poison_stored (a0 : Nat) (s : State) : stored (poison a0 s) = stored s := by
  simp [poison]
@[simp] theorem lineFail_stored (a0 : Chan) (a1 : Cs) (a2 : Nat) (a3 : Nat) (a4 : Nat) (a5 : Nat) (s : State) :
    stored (lineFail a0 a1 a2 a3 a4 a5 s) = stored s := by
  unfold lineFail
  (repeat' split) <;> simp [apply_ite stored]
@[simp] theorem abortRead_stored (a0 : Chan) (a1 : Nat) (s : State) : stored (abortRead a0 a1 s) = stored s := by
  unfold abortRead
  dsimp only
  (repeat' split) <;> simp [*, apply_ite stored]
@[simp] theorem drive_stored (a0 : Chan) (a1 : List Byte) (s : State) : stored (drive a0 a1 s) = stored s := by
  simp [drive]
@[simp] theorem unsupported_stored (a0 : Chan) (a1 : Nat) (a2 : Nat) (s : State) : stored (unsupported a0 a1 a2 s) =
    stored s := by
  simp [unsupported]
@[simp] theorem twinRecord_stored (a0 : Chan) (a1 : Nat) (a2 : Nat) (a3 : Option Nat) (a4 : Option Nat) (s : State) :
    stored (twinRecord a0 a1 a2 a3 a4 s) = stored s := by
  simp [twinRecord]
@[simp] theorem combine_stored (a0 : Chan) (a1 : Nat) (a2 : Option TwinDiff) (a3 : Verdict) (s : State) : stored
    ((combine a0 a1 a2 a3 s).2) = stored s := by
  unfold combine
  (repeat' split) <;> simp
@[simp] theorem csRise_stored (a0 : Chan) (s : State) : stored (csRise a0 s) = stored s := by
  simp [csRise]
@[simp] theorem shadowCheck_stored (a0 : Chan) (a1 : Bool) (s : State) : stored (shadowCheck a0 a1 s) = stored s := by
  unfold shadowCheck
  split <;> simp
@[simp] theorem hostRun_stored (a0 : HostCmd) (a1 : Nat) (a2 : Nat) (a3 : Bool) (a4 : Bool) (a5 : Bool) (a6 : Bool)
    (a7 : Bool → State → State) (s : State) (h8 : ∀ y0 y1, stored (((a7 y0 y1))) = stored ((y1))) : stored (hostRun a0 a1 a2 a3 a4 a5 a6 a7 s) = stored s := by
  unfold hostRun
  (repeat' split) <;> simp [*, apply_ite stored]
@[simp] theorem serveHayloft_stored (a0 : Nat) (a1 : Ctx) (a2 : Nat) (a3 : Nat) (s : State) : stored ((serveHayloft
    a0 a1 a2 a3 s).2) = stored s := by
  unfold serveHayloft
  dsimp only
  (repeat' split) <;> simp [*, apply_ite stored]
@[simp] theorem sealedMiss_stored (a0 : Chan) (a1 : Nat) (a2 : Nat) (a3 : Nat) (a4 : Nat) (a5 : ReadRun) (s : State) :
    stored (sealedMiss a0 a1 a2 a3 a4 a5 s) = stored s := by
  simp [sealedMiss, apply_ite stored]
@[simp] theorem physicalBytes_stored (a0 : HostCmd) (a1 : Bool) (a2 : ReadRun) (a3 : Verdict) (a4 : Nat) (a5 : Nat) (s
    : State) : stored ((physicalBytes a0 a1 a2 a3 a4 a5 s).2) = stored s := by
  unfold physicalBytes
  (repeat' split) <;> simp
@[simp] theorem emitBytes_stored (a0 : ReadRun) (a1 : List Byte) (a2 : Nat) (s : State) : stored ((emitBytes a0 a1 a2
    s).2) = stored s := by
  unfold emitBytes
  split <;> simp
@[simp] theorem hayloftPiece_stored (a0 : ReadRun) (a1 : Nat) (a2 : Ctx) (a3 : Nat) (a4 : Nat) (s : State) : stored
    ((hayloftPiece a0 a1 a2 a3 a4 s).2) = stored s := by
  unfold hayloftPiece
  (repeat' (first | dsimp only | split)) <;> (try simp only [drbgGenerate_some, storeRecord_ok, Prod.ext_iff] at *) <;> (try casesm* _ ∧ _) <;>
    subst_vars <;> simp [*, apply_ite stored, apply_ite Prod.snd]
@[simp] theorem sealedPiece_stored (a0 : HostCmd) (a1 : Nat) (a2 : ReadRun) (a3 : ReadRun) (a4 : Verdict) (a5 : Nat)
    (a6 : Nat) (a7 : Nat) (s : State) : stored ((sealedPiece a0 a1 a2 a3 a4 a5 a6 a7 s).2) = stored s := by
  unfold sealedPiece
  (repeat' split) <;> simp
@[simp] theorem takePiece_stored (a0 : HostCmd) (a1 : Bool) (a2 : ReadRun) (a3 : ReadRun) (a4 : Verdict) (a5 : Nat)
    (a6 : Nat) (a7 : Nat) (a8 : Ctx) (s : State) : stored ((takePiece a0 a1 a2 a3 a4 a5 a6 a7 a8 s).2) = stored s := by
  simp [takePiece, apply_ite stored]
@[simp] theorem verifiedPiece_stored (a0 : HostCmd) (a1 : Bool) (a2 : ReadRun) (a3 : ReadRun) (a4 : Verdict) (a5 :
    Nat) (a6 : Nat) (a7 : Nat) (s : State) : stored ((verifiedPiece a0 a1 a2 a3 a4 a5 a6 a7 s).2) = stored s := by
  unfold verifiedPiece
  dsimp only
  (repeat' split) <;> simp [*, apply_ite stored]
@[simp] theorem readPiece_stored (a0 : HostCmd) (a1 : Nat) (a2 : Bool) (a3 : Nat × Nat × Nat) (a4 : ReadRun × State) :
    stored ((readPiece a0 a1 a2 a3 a4).2) = stored (a4.2) := by
  unfold readPiece
  dsimp only
  (repeat' split) <;> simp [*, apply_ite stored]
@[simp] theorem readBody_stored (a0 : HostCmd) (a1 : Nat) (a2 : Nat) (a3 : Nat) (a4 : Bool) (s : State) : stored
    (readBody a0 a1 a2 a3 a4 s) = stored s := by
  simp [readBody, apply_ite stored]
@[simp] theorem hostRead_stored (a0 : HostCmd) (a1 : Nat) (a2 : U32) (a3 : Nat) (a4 : Bool) (a5 : Bool) (a6 : Bool) (s
    : State) : stored ((after (hostRead a0 a1 a2 a3 a4 a5 a6 s) s)) = stored s := by
  simp [hostRead]
@[simp] theorem execFastRead_stored (a0 : HostCmd) (a1 : U32) (a2 : Nat) (s : State) : stored ((after (execFastRead
    a0 a1 a2 s) s)) = stored s := by
  simp [execFastRead]
@[simp] theorem execFastRead4B_stored (a0 : HostCmd) (a1 : U32) (a2 : Nat) (s : State) : stored ((after
    (execFastRead4B a0 a1 a2 s) s)) = stored s := by
  simp [execFastRead4B]
@[simp] theorem execQuadOutputRead_stored (a0 : HostCmd) (a1 : U32) (a2 : Nat) (s : State) : stored ((after
    (execQuadOutputRead a0 a1 a2 s) s)) = stored s := by
  simp [execQuadOutputRead]
@[simp] theorem execQuadOutputRead4B_stored (a0 : HostCmd) (a1 : U32) (a2 : Nat) (s : State) : stored ((after
    (execQuadOutputRead4B a0 a1 a2 s) s)) = stored s := by
  simp [execQuadOutputRead4B]
@[simp] theorem execQuadIoRead_stored (a0 : HostCmd) (a1 : U32) (a2 : Nat) (s : State) : stored ((after
    (execQuadIoRead a0 a1 a2 s) s)) = stored s := by
  simp [execQuadIoRead]
@[simp] theorem execQuadIoRead4B_stored (a0 : HostCmd) (a1 : U32) (a2 : Nat) (s : State) : stored ((after
    (execQuadIoRead4B a0 a1 a2 s) s)) = stored s := by
  simp [execQuadIoRead4B]
@[simp] theorem execOctalDtrRead_stored (a0 : HostCmd) (a1 : U32) (a2 : Nat) (s : State) : stored ((after
    (execOctalDtrRead a0 a1 a2 s) s)) = stored s := by
  simp [execOctalDtrRead]
@[simp] theorem recReject_stored (a0 : Nat) (a1 : U8) (s : State) : stored (recReject a0 a1 s) = stored s := by
  simp [recReject]
@[simp] theorem selectImage_stored (a0 : Nat) (s : State) : stored ((selectImage a0 s).2.2) = stored s := by
  unfold selectImage
  split
  · rfl
  · refine (foldl_stored3 _ (fun t x => ?_) _ _).trans rfl
    (repeat' split) <;> simp
@[simp] theorem scanInto_stored (a0 : Nat) (s : State) : stored (scanInto a0 s) = stored s := by
  simp [scanInto]
@[simp] theorem setNextSeq_stored (s : State) : stored (setNextSeq s) = stored s := by
  simp [setNextSeq]
@[simp] theorem countStages_stored (s : State) : stored (countStages s) = stored s := by
  simp [countStages]
@[simp] theorem sealFor_stored (a0 : U32) (a1 : List Byte) (s : State) : stored ((sealFor a0 a1 s).2) = stored s := by
  unfold sealFor
  split <;> simp
@[simp] theorem queueResponse_stored (a0 : MPort) (a1 : Option U32) (a2 : List Byte) (a3 : Nat) (a4 : Nat) (a5 : Bool)
    (s : State) : stored (queueResponse a0 a1 a2 a3 a4 a5 s) = stored s := by
  unfold queueResponse
  (repeat' (first | dsimp only | split)) <;> (try simp only [drbgGenerate_some, storeRecord_ok, Prod.ext_iff] at *) <;> (try casesm* _ ∧ _) <;>
    subst_vars <;> simp [*, apply_ite stored, apply_ite Prod.snd]
@[simp] theorem deliver_stored (a0 : MPort) (a1 : LinkReq) (a2 : List Byte) (a3 : Bool) (s : State) : stored (deliver
    a0 a1 a2 a3 s) = stored s := by
  simp [deliver]
@[simp] theorem answerLate_stored (a0 : Port) (a1 : U8) (a2 : List Byte) (s : State) : stored (answerLate a0 a1 a2 s)
    = stored s := by
  unfold answerLate
  dsimp only
  (repeat' split) <;> simp [*, apply_ite stored]
@[simp] theorem dropCovered_stored (a0 : Chan) (a1 : Cs) (a2 : PhysOp) (s : State) : stored (dropCovered a0 a1 a2 s)
    = stored s := by
  simp [dropCovered]
@[simp] theorem issueStore_stored (a0 : Chan) (s : State) : stored (issueStore a0 s) = stored s := by
  unfold issueStore
  (repeat' split) <;> simp
@[simp] theorem denyHost_stored (a0 : Chan) (a1 : Nat) (s : State) : stored (denyHost a0 a1 s) = stored s := by
  simp [denyHost]
@[simp] theorem judgeLine_stored (a0 : HostCmd) (a1 : Nat) (a2 : Nat) (a3 : WriteRun × State) : stored ((judgeLine a0
    a1 a2 a3).2) = stored (a3.2) := by
  unfold judgeLine
  dsimp only
  (repeat' split) <;> simp [*, apply_ite stored]
@[simp] theorem stageHost_stored (a0 : Chan) (a1 : StageOp) (s : State) : stored (stageHost a0 a1 s) = stored s := by
  unfold stageHost
  split <;> simp
@[simp] theorem applyVerdict_stored (a0 : HostCmd) (a1 : Nat) (a2 : WriteRun) (a3 : Nat → PhysOp) (a4 : StageOp) (s :
    State) : stored (applyVerdict a0 a1 a2 a3 a4 s) = stored s := by
  simp [applyVerdict, apply_ite stored]
@[simp] theorem clearWel_stored (a0 : Chan) (s : State) : stored (clearWel a0 s) = stored s := by
  simp [clearWel]
@[simp] theorem programBody_stored (a0 : HostCmd) (a1 : Nat) (a2 : Nat) (a3 : List Byte) (a4 : Bool) (s : State) :
    stored (programBody a0 a1 a2 a3 a4 s) = stored s := by
  simp [programBody, apply_ite stored]
@[simp] theorem eraseBody_stored (a0 : HostCmd) (a1 : Nat) (a2 : Nat) (a3 : Nat) (a4 : Bool) (s : State) : stored
    (eraseBody a0 a1 a2 a3 a4 s) = stored s := by
  unfold eraseBody
  split <;> simp
@[simp] theorem hostProgram_stored (a0 : HostCmd) (a1 : Nat) (a2 : U32) (a3 : List Byte) (a4 : Bool) (a5 : Bool) (a6 :
    Bool) (s : State) : stored ((after (hostProgram a0 a1 a2 a3 a4 a5 a6 s) s)) = stored s := by
  simp [hostProgram]
@[simp] theorem hostErase_stored (a0 : HostCmd) (a1 : Nat) (a2 : U32) (a3 : Nat) (a4 : Bool) (s : State) : stored
    ((after (hostErase a0 a1 a2 a3 a4 s) s)) = stored s := by
  simp [hostErase]
@[simp] theorem execPageProgram_stored (a0 : HostCmd) (a1 : U32) (a2 : List Byte) (s : State) : stored ((after
    (execPageProgram a0 a1 a2 s) s)) = stored s := by
  simp [execPageProgram]
@[simp] theorem execPageProgram4B_stored (a0 : HostCmd) (a1 : U32) (a2 : List Byte) (s : State) : stored ((after
    (execPageProgram4B a0 a1 a2 s) s)) = stored s := by
  simp [execPageProgram4B]
@[simp] theorem execQuadInputPageProgram_stored (a0 : HostCmd) (a1 : U32) (a2 : List Byte) (s : State) : stored
    ((after (execQuadInputPageProgram a0 a1 a2 s) s)) = stored s := by
  simp [execQuadInputPageProgram]
@[simp] theorem execQuadInputPageProgram4B_stored (a0 : HostCmd) (a1 : U32) (a2 : List Byte) (s : State) : stored
    ((after (execQuadInputPageProgram4B a0 a1 a2 s) s)) = stored s := by
  simp [execQuadInputPageProgram4B]
@[simp] theorem execErase4K_stored (a0 : HostCmd) (a1 : U32) (s : State) : stored ((after (execErase4K a0 a1 s) s)) =
    stored s := by
  simp [execErase4K]
@[simp] theorem execErase4K4B_stored (a0 : HostCmd) (a1 : U32) (s : State) : stored ((after (execErase4K4B a0 a1 s)
    s)) = stored s := by
  simp [execErase4K4B]
@[simp] theorem execErase32K_stored (a0 : HostCmd) (a1 : U32) (s : State) : stored ((after (execErase32K a0 a1 s) s))
    = stored s := by
  simp [execErase32K]
@[simp] theorem execErase32K4B_stored (a0 : HostCmd) (a1 : U32) (s : State) : stored ((after (execErase32K4B a0 a1 s)
    s)) = stored s := by
  simp [execErase32K4B]
@[simp] theorem execErase64K_stored (a0 : HostCmd) (a1 : U32) (s : State) : stored ((after (execErase64K a0 a1 s) s))
    = stored s := by
  simp [execErase64K]
@[simp] theorem execErase64K4B_stored (a0 : HostCmd) (a1 : U32) (s : State) : stored ((after (execErase64K4B a0 a1 s)
    s)) = stored s := by
  simp [execErase64K4B]
@[simp] theorem execChipErase_stored (a0 : HostCmd) (a1 : Bool) (s : State) : stored ((after (execChipErase a0 a1 s)
    s)) = stored s := by
  simp [execChipErase, apply_ite stored]
@[simp] theorem hostVirtual_stored (a0 : HostCmd) (a1 : Nat) (a2 : Nat) (a3 : Bool) (a4 : Bool) (a5 : Bool) (a6 : Bool
    → State → State) (s : State) (h7 : ∀ y0 y1, stored (((a6 y0 y1))) = stored ((y1))) : stored ((after (hostVirtual a0 a1 a2 a3 a4 a5 a6 s) s)) = stored s := by
  unfold hostVirtual
  (repeat' split) <;> simp [*]
@[simp] theorem startGap_stored (a0 : Chan) (s : State) : stored (startGap a0 s) = stored s := by
  simp [startGap]
@[simp] theorem changeMode_stored (a0 : Chan) (a1 : BusMode) (a2 : Nat) (a3 : Nat) (s : State) : stored (changeMode
    a0 a1 a2 a3 s) = stored s := by
  unfold changeMode
  split <;> simp
@[simp] theorem execWriteEnable_stored (a0 : HostCmd) (s : State) : stored ((after (execWriteEnable a0 s) s)) =
    stored s := by
  simp [execWriteEnable]
@[simp] theorem execWriteDisable_stored (a0 : HostCmd) (s : State) : stored ((after (execWriteDisable a0 s) s)) =
    stored s := by
  simp [execWriteDisable]
@[simp] theorem execReadStatus_stored (a0 : HostCmd) (a1 : Nat) (s : State) : stored ((after (execReadStatus a0 a1 s)
    s)) = stored s := by
  simp [execReadStatus]
@[simp] theorem execWriteStatus_stored (a0 : HostCmd) (s : State) : stored ((after (execWriteStatus a0 s) s)) =
    stored s := by
  simp [execWriteStatus]
@[simp] theorem execClearFlags_stored (a0 : HostCmd) (s : State) : stored ((after (execClearFlags a0 s) s)) = stored
    s := by
  simp [execClearFlags]
@[simp] theorem execReadId_stored (a0 : HostCmd) (a1 : Nat) (s : State) : stored ((after (execReadId a0 a1 s) s)) =
    stored s := by
  simp [execReadId]
@[simp] theorem execReadSfdp_stored (a0 : HostCmd) (a1 : U32) (a2 : Nat) (s : State) : stored ((after (execReadSfdp
    a0 a1 a2 s) s)) = stored s := by
  simp [execReadSfdp]
@[simp] theorem execWriteVolatileConfiguration_stored (a0 : HostCmd) (a1 : U32) (a2 : Byte) (s : State) : stored
    ((after (execWriteVolatileConfiguration a0 a1 a2 s) s)) = stored s := by
  simp [execWriteVolatileConfiguration, apply_ite stored]
@[simp] theorem execEnterQpi_stored (a0 : HostCmd) (s : State) : stored ((after (execEnterQpi a0 s) s)) = stored s := by
  simp [execEnterQpi]
@[simp] theorem execExitQpi_stored (a0 : HostCmd) (s : State) : stored ((after (execExitQpi a0 s) s)) = stored s := by
  simp [execExitQpi]
@[simp] theorem execResetEnable_stored (a0 : HostCmd) (s : State) : stored ((after (execResetEnable a0 s) s)) =
    stored s := by
  simp [execResetEnable]
@[simp] theorem execReset_stored (a0 : HostCmd) (s : State) : stored ((after (execReset a0 s) s)) = stored s := by
  simp [execReset, apply_ite stored]
@[simp] theorem execEnter4ByteMode_stored (a0 : HostCmd) (s : State) : stored ((after (execEnter4ByteMode a0 s) s)) =
    stored s := by
  simp [execEnter4ByteMode]
@[simp] theorem execExit4ByteMode_stored (a0 : HostCmd) (s : State) : stored ((after (execExit4ByteMode a0 s) s)) =
    stored s := by
  simp [execExit4ByteMode]
@[simp] theorem execPowerDown_stored (a0 : HostCmd) (s : State) : stored ((after (execPowerDown a0 s) s)) = stored s
    := by
  simp [execPowerDown]
@[simp] theorem execReleasePowerDown_stored (a0 : HostCmd) (s : State) : stored ((after (execReleasePowerDown a0 s)
    s)) = stored s := by
  simp [execReleasePowerDown]
@[simp] theorem execUnsupportedCommand_stored (a0 : HostCmd) (a1 : Byte) (a2 : U32) (s : State) : stored ((after
    (execUnsupportedCommand a0 a1 a2 s) s)) = stored s := by
  simp [execUnsupportedCommand]
@[simp] theorem setSeq_stored (a0 : Chan) (a1 : Seq → Seq) (s : State) : stored (setSeq a0 a1 s) = stored s := by
  simp [setSeq]
@[simp] theorem restoreDone_stored (a0 : Chan) (a1 : Seq) (s : State) : stored (restoreDone a0 a1 s) = stored s := by
  simp [restoreDone, apply_ite stored]
@[simp] theorem nextBlock_stored (a0 : Chan) (s : State) : stored (nextBlock a0 s) = stored s := by
  unfold nextBlock
  (repeat' split) <;> simp [apply_ite stored]
@[simp] theorem kickSeq_stored (a0 : Chan) (s : State) : stored (kickSeq a0 s) = stored s := by
  unfold kickSeq
  dsimp only
  (repeat' split) <;> simp [*, apply_ite stored]
@[simp] theorem restoreSelect_stored (a0 : Chan) (s : State) : stored (restoreSelect a0 s) = stored s := by
  unfold restoreSelect
  split
  · rfl
  · split
    · rfl
    · split
      rename_i h
      have h3 := congrArg (fun x => stored x.2.2) h
      dsimp only at h3
      rw [foldl_stored3] at h3
      · dsimp only at h3
        split
        · split <;> simp [h3]
        · simp [h3]
      · intro t x
        split
        · rfl
        · have := selectImage_stored x t.2.2
          split <;> simp_all
@[simp] theorem permFlash_stored (a0 : Chan) (s : State) : stored (permFlash a0 s) = stored s := by
  unfold permFlash
  dsimp only
  (repeat' split) <;> simp [*, apply_ite stored]
@[simp] theorem startRead_stored (a0 : Chan) (a1 : DevRead) (s : State) : stored (startRead a0 a1 s) = stored s := by
  simp [startRead]
@[simp] theorem kickField_stored (a0 : Port) (s : State) : stored (kickField a0 s) = stored s := by
  unfold kickField
  (repeat' split) <;> simp
@[simp] theorem kickAll_stored (s : State) : stored (kickAll s) = stored s := by
  simp [kickAll]
@[simp] theorem finishAll_stored (s : State) : stored (finishAll s) = stored s := by
  simp [finishAll]
@[simp] theorem execPhysicalModeSync_stored (a0 : Chan) (s : State) : stored ((after (execPhysicalModeSync a0 s) s))
    = stored s := by
  unfold execPhysicalModeSync
  dsimp only
  (repeat' split) <;> simp [*, apply_ite stored]
@[simp] theorem flashIdle_stored (a0 : Chan) (a1 : Cs) (s : State) : stored (flashIdle a0 a1 s) = stored s := by
  simp [flashIdle]
@[simp] theorem hostOpEnd_stored (a0 : Chan) (a1 : Bool) (s : State) : stored (hostOpEnd a0 a1 s) = stored s := by
  unfold hostOpEnd
  (repeat' split) <;> simp
@[simp] theorem deviceOpFail_stored (a0 : Chan) (a1 : Cs) (a2 : PhysOp) (s : State) : stored (deviceOpFail a0 a1 a2
    s) = stored s := by
  unfold deviceOpFail
  split <;> simp
@[simp] theorem retryWon_stored (a0 : Chan) (s : State) : stored (retryWon a0 s) = stored s := by
  unfold retryWon
  split <;> simp
@[simp] theorem execFlashOpRetry_stored (a0 : Chan) (s : State) : stored ((after (execFlashOpRetry a0 s) s)) =
    stored s := by
  unfold execFlashOpRetry
  dsimp only
  (repeat' split) <;> simp [*, apply_ite stored]
@[simp] theorem stageExpire_stored (a0 : Chan) (s : State) : stored (stageExpire a0 s) = stored s := by
  unfold stageExpire
  split <;> simp
@[simp] theorem execStageStoreExpiry_stored (a0 : Chan) (s : State) : stored ((after (execStageStoreExpiry a0 s) s))
    = stored s := by
  simp [execStageStoreExpiry]
@[simp] theorem execGapFill_stored (a0 : Chan) (s : State) : stored ((after (execGapFill a0 s) s)) = stored s := by
  unfold execGapFill
  (repeat' split) <;> simp
@[simp] theorem execPinFill_stored (a0 : Chan) (a1 : U32) (s : State) : stored ((after (execPinFill a0 a1 s) s)) =
    stored s := by
  unfold execPinFill
  dsimp only
  (repeat' split) <;> simp [*, apply_ite stored]
@[simp] theorem soundAncestor_stored (a0 : Nat) (a1 : Ctx) (s : State) : stored (soundAncestor a0 a1 s) = stored s
    := by
  induction a0 generalizing s with
  | zero => rfl
  | succ n ih => unfold soundAncestor; (repeat' (first | dsimp only | split)) <;> simp_all [apply_ite stored]
@[simp] theorem execNodeFetch_stored (a0 : Chan) (a1 : Cs) (a2 : BitVec 24) (s : State) : stored ((after
    (execNodeFetch a0 a1 a2 s) s)) = stored s := by
  unfold execNodeFetch
  dsimp only
  (repeat' split) <;> simp [*, apply_ite stored]
@[simp] theorem gleanPassed_stored (a0 : Nat) (s : State) : stored (gleanPassed a0 s) = stored s := by
  unfold gleanPassed
  dsimp only
  (repeat' split) <;> simp [*, apply_ite stored]
@[simp] theorem execGleaningRead_stored (a0 : Chan) (s : State) : stored ((after (execGleaningRead a0 s) s)) =
    stored s := by
  unfold execGleaningRead
  (repeat' split) <;> simp
@[simp] theorem gleanDone_stored (a0 : Chan) (a1 : Nat) (s : State) : stored (gleanDone a0 a1 s) = stored s := by
  unfold gleanDone
  dsimp only
  (repeat' split) <;> simp [*, apply_ite stored]
@[simp] theorem nodeFail_stored (a0 : Chan) (a1 : Nat) (a2 : Nat) (a3 : Nat) (s : State) : stored (nodeFail a0 a1 a2
    a3 s) = stored s := by
  simp [nodeFail]
theorem cacheInsert_some_stored {tree level index : Nat} {data : List Byte} {s t : State} (h : cacheInsert tree level
    index data s = some t) : stored t = stored s := by
  unfold cacheInsert at h
  dsimp only at h
  split at h
  · simp at h; subst h; simp
  · split at h
    · simp at h; subst h; simp
    · simp at h
@[simp] theorem nodeEnter_stored (a0 : Chan) (a1 : Nat) (a2 : Nat) (a3 : Nat) (a4 : List Byte) (a5 : Cs × Nat) (s :
    State) : stored (nodeEnter a0 a1 a2 a3 a4 a5 s) = stored s := by
  unfold nodeEnter
  split
  · exact cacheInsert_some_stored ‹_›
  · split <;> simp
@[simp] theorem nodeArrived_stored (a0 : Chan) (a1 : Nat) (a2 : Nat) (a3 : Nat) (a4 : Cs × Nat) (s : State) : stored
    (nodeArrived a0 a1 a2 a3 a4 s) = stored s := by
  unfold nodeArrived
  (repeat' split) <;> simp [apply_ite stored]
@[simp] theorem nodeFromVault_stored (a0 : Chan) (a1 : Nat) (a2 : Nat) (a3 : Nat) (a4 : Cs × Nat) (s : State) :
    stored (nodeFromVault a0 a1 a2 a3 a4 s) = stored s := by
  unfold nodeFromVault
  (repeat' split) <;> simp [apply_ite stored]
@[simp] theorem beatsArrive_stored (a0 : Chan) (a1 : Cs) (a2 : Nat) (a3 : Nat) (a4 : Nat) (s : State) : stored
    (beatsArrive a0 a1 a2 a3 a4 s) = stored s := by
  unfold beatsArrive
  (repeat' split) <;> simp
@[simp] theorem preloadArrive_stored (a0 : Chan) (a1 : Cs) (a2 : Nat) (a3 : Nat) (s : State) : stored (preloadArrive
    a0 a1 a2 a3 s) = stored s := by
  unfold preloadArrive
  (repeat' split) <;> simp
@[simp] theorem readArrive_stored (a0 : Chan) (a1 : DevRead) (s : State) : stored (readArrive a0 a1 s) = stored s := by
  unfold readArrive
  split <;> simp
@[simp] theorem deviceReadFail_stored (a0 : Chan) (a1 : DevRead) (s : State) : stored (deviceReadFail a0 a1 s) =
    stored s := by
  simp [deviceReadFail, apply_ite stored]
@[simp] theorem execDeviceReadComplete_stored (a0 : Chan) (a1 : FlashEnd) (a2 : Option U8) (a3 : List Upset) (s :
    State) : stored ((after (execDeviceReadComplete a0 a1 a2 a3 s) s)) = stored s := by
  unfold execDeviceReadComplete
  dsimp only
  (repeat' split) <;> simp [*, apply_ite stored]
@[simp] theorem checkLine_stored (a0 : Chan) (a1 : Cs) (a2 : Nat) (a3 : Ctx) (s : State) : stored (checkLine a0 a1 a2
    a3 s) = stored s := by
  unfold checkLine
  split
  · simp
  · dsimp only
    split
    · simp
    · split
      · rename_i h
        have h3 := congrArg (fun x => stored x.2) h
        dsimp only at h3
        split at h3 <;> simp at h3 <;> simp [← h3]
      · rename_i h
        have h3 := congrArg (fun x => stored x.2) h
        dsimp only at h3
        split at h3 <;> simp at h3 <;> simp [← h3, apply_ite stored]
@[simp] theorem execLineCheckComplete_stored (a0 : Chan) (a1 : Cs) (a2 : BitVec 24) (s : State) : stored ((after
    (execLineCheckComplete a0 a1 a2 s) s)) = stored s := by
  unfold execLineCheckComplete
  (repeat' split) <;> simp
@[simp] theorem lineStale_stored (a0 : Chan) (a1 : Cs) (a2 : Nat) (s : State) : stored (lineStale a0 a1 a2 s) =
    stored s := by
  unfold lineStale
  (repeat' split) <;> simp
@[simp] theorem execLineStale_stored (a0 : Chan) (a1 : Cs) (a2 : BitVec 24) (s : State) : stored ((after
    (execLineStale a0 a1 a2 s) s)) = stored s := by
  simp [execLineStale]
@[simp] theorem fabricWord_stored (s : State) : stored ((fabricWord s).2) = stored s := by
  simp [fabricWord, apply_ite stored]
@[simp] theorem request_stored (a0 : Port) (a1 : Svc) (a2 : Nat) (a3 : Nat) (a4 : Nat) (s : State) : stored ((request
    a0 a1 a2 a3 a4 s).2) = stored s := by
  simp [request]
@[simp] theorem requestOp_stored (a0 : Port) (a1 : Svc) (a2 : Nat) (a3 : Nat) (a4 : Nat) (a5 : State → U8 × State) (s
    : State) (h6 : ∀ y0, stored ((((a5 y0))).2) = stored ((y0))) : stored ((after (requestOp a0 a1 a2 a3 a4 a5 s) s)) = stored s := by
  unfold requestOp
  dsimp only
  (repeat' split) <;> simp [*, apply_ite stored]
@[simp] theorem execOp_stored (a0 : Port) (a1 : Nat) (a2 : Nat) (a3 : Nat) (a4 : State → U8 × State) (s : State) (h5 :
    ∀ y0, stored ((((a4 y0))).2) = stored ((y0))) : stored ((after (execOp a0 a1 a2 a3 a4 s) s)) = stored s := by
  unfold execOp
  (repeat' split) <;> simp [*]
@[simp] theorem writeOp_stored (a0 : Port) (a1 : Nat) (a2 : Nat) (a3 : Nat) (a4 : State → U8 × State) (s : State) (h5
    : ∀ y0, stored ((((a4 y0))).2) = stored ((y0))) : stored ((after (writeOp a0 a1 a2 a3 a4 s) s)) = stored s := by
  unfold writeOp
  (repeat' split) <;> simp [*]
@[simp] theorem blockOp_stored (a0 : Port) (a1 : Nat) (a2 : Nat) (a3 : Nat) (a4 : State → U8 × State) (s : State) (h5
    : ∀ y0, stored ((((a4 y0))).2) = stored ((y0))) : stored ((after (blockOp a0 a1 a2 a3 a4 s) s)) = stored s := by
  unfold blockOp
  (repeat' split) <;> simp [*]
@[simp] theorem readOp_stored (a0 : Port) (a1 : Svc) (a2 : Nat) (a3 : Nat) (a4 : State → U8 × List Byte × State) (s :
    State) (h5 : ∀ y0, stored (((((a4 y0)).2)).2) = stored ((y0))) : stored ((after (readOp a0 a1 a2 a3 a4 s) s)) = stored s := by
  unfold readOp
  dsimp only
  (repeat' split) <;> simp [*, apply_ite stored]
@[simp] theorem bankOp_stored (a0 : Fin 8) (a1 : Bank → U8 × Bank) (s : State) : stored ((bankOp a0 a1 s).2) =
    stored s := by
  simp [bankOp]
@[simp] theorem dgAllocRule_stored (a0 : Port) (s : State) : stored ((dgAllocRule a0 s).2) = stored s := by
  unfold dgAllocRule
  (repeat' split) <;> simp
@[simp] theorem execDgAlloc_stored (a0 : Port) (s : State) : stored ((after (execDgAlloc a0 s) s)) = stored s := by
  simp [execDgAlloc]
@[simp] theorem bankWriteRule_stored (a0 : Fin 8) (a1 : Nat) (a2 : List Byte) (s : State) : stored ((bankWriteRule a0
    a1 a2 s).2) = stored s := by
  simp [bankWriteRule]
@[simp] theorem dgDeclRule_stored (a0 : Fin 8) (a1 : U40) (s : State) : stored ((dgDeclRule a0 a1 s).2) = stored s := by
  simp [dgDeclRule]
@[simp] theorem execDgDeclLength_stored (a0 : Port) (a1 : Fin 8) (a2 : U40) (s : State) : stored ((after
    (execDgDeclLength a0 a1 a2 s) s)) = stored s := by
  simp [execDgDeclLength]
@[simp] theorem dgDataRule_stored (a0 : Fin 8) (a1 : Nat) (a2 : List Byte) (s : State) : stored ((dgDataRule a0 a1 a2
    s).2) = stored s := by
  simp [dgDataRule]
@[simp] theorem execDgData_stored (a0 : Port) (a1 : Fin 8) (a2 : U40) (a3 : List Byte) (s : State) : stored ((after
    (execDgData a0 a1 a2 a3 s) s)) = stored s := by
  simp [execDgData]
@[simp] theorem dgFinishRule_stored (a0 : Fin 8) (s : State) : stored ((dgFinishRule a0 s).2) = stored s := by
  simp [dgFinishRule]
@[simp] theorem execDgFinish_stored (a0 : Port) (a1 : Fin 8) (s : State) : stored ((after (execDgFinish a0 a1 s) s))
    = stored s := by
  simp [execDgFinish]
@[simp] theorem dgReleaseRule_stored (a0 : Fin 8) (s : State) : stored ((dgReleaseRule a0 s).2) = stored s := by
  simp [dgReleaseRule]
@[simp] theorem execDgRelease_stored (a0 : Port) (a1 : Fin 8) (s : State) : stored ((after (execDgRelease a0 a1 s)
    s)) = stored s := by
  simp [execDgRelease]
@[simp] theorem absorbKeyRule_stored (a0 : Port) (a1 : Fin 8) (a2 : U16) (s : State) : stored ((absorbKeyRule a0 a1
    a2 s).2) = stored s := by
  simp [absorbKeyRule]
@[simp] theorem execAbsorbKey_stored (a0 : Port) (a1 : Fin 8) (a2 : U16) (s : State) : stored ((after (execAbsorbKey
    a0 a1 a2 s) s)) = stored s := by
  simp [execAbsorbKey]
@[simp] theorem exportRule_stored (a0 : Fin 8) (s : State) : stored ((exportRule a0 s).2) = stored s := by
  simp [exportRule]
@[simp] theorem execExportState_stored (a0 : Port) (a1 : Fin 8) (s : State) : stored ((after (execExportState a0 a1
    s) s)) = stored s := by
  simp [execExportState]
@[simp] theorem importRule_stored (a0 : Fin 8) (s : State) : stored ((importRule a0 s).2) = stored s := by
  simp [importRule]
@[simp] theorem execImportState_stored (a0 : Port) (a1 : Fin 8) (s : State) : stored ((after (execImportState a0 a1
    s) s)) = stored s := by
  simp [execImportState]
@[simp] theorem modSource_stored (a0 : Nat) (a1 : Source → Source) (s : State) : stored (modSource a0 a1 s) = stored
    s := by
  simp [modSource]
@[simp] theorem journalDrbg_stored (a0 : Nat) (a1 : Nat) (s : State) : stored (journalDrbg a0 a1 s) = stored s := by
  simp [journalDrbg]
@[simp] theorem drbgReseed_stored (a0 : List Byte) (s : State) : stored (drbgReseed a0 s) = stored s := by
  simp [drbgReseed]
@[simp] theorem kickReseed_stored (s : State) : stored (kickReseed s) = stored s := by
  unfold kickReseed
  (repeat' split) <;> simp
@[simp] theorem drbgExpire_stored (s : State) : stored (drbgExpire s) = stored s := by
  simp [drbgExpire]
@[simp] theorem drbgThresholds_stored (s : State) : stored (drbgThresholds s) = stored s := by
  simp [drbgThresholds, apply_ite stored]
@[simp] theorem wireDeliver_stored (a0 : Nat) (s : State) : stored (wireDeliver a0 s) = stored s := by
  unfold wireDeliver
  (repeat' (first | dsimp only | split)) <;> (try simp only [drbgGenerate_some, storeRecord_ok, Prod.ext_iff] at *) <;> (try casesm* _ ∧ _) <;>
    subst_vars <;> simp [*, apply_ite stored, apply_ite Prod.snd]
@[simp] theorem serveWires_stored (s : State) : stored (serveWires s) = stored s := by
  unfold serveWires
  dsimp only
  split
  · refine (foldl_stored _ (fun t x => by simp) _ _).trans ((foldl_stored _ (fun t x => ?_) _ _).trans (by simp))
    split
    · rename_i h; simp only [drbgGenerate_some, Prod.ext_iff] at h; obtain ⟨_, _, rfl⟩ := h; simp
    · rfl
  · rfl
@[simp] theorem wireTimeout_stored (a0 : Nat) (s : State) : stored (wireTimeout a0 s) = stored s := by
  simp [wireTimeout]
@[simp] theorem wireGenerate_stored (a0 : Nat) (a1 : Nat) (s : State) : stored ((wireGenerate a0 a1 s).2) = stored s
    := by
  unfold wireGenerate
  (repeat' (first | dsimp only | split)) <;> (try simp only [drbgGenerate_some, storeRecord_ok, Prod.ext_iff] at *) <;> (try casesm* _ ∧ _) <;>
    subst_vars <;> simp [*, apply_ite stored, apply_ite Prod.snd]
@[simp] theorem drbgInstantiate_stored (a0 : List Byte) (s : State) : stored (drbgInstantiate a0 s) = stored s := by
  simp [drbgInstantiate]
@[simp] theorem kickInstantiate_stored (s : State) : stored (kickInstantiate s) = stored s := by
  unfold kickInstantiate
  (repeat' split) <;> simp
@[simp] theorem drbgFresh_stored (a0 : List Byte) (s : State) : stored (drbgFresh a0 s) = stored s := by
  unfold drbgFresh
  split <;> simp
@[simp] theorem drbgZero_stored (s : State) : stored (drbgZero s) = stored s := by
  simp [drbgZero]
@[simp] theorem eraseRandom_stored (s : State) : stored (eraseRandom s) = stored s := by
  simp [eraseRandom]
@[simp] theorem assignWindow_stored (a0 : List Byte) (s : State) : stored (assignWindow a0 s) = stored s := by
  unfold assignWindow
  dsimp only
  (repeat' split) <;> simp [*, apply_ite stored]
@[simp] theorem nextSource_stored (a0 : Nat) (s : State) : stored (nextSource a0 s) = stored s := by
  unfold nextSource
  split <;> simp
@[simp] theorem countSourceFail_stored (a0 : Nat) (a1 : Nat) (a2 : Bool) (s : State) : stored (countSourceFail a0 a1
    a2 s) = stored s := by
  simp [countSourceFail]
@[simp] theorem dropRaw_stored (s : State) : stored (dropRaw s) = stored s := by
  simp [dropRaw]
@[simp] theorem sourceAlarm_stored (a0 : Nat) (a1 : Bool) (s : State) : stored (sourceAlarm a0 a1 s) = stored s := by
  simp [sourceAlarm]
@[simp] theorem startupEnd_stored (a0 : Nat) (a1 : Window) (s : State) : stored (startupEnd a0 a1 s) = stored s := by
  unfold startupEnd
  (repeat' split) <;> simp [apply_ite stored]
@[simp] theorem entropyStep_stored (s : State) : stored (entropyStep s) = stored s := by
  simp [entropyStep, apply_ite stored]
@[simp] theorem execStartupTestComplete_stored (a0 : Fin 3) (a1 : Window) (s : State) : stored ((after
    (execStartupTestComplete a0 a1 s) s)) = stored s := by
  unfold execStartupTestComplete
  split <;> simp
@[simp] theorem execSourceAlarm_stored (a0 : Bool) (s : State) : stored ((after (execSourceAlarm a0 s) s)) = stored
    s := by
  unfold execSourceAlarm
  split <;> simp
@[simp] theorem execWindowPass_stored (a0 : Window) (s : State) : stored ((after (execWindowPass a0 s) s)) = stored
    s := by
  unfold execWindowPass
  dsimp only
  (repeat' split) <;> simp [*, apply_ite stored]
@[simp] theorem srcReinstateRule_stored (a0 : Nat) (a1 : Window) (s : State) : stored ((srcReinstateRule a0 a1 s).2)
    = stored s := by
  unfold srcReinstateRule
  (repeat' split) <;> simp
@[simp] theorem execSrcReinstate_stored (a0 : Port) (a1 : U8) (a2 : Window) (s : State) : stored ((after
    (execSrcReinstate a0 a1 a2 s) s)) = stored s := by
  simp [execSrcReinstate]
@[simp] theorem execAutoReseed_stored (s : State) : stored ((after (execAutoReseed s) s)) = stored s := by
  unfold execAutoReseed
  split <;> simp
@[simp] theorem execDrbgExpiry_stored (a0 : Bool) (s : State) : stored ((after (execDrbgExpiry a0 s) s)) = stored s
    := by
  unfold execDrbgExpiry
  dsimp only
  (repeat' split) <;> simp [*, apply_ite stored]
@[simp] theorem execDrbgParityError_stored (s : State) : stored ((after (execDrbgParityError s) s)) = stored s := by
  unfold execDrbgParityError
  split <;> simp
@[simp] theorem reseedRule_stored (a0 : Option Window) (s : State) : stored ((reseedRule a0 s).2) = stored s := by
  unfold reseedRule
  (repeat' split) <;> simp
@[simp] theorem execReseed_stored (a0 : Port) (a1 : Option Window) (s : State) : stored ((after (execReseed a0 a1 s)
    s)) = stored s := by
  simp [execReseed]
@[simp] theorem execPrivateWireRequest_stored (a0 : Fin 5) (a1 : Bool) (s : State) : stored ((after
    (execPrivateWireRequest a0 a1 s) s)) = stored s := by
  unfold execPrivateWireRequest
  dsimp only
  (repeat' split) <;> simp [*, apply_ite stored]
@[simp] theorem rawTake_stored (a0 : Port) (a1 : Nat) (s : State) : stored ((rawTake a0 a1 s).2) = stored s := by
  unfold rawTake
  (repeat' (first | dsimp only | split)) <;> (try simp only [drbgGenerate_some, storeRecord_ok, Prod.ext_iff] at *) <;> (try casesm* _ ∧ _) <;>
    subst_vars <;> simp [*, apply_ite stored, apply_ite Prod.snd]
@[simp] theorem rawWordRule_stored (a0 : Port) (s : State) : stored ((rawWordRule a0 s).2.2) = stored s := by
  unfold rawWordRule
  (repeat' (first | dsimp only | split)) <;> (try simp only [drbgGenerate_some, storeRecord_ok, Prod.ext_iff] at *) <;> (try casesm* _ ∧ _) <;>
    subst_vars <;> simp [*, apply_ite stored, apply_ite Prod.snd]
@[simp] theorem execRawWordRead_stored (a0 : Port) (s : State) : stored ((after (execRawWordRead a0 s) s)) = stored
    s := by
  simp [execRawWordRead]
@[simp] theorem rawBlockRule_stored (a0 : Port) (a1 : Nat) (s : State) : stored ((rawBlockRule a0 a1 s).2.2) =
    stored s := by
  unfold rawBlockRule
  (repeat' (first | dsimp only | split)) <;> (try simp only [drbgGenerate_some, storeRecord_ok, Prod.ext_iff] at *) <;> (try casesm* _ ∧ _) <;>
    subst_vars <;> simp [*, apply_ite stored, apply_ite Prod.snd]
@[simp] theorem execRawBlockRead_stored (a0 : Port) (a1 : U16) (s : State) : stored ((after (execRawBlockRead a0 a1
    s) s)) = stored s := by
  simp [execRawBlockRead]
@[simp] theorem rawSelectRule_stored (a0 : Port) (a1 : U8) (s : State) : stored ((rawSelectRule a0 a1 s).2) = stored
    s := by
  unfold rawSelectRule
  split <;> simp
@[simp] theorem execRawSelectWrite_stored (a0 : Port) (a1 : U8) (s : State) : stored ((after (execRawSelectWrite a0
    a1 s) s)) = stored s := by
  simp [execRawSelectWrite]
@[simp] theorem patternSwitch_stored (a0 : Bool) (s : State) : stored (patternSwitch a0 s) = stored s := by
  simp [patternSwitch]
@[simp] theorem patternOn_stored (s : State) : stored (patternOn s) = stored s := by
  simp [patternOn]
@[simp] theorem patternOff_stored (s : State) : stored (patternOff s) = stored s := by
  unfold patternOff
  (repeat' split) <;> simp
@[simp] theorem testPatternRule_stored (a0 : Bool) (s : State) : stored ((testPatternRule a0 s).2) = stored s := by
  unfold testPatternRule
  (repeat' split) <;> simp
@[simp] theorem execTestPatternWrite_stored (a0 : Port) (a1 : Bool) (s : State) : stored ((after
    (execTestPatternWrite a0 a1 s) s)) = stored s := by
  simp [execTestPatternWrite]
@[simp] theorem cxOp_stored (a0 : Fin 4) (a1 : CxJob → U8 × CxJob) (s : State) : stored ((cxOp a0 a1 s).2) = stored
    s := by
  simp [cxOp]
@[simp] theorem cxAllocRule_stored (a0 : Port) (s : State) : stored ((cxAllocRule a0 s).2) = stored s := by
  unfold cxAllocRule
  (repeat' split) <;> simp
@[simp] theorem execCxAlloc_stored (a0 : Port) (s : State) : stored ((after (execCxAlloc a0 s) s)) = stored s := by
  simp [execCxAlloc]
@[simp] theorem cxWriteRule_stored (a0 : Fin 4) (a1 : Nat) (a2 : List Byte) (s : State) : stored ((cxWriteRule a0 a1
    a2 s).2) = stored s := by
  simp [cxWriteRule]
@[simp] theorem maskRefresh_stored (s : State) : stored (maskRefresh s) = stored s := by
  unfold maskRefresh
  (repeat' (first | dsimp only | split)) <;> (try simp only [drbgGenerate_some, storeRecord_ok, Prod.ext_iff] at *) <;> (try casesm* _ ∧ _) <;>
    subst_vars <;> simp [*, apply_ite stored, apply_ite Prod.snd]
@[simp] theorem cxDeclRule_stored (a0 : Port) (a1 : Fin 4) (a2 : U40) (s : State) : stored ((cxDeclRule a0 a1 a2
    s).2) = stored s := by
  simp [cxDeclRule, apply_ite stored]
@[simp] theorem execCxDeclLength_stored (a0 : Port) (a1 : Fin 4) (a2 : U40) (s : State) : stored ((after
    (execCxDeclLength a0 a1 a2 s) s)) = stored s := by
  simp [execCxDeclLength]
@[simp] theorem cxDataRule_stored (a0 : Fin 4) (a1 : Nat) (a2 : List Byte) (s : State) : stored ((cxDataRule a0 a1 a2
    s).2) = stored s := by
  simp [cxDataRule]
@[simp] theorem execCxData_stored (a0 : Port) (a1 : Fin 4) (a2 : U40) (a3 : List Byte) (s : State) : stored ((after
    (execCxData a0 a1 a2 a3 s) s)) = stored s := by
  simp [execCxData]
@[simp] theorem cxReadRule_stored (a0 : Fin 4) (a1 : Nat) (a2 : Nat) (s : State) : stored ((cxReadRule a0 a1 a2
    s).2.2) = stored s := by
  simp [cxReadRule]
@[simp] theorem cxFinishRule_stored (a0 : Fin 4) (s : State) : stored ((cxFinishRule a0 s).2) = stored s := by
  simp [cxFinishRule]
@[simp] theorem execCxFinish_stored (a0 : Port) (a1 : Fin 4) (s : State) : stored ((after (execCxFinish a0 a1 s) s))
    = stored s := by
  simp [execCxFinish]
@[simp] theorem cxReleaseRule_stored (a0 : Fin 4) (s : State) : stored ((cxReleaseRule a0 s).2) = stored s := by
  simp [cxReleaseRule]
@[simp] theorem execCxRelease_stored (a0 : Port) (a1 : Fin 4) (s : State) : stored ((after (execCxRelease a0 a1 s)
    s)) = stored s := by
  simp [execCxRelease]
@[simp] theorem retireDigest_stored (a0 : Nat) (s : State) : stored (retireDigest a0 s) = stored s := by
  simp [retireDigest]
@[simp] theorem retireCipher_stored (a0 : Nat) (s : State) : stored (retireCipher a0 s) = stored s := by
  simp [retireCipher]
@[simp] theorem chargeDigest_stored (s : State) : stored (chargeDigest s) = stored s := by
  simp [chargeDigest, apply_ite stored]
@[simp] theorem chargeCipher_stored (s : State) : stored (chargeCipher s) = stored s := by
  simp [chargeCipher, apply_ite stored]
@[simp] theorem execEngineParityError_stored (a0 : Bool) (a1 : Fin 8) (s : State) : stored ((after
    (execEngineParityError a0 a1 s) s)) = stored s := by
  unfold execEngineParityError
  (repeat' split) <;> simp
@[simp] theorem flushRule_stored (s : State) : stored ((flushRule s).2) = stored s := by
  simp [flushRule]
@[simp] theorem execFlush_stored (a0 : Port) (s : State) : stored ((after (execFlush a0 s) s)) = stored s := by
  simp [execFlush]
@[simp] theorem hayloftReqRule_stored (a0 : U8) (s : State) : stored ((hayloftReqRule a0 s).2) = stored s := by
  unfold hayloftReqRule
  (repeat' split) <;> simp [apply_ite stored]
@[simp] theorem execHayloftReqStateWrite_stored (a0 : Port) (a1 : U8) (s : State) : stored ((after
    (execHayloftReqStateWrite a0 a1 s) s)) = stored s := by
  simp [execHayloftReqStateWrite]
@[simp] theorem channelReqRule_stored (a0 : Chan) (a1 : U8) (a2 : Bool) (s : State) : stored ((channelReqRule a0 a1
    a2 s).2) = stored s := by
  unfold channelReqRule
  (repeat' split) <;> simp
@[simp] theorem execChannelReqStateWrite_stored (a0 : Port) (a1 : Chan) (a2 : U8) (a3 : Bool) (s : State) : stored
    ((after (execChannelReqStateWrite a0 a1 a2 a3 s) s)) = stored s := by
  simp [execChannelReqStateWrite]
@[simp] theorem vaultFollow_stored (a0 : Bool) (s : State) : stored (vaultFollow a0 s) = stored s := by
  simp [vaultFollow, apply_ite stored]
@[simp] theorem execReqStateBoundary_stored (a0 : Fin 9) (s : State) : stored ((after (execReqStateBoundary a0 s) s))
    = stored s := by
  unfold execReqStateBoundary
  (repeat' split) <;> simp
@[simp] theorem deriveIds_stored (a0 : Chan) (s : State) : stored (deriveIds a0 s) = stored s := by
  simp [deriveIds]
@[simp] theorem resettleCtxs_stored (s : State) : stored (resettleCtxs s) = stored s := by
  unfold resettleCtxs
  refine (foldl_stored _ (fun t x => ?_) _ _).trans rfl
  dsimp only
  split
  · simp
  · split
    · rfl
    · split <;> simp
@[simp] theorem setCompileFault_stored (a0 : Chan) (a1 : CompileFail) (s : State) : stored (setCompileFault a0 a1 s)
    = stored s := by
  simp [setCompileFault]
@[simp] theorem recompile_stored (a0 : Chan) (s : State) : stored (recompile a0 s) = stored s := by
  unfold recompile
  dsimp only
  (repeat' split) <;> simp [*, apply_ite stored]
@[simp] theorem execPlatPgFall_stored (a0 : Chan) (s : State) : stored ((after (execPlatPgFall a0 s) s)) = stored s
    := by
  unfold execPlatPgFall
  (repeat' split) <;> simp [apply_ite stored]
@[simp] theorem execPlatPgRise_stored (a0 : Chan) (s : State) : stored ((after (execPlatPgRise a0 s) s)) = stored s := by
  unfold execPlatPgRise
  dsimp only [after]
  split <;> simp
@[simp] theorem dropPoisoned_stored (a0 : Chan) (s : State) : stored (dropPoisoned a0 s) = stored s := by
  simp [dropPoisoned]
@[simp] theorem clearHoldRule_stored (a0 : Chan) (s : State) : stored ((clearHoldRule a0 s).2) = stored s := by
  unfold clearHoldRule
  dsimp only
  (repeat' split) <;> simp [*, apply_ite stored]
@[simp] theorem execClearHold_stored (a0 : Port) (a1 : Chan) (s : State) : stored ((after (execClearHold a0 a1 s) s))
    = stored s := by
  simp [execClearHold]
@[simp] theorem endTakeover_stored (a0 : Chan) (s : State) : stored (endTakeover a0 s) = stored s := by
  simp [endTakeover, apply_ite stored]
@[simp] theorem reinstateRule_stored (a0 : Chan) (a1 : Option (Fin 5)) (s : State) : stored ((reinstateRule a0 a1
    s).2) = stored s := by
  unfold reinstateRule
  dsimp only
  (repeat' split) <;> simp [*, apply_ite stored]
@[simp] theorem execReinstate_stored (a0 : Port) (a1 : Chan) (a2 : Option (Fin 5)) (s : State) : stored ((after
    (execReinstate a0 a1 a2 s) s)) = stored s := by
  simp [execReinstate]
@[simp] theorem fallowReinstateRule_stored (a0 : Option (Fin 5)) (s : State) : stored ((fallowReinstateRule a0 s).2)
    = stored s := by
  unfold fallowReinstateRule
  (repeat' split) <;> simp
@[simp] theorem execFallowReinstate_stored (a0 : Port) (a1 : Option (Fin 5)) (s : State) : stored ((after
    (execFallowReinstate a0 a1 s) s)) = stored s := by
  simp [execFallowReinstate]
@[simp] theorem fallowReqRule_stored (a0 : U8) (s : State) : stored ((fallowReqRule a0 s).2) = stored s := by
  unfold fallowReqRule
  (repeat' split) <;> simp
@[simp] theorem execFallowReqStateWrite_stored (a0 : Port) (a1 : U8) (s : State) : stored ((after
    (execFallowReqStateWrite a0 a1 s) s)) = stored s := by
  simp [execFallowReqStateWrite]
@[simp] theorem fallowServes_stored (a0 : Chan) (a1 : Nat) (s : State) : stored (fallowServes a0 a1 s) = stored s := by
  simp [fallowServes]
@[simp] theorem execHotTakeoverSwitch_stored (a0 : Chan) (s : State) : stored ((after (execHotTakeoverSwitch a0 s)
    s)) = stored s := by
  unfold execHotTakeoverSwitch
  split <;> simp
@[simp] theorem execColdTakeoverConnect_stored (a0 : Chan) (a1 : Bool) (s : State) : stored ((after
    (execColdTakeoverConnect a0 a1 s) s)) = stored s := by
  unfold execColdTakeoverConnect
  dsimp only
  (repeat' split) <;> simp [*, apply_ite stored]
@[simp] theorem execFallowHandback_stored (a0 : Chan) (s : State) : stored ((after (execFallowHandback a0 s) s)) =
    stored s := by
  unfold execFallowHandback
  split <;> simp
@[simp] theorem execIndexWordReload_stored (a0 : Fin 8) (a1 : Nat) (s : State) : stored ((after (execIndexWordReload
    a0 a1 s) s)) = stored s := by
  unfold execIndexWordReload
  dsimp only
  (repeat' split) <;> simp [*, apply_ite stored]
@[simp] theorem execChannelRelease_stored (a0 : Chan) (a1 : BitVec 8) (s : State) : stored ((after
    (execChannelRelease a0 a1 s) s)) = stored s := by
  unfold execChannelRelease
  dsimp only
  (repeat' split) <;> simp [*, apply_ite stored]
@[simp] theorem execRelDelayExpiry_stored (a0 : Chan) (a1 : BitVec 8) (s : State) : stored ((after
    (execRelDelayExpiry a0 a1 s) s)) = stored s := by
  unfold execRelDelayExpiry
  split <;> simp
@[simp] theorem depExpire_stored (a0 : Chan) (s : State) : stored (depExpire a0 s) = stored s := by
  unfold depExpire
  split <;> simp
@[simp] theorem execDepTimeoutExpiry_stored (a0 : Chan) (s : State) : stored ((after (execDepTimeoutExpiry a0 s) s))
    = stored s := by
  simp [execDepTimeoutExpiry]
@[simp] theorem wdBegin_stored (a0 : Bool) (a1 : Nat) (a2 : Nat) (a3 : Nat) (s : State) : stored (wdBegin a0 a1 a2 a3
    s) = stored s := by
  simp [wdBegin]
@[simp] theorem wdWindow_stored (s : State) : stored (wdWindow s) = stored s := by
  simp [wdWindow]
@[simp] theorem wdRecovery_stored (s : State) : stored (wdRecovery s) = stored s := by
  simp [wdRecovery]
@[simp] theorem timerHalt_stored (a0 : Fin 8) (s : State) : stored (timerHalt a0 s) = stored s := by
  simp [timerHalt]
@[simp] theorem tuStartRule_stored (a0 : Fin 8) (s : State) : stored ((tuStartRule a0 s).2) = stored s := by
  unfold tuStartRule
  (repeat' split) <;> simp
@[simp] theorem tuStopRule_stored (a0 : Fin 8) (s : State) : stored ((tuStopRule a0 s).2) = stored s := by
  simp [tuStopRule]
@[simp] theorem tuWriteRule_stored (a0 : Fin 8) (a1 : Nat) (a2 : Nat) (s : State) : stored ((tuWriteRule a0 a1 a2
    s).2) = stored s := by
  unfold tuWriteRule
  (repeat' split) <;> simp
@[simp] theorem execTuStart_stored (a0 : Port) (a1 : Fin 8) (s : State) : stored ((after (execTuStart a0 a1 s) s)) =
    stored s := by
  simp [execTuStart]
@[simp] theorem execTuStop_stored (a0 : Port) (a1 : Fin 8) (s : State) : stored ((after (execTuStop a0 a1 s) s)) =
    stored s := by
  simp [execTuStop]
@[simp] theorem execTuExpiry_stored (a0 : Fin 8) (s : State) : stored ((after (execTuExpiry a0 s) s)) = stored s := by
  unfold execTuExpiry
  dsimp only
  (repeat' split) <;> simp [*, apply_ite stored]
@[simp] theorem stageRule_stored (a0 : Port) (a1 : Nat) (a2 : Nat) (a3 : List Byte) (s : State) : stored ((stageRule
    a0 a1 a2 a3 s).2) = stored s := by
  unfold stageRule
  dsimp only
  (repeat' split) <;> simp [*, apply_ite stored]
@[simp] theorem ruleDataRule_stored (a0 : Port) (a1 : RuleRow) (s : State) : stored ((ruleDataRule a0 a1 s).2) =
    stored s := by
  unfold ruleDataRule
  split <;> simp
@[simp] theorem ruleDomainRule_stored (a0 : Port) (a1 : Nat) (a2 : List Byte) (s : State) : stored ((ruleDomainRule
    a0 a1 a2 s).2) = stored s := by
  unfold ruleDomainRule
  dsimp only
  (repeat' split) <;> simp [*, apply_ite stored]
@[simp] theorem execRuleDataWrite_stored (a0 : Port) (a1 : RuleRow) (s : State) : stored ((after (execRuleDataWrite
    a0 a1 s) s)) = stored s := by
  simp [execRuleDataWrite]
@[simp] theorem execRuleDomainWrite_stored (a0 : Port) (a1 : U40) (a2 : List Byte) (s : State) : stored ((after
    (execRuleDomainWrite a0 a1 a2 s) s)) = stored s := by
  simp [execRuleDomainWrite]
@[simp] theorem withStaged_stored (a0 : Port) (s : State) : stored (withStaged a0 s) = stored s := by
  simp [withStaged]
@[simp] theorem setCompile_stored (a0 : Port) (a1 : Option CompileFail × Nat) (s : State) : stored (setCompile a0 a1
    s) = stored s := by
  simp [setCompile]
@[simp] theorem ruleSteps_stored (t : State) (a1 : Port) (s : State) : stored ((ruleSteps t a1 s).2) = stored s := by
  unfold ruleSteps
  dsimp only
  (repeat' split) <;> simp [*, apply_ite stored]
@[simp] theorem stopFreed_stored (old : State) (s : State) : stored (stopFreed old s) = stored s := by
  simp [stopFreed, apply_ite stored]
@[simp] theorem smbDue_stored (old : State) (s : State) : stored (smbDue old s) = stored s := by
  simp [smbDue, apply_ite stored]
@[simp] theorem smbApply_stored (s : State) : stored (smbApply s) = stored s := by
  simp [smbApply]
@[simp] theorem applyCommit_stored (a0 : Port) (t : State) (s : State) : stored (applyCommit a0 t s) = stored t := by
  simp [applyCommit, apply_ite stored]
@[simp] theorem commitRule_stored (a0 : Port) (s : State) : stored ((commitRule a0 s).2) = stored s := by
  unfold commitRule
  dsimp only
  (repeat' split) <;> simp [*, apply_ite stored]
@[simp] theorem discardRule_stored (a0 : Port) (s : State) : stored ((discardRule a0 s).2) = stored s := by
  simp [discardRule]
@[simp] theorem checkRule_stored (a0 : Port) (s : State) : stored ((checkRule a0 s).2) = stored s := by
  unfold checkRule
  split <;> simp
@[simp] theorem execCommit_stored (a0 : Port) (s : State) : stored ((after (execCommit a0 s) s)) = stored s := by
  simp [execCommit]
@[simp] theorem execDiscard_stored (a0 : Port) (s : State) : stored ((after (execDiscard a0 s) s)) = stored s := by
  simp [execDiscard]
@[simp] theorem execCheck_stored (a0 : Port) (s : State) : stored ((after (execCheck a0 s) s)) = stored s := by
  simp [execCheck]
@[simp] theorem setLast_stored (a0 : Nat) (a1 : U8) (a2 : Nat) (s : State) : stored (setLast a0 a1 a2 s) = stored s
    := by
  simp [setLast]
@[simp] theorem forgetTree_stored (a0 : Nat) (s : State) : stored (forgetTree a0 s) = stored s := by
  simp [forgetTree]
@[simp] theorem registerTree_stored (a0 : Nat) (a1 : TreeEntry) (s : State) : stored (registerTree a0 a1 s) = stored
    s := by
  simp [registerTree, apply_ite stored]
@[simp] theorem registerTargets_stored (a0 : List Byte) (s : State) : stored (registerTargets a0 s) = stored s := by
  unfold registerTargets
  simp only [unsaved_stored]
  refine (foldl_stored _ (fun t x => ?_) _ _).trans rfl
  split
  · split <;> simp
  · rfl
@[simp] theorem resumeUpdate_stored (s : State) : stored (resumeUpdate s) = stored s := by
  unfold resumeUpdate
  (repeat' split) <;> simp [apply_ite stored]
@[simp] theorem vaultUp_stored (a0 : Nat) (a1 : Bool) (a2 : Bool) (a3 : EmmcInfo) (s : State) : stored (vaultUp a0 a1
    a2 a3 s) = stored s := by
  simp [vaultUp, apply_ite stored]
@[simp] theorem retireVault_stored (a0 : Nat) (s : State) : stored (retireVault a0 s) = stored s := by
  unfold retireVault
  dsimp only
  refine (allChans_stored _ _ (fun c t => ?_)).trans ((foldl_stored _ (fun t x => ?_) _ _).trans (by simp))
  · have h : ∀ x : StageOp, stored (denyHost c (BitVec.toNat x.word) (modChan c (fun y => { y with stageOp := none }) t)) = stored t := by simp
    split <;> split <;> (try split) <;> simp only [h, toHold_stored, countEscalation_stored]
  · split
    · simp
    · rfl
@[simp] theorem chargeVault_stored (s : State) : stored (chargeVault s) = stored s := by
  simp [chargeVault, apply_ite stored]
@[simp] theorem vaultReinstateRule_stored (a0 : VaultTry) (a1 : EmmcInfo) (s : State) : stored ((vaultReinstateRule
    a0 a1 s).2) = stored s := by
  unfold vaultReinstateRule
  (repeat' split) <;> simp
@[simp] theorem execVaultReinstate_stored (a0 : Port) (a1 : VaultTry) (a2 : EmmcInfo) (s : State) : stored ((after
    (execVaultReinstate a0 a1 a2 s) s)) = stored s := by
  simp [execVaultReinstate]
@[simp] theorem scanDoneStep_stored (a0 : Nat) (s : State) : stored (scanDoneStep a0 s) = stored s := by
  unfold scanDoneStep
  dsimp only
  (repeat' split) <;> simp [*, apply_ite stored]
@[simp] theorem vaultCmdFail_stored (s : State) : stored (vaultCmdFail s) = stored s := by
  unfold vaultCmdFail
  split <;> simp
@[simp] theorem restoreRule_stored (s : State) : stored ((restoreRule s).2) = stored s := by
  unfold restoreRule
  dsimp only
  (repeat' split) <;> simp [*, apply_ite stored]
@[simp] theorem execRestore_stored (a0 : Port) (s : State) : stored ((after (execRestore a0 s) s)) = stored s := by
  simp [execRestore]
@[simp] theorem manifestRule_stored (a0 : Nat) (a1 : List Byte) (s : State) : stored ((manifestRule a0 a1 s).2) =
    stored s := by
  unfold manifestRule
  (repeat' split) <;> simp
@[simp] theorem execManifestWrite_stored (a0 : Port) (a1 : U40) (a2 : List Byte) (s : State) : stored ((after
    (execManifestWrite a0 a1 a2 s) s)) = stored s := by
  simp [execManifestWrite]
@[simp] theorem setPart_stored (a0 : Nat) (a1 : U8) (a2 : List Byte) (s : State) : stored (setPart a0 a1 a2 s) =
    stored s := by
  simp [setPart]
@[simp] theorem partArrived_stored (a0 : MPart) (a1 : List Byte) (s : State) : stored ((partArrived a0 a1 s).2) =
    stored s := by
  unfold partArrived
  (repeat' split) <;> simp [apply_ite stored]
@[simp] theorem partBase_stored (a0 : MPart) (s : State) : stored ((partBase a0 s).2) = stored s := by
  unfold partBase
  (repeat' (first | dsimp only | split)) <;> (try simp only [drbgGenerate_some, storeRecord_ok, Prod.ext_iff] at *) <;> (try casesm* _ ∧ _) <;>
    subst_vars <;> simp [*, apply_ite stored, apply_ite Prod.snd]
@[simp] theorem buildRuntime_stored (a0 : MPart) (a1 : List Byte) (s : State) : stored ((buildRuntime a0 a1 s).2) =
    stored s := by
  unfold buildRuntime
  dsimp only
  (repeat' split) <;> simp [*, apply_ite stored]
@[simp] theorem seedHold_stored (a0 : MPart) (s : State) : stored (seedHold a0 s) = stored s := by
  unfold seedHold
  split <;> simp
@[simp] theorem clearActivation_stored (a0 : List Nat) (s : State) : stored (clearActivation a0 s) = stored s := by
  simp [clearActivation]
@[simp] theorem holdAffected_stored (a0 : List Nat) (s : State) : stored (holdAffected a0 s) = stored s := by
  simp [holdAffected, apply_ite stored]
@[simp] theorem activateRule_stored (s : State) : stored ((activateRule s).2) = stored s := by
  unfold activateRule
  dsimp only
  (repeat' split) <;> simp [*, apply_ite stored]
@[simp] theorem execActivate_stored (a0 : Port) (s : State) : stored ((after (execActivate a0 s) s)) = stored s := by
  simp [execActivate]
@[simp] theorem dropTargeted_stored (a0 : Activation) (s : State) : stored (dropTargeted a0 s) = stored s := by
  simp [dropTargeted]
@[simp] theorem switchRuntime_stored (a0 : Nat) (s : State) : stored (switchRuntime a0 s) = stored s := by
  unfold switchRuntime
  split <;> rfl
@[simp] theorem answerConfirm_stored (a0 : Activation) (a1 : U8) (s : State) : stored (answerConfirm a0 a1 s) =
    stored s := by
  unfold answerConfirm
  split <;> simp
@[simp] theorem stileFailed_stored (a0 : StileJob) (s : State) : stored (stileFailed a0 s) = stored s := by
  unfold stileFailed
  dsimp only
  (repeat' split) <;> simp [*, apply_ite stored]
@[simp] theorem clearCovered_stored (a0 : Activation) (a1 : Nat) (s : State) : stored (clearCovered a0 a1 s) =
    stored s := by
  simp [clearCovered, apply_ite stored]
@[simp] theorem confirmStart_stored (a0 : Port) (s : State) : stored ((confirmStart a0 s).2) = stored s := by
  unfold confirmStart
  (repeat' split) <;> simp
@[simp] theorem execConfirm_stored (a0 : Port) (s : State) : stored ((after (execConfirm a0 s) s)) = stored s := by
  unfold execConfirm
  (repeat' (first | dsimp only | split)) <;> (try simp only [drbgGenerate_some, storeRecord_ok, Prod.ext_iff] at *) <;> (try casesm* _ ∧ _) <;>
    subst_vars <;> simp [*, apply_ite stored, apply_ite Prod.snd]
@[simp] theorem endTrial_stored (a0 : U8) (a1 : U8) (s : State) : stored (endTrial a0 a1 s) = stored s := by
  unfold endTrial
  split <;> simp
@[simp] theorem revertRule_stored (s : State) : stored ((revertRule s).2) = stored s := by
  unfold revertRule
  split <;> simp
@[simp] theorem execRevert_stored (a0 : Port) (s : State) : stored ((after (execRevert a0 s) s)) = stored s := by
  simp [execRevert]
@[simp] theorem trialExpire_stored (s : State) : stored (trialExpire s) = stored s := by
  unfold trialExpire
  split <;> simp
@[simp] theorem execTrialExpiry_stored (s : State) : stored ((after (execTrialExpiry s) s)) = stored s := by
  simp [execTrialExpiry]
@[simp] theorem ksLoad_stored (a0 : Nat) (a1 : Nat) (a2 : Nat) (a3 : Nat) (a4 : List Byte) (s : State) : stored
    (ksLoad a0 a1 a2 a3 a4 s) = stored s := by
  simp [ksLoad]
@[simp] theorem ksDrop_stored (a0 : Nat) (s : State) : stored (ksDrop a0 s) = stored s := by
  simp [ksDrop]
@[simp] theorem ksGenerateRule_stored (a0 : Port) (s : State) : stored ((ksGenerateRule a0 s).2) = stored s := by
  unfold ksGenerateRule
  (repeat' (first | dsimp only | split)) <;> (try simp only [drbgGenerate_some, storeRecord_ok, Prod.ext_iff] at *) <;> (try casesm* _ ∧ _) <;>
    subst_vars <;> simp [*, apply_ite stored, apply_ite Prod.snd]
@[simp] theorem execKsGenerate_stored (a0 : Port) (s : State) : stored ((after (execKsGenerate a0 s) s)) = stored s
    := by
  simp [execKsGenerate]
@[simp] theorem ksDeriveRule_stored (a0 : Port) (a1 : Nat) (s : State) : stored ((ksDeriveRule a0 a1 s).2) = stored
    s := by
  unfold ksDeriveRule
  dsimp only
  (repeat' split) <;> simp [*, apply_ite stored]
@[simp] theorem execKsDerive_stored (a0 : Port) (a1 : U8) (s : State) : stored ((after (execKsDerive a0 a1 s) s)) =
    stored s := by
  simp [execKsDerive]
@[simp] theorem ksWrapRule_stored (a0 : Port) (a1 : Nat) (s : State) : stored ((ksWrapRule a0 a1 s).2) = stored s := by
  unfold ksWrapRule
  dsimp only
  (repeat' split) <;> simp [*, apply_ite stored]
@[simp] theorem execKsWrap_stored (a0 : Port) (a1 : U8) (s : State) : stored ((after (execKsWrap a0 a1 s) s)) =
    stored s := by
  simp [execKsWrap]
@[simp] theorem ksUnwrapRule_stored (a0 : Port) (a1 : Nat) (s : State) : stored ((ksUnwrapRule a0 a1 s).2) = stored
    s := by
  unfold ksUnwrapRule
  dsimp only
  (repeat' split) <;> simp [*, apply_ite stored]
@[simp] theorem execKsUnwrap_stored (a0 : Port) (a1 : U8) (s : State) : stored ((after (execKsUnwrap a0 a1 s) s)) =
    stored s := by
  simp [execKsUnwrap]
@[simp] theorem ksImportRule_stored (a0 : Port) (s : State) : stored ((ksImportRule a0 s).2) = stored s := by
  simp [ksImportRule, apply_ite stored]
@[simp] theorem execKsImportPlain_stored (a0 : Port) (s : State) : stored ((after (execKsImportPlain a0 s) s)) =
    stored s := by
  simp [execKsImportPlain]
@[simp] theorem ksClearRule_stored (a0 : Port) (s : State) : stored ((ksClearRule a0 s).2) = stored s := by
  unfold ksClearRule
  dsimp only
  (repeat' split) <;> simp [*, apply_ite stored]
@[simp] theorem execKsClear_stored (a0 : Port) (s : State) : stored ((after (execKsClear a0 s) s)) = stored s := by
  simp [execKsClear]
@[simp] theorem certificate_stored (a0 : Nat) (a1 : List Byte) (a2 : List Byte) (s : State) : stored ((certificate a0
    a1 a2 s).2) = stored s := by
  simp [certificate]
@[simp] theorem buildAliasCert_stored (s : State) : stored (buildAliasCert s) = stored s := by
  simp [buildAliasCert]
@[simp] theorem deriveAlias_stored (s : State) : stored (deriveAlias s) = stored s := by
  simp [deriveAlias]
@[simp] theorem deriveKeys_stored (s : State) : stored (deriveKeys s) = stored s := by
  simp [deriveKeys, apply_ite stored]
@[simp] theorem keysLoaded_stored (a0 : List Byte) (s : State) : stored (keysLoaded a0 s) = stored s := by
  simp [keysLoaded]
@[simp] theorem keysLost_stored (s : State) : stored (keysLost s) = stored s := by
  simp [keysLost]
@[simp] theorem dssLoad_stored (s : State) : stored (dssLoad s) = stored s := by
  unfold dssLoad
  (repeat' split) <;> simp
@[simp] theorem wireFresh_stored (a0 : Nat) (a1 : Option Window) (s : State) : stored ((wireFresh a0 a1 s).2) =
    stored s := by
  unfold wireFresh
  (repeat' split) <;> simp
@[simp] theorem eraseKeys_stored (a0 : Bool) (s : State) : stored (eraseKeys a0 s) = stored s := by
  simp [eraseKeys, apply_ite stored]
@[simp] theorem modPk_stored (a0 : Port) (a1 : PkPort → PkPort) (s : State) : stored (modPk a0 a1 s) = stored s := by
  simp [modPk]
@[simp] theorem pkLimbsRule_stored (a0 : Port) (a1 : U8) (s : State) : stored ((pkLimbsRule a0 a1 s).2) = stored s
    := by
  unfold pkLimbsRule
  (repeat' split) <;> simp
@[simp] theorem execPkSlotLimbsWrite_stored (a0 : Port) (a1 : U8) (s : State) : stored ((after (execPkSlotLimbsWrite
    a0 a1 s) s)) = stored s := by
  simp [execPkSlotLimbsWrite]
@[simp] theorem pkWipeRule_stored (a0 : Port) (s : State) : stored ((pkWipeRule a0 s).2) = stored s := by
  unfold pkWipeRule
  split <;> simp
@[simp] theorem execPkWipe_stored (a0 : Port) (s : State) : stored ((after (execPkWipe a0 s) s)) = stored s := by
  simp [execPkWipe]
@[simp] theorem pkBufRule_stored (a0 : Port) (a1 : Nat) (a2 : List Byte) (s : State) : stored ((pkBufRule a0 a1 a2
    s).2) = stored s := by
  unfold pkBufRule
  (repeat' split) <;> simp
@[simp] theorem execPkBufWrite_stored (a0 : Port) (a1 : U40) (a2 : List Byte) (s : State) : stored ((after
    (execPkBufWrite a0 a1 a2 s) s)) = stored s := by
  simp [execPkBufWrite]
@[simp] theorem pkSubmitRule_stored (a0 : Port) (a1 : Nat) (a2 : PkWord) (s : State) : stored ((pkSubmitRule a0 a1 a2
    s).2) = stored s := by
  unfold pkSubmitRule
  dsimp only
  (repeat' split) <;> simp [*, apply_ite stored]
@[simp] theorem pkSubmit_stored (a0 : Port) (a1 : Nat) (a2 : PkWord) (s : State) : stored ((after (pkSubmit a0 a1 a2
    s) s)) = stored s := by
  simp [pkSubmit]
@[simp] theorem execAdd_stored (a0 : Port) (a1 : PkWord) (s : State) : stored ((after (execAdd a0 a1 s) s)) = stored
    s := by
  simp [execAdd]
@[simp] theorem execSub_stored (a0 : Port) (a1 : PkWord) (s : State) : stored ((after (execSub a0 a1 s) s)) = stored
    s := by
  simp [execSub]
@[simp] theorem execMul_stored (a0 : Port) (a1 : PkWord) (s : State) : stored ((after (execMul a0 a1 s) s)) = stored
    s := by
  simp [execMul]
@[simp] theorem execInv_stored (a0 : Port) (a1 : PkWord) (s : State) : stored ((after (execInv a0 a1 s) s)) = stored
    s := by
  simp [execInv]
@[simp] theorem execExp_stored (a0 : Port) (a1 : PkWord) (s : State) : stored ((after (execExp a0 a1 s) s)) = stored
    s := by
  simp [execExp]
@[simp] theorem execExpv_stored (a0 : Port) (a1 : PkWord) (s : State) : stored ((after (execExpv a0 a1 s) s)) =
    stored s := by
  simp [execExpv]
@[simp] theorem execReduce_stored (a0 : Port) (a1 : PkWord) (s : State) : stored ((after (execReduce a0 a1 s) s)) =
    stored s := by
  simp [execReduce]
@[simp] theorem execLoad_stored (a0 : Port) (a1 : PkWord) (s : State) : stored ((after (execLoad a0 a1 s) s)) =
    stored s := by
  simp [execLoad]
@[simp] theorem execStore_stored (a0 : Port) (a1 : PkWord) (s : State) : stored ((after (execStore a0 a1 s) s)) =
    stored s := by
  simp [execStore]
@[simp] theorem execCompare_stored (a0 : Port) (a1 : PkWord) (s : State) : stored ((after (execCompare a0 a1 s) s)) =
    stored s := by
  simp [execCompare]
@[simp] theorem execKeyload_stored (a0 : Port) (a1 : PkWord) (s : State) : stored ((after (execKeyload a0 a1 s) s)) =
    stored s := by
  simp [execKeyload]
@[simp] theorem execKeypub_stored (a0 : Port) (a1 : PkWord) (s : State) : stored ((after (execKeypub a0 a1 s) s)) =
    stored s := by
  simp [execKeypub]
@[simp] theorem execRand_stored (a0 : Port) (a1 : PkWord) (s : State) : stored ((after (execRand a0 a1 s) s)) =
    stored s := by
  simp [execRand]
@[simp] theorem execSeal_stored (a0 : Port) (a1 : PkWord) (s : State) : stored ((after (execSeal a0 a1 s) s)) =
    stored s := by
  simp [execSeal]
@[simp] theorem execVerify_stored (a0 : Port) (a1 : PkWord) (s : State) : stored ((after (execVerify a0 a1 s) s)) =
    stored s := by
  simp [execVerify]
@[simp] theorem execVerifyGate_stored (a0 : Port) (a1 : PkWord) (s : State) : stored ((after (execVerifyGate a0 a1 s)
    s)) = stored s := by
  simp [execVerifyGate]
@[simp] theorem execToKey_stored (a0 : Port) (a1 : PkWord) (s : State) : stored ((after (execToKey a0 a1 s) s)) =
    stored s := by
  simp [execToKey]
@[simp] theorem retirePke_stored (a0 : Nat) (s : State) : stored (retirePke a0 s) = stored s := by
  simp [retirePke]
@[simp] theorem chargePke_stored (s : State) : stored (chargePke s) = stored s := by
  simp [chargePke, apply_ite stored]
@[simp] theorem pkEnd_stored (a0 : PkEntry) (a1 : U8) (a2 : Nat) (s : State) : stored (pkEnd a0 a1 a2 s) = stored s
    := by
  simp [pkEnd, apply_ite stored]
@[simp] theorem execPkCommandDispatch_stored (s : State) : stored ((after (execPkCommandDispatch s) s)) = stored s
    := by
  unfold execPkCommandDispatch
  dsimp only
  (repeat' split) <;> simp [*, apply_ite stored]
@[simp] theorem pkRun_stored (a0 : PkEntry) (s : State) : stored ((pkRun a0 s).2.2) = stored s := by
  unfold pkRun
  dsimp only
  have hwire := wireGenerate_stored 3 (5 * (pkPort s a0.port).limbs.toNat + 8) s
  (repeat' split) <;> simp_all
@[simp] theorem execPkCommandComplete_stored (s : State) : stored ((after (execPkCommandComplete s) s)) = stored s
    := by
  unfold execPkCommandComplete
  split <;> simp
@[simp] theorem execPkeParityError_stored (s : State) : stored ((after (execPkeParityError s) s)) = stored s := by
  unfold execPkeParityError
  split <;> simp
@[simp] theorem pkeCoreReset_stored (s : State) : stored (pkeCoreReset s) = stored s := by
  simp [pkeCoreReset]
@[simp] theorem erasePke_stored (s : State) : stored (erasePke s) = stored s := by
  unfold erasePke
  split <;> simp
@[simp] theorem tamperErase_stored (a0 : Bool) (s : State) : stored (tamperErase a0 s) = stored s := by
  simp [tamperErase]
@[simp] theorem journalSession_stored (a0 : U32) (a1 : Nat) (s : State) : stored (journalSession a0 a1 s) = stored s
    := by
  simp [journalSession]
@[simp] theorem endSessions_stored (s : State) : stored (endSessions s) = stored s := by
  simp [endSessions]
@[simp] theorem recordAlarm_stored (a0 : Bool) (a1 : Bool) (a2 : Nat) (a3 : Nat) (s : State) : stored (recordAlarm a0
    a1 a2 a3 s) = stored s := by
  simp [recordAlarm, apply_ite stored]
@[simp] theorem eraseCell_stored (s : State) : stored (eraseCell s) = stored s := by
  simp [eraseCell]
@[simp] theorem eraseAll_stored (a0 : Bool) (s : State) : stored (eraseAll a0 s) = stored s := by
  simp [eraseAll]
@[simp] theorem tamperAll_stored (s : State) : stored (tamperAll s) = stored s := by
  simp [tamperAll]
@[simp] theorem heathHold_stored (s : State) : stored (heathHold s) = stored s := by
  unfold heathHold
  dsimp only
  split <;> simp
@[simp] theorem heathExecute_stored (a0 : List (Nat × Nat)) (s : State) : stored (heathExecute a0 s) = stored s := by
  simp [heathExecute, apply_ite stored]
@[simp] theorem gapCount_stored (a0 : Nat) (s : State) : stored (gapCount a0 s) = stored s := by
  simp [gapCount]
@[simp] theorem execHeathSampleTick_stored (a0 : HeathSample) (s : State) : stored ((after (execHeathSampleTick a0 s)
    s)) = stored s := by
  unfold execHeathSampleTick
  (repeat' split) <;> simp [apply_ite stored]
@[simp] theorem execMonitorWindowExpiry_stored (a0 : Fin 10) (s : State) : stored ((after (execMonitorWindowExpiry a0
    s) s)) = stored s := by
  unfold execMonitorWindowExpiry
  split <;> simp
@[simp] theorem execHeathOscMeasure_stored (a0 : U32) (s : State) : stored ((after (execHeathOscMeasure a0 s) s)) =
    stored s := by
  unfold execHeathOscMeasure
  split <;> simp
@[simp] theorem tamperClearRule_stored (s : State) : stored ((tamperClearRule s).2) = stored s := by
  unfold tamperClearRule
  split <;> simp
@[simp] theorem execTamperClear_stored (a0 : Port) (s : State) : stored ((after (execTamperClear a0 s) s)) = stored
    s := by
  simp [execTamperClear]
@[simp] theorem heathLockRule_stored (s : State) : stored ((heathLockRule s).2) = stored s := by
  simp [heathLockRule]
@[simp] theorem execHeathLock_stored (a0 : Port) (s : State) : stored ((after (execHeathLock a0 s) s)) = stored s := by
  simp [execHeathLock]
@[simp] theorem heathStep_stored (s : State) : stored (heathStep s) = stored s := by
  simp [heathStep, apply_ite stored]
@[simp] theorem heathFromNothing_stored (a0 : Bool) (s : State) : stored (heathFromNothing a0 s) = stored s := by
  simp [heathFromNothing]
@[simp] theorem execHeathPowerLoss_stored (s : State) : stored ((after (execHeathPowerLoss s) s)) = stored s := by
  unfold execHeathPowerLoss
  split <;> simp
@[simp] theorem execHeathPowerUp_stored (s : State) : stored ((after (execHeathPowerUp s) s)) = stored s := by
  unfold execHeathPowerUp
  split <;> simp
@[simp] theorem cuReplace_stored (s : State) : stored (cuReplace s) = stored s := by
  unfold cuReplace
  (repeat' split) <;> simp
@[simp] theorem coreDrop_stored (s : State) : stored (coreDrop s) = stored s := by
  simp [coreDrop, apply_ite stored]
@[simp] theorem journalReset_stored (s : State) : stored (journalReset s) = stored s := by
  simp [journalReset]
@[simp] theorem coreReset_stored (a0 : Nat) (s : State) : stored (coreReset a0 s) = stored s := by
  simp [coreReset, apply_ite stored]
@[simp] theorem wdEvidence_stored (a0 : Nat) (s : State) : stored (wdEvidence a0 s) = stored s := by
  simp [wdEvidence]
@[simp] theorem wdBite_stored (a0 : Nat) (s : State) : stored (wdBite a0 s) = stored s := by
  simp [wdBite, apply_ite stored]
@[simp] theorem execWdBite_stored (s : State) : stored ((after (execWdBite s) s)) = stored s := by
  unfold execWdBite
  split <;> simp
@[simp] theorem wdCheckinRule_stored (a0 : Nat) (s : State) : stored ((wdCheckinRule a0 s).2) = stored s := by
  unfold wdCheckinRule
  (repeat' split) <;> simp
@[simp] theorem execWdCheckin_stored (a0 : Port) (a1 : U8) (s : State) : stored ((after (execWdCheckin a0 a1 s) s)) =
    stored s := by
  simp [execWdCheckin]
@[simp] theorem wdServiceRule_stored (a0 : U16) (s : State) : stored ((wdServiceRule a0 s).2) = stored s := by
  unfold wdServiceRule
  dsimp only
  (repeat' split) <;> simp [*, apply_ite stored]
@[simp] theorem execWdService_stored (a0 : Port) (a1 : U16) (s : State) : stored ((after (execWdService a0 a1 s) s))
    = stored s := by
  simp [execWdService]
@[simp] theorem wdLockRule_stored (s : State) : stored ((wdLockRule s).2) = stored s := by
  unfold wdLockRule
  split <;> simp
@[simp] theorem execWdLock_stored (a0 : Port) (s : State) : stored ((after (execWdLock a0 s) s)) = stored s := by
  simp [execWdLock]
@[simp] theorem coreFault_stored (a0 : Nat) (a1 : Nat) (s : State) : stored (coreFault a0 a1 s) = stored s := by
  simp [coreFault, apply_ite stored]
@[simp] theorem execLockstepMismatch_stored (s : State) : stored ((after (execLockstepMismatch s) s)) = stored s := by
  unfold execLockstepMismatch
  split <;> simp
@[simp] theorem execSramDed_stored (s : State) : stored ((after (execSramDed s) s)) = stored s := by
  unfold execSramDed
  split <;> simp
@[simp] theorem cuAllocRule_stored (a0 : Port) (s : State) : stored ((cuAllocRule a0 s).2) = stored s := by
  unfold cuAllocRule
  dsimp only
  (repeat' split) <;> simp [*, apply_ite stored]
@[simp] theorem execCuAlloc_stored (a0 : Port) (s : State) : stored ((after (execCuAlloc a0 s) s)) = stored s := by
  simp [execCuAlloc]
@[simp] theorem cuWriteRule_stored (a0 : Fin 8) (a1 : Nat) (a2 : List Byte) (s : State) : stored ((cuWriteRule a0 a1
    a2 s).2) = stored s := by
  unfold cuWriteRule
  dsimp only
  (repeat' split) <;> simp [*, apply_ite stored]
@[simp] theorem cuStartRule_stored (a0 : Fin 8) (s : State) : stored ((cuStartRule a0 s).2) = stored s := by
  unfold cuStartRule
  dsimp only
  (repeat' split) <;> simp [*, apply_ite stored]
@[simp] theorem execCuStart_stored (a0 : Port) (a1 : Fin 8) (s : State) : stored ((after (execCuStart a0 a1 s) s)) =
    stored s := by
  simp [execCuStart]
@[simp] theorem cuFeedRule_stored (a0 : Fin 8) (a1 : List Byte) (s : State) : stored ((cuFeedRule a0 a1 s).2) =
    stored s := by
  unfold cuFeedRule
  split <;> simp
@[simp] theorem execCuFeed8_stored (a0 : Port) (a1 : Fin 8) (a2 : U8) (s : State) : stored ((after (execCuFeed8 a0 a1
    a2 s) s)) = stored s := by
  simp [execCuFeed8]
@[simp] theorem execCuFeed16_stored (a0 : Port) (a1 : Fin 8) (a2 : U16) (s : State) : stored ((after (execCuFeed16 a0
    a1 a2 s) s)) = stored s := by
  simp [execCuFeed16]
@[simp] theorem execCuFeed40_stored (a0 : Port) (a1 : Fin 8) (a2 : U40) (s : State) : stored ((after (execCuFeed40 a0
    a1 a2 s) s)) = stored s := by
  simp [execCuFeed40]
@[simp] theorem execCuFeedBlock_stored (a0 : Port) (a1 : Fin 8) (a2 : List Byte) (s : State) : stored ((after
    (execCuFeedBlock a0 a1 a2 s) s)) = stored s := by
  simp [execCuFeedBlock]
@[simp] theorem cuFinishRule_stored (a0 : Fin 8) (s : State) : stored ((cuFinishRule a0 s).2) = stored s := by
  unfold cuFinishRule
  split <;> simp
@[simp] theorem execCuFinish_stored (a0 : Port) (a1 : Fin 8) (s : State) : stored ((after (execCuFinish a0 a1 s) s))
    = stored s := by
  simp [execCuFinish]
@[simp] theorem cuReleaseRule_stored (a0 : Fin 8) (s : State) : stored ((cuReleaseRule a0 s).2) = stored s := by
  unfold cuReleaseRule
  split <;> simp
@[simp] theorem execCuRelease_stored (a0 : Port) (a1 : Fin 8) (s : State) : stored ((after (execCuRelease a0 a1 s)
    s)) = stored s := by
  simp [execCuRelease]
@[simp] theorem retireCu_stored (a0 : Fin 8) (a1 : Nat) (s : State) : stored (retireCu a0 a1 s) = stored s := by
  simp [retireCu, apply_ite stored]
@[simp] theorem execCuParityError_stored (a0 : Fin 8) (s : State) : stored ((after (execCuParityError a0 s) s)) =
    stored s := by
  unfold execCuParityError
  dsimp only
  (repeat' split) <;> simp [*, apply_ite stored]
@[simp] theorem stopRead_stored (a0 : Chan) (s : State) : stored (stopRead a0 s) = stored s := by
  unfold stopRead
  split <;> simp
@[simp] theorem execRefclkLoss_stored (s : State) : stored ((after (execRefclkLoss s) s)) = stored s := by
  unfold execRefclkLoss
  split <;> simp
@[simp] theorem execRefclkReturn_stored (a0 : Nat) (s : State) : stored ((after (execRefclkReturn a0 s) s)) = stored
    s := by
  unfold execRefclkReturn
  split <;> simp
@[simp] theorem failRead_stored (a0 : Chan) (s : State) : stored (failRead a0 s) = stored s := by
  unfold failRead
  split <;> simp
@[simp] theorem execPllLockLoss_stored (s : State) : stored ((after (execPllLockLoss s) s)) = stored s := by
  unfold execPllLockLoss
  (repeat' split) <;> simp [apply_ite stored]
@[simp] theorem execPllRelock_stored (s : State) : stored ((after (execPllRelock s) s)) = stored s := by
  unfold execPllRelock
  split <;> simp
@[simp] theorem execTbUsWrap_stored (s : State) : stored ((after (execTbUsWrap s) s)) = stored s := by
  unfold execTbUsWrap
  split <;> simp
@[simp] theorem execPaceRefresh_stored (a0 : U16) (s : State) : stored ((after (execPaceRefresh a0 s) s)) = stored s
    := by
  unfold execPaceRefresh
  dsimp only
  (repeat' split) <;> simp [*, apply_ite stored]
@[simp] theorem execSensorRefresh_stored (a0 : List Int) (a1 : List U16) (s : State) : stored ((after
    (execSensorRefresh a0 a1 s) s)) = stored s := by
  unfold execSensorRefresh
  split <;> simp
@[simp] theorem storedDouble_stored (a0 : Fin 8) (a1 : Nat) (s : State) : stored (storedDouble a0 a1 s) = stored s
    := by
  unfold storedDouble
  (repeat' split) <;> simp
@[simp] theorem execScrubRead_stored (a0 : Option CodeWord) (s : State) : stored ((after (execScrubRead a0 s) s)) =
    stored s := by
  unfold execScrubRead
  (repeat' split) <;> simp [apply_ite stored]
@[simp] theorem opExpire_stored (a0 : Chan) (a1 : Fin 14) (s : State) : stored (opExpire a0 a1 s) = stored s := by
  unfold opExpire
  (repeat' split) <;> simp
@[simp] theorem dropPartial_stored (a0 : MPort) (s : State) : stored (dropPartial a0 s) = stored s := by
  simp [dropPartial]
@[simp] theorem assemblyExpire_stored (a0 : MPort) (s : State) : stored (assemblyExpire a0 s) = stored s := by
  unfold assemblyExpire
  split <;> simp
@[simp] theorem execTimeoutExpiry_stored (a0 : Fin 14) (a1 : Chan) (s : State) : stored ((after (execTimeoutExpiry a0
    a1 s) s)) = stored s := by
  unfold execTimeoutExpiry
  (repeat' split) <;> simp
@[simp] theorem countLate_stored (a0 : Fin 14) (a1 : Chan) (s : State) : stored (countLate a0 a1 s) = stored s := by
  simp [countLate, apply_ite stored]
@[simp] theorem lcSet_stored (a0 : Nat) (s : State) : stored (lcSet a0 s) = stored s := by
  unfold lcSet
  dsimp only
  split <;> rfl
@[simp] theorem newChallenge_stored (a0 : Nat) (s : State) : stored ((newChallenge a0 s).2) = stored s := by
  unfold newChallenge
  (repeat' (first | dsimp only | split)) <;> (try simp only [drbgGenerate_some, storeRecord_ok, Prod.ext_iff] at *) <;> (try casesm* _ ∧ _) <;>
    subst_vars <;> simp [*, apply_ite stored, apply_ite Prod.snd]
@[simp] theorem challengeRule_stored (a0 : Port) (s : State) : stored ((challengeRule a0 s).2.2) = stored s := by
  unfold challengeRule
  (repeat' (first | dsimp only | split)) <;> (try simp only [drbgGenerate_some, storeRecord_ok, Prod.ext_iff] at *) <;> (try casesm* _ ∧ _) <;>
    subst_vars <;> simp [*, apply_ite stored, apply_ite Prod.snd]
@[simp] theorem execChallenge_stored (a0 : Port) (s : State) : stored ((after (execChallenge a0 s) s)) = stored s := by
  simp [execChallenge]
@[simp] theorem tokenCheck_stored (a0 : Nat) (a1 : Nat) (a2 : List Byte) (s : State) : stored ((tokenCheck a0 a1 a2
    s).2) = stored s := by
  simp [tokenCheck]
@[simp] theorem unlockRule_stored (a0 : Nat) (a1 : List Byte) (s : State) : stored ((unlockRule a0 a1 s).2) = stored
    s := by
  unfold unlockRule
  dsimp only
  (repeat' split) <;> simp [*, apply_ite stored]
@[simp] theorem execDbgUnlock_stored (a0 : Port) (s : State) : stored ((after (execDbgUnlock a0 s) s)) = stored s := by
  simp [execDbgUnlock]
@[simp] theorem tapSelect_stored (a0 : Nat) (a1 : List Byte) (s : State) : stored (tapSelect a0 a1 s) = stored s := by
  simp [tapSelect]
@[simp] theorem tapBypass_stored (a0 : Nat) (s : State) : stored (tapBypass a0 s) = stored s := by
  simp [tapBypass]
@[simp] theorem execTapReset_stored (s : State) : stored ((after (execTapReset s) s)) = stored s := by
  simp [execTapReset]
@[simp] theorem execExtest_stored (a0 : List Bool) (s : State) : stored ((after (execExtest a0 s) s)) = stored s := by
  unfold execExtest
  split <;> simp
@[simp] theorem execSamplePreload_stored (a0 : List Bool) (s : State) : stored ((after (execSamplePreload a0 s) s)) =
    stored s := by
  simp [execSamplePreload]
@[simp] theorem execIdcode_stored (s : State) : stored ((after (execIdcode s) s)) = stored s := by
  simp [execIdcode]
@[simp] theorem execTapChallenge_stored (s : State) : stored ((after (execTapChallenge s) s)) = stored s := by
  unfold execTapChallenge
  (repeat' (first | dsimp only | split)) <;> (try simp only [drbgGenerate_some, storeRecord_ok, Prod.ext_iff] at *) <;> (try casesm* _ ∧ _) <;>
    subst_vars <;> simp [*, apply_ite stored, apply_ite Prod.snd]
@[simp] theorem execTapToken_stored (a0 : List Byte) (s : State) : stored ((after (execTapToken a0 s) s)) = stored s
    := by
  unfold execTapToken
  dsimp only
  (repeat' split) <;> simp [*, apply_ite stored]
@[simp] theorem execDbgResult_stored (s : State) : stored ((after (execDbgResult s) s)) = stored s := by
  unfold execDbgResult
  split <;> simp
@[simp] theorem execCoreDebug_stored (s : State) : stored ((after (execCoreDebug s) s)) = stored s := by
  unfold execCoreDebug
  split <;> simp
@[simp] theorem execBypass_stored (s : State) : stored ((after (execBypass s) s)) = stored s := by
  simp [execBypass]
@[simp] theorem enterPhase_stored (a0 : Phase) (s : State) : stored (enterPhase a0 s) = stored s := by
  simp [enterPhase]
@[simp] theorem powerReset_stored (s : State) : stored (powerReset s) = stored s := by
  simp [powerReset, stored, channelKept, flashKept, Function.comp_def]
@[simp] theorem powerOn_stored (s : State) : stored (powerOn s) = stored s := by
  simp [powerOn]
@[simp] theorem deviceReset_stored (a0 : U8) (s : State) : stored (deviceReset a0 s) = stored s := by
  obtain ⟨j, u, h⟩ := deviceReset_shape a0 s
  rw [h]
  rfl
@[simp] theorem execPorNRise_stored (a0 : BitVec 4) (s : State) : stored ((after (execPorNRise a0 s) s)) = stored s
    := by
  unfold execPorNRise
  (repeat' split) <;> simp [apply_ite stored]
@[simp] theorem execPorNFall_stored (s : State) : stored ((after (execPorNFall s) s)) = stored s := by
  simp [execPorNFall, apply_ite stored]
@[simp] theorem execMainPowerLoss_stored (s : State) : stored ((after (execMainPowerLoss s) s)) = stored s := by
  unfold execMainPowerLoss
  split
  · dsimp only [after]
    split <;> simp
  · rfl
@[simp] theorem execMainPowerReturn_stored (s : State) : stored ((after (execMainPowerReturn s) s)) = stored s := by
  unfold execMainPowerReturn
  split
  · rfl
  · dsimp only [after]
    (repeat' split) <;> simp
@[simp] theorem deviceResetRule_stored (s : State) : stored ((deviceResetRule s).2) = stored s := by
  simp [deviceResetRule]
@[simp] theorem execDeviceReset_stored (a0 : Port) (s : State) : stored ((after (execDeviceReset a0 s) s)) = stored
    s := by
  simp [execDeviceReset]
@[simp] theorem execDeviceResetTakesEffect_stored (s : State) : stored ((after (execDeviceResetTakesEffect s) s)) =
    stored s := by
  unfold execDeviceResetTakesEffect
  (repeat' split) <;> simp
@[simp] theorem toRecovery_stored (a0 : Bool) (s : State) : stored (toRecovery a0 s) = stored s := by
  simp [toRecovery]
@[simp] theorem execClock_stored (a0 : Nat) (a1 : Bool) (s : State) : stored ((after (execClock a0 a1 s) s)) =
    stored s := by
  unfold execClock
  dsimp only
  (repeat' split) <;> simp [*, apply_ite stored]
@[simp] theorem execHeath_stored (s : State) : stored ((after (execHeath s) s)) = stored s := by
  unfold execHeath
  split <;> simp
@[simp] theorem katConsequence_stored (a0 : List KatFail) (a1 : Nat) (s : State) : stored (katConsequence a0 a1 s) =
    stored s := by
  unfold katConsequence
  (repeat' split) <;> simp
@[simp] theorem katTest_stored (a0 : List KatFail) (s : State) (a2 : Nat) : stored (katTest a0 s a2) = stored s := by
  simp [katTest, apply_ite stored]
@[simp] theorem execKat_stored (a0 : List KatFail) (s : State) : stored ((after (execKat a0 s) s)) = stored s := by
  unfold execKat
  (repeat' split) <;> simp
@[simp] theorem startupRun_stored (a0 : Nat) (a1 : List Window) (s : State) : stored ((startupRun a0 a1 s).2) =
    stored s := by
  induction a1 generalizing s with
  | nil => rfl
  | cons e es ih => unfold startupRun; (repeat' (first | dsimp only | split)) <;> simp_all [apply_ite stored]
@[simp] theorem startupPair_stored (a0 : List Window) (a1 : List Window) (s : State) : stored ((startupPair a0 a1
    s).2) = stored s := by
  induction a0 generalizing a1 s with
  | nil => unfold startupPair; simp
  | cons e es ih => cases a1 <;> unfold startupPair <;> (repeat' (first | dsimp only | split)) <;> simp_all
@[simp] theorem execEntropy_stored (a0 : List Window) (a1 : List Window) (a2 : List Window) (s : State) : stored
    ((after (execEntropy a0 a1 a2 s) s)) = stored s := by
  unfold execEntropy
  dsimp only
  (repeat' split) <;> simp [*, apply_ite stored]
@[simp] theorem bringUp_stored (a0 : Nat) (a1 : List VaultTry) (s : State) : stored ((bringUp a0 a1 s).2) = stored s
    := by
  induction a1 generalizing a0 s with
  | nil => unfold bringUp; rfl
  | cons e es ih => cases e <;> unfold bringUp <;> (repeat' (first | dsimp only | split)) <;> simp_all
@[simp] theorem execVault_stored (a0 : List VaultTry) (a1 : EmmcInfo) (s : State) : stored ((after (execVault a0 a1
    s) s)) = stored s := by
  unfold execVault
  (repeat' (first | dsimp only | split)) <;> (try simp only [drbgGenerate_some, storeRecord_ok, Prod.ext_iff] at *) <;> (try casesm* _ ∧ _) <;>
    subst_vars <;> simp [*, apply_ite stored, apply_ite Prod.snd]
@[simp] theorem acceptCopy_stored (a0 : Nat) (s : State) : stored (acceptCopy a0 s) = stored s := by
  simp [acceptCopy]
theorem selectCopy_ok_stored {first : Nat} {a b : Bool} {s t : State} (h : selectCopy first a b s = .ok t) : stored t
    = stored s := by
  unfold selectCopy at h
  dsimp only at h
  split at h
  · cases h; simp
  · split at h
    · cases h; simp
    · cases h
@[simp] theorem execRuntime_stored (a0 : Bool) (a1 : Bool) (s : State) : stored ((after (execRuntime a0 a1 s) s)) =
    stored s := by
  unfold execRuntime
  dsimp only
  split
  · rfl
  · split
    · simp
    · split
      · simp
      · have h := selectCopy_ok_stored ‹_›
        simp only [after_next]
        split <;> simp [h]
@[simp] theorem rtImageRule_stored (a0 : Nat) (a1 : List Byte) (s : State) : stored ((rtImageRule a0 a1 s).2) =
    stored s := by
  unfold rtImageRule
  (repeat' split) <;> simp
@[simp] theorem execRtImageWrite_stored (a0 : Port) (a1 : U40) (a2 : List Byte) (s : State) : stored ((after
    (execRtImageWrite a0 a1 a2 s) s)) = stored s := by
  simp [execRtImageWrite]
@[simp] theorem rtInstallRule_stored (s : State) : stored ((rtInstallRule s).2) = stored s := by
  unfold rtInstallRule
  dsimp only
  split
  · rfl
  · split <;> rfl
@[simp] theorem execRtInstall_stored (a0 : Port) (s : State) : stored ((after (execRtInstall a0 s) s)) = stored s := by
  simp [execRtInstall]
@[simp] theorem readCounters_stored (s : State) : stored (readCounters s) = stored s := by
  unfold readCounters
  split <;> simp
@[simp] theorem pickConfig_stored (a0 : List (Nat × Nat × Nat × Nat)) (s : State) : stored ((pickConfig a0 s).2) =
    stored s := by
  induction a0 generalizing s with
  | nil => rfl
  | cons e es ih => unfold pickConfig; (repeat' (first | dsimp only | split)) <;> simp_all [apply_ite stored]
@[simp] theorem loadConfig_stored (a0 : List Byte) (s : State) : stored (loadConfig a0 s) = stored s := by
  simp [loadConfig, apply_ite stored]
@[simp] theorem policyWrite_stored (a0 : WriteEnd) (s : State) : stored (policyWrite a0 s) = stored s := by
  unfold policyWrite
  split <;> simp
@[simp] theorem resumeActivation_stored (a0 : List Byte) (s : State) : stored (resumeActivation a0 s) = stored s := by
  simp [resumeActivation]
@[simp] theorem policyRuntime_stored (a0 : Nat) (s : State) : stored (policyRuntime a0 s) = stored s := by
  unfold policyRuntime
  split
  · rfl
  · split
    · simp
    · rfl
@[simp] theorem reapply_stored (s : State) (a1 : Nat × Nat) : stored (reapply s a1) = stored s := by
  unfold reapply
  (repeat' split) <;> simp
@[simp] theorem policyCompile_stored (s : State) : stored (policyCompile s) = stored s := by
  unfold policyCompile
  dsimp only
  split
  · simp [apply_ite stored]
  · split <;> simp [apply_ite stored]
@[simp] theorem bootRequests_stored (s : State) : stored (bootRequests s) = stored s := by
  simp [bootRequests]
@[simp] theorem savedNow_stored (s : State) : stored (savedNow s) = stored s := by
  simp [savedNow]
@[simp] theorem policyRun_stored (a0 : List Byte) (s : State) : stored (policyRun a0 s) = stored s := by
  unfold policyRun
  dsimp only
  rw [finishAll_stored, stepDone_stored, stepDone_stored, enterPhase_stored]
  exact (modVault_stored _ _ (fun _ => rfl) (fun _ => rfl)).trans (by simp [apply_ite stored])
@[simp] theorem execMeasurementRecompute_stored (a0 : U8) (s : State) : stored ((after (execMeasurementRecompute a0
    s) s)) = stored s := by
  unfold execMeasurementRecompute
  split <;> simp
@[simp] theorem readRule_stored (a0 : Port) (a1 : Nat) (a2 : Nat) (s : State) : stored ((readRule a0 a1 a2 s).2.2) =
    stored s := by
  unfold readRule
  (repeat' split) <;> simp
@[simp] theorem journalBlock_stored (a0 : Nat) (a1 : List (Nat × JEntry)) (a2 : Nat) (a3 : Nat) (s : State) : stored
    ((journalBlock a0 a1 a2 a3 s).2.2) = stored s := by
  induction a3 generalizing a2 s with
  | zero => rfl
  | succ n ih => simp [journalBlock, ih, apply_ite stored]
@[simp] theorem readBlockRule_stored (a0 : Port) (a1 : Nat) (a2 : Nat) (a3 : Nat) (a4 : Nat) (s : State) : stored
    ((readBlockRule a0 a1 a2 a3 a4 s).2.2) = stored s := by
  unfold readBlockRule
  dsimp only
  (repeat' split) <;> simp [*, apply_ite stored]
@[simp] theorem windowBeats_stored (a0 : Nat) (a1 : Nat) (s : State) : stored ((windowBeats a0 a1 s).2) = stored s
    := by
  induction a1 generalizing a0 s with
  | zero => rfl
  | succ n ih => simp [windowBeats, ih, apply_ite stored]
@[simp] theorem dataFabric_stored (s : State) : stored ((dataFabric s).2) = stored s := by
  simp [dataFabric, apply_ite stored]
@[simp] theorem faCount_stored (a0 : U8 × List Byte × State) : stored ((faCount a0).2) = stored (a0.2.2) := by
  unfold faCount
  split <;> simp
@[simp] theorem faReadRule_stored (a0 : Port) (a1 : Nat) (a2 : Nat) (s : State) : stored ((faReadRule a0 a1 a2 s).2)
    = stored s := by
  unfold faReadRule
  dsimp only
  (repeat' split) <;> simp [*, apply_ite stored]
@[simp] theorem blockRequest_stored (a0 : Port) (a1 : Nat) (a2 : Nat) (a3 : Nat) (s : State) : stored ((blockRequest
    a0 a1 a2 a3 s).2) = stored s := by
  simp [blockRequest]
@[simp] theorem execFaWindowRead_stored (a0 : Port) (a1 : U40) (a2 : U16) (s : State) : stored ((after
    (execFaWindowRead a0 a1 a2 s) s)) = stored s := by
  unfold execFaWindowRead
  (repeat' (first | dsimp only | split)) <;> (try simp only [drbgGenerate_some, storeRecord_ok, Prod.ext_iff] at *) <;> (try casesm* _ ∧ _) <;>
    subst_vars <;> simp [*, apply_ite stored, apply_ite Prod.snd]
@[simp] theorem dropField_stored (a0 : Port) (s : State) : stored (dropField a0 s) = stored s := by
  simp [dropField]
@[simp] theorem execFaReadExpiry_stored (a0 : Port) (s : State) : stored ((after (execFaReadExpiry a0 s) s)) =
    stored s := by
  unfold execFaReadExpiry
  split <;> simp
@[simp] theorem wipeMemory_stored (a0 : Nat) (s : State) : stored (wipeMemory a0 s) = stored s := by
  unfold wipeMemory
  split <;> simp
@[simp] theorem bistRule_stored (a0 : Fin 8) (a1 : Bool) (s : State) : stored ((bistRule a0 a1 s).2) = stored s := by
  unfold bistRule
  (repeat' split) <;> simp
@[simp] theorem execBist_stored (a0 : Port) (a1 : Fin 8) (a2 : Bool) (s : State) : stored ((after (execBist a0 a1 a2
    s) s)) = stored s := by
  simp [execBist]
@[simp] theorem injectRule_stored (a0 : Fin 8) (s : State) : stored ((injectRule a0 s).2) = stored s := by
  unfold injectRule
  dsimp only
  (repeat' split) <;> simp [*, apply_ite stored]
@[simp] theorem execInject_stored (a0 : Port) (a1 : Fin 8) (s : State) : stored ((after (execInject a0 a1 s) s)) =
    stored s := by
  simp [execInject]
@[simp] theorem unitTestRule_stored (a0 : Port) (a1 : U8) (a2 : Bool) (s : State) : stored ((unitTestRule a0 a1 a2
    s).2) = stored s := by
  unfold unitTestRule
  dsimp only
  (repeat' split) <;> simp [*, apply_ite stored]
@[simp] theorem execUnitTest_stored (a0 : Port) (a1 : U8) (a2 : Bool) (s : State) : stored ((after (execUnitTest a0
    a1 a2 s) s)) = stored s := by
  simp [execUnitTest]
@[simp] theorem retainedClearRule_stored (s : State) : stored ((retainedClearRule s).2) = stored s := by
  unfold retainedClearRule
  split <;> simp
@[simp] theorem execRetainedClear_stored (a0 : Port) (s : State) : stored ((after (execRetainedClear a0 s) s)) =
    stored s := by
  simp [execRetainedClear]
@[simp] theorem fenceRule_stored (a0 : Port) (s : State) : stored ((fenceRule a0 s).2.2) = stored s := by
  unfold fenceRule
  (repeat' split) <;> simp
@[simp] theorem execFence_stored (a0 : Port) (s : State) : stored ((after (execFence a0 s) s)) = stored s := by
  unfold execFence
  dsimp only
  (repeat' split) <;> simp [*, apply_ite stored]
@[simp] theorem drawBool_stored (s : State) : stored ((drawBool s).2) = stored s := by
  simp [drawBool]
@[simp] theorem drawWindow_stored (s : State) : stored ((drawWindow s).2) = stored s := by
  simp [drawWindow]
@[simp] theorem drawFailing_stored (s : State) : stored ((drawFailing s).2) = stored s := by
  simp [drawFailing]
@[simp] theorem drawTry_stored (s : State) : stored ((drawTry s).2) = stored s := by
  simp [drawTry]
@[simp] theorem portWrite_stored (a0 : Port) (a1 : PortRegs → PortRegs) (s : State) : stored ((portWrite a0 a1 s).2)
    = stored s := by
  simp [portWrite]
@[simp] theorem ranged_stored (a0 : Bool) (a1 : U8 × State) (s : State) (h1 : stored a1.2 = stored s) : stored
    ((ranged a0 a1 s).2) = stored s := by
  unfold ranged
  (repeat' split) <;> simp [*]
@[simp] theorem now_stored (a0 : U8 × State) : stored ((now a0).2) = stored (a0.2) := by
  simp [now]
@[simp] theorem execRead_stored (a0 : Port) (a1 : U16) (a2 : U8) (s : State) : stored ((after (execRead a0 a1 a2 s)
    s)) = stored s := by
  simp [execRead]
@[simp] theorem execReadBlock_stored (a0 : Port) (a1 : U16) (a2 : U8) (a3 : U40) (a4 : U16) (s : State) : stored
    ((after (execReadBlock a0 a1 a2 a3 a4 s) s)) = stored s := by
  unfold execReadBlock
  dsimp only
  (repeat' split) <;> simp [*, apply_ite stored]
@[simp] theorem pollEntry_stored (a0 : Port) (a1 : Nat) (a2 : Nat) (s : State) : stored ((pollEntry a0 a1 a2 s).2.2)
    = stored s := by
  unfold pollEntry
  dsimp only
  (repeat' split) <;> simp [*, apply_ite stored]
@[simp] theorem pollEntries_stored (a0 : Port) (a1 : List (U16 × U8)) (s : State) : stored ((pollEntries a0 a1
    s).2.2) = stored s := by
  induction a1 generalizing s with
  | nil => rfl
  | cons e es ih => simp [pollEntries, ih]
@[simp] theorem pollRule_stored (a0 : Port) (a1 : List (U16 × U8)) (s : State) : stored ((pollRule a0 a1 s).2.2) =
    stored s := by
  unfold pollRule
  (repeat' split) <;> simp
@[simp] theorem execPoll_stored (a0 : Port) (a1 : List (U16 × U8)) (s : State) : stored ((after (execPoll a0 a1 s)
    s)) = stored s := by
  unfold execPoll
  dsimp only
  (repeat' split) <;> simp [*, apply_ite stored]
@[simp] theorem modConn_stored (a0 : MPort) (a1 : SpdmConn → SpdmConn) (s : State) : stored (modConn a0 a1 s) =
    stored s := by
  simp [modConn]
@[simp] theorem spdmError_stored (a0 : Nat) (a1 : Nat) (s : State) : stored ((spdmError a0 a1 s).2) = stored s := by
  simp [spdmError]
@[simp] theorem spdmNonce_stored (s : State) : stored ((spdmNonce s).2) = stored s := by
  simp [spdmNonce]
@[simp] theorem spdmScalar_stored (s : State) : stored ((spdmScalar s).2) = stored s := by
  unfold spdmScalar
  (repeat' (first | dsimp only | split)) <;> (try simp only [drbgGenerate_some, storeRecord_ok, Prod.ext_iff] at *) <;> (try casesm* _ ∧ _) <;>
    subst_vars <;> simp [*, apply_ite stored, apply_ite Prod.snd]
@[simp] theorem spdmSign_stored (a0 : Nat) (a1 : List Byte) (s : State) : stored ((spdmSign a0 a1 s).2) = stored s
    := by
  induction a0 generalizing s with
  | zero => rfl
  | succ n ih =>
    unfold spdmSign
    have h := spdmScalar_stored s
    split
    · simp_all
    · split
      · split <;> simp_all
      · simp_all
@[simp] theorem spdmRelease_stored (a0 : String) (a1 : List Byte) (a2 : List Byte) (a3 : List Byte → State → List Byte
    × State) (s : State) (h4 : ∀ y0 y1, stored ((((a3 y0 y1))).2) = stored ((y1))) : stored ((spdmRelease a0 a1 a2 a3 s).2) = stored s := by
  unfold spdmRelease
  (repeat' (first | dsimp only | split)) <;> (try simp only [drbgGenerate_some, storeRecord_ok, Prod.ext_iff] at *) <;> (try casesm* _ ∧ _) <;>
    subst_vars <;> simp [*, apply_ite stored, apply_ite Prod.snd]
@[simp] theorem spdmVersion_stored (a0 : MPort) (a1 : SpdmReq) (s : State) : stored ((spdmVersion a0 a1 s).2) =
    stored s := by
  simp [spdmVersion]
@[simp] theorem spdmCapabilities_stored (a0 : MPort) (a1 : SpdmReq) (s : State) : stored ((spdmCapabilities a0 a1
    s).2) = stored s := by
  unfold spdmCapabilities
  (repeat' split) <;> simp
@[simp] theorem spdmAlgorithms_stored (a0 : MPort) (a1 : SpdmReq) (s : State) : stored ((spdmAlgorithms a0 a1 s).2) =
    stored s := by
  unfold spdmAlgorithms
  dsimp only
  (repeat' split) <;> simp [*, apply_ite stored]
@[simp] theorem spdmKeepM1_stored (a0 : MPort) (a1 : List Byte) (a2 : List Byte) (s : State) : stored (spdmKeepM1 a0
    a1 a2 s) = stored s := by
  simp [spdmKeepM1]
@[simp] theorem spdmDigests_stored (a0 : MPort) (a1 : SpdmReq) (s : State) : stored ((spdmDigests a0 a1 s).2) =
    stored s := by
  simp [spdmDigests]
@[simp] theorem spdmCertificate_stored (a0 : MPort) (a1 : SpdmReq) (s : State) : stored ((spdmCertificate a0 a1 s).2)
    = stored s := by
  unfold spdmCertificate
  dsimp only
  (repeat' split) <;> simp [*, apply_ite stored]
@[simp] theorem spdmSummary_stored (a0 : Nat) (s : State) : stored ((spdmSummary a0 s).2) = stored s := by
  unfold spdmSummary
  dsimp only
  (repeat' split) <;> simp [*, apply_ite stored]
@[simp] theorem spdmChallengeAuth_stored (a0 : MPort) (a1 : SpdmReq) (s : State) : stored ((spdmChallengeAuth a0 a1
    s).2) = stored s := by
  unfold spdmChallengeAuth
  (repeat' (first | dsimp only | split)) <;> (try simp only [drbgGenerate_some, storeRecord_ok, Prod.ext_iff] at *) <;> (try casesm* _ ∧ _) <;>
    subst_vars <;> simp [*, apply_ite stored, apply_ite Prod.snd]
@[simp] theorem spdmSetL1_stored (a0 : MPort) (a1 : Option U32) (a2 : List Byte) (s : State) : stored (spdmSetL1 a0
    a1 a2 s) = stored s := by
  unfold spdmSetL1
  split <;> simp
@[simp] theorem spdmMeasurements_stored (a0 : MPort) (a1 : Option U32) (a2 : SpdmReq) (s : State) : stored
    ((spdmMeasurements a0 a1 a2 s).2) = stored s := by
  unfold spdmMeasurements
  (repeat' (first | dsimp only | split)) <;> (try simp only [drbgGenerate_some, storeRecord_ok, Prod.ext_iff] at *) <;> (try casesm* _ ∧ _) <;>
    subst_vars <;> simp [*, apply_ite stored, apply_ite Prod.snd]
@[simp] theorem endSession_stored (a0 : U32) (a1 : Nat) (s : State) : stored (endSession a0 a1 s) = stored s := by
  simp [endSession]
theorem sessionRoom_some_stored {s t : State} (h : sessionRoom s = some t) : stored t = stored s := by
  unfold sessionRoom at h
  split at h
  · cases h; rfl
  · split at h
    · split at h
      · cases h; simp
      · cases h
    · cases h; rfl
@[simp] theorem spdmKeyExchange_stored (a0 : MPort) (a1 : SpdmReq) (s : State) : stored ((spdmKeyExchange a0 a1 s).2)
    = stored s := by
  unfold spdmKeyExchange
  dsimp only
  split
  · simp
  split
  · simp
  split
  · simp
  rename_i t ht
  rw [← sessionRoom_some_stored ht]
  have h1 := draw_stored 16 t
  generalize draw 16 t = q at *
  obtain ⟨q, u⟩ := q
  dsimp only at *
  rw [← h1]
  have h2 := spdmSummary_stored a1.param1.toNat u
  generalize spdmSummary a1.param1.toNat u = q2 at *
  obtain ⟨q2, u2⟩ := q2
  dsimp only at *
  rw [← h2]
  split
  · simp_all
  rename_i hh; cases hh
  have h3 := spdmNonce_stored u2
  generalize spdmNonce u2 = q3 at *
  obtain ⟨q3, u3⟩ := q3
  dsimp only at *
  rw [← h3]
  split
  · simp_all
  rename_i hh; cases hh
  have h4 := spdmScalar_stored u3
  generalize spdmScalar u3 = q4 at *
  obtain ⟨q4, u4⟩ := q4
  dsimp only at *
  rw [← h4]
  split
  · simp_all
  rename_i hh; cases hh
  split
  · simp
  split
  · simp
  · refine spdmRelease_stored _ _ _ _ _ (fun a b => ?_)
    simp
@[simp] theorem spdmFinish_stored (a0 : Option U32) (a1 : SpdmReq) (s : State) : stored ((spdmFinish a0 a1 s).2) =
    stored s := by
  unfold spdmFinish
  dsimp only
  (repeat' split) <;> simp [*, apply_ite stored]
@[simp] theorem spdmEnd_stored (a0 : Option U32) (a1 : SpdmReq) (s : State) : stored ((spdmEnd a0 a1 s).2) = stored
    s := by
  unfold spdmEnd
  (repeat' split) <;> simp
@[simp] theorem spdmServe_stored (a0 : MPort) (a1 : Option U32) (a2 : Nat) (a3 : SpdmReq) (s : State) : stored
    ((spdmServe a0 a1 a2 a3 s).2) = stored s := by
  unfold spdmServe
  (repeat' with_reducible apply ite_stored) <;> try split
  all_goals repeat' with_reducible apply ite_stored
  all_goals simp
@[simp] theorem spdmAfter_stored (a0 : Option U32) (a1 : Nat) (a2 : List Byte) (s : State) : stored (spdmAfter a0 a1
    a2 s) = stored s := by
  unfold spdmAfter
  (repeat' split) <;> simp
@[simp] theorem spdmHandle_stored (a0 : MPort) (a1 : Option U32) (a2 : Nat) (a3 : SpdmReq) (a4 : Nat) (a5 : Nat) (s :
    State) : stored (spdmHandle a0 a1 a2 a3 a4 a5 s) = stored s := by
  simp [spdmHandle]
@[simp] theorem spdmRefuse_stored (a0 : MPort) (a1 : Nat) (a2 : Nat) (s : State) : stored (spdmRefuse a0 a1 a2 s) =
    stored s := by
  simp [spdmRefuse]
@[simp] theorem spdmReceive_stored (a0 : Nat) (a1 : SpdmReq) (a2 : Nat) (a3 : Nat) (a4 : Option U32) (s : State) :
    stored (spdmReceive a0 a1 a2 a3 a4 s) = stored s := by
  unfold spdmReceive
  split <;> simp
@[simp] theorem spdmRow_stored (a0 : Nat) (a1 : State → Option U32) (a2 : SpdmReq) (s : State) : stored ((after
    (spdmRow a0 a1 a2 s) s)) = stored s := by
  unfold spdmRow
  split <;> simp
@[simp] theorem execGetVersion_stored (a0 : SpdmReq) (s : State) : stored ((after (execGetVersion a0 s) s)) = stored
    s := by
  simp [execGetVersion]
@[simp] theorem execGetCapabilities_stored (a0 : SpdmReq) (s : State) : stored ((after (execGetCapabilities a0 s) s))
    = stored s := by
  simp [execGetCapabilities]
@[simp] theorem execNegotiateAlgorithms_stored (a0 : SpdmReq) (s : State) : stored ((after (execNegotiateAlgorithms
    a0 s) s)) = stored s := by
  simp [execNegotiateAlgorithms]
@[simp] theorem execGetDigests_stored (a0 : SpdmReq) (s : State) : stored ((after (execGetDigests a0 s) s)) = stored
    s := by
  simp [execGetDigests]
@[simp] theorem execGetCertificate_stored (a0 : SpdmReq) (s : State) : stored ((after (execGetCertificate a0 s) s)) =
    stored s := by
  simp [execGetCertificate]
@[simp] theorem execSpdmChallenge_stored (a0 : SpdmReq) (s : State) : stored ((after (execSpdmChallenge a0 s) s)) =
    stored s := by
  simp [execSpdmChallenge]
@[simp] theorem execGetMeasurements_stored (a0 : SpdmReq) (s : State) : stored ((after (execGetMeasurements a0 s) s))
    = stored s := by
  simp [execGetMeasurements]
@[simp] theorem execKeyExchange_stored (a0 : SpdmReq) (s : State) : stored ((after (execKeyExchange a0 s) s)) =
    stored s := by
  simp [execKeyExchange]
@[simp] theorem execFinish_stored (a0 : SpdmReq) (s : State) : stored ((after (execFinish a0 s) s)) = stored s := by
  simp [execFinish]
@[simp] theorem execEndSession_stored (a0 : SpdmReq) (s : State) : stored ((after (execEndSession a0 s) s)) = stored
    s := by
  simp [execEndSession]
@[simp] theorem execSpdmUnsupportedRequest_stored (a0 : SpdmReq) (a1 : Byte) (s : State) : stored ((after
    (execSpdmUnsupportedRequest a0 a1 s) s)) = stored s := by
  unfold execSpdmUnsupportedRequest
  split <;> simp
@[simp] theorem nack_stored (a0 : MPort) (s : State) : stored (nack a0 s) = stored s := by
  simp [nack]
@[simp] theorem acks_stored (a0 : MPort) (a1 : List Byte) (s : State) : stored (acks a0 a1 s) = stored s := by
  simp [acks]
@[simp] theorem controlReply_stored (a0 : MPort) (a1 : Byte) (a2 : Byte) (a3 : List Byte) (a4 : Nat) (a5 : Nat) (s :
    State) : stored (controlReply a0 a1 a2 a3 a4 a5 s) = stored s := by
  simp [controlReply]
@[simp] theorem setEid_stored (a0 : MPort) (a1 : Byte) (a2 : U8) (s : State) : stored ((setEid a0 a1 a2 s).2) =
    stored s := by
  unfold setEid
  (repeat' split) <;> simp
@[simp] theorem versionSupport_stored (a0 : Byte) (s : State) : stored ((versionSupport a0 s).2) = stored s := by
  unfold versionSupport
  split <;> simp
@[simp] theorem controlServe_stored (a0 : MPort) (a1 : Byte) (a2 : List Byte) (s : State) : stored ((controlServe a0
    a1 a2 s).2) = stored s := by
  unfold controlServe
  (repeat' split) <;> simp
@[simp] theorem controlReceive_stored (a0 : MPort) (a1 : List Byte) (a2 : Nat) (a3 : Nat) (s : State) : stored
    (controlReceive a0 a1 a2 a3 s) = stored s := by
  simp [controlReceive, apply_ite stored]
@[simp] theorem controlRow_stored (a0 : MPort) (a1 : Byte) (a2 : List Byte) (s : State) : stored (controlRow a0 a1 a2
    s) = stored s := by
  unfold controlRow
  split <;> simp
@[simp] theorem execSetEndpointId_stored (a0 : MPort) (a1 : Byte) (a2 : U8) (s : State) : stored ((after
    (execSetEndpointId a0 a1 a2 s) s)) = stored s := by
  simp [execSetEndpointId]
@[simp] theorem execGetEndpointId_stored (a0 : MPort) (s : State) : stored ((after (execGetEndpointId a0 s) s)) =
    stored s := by
  simp [execGetEndpointId]
@[simp] theorem execGetMctpVersionSupport_stored (a0 : MPort) (a1 : Byte) (s : State) : stored ((after
    (execGetMctpVersionSupport a0 a1 s) s)) = stored s := by
  simp [execGetMctpVersionSupport]
@[simp] theorem execGetMessageTypeSupport_stored (a0 : MPort) (s : State) : stored ((after (execGetMessageTypeSupport
    a0 s) s)) = stored s := by
  simp [execGetMessageTypeSupport]
@[simp] theorem execGetVendorDefinedMessageSupport_stored (a0 : MPort) (a1 : Byte) (s : State) : stored ((after
    (execGetVendorDefinedMessageSupport a0 a1 s) s)) = stored s := by
  simp [execGetVendorDefinedMessageSupport]
@[simp] theorem execMctpUnsupportedCommand_stored (a0 : MPort) (a1 : Byte) (s : State) : stored ((after
    (execMctpUnsupportedCommand a0 a1 s) s)) = stored s := by
  unfold execMctpUnsupportedCommand
  split <;> simp
@[simp] theorem refuse_stored (a0 : MPort) (a1 : Option U32) (a2 : List Byte) (a3 : Nat) (a4 : Nat) (s : State) :
    stored (refuse a0 a1 a2 a3 a4 s) = stored s := by
  unfold refuse
  (repeat' (first | dsimp only | split)) <;> (try simp only [drbgGenerate_some, storeRecord_ok, Prod.ext_iff] at *) <;> (try casesm* _ ∧ _) <;>
    subst_vars <;> simp [*, apply_ite stored, apply_ite Prod.snd]
@[simp] theorem aliveOf_stored (a0 : List Byte) (s : State) : stored ((aliveOf a0 s).2) = stored s := by
  unfold aliveOf
  split <;> simp
@[simp] theorem idpAdmit_stored (a0 : MPort) (a1 : Option U32) (a2 : List Byte) (a3 : Nat) (a4 : Nat) (s : State) :
    stored ((idpAdmit a0 a1 a2 a3 a4 s).2) = stored s := by
  unfold idpAdmit
  dsimp only
  (repeat' split) <;> simp [*, apply_ite stored]
@[simp] theorem idpDone_stored (a0 : MPort) (a1 : LinkReq) (a2 : U8) (a3 : List Byte) (a4 : List Byte) (a5 : Bool) (s
    : State) : stored (idpDone a0 a1 a2 a3 a4 a5 s) = stored s := by
  simp [idpDone]
@[simp] theorem idpRead_stored (a0 : MPort) (a1 : LinkReq) (a2 : Nat) (a3 : Nat) (s : State) : stored (idpRead a0 a1
    a2 a3 s) = stored s := by
  simp [idpRead, apply_ite stored]
@[simp] theorem idpReadBlock_stored (a0 : MPort) (a1 : LinkReq) (a2 : Nat) (a3 : Nat) (a4 : Nat) (a5 : Nat) (s :
    State) : stored (idpReadBlock a0 a1 a2 a3 a4 a5 s) = stored s := by
  unfold idpReadBlock
  (repeat' (first | dsimp only | split)) <;> (try simp only [drbgGenerate_some, storeRecord_ok, Prod.ext_iff] at *) <;> (try casesm* _ ∧ _) <;>
    subst_vars <;> simp [*, apply_ite stored, apply_ite Prod.snd]
@[simp] theorem spdmMessage_stored (a0 : MPort) (a1 : Option U32) (a2 : List Byte) (a3 : Nat) (a4 : Nat) (s : State) :
    stored (spdmMessage a0 a1 a2 a3 a4 s) = stored s := by
  unfold spdmMessage
  split <;> simp
@[simp] theorem execMgmtAssemblyExpiry_stored (a0 : MPort) (s : State) : stored ((after (execMgmtAssemblyExpiry a0 s)
    s)) = stored s := by
  unfold execMgmtAssemblyExpiry
  split <;> simp
@[simp] theorem responseGone_stored (a0 : Response) (s : State) : stored (responseGone a0 s) = stored s := by
  unfold responseGone
  split <;> simp
@[simp] theorem directed_stored (a0 : MPort) (a1 : State → State) (s : State) (h2 : ∀ y0, stored (((a1 y0))) =
    stored ((y0))) : stored ((after (directed a0 a1 s) s)) = stored s := by
  unfold directed
  (repeat' split) <;> simp [*]
@[simp] theorem takeAddress_stored (a0 : MPort) (a1 : U8) (s : State) : stored (takeAddress a0 a1 s) = stored s := by
  simp [takeAddress]
@[simp] theorem execEntdaa_stored (a0 : MPort) (a1 : U8) (s : State) : stored ((after (execEntdaa a0 a1 s) s)) =
    stored s := by
  unfold execEntdaa
  split <;> simp
@[simp] theorem execSetdasa_stored (a0 : MPort) (a1 : U8) (a2 : U8) (s : State) : stored ((after (execSetdasa a0 a1
    a2 s) s)) = stored s := by
  unfold execSetdasa
  split <;> simp
@[simp] theorem execSetnewda_stored (a0 : MPort) (a1 : U8) (s : State) : stored ((after (execSetnewda a0 a1 s) s)) =
    stored s := by
  simp [execSetnewda]
@[simp] theorem execRstdaa_stored (a0 : MPort) (s : State) : stored ((after (execRstdaa a0 s) s)) = stored s := by
  unfold execRstdaa
  split <;> simp
@[simp] theorem execGetpid_stored (a0 : MPort) (s : State) : stored ((after (execGetpid a0 s) s)) = stored s := by
  simp [execGetpid]
@[simp] theorem execGetbcr_stored (a0 : MPort) (s : State) : stored ((after (execGetbcr a0 s) s)) = stored s := by
  simp [execGetbcr]
@[simp] theorem execGetdcr_stored (a0 : MPort) (s : State) : stored ((after (execGetdcr a0 s) s)) = stored s := by
  simp [execGetdcr]
@[simp] theorem execGetstatus_stored (a0 : MPort) (s : State) : stored ((after (execGetstatus a0 s) s)) = stored s := by
  simp [execGetstatus]
@[simp] theorem execGetmrl_stored (a0 : MPort) (s : State) : stored ((after (execGetmrl a0 s) s)) = stored s := by
  simp [execGetmrl]
@[simp] theorem execGetmwl_stored (a0 : MPort) (s : State) : stored ((after (execGetmwl a0 s) s)) = stored s := by
  simp [execGetmwl]
@[simp] theorem execSetmrl_stored (a0 : MPort) (a1 : U16) (s : State) : stored ((after (execSetmrl a0 a1 s) s)) =
    stored s := by
  unfold execSetmrl
  split <;> simp
@[simp] theorem execSetmwl_stored (a0 : MPort) (a1 : U16) (s : State) : stored ((after (execSetmwl a0 a1 s) s)) =
    stored s := by
  unfold execSetmwl
  split <;> simp
@[simp] theorem execEnec_stored (a0 : MPort) (s : State) : stored ((after (execEnec a0 s) s)) = stored s := by
  simp [execEnec]
@[simp] theorem execDisec_stored (a0 : MPort) (s : State) : stored ((after (execDisec a0 s) s)) = stored s := by
  simp [execDisec]
@[simp] theorem abortOp_stored (a0 : PhysOp) (a1 : Flash) (s : State) : stored ((abortOp a0 a1 s).2) = stored s := by
  unfold abortOp
  split <;> simp
@[simp] theorem resetFlash_stored (a0 : Chan) (a1 : Cs) (s : State) : stored (resetFlash a0 a1 s) = stored s := by
  unfold resetFlash
  dsimp only
  (repeat' split) <;> simp [*, apply_ite stored]
@[simp] theorem discoverCs_stored (a0 : Chan) (a1 : Cs) (a2 : Found) (s : State) : stored (discoverCs a0 a1 a2 s) =
    stored s := by
  unfold discoverCs
  (repeat' split) <;> simp
@[simp] theorem discoverChan_stored (a0 : Chan) (a1 : Found) (a2 : Found) (s : State) : stored (discoverChan a0 a1 a2
    s) = stored s := by
  simp [discoverChan, apply_ite stored]
@[simp] theorem execRediscovery_stored (a0 : Chan) (a1 : Found) (a2 : Found) (s : State) : stored ((after
    (execRediscovery a0 a1 a2 s) s)) = stored s := by
  unfold execRediscovery
  dsimp only
  (repeat' split) <;> simp [*, apply_ite stored]
@[simp] theorem writeRuns_stored (a0 : Chan) (a1 : Nat) (a2 : List Byte) (a3 : List RestoreRun) (s : State) : stored
    (writeRuns a0 a1 a2 a3 s) = stored s := by
  simp [writeRuns]
@[simp] theorem execLateArrival_stored (a0 : Fin 14) (a1 : Chan) (s : State) : stored ((after (execLateArrival a0 a1 s)
    s)) = stored s := by
  unfold execLateArrival
  dsimp only
  (repeat' split) <;> simp [*, apply_ite stored]
@[simp] theorem settleFlash_stored (a0 : Chan) (a1 : Cs) (s : State) : stored (settleFlash a0 a1 s) = stored s := by
  unfold settleFlash
  split <;> simp
end Sys2Proof.Proofs

end

section
/-! The rules that write the user area, the RPMB or the OTP keep their canonical form -/

set_option maxRecDepth 4000
namespace Sys2Proof.Proofs
open Sys2Proof Sys2Proof.Machine Sys2Proof.Laws

/-- The byte memories beside the flashes are in canonical form. -/
def Stored.wf (x : Stored) : Prop := Memory.wf 0 x.user = true ∧ Memory.wf 0 x.rpmb = true ∧ Memory.wf 0 x.otp = true

theorem modVault_storedWf {f : Vault → Vault} {s : State} (h : (stored s).wf)
    (hu : Memory.wf 0 s.vault.user = true → Memory.wf 0 (f s.vault).user = true)
    (hr : Memory.wf 0 s.vault.rpmb.cells = true → Memory.wf 0 (f s.vault).rpmb.cells = true) :
    (stored (modVault f s)).wf :=
  ⟨hu h.1, hr h.2.1, h.2.2⟩

@[simp] theorem rpmbWrite_storedWf {s : State} (unit : Nat) (bs : List Byte) (h : (stored s).wf) :
    (stored (rpmbWrite unit bs s)).wf :=
  ⟨h.1, rpmbWrite_wf unit bs s h.2.1, h.2.2⟩

@[simp] theorem userWrite_storedWf {s : State} (sector : Nat) (bs : List Byte) (h : (stored s).wf) :
    (stored (userWrite sector bs s)).wf :=
  ⟨userWrite_wf sector bs s h.1, h.2.1, h.2.2⟩

@[simp] theorem otpBurn_storedWf {s : State} (a : Nat) (bs : List Byte) (h : (stored s).wf) :
    (stored (otpBurn a bs s)).wf :=
  ⟨h.1, h.2.1, otpBurn_wf a bs s h.2.2⟩

@[simp] theorem requestOp_storedWf {p : Port} {v : Svc} {i sub n : Nat} {rule : State → U8 × State} {s : State}
    (hw : (stored s).wf) (hr : ∀ t, (stored t).wf → (stored (rule t).2).wf) :
    (stored (after (requestOp p v i sub n rule s) s)).wf := by
  rcases hreq : request p v i sub n s with ⟨c, u⟩
  have hu : (stored u).wf := by
    have hkeep := request_stored p v i sub n s
    rw [hreq] at hkeep
    rwa [← hkeep] at hw
  unfold requestOp
  rw [hreq]
  dsimp only
  split
  · exact hw
  · split
    · simpa using hu
    · simpa using hr u hu
@[simp] theorem execOp_storedWf {p : Port} {i sub n : Nat} {rule : State → U8 × State} {s : State}
    (hw : (stored s).wf) (hr : ∀ t, (stored t).wf → (stored (rule t).2).wf) :
    (stored (after (execOp p i sub n rule s) s)).wf := requestOp_storedWf hw hr
@[simp] theorem writeOp_storedWf {p : Port} {i sub n : Nat} {rule : State → U8 × State} {s : State}
    (hw : (stored s).wf) (hr : ∀ t, (stored t).wf → (stored (rule t).2).wf) :
    (stored (after (writeOp p i sub n rule s) s)).wf := requestOp_storedWf hw hr
@[simp] theorem blockOp_storedWf {p : Port} {i sub n : Nat} {rule : State → U8 × State} {s : State}
    (hw : (stored s).wf) (hr : ∀ t, (stored t).wf → (stored (rule t).2).wf) :
    (stored (after (blockOp p i sub n rule s) s)).wf := requestOp_storedWf hw hr

theorem storeRecord_storedWf {typ : Nat} {tf body : List Byte} {e : Bool} {s : State} {r : Nat × State}
    (h : storeRecord typ tf body e s = .ok r) (hw : (stored s).wf) : (stored r.2).wf := by
  obtain ⟨-, -, hput⟩ := storeRecord_ok.mp h
  rw [← hput]
  simp [putRecord, hw]

theorem foldl_storedWf {α : Type} {f : State → α → State} (hf : ∀ t x, (stored t).wf → (stored (f t x)).wf) (l : List α)
    {s : State} (hw : (stored s).wf) : (stored (l.foldl f s)).wf := by
  induction l generalizing s with
  | nil => exact hw
  | cons a l ih => exact ih (hf s a hw)
theorem allChans_storedWf {f : Chan → State → State} (hf : ∀ c t, (stored t).wf → (stored (f c t)).wf) {s : State}
    (hw : (stored s).wf) : (stored (allChans f s)).wf :=
  foldl_storedWf (fun t c ht => hf c t ht) _ hw
theorem ite_storedWf {α : Type} {c : Prop} [Decidable c] {x y : α × State} (hx : (stored x.2).wf) (hy : (stored y.2).wf) :
    (stored (if c then x else y).2).wf := by
  split
  · exact hx
  · exact hy
theorem foldl_clear_wf {d : Byte} {α : Type} (at_ : α → Nat) (n : Nat) (l : List α) {m : List (Nat × Byte)}
    (h : Memory.wf d m = true) : Memory.wf d (l.foldl (fun m x => Mem.clear m (at_ x) n) m) = true := by
  induction l generalizing m with
  | nil => exact h
  | cons x l ih => exact ih (clear_wf _ _ h)
@[simp] theorem burnFlag_storedWf (a0 : Nat) (s : State) (hw : (stored s).wf) :
    (stored (burnFlag a0 s)).wf := by simp [hw, burnFlag]
@[simp] theorem raiseRtCounter_storedWf (a0 : Nat) (s : State) (hw : (stored s).wf) :
    (stored (raiseRtCounter a0 s)).wf := foldl_storedWf (fun t i ht => by split <;> simp [ht]) _ hw
@[simp] theorem putRecord_storedWf (a0 : Nat) (a1 : List Byte) (a2 : List Byte) (a3 : Bool) (a4 : Nat) (s : State) (hw : (stored s).wf) :
    (stored (putRecord a0 a1 a2 a3 a4 s)).wf := by simp [hw, putRecord]
@[simp] theorem putCounters_storedWf (a0 : Nat) (a1 : List Nat) (s : State) (hw : (stored s).wf) :
    (stored (putCounters a0 a1 s)).wf := by simp [hw, putCounters]
@[simp] theorem rpmbAttach_storedWf (s : State) (hw : (stored s).wf) :
    (stored (rpmbAttach s)).wf := by
  unfold rpmbAttach
  (repeat' split) <;> simp [apply_ite stored, apply_ite Stored.wf, apply_ite Prod.snd, hw]
@[simp] theorem putScratch_storedWf (a0 : Chan) (a1 : EraseBlock) (a2 : List Nat) (a3 : List Byte) (s : State) (hw : (stored s).wf) :
    (stored (putScratch a0 a1 a2 a3 s)).wf := by
  unfold putScratch
  split <;> simp [hw]
@[simp] theorem clearScratch_storedWf (a0 : Chan) (s : State) (hw : (stored s).wf) :
    (stored (clearScratch a0 s)).wf := by
  unfold clearScratch
  split
  · exact hw
  · exact modVault_storedWf hw (clear_wf _ _) id
@[simp] theorem blockDone_storedWf (a0 : Chan) (s : State) (hw : (stored s).wf) :
    (stored (blockDone a0 s)).wf := by
  unfold blockDone
  (repeat' split) <;> simp [apply_ite stored, apply_ite Stored.wf, apply_ite Prod.snd, hw]
@[simp] theorem seqOpDone_storedWf (a0 : Chan) (a1 : PhysOp) (s : State) (hw : (stored s).wf) :
    (stored (seqOpDone a0 a1 s)).wf := by
  unfold seqOpDone
  (repeat' split) <;> simp [apply_ite stored, apply_ite Stored.wf, apply_ite Prod.snd, hw]
@[simp] theorem raiseCounters_storedWf (a0 : List (Nat × Nat)) (s : State) (hw : (stored s).wf) :
    (stored (raiseCounters a0 s)).wf := by
  unfold raiseCounters
  (repeat' split) <;> simp [apply_ite stored, apply_ite Stored.wf, apply_ite Prod.snd, hw]
@[simp] theorem raiseOtp_storedWf (a0 : List Byte) (s : State) (hw : (stored s).wf) :
    (stored (raiseOtp a0 s)).wf := by
  unfold raiseOtp
  simp [apply_ite stored, apply_ite Stored.wf, apply_ite Prod.snd, hw]
@[simp] theorem putProgress_storedWf (s : State) (hw : (stored s).wf) :
    (stored (putProgress s)).wf := by
  unfold putProgress
  (repeat' (first | dsimp only | split)) <;> (try simp only [drbgGenerate_some, storeRecord_ok, Prod.ext_iff] at *) <;> (try casesm* _ ∧ _) <;>
    subst_vars <;> simp [*, apply_ite stored, apply_ite Stored.wf, apply_ite Prod.snd, hw]
@[simp] theorem updateIdle_storedWf (s : State) (hw : (stored s).wf) :
    (stored (updateIdle s)).wf := by simp [hw, updateIdle]
@[simp] theorem vaultReqRule_storedWf (a0 : U8) (s : State) (hw : (stored s).wf) :
    (stored ((vaultReqRule a0 s).2)).wf := by
  unfold vaultReqRule
  simp [apply_ite stored, apply_ite Stored.wf, apply_ite Prod.snd, hw]
@[simp] theorem execVaultReqStateWrite_storedWf (a0 : Port) (a1 : U8) (s : State) (hw : (stored s).wf) :
    (stored ((after
    (execVaultReqStateWrite a0 a1 s) s))).wf := by
  unfold execVaultReqStateWrite
  exact requestOp_storedWf hw fun t ht => by simp [ht]
@[simp] theorem stageDone_storedWf (a0 : Chan) (s : State) (hw : (stored s).wf) :
    (stored (stageDone a0 s)).wf := by
  unfold stageDone
  (repeat' (first | dsimp only | split)) <;> (try simp only [drbgGenerate_some, storeRecord_ok, Prod.ext_iff] at *) <;> (try casesm* _ ∧ _) <;>
    subst_vars <;> simp [*, apply_ite stored, apply_ite Stored.wf, apply_ite Prod.snd, hw]
@[simp] theorem scratchDone_storedWf (a0 : Chan) (s : State) (hw : (stored s).wf) :
    (stored (scratchDone a0 s)).wf := by
  unfold scratchDone
  (repeat' split) <;> simp [apply_ite stored, apply_ite Stored.wf, apply_ite Prod.snd, hw]
@[simp] theorem vaultOpDone_storedWf (a0 : VaultOp) (s : State) (hw : (stored s).wf) :
    (stored (vaultOpDone a0 s)).wf := by
  unfold vaultOpDone
  split <;> simp [hw]
@[simp] theorem execVaultIoComplete_storedWf (a0 : EmmcEnd) (s : State) (hw : (stored s).wf) :
    (stored ((after (execVaultIoComplete a0 s) s))).wf := by
  unfold execVaultIoComplete
  split
  · exact hw
  · split
    · exact hw
    · split
      · dsimp only [after]
        have hdone := vaultOpDone_storedWf
        simp only [finishAll_stored, vaultFollow_stored, apply_ite stored, chargeVault_stored, ite_self]
        split
        · exact rpmbAttach_storedWf _ (vaultOpDone_storedWf _ _ (by simpa using hw))
        · exact vaultOpDone_storedWf _ _ (by simpa using hw)
      · simpa [apply_ite stored] using hw
@[simp] theorem saveConfig_storedWf (s : State) (hw : (stored s).wf) :
    (stored (saveConfig s)).wf := by
  unfold saveConfig
  (repeat' (first | dsimp only | split)) <;> (try simp only [drbgGenerate_some, storeRecord_ok, Prod.ext_iff] at *) <;> (try casesm* _ ∧ _) <;>
    subst_vars <;> simp [*, apply_ite stored, apply_ite Stored.wf, apply_ite Prod.snd, hw]
@[simp] theorem execConfigSetSave_storedWf (a0 : WriteEnd) (s : State) (hw : (stored s).wf) :
    (stored ((after (execConfigSetSave a0 s) s))).wf := by
  unfold execConfigSetSave
  split <;> simp [hw]
@[simp] theorem archive_storedWf (s : State) (hw : (stored s).wf) :
    (stored (archive s)).wf := by
  unfold archive
  (repeat' (first | dsimp only | split)) <;> (try simp only [drbgGenerate_some, storeRecord_ok, Prod.ext_iff] at *) <;> (try casesm* _ ∧ _) <;>
    subst_vars <;> simp [*, apply_ite stored, apply_ite Stored.wf, apply_ite Prod.snd, hw]
@[simp] theorem execArchiveWrite_storedWf (a0 : WriteEnd) (s : State) (hw : (stored s).wf) :
    (stored ((after (execArchiveWrite a0 s) s))).wf := by
  unfold execArchiveWrite
  split <;> simp [hw]
@[simp] theorem formatRule_storedWf (s : State) (hw : (stored s).wf) :
    (stored ((formatRule s).2)).wf := by
  unfold formatRule
  split
  · exact hw
  · split
    · exact hw
    · have htable := fun bs0 bs1 : List Byte =>
        userWrite_storedWf 1 bs1 (userWrite_storedWf 0 bs0 (rpmbAttach_storedWf s hw))
      have hempty : ∀ t, (stored t).wf → (stored (countStages (unsaved (modVault (fun v => { v with records := [] }) t)))).wf :=
        fun t ht => by simpa using ht
      dsimp only
      rw [finishAll_stored]
      split
      · exact putCounters_storedWf _ _ _ (hempty _ (htable _ _))
      · exact hempty _ (htable _ _)
@[simp] theorem execFormat_storedWf (a0 : Port) (s : State) (hw : (stored s).wf) :
    (stored ((after (execFormat a0 s) s))).wf := by
  unfold execFormat
  exact requestOp_storedWf hw fun t ht => by simp [ht]
@[simp] theorem stageClearRule_storedWf (s : State) (hw : (stored s).wf) :
    (stored ((stageClearRule s).2)).wf := by
  unfold stageClearRule
  split
  · exact hw
  · simpa using modVault_storedWf hw (foldl_clear_wf (fun r : Nat × Nat × Nat × Nat => r.1 * 512) 512 _) id
@[simp] theorem execStageClear_storedWf (a0 : Port) (s : State) (hw : (stored s).wf) :
    (stored ((after (execStageClear a0 s) s))).wf := by
  unfold execStageClear
  exact requestOp_storedWf hw fun t ht => by simp [ht]
@[simp] theorem admitRule_storedWf (s : State) (hw : (stored s).wf) :
    (stored ((admitRule s).2)).wf := by
  unfold admitRule
  (repeat' (first | dsimp only | split)) <;> (try simp only [drbgGenerate_some, storeRecord_ok, Prod.ext_iff] at *) <;> (try casesm* _ ∧ _) <;>
    subst_vars <;> simp [*, apply_ite stored, apply_ite Stored.wf, apply_ite Prod.snd, hw]
@[simp] theorem execAdmitManifest_storedWf (a0 : Port) (s : State) (hw : (stored s).wf) :
    (stored ((after (execAdmitManifest a0 s) s))).wf := by
  unfold execAdmitManifest
  exact requestOp_storedWf hw fun t ht => by simp [ht]
theorem storePart_storedWf {part f off : Nat} {data : List Byte} {s t : State} (h : storePart part f off data s = .ok t)
    (hw : (stored s).wf) : (stored t).wf := by
  induction f generalizing off data s with
  | zero => cases h; exact hw
  | succ n ih =>
    unfold storePart at h
    split at h
    · cases h; exact hw
    · split at h
      · cases h
      · rename_i hs
        exact ih h (storeRecord_storedWf hs hw)
@[simp] theorem partDataRule_storedWf (a0 : Nat) (a1 : Nat) (a2 : List Byte) (s : State) (hw : (stored s).wf) :
    (stored ((partDataRule a0 a1
    a2 s).2)).wf := by
  unfold partDataRule
  dsimp only
  repeat' split
  any_goals exact hw
  all_goals (have := storePart_storedWf ‹_› hw; simp [this])
@[simp] theorem execPartDataWrite_storedWf (a0 : Port) (a1 : U40) (a2 : List Byte) (s : State) (hw : (stored s).wf) :
    (stored ((after
    (execPartDataWrite a0 a1 a2 s) s))).wf := by
  unfold execPartDataWrite
  exact requestOp_storedWf hw fun t ht => by simp [ht]
@[simp] theorem applyRule_storedWf (s : State) (hw : (stored s).wf) :
    (stored ((applyRule s).2)).wf := by
  unfold applyRule
  simp [apply_ite stored, apply_ite Stored.wf, apply_ite Prod.snd, hw]
@[simp] theorem execApply_storedWf (a0 : Port) (s : State) (hw : (stored s).wf) :
    (stored ((after (execApply a0 s) s))).wf := by
  unfold execApply
  exact requestOp_storedWf hw fun t ht => by simp [ht]
@[simp] theorem partEnd_storedWf (a0 : MPart) (a1 : U8) (s : State) (hw : (stored s).wf) :
    (stored (partEnd a0 a1 s)).wf := by
  unfold partEnd
  simp [apply_ite stored, apply_ite Stored.wf, apply_ite Prod.snd, hw]
@[simp] theorem abortRule_storedWf (s : State) (hw : (stored s).wf) :
    (stored ((abortRule s).2)).wf := by
  unfold abortRule
  simp [apply_ite stored, apply_ite Stored.wf, apply_ite Prod.snd, hw]
@[simp] theorem execAbort_storedWf (a0 : Port) (s : State) (hw : (stored s).wf) :
    (stored ((after (execAbort a0 s) s))).wf := by
  unfold execAbort
  exact requestOp_storedWf hw fun t ht => by simp [ht]
@[simp] theorem stileCarried_storedWf (a0 : Activation) (a1 : List Byte) (s : State) (hw : (stored s).wf) :
    (stored (stileCarried a0 a1 s)).wf := by
  unfold stileCarried
  dsimp only
  split
  · rw [answerConfirm_stored]
    exact updateIdle_storedWf _ (raiseOtp_storedWf _ _ (raiseCounters_storedWf _ _ (by simpa using hw)))
  · simpa [apply_ite stored] using hw
@[simp] theorem stileWritten_storedWf (a0 : StileJob) (s : State) (hw : (stored s).wf) :
    (stored (stileWritten a0 s)).wf := by
  unfold stileWritten
  simp only [apply_ite stored, apply_ite Stored.wf, apply_ite Prod.snd, hw]
  (repeat' split) <;> simp [*]
@[simp] theorem execStileWriteComplete_storedWf (a0 : WriteEnd) (s : State) (hw : (stored s).wf) :
    (stored ((after (execStileWriteComplete a0
    s) s))).wf := by
  unfold execStileWriteComplete
  (repeat' split) <;> simp [apply_ite stored, apply_ite Stored.wf, apply_ite Prod.snd, hw]
@[simp] theorem activationDone_storedWf (a0 : Activation) (s : State) (hw : (stored s).wf) :
    (stored (activationDone a0 s)).wf := by
  have hclear : ∀ cs, (stored (clearActivation cs (cs.foldl (fun t c => clearCovered a0 c t) s))).wf :=
    fun cs => by simpa using hw
  unfold activationDone
  dsimp only
  split
  · exact updateIdle_storedWf _ (raiseOtp_storedWf _ _ (raiseCounters_storedWf _ _ (hclear _)))
  · split
    · rw [setLast_stored]
      exact updateIdle_storedWf _ (hclear _)
    · simpa using hw
@[simp] theorem execPreloadComplete_storedWf (a0 : Chan) (s : State) (hw : (stored s).wf) :
    (stored ((after (execPreloadComplete a0 s) s))).wf := by
  unfold execPreloadComplete
  (repeat' split) <;> simp [apply_ite stored, apply_ite Stored.wf, apply_ite Prod.snd, hw]
@[simp] theorem keysBack_storedWf (s : State) (hw : (stored s).wf) :
    (stored (keysBack s)).wf := by
  unfold keysBack
  simp [apply_ite stored, apply_ite Stored.wf, apply_ite Prod.snd, hw]
@[simp] theorem keyReloadRule_storedWf (s : State) (hw : (stored s).wf) :
    (stored ((keyReloadRule s).2)).wf := by
  unfold keyReloadRule
  (repeat' split) <;> simp [apply_ite stored, apply_ite Stored.wf, apply_ite Prod.snd, hw]
@[simp] theorem execKeyReload_storedWf (a0 : Port) (s : State) (hw : (stored s).wf) :
    (stored ((after (execKeyReload a0 s) s))).wf := by
  unfold execKeyReload
  exact requestOp_storedWf hw fun t ht => by simp [ht]
@[simp] theorem dssProvisionRule_storedWf (a0 : Nat) (a1 : Option Window) (a2 : Bool) (s : State) (hw : (stored s).wf) :
    (stored ((dssProvisionRule a0 a1 a2 s).2)).wf := by
  rcases hd : wireFresh 32 a1 s with ⟨dss, t⟩
  have ht : (stored t).wf := by
    have hkeep := wireFresh_stored 32 a1 s
    rw [hd] at hkeep
    rwa [← hkeep] at hw
  have hmode : ∀ (c : Prop) [Decidable c] (a b : Nat), (stored (if c then burnFlag b (burnFlag a t) else burnFlag a t)).wf :=
    fun c _ a b => by split <;> simp [ht]
  unfold dssProvisionRule
  dsimp only
  rw [hd]
  split
  · exact ite_storedWf hw hw
  · refine ite_storedWf hw (ite_storedWf hw (ite_storedWf hw ?_))
    cases dss with
    | none => exact ht
    | some dss =>
      refine ite_storedWf ?_ ?_ <;> dsimp only
      · refine keysBack_storedWf _ ?_
        rw [keysLoaded_stored]
        exact otpBurn_storedWf _ _ (hmode _ _ _)
      · refine burnFlag_storedWf _ _ (otpBurn_storedWf _ _ ?_)
        rw [drawBytes_stored]
        exact hmode _ _ _
@[simp] theorem execDssProvision_storedWf (a0 : Port) (a1 : U8) (a2 : Option Window) (a3 : Bool) (s : State) (hw : (stored s).wf) :
    (stored ((after (execDssProvision a0 a1 a2 a3 s) s))).wf := by
  unfold execDssProvision
  exact requestOp_storedWf hw fun t ht => by simp [ht]
@[simp] theorem cellArmRule_storedWf (s : State) (hw : (stored s).wf) :
    (stored ((cellArmRule s).2)).wf := by
  unfold cellArmRule
  (repeat' (first | dsimp only | split)) <;> (try simp only [drbgGenerate_some, storeRecord_ok, Prod.ext_iff] at *) <;> (try casesm* _ ∧ _) <;>
    subst_vars <;> simp [*, apply_ite stored, apply_ite Stored.wf, apply_ite Prod.snd, hw]
@[simp] theorem execCellArm_storedWf (a0 : Port) (s : State) (hw : (stored s).wf) :
    (stored ((after (execCellArm a0 s) s))).wf := by
  unfold execCellArm
  exact requestOp_storedWf hw fun t ht => by simp [ht]
@[simp] theorem enterReturned_storedWf (s : State) (hw : (stored s).wf) :
    (stored (enterReturned s)).wf := by
  unfold enterReturned
  simp only [apply_ite stored, apply_ite Stored.wf, apply_ite Prod.snd, hw]
  (repeat' split) <;> simp [*]
@[simp] theorem enterScrapped_storedWf (s : State) (hw : (stored s).wf) :
    (stored (enterScrapped s)).wf := by
  unfold enterScrapped
  simp [apply_ite stored, apply_ite Stored.wf, apply_ite Prod.snd, hw]
@[simp] theorem lcEffects_storedWf (a0 : Nat) (s : State) (hw : (stored s).wf) :
    (stored (lcEffects a0 s)).wf := by
  unfold lcEffects
  split <;> simp [hw]
@[simp] theorem lcBurn_storedWf (a0 : Nat) (s : State) (hw : (stored s).wf) :
    (stored (lcBurn a0 s)).wf := foldl_storedWf (fun t i ht => by simp [ht]) _ hw
@[simp] theorem lcDecide_storedWf (s : State) (hw : (stored s).wf) :
    (stored ((lcDecide s).2)).wf := by
  unfold lcDecide
  split <;> simp [hw]
@[simp] theorem lcTransit_storedWf (a0 : Nat) (s : State) (hw : (stored s).wf) :
    (stored ((lcTransit a0 s).2)).wf := by
  unfold lcTransit
  simp [apply_ite stored, apply_ite Stored.wf, apply_ite Prod.snd, hw]
@[simp] theorem lcAdvanceRule_storedWf (a0 : Port) (a1 : Nat) (s : State) (hw : (stored s).wf) :
    (stored ((lcAdvanceRule a0 a1 s).2)).wf := by
  unfold lcAdvanceRule
  simp only [apply_ite stored, apply_ite Stored.wf, apply_ite Prod.snd, hw]
  (repeat' split) <;> simp [*]
@[simp] theorem execLcAdvance_storedWf (a0 : Port) (a1 : U8) (s : State) (hw : (stored s).wf) :
    (stored ((after (execLcAdvance a0 a1 s) s))).wf := by
  unfold execLcAdvance
  exact requestOp_storedWf hw fun t ht => by simp [ht]
@[simp] theorem lcScrapRule_storedWf (a0 : Nat) (s : State) (hw : (stored s).wf) :
    (stored ((lcScrapRule a0 s).2)).wf := by
  unfold lcScrapRule
  simp [apply_ite stored, apply_ite Stored.wf, apply_ite Prod.snd, hw]
@[simp] theorem execLcScrap_storedWf (a0 : Port) (a1 : U40) (s : State) (hw : (stored s).wf) :
    (stored ((after (execLcScrap a0 a1 s) s))).wf := by
  unfold execLcScrap
  exact requestOp_storedWf hw fun t ht => by simp [ht]
@[simp] theorem keyBurnRule_storedWf (a0 : Port) (a1 : Bool) (s : State) (hw : (stored s).wf) :
    (stored ((keyBurnRule a0 a1 s).2)).wf := by
  unfold keyBurnRule
  simp [apply_ite stored, apply_ite Stored.wf, apply_ite Prod.snd, hw]
@[simp] theorem execKeyBurn_storedWf (a0 : Port) (a1 : Bool) (s : State) (hw : (stored s).wf) :
    (stored ((after (execKeyBurn a0 a1 s) s))).wf := by
  unfold execKeyBurn
  exact requestOp_storedWf hw fun t ht => by simp [ht]
@[simp] theorem keyRevokeRule_storedWf (a0 : Nat) (s : State) (hw : (stored s).wf) :
    (stored ((keyRevokeRule a0 s).2)).wf := by
  unfold keyRevokeRule
  simp [apply_ite stored, apply_ite Stored.wf, apply_ite Prod.snd, hw]
@[simp] theorem execKeyRevoke_storedWf (a0 : Port) (a1 : U8) (s : State) (hw : (stored s).wf) :
    (stored ((after (execKeyRevoke a0 a1 s) s))).wf := by
  unfold execKeyRevoke
  exact requestOp_storedWf hw fun t ht => by simp [ht]
@[simp] theorem fuseBurnRule_storedWf (s : State) (hw : (stored s).wf) :
    (stored ((fuseBurnRule s).2)).wf := by
  unfold fuseBurnRule
  simp [apply_ite stored, apply_ite Stored.wf, apply_ite Prod.snd, hw]
@[simp] theorem execFuseBurn_storedWf (a0 : Port) (s : State) (hw : (stored s).wf) :
    (stored ((after (execFuseBurn a0 s) s))).wf := by
  unfold execFuseBurn
  exact requestOp_storedWf hw fun t ht => by simp [ht]
@[simp] theorem execLifecycle_storedWf (s : State) (hw : (stored s).wf) :
    (stored ((after (execLifecycle s) s))).wf := by
  have hdecide : (stored (lcDecide s).2).wf := lcDecide_storedWf s hw
  unfold execLifecycle
  rcases hd : lcDecide s with ⟨v, t⟩
  rw [hd] at hdecide
  split
  · exact hw
  · dsimp only
    split
    · rw [after_next, finishAll_stored]
      exact hdecide
    · have hdone : stored (stepDone 3 (modLc (fun l => { l with vote := v }) t)) = stored t := by simp
      rw [← hdone] at hdecide
      rw [after_next, entropyStep_stored, kickInstantiate_stored]
      split
      · rw [notice_stored]
        exact hdecide
      · exact hdecide
@[simp] theorem policyRecord_storedWf (a0 : WriteEnd) (a1 : Nat) (a2 : Nat → List Byte) (s : State) (hw : (stored s).wf) :
    (stored (policyRecord a0 a1 a2 s)).wf := by
  unfold policyRecord
  simp [apply_ite stored, apply_ite Stored.wf, apply_ite Prod.snd, hw]
@[simp] theorem policyRevert_storedWf (a0 : WriteEnd) (s : State) (hw : (stored s).wf) :
    (stored (policyRevert a0 s)).wf := by simp [hw, policyRevert]
@[simp] theorem policyStile_storedWf (a0 : WriteEnd) (s : State) (hw : (stored s).wf) :
    (stored ((policyStile a0 s).2)).wf := by
  unfold policyStile
  (repeat' split) <;> simp [apply_ite stored, apply_ite Stored.wf, apply_ite Prod.snd, hw]
@[simp] theorem policyRead_storedWf (a0 : WriteEnd) (s : State) (hw : (stored s).wf) :
    (stored ((policyRead a0 s).2)).wf := by
  unfold policyRead
  (repeat' (first | dsimp only | split)) <;> simp [apply_ite stored, apply_ite Stored.wf, apply_ite Prod.snd, hw]
@[simp] theorem execPolicy_storedWf (a0 : WriteEnd) (s : State) (hw : (stored s).wf) :
    (stored ((after (execPolicy a0 s) s))).wf := by
  unfold execPolicy
  (repeat' (first | dsimp only | split)) <;> simp [apply_ite stored, apply_ite Stored.wf, apply_ite Prod.snd, hw]
@[simp] theorem rwRule_storedWf (a0 : Port) (a1 : Nat) (a2 : Nat) (a3 : List Byte) (s : State) (hw : (stored s).wf) :
    (stored ((rwRule a0 a1
    a2 a3 s).2)).wf := by
  unfold rwRule
  repeat' with_reducible apply ite_storedWf
  all_goals simp [hw]
@[simp] theorem writeRule_storedWf (a0 : Port) (a1 : Nat) (a2 : Nat) (a3 : List Byte) (s : State) (hw : (stored s).wf) :
    (stored ((writeRule
    a0 a1 a2 a3 s).2)).wf := by
  unfold writeRule
  (repeat' split) <;> simp [apply_ite stored, apply_ite Stored.wf, apply_ite Prod.snd, hw]
@[simp] theorem execRegisterWrite_storedWf (a0 : Port) (a1 : U16) (a2 : U8) (a3 : List Byte) (s : State) (hw : (stored s).wf) :
    (stored ((after (execRegisterWrite a0 a1 a2 a3 s) s))).wf := by
  unfold execRegisterWrite
  exact requestOp_storedWf hw fun t ht => by simp [ht]
@[simp] theorem writeBlockRule_storedWf (a0 : Port) (a1 : Nat) (a2 : Nat) (a3 : List Byte) (s : State) (hw : (stored s).wf) :
    (stored ((writeBlockRule a0 a1 a2 a3 s).2)).wf := by
  unfold writeBlockRule
  (repeat' split) <;> simp [apply_ite stored, apply_ite Stored.wf, apply_ite Prod.snd, hw]
@[simp] theorem execWriteBlock_storedWf (a0 : Port) (a1 : U16) (a2 : U8) (a3 : U40) (a4 : List Byte) (s : State) (hw : (stored s).wf) :
    (stored ((after (execWriteBlock a0 a1 a2 a3 a4 s) s))).wf := by
  unfold execWriteBlock
  split
  · split
    · simpa using hw
    · exact hw
  · exact requestOp_storedWf hw fun t ht => by simp [ht]
@[simp] theorem execLow_storedWf (a0 : Port) (a1 : Nat) (a2 : Nat) (a3 : Nat) (s : State) (hw : (stored s).wf) :
    (stored ((execLow a0 a1 a2
    a3 s).2)).wf := by
  unfold execLow
  simp only [apply_ite stored, apply_ite Stored.wf, apply_ite Prod.snd, hw]
  (repeat' split) <;> simp [*]
@[simp] theorem execHigh_storedWf (a0 : Port) (a1 : Nat) (a2 : Nat) (a3 : Nat) (s : State) (hw : (stored s).wf) :
    (stored ((execHigh a0 a1 a2
    a3 s).2)).wf := by
  unfold execHigh
  simp only [apply_ite stored, apply_ite Stored.wf, apply_ite Prod.snd, hw]
  (repeat' split) <;> simp [*]
@[simp] theorem execRule_storedWf (a0 : Port) (a1 : Nat) (a2 : Nat) (a3 : List Byte) (s : State) (hw : (stored s).wf) :
    (stored ((execRule a0
    a1 a2 a3 s).2)).wf := by
  unfold execRule
  (repeat' split) <;> simp [apply_ite stored, apply_ite Stored.wf, apply_ite Prod.snd, hw]
@[simp] theorem idpExec_storedWf (a0 : MPort) (a1 : LinkReq) (a2 : Nat) (a3 : Nat) (a4 : List Byte) (s : State) (hw : (stored s).wf) :
    (stored (idpExec a0 a1 a2 a3 a4 s)).wf := by
  unfold idpExec
  (repeat' (first | dsimp only | split)) <;> (try simp only [drbgGenerate_some, storeRecord_ok, Prod.ext_iff] at *) <;> (try casesm* _ ∧ _) <;>
    subst_vars <;> simp [*, apply_ite stored, apply_ite Stored.wf, apply_ite Prod.snd, hw]
@[simp] theorem idpService_storedWf (a0 : MPort) (a1 : LinkReq) (a2 : List Byte) (s : State) (hw : (stored s).wf) :
    (stored (idpService a0 a1
    a2 s)).wf := by
  unfold idpService
  simp only [apply_ite stored, apply_ite Stored.wf, apply_ite Prod.snd, hw]
  (repeat' split) <;> simp [*]
@[simp] theorem idpServe_storedWf (a0 : MPort) (a1 : Option U32) (a2 : List Byte) (a3 : Nat) (a4 : Nat) (s : State) (hw : (stored s).wf) :
    (stored (idpServe a0 a1 a2 a3 a4 s)).wf := by
  unfold idpServe
  simp only [apply_ite stored, apply_ite Stored.wf, apply_ite Prod.snd, hw]
  (repeat' split) <;> simp [*]
@[simp] theorem securedServe_storedWf (a0 : MPort) (a1 : U32) (a2 : List Byte) (a3 : Nat) (a4 : Nat) (s : State) (hw : (stored s).wf) :
    (stored (securedServe a0 a1 a2 a3 a4 s)).wf := by
  unfold securedServe
  (repeat' split) <;> simp [apply_ite stored, apply_ite Stored.wf, apply_ite Prod.snd, hw]
@[simp] theorem serveOne_storedWf (a0 : MPort) (a1 : RxMsg) (s : State) (hw : (stored s).wf) :
    (stored (serveOne a0 a1 s)).wf := by
  unfold serveOne
  simp [apply_ite stored, apply_ite Stored.wf, apply_ite Prod.snd, hw]
@[simp] theorem serveRx_storedWf (a0 : Nat) (a1 : MPort) (s : State) (hw : (stored s).wf) :
    (stored (serveRx a0 a1 s)).wf := by
  induction a0 generalizing s with
  | zero => exact hw
  | succ n ih =>
    unfold serveRx
    split
    · exact hw
    · split
      · exact hw
      · exact ih _ (by simp [hw])
@[simp] theorem serveLink_storedWf (a0 : MPort) (s : State) (hw : (stored s).wf) :
    (stored (serveLink a0 s)).wf := by simp [hw, serveLink]
@[simp] theorem serveLinks_storedWf (s : State) (hw : (stored s).wf) :
    (stored (serveLinks s)).wf := by simp [hw, serveLinks]
@[simp] theorem enqueue_storedWf (a0 : MPort) (a1 : RxMsg) (s : State) (hw : (stored s).wf) :
    (stored (enqueue a0 a1 s)).wf := by simp [hw, enqueue]
@[simp] theorem receiveMsg_storedWf (a0 : MPort) (a1 : RxMsg) (s : State) (hw : (stored s).wf) :
    (stored (receiveMsg a0 a1 s)).wf := by
  unfold receiveMsg
  simp [apply_ite stored, apply_ite Stored.wf, apply_ite Prod.snd, hw]
@[simp] theorem execSecuredMessage_storedWf (a0 : MPort) (a1 : U32) (a2 : List Byte) (s : State) (hw : (stored s).wf) :
    (stored ((after
    (execSecuredMessage a0 a1 a2 s) s))).wf := by
  unfold execSecuredMessage
  split <;> simp [hw]
@[simp] theorem assemble_storedWf (a0 : MPort) (a1 : Bool) (a2 : Bool) (a3 : Nat) (a4 : Nat) (a5 : Nat) (a6 : List Byte) (s : State) (hw : (stored s).wf) :
    (stored (assemble a0 a1 a2 a3 a4 a5 a6 s)).wf := by
  unfold assemble
  simp only [apply_ite stored, apply_ite Stored.wf, apply_ite Prod.snd, hw]
  (repeat' split) <;> simp [*]
@[simp] theorem execMctpPacket_storedWf (a0 : MPort) (a1 : Bool) (a2 : List Byte) (s : State) (hw : (stored s).wf) :
    (stored ((after
    (execMctpPacket a0 a1 a2 s) s))).wf := by
  unfold execMctpPacket
  simp only [apply_ite stored, apply_ite Stored.wf, apply_ite Prod.snd, hw]
  (repeat' split) <;> simp [*]
@[simp] theorem execResponseRead_storedWf (a0 : MPort) (s : State) (hw : (stored s).wf) :
    (stored ((after (execResponseRead a0 s) s))).wf := by
  unfold execResponseRead
  simp only [apply_ite stored, apply_ite Stored.wf, apply_ite Prod.snd, hw]
  (repeat' split) <;> simp [*]
@[simp] theorem execResponseExpiry_storedWf (a0 : MPort) (s : State) (hw : (stored s).wf) :
    (stored ((after (execResponseExpiry a0 s) s))).wf := by
  unfold execResponseExpiry
  (repeat' split) <;> simp [apply_ite stored, apply_ite Stored.wf, apply_ite Prod.snd, hw]
@[simp] theorem execPhysOpComplete_storedWf (a0 : Chan) (a1 : Cs) (a2 : PhysEnd) (s : State) (hw : (stored s).wf) :
    (stored ((after
    (execPhysOpComplete a0 a1 a2 s) s))).wf := by
  unfold execPhysOpComplete
  simp only [apply_ite stored, apply_ite Stored.wf, apply_ite Prod.snd, hw]
  (repeat' split) <;> simp [*]
@[simp] theorem buildLines_storedWf (a0 : MPart) (a1 : List Byte) (a2 : Option (Cs × PhysEnd)) (s : State) (hw : (stored s).wf) :
    (stored ((buildLines a0 a1 a2 s).2)).wf := by
  unfold buildLines
  dsimp only
  split
  · exact hw
  · split
    · exact hw
    · split
      · simp [hw]
      · split
        · simp [hw]
        · rename_i h
          have hr := storeRecord_storedWf h (by simpa using hw)
          split <;> simp_all
@[simp] theorem buildPart_storedWf (a0 : MPart) (a1 : Option (Cs × PhysEnd)) (s : State) (hw : (stored s).wf) :
    (stored ((buildPart a0 a1 s).2)).wf := by
  unfold buildPart
  have h := partBase_stored a0 s
  split
  · simp_all
  · split
    · simp_all
    · split <;> simp_all
@[simp] theorem execApplyPart_storedWf (a0 : Option (Cs × PhysEnd)) (s : State) (hw : (stored s).wf) :
    (stored ((after (execApplyPart a0 s) s))).wf := by
  unfold execApplyPart
  (repeat' split) <;> simp [apply_ite stored, apply_ite Stored.wf, apply_ite Prod.snd, hw]
@[simp] theorem applyScratch_storedWf (a0 : Chan) (a1 : Cs) (a2 : Bool) (s : State) (hw : (stored s).wf) :
    (stored (applyScratch a0 a1 a2 s)).wf := by
  unfold applyScratch
  split
  · exact hw
  · split
    · exact hw
    · split <;> simp [hw]
@[simp] theorem bootDiscover_storedWf (a0 : List Found) (a1 : List Chan) (a2 : Chan) (s : State) (hw : (stored s).wf) :
    (stored (bootDiscover
    a0 a1 a2 s)).wf := by simp [hw, bootDiscover]
@[simp] theorem restartSeq_storedWf (a0 : Chan) (s : State) (hw : (stored s).wf) :
    (stored (restartSeq a0 s)).wf := by
  unfold restartSeq
  (repeat' split) <;> simp [apply_ite stored, apply_ite Stored.wf, apply_ite Prod.snd, hw]
@[simp] theorem restartRuntime_storedWf (s : State) (hw : (stored s).wf) :
    (stored (restartRuntime s)).wf := by
  unfold restartRuntime
  simpa using allChans_storedWf (fun c t ht => restartSeq_storedWf c t ht) (by simpa using hw)
end Sys2Proof.Proofs

end

section
/-! The flashes' byte memories stay in canonical form -/

namespace Sys2Proof.Proofs
set_option maxRecDepth 4000
open Sys2Proof Sys2Proof.Machine Sys2Proof.Laws

theorem cs_cases : ∀ m : Cs, m = 0 ∨ m = 1 := by decide

theorem chanAt_modChan_ne {c d : Chan} (h : d ≠ c) (f : Channel → Channel) (s : State) :
    chanAt (modChan c f s) d = chanAt s d := by
  have hv : c.val ≠ d.val := fun e => h (Fin.ext e.symm)
  simp [chanAt, modChan, Vector.getElem_set_ne, hv]

/-- The flash of a chip select after a change of one flash. -/
theorem flashOf_modFlash (c d : Chan) (m n : Cs) (f : Flash → Flash) (s : State) :
    flashOf (chanAt (modFlash c m f s) d) n =
      if d = c ∧ n = m then f (flashOf (chanAt s c) m) else flashOf (chanAt s d) n := by
  unfold modFlash
  by_cases hd : d = c
  · subst hd
    rw [chanAt_modChan]
    rcases cs_cases m with rfl | rfl <;> rcases cs_cases n with rfl | rfl <;> simp [flashOf]
  · rw [chanAt_modChan_ne hd, if_neg (fun h => hd h.1)]

/-- Every flash's bytes are in canonical form. -/
def cellsWf (x : Vector (List (Nat × Byte) × List (Nat × Byte)) 6) : Prop :=
  ∀ y ∈ x.toList, Memory.wf 0xFF y.1 = true ∧ Memory.wf 0xFF y.2 = true

theorem canonical_iff {s : State} : canonical s ↔ cellsWf (cellsOf s) ∧ (stored s).wf := by
  simp [canonical, cellsWf, cellsOf, stored, Stored.wf]

theorem cellsWf_iff {s : State} : cellsWf (cellsOf s) ↔ ∀ c m, Memory.wf 0xFF (flashOf (chanAt s c) m).cells = true := by
  have hmem : cellsWf (cellsOf s) ↔ ∀ c : Chan, Memory.wf 0xFF (chanAt s c).flash0.cells = true ∧
      Memory.wf 0xFF (chanAt s c).flash1.cells = true := by
    simp only [cellsWf, cellsOf, Vector.mem_toList_iff, Vector.forall_mem_map]
    refine ⟨fun h c => h _ (Vector.getElem_mem c.2), fun h x hx => ?_⟩
    obtain ⟨i, hi, rfl⟩ := Vector.getElem_of_mem hx
    exact h ⟨i, hi⟩
  rw [hmem]
  refine forall_congr' fun c => ⟨fun ⟨h0, h1⟩ m => ?_, fun h => ⟨h 0, h 1⟩⟩
  unfold flashOf
  split <;> assumption

/-- A change of one flash keeps every flash canonical when it keeps that one so. -/
theorem modFlash_cellsWf {c : Chan} {m : Cs} {f : Flash → Flash} {s : State} (hs : cellsWf (cellsOf s))
    (hf : Memory.wf 0xFF (flashOf (chanAt s c) m).cells = true → Memory.wf 0xFF (f (flashOf (chanAt s c) m)).cells = true) :
    cellsWf (cellsOf (modFlash c m f s)) := by
  rw [cellsWf_iff] at hs ⊢
  intro d n
  rw [flashOf_modFlash]
  split
  · exact hf (hs c m)
  · exact hs d n

theorem foldl_cellsWf {α : Type} {f : State → α → State} (hf : ∀ t x, cellsWf (cellsOf t) → cellsWf (cellsOf (f t x)))
    (l : List α) {s : State} (hs : cellsWf (cellsOf s)) : cellsWf (cellsOf (l.foldl f s)) := by
  induction l generalizing s with
  | nil => exact hs
  | cons a l ih => exact ih (hf s a hs)

theorem allChans_cellsWf {f : Chan → State → State} (hf : ∀ c t, cellsWf (cellsOf t) → cellsWf (cellsOf (f c t)))
    {s : State} (hs : cellsWf (cellsOf s)) : cellsWf (cellsOf (allChans f s)) :=
  foldl_cellsWf (fun t c ht => hf c t ht) _ hs

/-! ### What programs and erases a flash -/

/-- An operation that is cut off leaves free values in the cells it covers. -/
theorem abortOp_wf (op : PhysOp) (f : Flash) (s : State) (h : Memory.wf 0xFF f.cells = true) :
    Memory.wf 0xFF (abortOp op f s).1.cells = true := by
  unfold abortOp
  cases op with
  | program cells => exact foldl_write_wf (fun x : (Nat × Byte) × Byte => x.1.1) (fun _ x => x.2) _ h
  | erase a k => exact writeL_wf _ _ h

@[simp] theorem abortOp_cellsOf (op : PhysOp) (f : Flash) (s : State) : cellsOf (abortOp op f s).2 = cellsOf s := by
  unfold abortOp
  split <;> simp

theorem resetFlash_cellsWf {c : Chan} {m : Cs} {s : State} (hs : cellsWf (cellsOf s)) :
    cellsWf (cellsOf (resetFlash c m s)) := by
  have hf := cellsWf_iff.mp hs c m
  unfold resetFlash
  dsimp only
  split
  all_goals refine modFlash_cellsWf (by simpa using hs) fun _ => ?_
  case h_4 => exact hf
  all_goals exact abortOp_wf _ _ _ hf

theorem settleFlash_cellsWf {c : Chan} {m : Cs} {s : State} (hs : cellsWf (cellsOf s)) :
    cellsWf (cellsOf (settleFlash c m s)) := by
  unfold settleFlash
  split
  · exact modFlash_cellsWf hs (flashApply_wf _ _)
  · exact hs

theorem writeRuns_cellsWf (c : Chan) (first : Nat) (content : List Byte) (rs : List RestoreRun) {s : State}
    (hs : cellsWf (cellsOf s)) : cellsWf (cellsOf (writeRuns c first content rs s)) :=
  foldl_cellsWf (fun t r ht => by
    rw [dropCtxs_cellsOf]
    exact modFlash_cellsWf ht (writeL_wf _ _)) _ hs

theorem discoverCs_cellsWf {c : Chan} {m : Cs} (x : Found) {s : State} (hs : cellsWf (cellsOf s)) :
    cellsWf (cellsOf (discoverCs c m x s)) := by
  have hreset : cellsWf (cellsOf (resetFlash c m s)) := resetFlash_cellsWf hs
  have hfault : ∀ (b : Bool) (t : State), cellsOf (modChan c (fun ch => if m = 0 then { ch with discFault0 := b }
      else { ch with discFault1 := b }) t) = cellsOf t :=
    fun b t => modChan_keeps _ _ _ (fun x => by split <;> rfl) (fun x => by split <;> rfl)
  unfold discoverCs
  cases x <;> simpa [hfault] using hreset

theorem discoverChan_cellsWf {c : Chan} (x0 x1 : Found) {s : State} (hs : cellsWf (cellsOf s)) :
    cellsWf (cellsOf (discoverChan c x0 x1 s)) := by
  have h0 := discoverCs_cellsWf (c := c) (m := 0) x0 hs
  unfold discoverChan
  dsimp only
  rw [deriveIds_cellsOf]
  split
  · exact h0
  · exact discoverCs_cellsWf x1 h0

theorem applyScratch_cellsWf {c : Chan} {m : Cs} (fails : Bool) {s : State} (hs : cellsWf (cellsOf s)) :
    cellsWf (cellsOf (applyScratch c m fails s)) := by
  have hf := cellsWf_iff.mp hs c m
  unfold applyScratch
  split
  · exact hs
  · split
    · exact hs
    · split
      · dsimp only
        rw [retirePort_cellsOf, notice_cellsOf]
        exact modFlash_cellsWf (by simpa using hs) fun _ => abortOp_wf _ _ _ hf
      · rw [clearScratch_cellsOf]
        exact modFlash_cellsWf hs fun h => flashApply_wf _ _ (flashApply_wf _ _ h)

theorem restartSeq_cellsWf {c : Chan} {s : State} (hs : cellsWf (cellsOf s)) : cellsWf (cellsOf (restartSeq c s)) := by
  unfold restartSeq
  split
  · split
    · dsimp only
      rw [toRestore_cellsOf]
      refine applyScratch_cellsWf _ (applyScratch_cellsWf _ ?_)
      simpa using settleFlash_cellsWf (settleFlash_cellsWf hs)
    · exact hs
  · exact hs

/-! ### The six commands that change a byte of a flash -/

theorem bootDiscover_cellsWf (found : List Found) (fails : List Chan) (c : Chan) {s : State} (hs : cellsWf (cellsOf s)) :
    cellsWf (cellsOf (bootDiscover found fails c s)) := by
  unfold bootDiscover
  exact applyScratch_cellsWf _ (applyScratch_cellsWf _ (discoverChan_cellsWf _ _ hs))

theorem execDiscovery_cellsWf (found : List Found) (fails : List Chan) {s : State} (hs : cellsWf (cellsOf s)) :
    cellsWf (cellsOf (after (execDiscovery found fails s) s)) := by
  have hscan : cellsWf (cellsOf (allChans (bootDiscover found fails) (scanInto 6 s))) :=
    allChans_cellsWf (fun c t ht => bootDiscover_cellsWf _ _ c ht)
      (by simpa using hs)
  unfold execDiscovery
  split
  · exact hs
  · simpa [apply_ite cellsOf] using hscan

theorem restartRuntime_cellsWf {s : State} (hs : cellsWf (cellsOf s)) : cellsWf (cellsOf (restartRuntime s)) := by
  unfold restartRuntime
  dsimp only
  rw [finishAll_cellsOf, savedNow_cellsOf]
  exact allChans_cellsWf (fun c t ht => restartSeq_cellsWf ht) (by simpa using hs)

theorem execCoreReset_cellsWf (a b : Bool) {s : State} (hs : cellsWf (cellsOf s)) :
    cellsWf (cellsOf (after (execCoreReset a b s) s)) := by
  have hdrain : cellsWf (cellsOf (journalDrain { s with coresDown := false })) := by simpa using hs
  unfold execCoreReset
  split
  · exact hs
  · generalize journalDrain { s with coresDown := false } = t at hdrain
    dsimp only
    split
    · exact hdrain
    · split
      · simpa using hdrain
      · rename_i hsel
        rw [after_next]
        refine restartRuntime_cellsWf ?_
        rw [apply_ite cellsOf, deriveAlias_cellsOf, ite_self, selectCopy_ok_cellsOf hsel]
        exact hdrain

theorem execRediscovery_cellsWf (c : Chan) (x y : Found) {s : State} (hs : cellsWf (cellsOf s)) :
    cellsWf (cellsOf (after (execRediscovery c x y s) s)) := by
  unfold execRediscovery
  dsimp only
  split
  · rw [after_next, finishAll_cellsOf, apply_ite cellsOf, recompile_cellsOf, ite_self]
    exact discoverChan_cellsWf _ _ hs
  · exact hs

theorem execLateArrival_cellsWf (t : Fin 14) (c : Chan) {s : State} (hs : cellsWf (cellsOf s)) :
    cellsWf (cellsOf (after (execLateArrival t c s) s)) := by
  unfold execLateArrival
  dsimp only
  split
  · exact hs
  · rw [after_next, finishAll_cellsOf, countLate_cellsOf, apply_ite cellsOf, modRandom_cellsOf, ite_self]
    split
    · exact modFlash_cellsWf (by simpa [flashIdle] using hs) (flashApply_wf _ _)
    · exact hs

theorem execPhysOpComplete_cellsWf (c : Chan) (m : Cs) (e : PhysEnd) {s : State} (hs : cellsWf (cellsOf s)) :
    cellsWf (cellsOf (after (execPhysOpComplete c m e s) s)) := by
  have hidle : cellsWf (cellsOf (flashIdle c m s)) := by simpa [flashIdle] using hs
  have hok := fun op => modFlash_cellsWf (c := c) (m := m) hidle (flashApply_wf op _)
  have hfail := fun cells => modFlash_cellsWf (c := c) (m := m) hidle (flashPatch_wf cells _)
  unfold execPhysOpComplete
  dsimp only
  split
  · exact hs
  all_goals cases e <;> simp [hok, hfail, apply_ite cellsOf]

theorem storeRecord_cellsWf {typ : Nat} {tf body : List Byte} {e : Bool} {s : State} {r : Nat × State}
    (h : storeRecord typ tf body e s = .ok r) (hs : cellsWf (cellsOf s)) : cellsWf (cellsOf r.2) := by
  obtain ⟨-, -, hput⟩ := storeRecord_ok.mp h
  rwa [← hput, putRecord_cellsOf]

theorem buildLines_cellsWf (p : MPart) (content : List Byte) (fail : Option (Cs × PhysEnd)) {s : State}
    (hs : cellsWf (cellsOf s)) : cellsWf (cellsOf (buildLines p content fail s).2) := by
  unfold buildLines
  dsimp only
  split
  · exact hs
  · split
    · exact hs
    · split
      · rw [permFlash_cellsOf]
        exact modFlash_cellsWf hs (flashPatch_wf _ _)
      · rename_i rs _ _ _ _
        have hruns : ∀ u first, cellsWf (cellsOf (writeRuns (chanOf p.chan) first content rs (modUpd u s))) :=
          fun u first => writeRuns_cellsWf _ _ _ _ (by simpa using hs)
        split
        · exact hruns _ _
        · rename_i hrec
          have hstore := storeRecord_cellsWf hrec (hruns _ _)
          split
          · exact hstore
          · rw [userWrite_cellsOf]
            exact writeRuns_cellsWf _ _ _ _ hstore

theorem buildPart_cellsWf (p : MPart) (fail : Option (Cs × PhysEnd)) {s : State} (hs : cellsWf (cellsOf s)) :
    cellsWf (cellsOf (buildPart p fail s).2) := by
  have hbase : cellsWf (cellsOf (partBase p s).2) := by simpa using hs
  unfold buildPart
  split
  · simp_all
  · rename_i h
    rw [h] at hbase
    split
    · exact hbase
    · dsimp only
      split
      · simpa using hbase
      · exact buildLines_cellsWf _ _ _ hbase

theorem execApplyPart_cellsWf (fail : Option (Cs × PhysEnd)) {s : State} (hs : cellsWf (cellsOf s)) :
    cellsWf (cellsOf (after (execApplyPart fail s) s)) := by
  unfold execApplyPart
  dsimp only
  split
  · simp [apply_ite cellsOf]
    exact buildPart_cellsWf _ _ (by simpa [apply_ite cellsOf] using hs)
  · exact hs

end Sys2Proof.Proofs

end

section
/-! Every command goes on -/

namespace Sys2Proof.Proofs
open Sys2Proof Sys2Proof.Machine Sys2Proof.Laws
set_option maxRecDepth 4000

/-- The outcome is a next state. -/
def GoesOn (o : Host.Outcome State Fault Refusal) : Prop := ∃ t, o = .next t

@[simp] theorem goesOn_next (t : State) : GoesOn (.next t) := ⟨t, rfl⟩

@[simp] theorem requestOp_goesOn (p : Port) (v : Svc) (i sub n : Nat) (rule : State → U8 × State) (s : State) :
    GoesOn (requestOp p v i sub n rule s) := by
  unfold requestOp
  dsimp only
  (repeat' split) <;> simp
@[simp] theorem execOp_goesOn (p : Port) (i sub n : Nat) (rule : State → U8 × State) (s : State) :
    GoesOn (execOp p i sub n rule s) := requestOp_goesOn ..
@[simp] theorem writeOp_goesOn (p : Port) (i sub n : Nat) (rule : State → U8 × State) (s : State) :
    GoesOn (writeOp p i sub n rule s) := requestOp_goesOn ..
@[simp] theorem blockOp_goesOn (p : Port) (i sub n : Nat) (rule : State → U8 × State) (s : State) :
    GoesOn (blockOp p i sub n rule s) := requestOp_goesOn ..
@[simp] theorem readOp_goesOn (p : Port) (v : Svc) (i sub : Nat) (rule : State → U8 × List Byte × State) (s : State) :
    GoesOn (readOp p v i sub rule s) := by
  unfold readOp
  dsimp only
  (repeat' split) <;> simp
@[simp] theorem pkSubmit_goesOn (p : Port) (op : Nat) (w : PkWord) (s : State) : GoesOn (pkSubmit p op w s) := execOp_goesOn ..

@[simp] theorem hostRead_goesOn (h : HostCmd) (op : Nat) (addr : U32) (len : Nat) (a b c : Bool) (s : State) :
    GoesOn (hostRead h op addr len a b c s) := goesOn_next _
@[simp] theorem hostProgram_goesOn (h : HostCmd) (op : Nat) (addr : U32) (data : List Byte) (a b c : Bool) (s : State) :
    GoesOn (hostProgram h op addr data a b c s) := goesOn_next _
@[simp] theorem hostErase_goesOn (h : HostCmd) (op : Nat) (addr : U32) (k : Nat) (octal : Bool) (s : State) :
    GoesOn (hostErase h op addr k octal s) := goesOn_next _
@[simp] theorem hostVirtual_goesOn (h : HostCmd) (op addr : Nat) (a b c : Bool) (body : Bool → State → State) (s : State) :
    GoesOn (hostVirtual h op addr a b c body s) := goesOn_next _
@[simp] theorem spdmRow_goesOn (code : Nat) (session : State → Option U32) (r : SpdmReq) (s : State) :
    GoesOn (spdmRow code session r s) := by
  unfold spdmRow
  split <;> simp
@[simp] theorem directed_goesOn (m : MPort) (f : State → State) (s : State) : GoesOn (directed m f s) := by
  unfold directed
  split <;> simp

theorem exec_goesOn (c : Instr) (s : State) : GoesOn (exec c s) := by
  cases c <;> dsimp only [exec,
    execPorNRise, execClock, execHeath, execLifecycle, execKat, execEntropy, execVault, execRuntime, execDiscovery,
    execPolicy, execCoreReset, execRefclkLoss, execRefclkReturn, execPllLockLoss, execPllRelock, execTbUsWrap,
    execPaceRefresh, execSensorRefresh, execScrubRead, execTimeoutExpiry, execGleaningRead, execReqStateBoundary,
    execPlatPgFall, execHotTakeoverSwitch, execColdTakeoverConnect, execFallowHandback, execRelDelayExpiry,
    execWriteBlock, execConfigSetSave, execArchiveWrite, execApplyPart, execConfirm, execEngineParityError,
    execStartupTestComplete, execAutoReseed, execDrbgParityError, execSpdmUnsupportedRequest, execSecuredMessage,
    execMeasurementRecompute, execFence, execMainPowerLoss, execMainPowerReturn, execHeathPowerLoss, execHeathPowerUp,
    execHeathSampleTick, execMonitorWindowExpiry, execHeathOscMeasure, execWdBite, execLockstepMismatch, execSramDed,
    execExtest, execTapChallenge, execTapToken, execDbgResult, execCoreDebug, execMctpPacket, execMgmtAssemblyExpiry,
    execResponseRead, execResponseExpiry, execMctpUnsupportedCommand, execEntdaa, execSetdasa, execRstdaa,
    execReadBlock, execPoll, execFaWindowRead, execFaReadExpiry, execPorNFall, execLateArrival, execChipErase,
    execPhysicalModeSync, execPhysOpComplete, execFlashOpRetry, execPinFill, execDeviceReadComplete, execRediscovery,
    execPlatPgRise, execIndexWordReload, execChannelRelease, execDrbgExpiry, execPrivateWireRequest, execTuExpiry,
    execCuParityError, execDeviceResetTakesEffect, execGapFill, execNodeFetch, execLineCheckComplete,
    execPreloadComplete, execVaultIoComplete, execStileWriteComplete, execPkCommandDispatch, execPkeParityError,
    execSourceAlarm, execWindowPass, execPkCommandComplete, execStageStoreExpiry, execLineStale, execDepTimeoutExpiry,
    execTrialExpiry, execTapReset, execSamplePreload, execIdcode, execBypass, execSetEndpointId, execGetEndpointId,
    execGetMctpVersionSupport, execGetMessageTypeSupport, execGetVendorDefinedMessageSupport, execDeviceReset,
    execRtInstall, execFlush, execClearHold, execReinstate, execFallowReinstate, execCommit, execDiscard, execCheck,
    execVaultReinstate, execFormat, execStageClear, execRestore, execAdmitManifest, execApply, execAbort,
    execActivate, execRevert, execDgAlloc, execAbsorbKey, execDgFinish, execExportState, execImportState,
    execDgRelease, execCxAlloc, execCxFinish, execCxRelease, execKsGenerate, execKsDerive, execKsWrap, execKsUnwrap,
    execKsImportPlain, execKsClear, execDssProvision, execKeyReload, execPkWipe, execReseed, execSrcReinstate,
    execRetainedClear, execTamperClear, execCellArm, execHeathLock, execWdCheckin, execWdService, execWdLock,
    execTuStart, execTuStop, execCuAlloc, execCuStart, execCuFeed8, execCuFeed16, execCuFeed40, execCuFinish,
    execCuRelease, execLcAdvance, execLcScrap, execDbgUnlock, execKeyBurn, execKeyRevoke, execFuseBurn, execBist,
    execInject, execUnitTest, execRtImageWrite, execRuleDomainWrite, execManifestWrite, execPartDataWrite, execDgData,
    execCxData, execPkBufWrite, execCuFeedBlock, execFastRead, execFastRead4B, execQuadOutputRead,
    execQuadOutputRead4B, execQuadIoRead, execQuadIoRead4B, execOctalDtrRead, execPageProgram, execPageProgram4B,
    execQuadInputPageProgram, execQuadInputPageProgram4B, execErase4K, execErase4K4B, execErase32K, execErase32K4B,
    execErase64K, execErase64K4B, execWriteEnable, execWriteDisable, execReadStatus, execWriteStatus, execClearFlags,
    execReadId, execReadSfdp, execWriteVolatileConfiguration, execEnterQpi, execExitQpi, execResetEnable, execReset,
    execEnter4ByteMode, execExit4ByteMode, execPowerDown, execReleasePowerDown, execUnsupportedCommand,
    execHayloftReqStateWrite, execChannelReqStateWrite, execFallowReqStateWrite, execRuleDataWrite, execRegisterWrite,
    execVaultReqStateWrite, execDgDeclLength, execCxDeclLength, execPkSlotLimbsWrite, execRawSelectWrite,
    execTestPatternWrite, execAdd, execSub, execMul, execInv, execExp, execExpv, execReduce, execLoad, execStore,
    execCompare, execKeyload, execKeypub, execRand, execSeal, execVerify, execVerifyGate, execToKey, execRawWordRead,
    execRawBlockRead, execChallenge, execRead, execGetVersion, execGetCapabilities, execNegotiateAlgorithms,
    execGetDigests, execGetCertificate, execSpdmChallenge, execGetMeasurements, execKeyExchange, execFinish,
    execEndSession, execSetnewda, execGetpid, execGetbcr, execGetdcr, execGetstatus, execGetmrl, execGetmwl,
    execSetmrl, execSetmwl, execEnec, execDisec] <;> (repeat' split) <;> simp
end Sys2Proof.Proofs

end

section
/-! What the commands that touch the ground keep of it -/

namespace Sys2Proof.Proofs
open Sys2Proof Sys2Proof.Machine Sys2Proof.Laws
set_option maxRecDepth 4000

/-- The part of the ground that the boot sequence keeps: the queue, the clocks and the reset inputs. -/
structure Base where
  pending : List Instr
  refclk : Bool
  pllLock : Bool
  porPin : Bool
  porN : Bool

/-- The base of a state. -/
def base (s : State) : Base := ⟨s.pending, s.refclk, s.pllLock, s.porPin, s.porN⟩

theorem base_of_ground {s t : State} (h : ground t = ground s) : base t = base s :=
  congrArg (fun g : Ground => (⟨g.pending, g.refclk, g.pllLock, g.porPin, g.porN⟩ : Base)) h

@[simp] theorem stepDone_base (k : Nat) (s : State) : base (stepDone k s) = base s := by
  unfold stepDone
  split <;> rfl

@[simp] theorem enterPhase_base (p : Phase) (s : State) : base (enterPhase p s) = base s :=
  (base_of_ground (journal_ground _ _ _ _ _)).trans rfl

@[simp] theorem toRecovery_base (b : Bool) (s : State) : base (toRecovery b s) = base s :=
  (base_of_ground (finishAll_ground _)).trans (enterPhase_base _ { s with recoveryByRuntime := b })

@[simp] theorem bootFail_base (k : Nat) (c : U8) (d : Nat) (s : State) : base (bootFail k c d s) = base s :=
  base_of_ground (bootFail_ground k c d s)

@[simp] theorem finishAll_base (s : State) : base (finishAll s) = base s := base_of_ground (finishAll_ground s)

@[simp] theorem entropyStep_base (s : State) : base (entropyStep s) = base s := by
  unfold entropyStep
  dsimp only
  (repeat' split) <;> simp

theorem execHeath_base (s : State) : base (after (execHeath s) s) = base s := by
  unfold execHeath
  split
  · simpa using base_of_ground (heathStep_ground s)
  · rfl

theorem lcDecide_base (s : State) : base (lcDecide s).2 = base s := base_of_ground (lcDecide_ground s)

theorem execLifecycle_base (s : State) : base (after (execLifecycle s) s) = base s := by
  have hdecide := base_of_ground (lcDecide_ground s)
  rcases hd : lcDecide s with ⟨v, t⟩
  rw [hd] at hdecide
  unfold execLifecycle
  rw [hd]
  split
  · rfl
  · dsimp only
    split
    · rw [after_next, finishAll_base]
      exact hdecide
    · have hdone : base (stepDone 3 (modLc (fun l => { l with vote := v }) t)) = base s :=
        (stepDone_base _ _).trans hdecide
      rw [after_next, entropyStep_base, base_of_ground (kickInstantiate_ground _)]
      split
      · rw [base_of_ground (notice_ground ..)]
        exact hdone
      · exact hdone

theorem execKat_base (run : List KatFail) (s : State) : base (after (execKat run s) s) = base s := by
  have htests : base ([1, 2, 3, 4, 5, 6, 7, 8, 9, 10].foldl (katTest run) s) = base s :=
    base_of_ground (by simp)
  unfold execKat
  dsimp only
  split
  · rfl
  · split <;> simpa using htests

theorem execEntropy_base (l m f : List Window) (s : State) : base (after (execEntropy l m f s) s) = base s := by
  have hpair := startupPair_ground l m s
  rcases hp : startupPair l m s with ⟨⟨x, y⟩, t⟩
  rw [hp] at hpair
  have hrun := startupRun_ground 2 f t
  rcases hr : startupRun 2 f t with ⟨z, u⟩
  rw [hr] at hrun
  have hu : base u = base s := base_of_ground (hrun.trans hpair)
  unfold execEntropy
  rw [hp]
  dsimp only
  rw [hr]
  split
  · rfl
  · rw [after_next, entropyStep_base, base_of_ground (kickInstantiate_ground _)]
    split
    · split
      · rw [base_of_ground (assignWindow_ground _ _), base_of_ground (modSource_ground _ _ _)]
        exact hu
      · rw [base_of_ground (sourceAlarm_ground _ _ _)]
        exact hu
    · exact hu

theorem execVault_base (r : List VaultTry) (info : EmmcInfo) (s : State) : base (after (execVault r info s) s) = base s := by
  have hup := bringUp_ground 0 r s
  have hoff : ∀ f t, base (modVault f t) = base t := fun _ _ => rfl
  unfold execVault
  dsimp only
  split
  · rfl
  · split
    all_goals rename_i h
    all_goals rw [h] at hup
    · rw [after_next, stepDone_base, hoff, base_of_ground (vaultUp_ground ..)]
      exact base_of_ground hup
    · rw [after_next, toRecovery_base, bootFail_base, hoff]
      exact base_of_ground hup
    · rw [after_next, toRecovery_base, bootFail_base, hoff]
      exact base_of_ground hup
    · rfl

theorem selectCopy_ok_base {first : Nat} {a b : Bool} {s t : State} (h : selectCopy first a b s = .ok t) : base t = base s := by
  unfold selectCopy at h
  dsimp only at h
  split at h
  · cases h
    exact base_of_ground (acceptCopy_ground _ _)
  · split at h
    · cases h
      rw [base_of_ground (notice_ground ..), base_of_ground (acceptCopy_ground _ _)]
      rfl
    · cases h

theorem execRuntime_base (a b : Bool) (s : State) : base (after (execRuntime a b s) s) = base s := by
  unfold execRuntime
  dsimp only
  split
  · rfl
  · split
    · simp
    · split
      · simp
      · rename_i h
        rw [after_next, apply_ite base, enterPhase_base, ite_self, base_of_ground (markBlocks_ground _ _), stepDone_base]
        exact (base_of_ground (dssLoad_ground _)).trans (selectCopy_ok_base h)

theorem policyRead_base (e : WriteEnd) (s : State) : base (policyRead e s).2 = base s := by
  have hscan : base (readCounters (rpmbAttach (scanInto 1 { s with phase := .service }))) = base s := by
    rw [base_of_ground (readCounters_ground _), base_of_ground (rpmbAttach_ground _), base_of_ground (scanInto_ground _ _)]
    rfl
  unfold policyRead
  generalize readCounters (rpmbAttach (scanInto 1 { s with phase := .service })) = t at hscan
  have hpick := pickConfig_ground (sortRecs (recsIn t 1)) t
  rcases hp : pickConfig (sortRecs (recsIn t 1)) t with ⟨set, u⟩
  rw [hp] at hpick
  dsimp only
  rw [hp]
  dsimp only
  rw [base_of_ground (policyRuntime_ground _ _), base_of_ground (policyStile_ground _ _), ← hscan, ← base_of_ground hpick]
  split
  · exact base_of_ground (loadConfig_ground _ _)
  · exact bootFail_base _ _ _ _

theorem policyRun_base (body : List Byte) (s : State) : base (policyRun body s) = base s := by
  unfold policyRun
  dsimp only
  rw [finishAll_base, stepDone_base, stepDone_base, enterPhase_base]
  generalize hback : savedNow _ = t
  have ht : ground t = ground s := by
    rw [← hback, savedNow_ground, bootRequests_ground, policyCompile_ground, foldl_ground _ (fun t x => reapply_ground t x)]
    exact foldl_ground _ (fun t x => by split <;> simp) _ _
  exact base_of_ground ht

theorem execPolicy_base (e : WriteEnd) (s : State) : base (after (execPolicy e s) s) = base s := by
  have hread := policyRead_base e s
  rcases hp : policyRead e s with ⟨body, t⟩
  rw [hp] at hread
  unfold execPolicy
  rw [hp]
  split
  · rfl
  · dsimp only [after]
    split
    · exact hread
    · rw [policyRun_base]
      exact hread

theorem execDiscovery_base (found : List Found) (fails : List Chan) (s : State) :
    base (after (execDiscovery found fails s) s) = base s := by
  have hscan : ground (allChans (bootDiscover found fails) (scanInto 6 s)) = ground s := by simp
  unfold execDiscovery
  dsimp only
  split
  · rfl
  · rw [after_next, stepDone_base, apply_ite base, bootFail_base, ite_self]
    exact base_of_ground hscan

theorem execCoreReset_base (a b : Bool) (s : State) : base (after (execCoreReset a b s) s) = base s := by
  have hdrain : base (journalDrain { s with coresDown := false }) = base s :=
    (base_of_ground (journalDrain_ground _)).trans rfl
  unfold execCoreReset
  generalize journalDrain { s with coresDown := false } = t at hdrain
  dsimp only
  split
  · rfl
  · split
    · exact hdrain
    · split
      · rw [after_next, toRecovery_base, bootFail_base]
        exact (base_of_ground (endSessions_ground t)).trans hdrain
      · rename_i h
        rw [after_next, base_of_ground (restartRuntime_ground _), apply_ite base, base_of_ground (deriveAlias_ground _),
          ite_self, selectCopy_ok_base h]
        exact hdrain

theorem execChannelRelease_base (c : Chan) (g : BitVec 8) (s : State) : base (after (execChannelRelease c g s) s) = base s := by
  have heff : ∀ (b : Prop) [Decidable b], base (setEff c .running (if b then timeoutArrived 0xB s else s)) = base s :=
    fun b _ => by
      rw [base_of_ground (setEff_ground ..)]
      split
      · exact base_of_ground (timeoutArrived_ground _ _)
      · rfl
  unfold execChannelRelease
  dsimp only
  split
  · rw [after_next, finishAll_base, base_of_ground (journal_ground ..), stepDone_base]
    exact (base_of_ground (modChan_ground ..)).trans (heff _)
  · rfl

theorem execStartupTestComplete_base (i : Fin 3) (w : Window) (s : State) :
    base (after (execStartupTestComplete i w s) s) = base s := by
  unfold execStartupTestComplete
  split
  · rw [after_next, entropyStep_base]
    exact base_of_ground (by simp)
  · rfl

theorem execWindowPass_base (w : Window) (s : State) : base (after (execWindowPass w s) s) = base s := by
  unfold execWindowPass
  split
  · rfl
  · generalize (if s.random.testPattern then lfsrRun 1024 s.random.lfsr else (w.toNat, s.random.lfsr)) = p
    dsimp only
    split
    · rfl
    · rw [after_next, entropyStep_base]
      exact base_of_ground (by simp)

/-! ### The commands that move the clocks and the reset inputs keep the queue and the order between them -/

/-- The clocks and the reset inputs of a base stand in order. -/
def Base.ordered (b : Base) : Prop :=
  (b.pllLock = true → b.refclk = true) ∧ (b.refclk = true → b.porN = true) ∧ (b.porN = true → b.porPin = true)

theorem clocksInOrder_iff {s : State} : clocksInOrder s ↔ (base s).ordered := Iff.rfl

/-- The queue stays as it was and the clocks stay in order. -/
def KeepsOrder (s t : State) : Prop := t.pending = s.pending ∧ (clocksInOrder s → clocksInOrder t)

theorem keepsOrder_iff {s t : State} :
    KeepsOrder s t ↔ (base t).pending = (base s).pending ∧ ((base s).ordered → (base t).ordered) := Iff.rfl

theorem keepsOrder_of_base {s t : State} (h : base t = base s) : KeepsOrder s t := by
  rw [keepsOrder_iff, h]
  exact ⟨rfl, id⟩

theorem powerReset_base (s : State) : base (powerReset s) = { base s with refclk := false, pllLock := false, porN := false } :=
  rfl

theorem powerOn_base (s : State) : base (powerOn s) = { base s with refclk := false, pllLock := false, porN := true } := by
  obtain ⟨j, u, h⟩ := powerOn_shape s
  rw [h]
  rfl

/-- A power-on reset stops the clocks, so any order between them holds. -/
theorem powerReset_order (s : State) : KeepsOrder s (powerReset s) := by
  rw [keepsOrder_iff, powerReset_base]
  simp [Base.ordered]

theorem execPorNRise_order (x : BitVec 4) (s : State) : KeepsOrder s (after (execPorNRise x s) s) := by
  unfold execPorNRise
  split
  · exact keepsOrder_of_base rfl
  · rename_i hpin
    have hset : base { s with porPin := true, straps := x } = { base s with porPin := true } := rfl
    rw [keepsOrder_iff]
    dsimp only [after]
    split
    · rw [powerOn_base, hset]
      simp [Base.ordered]
    · rw [hset]
      exact ⟨rfl, fun ⟨hp, hr, _⟩ => ⟨hp, hr, fun _ => rfl⟩⟩

theorem execPorNFall_order (s : State) : KeepsOrder s (after (execPorNFall s) s) := by
  have hset : base { s with porPin := false } = { base s with porPin := false } := rfl
  unfold execPorNFall
  rw [keepsOrder_iff]
  dsimp only [after]
  split
  · rw [powerReset_base, hset]
    simp [Base.ordered]
  · rename_i hpor
    rw [hset]
    exact ⟨rfl, fun ⟨hp, hr, _⟩ => ⟨hp, hr, fun h => absurd h hpor⟩⟩

theorem execMainPowerLoss_order (s : State) : KeepsOrder s (after (execMainPowerLoss s) s) := by
  unfold execMainPowerLoss
  split
  · dsimp only [after]
    split
    · exact powerReset_order (modHeath _ s)
    · exact keepsOrder_of_base rfl
  · exact keepsOrder_of_base rfl

theorem execMainPowerReturn_order (s : State) : KeepsOrder s (after (execMainPowerReturn s) s) := by
  have hheath : ∀ f, ground (if s.heath.powered then modHeath f s else heathFromNothing true s) = ground s := fun f => by
    split <;> simp
  have hon : ∀ t, base t = base s → KeepsOrder s (if t.porPin then powerOn t else t) := fun t ht => by
    rw [keepsOrder_iff]
    split
    · rename_i hpin
      rw [powerOn_base, ← ht]
      exact ⟨rfl, fun _ => ⟨nofun, nofun, fun _ => hpin⟩⟩
    · rw [ht]
      exact ⟨rfl, id⟩
  unfold execMainPowerReturn
  split
  · exact keepsOrder_of_base rfl
  · exact hon _ (base_of_ground (hheath _))

theorem execDeviceResetTakesEffect_base (s : State) : base (after (execDeviceResetTakesEffect s) s) = base s := by
  unfold execDeviceResetTakesEffect
  split
  · split
    · obtain ⟨j, u, h⟩ := deviceReset_shape _ s
      rw [after_next, h]
      rfl
    · rfl
  · rfl

theorem stepRuns_porN {s : State} {k : Nat} (h : stepRuns s k = true) : s.porN = true := by
  simp_all [stepRuns, coresRun]

theorem execClock_order (w : Nat) (l : Bool) (s : State) : KeepsOrder s (after (execClock w l s) s) := by
  unfold execClock
  split
  · exact keepsOrder_of_base rfl
  · rename_i hrun
    split
    · exact keepsOrder_of_base (bootFail_base _ _ _ _)
    · have hpor : s.porN = true := stepRuns_porN (by simpa using hrun)
      have hlock : ∀ t, base t = base s → base (stepDone 1 { t with refclk := true, pllLock := true, gapPeriods := 0 }) =
          { base s with refclk := true, pllLock := true } := fun t ht => by
        rw [stepDone_base, ← ht]
        rfl
      have hnote : ∀ (b : Prop) [Decidable b] (gap : U32), base (if b then s else journal 0x30 0x0401 true
          (leBytes 4 gap.toNat) { s with refclkLastGap := gap }) = base s := fun b _ gap => by
        split
        · rfl
        · exact (base_of_ground (journal_ground ..)).trans rfl
      rw [keepsOrder_iff]
      dsimp only [after]
      rw [apply_ite base, base_of_ground (wdRecovery_ground _), ite_self,
        base_of_ground (foldl_ground _ (fun t i => modSource_ground _ _ _) _ _), hlock _ (hnote _ _)]
      exact ⟨rfl, fun ⟨_, _, hpin⟩ => ⟨fun _ => rfl, fun _ => hpor, hpin⟩⟩

theorem execRefclkLoss_order (s : State) : KeepsOrder s (after (execRefclkLoss s) s) := by
  unfold execRefclkLoss
  split
  · rw [keepsOrder_iff, after_next, finishAll_base, base_of_ground (allChans_ground _ _ (fun c t => stopRead_ground c t))]
    exact ⟨rfl, fun ⟨_, _, hpin⟩ => ⟨nofun, nofun, hpin⟩⟩
  · exact keepsOrder_of_base rfl

theorem execRefclkReturn_order (n : Nat) (s : State) : KeepsOrder s (after (execRefclkReturn n s) s) := by
  unfold execRefclkReturn
  split
  · rename_i h
    have hgap := base_of_ground (gapCount_ground n s)
    have hset : ∀ x, base { gapCount n s with refclk := true, gapPeriods := 0, refclkLastGap := x } =
        { base s with refclk := true } := fun x => by
      rw [← hgap]
      rfl
    rw [keepsOrder_iff]
    dsimp only [after]
    rw [finishAll_base, base_of_ground (vaultFollow_ground _ _), base_of_ground (journal_ground ..), hset]
    exact ⟨rfl, fun ⟨_, _, hpin⟩ => ⟨fun _ => rfl, fun _ => h.2.1, hpin⟩⟩
  · exact keepsOrder_of_base rfl

theorem execPllLockLoss_order (s : State) : KeepsOrder s (after (execPllLockLoss s) s) := by
  unfold execPllLockLoss
  split
  · rw [keepsOrder_iff]
    dsimp only [after]
    rw [finishAll_base, apply_ite base, base_of_ground (vaultCmdFail_ground _), ite_self,
      base_of_ground (allChans_ground _ _ (fun c t => failRead_ground c t)), base_of_ground (notice_ground ..)]
    exact ⟨rfl, fun ⟨_, hr, hpin⟩ => ⟨nofun, hr, hpin⟩⟩
  · exact keepsOrder_of_base rfl

theorem execPllRelock_order (s : State) : KeepsOrder s (after (execPllRelock s) s) := by
  unfold execPllRelock
  split
  · rename_i h
    rw [keepsOrder_iff, after_next, finishAll_base]
    exact ⟨rfl, fun ⟨_, hr, hpin⟩ => ⟨fun _ => h.2.1, hr, hpin⟩⟩
  · exact keepsOrder_of_base rfl

theorem execTbUsWrap_base (s : State) : base (after (execTbUsWrap s) s) = base s := by
  unfold execTbUsWrap
  split <;> rfl


/-! ### The time that passes on an empty queue -/

theorem tick_base (s : State) : base (tick s) = base s := by
  unfold tick
  dsimp only
  (repeat' split) <;> rfl

theorem idle_base (s : State) : base (idle s) = base s :=
  (base_of_ground (serveLinks_ground (tick s))).trans (tick_base s)

end Sys2Proof.Proofs

end

section
/-! The invariants of every step, and what the commands leave alone (O5, O6, O7, O8, O9) -/

namespace Sys2Proof.Proofs
open Sys2Proof Sys2Proof.Machine Sys2Proof.Laws
set_option maxRecDepth 4000

theorem selectCopy_ok_storedWf {first : Nat} {a b : Bool} {s t : State} (h : selectCopy first a b s = .ok t)
    (hw : (stored s).wf) : (stored t).wf := by
  rwa [selectCopy_ok_stored h]

@[simp] theorem execDiscovery_storedWf (found : List Found) (fails : List Chan) (s : State) (hw : (stored s).wf) :
    (stored (after (execDiscovery found fails s) s)).wf := by
  have hscan : (stored (allChans (bootDiscover found fails) (scanInto 6 s))).wf :=
    allChans_storedWf (fun c t ht => bootDiscover_storedWf found fails c t ht) (by simpa using hw)
  unfold execDiscovery
  dsimp only
  split
  · exact hw
  · rw [after_next, stepDone_stored, apply_ite stored, bootFail_stored, ite_self]
    exact hscan

@[simp] theorem execCoreReset_storedWf (a b : Bool) (s : State) (hw : (stored s).wf) :
    (stored (after (execCoreReset a b s) s)).wf := by
  have hdrain : (stored (journalDrain { s with coresDown := false })).wf := by simpa using hw
  unfold execCoreReset
  generalize journalDrain { s with coresDown := false } = t at hdrain
  dsimp only
  split
  · exact hw
  · split
    · exact hdrain
    · split
      · simpa using hdrain
      · rename_i h
        rw [after_next]
        refine restartRuntime_storedWf _ ?_
        rw [apply_ite stored, deriveAlias_stored, ite_self]
        exact selectCopy_ok_storedWf h hdrain

theorem exec_storedWf (c : Instr) {s : State} (hw : (stored s).wf) : (stored (after (exec c s) s)).wf := by
  cases c <;> simp [exec, hw]

theorem exec_cellsWf (c : Instr) {s : State} (hs : cellsWf (cellsOf s)) : cellsWf (cellsOf (after (exec c s) s)) := by
  cases c
  case physOpComplete c m e => exact execPhysOpComplete_cellsWf c m e hs
  case lateArrival t c => exact execLateArrival_cellsWf t c hs
  case applyPart f => exact execApplyPart_cellsWf f hs
  case rediscovery c x y => exact execRediscovery_cellsWf c x y hs
  case discovery f l => exact execDiscovery_cellsWf f l hs
  case coreReset a b => exact execCoreReset_cellsWf a b hs
  all_goals simpa [exec] using hs

theorem exec_order (c : Instr) (s : State) : KeepsOrder s (after (exec c s) s) := by
  cases c
  case porNRise x => exact execPorNRise_order x s
  case porNFall => exact execPorNFall_order s
  case mainPowerLoss => exact execMainPowerLoss_order s
  case mainPowerReturn => exact execMainPowerReturn_order s
  case clock w l => exact execClock_order w l s
  case refclkLoss => exact execRefclkLoss_order s
  case refclkReturn n => exact execRefclkReturn_order n s
  case pllLockLoss => exact execPllLockLoss_order s
  case pllRelock => exact execPllRelock_order s
  case deviceResetTakesEffect => exact keepsOrder_of_base (execDeviceResetTakesEffect_base s)
  case heath => exact keepsOrder_of_base (execHeath_base s)
  case lifecycle => exact keepsOrder_of_base (execLifecycle_base s)
  case kat r => exact keepsOrder_of_base (execKat_base r s)
  case entropy l m f => exact keepsOrder_of_base (execEntropy_base l m f s)
  case vault r i => exact keepsOrder_of_base (execVault_base r i s)
  case runtime a b => exact keepsOrder_of_base (execRuntime_base a b s)
  case discovery f l => exact keepsOrder_of_base (execDiscovery_base f l s)
  case policy e => exact keepsOrder_of_base (execPolicy_base e s)
  case coreReset a b => exact keepsOrder_of_base (execCoreReset_base a b s)
  case tbUsWrap => exact keepsOrder_of_base (execTbUsWrap_base s)
  case channelRelease c g => exact keepsOrder_of_base (execChannelRelease_base c g s)
  case startupTestComplete i w => exact keepsOrder_of_base (execStartupTestComplete_base i w s)
  case windowPass w => exact keepsOrder_of_base (execWindowPass_base w s)
  all_goals exact keepsOrder_of_base (base_of_ground (by simp [exec]))

theorem after_of_next {c : Instr} {s t : State} (h : exec c s = .next t) : after (exec c s) s = t := by
  rw [h]
  rfl

theorem exec_pending (c : Instr) (s : State) : (after (exec c s) s).pending = s.pending := (exec_order c s).1

/-- Settles O6: no arm of the dispatcher refuses, and no command touches the queue. -/
theorem commandsGoOn : Obligations.CommandsGoOn := by
  unfold Obligations.CommandsGoOn
  intro c s
  obtain ⟨t, ht⟩ := exec_goesOn c s
  exact ⟨t, ht, after_of_next ht ▸ exec_pending c s⟩

/-- Settles O7: but for the commands named, each command keeps the ground. -/
theorem groundIsKept : Obligations.GroundIsKept := by
  unfold Obligations.GroundIsKept
  intro c s t h
  obtain rfl := after_of_next h
  clear h
  cases c <;> simp [exec]

/-- Settles O8: but for the commands named, each command keeps the bytes of the flashes. -/
theorem flashBytesAreKept : Obligations.FlashBytesAreKept := by
  unfold Obligations.FlashBytesAreKept
  intro c s t h
  obtain rfl := after_of_next h
  clear h
  cases c <;> simp [exec]

/-- Settles O9: a request is unserved, refused by a check, or admitted. -/
theorem refusedRequests : Obligations.RefusedRequests := by
  unfold Obligations.RefusedRequests
  intro s p v i sub n rule
  exact ⟨requestOp_unserved, requestOp_refused, requestOp_admitted⟩

theorem exec_canonical (c : Instr) {s : State} (h : canonical s) : canonical (after (exec c s) s) := by
  obtain ⟨hcells, hstored⟩ := canonical_iff.mp h
  exact canonical_iff.mpr ⟨exec_cellsWf c hcells, exec_storedWf c hstored⟩

theorem idle_canonical {s : State} (h : canonical s) : canonical (idle s) := by
  obtain ⟨hcells, hstored⟩ := canonical_iff.mp h
  exact canonical_iff.mpr ⟨by simpa [idle] using hcells, by simp [idle, hstored]⟩

/-- Settles O5: the front command, or the time that passes on an empty queue, keeps the order of the clocks and the canonical
form of every memory, and leaves no command in the queue that was not there. -/
theorem everyStepKeepsOrder : Obligations.EveryStepKeepsOrder := by
  unfold Obligations.EveryStepKeepsOrder
  intro s t hqueue hclocks hmem hstep
  unfold step at hstep
  split at hstep
  case h_1 hempty =>
    obtain rfl := Host.Outcome.next.inj hstep
    obtain ⟨hpend, hord⟩ := keepsOrder_of_base (idle_base s)
    exact ⟨by rwa [queueFits, hpend], hord hclocks, idle_canonical hmem⟩
  case h_2 c rest hfront =>
    obtain rfl := after_of_next hstep
    obtain ⟨hpend, hord⟩ := exec_order c { s with pending := rest }
    refine ⟨fun i hi => hqueue i ?_, hord hclocks, exec_canonical c hmem⟩
    rw [hpend] at hi
    exact hfront ▸ List.mem_cons_of_mem c hi

end Sys2Proof.Proofs

end

section
/-! Reset, the front of the queue, and time on an empty queue (O1, O2, O3, O4) -/

namespace Sys2Proof.Proofs
open Sys2Proof Sys2Proof.Machine Sys2Proof.Laws
set_option maxRecDepth 4000

theorem step_front (s : State) (c : Instr) : step { s with pending := c :: s.pending } = exec c s := rfl

/-- Settles O1: `step` takes the head of the queue, and the record with its rest is the state itself. -/
theorem stepRunsFront : Obligations.StepRunsFront := by
  unfold Obligations.StepRunsFront
  exact step_front

theorem step_of_empty {s : State} (hq : s.pending = []) : step s = .next (idle s) := by
  unfold step
  simp [hq]

/-- Without REFCLK no tick is counted. -/
theorem tick_stopped {s : State} (h : s.refclk = false) : tick s = s := by
  unfold tick
  simp [h]

theorem tick_within {s : State} (hr : s.refclk = true) (hn : s.porN = true) (hs : s.subUs < 24) :
    tick s = { s with now := s.now + 1, subUs := s.subUs + 1 } := by
  have hno : ¬ (25 ≤ s.subUs + 1 ∧ s.tbUs ≠ BitVec.allOnes 40) := by omega
  simp only [tick, hr, hn, Bool.and_self, if_true, if_neg hno]

theorem tick_microsecond {s : State} (hr : s.refclk = true) (hn : s.porN = true) (hs : s.subUs = 24)
    (hb : s.tbUs ≠ BitVec.allOnes 40) :
    tick s = { s with now := s.now + 1, subUs := 0, tbUs := s.tbUs + 1 } := by
  have hyes : 25 ≤ s.subUs + 1 ∧ s.tbUs ≠ BitVec.allOnes 40 := ⟨by omega, hb⟩
  have hzero : s.subUs + 1 - 25 = 0 := by omega
  simp only [tick, hr, hn, Bool.and_self, if_true, if_pos hyes, hzero]

/-- Settles O2: the idle step is the tick where no link has a message to take. -/
theorem emptyQueueIsTime : Obligations.EmptyQueueIsTime := by
  unfold Obligations.EmptyQueueIsTime
  intro s hq hlinks
  have hidle : step s = .next (tick s) := by rw [step_of_empty hq, idle, hlinks]
  rw [hidle]
  exact ⟨fun hr => by rw [tick_stopped hr], fun hr hn hs => by rw [tick_within hr hn hs],
    fun hr hn hs hb => by rw [tick_microsecond hr hn hs hb]⟩

theorem chanAt_reset (c : Chan) : chanAt State.reset c = {} := by
  fin_cases c <;> rfl

/-- Settles O3: every conjunct reads a default of the state's record. -/
theorem resetLeaves : Obligations.ResetLeaves := by
  unfold Obligations.ResetLeaves
  refine ⟨rfl, rfl, rfl, rfl, rfl, rfl, rfl, rfl, rfl, rfl, rfl, fun c => ?_⟩
  rw [chanAt_reset]
  exact ⟨rfl, fun a => ⟨rfl, rfl⟩⟩

theorem clocksInOrder_reset : clocksInOrder State.reset := by
  refine ⟨fun h => ?_, fun h => ?_, fun h => ?_⟩ <;> exact absurd h (by decide)

theorem canonical_reset : canonical State.reset := by
  refine ⟨fun c hc => ?_, rfl, rfl, rfl⟩
  have hdefault : c = {} := Vector.eq_of_mem_replicate (Vector.mem_toList_iff.mp hc)
  rw [hdefault]
  exact ⟨rfl, rfl⟩

/-- Settles O4: the queue and the byte memories are empty and no clock runs. -/
theorem resetIsInOrder : Obligations.ResetIsInOrder := by
  unfold Obligations.ResetIsInOrder
  exact ⟨fun i hi => absurd hi List.not_mem_nil, clocksInOrder_reset, canonical_reset⟩
end Sys2Proof.Proofs

end

section
/-! The boot steps CLOCK, HEATH and LIFECYCLE (O11) -/

namespace Sys2Proof.Proofs
open Sys2Proof Sys2Proof.Machine Sys2Proof.Laws
set_option maxRecDepth 4000

/-! ### CLOCK, HEATH and LIFECYCLE -/

theorem stepDone_steps_self {s : State} {k : Nat} (h : tget s.steps k = none) :
    tget (stepDone k s).steps k = some s.tbUs := by
  rw [stepDone_new h]
  simp [tget_tput]

/-- The sources' start-up tests begin. -/
def sourcesStarting (s : State) : State := [0, 1, 2].foldl (fun t i => modSource i (fun x => { x with st := 1 }) t) s

theorem sourcesStarting_st (s : State) (i : Nat) : (sourceAt (sourcesStarting s) i).st = 1 := by
  unfold sourceAt
  split <;> rfl

/-- The state at the lock of the PLL: a gap of REFCLK that a reset other than power-on ended is recorded. -/
def clockGap (s : State) : State :=
  if s.refclk ∨ s.resetCause = 1 then s
  else journal 0x30 0x0401 true (leBytes 4 (BitVec.ofNat 32 (min s.gapPeriods (2 ^ 32 - 1))).toNat)
    { s with refclkLastGap := BitVec.ofNat 32 (min s.gapPeriods (2 ^ 32 - 1)) }

theorem clockGap_powerOn {s : State} (h : s.resetCause = 1) : clockGap s = s := if_pos (Or.inr h)

/-- REFCLK and the PLL in force, with no gap. -/
def clocksUp (s : State) : State := { s with refclk := true, pllLock := true, gapPeriods := 0 }

/-- What a lock does to the state of step CLOCK, the watchdog aside. -/
def clockLocked (s : State) : State := sourcesStarting (stepDone 1 (clocksUp (clockGap s)))

theorem clockLocked_powerOn {s : State} (h : stepRuns s 1 = true) (hc : s.resetCause = 1) :
    ∃ st r, clockLocked s = { clocksUp s with steps := st, random := r } ∧ tget st 1 = some s.tbUs := by
  refine ⟨(stepDone 1 (clocksUp s)).steps, (clockLocked s).random, ?_, stepDone_steps_self (stepRuns_steps h)⟩
  obtain ⟨st, hst⟩ := stepDone_keep 1 (clocksUp s)
  rw [clockLocked, clockGap_powerOn hc, hst]
  rfl

theorem exec_clock_locked {s : State} (w : Nat) (h : stepRuns s 1 = true) :
    exec (.clock w true) s = .next (if wdtStart (clockLocked s) then wdRecovery (clockLocked s) else clockLocked s) := by
  change execClock w true s = _
  unfold execClock
  rw [if_neg (by simp [h]), if_neg (by simp)]
  rfl

theorem exec_clock_unlocked {s : State} (w : Nat) (h : stepRuns s 1 = true) :
    exec (.clock w false) s = .next (bootFail 1 eTimeout (min w 0xFFFF) s) := by
  change execClock w false s = _
  unfold execClock
  rw [if_neg (by simp [h]), if_pos (by simp)]

/-- The first failed step is the one BOOT_RESULT names. -/
theorem bootFail_bootResult_first {s : State} (k : Nat) (c : U8) (d : Nat) (h : s.bootResult = 0) :
    (bootFail k c d s).bootResult = BitVec.ofNat 40 (k * 2 ^ 24 + c.toNat * 2 ^ 16 + d % 2 ^ 16) := by
  have hzero : bits s.bootResult.toNat 31 24 = 0 := by rw [h]; rfl
  have hnot : ¬ (k = 1 ∧ bits s.bootResult.toNat 31 24 = 1) := by rw [hzero]; simp
  simp only [bootFail, if_neg hnot, if_pos (Or.inl hzero), journal_bootResult]

theorem exec_heath_runs {s : State} (h : stepRuns s 2 = true) :
    exec .heath s = .next (finishAll (stepDone 2 (heathStep s))) := by
  change execHeath s = _
  simp [execHeath, h]

/-- Step HEATH leaves the battery domain's record empty. -/
theorem heathStep_heath (s : State) :
    (heathStep s).heath.hrec = [] ∧ (heathStep s).heath.hrecOverflow = 0 ∧ (heathStep s).heath.fresh = false :=
  ⟨rfl, rfl, rfl⟩

theorem lcSet_below {n : Nat} (h : n < 4) (s : State) :
    lcSet n s = modLc (fun l => { l with state := BitVec.ofNat 8 n }) s := by
  have : n ≠ 4 := by omega
  simp [lcSet, this]

theorem lcDecide_majority {s : State} {n : Nat} (h : lcVote s = .majority n) :
    lcDecide s = (lcVoteWord s 0, lcSet n s) := by
  simp [lcDecide, h]

@[simp] theorem lcSet_straps (n : Nat) (s : State) : (lcSet n s).straps = s.straps := by
  unfold lcSet
  split <;> rfl

/-- The life cycle's state and vote that step LIFECYCLE stores. -/
def lifecycleVoted (n : Nat) (s : State) : State := modLc (fun l => { l with vote := lcVoteWord s 0 }) (lcSet n s)

theorem lifecycleVoted_keep {n : Nat} (h : n < 4) (s : State) : ∃ l, lifecycleVoted n s = { s with lc := l } ∧
    l.state = BitVec.ofNat 8 n ∧ l.vote = lcVoteWord s 0 := by
  rw [lifecycleVoted, lcSet_below h]
  exact ⟨_, rfl, rfl, rfl⟩

/-- The state that step LIFECYCLE leaves for a life cycle of Maker to Returned, its record of a TEST strap aside. -/
def lifecycleUp (n : Nat) (s : State) : State :=
  { stepDone 3 (lifecycleVoted n s) with mgmtUp := true, testHonoured := s.straps.getLsbD 0 && (n == 0 || n == 3) }

theorem lifecycleUp_fields {s : State} {n : Nat} (h : stepRuns s 3 = true) (hn : n < 4) :
    tget (lifecycleUp n s).steps 3 = some s.tbUs ∧ (lifecycleUp n s).lc.state = BitVec.ofNat 8 n ∧
      (lifecycleUp n s).lc.vote = lcVoteWord s 0 ∧ (lifecycleUp n s).mgmtUp = true ∧
      (lifecycleUp n s).testHonoured = (s.straps.getLsbD 0 && (n == 0 || n == 3)) ∧ (lifecycleUp n s).halted = false ∧
      (lifecycleUp n s).phase = s.phase ∧ cellsOf (lifecycleUp n s) = cellsOf s := by
  obtain ⟨l, hkeep, hstate, hvote⟩ := lifecycleVoted_keep hn s
  obtain ⟨st, hst⟩ := stepDone_keep 3 (lifecycleVoted n s)
  have hsteps := stepDone_steps_self (s := lifecycleVoted n s) (k := 3) (by rw [hkeep]; exact stepRuns_steps h)
  rw [lifecycleUp]
  rw [hst, hkeep] at hsteps ⊢
  have hhalted := stepRuns_halted h
  exact ⟨hsteps, hstate, hvote, rfl, rfl, hhalted, rfl, rfl⟩

theorem ofNat8_eq_iff {n m : Nat} (hn : n < 256) (hm : m < 256) : BitVec.ofNat 8 n = BitVec.ofNat 8 m ↔ n = m := by
  constructor
  · intro h
    have := congrArg BitVec.toNat h
    simpa [BitVec.toNat_ofNat, Nat.mod_eq_of_lt, hn, hm] using this
  · rintro rfl
    rfl

theorem exec_lifecycle_up {s : State} {n : Nat} (h : stepRuns s 3 = true) (hv : lcVote s = .majority n) (hn : n < 4) :
    exec .lifecycle s = .next (entropyStep (kickInstantiate
      (if s.straps.getLsbD 0 ∧ !(lifecycleUp n s).testHonoured
        then notice 0x01 true 0x1101 2 (lifecycleUp n s).straps.toNat 0 (lifecycleUp n s) else lifecycleUp n s))) := by
  change execLifecycle s = _
  unfold execLifecycle
  obtain ⟨l, hkeep, hstate, hvote⟩ := lifecycleVoted_keep hn s
  have hnot : ¬ (lifecycleVoted n s).lc.state = 4 := by
    rw [hkeep]
    exact fun h4 => absurd ((ofNat8_eq_iff (m := 4) (by omega) (by omega)).mp (hstate.symm.trans h4)) (by omega)
  have hmaker : lcMakerOrReturned (lifecycleVoted n s) = (n == 0 || n == 3) := by
    rw [lcMakerOrReturned, hkeep]
    dsimp only
    rw [hstate]
    interval_cases n <;> rfl
  have hstraps : (lifecycleVoted n s).straps = s.straps := by rw [hkeep]
  rw [if_neg (by simp [h]), lcDecide_majority hv]
  change (if (lifecycleVoted n s).lc.state = 4 then _ else _) = _
  rw [if_neg hnot]
  change Host.Outcome.next (entropyStep (kickInstantiate (if (lifecycleVoted n s).straps.getLsbD 0 ∧
    !((lifecycleVoted n s).straps.getLsbD 0 && lcMakerOrReturned (lifecycleVoted n s)) then _ else _))) = _
  rw [lifecycleUp, ← hmaker, ← hstraps]
  rfl

theorem exec_lifecycle_scrapped {s : State} (h : stepRuns s 3 = true) (hv : lcVote s = .majority 4) :
    exec .lifecycle s = .next (finishAll { modLc (fun l => { l with vote := lcVoteWord s 0 }) (lcSet 4 s) with
      halted := true, mgmtUp := false }) := by
  change execLifecycle s = _
  unfold execLifecycle
  rw [if_neg (by simp [h]), lcDecide_majority hv]
  dsimp only
  exact if_pos rfl

/-- Settles O11: each clause runs its step and reads the fields of the state it leaves. -/
theorem bootClockHeathLifecycle : Obligations.BootClockHeathLifecycle := by
  unfold Obligations.BootClockHeathLifecycle
  refine ⟨fun s w hrun hcause => ?clock, fun s w hrun => ?noLock, fun s hrun => ?heath,
    fun s n hrun hvote hn => ?lifecycle, fun s hrun hvote => ?scrapped⟩
  case clock =>
    rw [exec_clock_locked w hrun]
    have hsources : ∀ i, (sourceAt (clockLocked s) i).st = 1 := sourcesStarting_st _
    obtain ⟨st, r, hlocked, hsteps⟩ := clockLocked_powerOn hrun hcause
    have hwdt : wdtStart (clockLocked s) = wdtStart s := by rw [hlocked]; rfl
    rw [hwdt]
    rw [hlocked] at hsources ⊢
    by_cases hstart : wdtStart s = true
    · rw [if_pos hstart]
      exact ⟨_, rfl, rfl, rfl, hsteps, rfl, hsources 0, hsources 1, hsources 2, fun _ => ⟨rfl, rfl⟩,
        fun h => absurd hstart (by simp [h]), rfl, rfl, rfl, rfl, rfl⟩
    · rw [if_neg hstart]
      exact ⟨_, rfl, rfl, rfl, hsteps, rfl, hsources 0, hsources 1, hsources 2, fun h => absurd h hstart,
        fun _ => rfl, rfl, rfl, rfl, rfl, rfl⟩
  case noLock =>
    rw [exec_clock_unlocked w hrun]
    refine ⟨_, rfl, by simp, by simp, fun h => ?_⟩
    rw [bootFail_bootResult_first _ _ _ h]
    congr 1
    have : min w 0xFFFF % 2 ^ 16 = min w 0xFFFF := by omega
    rw [this]
    rfl
  case heath =>
    rw [exec_heath_runs hrun]
    have hground := heathStep_ground s
    refine ⟨_, rfl, ?_, ?_⟩
    · rw [finishAll_steps, stepDone_steps_self (by rw [ground_steps hground]; exact stepRuns_steps hrun),
        ground_tbUs hground]
    · simp [heathStep_heath, ground_phase hground, ground_tbUs hground]
  case lifecycle =>
    rw [exec_lifecycle_up hrun hvote hn]
    obtain ⟨hsteps, hstate, hword, hmgmt, htest, hhalted, hphase, hcells⟩ := lifecycleUp_fields hrun hn
    refine ⟨_, rfl, ?_⟩
    rw [entropyStep_steps _ 3 (by decide), kickInstantiate_steps]
    split <;> simp [hsteps, hstate, hword, hmgmt, htest, hhalted, hphase, hcells]
  case scrapped =>
    rw [exec_lifecycle_scrapped hrun hvote]
    exact ⟨_, rfl, by simp, by simp, by simp [lcSet], by simp [lcSet], by simp [lcSet], by simp⟩
end Sys2Proof.Proofs

end

section
/-! The entropy sources and the test pattern (O43) -/

namespace Sys2Proof.Proofs
open Sys2Proof Sys2Proof.Machine Sys2Proof.Laws
set_option maxRecDepth 4000

/-! ### The entropy sources and the DRBG -/

theorem sourceAt_congr {s t : State} (h : t.random = s.random) (i : Nat) : sourceAt t i = sourceAt s i := by
  simp only [sourceAt, h]

@[simp] theorem sourceAt_journal (a b : Nat) (r : Bool) (d : List Byte) (s : State) (i : Nat) :
    sourceAt (journal a b r d s) i = sourceAt s i := sourceAt_congr (journal_random ..) i

theorem sourceAt_modSource {i j : Nat} (hi : i < 3) (hj : j < 3) (f : Source → Source) (s : State) :
    sourceAt (modSource i f s) j = if j = i then f (sourceAt s i) else sourceAt s j := by
  interval_cases i <;> interval_cases j <;> rfl

@[simp] theorem sourceAt_modSource_self {i : Nat} (hi : i < 3) (f : Source → Source) (s : State) :
    sourceAt (modSource i f s) i = f (sourceAt s i) := by
  rw [sourceAt_modSource hi hi, if_pos rfl]

/-- The random domain without its three sources: the pool, the DRBG, the raw ports and the wires. -/
def unsourced (r : Random) : Random := { r with ling := {}, sedge := {}, fescue := {} }

@[simp] theorem unsourced_modSource (i : Nat) (f : Source → Source) (s : State) :
    unsourced (modSource i f s).random = unsourced s.random := by
  unfold modSource unsourced modRandom
  dsimp only
  split <;> rfl

@[simp] theorem modSource_steps (i : Nat) (f : Source → Source) (s : State) : (modSource i f s).steps = s.steps := rfl
@[simp] theorem modSource_st (i : Nat) (f : Source → Source) (s : State) :
    (modSource i f s).random.st = s.random.st := congrArg (f := Random.st) (a₁ := unsourced _) (a₂ := unsourced s.random) (unsourced_modSource i f s)
@[simp] theorem modSource_pool (i : Nat) (f : Source → Source) (s : State) :
    (modSource i f s).random.pool = s.random.pool := congrArg (f := Random.pool) (a₁ := unsourced _) (a₂ := unsourced s.random) (unsourced_modSource i f s)
@[simp] theorem modSource_switches (i : Nat) (f : Source → Source) (s : State) :
    (modSource i f s).random.switches = s.random.switches := congrArg (f := Random.switches) (a₁ := unsourced _) (a₂ := unsourced s.random) (unsourced_modSource i f s)
@[simp] theorem modSource_key (i : Nat) (f : Source → Source) (s : State) :
    (modSource i f s).random.key = s.random.key := congrArg (f := Random.key) (a₁ := unsourced _) (a₂ := unsourced s.random) (unsourced_modSource i f s)
@[simp] theorem modSource_v (i : Nat) (f : Source → Source) (s : State) :
    (modSource i f s).random.v = s.random.v := congrArg (f := Random.v) (a₁ := unsourced _) (a₂ := unsourced s.random) (unsourced_modSource i f s)

theorem startupEnd_passed {i : Nat} {w : Window} (h : windowFails i w = none) (s : State) :
    startupEnd i w s = modSource i (fun x => { x with st := if (activeSource s).isSome then 3 else 2 }) s := by
  simp only [startupEnd, h]

theorem startupEnd_failed {i t : Nat} {w : Window} (h : windowFails i w = some t) {s : State}
    (h5 : (tget s.steps 5).isSome = true) :
    startupEnd i w s = nextSource i (countSourceFail i 3 (t == 2) s) := by
  have hsteps : tget (countSourceFail i 3 (t == 2) s).steps 5 = tget s.steps 5 := by
    rw [ground_steps (countSourceFail_ground i 3 (t == 2) s)]
  simp only [startupEnd, h, hsteps]
  rw [if_neg (by cases hs : tget s.steps 5 <;> simp_all)]

/-- What a failed window leaves of its source. -/
def failedSource (apt : Bool) (now : U40) (x : Source) : Source :=
  { x with
    fails := satInc x.fails, lastFail := now, st := if 3 ≤ (satInc x.fails).toNat then 4 else 3
    rct := if apt then x.rct else satInc x.rct, apt := if apt then satInc x.apt else x.apt }

theorem countSourceFail_random (i test : Nat) (apt : Bool) (s : State) :
    (countSourceFail i test apt s).random = (modSource i (failedSource apt s.tbUs) s).random := by
  simp only [countSourceFail, journal_random]
  rfl

/-- The next source in the ring takes over where it is not retired. -/
theorem nextSource_follower {i : Nat} {s : State} (h : (sourceAt s ((i + 1) % 3)).st ≠ 4) :
    nextSource i s = modSource ((i + 1) % 3) (fun x => { x with st := 1 })
      (modRandom (fun r => { r with switches := satInc r.switches }) s) := by
  have hp : (fun j => (sourceAt s j).st != 4) ((i + 1) % 3) = true := by simpa using h
  have hfind : [(i + 1) % 3, (i + 2) % 3, i].find? (fun j => (sourceAt s j).st != 4) = some ((i + 1) % 3) :=
    List.find?_cons_of_pos hp
  simp only [nextSource, hfind]

/-- A failure counted on the ACTIVE source hands over to the follower. -/
theorem failover_sources {i : Nat} (hi : i < 3) (test : Nat) (apt : Bool) {s : State}
    (h : (sourceAt s ((i + 1) % 3)).st ≠ 4) :
    sourceAt (nextSource i (countSourceFail i test apt s)) i = failedSource apt s.tbUs (sourceAt s i) ∧
      (sourceAt (nextSource i (countSourceFail i test apt s)) ((i + 1) % 3)).st = 1 ∧
      unsourced (nextSource i (countSourceFail i test apt s)).random =
        { unsourced s.random with switches := satInc s.random.switches } := by
  have hne : ¬ (i + 1) % 3 = i := by omega
  have hj : (i + 1) % 3 < 3 := Nat.mod_lt _ (by decide)
  have hcount : ∀ j, sourceAt (countSourceFail i test apt s) j = sourceAt (modSource i (failedSource apt s.tbUs) s) j :=
    fun j => sourceAt_congr (countSourceFail_random i test apt s) j
  have hfollower : (sourceAt (countSourceFail i test apt s) ((i + 1) % 3)).st ≠ 4 := by
    rw [hcount, sourceAt_modSource hi hj, if_neg hne]
    exact h
  rw [nextSource_follower hfollower]
  refine ⟨?_, ?_, ?_⟩
  · rw [sourceAt_modSource hj hi, if_neg (Ne.symm hne)]
    change sourceAt (countSourceFail i test apt s) i = _
    rw [hcount, sourceAt_modSource_self hi]
  · rw [sourceAt_modSource_self hj]
  · have hkeep := unsourced_modSource i (failedSource apt s.tbUs) s
    rw [← countSourceFail_random i test apt s] at hkeep
    rw [unsourced_modSource]
    have hsw : (countSourceFail i test apt s).random.switches = s.random.switches := 
      congrArg (f := Random.switches) (a₁ := unsourced _) (a₂ := unsourced s.random) hkeep
    change { unsourced (countSourceFail i test apt s).random with
      switches := satInc (countSourceFail i test apt s).random.switches } = _
    rw [hkeep, hsw]

theorem kickInstantiate_ready {s : State} (h : s.random.st ≠ 0) : kickInstantiate s = s := by
  unfold kickInstantiate
  split
  · exact if_neg fun hc => h hc.1
  · rfl

theorem kickInstantiate_emptyPool {s : State} (h : s.random.pool = []) : kickInstantiate s = s := by
  simp [kickInstantiate, h]

theorem kickReseed_notDue {s : State} (h : s.random.autoDue = false) : kickReseed s = s := by
  unfold kickReseed
  split <;> simp [h]

theorem kickReseed_emptyPool {s : State} (h : s.random.pool = []) : kickReseed s = s := by
  simp [kickReseed, h]

theorem entropyStep_done {s : State} (h : (tget s.steps 5).isSome = true) : entropyStep s = s := by
  simp [entropyStep, h]

theorem modRandom_eq_self {f : Random → Random} {s : State} (h : f s.random = s.random) : modRandom f s = s := by
  rw [modRandom, h]

theorem Random.noWires {r : Random} (hw : r.wires = []) (hl : r.wiresLate = []) :
    { r with wires := [], wiresLate := [] } = r := by
  cases r
  simp_all

theorem serveWires_none {s : State} (hw : s.random.wires = []) (hl : s.random.wiresLate = []) : serveWires s = s := by
  unfold serveWires
  split
  · simp only [hw, hl, List.foldl_nil]
    exact modRandom_eq_self (Random.noWires hw hl)
  · rfl

/-! ### The random domain's commands -/

theorem exec_startupTestComplete_running {s : State} {i : Fin 3} {w : Window} (h : (sourceAt s i.val).st = 1) :
    exec (.startupTestComplete i w) s = .next (entropyStep (kickInstantiate (startupEnd i.val w s))) :=
  if_pos h

theorem exec_sourceAlarm_active {s : State} {i : Nat} (apt : Bool) (h : activeSource s = some i) :
    exec (.sourceAlarm apt) s = .next (sourceAlarm i apt s) := by
  change execSourceAlarm apt s = _
  simp only [execSourceAlarm, h]

theorem exec_srcReinstate_admitted {s : State} {p : Port} (src : U8) (w : Window)
    (h : admitted s p .exec 0x8000 5 1 = true) : exec (.srcReinstate p src w) s =
      .next (reply p (srcReinstateRule src.toNat w s).1 (srcReinstateRule src.toNat w s).2) :=
  execOp_admitted (rule := srcReinstateRule src.toNat w) h

theorem exec_testPatternWrite_admitted {s : State} {p : Port} (v : Bool)
    (h : admitted s p .write 0x8000 3 1 = true) : exec (.testPatternWrite p v) s =
      .next (reply p (testPatternRule v s).1 (testPatternRule v s).2) :=
  writeOp_admitted (rule := testPatternRule v) h

/-- An accepted window of a source outside the test pattern goes to the pool's rule. -/
theorem exec_windowPass_accepted {s : State} {i : Nat} {w : Window} (ha : activeSource s = some i)
    (hp : s.random.testPattern = false) (hw : windowFails i w = none) :
    exec (.windowPass w) s = .next (entropyStep (assignWindow (windowBytes w)
      (modSource i (fun y => { y with passed := satInc y.passed }) s))) := by
  change execWindowPass w s = _
  have hof : BitVec.ofNat 1024 w.toNat = w := by simp
  have hlfsr : modRandom (fun r => { r with lfsr := s.random.lfsr }) s = s := modRandom_eq_self rfl
  simp only [execWindowPass, ha, hp, Bool.false_eq_true, if_false, hof, hw, hlfsr, Option.isSome_none]

/-- A word for a ready DRBG with nothing due goes to the pool, to a raw buffer, or is dropped. -/
theorem assignWindow_ready (w : List Byte) {s : State} (hst : s.random.st = 1) (hw : s.random.wires = [])
    (hl : s.random.wiresLate = []) (hd : s.random.autoDue = false) (hp : s.random.prWaiting = [])
    (hr : s.random.reseedWaiting = false) :
    assignWindow w s = if s.random.pool.isEmpty then modRandom (fun r => { r with pool := [w] }) s
      else match rawTaker s.random with
        | some p => modRandom (fun r => { r with rawBuf := r.rawBuf.set p w, rawLast := p }) s
        | none => if s.random.pool.length < 2 then modRandom (fun r => { r with pool := r.pool ++ [w] }) s else s := by
  have hidle : ∀ t : State, t.random.st = 1 → t.random.autoDue = false → t.random.wires = [] →
      t.random.wiresLate = [] → serveWires (kickReseed (kickInstantiate t)) = t := by
    intro t h1 h2 h3 h4
    rw [kickInstantiate_ready (by simp [h1]), kickReseed_notDue h2, serveWires_none h3 h4]
  have hnone : ((!s.random.prWaiting.isEmpty || s.random.reseedWaiting) && s.random.st != 3) = false := by
    simp [hp, hr]
  unfold assignWindow
  dsimp only
  rw [hnone, if_neg Bool.false_ne_true]
  refine if_congr Iff.rfl (hidle (modRandom _ s) hst hd hw hl) ?_
  cases rawTaker s.random with
  | some p => exact kickInstantiate_ready (s := modRandom _ s) (by simp [modRandom, hst])
  | none =>
    dsimp only
    by_cases hlen : s.random.pool.length < 2
    · rw [if_pos hlen]
      exact hidle (modRandom _ s) hst hd hw hl
    · rw [if_neg hlen]
      exact hidle s hst hd hw hl

theorem startupTest_done {s : State} {i : Fin 3} {w : Window} (h1 : (sourceAt s i.val).st = 1)
    (h5 : (tget s.steps 5).isSome = true) (hst : s.random.st = 1) (hw : windowFails i.val w = none) :
    exec (.startupTestComplete i w) s = .next
      (modSource i.val (fun x => { x with st := if (activeSource s).isSome = true then 3 else 2 }) s) := by
  rw [exec_startupTestComplete_running h1, startupEnd_passed hw, kickInstantiate_ready (by simp [hst]),
    entropyStep_done (by simpa using h5)]

theorem startupTest_failed {s : State} {i : Fin 3} {w : Window} {t : Nat} (h1 : (sourceAt s i.val).st = 1)
    (h5 : (tget s.steps 5).isSome = true) (hst : s.random.st = 1) (hw : windowFails i.val w = some t)
    (hf : (sourceAt s ((i.val + 1) % 3)).st ≠ 4) :
    exec (.startupTestComplete i w) s = .next (nextSource i.val (countSourceFail i.val 3 (t == 2) s)) := by
  have hrandom := (failover_sources i.isLt 3 (t == 2) hf).2.2
  have hready : (nextSource i.val (countSourceFail i.val 3 (t == 2) s)).random.st = 1 :=
    (congrArg (f := Random.st) (a₁ := unsourced _) hrandom).trans hst
  have hground : ground (nextSource i.val (countSourceFail i.val 3 (t == 2) s)) = ground s := by simp
  rw [exec_startupTestComplete_running h1, startupEnd_failed hw h5, kickInstantiate_ready (by simp [hready]),
    entropyStep_done (by rw [ground_steps hground]; exact h5)]

theorem srcReinstateRule_range {src : Nat} (w : Window) (s : State) (h : 3 ≤ src) :
    srcReinstateRule src w s = (eRange, s) := by
  have : sourceNo src = false := decide_eq_false (by omega)
  simp [srcReinstateRule, this]

theorem srcReinstateRule_source {src : Nat} (w : Window) (s : State) (h : src < 3) :
    srcReinstateRule src w s = if (sourceAt s src).st ≠ 4 then (eState, s)
      else if (windowFails src w).isSome then (eIntegrity, s)
      else (eOk, modSource src (fun x => { x with fails := 0, st := if (activeSource s).isSome then 3 else 2 }) s) := by
  have : sourceNo src = true := decide_eq_true h
  simp [srcReinstateRule, this]

/-- What switching the test pattern leaves of the random domain. -/
theorem patternSwitch_random {s : State} (on : Bool) (h : s.random.st ≠ 3) :
    (patternSwitch on s).random = { s.random with
      testPattern := on, pool := [], key := zeros 32, v := zeros 16, reseedCounter := 0, autoDue := false, st := 0 } := by
  simp only [patternSwitch, journalDrbg, journal_random, drbgZero, modRandom]
  congr 1
  exact if_neg h

theorem testPatternRule_on {s : State} (hl : s.lc.state = 0) (hp : s.random.testPattern = false) :
    testPatternRule true s = (eOk, patternOn s) := by
  simp [testPatternRule, hl, hp]

theorem testPatternRule_off {s : State} {i : Nat} (hp : s.random.testPattern = true) (ha : activeSource s = some i) :
    testPatternRule false s = (eOk, modSource i (fun x => { x with st := 1 }) (patternSwitch false s)) := by
  simp [testPatternRule, patternOff, hp, ha]

theorem activeSource_lt {s : State} {i : Nat} (h : activeSource s = some i) : i < 3 := by
  have := List.mem_of_find?_eq_some h
  simp at this
  omega

/-- Settles O43: each command's clause is its rule's branch, read through the sources and the rest of the domain. -/
theorem randomSources : Obligations.RandomSources := by
  unfold Obligations.RandomSources
  refine ⟨fun s i w h1 h5 hst => ⟨fun hw => ?pass, fun hw hf => ?fail⟩, fun s apt i hi ha hf => ?alarm,
    fun s w i ha hp hw hst hwires hlate hdue hpr hres h5 => ?window, fun s p src w hadm => ?reinstate,
    fun s p hadm => ?pattern⟩
  case pass => exact startupTest_done h1 h5 hst hw
  case fail =>
    obtain ⟨t, ht⟩ := Option.ne_none_iff_exists'.mp hw
    obtain ⟨hself, hnext, hrest⟩ := failover_sources i.isLt 3 (t == 2) hf
    refine ⟨_, startupTest_failed h1 h5 hst ht hf, ?_, ?_, hnext, ?_, by simp⟩
    · rw [hself]; rfl
    · rw [hself]; rfl
    · exact congrArg (f := Random.switches) (a₁ := unsourced _) hrest
  case alarm =>
    obtain ⟨hself, hnext, hrest⟩ := failover_sources (s := dropRaw s) hi (if apt then 2 else 1) apt hf
    have hfield : ∀ {α : Type} (f : Random → α), f (unsourced (sourceAlarm i apt s).random) =
        f { unsourced (dropRaw s).random with switches := satInc s.random.switches } := fun f => congrArg f hrest
    refine ⟨_, exec_sourceAlarm_active apt ha, ?_, ?_, ?_, ?_, hnext, hfield Random.switches, hfield Random.pool,
      hfield Random.key, hfield Random.st, by simp⟩
    all_goals
      rw [sourceAlarm, hself]
      rfl
  case window =>
    have hself : (sourceAt (modSource i (fun y => { y with passed := satInc y.passed }) s) i).passed =
        satInc (sourceAt s i).passed := by rw [sourceAt_modSource_self (activeSource_lt ha)]
    have hkeep := unsourced_modSource i (fun y => { y with passed := satInc y.passed }) s
    have hsteps : (modSource i (fun y => { y with passed := satInc y.passed }) s).steps = s.steps := rfl
    rw [exec_windowPass_accepted ha hp hw]
    generalize modSource i (fun y => { y with passed := satInc y.passed }) s = u at hself hkeep hsteps ⊢
    have hfield : ∀ {α : Type} (f : Random → α), f (unsourced u.random) = f (unsourced s.random) :=
      fun f => congrArg f hkeep
    have hpool : u.random.pool = s.random.pool := hfield Random.pool
    have hbuf : u.random.rawBuf = s.random.rawBuf := hfield Random.rawBuf
    have htaker : rawTaker u.random = rawTaker s.random := hfield rawTaker
    have hst' : u.random.st = 1 := (hfield Random.st).trans hst
    have hkey : u.random.key = s.random.key := hfield Random.key
    have hv : u.random.v = s.random.v := hfield Random.v
    have hdone : (tget u.steps 5).isSome = true := by rw [hsteps]; exact h5
    rw [assignWindow_ready _ hst' ((hfield Random.wires).trans hwires) ((hfield Random.wiresLate).trans hlate)
      ((hfield Random.autoDue).trans hdue) ((hfield Random.prWaiting).trans hpr) ((hfield Random.reseedWaiting).trans hres),
      hpool, htaker]
    by_cases hempty : s.random.pool = []
    · rw [if_pos (by simp [hempty]), entropyStep_done (by exact hdone)]
      exact ⟨_, rfl, hself, fun _ => ⟨rfl, hbuf⟩, fun q h => absurd hempty h, fun h => absurd hempty h, hst', hkey, hv⟩
    · rw [if_neg (by simpa using hempty)]
      cases htake : rawTaker s.random with
      | some q =>
        rw [entropyStep_done (by exact hdone)]
        refine ⟨_, rfl, hself, fun h => absurd h hempty, fun q' _ hq => ?_, fun _ h => absurd h (by simp), hst', hkey, hv⟩
        obtain rfl := Option.some.inj hq
        exact ⟨hpool, congrArg (List.set · q (windowBytes w)) hbuf, rfl⟩
      | none =>
        dsimp only
        split
        · rw [entropyStep_done (by exact hdone)]
          exact ⟨_, rfl, hself, fun h => absurd h hempty, fun q _ h => absurd h (by simp),
            fun _ _ => ⟨hbuf, congrArg (· ++ [windowBytes w]) hpool⟩, hst', hkey, hv⟩
        · rw [entropyStep_done (by exact hdone)]
          exact ⟨_, rfl, hself, fun h => absurd h hempty, fun q _ h => absurd h (by simp),
            fun _ _ => ⟨hbuf, hpool⟩, hst', hkey, hv⟩
  case reinstate =>
    rw [exec_srcReinstate_admitted src w hadm]
    refine ⟨fun h => ?_, fun h hs => ?_, fun h hs hw => ?_, fun h hs hw => ?_⟩
    · rw [srcReinstateRule_range w s h]
    · rw [srcReinstateRule_source w s h, if_pos hs]
    · rw [srcReinstateRule_source w s h, if_neg (not_not.mpr hs), if_pos (Option.isSome_iff_ne_none.mpr hw)]
    · rw [srcReinstateRule_source w s h, if_neg (not_not.mpr hs), hw]
      rfl
  case pattern =>
    refine ⟨fun hlc => ?_, fun hlc htp => ?_, fun hlc htp hst => ?_, fun htp => ?_, fun i htp hst ha => ?_⟩ <;>
      rw [exec_testPatternWrite_admitted _ hadm]
    · rw [testPatternRule, if_pos rfl, if_pos hlc]
    · simp [testPatternRule, hlc, htp]
    · rw [testPatternRule_on hlc htp]
      have hr := patternSwitch_random true hst
      refine ⟨patternOn s, rfl, ?_, ?_, ?_, ?_, ?_, ?_, ?_, by simp⟩
      all_goals simp only [patternOn, modRandom, hr]
      simp only [funext_iff, sourceAt, implies_true]
    · simp [testPatternRule, patternOff, htp]
    · rw [testPatternRule_off htp ha]
      have hr := patternSwitch_random false hst
      have hfield : ∀ {α : Type} (f : Random → α), f (unsourced (modSource i (fun x => { x with st := 1 })
          (patternSwitch false s)).random) = f (unsourced (patternSwitch false s).random) :=
        fun f => congrArg f (unsourced_modSource ..)
      refine ⟨_, rfl, (hfield Random.testPattern).trans ?_, ?_, (hfield Random.pool).trans ?_,
        (hfield Random.st).trans ?_, (hfield Random.key).trans ?_, by simp⟩
      · rw [hr]; rfl
      · rw [sourceAt_modSource_self (activeSource_lt ha)]
      · rw [hr]; rfl
      · rw [hr]; rfl
      · rw [hr]; rfl
end Sys2Proof.Proofs

end

section
/-! The boot steps KAT, ENTROPY and VAULT (O12) -/

namespace Sys2Proof.Proofs
open Sys2Proof Sys2Proof.Machine Sys2Proof.Laws
set_option maxRecDepth 4000

/-! ### Instantiation of the DRBG at the boot step ENTROPY -/

/-- With an empty pool the thresholds only change the DRBG's state and whether a reseed is due. -/
theorem drbgThresholds_random {s : State} (h : s.random.pool = []) :
    ∃ st d, (drbgThresholds s).random = { s.random with st := st, autoDue := d } ∧ (st = s.random.st ∨ st = 2) := by
  have hjournal : ∀ t : State, (journalDrbg 2 1 t).random = t.random := fun t => journal_random ..
  unfold drbgThresholds
  dsimp only
  split
  · refine ⟨2, true, ?_, Or.inr rfl⟩
    rw [drbgExpire, kickReseed_emptyPool (by rw [hjournal]; exact h), hjournal]
    rfl
  · split
    · refine ⟨s.random.st, true, ?_, Or.inl rfl⟩
      exact congrArg State.random (kickReseed_emptyPool (s := modRandom (fun r => { r with autoDue := true }) s) h)
    · exact ⟨s.random.st, s.random.autoDue, rfl, Or.inl rfl⟩

/-- What an instantiation leaves of the random domain: its sources and its pool as they were. -/
def Instantiated (r t : Random) : Prop :=
  t.ling = r.ling ∧ t.sedge = r.sedge ∧ t.fescue = r.fescue ∧ t.pool = r.pool ∧
    t.wires = r.wires ∧ t.wiresLate = r.wiresLate ∧ t.st ≠ 0 ∧ t.instantiations = satInc r.instantiations

theorem wireDeliver_random {s : State} (c : Nat) (hst : s.random.st = 1) (h : s.random.pool = []) :
    ∃ k v n st d, (wireDeliver c s).random = { s.random with key := k, v := v, reseedCounter := n, st := st, autoDue := d } ∧
      st ≠ 0 := by
  obtain ⟨st, d, hr, hor⟩ := drbgThresholds_random (s := modRandom (fun r => { r with
      key := (drbgBytes s.random 32).2.1, v := (drbgBytes s.random 32).2.2, reseedCounter := r.reseedCounter + 1 }) s) h
  have hnz : st ≠ 0 := by
    rcases hor with rfl | rfl
    · exact fun h0 => absurd (hst.symm.trans h0) (by decide)
    · decide
  refine ⟨(drbgBytes s.random 32).2.1, (drbgBytes s.random 32).2.2, s.random.reseedCounter + 1, st, d, ?_, hnz⟩
  unfold wireDeliver
  rw [drbgGenerate_some.mpr ⟨hst, rfl⟩]
  dsimp only
  split
  · exact hr
  · exact hr

theorem drbgInstantiate_random (w : List Byte) {s : State} (hp : s.random.pool = []) (hw : s.random.wires = [])
    (hl : s.random.wiresLate = []) : Instantiated s.random (drbgInstantiate w s).random := by
  unfold drbgInstantiate
  dsimp only
  obtain ⟨k, v, n, st, d, hr, hst⟩ := wireDeliver_random (s := modRandom (fun r => { r with
      key := (drbgUpdate (drbgDf (w ++ personalisation s)) (zeros 32) (zeros 16)).1
      v := (drbgUpdate (drbgDf (w ++ personalisation s)) (zeros 32) (zeros 16)).2
      st := 1, reseedCounter := 0, instantiations := satInc r.instantiations, lastReseed := s.tbUs, autoDue := false }) s)
      1 rfl hp
  rw [serveWires_none (by rw [hr]; exact hw) (by rw [hr]; exact hl), hr]
  exact ⟨rfl, rfl, rfl, rfl, rfl, rfl, hst, rfl⟩

theorem Random.noPool {r : Random} (h : r.pool = []) : { r with pool := [] } = r := by
  cases r
  simp_all

/-- The first passed window of the ACTIVE source instantiates an idle DRBG. -/
theorem assignWindow_instantiates (w : List Byte) {s : State} (h3 : (tget s.steps 3).isSome = true)
    (hst : s.random.st = 0) (hpool : s.random.pool = []) (hw : s.random.wires = []) (hl : s.random.wiresLate = [])
    (hp : s.random.prWaiting = []) (hr : s.random.reseedWaiting = false) :
    assignWindow w s = drbgInstantiate w s := by
  have hnone : ((!s.random.prWaiting.isEmpty || s.random.reseedWaiting) && s.random.st != 3) = false := by
    simp [hp, hr]
  have hempty : modRandom (fun r => { r with pool := [] }) (modRandom (fun r => { r with pool := [w] }) s) = s :=
    modRandom_eq_self (f := fun r => { r with pool := [] }) (Random.noPool hpool)
  have hkick : kickInstantiate (modRandom (fun r => { r with pool := [w] }) s) = drbgInstantiate w s :=
    (if_pos ⟨hst, h3⟩).trans (congrArg (drbgInstantiate w) hempty)
  unfold assignWindow
  dsimp only
  rw [hnone, if_neg Bool.false_ne_true, if_pos (by simp [hpool]), hkick]
  obtain ⟨-, -, -, hpool', hwires', hlate', -⟩ := drbgInstantiate_random w hpool hw hl
  rw [kickReseed_emptyPool (hpool'.trans hpool), serveWires_none (hwires'.trans hw) (hlate'.trans hl)]

theorem sourceAt_instantiated {s t : State} (h : Instantiated s.random t.random) (i : Nat) :
    sourceAt t i = sourceAt s i := by
  obtain ⟨h0, h1, h2, -⟩ := h
  simp only [sourceAt, h0, h1, h2]

/-! ### KAT -/

theorem katFails_nil (id u : Nat) : katFails [] id u = 0 := rfl

theorem katResult_nil (id : Nat) : katResult [] id = 0 := by
  have hzero : ∀ us : List Nat, us.foldl (fun a u => max a (let n := katFails [] id u; if n = 0 then 0 else if n < 4 then 1 else 2)) 0 = 0 := by
    intro us
    induction us with
    | nil => rfl
    | cons u us ih => simpa [katFails_nil] using ih
  exact hzero _

theorem katTest_nil (s : State) (id : Nat) : katTest [] s id = { s with katResults := s.katResults.set (id - 1) 0 } := by
  simp only [katTest, katResult_nil]
  rfl

/-- The results of ten passed tests. -/
theorem katRun_nil {s : State} (h : s.katResults.length = 10) :
    [1, 2, 3, 4, 5, 6, 7, 8, 9, 10].foldl (katTest []) s = { s with katResults := List.replicate 10 0 } := by
  have hset : ∀ l : List U8, l.length = 10 → ([1, 2, 3, 4, 5, 6, 7, 8, 9, 10].foldl (fun l id => l.set (id - 1) 0) l) =
      List.replicate 10 0 := by
    intro l hl
    match l, hl with
    | [_, _, _, _, _, _, _, _, _, _], _ => rfl
  rw [← hset _ h]
  simp only [List.foldl_cons, List.foldl_nil, katTest_nil]

theorem exec_kat_runs {run : List KatFail} {s : State} (h : stepRuns s 4 = true) :
    exec (.kat run) s = .next (
      if [3, 4, 5, 6, 7, 9].any (fun id => katResult run id == 2)
      then toRecovery false ([1, 2, 3, 4, 5, 6, 7, 8, 9, 10].foldl (katTest run) s)
      else finishAll (entropyStep (stepDone 4 ([1, 2, 3, 4, 5, 6, 7, 8, 9, 10].foldl (katTest run) s)))) := by
  change execKat run s = _
  unfold execKat
  rw [if_neg (by simp [h])]
  exact (apply_ite Host.Outcome.next _ _ _).symm

/-- A test that has not failed every attempt stores its result and nothing else. -/
theorem katTest_passed {run : List KatFail} {id : Nat} (h : katResult run id < 2) (s : State) :
    katTest run s id = { s with katResults := s.katResults.set (id - 1) (BitVec.ofNat 8 (katResult run id)) } :=
  if_pos h

/-- The PKE's known-answer test fails every attempt. -/
def pkeKatFails : List KatFail := [⟨6, 0, 4⟩]

theorem katTest_pke (s : State) : (katTest pkeKatFails s 6).pke.health.retired = true := by
  have hnot : ¬ katResult pkeKatFails 6 < 2 := by decide
  rw [katTest]
  dsimp only
  rw [if_neg hnot]
  simp [katConsequence, retirePke, modPke]

theorem katRun_pke (s : State) :
    ([1, 2, 3, 4, 5, 6, 7, 8, 9, 10].foldl (katTest pkeKatFails) s).pke.health.retired = true := by
  have hother : ∀ (id : Nat) (t : State), katResult pkeKatFails id < 2 → (katTest pkeKatFails t id).pke = t.pke :=
    fun id t h => by rw [katTest_passed h]
  simp only [List.foldl_cons, List.foldl_nil]
  rw [hother 10 _ (by decide), hother 9 _ (by decide), hother 8 _ (by decide), hother 7 _ (by decide)]
  exact katTest_pke _

/-! ### ENTROPY -/

/-- The sources after one passing window each: Ling ACTIVE, the others on STANDBY. -/
def startedUp (s : State) : State :=
  modSource 2 (fun x => { x with st := 3 }) (modSource 1 (fun x => { x with st := 3 })
    (modSource 0 (fun x => { x with st := 2 }) s))

theorem startedUp_sources {s : State} : (sourceAt (startedUp s) 0).st = 2 ∧ (sourceAt (startedUp s) 1).st = 3 ∧
    (sourceAt (startedUp s) 2).st = 3 := ⟨rfl, rfl, rfl⟩

theorem startedUp_unsourced (s : State) : unsourced (startedUp s).random = unsourced s.random := by
  simp only [startedUp, unsourced_modSource]

theorem passedOnce_fields (s : State) :
    (sourceAt (modSource 0 (fun y => { y with passed := satInc y.passed }) (startedUp s)) 0).st = 2 ∧
    (sourceAt (modSource 0 (fun y => { y with passed := satInc y.passed }) (startedUp s)) 1).st = 3 ∧
    (sourceAt (modSource 0 (fun y => { y with passed := satInc y.passed }) (startedUp s)) 2).st = 3 ∧
    unsourced (modSource 0 (fun y => { y with passed := satInc y.passed }) (startedUp s)).random = unsourced s.random ∧
    ground (modSource 0 (fun y => { y with passed := satInc y.passed }) (startedUp s)) = ground s ∧
    cellsOf (modSource 0 (fun y => { y with passed := satInc y.passed }) (startedUp s)) = cellsOf s :=
  ⟨rfl, rfl, rfl, by rw [unsourced_modSource, startedUp_unsourced], by simp [startedUp], by simp [startedUp]⟩

theorem startupRun_running {i : Nat} {w : Window} {ws : List Window} {s : State} (h : (sourceAt s i).st = 1) :
    startupRun i (w :: ws) s = startupRun i ws (startupEnd i w s) := if_pos h

theorem startupRun_ended {i : Nat} {w : Window} {ws : List Window} {s : State} (h : (sourceAt s i).st ≠ 1) :
    startupRun i (w :: ws) s = (w :: ws, s) := if_neg h

theorem activeSource_none {s : State} (h0 : (sourceAt s 0).st ≠ 2) (h1 : (sourceAt s 1).st ≠ 2)
    (h2 : (sourceAt s 2).st ≠ 2) : activeSource s = none := by
  simp only [activeSource, List.find?_eq_none, beq_iff_eq]
  intro i hi
  simp only [List.mem_cons, List.not_mem_nil, or_false] at hi
  rcases hi with rfl | rfl | rfl
  · exact h0
  · exact h1
  · exact h2

theorem activeSource_ling {s : State} (h : (sourceAt s 0).st = 2) : activeSource s = some 0 :=
  List.find?_cons_of_pos (by simp [h])

theorem startup_runs {s : State} {a b c d : Window} (h0 : (sourceAt s 0).st = 1) (h1 : (sourceAt s 1).st = 1)
    (h2 : (sourceAt s 2).st = 1) (ha : windowFails 0 a = none) (hb : windowFails 1 b = none)
    (hc : windowFails 2 c = none) :
    startupPair [a, d] [b] s = (([d], []), modSource 1 (fun x => { x with st := 3 })
      (modSource 0 (fun x => { x with st := 2 }) s)) ∧
    startupRun 2 [c] (modSource 1 (fun x => { x with st := 3 }) (modSource 0 (fun x => { x with st := 2 }) s)) =
      ([], startedUp s) := by
  have hling : startupEnd 0 a s = modSource 0 (fun x => { x with st := 2 }) s := by
    rw [startupEnd_passed ha, activeSource_none (by rw [h0]; decide) (by rw [h1]; decide) (by rw [h2]; decide)]
    rfl
  have hsedge : ∀ t, (sourceAt t 0).st = 2 → startupEnd 1 b t = modSource 1 (fun x => { x with st := 3 }) t := by
    intro t ht
    rw [startupEnd_passed hb, activeSource_ling ht]
    rfl
  have hfescue : ∀ t, (sourceAt t 0).st = 2 → startupEnd 2 c t = modSource 2 (fun x => { x with st := 3 }) t := by
    intro t ht
    rw [startupEnd_passed hc, activeSource_ling ht]
    rfl
  constructor
  · rw [startupPair, if_pos ⟨h0, h1⟩, hling, hsedge _ rfl]
    simp only [startupPair, startupRun]
    exact if_neg (by decide : ¬ (2 : U8) = 1) ▸ rfl
  · rw [startupRun_running (by exact h2), hfescue _ rfl]
    rfl

theorem stepRuns_entropy {s : State} (h : stepRuns s 5 = true) :
    (coresRun s && s.phase == .start && !s.halted && s.refclk && (tget s.steps 1).isSome && (tget s.steps 5).isNone) = true := by
  simp only [stepRuns, stepAfter, List.all_cons, List.all_nil] at h
  revert h
  cases coresRun s <;> cases s.phase == .start <;> cases s.halted <;> cases s.refclk <;>
    cases (tget s.steps 1).isSome <;> cases (tget s.steps 5).isNone <;> simp

theorem exec_entropy_passed {s : State} {a b c d : Window} (h : stepRuns s 5 = true) (h0 : (sourceAt s 0).st = 1)
    (h1 : (sourceAt s 1).st = 1) (h2 : (sourceAt s 2).st = 1) (ha : windowFails 0 a = none)
    (hb : windowFails 1 b = none) (hc : windowFails 2 c = none) (hd : windowFails 0 d = none) :
    exec (.entropy [a, d] [b] [c]) s = .next (entropyStep (kickInstantiate (assignWindow (windowBytes d)
      (modSource 0 (fun y => { y with passed := satInc y.passed }) (startedUp s))))) := by
  change execEntropy [a, d] [b] [c] s = _
  obtain ⟨hpair, hrun⟩ := startup_runs (d := d) h0 h1 h2 ha hb hc
  unfold execEntropy
  rw [if_neg (by rw [stepRuns_entropy h]; decide), hpair]
  dsimp only
  rw [hrun]
  dsimp only
  rw [activeSource_ling (s := startedUp s) rfl]
  simp only [Option.getD_some, List.head?_cons, hd]

theorem exec_vault_up {s : State} (a b : Bool) (r : List VaultTry) (info : EmmcInfo) (h : stepRuns s 6 = true) :
    exec (.vault (.up a b :: r) info) s = .next (stepDone 6 (modVault (fun v => { v with eff := 0 })
      (vaultUp 0x01 a b info (timeoutArrived 6 s)))) := by
  change execVault (.up a b :: r) info s = _
  unfold execVault
  rw [if_neg (by simp [h])]
  rfl

theorem exec_vault_lacks {s : State} (r : List VaultTry) (info : EmmcInfo) (h : stepRuns s 6 = true) :
    exec (.vault (.lacksFeature :: r) info) s = .next (toRecovery false (bootFail 6 eRefused 0
      (modVault (fun v => { v with eff := 3 }) (timeoutArrived 6 s)))) := by
  change execVault (.lacksFeature :: r) info s = _
  unfold execVault
  rw [if_neg (by simp [h])]
  rfl

@[simp] theorem toRecovery_phase (b : Bool) (s : State) : (toRecovery b s).phase = .recovery := by
  simp [toRecovery]

@[simp] theorem toRecovery_pke (b : Bool) (s : State) : (toRecovery b s).pke = s.pke := by
  simp [toRecovery]

@[simp] theorem toRecovery_steps (b : Bool) (s : State) : (toRecovery b s).steps = s.steps := by
  simp [toRecovery]

theorem entropyStep_completes {s : State} (h5 : tget s.steps 5 = none) (h3 : (tget s.steps 3).isSome = true)
    (hran : ∀ i, i < 3 → (sourceAt s i).st ≠ 0 ∧ (sourceAt s i).st ≠ 1) (hst : s.random.st ≠ 0) :
    entropyStep s = stepDone 5 s := by
  have hall : [0, 1, 2].all (fun i => (sourceAt s i).st != 0 && ((sourceAt s i).st != 1 || (sourceAt s i).fails != 0)) = true := by
    simp only [List.all_eq_true, Bool.and_eq_true, Bool.or_eq_true, bne_iff_ne]
    intro i hi
    have hlt : i < 3 := by
      simp only [List.mem_cons, List.not_mem_nil, or_false] at hi
      omega
    exact ⟨(hran i hlt).1, Or.inl (hran i hlt).2⟩
  obtain ⟨v, hv⟩ := Option.isSome_iff_exists.mp h3
  unfold entropyStep
  dsimp only
  rw [hall, if_neg (by simp [h5, hv]), if_neg hst]

/-- The window that instantiates the DRBG completes the step. -/
theorem entropy_instantiates (w : List Byte) {s : State} (h5 : tget s.steps 5 = none)
    (h3 : (tget s.steps 3).isSome = true) (hran : ∀ i, i < 3 → (sourceAt s i).st ≠ 0 ∧ (sourceAt s i).st ≠ 1)
    (hst : s.random.st = 0) (hpool : s.random.pool = []) (hwires : s.random.wires = [])
    (hlate : s.random.wiresLate = []) (hpr : s.random.prWaiting = []) (hres : s.random.reseedWaiting = false) :
    ∃ t, entropyStep (kickInstantiate (assignWindow w s)) = t ∧ (∀ i, sourceAt t i = sourceAt s i) ∧
      t.random.instantiations = satInc s.random.instantiations ∧ tget t.steps 5 = some s.tbUs ∧ t.phase = s.phase ∧
      cellsOf t = cellsOf s := by
  have hinst := drbgInstantiate_random w hpool hwires hlate
  have hground : ground (drbgInstantiate w s) = ground s := by simp
  have hcells : cellsOf (drbgInstantiate w s) = cellsOf s := by simp
  have hsources := sourceAt_instantiated hinst
  obtain ⟨-, -, -, hpool', -, -, hst', hcount⟩ := hinst
  rw [assignWindow_instantiates w h3 hst hpool hwires hlate hpr hres]
  generalize drbgInstantiate w s = u at hground hcells hsources hpool' hst' hcount ⊢
  have h5' : tget u.steps 5 = none := by rw [ground_steps hground]; exact h5
  rw [kickInstantiate_ready hst', entropyStep_completes h5' (by rw [ground_steps hground]; exact h3)
    (fun i hi => by rw [hsources]; exact hran i hi) hst']
  refine ⟨_, rfl, fun i => ?_, by rw [stepDone_random, hcount], ?_, ?_, ?_⟩
  · rw [sourceAt_congr (stepDone_random ..), hsources]
  · rw [stepDone_steps_self h5', ground_tbUs hground]
  · rw [stepDone_phase, ground_phase hground]
  · rw [stepDone_cellsOf, hcells]

/-- Settles O12: KAT folds its ten tests, ENTROPY its start-up windows, VAULT its bring-up. -/
theorem bootTestsAndVault : Obligations.BootTestsAndVault := by
  unfold Obligations.BootTestsAndVault
  refine ⟨fun s hrun hlen => ?kat, fun s hrun => ?katFails,
    fun s a b c d hrun h3 h0 h1 h2 hpool hst hwires hlate hpr hres ha hb hc hd => ?entropy,
    fun s a b r info hrun => ?vaultUp, fun s r info hrun => ?vaultLacks⟩
  case kat =>
    rw [exec_kat_runs hrun, if_neg (by simp [katResult_nil]), katRun_nil hlen]
    refine ⟨_, rfl, by simp, ?_, by simp, by simp, by simp⟩
    rw [finishAll_steps, entropyStep_steps _ 4 (by decide)]
    exact stepDone_steps_self (s := { s with katResults := List.replicate 10 0 }) (stepRuns_steps hrun)
  case katFails =>
    rw [exec_kat_runs hrun, if_pos (by decide)]
    refine ⟨_, rfl, toRecovery_phase .., ?_, ?_⟩
    · rw [toRecovery_pke]
      exact katRun_pke s
    · rw [toRecovery_steps]
      exact ground_steps (foldl_ground _ (katTest_ground _) _ s)
  case entropy =>
    rw [exec_entropy_passed hrun h0 h1 h2 ha hb hc hd]
    obtain ⟨hling, hsedge, hfescue, hkeep, hground, hcells⟩ := passedOnce_fields s
    generalize modSource 0 (fun y => { y with passed := satInc y.passed }) (startedUp s) = u at *
    have hfield : ∀ {α : Type} (f : Random → α), f (unsourced u.random) = f (unsourced s.random) := fun f => congrArg f hkeep
    have hsteps : u.steps = s.steps := ground_steps hground
    have hsources : ∀ i, i < 3 → (sourceAt u i).st ≠ 0 ∧ (sourceAt u i).st ≠ 1 := by
      intro i hi
      interval_cases i
      · rw [hling]; decide
      · rw [hsedge]; decide
      · rw [hfescue]; decide
    obtain ⟨t, ht, hsame, hcount, hdone, hphase, hcells'⟩ := entropy_instantiates (windowBytes d) (s := u)
      (by rw [hsteps]; exact stepRuns_steps hrun) (by rw [hsteps]; exact h3) hsources ((hfield Random.st).trans hst)
      ((hfield Random.pool).trans hpool) ((hfield Random.wires).trans hwires) ((hfield Random.wiresLate).trans hlate)
      ((hfield Random.prWaiting).trans hpr) ((hfield Random.reseedWaiting).trans hres)
    rw [ht]
    exact ⟨t, rfl, by rw [hsame, hling], by rw [hsame, hsedge], by rw [hsame, hfescue],
      hcount.trans (congrArg satInc (hfield Random.instantiations)), by rw [hdone, ground_tbUs hground],
      by rw [hphase, ground_phase hground], by rw [hcells', hcells]⟩
  case vaultUp =>
    have hground : ground (vaultUp 0x01 a b info (timeoutArrived 6 s)) = ground s := by simp
    have hcells : cellsOf (vaultUp 0x01 a b info (timeoutArrived 6 s)) = cellsOf s := by simp
    have hstored : stored (vaultUp 0x01 a b info (timeoutArrived 6 s)) = stored s := by simp
    rw [exec_vault_up a b r info hrun]
    generalize vaultUp 0x01 a b info (timeoutArrived 6 s) = u at hground hcells hstored ⊢
    have hsteps := stepDone_steps_self (s := modVault (fun v => { v with eff := 0 }) u) (k := 6)
      (by rw [modVault_steps, ground_steps hground]; exact stepRuns_steps hrun)
    refine ⟨_, rfl, by simp [modVault], by simpa [ground_tbUs hground] using hsteps, ?_, ?_, ?_, by simp [hcells]⟩
    · rw [stepDone_vault]
      exact congrArg (f := Stored.user) (a₁ := stored u) (a₂ := stored s) hstored
    · rw [stepDone_vault]
      exact congrArg (f := Stored.rpmb) (a₁ := stored u) (a₂ := stored s) hstored
    · rw [stepDone_phase, modVault_phase, ground_phase hground]
  case vaultLacks =>
    rw [exec_vault_lacks r info hrun]
    refine ⟨rfl, ?_⟩
    rw [after_next, toRecovery_phase]
end Sys2Proof.Proofs

end

section
/-! The boot steps RUNTIME, DISCOVERY and POLICY, and the CORE reset (O13) -/

namespace Sys2Proof.Proofs
open Sys2Proof Sys2Proof.Machine Sys2Proof.Laws
set_option maxRecDepth 4000

/-! ### RUNTIME -/

/-- What loading the keys leaves alone of a state. -/
structure Running where
  lc : LifeCycle
  chans : Vector Channel 6
  random : Random
  rtCopy : U8
  rtDigest : List Byte
  testHonoured : Bool
  phase : Phase
  coresDown : Bool

/-- The part of a state that loading the keys leaves alone. -/
def running (s : State) : Running := ⟨s.lc, s.chans, s.random, s.rtCopy, s.rtDigest, s.testHonoured, s.phase, s.coresDown⟩

@[simp] theorem modKeys_running (f : KeyStore → KeyStore) (s : State) : running (modKeys f s) = running s := rfl
@[simp] theorem modVault_running (f : Vault → Vault) (s : State) : running (modVault f s) = running s := rfl
@[simp] theorem modSpdm_running (f : Spdm → Spdm) (s : State) : running (modSpdm f s) = running s := rfl
@[simp] theorem ksLoad_running (slot req origin owner : Nat) (key : List Byte) (s : State) :
    running (ksLoad slot req origin owner key s) = running s := rfl
@[simp] theorem certificate_running (kind : Nat) (pub fields : List Byte) (s : State) :
    running (certificate kind pub fields s).2 = running s := rfl
@[simp] theorem buildAliasCert_running (s : State) : running (buildAliasCert s) = running s := by
  simp [buildAliasCert]
@[simp] theorem deriveAlias_running (s : State) : running (deriveAlias s) = running s := by
  simp [deriveAlias]
@[simp] theorem deriveKeys_running (s : State) : running (deriveKeys s) = running s := by
  simp only [deriveKeys, deriveAlias_running]
  split <;> simp

@[simp] theorem dssLoad_running (s : State) : running (dssLoad s) = running s := by
  unfold dssLoad
  split
  · simp
  · split
    · simp [keysLoaded]
    · simp [keysLost]

@[simp] theorem stepDone_running (k : Nat) (s : State) : running (stepDone k s) = running s := by
  simp [running]

theorem selectCopy_first {c : Nat} {a b : Bool} {s : State}
    (h : copyVerdict s c (if c = 0 then a else b) = none) : selectCopy c a b s = .ok (acceptCopy c s) := by
  simp only [selectCopy, h]

/-- Neither copy can be read. -/
theorem selectCopy_unreadable {c : Nat} (hc : c ≤ 1) (s : State) :
    selectCopy c true true s = .error (eIntegrity, 0x11) := by
  interval_cases c <;> rfl

/-- What RUNTIME leaves of the copy it runs. -/
def runtimeUp (s : State) : State :=
  markBlocks (ruleBlocks ++ rootBlocks) (stepDone 7 (modKeys (fun k => { k with romRuns := false }) (dssLoad s)))

theorem exec_runtime_first {s : State} (h : stepRuns s 7 = true) (ha : s.bootAttempts.toNat < 3)
    (hb : s.vault.bootEnable ≠ 2) (hv : copyVerdict s 0 false = none) :
    exec (.runtime false false) s = .next (if (runtimeUp (acceptCopy 0 s)).testHonoured
      then enterPhase .test (runtimeUp (acceptCopy 0 s)) else runtimeUp (acceptCopy 0 s)) := by
  change execRuntime false false s = _
  unfold execRuntime
  dsimp only
  rw [if_neg (by simp [h]), if_neg (by omega), if_neg (by omega : ¬ 3 ≤ s.bootAttempts.toNat), if_neg hb,
    selectCopy_first (by simpa using hv)]
  rfl

theorem exec_runtime_unreadable {s : State} (h : stepRuns s 7 = true) (ha : s.bootAttempts.toNat < 6) :
    exec (.runtime true true) s = .next (toRecovery true (bootFail 7 eIntegrity 0x11 s)) := by
  change execRuntime true true s = _
  unfold execRuntime
  dsimp only
  rw [if_neg (by simp [h]), if_neg (by omega), selectCopy_unreadable (by split <;> split <;> decide)]

theorem exec_runtime_spent {s : State} (a b : Bool) (h : stepRuns s 7 = true) (ha : 6 ≤ s.bootAttempts.toNat) :
    exec (.runtime a b) s = .next (toRecovery true (bootFail 7 eTimeout 0 s)) := by
  change execRuntime a b s = _
  unfold execRuntime
  rw [if_neg (by simp [h]), if_pos ha]

@[simp] theorem markBlocks_steps (l : List Nat) (s : State) : (markBlocks l s).steps = s.steps := rfl

theorem runtimeUp_running (s : State) : running (runtimeUp s) = running s := by
  simp [runtimeUp, markBlocks]

theorem runtimeUp_romRuns (s : State) : (runtimeUp s).keys.romRuns = false := by
  rw [runtimeUp]
  simp [markBlocks, modKeys]

theorem runtimeUp_step {s : State} (h : tget s.steps 7 = none) : tget (runtimeUp s).steps 7 = some s.tbUs := by
  have hground : ground (modKeys (fun k => { k with romRuns := false }) (dssLoad s)) = ground s := by simp
  rw [runtimeUp, markBlocks_steps, stepDone_steps_self (by rw [ground_steps hground]; exact h), ground_tbUs hground]

/-- The fields that RUNTIME does not touch beside the copy it runs. -/
theorem runtimeUp_fields (s : State) :
    (runtimeUp s).rtCopy = s.rtCopy ∧ (runtimeUp s).rtDigest = s.rtDigest ∧ (runtimeUp s).testHonoured = s.testHonoured ∧
      (runtimeUp s).phase = s.phase ∧ (runtimeUp s).lc = s.lc ∧ (runtimeUp s).chans = s.chans ∧
      (runtimeUp s).random = s.random := by
  have h := runtimeUp_running s
  generalize runtimeUp s = u at h ⊢
  exact ⟨congrArg Running.rtCopy h, congrArg Running.rtDigest h, congrArg Running.testHonoured h,
    congrArg Running.phase h, congrArg Running.lc h, congrArg Running.chans h, congrArg Running.random h⟩

theorem stepDone_steps_some (k : Nat) (s : State) : (tget (stepDone k s).steps k).isSome = true := by
  cases h : tget s.steps k with
  | some v => simp [stepDone, h]
  | none => simp [stepDone_steps_self h]

@[simp] theorem toRecovery_recoveryByRuntime (b : Bool) (s : State) : (toRecovery b s).recoveryByRuntime = b := by
  simp [toRecovery]

/-! ### DISCOVERY, POLICY and CORE_RESET -/

theorem exec_discovery_ground {s : State} (found : List Found) (fails : List Chan) (h : stepRuns s 8 = true) :
    ∃ u, exec (.discovery found fails) s = .next (stepDone 8 u) ∧ ground u = ground s := by
  change ∃ u, execDiscovery found fails s = _ ∧ _
  have hall : ground (allChans (bootDiscover found fails) (scanInto 6 s)) = ground s :=
    (allChans_ground _ _ fun c t => bootDiscover_ground found fails c t).trans (scanInto_ground 6 s)
  unfold execDiscovery
  rw [if_neg (by simp [h])]
  dsimp only
  refine ⟨_, rfl, ?_⟩
  split
  · exact hall
  · rw [bootFail_ground]
    exact hall

theorem policyRead_ground (e : WriteEnd) (s : State) : ground (policyRead e s).2 = ground { s with phase := .service } := by
  have hscan : ground (readCounters (rpmbAttach (scanInto 1 { s with phase := .service }))) =
      ground { s with phase := .service } := by
    rw [readCounters_ground, rpmbAttach_ground, scanInto_ground]
  unfold policyRead
  generalize readCounters (rpmbAttach (scanInto 1 { s with phase := .service })) = t at hscan
  have hpick := pickConfig_ground (sortRecs (recsIn t 1)) t
  rcases hp : pickConfig (sortRecs (recsIn t 1)) t with ⟨set, u⟩
  rw [hp] at hpick
  dsimp only
  rw [hp]
  dsimp only
  rw [policyRuntime_ground, policyStile_ground, ← hscan, ← hpick]
  split
  · exact loadConfig_ground _ _
  · exact bootFail_ground _ _ _ _

theorem policyRead_steps (e : WriteEnd) (s : State) : (policyRead e s).2.steps = s.steps :=
  ground_steps (s := { s with phase := .service }) (policyRead_ground e s)

theorem policyRead_tbUs (e : WriteEnd) (s : State) : (policyRead e s).2.tbUs = s.tbUs :=
  ground_tbUs (s := { s with phase := .service }) (policyRead_ground e s)

/-- The state that the policy run completes from. -/
theorem policyRun_completes (body : List Byte) (s : State) : ∃ u, ground u = ground s ∧
    policyRun body s = finishAll (stepDone 0x0A (stepDone 9 (enterPhase .service { u with bootAttempts := 0 }))) := by
  refine ⟨_, ?_, rfl⟩
  rw [modVault_ground, savedNow_ground, bootRequests_ground, policyCompile_ground,
    foldl_ground _ (fun t x => reapply_ground t x)]
  exact foldl_ground _ (fun t x => by split <;> simp) _ _

theorem exec_policy_runs {s : State} (e : WriteEnd) (h : stepRuns s 9 = true)
    (hd : (policyRead e s).2.deviceResetDue ≠ some 7) :
    exec (.policy e) s = .next (policyRun (policyRead e s).1 (policyRead e s).2) := by
  change execPolicy e s = _
  unfold execPolicy
  rw [if_neg (by simp [h])]
  dsimp only
  rw [if_neg hd]

theorem exec_policy_resets {s : State} (e : WriteEnd) (h : stepRuns s 9 = true)
    (hd : (policyRead e s).2.deviceResetDue = some 7) :
    exec (.policy e) s = .next { (policyRead e s).2 with phase := .start } := by
  change execPolicy e s = _
  unfold execPolicy
  rw [if_neg (by simp [h])]
  dsimp only
  rw [if_pos hd]

@[simp] theorem settleFlash_aside (c : Chan) (m : Cs) (s : State) : aside (settleFlash c m s) = aside s := by
  unfold settleFlash
  split <;> simp

@[simp] theorem abortOp_aside (op : PhysOp) (f : Flash) (s : State) : aside (abortOp op f s).2 = aside s := by
  unfold abortOp
  split <;> simp

@[simp] theorem applyScratch_aside (c : Chan) (m : Cs) (fails : Bool) (s : State) :
    aside (applyScratch c m fails s) = aside s := by
  unfold applyScratch
  split
  · rfl
  · next b _ _ _ =>
    split
    · rfl
    · split
      · have habort := abortOp_aside (.erase b.addr b.log2) (flashOf (chanAt s c) m) s
        rcases h : abortOp (.erase b.addr b.log2) (flashOf (chanAt s c) m) s with ⟨f, u⟩
        rw [h] at habort
        simpa using habort
      · simp

@[simp] theorem restartSeq_aside (c : Chan) (s : State) : aside (restartSeq c s) = aside s := by
  unfold restartSeq
  (repeat' split) <;> simp

@[simp] theorem endSessions_aside (s : State) : aside (endSessions s) = aside s := by
  simp [endSessions, journalSession]

@[simp] theorem savedNow_aside (s : State) : aside (savedNow s) = aside s := by
  simp [savedNow]

theorem restartRuntime_aside (s : State) : aside (restartRuntime s) = aside s := by
  simp [restartRuntime]

theorem exec_coreReset_restarts {s : State} (hd : s.coresDown = true) (hn : s.porN = true) (hdue : s.deviceResetDue = none)
    (hh : s.coresHeld = false) (hr : s.refclk = true) (hv : s.vault.eff = 0) (hrun : runtimeDone s = true)
    (hp : s.phase ≠ .recovery) (hc : s.rtCopy = 0)
    (hok : copyVerdict (journalDrain { s with coresDown := false }) 0 false = none) :
    ∃ u, exec (.coreReset false false) s = .next (restartRuntime u) ∧ u.coresDown = false ∧ u.rtCopy = 0 ∧
      u.phase = s.phase ∧ u.steps = s.steps ∧ u.lc = s.lc := by
  change ∃ u, execCoreReset false false s = _ ∧ _
  unfold execCoreReset
  rw [if_neg (by simp [hd, hn, hdue, hh, hr, hv, hrun])]
  dsimp only
  have hcopy : (journalDrain { s with coresDown := false }).rtCopy = 0 := (journalDrain_rtCopy _).trans hc
  have hsel : selectCopy (journalDrain { s with coresDown := false }).rtCopy.toNat false false
      (journalDrain { s with coresDown := false }) = .ok (acceptCopy 0 (journalDrain { s with coresDown := false })) := by
    rw [hcopy]
    exact selectCopy_first (by simpa using hok)
  have hphase : (journalDrain { s with coresDown := false }).phase = s.phase := journalDrain_phase _
  have hsteps : (journalDrain { s with coresDown := false }).steps = s.steps := journalDrain_steps _
  have hlc : (journalDrain { s with coresDown := false }).lc = s.lc := journalDrain_lc _
  have hdown : (journalDrain { s with coresDown := false }).coresDown = false := journalDrain_coresDown _
  rw [hphase, if_neg hp, hsel]
  generalize journalDrain { s with coresDown := false } = u at hphase hsteps hlc hdown ⊢
  dsimp only
  split
  · have halias := deriveAlias_running (acceptCopy 0 u)
    have haliasSteps := ground_steps (deriveAlias_ground (acceptCopy 0 u))
    generalize deriveAlias (acceptCopy 0 u) = v at halias haliasSteps ⊢
    exact ⟨v, rfl, (congrArg Running.coresDown halias).trans hdown, congrArg Running.rtCopy halias,
      (congrArg Running.phase halias).trans hphase, haliasSteps.trans hsteps, (congrArg Running.lc halias).trans hlc⟩
  · exact ⟨acceptCopy 0 u, rfl, hdown, rfl, hphase, hsteps, hlc⟩

/-- Settles O13: each step's outcome is named once, and its fields are read from the operations that made it. -/
theorem bootRuntimeDiscoveryPolicy : Obligations.BootRuntimeDiscoveryPolicy := by
  unfold Obligations.BootRuntimeDiscoveryPolicy
  refine ⟨fun s hrun ha hb hv => ?runs, fun s hrun ha => ?unreadable, fun s a b hrun ha => exec_runtime_spent a b hrun ha,
    fun s found fails hrun => ?discovery, fun s e hrun hd => ?policy, fun s e hrun hd => ?otherCopy,
    fun s hd hn hdue hh hr hv hrun hp hc hok => ?coreReset⟩
  case runs =>
    obtain ⟨hcopy, hdigest, htest, hphase, hlc, hchans, hrandom⟩ := runtimeUp_fields (acceptCopy 0 s)
    have hrom := runtimeUp_romRuns (acceptCopy 0 s)
    have hstep := runtimeUp_step (s := acceptCopy 0 s) (by exact stepRuns_steps hrun)
    rw [exec_runtime_first hrun ha hb hv, htest]
    generalize runtimeUp (acceptCopy 0 s) = u at *
    by_cases ht : s.testHonoured = true
    · rw [if_pos (by exact ht), if_pos ht]
      exact ⟨_, rfl, by rw [enterPhase_rtCopy, hcopy]; rfl, by rw [enterPhase_rtDigest, hdigest]; rfl,
        by rw [enterPhase_keys, hrom], by rw [enterPhase_steps, hstep]; rfl, by simp, by rw [enterPhase_lc, hlc]; rfl,
        by rw [enterPhase_chans, hchans]; rfl, by rw [enterPhase_random, hrandom]; rfl⟩
    · rw [if_neg (by exact ht), if_neg ht]
      exact ⟨_, rfl, hcopy, hdigest, hrom, hstep, hphase.trans (stepRuns_start hrun), hlc, hchans, hrandom⟩
  case unreadable =>
    rw [exec_runtime_unreadable hrun ha]
    refine ⟨rfl, ?_, ?_⟩
    · rw [after_next, toRecovery_phase]
    · rw [after_next, toRecovery_recoveryByRuntime]
  case discovery =>
    obtain ⟨u, hu, hground⟩ := exec_discovery_ground found fails hrun
    refine ⟨_, hu, ?_, ?_, ?_, ?_⟩
    · rw [stepDone_steps_self (by rw [ground_steps hground]; exact stepRuns_steps hrun), ground_tbUs hground]
    · rw [stepDone_phase, ground_phase hground]
      exact stepRuns_start hrun
    · rw [stepDone_pending, ground_pending hground]
    · rw [stepDone_tbUs, ground_tbUs hground]
  case policy =>
    have hreadCells := policyRead_cellsOf e s
    have hruncells := policyRun_cellsOf (policyRead e s).1 (policyRead e s).2
    obtain ⟨u, hu, hrun'⟩ := policyRun_completes (policyRead e s).1 (policyRead e s).2
    rw [exec_policy_runs e hrun hd]
    rw [hrun'] at hruncells ⊢
    have hsteps : u.steps = s.steps := (ground_steps hu).trans (policyRead_steps e s)
    have htb : u.tbUs = s.tbUs := (ground_tbUs hu).trans (policyRead_tbUs e s)
    have h9 : tget (enterPhase .service { u with bootAttempts := 0 }).steps 9 = none := by
      rw [enterPhase_steps]
      exact (congrArg (tget · 9) hsteps).trans (stepRuns_steps hrun)
    refine ⟨_, rfl, by simp, ?_, ?_, by simp, ?_, hruncells.trans hreadCells⟩
    · rw [finishAll_steps, stepDone_steps_other 0x0A 9 _ (by decide), stepDone_steps_self h9, enterPhase_tbUs]
      exact congrArg some htb
    · rw [finishAll_steps]
      exact stepDone_steps_some 0x0A _
    · rw [finishAll_tbUs, stepDone_tbUs, stepDone_tbUs, enterPhase_tbUs]
      exact htb
  case otherCopy =>
    have hsteps := policyRead_steps e s
    have hcells := policyRead_cellsOf e s
    rw [exec_policy_resets e hrun hd]
    generalize (policyRead e s).2 = u at hd hsteps hcells ⊢
    exact ⟨_, rfl, rfl, hd, hsteps, hcells⟩
  case coreReset =>
    obtain ⟨u, hu, hdown, hcopy, hphase, hsteps, hlc⟩ := exec_coreReset_restarts hd hn hdue hh hr hv hrun hp hc hok
    have haside := restartRuntime_aside u
    exact ⟨_, hu, (aside_coresDown haside).trans hdown, (aside_rtCopy haside).trans hcopy,
      (aside_phase haside).trans hphase, (aside_steps haside).trans hsteps, (aside_lc haside).trans hlc⟩
end Sys2Proof.Proofs

end

section
/-! The scrubber and the timeouts (O16) -/

namespace Sys2Proof.Proofs
open Sys2Proof Sys2Proof.Machine Sys2Proof.Laws
set_option maxRecDepth 4000

/-! ### The scrubber -/

/-- One flipped bit of a code word is a single error. -/
theorem eccRead_oneBit : ∀ b : Fin 72, (eccRead ((1 : CodeWord) <<< b.val)).1 = .single := by
  decide +kernel

theorem oneBit_ne_zero : ∀ b : Fin 72, (1 : CodeWord) <<< b.val ≠ 0 := by
  decide +kernel

theorem readWord_whole {mem : Fin 8} {word : Nat} {s : State} (h : flipsOf s mem word = 0) :
    readWord mem word s = (.correct, s) := by
  simp only [readWord, h, if_true]

theorem readWord_oneBit {mem : Fin 8} {word b : Nat} {s : State} (hb : b < 72)
    (h : flipsOf s mem word = (1 : CodeWord) <<< b) :
    readWord mem word s = (.single, cleanWords mem word 1 (countSec mem s)) := by
  have hecc : (eccRead ((1 : CodeWord) <<< b)).1 = .single := eccRead_oneBit ⟨b, hb⟩
  have hne : (1 : CodeWord) <<< b ≠ 0 := oneBit_ne_zero ⟨b, hb⟩
  simp only [readWord, h, if_neg hne, hecc]

theorem flipsOf_strike (mem : Fin 8) (word : Nat) (m : CodeWord) (s : State) :
    flipsOf (strike [{ mem := mem, word := word, mask := m }] s) mem word = flipsOf s mem word ^^^ m := by
  simp [flipsOf, strike, List.filter_append, List.foldl_append]

/-- A cleaned word has no flipped bit. -/
theorem flipsOf_cleanWords (mem : Fin 8) (word : Nat) (s : State) : flipsOf (cleanWords mem word 1 s) mem word = 0 := by
  have hnone : (s.upsets.filter (fun u => ¬(u.mem = mem ∧ word ≤ u.word ∧ u.word < word + 1))).filter
      (fun u => u.mem = mem ∧ u.word = word) = [] := by
    rw [List.filter_filter, List.filter_eq_nil_iff]
    intro u _
    intro h
    obtain ⟨⟨hm, hw⟩, hno⟩ : (u.mem = mem ∧ u.word = word) ∧ ¬(u.mem = mem ∧ word ≤ u.word ∧ u.word < word + 1) := by
      simpa only [Bool.and_eq_true, decide_eq_true_eq] using h
    exact hno ⟨hm, by omega, by omega⟩
  simp only [flipsOf, cleanWords, hnone, List.foldl_nil]

/-- What the scrubber does after the word it has read. -/
def scrubNext (s : State) : State :=
  if s.scrubPos + 1 = scrubTotal then { s with scrubPos := 0, scrubPasses := satInc s.scrubPasses, scrubLast := s.tbUs }
  else { s with scrubPos := s.scrubPos + 1 }

theorem exec_scrubRead_whole {s : State} (hr : s.refclk = true) (hn : s.porN = true)
    (hw : flipsOf s (scrubPlace s.scrubPos).1 (scrubPlace s.scrubPos).2 = 0) :
    exec (.scrubRead none) s = .next (finishAll (scrubNext s)) := by
  change execScrubRead none s = _
  unfold execScrubRead
  rw [if_pos ⟨hr, hn⟩]
  dsimp only
  rw [readWord_whole hw]
  rfl

theorem exec_scrubRead_struck {s : State} {b : Nat} (hr : s.refclk = true) (hn : s.porN = true) (hb : b < 72)
    (hw : flipsOf s (scrubPlace s.scrubPos).1 (scrubPlace s.scrubPos).2 = 0) :
    exec (.scrubRead (some ((1 : CodeWord) <<< b))) s = .next (finishAll (scrubNext
      (cleanWords (scrubPlace s.scrubPos).1 (scrubPlace s.scrubPos).2 1 (countSec (scrubPlace s.scrubPos).1
        (strike [⟨(scrubPlace s.scrubPos).1, (scrubPlace s.scrubPos).2, (1 : CodeWord) <<< b⟩] s))))) := by
  change execScrubRead (some ((1 : CodeWord) <<< b)) s = _
  have hflip : flipsOf (strike [⟨(scrubPlace s.scrubPos).1, (scrubPlace s.scrubPos).2, (1 : CodeWord) <<< b⟩] s)
      (scrubPlace s.scrubPos).1 (scrubPlace s.scrubPos).2 = (1 : CodeWord) <<< b := by
    rw [flipsOf_strike, hw]
    exact BitVec.zero_xor
  unfold execScrubRead
  rw [if_pos ⟨hr, hn⟩]
  dsimp only
  rw [readWord_oneBit hb hflip]
  simp only [reduceCtorEq, if_false]

  rfl

/-! ### Timeouts -/

theorem exec_timeoutExpiry_deviceRead {s : State} {c : Chan} {r : DevRead} (hr : s.refclk = true) (hn : s.porN = true)
    (h : (chanAt s c).devRead = some r) :
    exec (.timeoutExpiry 0 c) s = .next (finishAll (deviceReadFail c r (timeoutExpired 0 s))) := by
  change execTimeoutExpiry 0 c s = _
  unfold execTimeoutExpiry
  rw [if_neg (by simp [hr, hn])]
  simp only [Fin.isValue, Fin.val_zero, h]

/-- Settles O16: the scrubber by the word it reads, the timeouts by the wait that each bounds. -/
theorem scrubAndTimeouts : Obligations.ScrubAndTimeouts := by
  unfold Obligations.ScrubAndTimeouts
  refine ⟨⟨fun s hr hn hw hlt => ?next, fun s hr hn hw hend => ?wrap, fun s b hr hn hb hw hlt => ?struck⟩,
    fun s c r hr hn h => exec_timeoutExpiry_deviceRead hr hn h, fun s c hr hn h => ?discovery, fun s c hr hn hv ho => ?vault,
    fun s c k r hr hn h => ?wire, fun s m hr hn h => ?assembly, fun s t c hn hlate ht h0 h1 => ?late⟩
  case next =>
    rw [exec_scrubRead_whole hr hn hw, scrubNext, if_neg (by omega)]
  case wrap =>
    rw [exec_scrubRead_whole hr hn hw, scrubNext, if_pos hend]
  case struck =>
    rw [exec_scrubRead_struck hr hn hb hw, scrubNext, if_neg (by exact Nat.ne_of_lt hlt)]
    exact ⟨_, rfl, flipsOf_cleanWords _ _ _, rfl, rfl, rfl, rfl, rfl⟩
  case discovery =>
    change execTimeoutExpiry 3 c s = _
    unfold execTimeoutExpiry
    rw [if_neg (by simp [hr, hn])]
    simp [h]
  case vault =>
    change execTimeoutExpiry 5 c s = _
    unfold execTimeoutExpiry
    rw [if_neg (by simp [hr, hn])]
    simp [hv, ho]
  case wire =>
    change execTimeoutExpiry 7 c s = _
    unfold execTimeoutExpiry
    rw [if_neg (by simp [hr, hn])]
    simp [h]
  case assembly =>
    change ∃ t, execTimeoutExpiry 13 (chanOf m.val) s = _ ∧ _
    unfold execTimeoutExpiry
    rw [if_neg (by simp [hr, hn])]
    have hm : (chanOf m.val).val = m.val := by fin_cases m <;> rfl
    have hlt : (chanOf m.val).val < 2 := by rw [hm]; exact m.isLt
    have hfin : (⟨(chanOf m.val).val, hlt⟩ : MPort) = m := Fin.ext hm
    refine ⟨_, (dif_pos hlt).trans (by rw [hfin, assemblyExpire, if_pos h]), ?_⟩
    simp [timeoutExpired, modTimeout, dropPartial, modMport, mportAt]
  case late =>
    change execLateArrival t c s = _
    have hne : ¬ t = 7 := fun e => ht (by rw [e]; rfl)
    have hidle : ∀ m : Cs, (flashOf (chanAt s c) m).busy = none := by
      intro m
      rcases cs_cases m with rfl | rfl
      · exact h0
      · exact h1
    unfold execLateArrival
    dsimp only
    have hdue : ¬ ((!decide ((s.timeouts[t]).late.toNat < (s.timeouts[t]).expired.toNat)) = true ∨ (!s.porN) = true) := by
      rw [decide_eq_true hlate, hn]
      decide
    rw [if_neg hdue, if_neg hne]
    simp only [hidle]
end Sys2Proof.Proofs

end

section
/-! Host commands on a running channel (O18, O20, O21) -/

namespace Sys2Proof.Proofs
open Sys2Proof Sys2Proof.Machine Sys2Proof.Laws
set_option maxRecDepth 4000

/-! ### Host commands on a running channel -/

@[simp] theorem chanAt_drive (c : Chan) (bs : List Byte) (s : State) :
    chanAt (drive c bs s) c = { chanAt s c with vf := { (chanAt s c).vf with driven := bs } } := chanAt_modChan ..

@[simp] theorem chanAt_modVf (c : Chan) (f : VFlash → VFlash) (s : State) :
    chanAt (modVf c f s) c = { chanAt s c with vf := f (chanAt s c).vf } := chanAt_modChan ..

@[simp] theorem chanAt_clearWel (c : Chan) (s : State) :
    chanAt (clearWel c s) c = { chanAt s c with vf := { (chanAt s c).vf with wel := false } } := chanAt_modVf ..

theorem strike_nil (s : State) : strike [] s = s := by
  simp [strike]

theorem abortRead_idle {c : Chan} {s : State} (n : Nat) (h : (chanAt s c).devRead = none) : abortRead c n s = s := by
  simp only [abortRead, h]

/-- A clean command in a mode that lists it runs its body, and only a reset-enable arms the reset. -/
theorem hostRun_clean {h : HostCmd} {op addr : Nat} {spi qpi octal walks : Bool} {s : State}
    (body : Bool → State → State) (hc : hostClean h s = true) (hl : listed s h op spi qpi octal = true) :
    hostRun h op addr spi qpi octal walks body s =
      hostEnd h (modVf h.ch (fun v => { v with rstArmed := op == 0x66 }) (body false s)) := by
  simp only [hostClean, Bool.and_eq_true, Bool.not_eq_true', Option.isNone_iff_eq_none, List.isEmpty_iff] at hc
  obtain ⟨⟨⟨⟨⟨hrun, hgap⟩, hread⟩, htwin⟩, hshadow⟩, hupsets⟩ := hc
  have hshadowed : ∀ t : State, shadowCheck h.ch false t = t := fun t => if_neg (by simp)
  simp only [hostRun, hupsets, strike_nil, hrun, abortRead_idle 0 hread, hgap, hl, htwin, hshadow, hshadowed,
    Bool.not_true, Bool.false_eq_true, false_and, if_false, Option.any_none, Bool.not_false, Bool.and_true,
    Bool.true_and, ite_self]
  rfl

/-- The same where the command is no reset-enable. -/
theorem hostRun_plain {h : HostCmd} {op addr : Nat} {spi qpi octal walks : Bool} {s : State}
    (body : Bool → State → State) (hc : hostClean h s = true) (hl : listed s h op spi qpi octal = true)
    (hop : op ≠ 0x66) : hostRun h op addr spi qpi octal walks body s = hostEnd h (disarm h.ch (body false s)) := by
  rw [hostRun_clean body hc hl, beq_false_of_ne hop]
  rfl

theorem listed_of_modeLists_spiQpiOctal {s : State} {h : HostCmd} {op : Nat}
    (hm : modeLists s h op [.spi, .qpi, .octal]) : listed s h op true true true = true := by
  obtain ⟨-, hoct⟩ := hm
  unfold listed
  split <;> simp_all

theorem listed_of_modeLists_spiQpi {s : State} {h : HostCmd} {op : Nat} (hm : modeLists s h op [.spi, .qpi]) :
    listed s h op true true false = true := by
  obtain ⟨hmem, -⟩ := hm
  unfold listed
  split <;> simp_all

theorem listed_of_modeLists_spi {s : State} {h : HostCmd} {op : Nat} (hm : modeLists s h op [.spi]) :
    listed s h op true false false = true := by
  obtain ⟨hmem, -⟩ := hm
  unfold listed
  split <;> simp_all

/-! ### Commands completed inside the block -/

section
variable {h : HostCmd} {s : State} (hc : hostClean h s = true)
include hc

/-- A command of every mode that is no reset-enable and no program or erase. -/
theorem hostVirtual_everyMode {op addr : Nat} (body : Bool → State → State) (hop : op ≠ 0x66)
    (hm : modeLists s h op [.spi, .qpi, .octal]) :
    hostVirtual h op addr true true true body s = .next (hostEnd h (disarm h.ch (body false (drive h.ch [] s)))) :=
  congrArg Host.Outcome.next (hostRun_plain _ hc (listed_of_modeLists_spiQpiOctal hm) hop)

/-- A command that only SPI and QPI list. -/
theorem hostVirtual_spiQpi {op addr : Nat} (body : Bool → State → State) (hop : op ≠ 0x66)
    (hm : modeLists s h op [.spi, .qpi]) :
    hostVirtual h op addr true true false body s = .next (hostEnd h (disarm h.ch (body false (drive h.ch [] s)))) :=
  congrArg Host.Outcome.next (hostRun_plain _ hc (listed_of_modeLists_spiQpi hm) hop)

end

theorem vsrByte_drive (c : Chan) (bs : List Byte) (s : State) :
    vsrByte (chanAt (drive c bs s) c) = vsrByte (chanAt s c) := by
  simp [vsrByte, wipOf]

/-- Settles O20: each command is one that every mode, or SPI and QPI, list. -/
theorem hostRegisters : Obligations.HostRegisters := by
  unfold Obligations.HostRegisters
  intro h s len addr hc
  dsimp only
  refine ⟨fun hm => ?writeEnable, fun hm => ?writeDisable, fun hm => ?readStatus, fun hm => ?writeStatus,
    fun hm => ?clearFlags, fun hm => ?readId, fun hm => ?readSfdp, fun hm => ?enter4, fun hm => ?exit4,
    fun hm => ?powerDown, fun hm => ?release⟩
  case writeEnable =>
    change execWriteEnable h s = _
    rw [execWriteEnable, hostVirtual_everyMode hc _ (by decide) hm]
  case writeDisable =>
    change execWriteDisable h s = _
    rw [execWriteDisable, hostVirtual_everyMode hc _ (by decide) hm]
  case readStatus =>
    change execReadStatus h len s = _
    rw [execReadStatus, hostVirtual_everyMode hc _ (by decide) hm]
    rw [vsrByte_drive]
  case writeStatus =>
    change execWriteStatus h s = _
    rw [execWriteStatus, hostVirtual_everyMode hc _ (by decide) hm]
  case clearFlags =>
    change execClearFlags h s = _
    rw [execClearFlags, hostVirtual_everyMode hc _ (by decide) hm]
  case readId =>
    change execReadId h len s = _
    rw [execReadId, hostVirtual_everyMode hc _ (by decide) hm]
    simp only [chanAt_drive]
  case readSfdp =>
    change execReadSfdp h addr len s = _
    rw [execReadSfdp, hostVirtual_everyMode hc _ (by decide) hm]
    simp only [chanAt_drive]
  case enter4 =>
    change execEnter4ByteMode h s = _
    rw [execEnter4ByteMode, hostVirtual_spiQpi hc _ (by decide) hm]
  case exit4 =>
    change execExit4ByteMode h s = _
    rw [execExit4ByteMode, hostVirtual_spiQpi hc _ (by decide) hm]
  case powerDown =>
    change execPowerDown h s = _
    rw [execPowerDown, hostVirtual_spiQpi hc _ (by decide) hm]
  case release =>
    change execReleasePowerDown h s = _
    rw [execReleasePowerDown, hostVirtual_spiQpi hc _ (by decide) hm]

/-! ### Mode changes and the software reset -/

theorem changeMode_supported {c : Chan} {m : BusMode} {s : State} (op addr : Nat) (h : modeSupported s c m = true) :
    changeMode c m op addr s = startGap c (modVf c (fun v => { v with mode := m }) s) := if_pos h

theorem allPopulated_congr {x y : Channel} (h0 : x.flash0 = y.flash0) (h1 : x.flash1 = y.flash1)
    (f : FlashFacts → Bool) : allPopulated x f = allPopulated y f := by
  simp only [allPopulated, populated, capacityOf, flashOf, h0, h1]

theorem modeSupported_drive (c : Chan) (bs : List Byte) (s : State) (m : BusMode) :
    modeSupported (drive c bs s) c m = modeSupported s c m := by
  cases m with
  | spi => rfl
  | qpi => exact allPopulated_congr (by simp) (by simp) _
  | octal => exact allPopulated_congr (by simp) (by simp) _

theorem modeSupported_clearWel (c : Chan) (s : State) (m : BusMode) :
    modeSupported (clearWel c s) c m = modeSupported s c m := by
  cases m with
  | spi => rfl
  | qpi => exact allPopulated_congr (by simp) (by simp) _
  | octal => exact allPopulated_congr (by simp) (by simp) _

/-- Settles O21: a mode change, a reset-enable and a reset are the bodies that `hostRun` reaches. -/
theorem hostModesAndReset : Obligations.HostModesAndReset := by
  unfold Obligations.HostModesAndReset
  intro h s addr b hc
  dsimp only
  refine ⟨fun hmode hsup => ?enterQpi, fun hmode => ?exitQpi, fun hmode hwel hwhole hsup => ?octal,
    fun hmode hsecond hwel hwhole => ?fromOctal, fun hm hb => ?absorbed, fun hm => ?enable, fun hm harm => ?reset,
    fun hm harm => ?unarmed⟩
  case enterQpi =>
    change execEnterQpi h s = _
    rw [execEnterQpi, hostVirtual, hostRun_plain _ hc (by simp [listed, hmode]) (by decide), if_neg Bool.false_ne_true,
      changeMode_supported _ _ (by rw [modeSupported_drive]; exact hsup)]
  case exitQpi =>
    change execExitQpi h s = _
    rw [execExitQpi, hostVirtual, hostRun_plain _ hc (by simp [listed, hmode]) (by decide), if_neg Bool.false_ne_true,
      changeMode_supported (m := .spi) _ _ rfl]
  case octal =>
    have hl : listed s h 0x81 true true true = true := by
      cases hcur : (chanAt s h.ch).vf.mode <;> simp_all [listed]
    have hchange : (true && (0 : U32) == 0 && true && ((0xE7 : Byte) == 0xE7 && (chanAt s h.ch).vf.mode != .octal ||
        (0xE7 : Byte) == 0xFF && (chanAt s h.ch).vf.mode == .octal)) = true := by
      simp [hmode]
    change execWriteVolatileConfiguration h 0 0xE7 s = _
    rw [execWriteVolatileConfiguration, hostVirtual, hostRun_plain _ hc hl (by decide)]
    simp only [chanAt_drive, hwel, hwhole]
    rw [if_pos hchange, if_neg Bool.false_ne_true, if_pos trivial,
      changeMode_supported _ _ (by rw [modeSupported_clearWel, modeSupported_drive]; exact hsup)]
  case fromOctal =>
    have hl : listed s h 0x81 true true true = true := by
      simp [listed, hmode, hsecond]
    have hchange : (true && (0 : U32) == 0 && true && ((0xFF : Byte) == 0xE7 && BusMode.octal != .octal ||
        (0xFF : Byte) == 0xFF && BusMode.octal == .octal)) = true := by decide
    change execWriteVolatileConfiguration h 0 0xFF s = _
    rw [execWriteVolatileConfiguration, hostVirtual, hostRun_plain _ hc hl (by decide)]
    simp only [chanAt_drive, hwel, hwhole, hmode]
    rw [if_pos hchange, if_neg Bool.false_ne_true, if_neg (by decide : ¬ (0xFF : Byte) = 0xE7),
      changeMode_supported (m := .spi) _ _ rfl]
  case absorbed =>
    have hE7 : (b == 0xE7) = false := beq_false_of_ne hb.1
    have hFF : (b == 0xFF) = false := beq_false_of_ne hb.2
    change execWriteVolatileConfiguration h addr b s = _
    rw [execWriteVolatileConfiguration, hostVirtual_everyMode hc _ (by decide) hm]
    simp only [hE7, hFF, Bool.false_and, Bool.or_false, Bool.and_false, Bool.false_eq_true, if_false]
  case enable =>
    change execResetEnable h s = _
    rw [execResetEnable, hostVirtual, hostRun_clean _ hc (listed_of_modeLists_spiQpiOctal hm)]
    rfl
  case reset =>
    change execReset h s = _
    rw [execReset, hostVirtual_everyMode hc _ (by decide) hm]
    simp only [chanAt_drive, harm, if_true]
  case unarmed =>
    change execReset h s = _
    rw [execReset, hostVirtual_everyMode hc _ (by decide) hm]
    simp only [chanAt_drive, harm, Bool.false_eq_true, if_false]

/-! ### Programs -/

theorem execs_hostProgram (h : HostCmd) (addr : U32) (data : List Byte) (s : State) :
    exec (.pageProgram h addr data) s = hostProgram h 0x02 addr data true true false s ∧
    exec (.pageProgram4B h addr data) s = hostProgram h 0x12 addr data true true true s ∧
    exec (.quadInputPageProgram h addr data) s = hostProgram h 0x32 addr data true false false s ∧
    exec (.quadInputPageProgram4B h addr data) s = hostProgram h 0x34 addr data true false false s :=
  ⟨rfl, rfl, rfl, rfl⟩

/-- A considered program of a clean channel whose line the lookup judges without a stored error. -/
theorem programBody_judged {h : HostCmd} {op addr : Nat} {data : List Byte} {s : State} {v : Verdict}
    (hc : hostClean h s = true) (hwhole : h.whole = true) (hwel : (chanAt s h.ch).vf.wel = true)
    (hwip : wipOf (chanAt s h.ch) = false) (hdata : data ≠ [])
    (hlook : lookup h.ch (addr % 2 ^ (chanAt s h.ch).vf.windowLog2 / 256) (clearWel h.ch (drive h.ch [] s)) =
      (v, false, clearWel h.ch (drive h.ch [] s))) :
    ∃ stage, programBody h op addr data false (drive h.ch [] s) =
      applyVerdict h (hostWord op addr).toNat
        { policy := if v.readMode = 3 ∨ v.rule.isNone then 3 else v.policy, place := some (v.cs, v.phys), noRule := v.rule.isNone }
        (fun p => .program ((programLine (addr % 2 ^ (chanAt s h.ch).vf.windowLog2 % 256) data).map
          (fun x => (p * 256 + x.1, x.2)))) stage (clearWel h.ch (drive h.ch [] s)) := by
  have htwin : h.twin = none := by
    simp only [hostClean, Bool.and_eq_true, Option.isNone_iff_eq_none] at hc
    obtain ⟨⟨⟨-, htwin⟩, -⟩, -⟩ := hc
    exact htwin
  have hcons : considered h false (drive h.ch [] s) = true := by
    have hwip' : wipOf (chanAt (drive h.ch [] s) h.ch) = false := by
      rw [chanAt_drive]
      exact hwip
    rw [considered, hwip']
    simp [hwhole, hwel]
  have hjudge : judgeLine h (hostWord op addr).toNat (addr % 2 ^ (chanAt s h.ch).vf.windowLog2 / 256)
      (({} : WriteRun), clearWel h.ch (drive h.ch [] s)) =
      ({ policy := if v.readMode = 3 ∨ v.rule.isNone then 3 else v.policy, place := some (v.cs, v.phys),
         noRule := v.rule.isNone }, clearWel h.ch (drive h.ch [] s)) := by
    simp [judgeLine, hlook, combine, htwin]
  have hdata' : ¬ (data.isEmpty = true ∧ (!false) = true ∧ h.whole = true) := by simp [hdata]
  rw [programBody, if_neg hdata', hcons, if_neg (by decide)]
  simp only [chanAt_clearWel, chanAt_drive, hjudge]
  exact ⟨_, rfl⟩

theorem applyVerdict_denied {h : HostCmd} {word : Nat} {r : WriteRun} (op : Nat → PhysOp) (stage : StageOp) (s : State)
    (hp : 3 ≤ r.policy) : applyVerdict h word r op stage s =
      denyHost h.ch word (if r.noRule then modCounts h.ch (fun k => { k with noRule := satInc k.noRule }) s else s) :=
  if_pos hp

theorem applyVerdict_allowed {h : HostCmd} {word : U40} {r : WriteRun} {m : Cs} {line : Nat} (op : Nat → PhysOp)
    (stage : StageOp) (s : State) (hr : r.noRule = false) (hp : r.policy ≤ 1) (hl : r.place = some (m, line)) :
    applyVerdict h word.toNat r op stage s = issueStore h.ch (modChan h.ch (fun c => { c with
      store := some ⟨m, op line, word, false, r.policy == 1⟩ }) (modVf h.ch (fun v => { v with staged := false }) s)) := by
  have hword : BitVec.ofNat 40 word.toNat = word := by simp
  unfold applyVerdict
  simp only [hr, hl, Option.getD_some, hword]
  rw [if_neg (by omega : ¬ 3 ≤ r.policy), if_neg (by omega : ¬ r.policy = 2)]
  rfl

/-- What the four program commands share. -/
theorem hostProgram_runs {h : HostCmd} {op : Nat} {addr : U32} {data : List Byte} {spi qpi octal : Bool} {s : State}
    (hc : hostClean h s = true) (hl : listed s h op spi qpi octal = true) (hop : op ≠ 0x66) :
    hostProgram h op addr data spi qpi octal s = .next (hostEnd h (disarm h.ch
      (programBody h op addr.toNat data false (drive h.ch [] s)))) :=
  congrArg Host.Outcome.next (hostRun_plain _ hc hl hop)

/-- Settles O18: the four commands share `hostProgram`, and the line's verdict picks the branch. -/
theorem hostPrograms : Obligations.HostPrograms := by
  unfold Obligations.HostPrograms
  intro h addr data s x hx hc hm hwhole hwel hwip hdata
  dsimp only
  generalize verdictAt (clearWel h.ch (drive h.ch [] s)) h.ch
    (addr.toNat % 2 ^ (chanAt s h.ch).vf.windowLog2 / 256) = v
  intro hlook
  obtain ⟨stage, hbody⟩ := programBody_judged (op := x.2.1) hc hwhole hwel hwip hdata hlook
  have hrun : exec x.1 s = .next (hostEnd h (disarm h.ch (programBody h x.2.1 addr.toNat data false (drive h.ch [] s)))) := by
    obtain ⟨h02, h12, h32, h34⟩ := execs_hostProgram h addr data s
    simp only [List.mem_cons, List.not_mem_nil, or_false] at hx
    rcases hx with rfl | rfl | rfl | rfl
    · exact h02.trans (hostProgram_runs hc (listed_of_modeLists_spiQpi hm) (by decide))
    · exact h12.trans (hostProgram_runs hc (listed_of_modeLists_spiQpiOctal hm) (by decide))
    · exact h32.trans (hostProgram_runs hc (listed_of_modeLists_spi hm) (by decide))
    · exact h34.trans (hostProgram_runs hc (listed_of_modeLists_spi hm) (by decide))
  rw [hrun, hbody]
  refine ⟨fun hrule hmode hpol => ?stored, fun hrule hdeny => ?denied, fun hrule => ?ungoverned⟩
  case stored =>
    have hno : v.rule.isNone = false := Option.isNone_eq_false_iff.mpr (Option.isSome_iff_ne_none.mpr hrule)
    have hjudged : ¬ (v.readMode = 3 ∨ v.rule.isNone = true) := by simp [hmode, hno]
    rw [if_neg hjudged, applyVerdict_allowed _ stage _ hno hpol rfl]
  case denied =>
    have hno : v.rule.isNone = false := Option.isNone_eq_false_iff.mpr (Option.isSome_iff_ne_none.mpr hrule)
    have hpol : 3 ≤ (if v.readMode = 3 ∨ v.rule.isNone = true then 3 else v.policy) := by
      split
      · exact Nat.le_refl 3
      · omega
    rw [applyVerdict_denied _ stage _ hpol, hno, if_neg Bool.false_ne_true]
  case ungoverned =>
    have hno : v.rule.isNone = true := by simpa using hrule
    have hpol : 3 ≤ (if v.readMode = 3 ∨ v.rule.isNone = true then 3 else v.policy) := by simp [hno]
    rw [applyVerdict_denied _ stage _ hpol, hno, if_pos rfl]
end Sys2Proof.Proofs

end

section
/-! Physical operations, mode synchronisation and retries (O22) -/

namespace Sys2Proof.Proofs
open Sys2Proof Sys2Proof.Machine Sys2Proof.Laws
set_option maxRecDepth 4000

/-! ### The bytes that a physical operation leaves -/

/-- A program ANDs its bytes in, in their order. -/
theorem read_flashProgram (ps : List (Nat × Byte)) (a : Nat) :
    ∀ m : List (Nat × Byte), Memory.wf 0xFF m = true →
      Mem.read 0xFF (ps.foldl (fun m x => Mem.write 0xFF m x.1 (Mem.read 0xFF m x.1 &&& x.2)) m) a =
        (ps.filter (fun p => p.1 == a)).foldl (fun v p => v &&& p.2) (Mem.read 0xFF m a) := by
  induction ps with
  | nil => intro m _; rfl
  | cons p ps ih =>
    intro m hm
    rw [List.foldl_cons, ih _ (write_wf _ _ hm), read_write _ _ _ hm]
    by_cases h : p.1 = a
    · rw [if_pos h.symm, List.filter_cons_of_pos (by simp [h]), List.foldl_cons, h]
    · rw [if_neg (Ne.symm h), List.filter_cons_of_neg (by simpa using h)]

theorem tget_filter {α : Type} (p : Nat → Bool) (m : List (Nat × α)) (a : Nat) :
    tget (m.filter (fun c => p c.1)) a = if p a then tget m a else none := by
  induction m with
  | nil => simp [tget]
  | cons c m ih =>
    obtain ⟨k, v⟩ := c
    by_cases hk : p k = true
    · rw [List.filter_cons_of_pos (by exact hk)]
      simp only [tget, ih]
      by_cases ha : k = a
      · subst ha; simp [hk]
      · simp [ha]
    · rw [List.filter_cons_of_neg (by exact hk), ih]
      simp only [tget]
      by_cases ha : k = a
      · subst ha; simp [hk]
      · simp [ha]

/-- An erase leaves 0xFF in its block and the other bytes as they were. -/
theorem read_clear (m : List (Nat × Byte)) (x n a : Nat) :
    Mem.read 0xFF (Mem.clear m x n) a = if x ≤ a ∧ a < x + n then 0xFF else Mem.read 0xFF m a := by
  have hfilter := tget_filter (fun k => k < x || x + n ≤ k) m a
  unfold Mem.read Mem.clear
  rw [hfilter]
  by_cases h : x ≤ a ∧ a < x + n
  · have hout : (decide (a < x) || decide (x + n ≤ a)) = false := by
      rw [decide_eq_false (by omega), decide_eq_false (by omega)]
      rfl
    rw [hout, if_pos h]
    rfl
  · have hin : (decide (a < x) || decide (x + n ≤ a)) = true := by
      rw [Bool.or_eq_true, decide_eq_true_eq, decide_eq_true_eq]
      omega
    rw [hin, if_neg h]
    rfl

/-! ### The end of a physical operation -/

theorem flashCells_congr {s t : State} (h : cellsOf t = cellsOf s) (c : Chan) (m : Cs) :
    (flashOf (chanAt t c) m).cells = (flashOf (chanAt s c) m).cells := by
  have hc := congrArg (fun v => v[c]) h
  simp only [cellsOf, Fin.getElem_fin, Vector.getElem_map, Prod.mk.injEq] at hc
  rcases cs_cases m with rfl | rfl
  · exact hc.1
  · exact hc.2

@[simp] theorem hostOpEnd_aside (c : Chan) (ok : Bool) (s : State) : aside (hostOpEnd c ok s) = aside s := by
  unfold hostOpEnd
  (repeat' split) <;> simp

@[simp] theorem retryWon_aside (c : Chan) (s : State) : aside (retryWon c s) = aside s := by
  unfold retryWon
  split <;> simp

@[simp] theorem deviceOpFail_aside (c : Chan) (m : Cs) (op : PhysOp) (s : State) :
    aside (deviceOpFail c m op s) = aside s := by
  unfold deviceOpFail
  split <;> simp

@[simp] theorem flashIdle_aside (c : Chan) (m : Cs) (s : State) : aside (flashIdle c m s) = aside s := by
  simp [flashIdle]

/-- What the end of an operation leaves of the flashes, the clocks and the domains aside. -/
def EndsWith (f : Flash → Flash) (c : Chan) (m : Cs) (s t : State) : Prop :=
  cellsOf t = cellsOf (modFlash c m f (flashIdle c m s)) ∧ ground t = ground s ∧ aside t = aside s

theorem hostOp_endsWith (f : Flash → Flash) (c : Chan) (m : Cs) (ok : Bool) (i : Fin 14) (s : State) :
    EndsWith f c m s (finishAll (hostOpEnd c ok (timeoutArrived i (modFlash c m f (flashIdle c m s))))) := by
  refine ⟨by simp, ?_, by simp⟩
  rw [finishAll_ground, hostOpEnd_ground, timeoutArrived_ground, modFlash_ground, flashIdle_ground]

theorem deviceOp_endsWith (f : Flash → Flash) (c : Chan) (m : Cs) (op : PhysOp) (i : Fin 14) (s : State) :
    EndsWith f c m s (finishAll (seqOpDone c op (retryWon c (timeoutArrived i (modFlash c m f (flashIdle c m s)))))) := by
  refine ⟨by simp, by simp, by simp⟩

theorem deviceOpFail_endsWith (f : Flash → Flash) (c : Chan) (m : Cs) (op : PhysOp) (i : Fin 14) (s : State) :
    EndsWith f c m s (finishAll (deviceOpFail c m op (timeoutArrived i (modFlash c m f (flashIdle c m s))))) := by
  refine ⟨by simp, by simp, by simp⟩

theorem lateOp_endsWith (f : Flash → Flash) (c : Chan) (m : Cs) (s : State) :
    EndsWith f c m s (finishAll (modFlash c m f (flashIdle c m s))) := by
  refine ⟨by simp, by simp, by simp⟩

theorem physOpComplete_ok {s : State} {c : Chan} {m : Cs} {b : Busy} {op : PhysOp}
    (hb : (flashOf (chanAt s c) m).busy = some b) (hop : b = .host op ∨ b = .device op ∨ b = .late op) :
    ∃ t, exec (.physOpComplete c m .ok) s = .next t ∧ EndsWith (flashApply op) c m s t := by
  change ∃ t, execPhysOpComplete c m .ok s = .next t ∧ _
  unfold execPhysOpComplete
  simp only [hb]
  rcases hop with rfl | rfl | rfl
  · exact ⟨_, rfl, hostOp_endsWith ..⟩
  · exact ⟨_, rfl, deviceOp_endsWith ..⟩
  · exact ⟨_, rfl, lateOp_endsWith ..⟩

theorem physOpComplete_failed {s : State} {c : Chan} {m : Cs} {b : Busy} (cells : List (Nat × Byte))
    (hb : (flashOf (chanAt s c) m).busy = some b) :
    ∃ t, exec (.physOpComplete c m (.failed cells)) s = .next t ∧ EndsWith (flashPatch cells) c m s t := by
  change ∃ t, execPhysOpComplete c m (.failed cells) s = .next t ∧ _
  unfold execPhysOpComplete
  simp only [hb]
  cases b with
  | host op => exact ⟨_, rfl, hostOp_endsWith ..⟩
  | device op => exact ⟨_, rfl, deviceOpFail_endsWith ..⟩
  | late op => exact ⟨_, rfl, lateOp_endsWith ..⟩
theorem EndsWith.cells_self {f : Flash → Flash} {c : Chan} {m : Cs} {s t : State} (h : EndsWith f c m s t) :
    (flashOf (chanAt t c) m).cells = (f { flashOf (chanAt s c) m with busy := none }).cells := by
  rw [flashCells_congr h.1, flashOf_modFlash, if_pos ⟨rfl, rfl⟩, flashIdle, flashOf_modFlash, if_pos ⟨rfl, rfl⟩]

theorem EndsWith.cells_other {f : Flash → Flash} {c d : Chan} {m n : Cs} {s t : State} (h : EndsWith f c m s t)
    (hne : (d, n) ≠ (c, m)) : (flashOf (chanAt t d) n).cells = (flashOf (chanAt s d) n).cells := by
  have hno : ¬ (d = c ∧ n = m) := fun e => hne (Prod.ext e.1 e.2)
  rw [flashCells_congr h.1, flashOf_modFlash, if_neg hno, flashIdle, flashOf_modFlash, if_neg hno]

/-! ### Synchronisation, retries and the stage store -/

/-- A change of a channel is seen only in the channel it is made to. -/
theorem modChan_eq_of {c : Chan} {f g : Channel → Channel} {s : State} (h : f (chanAt s c) = g (chanAt s c)) :
    modChan c f s = modChan c g s := by
  unfold modChan
  exact congrArg (fun x : Channel => ({ s with chans := s.chans.set c.val x c.isLt } : State)) h

theorem modChan_modChan (c : Chan) (f g : Channel → Channel) (s : State) :
    modChan c g (modChan c f s) = modChan c (fun x => g (f x)) s := by
  simp [modChan]

theorem exec_physicalModeSync_idle {s : State} {c : Chan} (hdue : (chanAt s c).vf.syncDue = true)
    (hr : s.refclk = true) (hp : s.pllLock = true) (h0 : (chanAt s c).flash0.busy = none)
    (h1 : (chanAt s c).flash1.busy = none) :
    exec (.physicalModeSync c) s = .next (finishAll (modChan c (fun y => { y with
      flash0 := { y.flash0 with mode := y.vf.mode },
      flash1 := { y.flash1 with mode := y.vf.mode },
      vf := { y.vf with syncDue := false, gapStart := none } }) s)) := by
  change execPhysicalModeSync c s = _
  unfold execPhysicalModeSync
  dsimp only
  rw [if_pos ⟨hdue, hr, hp⟩, h0, h1]
  refine congrArg (fun t => Host.Outcome.next (finishAll t)) (modChan_eq_of ?_)
  simp [h0, h1]

theorem exec_flashOpRetry_op {s : State} {c : Chan} {m : Cs} {op : PhysOp} (hr : s.refclk = true)
    (hp : s.pllLock = true) (hrun : coresRun s = true) (hf : (chanAt s c).failedOp = some (m, op))
    (hb : (flashOf (chanAt s c) m).busy = none) (hd : (chanAt s c).devRead = none) :
    exec (.flashOpRetry c) s = .next (dropCovered c m op (modFlash c m (fun f => { f with busy := some (.device op) })
      (modChan c (fun y => { y with
        failedOp := none, retries := y.retries + 1
        counts := { y.counts with fpRetries := satInc y.counts.fpRetries } }) s))) := by
  change execFlashOpRetry c s = _
  unfold execFlashOpRetry
  dsimp only
  rw [if_neg (by simp [hr, hp]), hf]
  dsimp only
  simp only [hb, hd, hrun, Option.isNone_none, and_self, if_true, modChan_modChan]

theorem exec_flashOpRetry_read {s : State} {c : Chan} {r : DevRead} (hr : s.refclk = true)
    (hp : s.pllLock = true) (hf : (chanAt s c).failedOp = none) (hfr : (chanAt s c).failedRead = some r)
    (hd : (chanAt s c).devRead = none) (hcs : (chanAt s c).csLow = false) :
    exec (.flashOpRetry c) s = .next (modChan c (fun y => { y with
      devRead := some r, failedRead := none, retries := y.retries + 1
      counts := { y.counts with fpRetries := satInc y.counts.fpRetries } }) s) := by
  change execFlashOpRetry c s = _
  unfold execFlashOpRetry
  dsimp only
  rw [if_neg (by simp [hr, hp]), hf, hfr]
  dsimp only
  rw [if_pos ⟨by simp [hd], by simp [hcs]⟩, modChan_modChan]

/-- Settles O22: the end of an operation changes one flash by `flashApply` or `flashPatch`, bookkeeping aside. -/
theorem flashOperations : Obligations.FlashOperations := by
  unfold Obligations.FlashOperations
  refine ⟨⟨fun s c m b op hb hop hwf => ?ends, fun s c m b cells hb => ?fails,
    fun s c hdue hr hp h0 h1 => exec_physicalModeSync_idle hdue hr hp h0 h1⟩,
    fun s c m op hr hp hrun hf hb hd => exec_flashOpRetry_op hr hp hrun hf hb hd,
    fun s c r hr hp hf hfr hd hcs => exec_flashOpRetry_read hr hp hf hfr hd hcs, fun s c x hx => ?stage⟩
  case ends =>
    obtain ⟨t, ht, hend⟩ := physOpComplete_ok hb hop
    refine ⟨t, ht, fun ps hps a => ?_, fun x k hk a => ?_, fun d n hne => hend.cells_other hne, hend.2.1,
      aside_keys hend.2.2, aside_lc hend.2.2⟩
    · rw [hend.cells_self, hps]
      exact read_flashProgram ps a _ hwf
    · rw [hend.cells_self, hk]
      exact read_clear _ x (2 ^ k) a
  case fails =>
    obtain ⟨t, ht, hend⟩ := physOpComplete_failed cells hb
    exact ⟨t, ht, hend.cells_self, fun d n hne => hend.cells_other hne, hend.2.1⟩
  case stage =>
    change Host.Outcome.next (stageExpire c s) = _
    simp only [stageExpire, hx]
end Sys2Proof.Proofs

end

section
/-! Line checks, and FORMAT, STAGE_CLEAR and RESTORE (O24, O32) -/

namespace Sys2Proof.Proofs
open Sys2Proof Sys2Proof.Machine Sys2Proof.Laws
set_option maxRecDepth 4000

/-! ### Line checks -/

section
variable {s : State} {c : Chan} {m : Cs} {line : BitVec 24} {k : Nat} {x : Ctx}
  (hctx : findCtx s (spaceOf c m) line.toNat = some (k, x)) (hstate : x.state = .checking)
include hctx hstate

theorem exec_lineCheckComplete_uncovered (hcover : treeCovers s x.tree c x.haddr = false) :
    exec (.lineCheckComplete c m line) s = .next (finishAll (lineFail c m x.line x.haddr x.tree causeTree s)) := by
  change execLineCheckComplete c m line s = _
  unfold execLineCheckComplete
  rw [hctx]
  dsimp only
  rw [if_neg (not_not.mpr hstate), if_pos (by rw [hcover]; rfl)]

theorem exec_lineCheckComplete_covered (hcover : treeCovers s x.tree c x.haddr = true) (hnode : nextNode s x = none) :
    exec (.lineCheckComplete c m line) s = .next (finishAll (checkLine c m k x s)) := by
  change execLineCheckComplete c m line s = _
  unfold execLineCheckComplete
  rw [hctx]
  dsimp only
  rw [if_neg (not_not.mpr hstate), if_neg (by rw [hcover]; decide), hnode, if_neg (by decide)]

end

/-- The digest of a line's 256 bytes is the one that its node holds. -/
def digestFits (t : TreeEntry) (x : Ctx) (node : List Byte) : Bool :=
  leafDigest x.tree x.haddr (padTo x.data 256) == slice node (32 * (leafIndex t x.haddr % 16)) 32

/-- The check of a fetched line whose lowest node is in its path. -/
theorem checkLine_atHand {s : State} (c : Chan) (m : Cs) {k : Nat} {x : Ctx} {t : TreeEntry} {p : Nat × Nat × List Byte}
    (ht : tget s.hayloft.trees x.tree = some t) (hread : readBeats k 0 32 s = (true, s))
    (hp : x.path.find? (fun p => p.1 == 1 && p.2.1 == pathIndex (leafIndex t x.haddr) 1) = some p)
    (hf : x.fetched = true) :
    checkLine c m k x s =
      if digestFits t x p.2.2 then
        if x.pin then modChan c (fun ch => { ch with missLogged := ch.missLogged.filter (· != x.space * 2 ^ 24 + x.line) })
          (putCtx k { x with path := [], fetched := false, used := s.hayloft.useCount, state := .pinned }
            (modHay (fun h => { h with useCount := h.useCount + 1 }) s))
        else modCounts c (fun n => { n with linesVerified := satInc n.linesVerified }) (timeoutArrived 9
          (putCtx k { x with path := [], fetched := false, used := s.hayloft.useCount, state := .verified }
            (modHay (fun h => { h with useCount := h.useCount + 1 }) s)))
      else lineFail c m x.line x.haddr x.tree causeData (if x.pin then s else timeoutArrived 9 s) := by
  simp only [checkLine, ht, hread, hp, hf, Bool.not_true, Bool.false_eq_true, if_false, if_true]
  rfl

/-- Settles O24: a covered line with its nodes at hand is judged by its digest, an uncovered or stale one fails. -/
theorem lineChecks : Obligations.LineChecks := by
  unfold Obligations.LineChecks
  refine ⟨fun s c m line k x t p hctx hstate hcover hnode ht hread hp hf => ?checked,
    fun s c m line k x hctx hstate hcover => exec_lineCheckComplete_uncovered hctx hstate hcover,
    fun s c m line k x hctx hpin hstate => ?stale⟩
  case checked =>
    dsimp only
    rw [exec_lineCheckComplete_covered hctx hstate hcover hnode, checkLine_atHand c m ht hread hp hf]
    change (digestFits t x p.2.2 = true → _) ∧ (digestFits t x p.2.2 = true → _) ∧ (digestFits t x p.2.2 = false → _)
    refine ⟨fun hsame hpin => ?_, fun hsame hpin => ?_, fun hsame => ?_⟩
    · rw [if_pos hsame, if_neg (by simp [hpin])]
    · rw [if_pos hsame, if_pos hpin]
    · rw [if_neg (by simp [hsame])]
  case stale =>
    change execLineStale c m line s = _
    unfold execLineStale lineStale
    rw [hctx]
    dsimp only
    rw [if_pos ⟨by simp [hpin], hstate⟩]

/-! ### FORMAT, STAGE_CLEAR and RESTORE -/

theorem exec_format_admitted {s : State} {p : Port} (h : admitted s p .exec 0x6000 6 1 = true) :
    exec (.format p) s = .next (reply p (formatRule s).1 (formatRule s).2) := execOp_admitted (rule := formatRule) h

theorem exec_stageClear_admitted {s : State} {p : Port} (h : admitted s p .exec 0x6005 1 1 = true) :
    exec (.stageClear p) s = .next (reply p (stageClearRule s).1 (stageClearRule s).2) :=
  execOp_admitted (rule := stageClearRule) h

theorem exec_restore_admitted {s : State} {p : Port} (h : admitted s p .exec 0x6100 1 1 = true) :
    exec (.restore p) s = .next (reply p (restoreRule s).1 (restoreRule s).2) := execOp_admitted (rule := restoreRule) h

/-- The two copies of the partition table, with no record left. -/
def formatted (a : State) : State :=
  countStages (unsaved (modVault (fun v => { v with records := [] })
    (userWrite 1 (tableSector 1 ((formatSeq a + 1) % 65536) a.vault.userSectors.toNat (layoutInForce a))
      (userWrite 0 (tableSector 0 ((formatSeq a + 1) % 65536) a.vault.userSectors.toNat (layoutInForce a)) a))))

/-- FORMAT begins the counters where none are readable and the vault may write them. -/
def formatCounters (a : State) : State :=
  if a.vault.counters.isNone ∧ !a.vault.foreign ∧ !a.vault.degraded ∧ a.vault.rpmb.writeCounter ≠ BitVec.allOnes 32
  then putCounters 0 (List.replicate 62 0) a else a

theorem formatRule_otherState {s : State} (h : s.lc.state ≠ 0 ∧ s.lc.state ≠ 1) : formatRule s = (eState, s) := by
  have h0 : (s.lc.state == 0) = false := beq_false_of_ne h.1
  have h1 : (s.lc.state == 1) = false := beq_false_of_ne h.2
  rw [formatRule, h0, h1]
  rfl

theorem formatRule_ready {s : State} (hl : s.lc.state = 0 ∨ s.lc.state = 1) (hp : s.phase = .service)
    (hv : vaultReady s = true) :
    formatRule s = (eOk, finishAll (formatCounters (formatted (rpmbAttach s)))) := by
  have hin : inService s = true := by simp [inService, hp]
  have hlc : (s.lc.state == 0 || s.lc.state == 1) = true := by simpa using hl
  simp only [formatRule, hin, hlc, hv, Bool.and_self, Bool.not_true, Bool.false_eq_true, if_false]
  rfl

theorem stageClearRule_ready {s : State} (hv : vaultReady s = true) (hs : s.vault.scanDone = true) :
    stageClearRule s = (eOk, countStages (modVault (fun v => { v with
      user := (recsIn s 4).foldl (fun m r => Mem.clear m (r.1 * 512) 512) v.user
      records := v.records.filter (fun r => recPart r.2.1 != 4) }) s)) := by
  simp [stageClearRule, hv, hs]

theorem stageClearRule_unready {s : State} (h : vaultReady s = false ∨ s.vault.scanDone = false) :
    stageClearRule s = (eNotReady, s) :=
  if_pos (by simpa using h)
theorem putCounters_vault (seq : Nat) (vs : List Nat) (s : State) :
    (putCounters seq vs s).vault.records = s.vault.records ∧
      (putCounters seq vs s).vault.configSaved = s.vault.configSaved ∧
      (putCounters seq vs s).vault.stageRecords = s.vault.stageRecords ∧
      (putCounters seq vs s).vault.user = s.vault.user := ⟨rfl, rfl, rfl, rfl⟩

theorem formatCounters_vault (a : State) :
    (formatCounters a).vault.records = a.vault.records ∧
      (formatCounters a).vault.configSaved = a.vault.configSaved ∧
      (formatCounters a).vault.stageRecords = a.vault.stageRecords ∧
      (formatCounters a).vault.user = a.vault.user := by
  unfold formatCounters
  split
  · exact putCounters_vault ..
  · exact ⟨rfl, rfl, rfl, rfl⟩

theorem formatted_vault (a : State) :
    (formatted a).vault.records = [] ∧ (formatted a).vault.configSaved = false ∧ (formatted a).vault.stageRecords = 0 ∧
      (formatted a).vault.user = Mem.writeL 0 (Mem.writeL 0 a.vault.user 0
        (tableSector 0 ((formatSeq a + 1) % 65536) a.vault.userSectors.toNat (layoutInForce a))) 512
        (tableSector 1 ((formatSeq a + 1) % 65536) a.vault.userSectors.toNat (layoutInForce a)) := by
  simp [formatted, countStages, unsaved, modVault, userWrite, recsIn]

theorem formatCounters_ground (a : State) : ground (formatCounters a) = ground a := by
  unfold formatCounters
  split <;> simp

theorem formatCounters_cellsOf (a : State) : cellsOf (formatCounters a) = cellsOf a := by
  unfold formatCounters
  split <;> simp

theorem formatted_ground (a : State) : ground (formatted a) = ground a := by simp [formatted]

theorem formatted_cellsOf (a : State) : cellsOf (formatted a) = cellsOf a := by simp [formatted]

/-- What RESTORE does on a channel and a region that are in range. -/
def restoreOn (c : Chan) (region : List Nat) (fallback : Nat) (s : State) : U8 × State :=
  if (chanAt s c).eff = .off ∨ (chanAt s c).eff = .recovering ∨
      (chanAt s c).seq.any (fun q => q.ordered && q.stage != .preload) then (eState, s)
  else if (chanAt s c).eff = .retired then (eRetired, s)
  else if !vaultReady s ∨ !s.vault.scanDone then (eNotReady, s)
  else if (regionTrees s c region).any (fun t => match tget s.hayloft.trees t with
      | some e => (imageCands s e t).isEmpty
      | none => true) then (eEmpty, s)
  else (eOk, finishAll (toRestore c (match (chanAt s c).seq with | some q => union q.region region | none => region) true
    (((regionTrees s c region).head?).getD fallback) s))

theorem restoreRule_inRange {s : State} {v : Nat} {c : Chan} {region : List Nat}
    (hv : s.vault.restoreTarget.toNat = v) (hc : chanOf (bits v 14 12) = c)
    (hregion : orderedRegion s c (bit v 15) (bits v 11 0) = region) (hb : bits v 14 12 < 6)
    (hr : bit v 15 = true ∨ region ≠ []) : restoreRule s = restoreOn c region (bits v 11 0) s := by
  have hrange : ¬ (6 ≤ bits v 14 12 ∨ (!bit v 15) = true ∧ region.isEmpty = true) := by
    rintro (h | ⟨h15, hempty⟩)
    · omega
    · rcases hr with h | h
      · simp [h] at h15
      · exact h (List.isEmpty_iff.mp hempty)
  unfold restoreRule
  dsimp only
  rw [hv, hc, hregion, if_neg hrange]
  rfl

section
variable {c : Chan} {region : List Nat} {fallback : Nat} {s : State}

theorem restoreOn_retired (he : (chanAt s c).eff = .retired) (hq : (chanAt s c).seq = none) :
    restoreOn c region fallback s = (eRetired, s) := by
  simp [restoreOn, he, hq]

theorem restoreOn_down (he : (chanAt s c).eff = .off ∨ (chanAt s c).eff = .recovering) :
    restoreOn c region fallback s = (eState, s) :=
  if_pos (by tauto)

theorem restoreOn_running (he : (chanAt s c).eff = .running) (hq : (chanAt s c).seq = none)
    (hv : vaultReady s = true) (hs : s.vault.scanDone = true) :
    restoreOn c region fallback s =
      if (regionTrees s c region).any (fun t => match tget s.hayloft.trees t with
        | some e => (imageCands s e t).isEmpty
        | none => true) then (eEmpty, s)
      else (eOk, finishAll (toRestore c region true (((regionTrees s c region).head?).getD fallback) s)) := by
  simp [restoreOn, he, hq, hv, hs]

end

theorem countStages_records (f : Vault → Vault) (s : State) :
    (countStages (modVault f s)).vault.records = (f s.vault).records := rfl
theorem countStages_user (f : Vault → Vault) (s : State) :
    (countStages (modVault f s)).vault.user = (f s.vault).user := rfl
theorem countStages_chans (s : State) : (countStages s).chans = s.chans := rfl

/-- Settles O32: each order is its rule's branch on the vault's readiness, the life cycle and the region. -/
theorem vaultOrders : Obligations.VaultOrders := by
  unfold Obligations.VaultOrders
  refine ⟨fun s p hadm => ⟨fun hl => ?formatState, fun hl hp hv => ?format⟩,
    fun s p hadm => ⟨fun hv hs => ?stageClear, fun h => ?stageUnready⟩, fun s p hadm => ?restore⟩
  case formatState => rw [exec_format_admitted hadm, formatRule_otherState hl]
  case format =>
    obtain ⟨hrec, hsaved, hstages, huser⟩ := formatted_vault (rpmbAttach s)
    obtain ⟨hrec', hsaved', hstages', huser'⟩ := formatCounters_vault (formatted (rpmbAttach s))
    rw [exec_format_admitted hadm, formatRule_ready hl hp hv]
    have hground : ground (formatCounters (formatted (rpmbAttach s))) = ground s :=
      (formatCounters_ground _).trans ((formatted_ground _).trans (rpmbAttach_ground s))
    have hcells : cellsOf (formatCounters (formatted (rpmbAttach s))) = cellsOf s :=
      (formatCounters_cellsOf _).trans ((formatted_cellsOf _).trans (rpmbAttach_cellsOf s))
    dsimp only
    refine ⟨formatCounters (formatted (rpmbAttach s)), ?_, ?_, ?_, ?_, ?_, ?_, ?_⟩
    · rfl
    · rw [hrec', hrec]
    · rw [hsaved', hsaved]
    · rw [hstages', hstages]
    · rw [huser', huser]
    · exact hground
    · exact hcells
  case stageClear =>
    rw [exec_stageClear_admitted hadm, stageClearRule_ready hv hs]
    refine ⟨_, rfl, by simp, ?_, ?_, ?_, by simp⟩
    · rw [reply_vault, countStages_records]
    · rw [reply_vault, countStages_user]
    · rw [reply_chans, countStages_chans, modVault_chans]
  case stageUnready => rw [exec_stageClear_admitted hadm, stageClearRule_unready h]
  case restore =>
    dsimp only
    generalize hv : s.vault.restoreTarget.toNat = v
    generalize hc : chanOf (bits v 14 12) = c
    generalize hregion : orderedRegion s c (bit v 15) (bits v 11 0) = region
    intro hb hr
    rw [exec_restore_admitted hadm, restoreRule_inRange hv hc hregion hb hr]
    refine ⟨fun he hq => ?_, fun he => ?_, fun he hq hready hs => ⟨fun ht => ?_, fun ht => ?_⟩⟩
    · rw [restoreOn_retired he hq]
    · rw [restoreOn_down he]
    · rw [restoreOn_running he hq hready hs, if_neg]
      simp only [List.any_eq_true, not_exists, not_and]
      intro t hmem
      obtain ⟨e, htree, himages⟩ := ht t hmem
      simp [htree, himages]
    · rw [restoreOn_running he hq hready hs, if_pos]
      obtain ⟨t, hmem, htree⟩ := ht
      exact List.any_eq_true.mpr ⟨t, hmem, by rw [htree]⟩
end Sys2Proof.Proofs

end

section
/-! The digest banks (O37) -/

namespace Sys2Proof.Proofs
open Sys2Proof Sys2Proof.Machine Sys2Proof.Laws
set_option maxRecDepth 4000

/-! ### The digest banks -/

theorem modBank_eq_of {b : Fin 8} {f g : Bank → Bank} {s : State} (h : f (bankAt s b) = g (bankAt s b)) :
    modBank b f s = modBank b g s := by
  unfold modBank
  exact congrArg (fun x : Bank => ({ s with banks := s.banks.set b.val x b.isLt } : State)) h

theorem modCx_eq_of {u : Fin 4} {f g : CxJob → CxJob} {s : State} (h : f (cxAt s u) = g (cxAt s u)) :
    modCx u f s = modCx u g s := by
  unfold modCx
  exact congrArg (fun x : CxJob => ({ s with cxs := s.cxs.set u.val x u.isLt } : State)) h

/-- A bank's operation answers with its code and leaves it in the bank. -/
theorem bankOp_eq {b : Fin 8} {f : Bank → U8 × Bank} {g : Bank → Bank} {s : State} {c : U8} {k : Bank}
    (h : f (bankAt s b) = (c, k)) (hg : { k with lastCode := c } = g (bankAt s b)) :
    bankOp b f s = (c, modBank b g s) := by
  unfold bankOp
  rw [h]
  exact congrArg (Prod.mk c) (modBank_eq_of hg)

/-- An admitted request whose rule is a bank's operation. -/
theorem requestOp_bank {s : State} {p : Port} {v : Svc} {i sub n : Nat} {rule : State → U8 × State} {b : Fin 8}
    {f : Bank → U8 × Bank} {g : Bank → Bank} {c : U8} {k : Bank} (hadm : admitted s p v i sub n = true)
    (hrule : rule s = bankOp b f s) (h : f (bankAt s b) = (c, k)) (hg : { k with lastCode := c } = g (bankAt s b)) :
    requestOp p v i sub n rule s = .next (reply p c (modBank b g s)) := by
  rw [requestOp_admitted hadm, hrule, bankOp_eq h hg]

theorem exec_dgAlloc_admitted {s : State} {p : Port} (h : admitted s p .exec 0x8100 1 1 = true) :
    exec (.dgAlloc p) s = .next (reply p (dgAllocRule p s).1 (dgAllocRule p s).2) :=
  execOp_admitted (rule := dgAllocRule p) h

theorem dgAllocRule_granted {s : State} {p : Port} {b : Fin 8} (h : s.digestHealth.retired = false)
    (hb : bankChoice s p = some b) : dgAllocRule p s =
      (eOk, modPort p (fun r => { r with dgGranted := BitVec.ofNat 8 b.val })
        (modBank b (fun k => { k with st := .idle, owner := some p }) s)) := by
  simp only [dgAllocRule, h, hb, Bool.false_eq_true, if_false]

theorem dgAllocRule_none {s : State} {p : Port} (h : s.digestHealth.retired = false) (hb : bankChoice s p = none) :
    dgAllocRule p s = (eBusy, modPort p (fun r => { r with dgGranted := 0xFF }) s) := by
  simp only [dgAllocRule, h, hb, Bool.false_eq_true, if_false]

/-- The slot may be absorbed by a port: it is loaded, a digest key and usable. -/
theorem absorbable_false {s : State} {p : Port} {slot : Nat} (h : ksLoaded s slot = false ∨
    (keySlot s slot).attr.getLsbD 0 = false ∨ ksUsable s p slot = false) :
    (!(ksLoaded s slot && (keySlot s slot).attr.getLsbD 0 && ksUsable s p slot)) = true := by
  rcases h with h | h | h <;> rw [h] <;> simp

theorem padAllowed {v : U16} (h : bits v.toNat 15 8 = 0 ∨ bits v.toNat 15 8 = 0x36 ∨ bits v.toNat 15 8 = 0x5C)
    (hz : bits v.toNat 7 6 = 0) : ¬ (bits v.toNat 7 6 ≠ 0 ∨
      (!(bits v.toNat 15 8 == 0 || bits v.toNat 15 8 == 0x36 || bits v.toNat 15 8 == 0x5C)) = true) := by
  rcases h with h | h | h <;> simp [h, hz]

/-- Settles O37: each request is an operation on its bank, picked by the bank's state, the order and the lengths. -/
theorem digestEngine : Obligations.DigestEngine := by
  unfold Obligations.DigestEngine
  refine ⟨⟨fun s p hadm hr => ⟨fun b hb => ?grant, fun hb => ?noBank⟩, fun s p b n hadm hst halg => ?declare,
    fun s p b off data hadm hst => ⟨fun ho hlen => ?absorb, fun ho hlen => ?tooMuch, fun ho => ?outOfOrder⟩,
    fun s p b hadm hst => ⟨fun hlen => ?finish, fun hlen => ?tooLittle⟩, fun s p b hadm => ?release⟩,
    fun s p b v hadm => ?absorbKey, fun s p b hadm hst halign => ⟨fun hw => ?plain, fun hw h8 => ?wrapped⟩,
    fun s p b hadm hst hw h8 => ⟨fun d hd hok hlen => ?imported, fun hd => ?notUnwrapped⟩, fun s b hst => ?parity,
    fun s u hu hst => ?cipherParity⟩
  case grant => rw [exec_dgAlloc_admitted hadm, dgAllocRule_granted hr hb]
  case noBank => rw [exec_dgAlloc_admitted hadm, dgAllocRule_none hr hb]
  case declare =>
    change writeOp p (0x8110 + b.val) 4 5 (dgDeclRule b n) s = _
    have hst' : ¬ ((bankAt s b).st ≠ .idle ∧ (bankAt s b).st ≠ .done) := by tauto
    exact requestOp_bank hadm rfl ((if_neg hst').trans (if_neg halg)) rfl
  case absorb =>
    change blockOp p (0x8110 + b.val) 6 data.length (dgDataRule b off.toNat data) s = _
    have ho' : ¬ off.toNat ≠ (bankAt s b).absorbed.toNat := by simp [ho]
    exact requestOp_bank hadm rfl ((if_neg (not_not.mpr hst)).trans ((if_neg ho').trans (if_neg (by omega)))) rfl
  case tooMuch =>
    change blockOp p (0x8110 + b.val) 6 data.length (dgDataRule b off.toNat data) s = _
    have ho' : ¬ off.toNat ≠ (bankAt s b).absorbed.toNat := by simp [ho]
    exact requestOp_bank hadm rfl ((if_neg (not_not.mpr hst)).trans ((if_neg ho').trans (if_pos hlen))) rfl
  case outOfOrder =>
    change blockOp p (0x8110 + b.val) 6 data.length (dgDataRule b off.toNat data) s = _
    have ho' : off.toNat ≠ (bankAt s b).absorbed.toNat := fun h => ho (BitVec.eq_of_toNat_eq h)
    exact requestOp_bank hadm rfl ((if_neg (not_not.mpr hst)).trans (if_pos ho')) rfl
  case finish =>
    change execOp p (0x8110 + b.val) 8 1 (dgFinishRule b) s = _
    exact requestOp_bank hadm rfl ((if_neg (not_not.mpr hst)).trans (if_neg (by omega))) rfl
  case tooLittle =>
    change execOp p (0x8110 + b.val) 8 1 (dgFinishRule b) s = _
    exact requestOp_bank hadm rfl ((if_neg (not_not.mpr hst)).trans (if_pos hlen)) rfl
  case release =>
    change execOp p (0x8110 + b.val) 0xD 1 (dgReleaseRule b) s = _
    exact requestOp_bank hadm rfl rfl rfl
  case absorbKey =>
    intro slot k hst halign hz hpad
    have hstate : ¬ ((bankAt s b).st ≠ .absorbing ∨
        (bankAt s b).absorbed.toNat % algBlock (bankAt s b).alg.toNat ≠ 0) := by
      rintro (h | h)
      · exact h hst
      · exact h halign
    refine ⟨fun hl ha hu hb hlen => ?_, fun hno => ?_⟩
    · have hkey : ¬ (!(ksLoaded s slot && (keySlot s slot).attr.getLsbD 0 && ksUsable s p slot)) = true := by
        simp [hl, ha, hu]
      have hphase : ¬ (b ≠ 0 ∧ (!inService s) = true) := by
        rcases hb with rfl | hp
        · simp
        · simp [inService, hp]
      change execOp p (0x8110 + b.val) 7 2 (absorbKeyRule p b v) s = _
      refine requestOp_bank hadm (by rw [absorbKeyRule]) (k := { bankAbsorb
        ((padTo (ksKey s slot) (algBlock (bankAt s b).alg.toNat)).map (· ^^^ BitVec.ofNat 8 (bits v.toNat 15 8)))
        (bankAt s b) with keyed := true, keys := insertNat slot (bankAt s b).keys }) ?_ ?_
      · exact (if_neg hstate).trans ((if_neg (padAllowed hpad hz)).trans ((if_neg hkey).trans
          ((if_neg hphase).trans (if_neg (Nat.not_lt.mpr hlen)))))
      · rfl
    · change execOp p (0x8110 + b.val) 7 2 (absorbKeyRule p b v) s = _
      refine requestOp_bank hadm (by rw [absorbKeyRule]) (k := bankAt s b) ?_ ?_
      · exact (if_neg hstate).trans ((if_neg (padAllowed hpad hz)).trans (if_pos (absorbable_false hno)))
      · rfl
  case plain =>
    change execOp p (0x8110 + b.val) 0xA 1 (exportRule b) s = _
    have hstate : ¬ ((bankAt s b).st ≠ .absorbing ∨
        (bankAt s b).absorbed.toNat % algBlock (bankAt s b).alg.toNat ≠ 0) := by tauto
    exact requestOp_bank hadm rfl ((if_neg hstate).trans (if_pos (by rw [hw]; rfl))) rfl
  case wrapped =>
    change execOp p (0x8110 + b.val) 0xA 1 (exportRule b) s = _
    have hstate : ¬ ((bankAt s b).st ≠ .absorbing ∨
        (bankAt s b).absorbed.toNat % algBlock (bankAt s b).alg.toNat ≠ 0) := by tauto
    exact requestOp_bank hadm rfl ((if_neg hstate).trans ((if_neg (by simp [hw])).trans (if_neg (by simp [h8])))) rfl
  case imported =>
    change execOp p (0x8110 + b.val) 0xC 1 (importRule b) s = _
    have hst' : ¬ ((bankAt s b).st ≠ .idle ∧ (bankAt s b).st ≠ .done) := by tauto
    have hfits : (blobOk d && d.length == 24 + algState (byteAt d 0)) = true := by simp [hok, hlen]
    have hunwrap : (if ksLoaded s 8 then unwrapBlob (ksKey s 8) (bankAt s b).blob else none) = some d :=
      (if_pos h8).trans hd
    refine requestOp_bank hadm rfl (k := loadBlob d (bankAt s b)) ((if_neg hst').trans ((if_pos hw).trans ?_)) ?_
    · rw [hunwrap]
      exact if_pos hfits
    · rfl
  case notUnwrapped =>
    change execOp p (0x8110 + b.val) 0xC 1 (importRule b) s = _
    have hst' : ¬ ((bankAt s b).st ≠ .idle ∧ (bankAt s b).st ≠ .done) := by tauto
    have hunwrap : (if ksLoaded s 8 then unwrapBlob (ksKey s 8) (bankAt s b).blob else none) = none :=
      (if_pos h8).trans hd
    refine requestOp_bank hadm rfl (k := bankAt s b) ((if_neg hst').trans ((if_pos hw).trans ?_)) ?_
    · rw [hunwrap]
    · rfl
  case parity =>
    change execEngineParityError false b s = _
    exact congrArg (fun t => Host.Outcome.next (chargeDigest t)) (modBank_eq_of (if_neg hst))
  case cipherParity =>
    change execEngineParityError true u s = _
    unfold execEngineParityError
    rw [if_pos rfl, dif_pos hu]
    exact congrArg (fun t => Host.Outcome.next (chargeCipher t)) (modCx_eq_of (if_neg hst))
end Sys2Proof.Proofs

end

section
/-! The key store (O39) -/

namespace Sys2Proof.Proofs
open Sys2Proof Sys2Proof.Machine Sys2Proof.Laws
set_option maxRecDepth 4000

/-! ### The key store's rules -/

theorem exec_ksGenerate_admitted {s : State} {p : Port} (h : admitted s p .exec 0x8300 3 1 = true) :
    exec (.ksGenerate p) s = .next (reply p (ksGenerateRule p s).1 (ksGenerateRule p s).2) :=
  execOp_admitted (rule := ksGenerateRule p) h

theorem exec_ksDerive_admitted {s : State} {p : Port} (src : U8) (h : admitted s p .exec 0x8300 4 1 = true) :
    exec (.ksDerive p src) s = .next (reply p (ksDeriveRule p src.toNat s).1 (ksDeriveRule p src.toNat s).2) :=
  execOp_admitted (rule := ksDeriveRule p src.toNat) h

theorem exec_ksWrap_admitted {s : State} {p : Port} (w : U8) (h : admitted s p .exec 0x8300 7 1 = true) :
    exec (.ksWrap p w) s = .next (reply p (ksWrapRule p w.toNat s).1 (ksWrapRule p w.toNat s).2) :=
  execOp_admitted (rule := ksWrapRule p w.toNat) h

theorem exec_ksUnwrap_admitted {s : State} {p : Port} (w : U8) (h : admitted s p .exec 0x8300 8 1 = true) :
    exec (.ksUnwrap p w) s = .next (reply p (ksUnwrapRule p w.toNat s).1 (ksUnwrapRule p w.toNat s).2) :=
  execOp_admitted (rule := ksUnwrapRule p w.toNat) h

theorem exec_ksImportPlain_admitted {s : State} {p : Port} (h : admitted s p .exec 0x8300 0xB 1 = true) :
    exec (.ksImportPlain p) s = .next (reply p (ksImportRule p s).1 (ksImportRule p s).2) :=
  execOp_admitted (rule := ksImportRule p) h

theorem exec_ksClear_admitted {s : State} {p : Port} (h : admitted s p .exec 0x8300 0xC 1 = true) :
    exec (.ksClear p) s = .next (reply p (ksClearRule p s).1 (ksClearRule p s).2) :=
  execOp_admitted (rule := ksClearRule p) h

theorem exec_dssProvision_admitted {s : State} {p : Port} (v : U8) (w : Option Window) (ok : Bool)
    (h : admitted s p .exec 0x8300 0x10 1 = true) : exec (.dssProvision p v w ok) s =
      .next (reply p (dssProvisionRule v.toNat w ok s).1 (dssProvisionRule v.toNat w ok s).2) :=
  execOp_admitted (rule := dssProvisionRule v.toNat w ok) h

theorem exec_keyReload_admitted {s : State} {p : Port} (h : admitted s p .exec 0x8300 0x11 1 = true) :
    exec (.keyReload p) s = .next (reply p (keyReloadRule s).1 (keyReloadRule s).2) :=
  execOp_admitted (rule := keyReloadRule) h

theorem ksGenerateRule_drawn {s t : State} {p : Port} {bs : List Byte} (hc : ksLoadCheck s p = eOk)
    (hw : wireGenerate 0 (ksDraw (bits (portRegs s p).ksReqAttr.toNat 28 27)) s = (some bs, t)) :
    ksGenerateRule p s = (eOk, ksLoad (portRegs s p).ksSelect.toNat (portRegs s p).ksReqAttr.toNat 3 (portNo p).val
      (ksForm (bits (portRegs s p).ksReqAttr.toNat 28 27) bs) t) := by
  simp only [ksGenerateRule, hc, hw, ne_eq, not_true_eq_false, if_false]

theorem ksGenerateRule_undrawn {s t : State} {p : Port} (hc : ksLoadCheck s p = eOk)
    (hw : wireGenerate 0 (ksDraw (bits (portRegs s p).ksReqAttr.toNat 28 27)) s = (none, t)) :
    ksGenerateRule p s = (eNotReady, t) := by
  simp only [ksGenerateRule, hc, hw, ne_eq, not_true_eq_false, if_false]

theorem ksGenerateRule_refused {s : State} {p : Port} (hc : ksLoadCheck s p ≠ eOk) :
    ksGenerateRule p s = (ksLoadCheck s p, s) := if_pos hc

theorem ksDeriveRule_denied {s : State} {p : Port} {src : Nat} (h : ksWith s p src 6 = false) :
    ksDeriveRule p src s = (eAccess, s) := if_pos (Or.inr (by simp [h]))

theorem ksDeriveRule_derived {s : State} {p : Port} {src : Nat} (h16 : 16 ≤ (portRegs s p).ksSelect.toNat)
    (h : ksWith s p src 6 = true) (hc : ksLoadCheck s p = eOk)
    (hsrc : 16 ≤ src ∨ bit (portRegs s p).ksReqAttr.toNat 7 = false) :
    ksDeriveRule p src s = (eOk, ksLoad (portRegs s p).ksSelect.toNat (portRegs s p).ksReqAttr.toNat 2 (portNo p).val
      (ksForm (bits (portRegs s p).ksReqAttr.toNat 28 27) (kdf (ksKey s src) (portRegs s p).ksLabel
        (portRegs s p).ksContext (ksDraw (bits (portRegs s p).ksReqAttr.toNat 28 27)))) s) := by
  have hgeneral : ¬ ((portRegs s p).ksSelect.toNat < 16 ∨ (!ksWith s p src 6) = true) := by
    simp only [h, Bool.not_true, Bool.false_eq_true, or_false]
    omega
  have hinternal : ¬ (src < 16 ∧ bit (portRegs s p).ksReqAttr.toNat 7 = true) := by
    rintro ⟨hlt, hbit⟩
    rcases hsrc with hge | hno
    · omega
    · simp [hno] at hbit
  unfold ksDeriveRule
  dsimp only
  rw [if_neg hgeneral, if_neg (not_not.mpr hc), if_neg hinternal]

theorem ksWrapRule_wrapped {s : State} {p : Port} {w : Nat} (hw : ksWith s p w 3 = true)
    (hs : ksWith s p (portRegs s p).ksSelect.toNat 7 = true) :
    ksWrapRule p w s = (eOk, modPort p (fun r => { r with
      ksBlob := padTo (aesKw (ksKey s w) (blobPlain s (portRegs s p).ksSelect.toNat)) 64 }) s) :=
  if_neg (by simp [hw, hs])

theorem ksWrapRule_denied {s : State} {p : Port} {w : Nat} (h : ksWith s p w 3 = false ∨
    ksWith s p (portRegs s p).ksSelect.toNat 7 = false) : ksWrapRule p w s = (eAccess, s) :=
  if_pos (by simpa using h)

section
variable {s : State} {p : Port} {w : Nat} (h16 : 16 ≤ (portRegs s p).ksSelect.toNat) (hw : ksWith s p w 4 = true)
  (hempty : tget s.keys.slots (portRegs s p).ksSelect.toNat = none)
include h16 hw

theorem ksUnwrap_general : ¬ ((portRegs s p).ksSelect.toNat < 16 ∨ (!ksWith s p w 4) = true) := by
  simp only [hw, Bool.not_true, Bool.false_eq_true, or_false]
  omega

include hempty

theorem ksUnwrapRule_failed (hd : aesKwUnwrap (ksKey s w) (portRegs s p).ksBlob = none) :
    ksUnwrapRule p w s = (eAuth, s) := by
  unfold ksUnwrapRule
  dsimp only
  rw [if_neg (ksUnwrap_general h16 hw), hempty, if_neg (by decide), hd]

theorem ksUnwrapRule_loaded {d : List Byte} (hd : aesKwUnwrap (ksKey s w) (portRegs s p).ksBlob = some d)
    (hhigh : bits (fieldAt d 0 4) 31 29 = 0) (hmid : bits (fieldAt d 0 4) 26 22 = 0)
    (hzero : allZero (slice d 4 4) = true) (hreq : ksReqOk (fieldAt d 0 4) = true) (hsize : bits (fieldAt d 0 4) 28 27 ≠ 2) :
    ksUnwrapRule p w s = (eOk, ksLoad (portRegs s p).ksSelect.toNat (fieldAt d 0 4) 4 (portNo p).val
      ((slice d 8 48).take (min 48 (ksDraw (bits (fieldAt d 0 4) 28 27)))) s) := by
  have hfields : ¬ (bits (fieldAt d 0 4) 31 29 ≠ 0 ∨ bits (fieldAt d 0 4) 26 22 ≠ 0 ∨ (!allZero (slice d 4 4)) = true ∨
      (!ksReqOk (fieldAt d 0 4)) = true ∨
      (bits (fieldAt d 0 4) 28 27 = 2 ∧ (portRegs s p).ksSelect.toNat % 2 = 1)) := by
    simp [hhigh, hmid, hzero, hreq, hsize]
  have htarget : ksTarget s (portRegs s p).ksSelect.toNat (bits (fieldAt d 0 4) 28 27) = eOk := by
    rw [ksTarget, if_neg (by omega), if_neg (by simp [hempty, hsize])]
  unfold ksUnwrapRule
  dsimp only
  rw [if_neg (ksUnwrap_general h16 hw), hempty, if_neg (by decide), hd]
  dsimp only
  rw [if_neg hfields, if_neg (not_not.mpr htarget)]

end

theorem ksImportRule_loaded {s : State} {p : Port} (hp : s.lc.state = 0 ∨ s.phase = .test) (hc : ksLoadCheck s p = eOk) :
    ksImportRule p s = (eOk, ksLoad (portRegs s p).ksSelect.toNat (portRegs s p).ksReqAttr.toNat 5 (portNo p).val
      ((portRegs s p).ksPlain.take (min 48 (ksDraw (bits (portRegs s p).ksReqAttr.toNat 28 27))))
      (modPort p (fun r => { r with ksPlain := zeros 48 }) s)) := by
  simp only [ksImportRule, if_pos hp, hc, if_true]

theorem ksImportRule_closed {s : State} {p : Port} (hl : s.lc.state ≠ 0) (hp : s.phase ≠ .test) :
    ksImportRule p s = (eState, modPort p (fun r => { r with ksPlain := zeros 48 }) s) := by
  have hno : ¬ (s.lc.state = 0 ∨ s.phase = .test) := by tauto
  have hcode : ¬ eState = eOk := by decide
  simp only [ksImportRule, if_neg hno, if_neg hcode]

theorem keySlot_ksLoad {slot req origin owner : Nat} {key : List Byte} {s : State} (h : bits req 28 27 ≠ 2) (k : Nat) :
    keySlot (ksLoad slot req origin owner key s) k =
      if k = slot then { attr := ksAttr req origin owner, key := padTo key 32 } else keySlot s k := by
  have hslots : (ksLoad slot req origin owner key s).keys.slots =
      tput s.keys.slots slot { attr := ksAttr req origin owner, key := padTo key 32 } := by
    simp only [ksLoad, modKeys, if_neg h]
  rw [keySlot, hslots, tget_tput]
  split <;> rfl

section
variable {s : State} {p : Port} (h16 : 16 ≤ (portRegs s p).ksSelect.toNat)
  (hst : ksState (keySlot s (portRegs s p).ksSelect.toNat).attr ≠ 2)
include h16 hst

/-- KS_CLEAR of a general slot that is no second half. -/
theorem ksClearRule_general : ksClearRule p s =
    if (tget s.keys.slots (portRegs s p).ksSelect.toNat).isNone then (eOk, s)
    else if !ksUsable s p (portRegs s p).ksSelect.toNat then (eAccess, s)
    else if keyInUse s (portRegs s p).ksSelect.toNat then (eBusy, s)
    else (eOk, if ksSize (keySlot s (portRegs s p).ksSelect.toNat).attr = 2
      then ksDrop ((portRegs s p).ksSelect.toNat + 1) (ksDrop (portRegs s p).ksSelect.toNat s)
      else ksDrop (portRegs s p).ksSelect.toNat s) := by
  unfold ksClearRule
  dsimp only
  rw [if_neg hst, if_neg (by omega)]

end

theorem dssProvisionRule_next {s : State} {k : Nat} (value : Nat) (w : Option Window) (ok : Bool)
    (hk : dssNext s = some k) (hp : provisionAllowed s = false) : dssProvisionRule value w ok s = (eState, s) := by
  simp only [dssProvisionRule, hk, hp, Bool.not_false, if_true]

theorem dssProvisionRule_range {s : State} {k : Nat} {value : Nat} (w : Option Window) (ok : Bool)
    (hk : dssNext s = some k) (hp : provisionAllowed s = true)
    (hr : 2 < value ∨ (if value = 0 then custody s else value) = 0) :
    dssProvisionRule value w ok s = (eRange, s) := by
  have hrange : 2 < value ∨ (if value = 0 then custody s else value) = 0 ∨
      (custody s ≠ 0 ∧ (if value = 0 then custody s else value) ≠ custody s) := by tauto
  simp only [dssProvisionRule, hk, hp, Bool.not_true, Bool.false_eq_true, if_false]
  rw [if_pos hrange]

theorem dssProvisionRule_burned {s t : State} {k mode value : Nat} {w : Option Window} {dss : List Byte}
    (hk : dssNext s = some k) (hp : provisionAllowed s = true) (hmode : (if value = 0 then custody s else value) = mode)
    (hv : value ≤ 2) (h0 : mode ≠ 0) (hc : custody s = mode) (hcell : mode = 1 → s.heath.cellState = 0)
    (hw : wireFresh 32 w s = (some dss, t)) :
    dssProvisionRule value w true s = (eOk, keysBack (keysLoaded dss (otpBurn (0x230 + 48 * k)
      (dssMasked (burnFlag (0x230 + 48 * k + 40) t) mode k dss ++ dssCheck (burnFlag (0x230 + 48 * k + 40) t) dss)
      (burnFlag (0x230 + 48 * k + 40) t)))) := by
  have hrange : ¬ (2 < value ∨ mode = 0 ∨ (custody s ≠ 0 ∧ mode ≠ custody s)) := by
    rintro (h | h | h)
    · omega
    · exact h0 h
    · exact h.2 hc.symm
  have hdead : ¬ (mode = 1 ∧ s.heath.cellState ≠ 0) := fun h => h.2 (hcell h.1)
  have hkept : ¬ custody s = 0 := by rw [hc]; exact h0
  unfold dssProvisionRule
  dsimp only
  rw [hk, hmode]
  dsimp only
  rw [if_neg (by simp [hp]), if_neg hrange, if_neg hdead, hw]
  dsimp only
  rw [if_neg hkept, if_pos rfl]

theorem keyReloadRule_state {s : State} (h : s.keys.keyState ≠ 2) : keyReloadRule s = (eState, s) := if_pos (Or.inl h)

theorem keyReloadRule_erased {s : State} (h : s.keys.keyState = 2) (ht : ∀ c, (chanAt s c).tamper = false) :
    keyReloadRule s = match (dssSlot s).bind (dssRecover s) with
      | some dss => (eOk, keysBack (keysLoaded dss s))
      | none => (eIntegrity, finishAll (keysLost s)) := by
  have hno : ¬ (s.keys.keyState ≠ 2 ∨ [(0 : Chan), 1, 2, 3, 4, 5].any (fun c => (chanAt s c).tamper) = true) := by
    rintro (hs | hs)
    · exact hs h
    · obtain ⟨c, -, hc⟩ := List.any_eq_true.mp hs
      simp [ht c] at hc
  exact if_neg hno
/-- Settles O39: each command is its rule's branch on the selected slot, its attributes and the source's answer. -/
theorem keyStore : Obligations.KeyStore := by
  unfold Obligations.KeyStore
  refine ⟨⟨fun s p hadm => ?generate, fun s p src hadm => ?derive, fun s p w hadm => ?unwrap, fun s p hadm => ?importPlain,
    fun slot req origin owner key s hsize => ?load⟩, fun s p w hadm => ?wrap, fun s p hadm => ?clear,
    fun s p v w ok k hadm hk => ?provision, fun s p hadm => ?reload⟩
  case generate =>
    dsimp only
    rw [exec_ksGenerate_admitted hadm]
    refine ⟨fun hc bs t hw => ?_, fun hc t hw => ?_, fun hc => ?_⟩
    · rw [ksGenerateRule_drawn hc hw]
    · rw [ksGenerateRule_undrawn hc hw]
    · rw [ksGenerateRule_refused hc]
  case derive =>
    dsimp only
    rw [exec_ksDerive_admitted src hadm]
    refine ⟨fun h => ?_, fun h16 h hc hsrc => ?_⟩
    · rw [ksDeriveRule_denied h]
    · rw [ksDeriveRule_derived h16 h hc hsrc]
  case unwrap =>
    dsimp only
    intro h16 hw hempty
    rw [exec_ksUnwrap_admitted w hadm]
    refine ⟨fun hd => ?_, fun d hd hhigh hmid hzero hreq hsize => ?_⟩
    · rw [ksUnwrapRule_failed h16 hw hempty hd]
    · rw [ksUnwrapRule_loaded h16 hw hempty hd hhigh hmid hzero hreq hsize]
  case importPlain =>
    dsimp only
    rw [exec_ksImportPlain_admitted hadm]
    refine ⟨fun hp hc => ?_, fun hl hp => ?_⟩
    · rw [ksImportRule_loaded hp hc]
    · rw [ksImportRule_closed hl hp]
  case load => exact ⟨by rw [keySlot_ksLoad hsize, if_pos rfl], fun k hk => by rw [keySlot_ksLoad hsize, if_neg hk]⟩
  case wrap =>
    dsimp only
    rw [exec_ksWrap_admitted w hadm]
    refine ⟨fun hw hs => ?_, fun h => ?_⟩
    · rw [ksWrapRule_wrapped hw hs]
    · rw [ksWrapRule_denied h]
  case clear =>
    dsimp only
    intro h16 hst
    rw [exec_ksClear_admitted hadm, ksClearRule_general h16 hst]
    refine ⟨fun he => ?_, fun hf hu => ?_, fun hf hu hb => ?_, fun hf hu hb hsize => ?_⟩
    · rw [if_pos (by simp [he])]
    · rw [if_neg (by simpa using hf), if_pos (by simp [hu])]
    · rw [if_neg (by simpa using hf), if_neg (by simp [hu]), if_pos hb]
    · rw [if_neg (by simpa using hf), if_neg (by simp [hu]), if_neg (by simp [hb]), if_neg hsize]
      rfl
  case provision =>
    dsimp only
    simp only [exec_dssProvision_admitted v w _ hadm]
    refine ⟨fun hp => ?_, fun hp hv h0 hc hcell dss t hw => ?_, fun hp hr => ?_⟩
    · rw [dssProvisionRule_next _ _ _ hk hp]
    · rw [dssProvisionRule_burned hk hp rfl hv h0 hc hcell hw]
    · rw [dssProvisionRule_range _ _ hk hp hr]
  case reload =>
    rw [exec_keyReload_admitted hadm]
    refine ⟨fun hs => ?_, fun hs ht => ⟨fun k dss hk hd => ?_, fun k hk hd => ?_⟩⟩
    · rw [keyReloadRule_state hs]
    · rw [keyReloadRule_erased hs ht, hk, Option.bind_some, hd]
    · rw [keyReloadRule_erased hs ht, hk, Option.bind_some, hd]
end Sys2Proof.Proofs

end

section
/-! What PKE commands compute (O42) -/

namespace Sys2Proof.Proofs
open Sys2Proof Sys2Proof.Machine Sys2Proof.Laws
set_option maxRecDepth 4000

/-! ### The PKE's ports and slots -/

@[simp] theorem pkPort_modPk_self (p : Port) (f : PkPort → PkPort) (s : State) :
    pkPort (modPk p f s) p = f (pkPort s p) := by
  cases p <;> rfl

theorem pkPort_modPk_other {p q : Port} (h : q ≠ p) (f : PkPort → PkPort) (s : State) :
    pkPort (modPk p f s) q = pkPort s q := by
  cases p <;> cases q <;> simp_all [pkPort, modPk, modPke]

theorem modPk_eq_of {p : Port} {f g : PkPort → PkPort} {s : State} (h : f (pkPort s p) = g (pkPort s p)) :
    modPk p f s = modPk p g s := by
  cases p
  · exact congrArg (fun x => modPke (fun k => { k with mp0 := x }) s) h
  · exact congrArg (fun x => modPke (fun k => { k with mp1 := x }) s) h
  · exact congrArg (fun x => modPke (fun k => { k with l := x }) s) h

theorem pkSlot_tput (k : PkPort) (n j : Nat) (x : PkSlot) :
    pkSlot { k with slots := tput k.slots n x } j = if j = n then x else pkSlot k j := by
  simp only [pkSlot, tget_tput]
  split <;> rfl

/-- A completion with OK: the port's result, the free engine, and the queue as it was. -/
theorem pkEnd_ok (e : PkEntry) (cmp : Nat) (s : State) :
    pkEnd e eOk cmp s = modPke (fun k => { k with running := none, last := e.port })
      (modPk e.port (fun k => { k with result := pkResultWord e.seq eOk cmp }) s) := by
  unfold pkEnd
  dsimp only
  rw [if_neg fun h => absurd h.1 (by decide)]
  rfl
theorem pkPort_pkEnd_self (e : PkEntry) (cmp : Nat) (s : State) :
    pkPort (pkEnd e eOk cmp s) e.port = { pkPort s e.port with result := pkResultWord e.seq eOk cmp } := by
  rw [pkEnd_ok]
  exact pkPort_modPk_self e.port (fun k => { k with result := pkResultWord e.seq eOk cmp }) s

theorem pkPort_pkEnd_other {e : PkEntry} {q : Port} (h : q ≠ e.port) (cmp : Nat) (s : State) :
    pkPort (pkEnd e eOk cmp s) q = pkPort s q := by
  rw [pkEnd_ok]
  exact pkPort_modPk_other h (fun k => { k with result := pkResultWord e.seq eOk cmp }) s

/-- What writing slot `n` does to a slot that is bound to it. -/
def unbound (n : Nat) (x : PkSlot) : PkSlot :=
  if x.cls == .withheld && (x.bindM == n || x.bindR == n || x.bindR + 1 == n) then { x with bindClean := false } else x

theorem unbound_value (n : Nat) (x : PkSlot) : (unbound n x).value = x.value := by
  unfold unbound
  split <;> rfl

theorem tget_map_snd {α β : Type} (f : α → β) (m : List (Nat × α)) (j : Nat) :
    tget (m.map (fun x => (x.1, f x.2))) j = (tget m j).map f := by
  induction m with
  | nil => rfl
  | cons c m ih =>
    obtain ⟨k, v⟩ := c
    simp only [List.map_cons, tget, ih]
    split <;> rfl

theorem pkSlot_unbind (n j : Nat) (k : PkPort) : pkSlot (unbind n k) j = unbound n (pkSlot k j) := by
  have hslots : (unbind n k).slots = k.slots.map (fun x => (x.1, unbound n x.2)) := by
    refine List.map_congr_left fun x _ => ?_
    simp only [unbound]
    split <;> rfl
  rw [pkSlot, hslots, tget_map_snd, pkSlot]
  cases tget k.slots j with
  | none => rfl
  | some x => rfl

/-- A slot that is not withheld takes its new value and leaves the others their own. -/
theorem pkPut_value {n v j : Nat} {cls : PkClass} {k : PkPort} (h : (pkSlot k n).cls ≠ .withheld) :
    (pkSlot (pkPut n v cls k) j).value = if j = n then v else (pkSlot k j).value := by
  unfold pkPut
  dsimp only
  rw [if_neg h, pkSlot_unbind, unbound_value, pkSlot_tput]
  split <;> rfl

/-- The class of an arithmetic command's value. -/
def pkArithClass (k : PkPort) (e : PkEntry) : PkClass :=
  pkHigher (pkSlot k e.w.a.toNat).cls (if (pkUse e.op).b then (pkSlot k e.w.b.toNat).cls else .pub)

/-- An arithmetic command by its value. -/
def pkRunArith (e : PkEntry) (s : State) : Option Nat → U8 × Nat × State
  | some x => (eOk, 0, modPk e.port (pkPut e.w.r.toNat x (pkArithClass (pkPort s e.port) e)) s)
  | none => (eRefused, 0, s)

theorem pkRun_arith {e : PkEntry} {s : State} (h1 : 1 ≤ e.op) (h7 : e.op ≤ 7) :
    pkRun e s = pkRunArith e s (pkArith e.op (pkPort s e.port).limbs.toNat (pkVals (pkPort s e.port) e.w)) := by
  obtain ⟨entry, port, op, w, seq⟩ := e
  dsimp only at h1 h7
  interval_cases op <;> rfl

theorem exec_pkCommandComplete_running {s : State} {e : PkEntry} (h : s.pke.running = some e) :
    exec .pkCommandComplete s = .next (pkEnd e (pkRun e s).1 (pkRun e s).2.1 (pkRun e s).2.2) := by
  change execPkCommandComplete s = _
  simp only [execPkCommandComplete, h]

/-- What the seven arithmetic commands compute. -/
theorem pkArith_value {op limbs x : Nat} {v : PkVals} (h1 : 1 ≤ op) (h7 : op ≤ 7)
    (hadd : op = 1 → x = (v.a + v.b) % v.m) (hsub : op = 2 → x = (v.a + v.m - v.b) % v.m)
    (hmul : op = 3 → x = v.a * v.b % v.m) (hinv : op = 4 → inverse v.m v.a = some x)
    (hexp : op = 5 ∨ op = 6 → x = powMod v.m v.a (40 * limbs) v.b) (hred : op = 7 → x = v.a % v.m) :
    pkArith op limbs v = some x := by
  interval_cases op
  · rw [hadd rfl]; rfl
  · rw [hsub rfl]; rfl
  · rw [hmul rfl]; rfl
  · exact hinv rfl
  · rw [hexp (Or.inl rfl)]; rfl
  · rw [hexp (Or.inr rfl)]; rfl
  · rw [hred rfl]; rfl

/-- Sealing slot `n` under slot `other`. -/
def sealedSlot (e : PkEntry) (n other : Nat) (k : PkPort) : PkPort :=
  { k with slots := tput k.slots n { pkSlot k n with
      cls := .withheld, partner := other, bindM := e.w.m.toNat, bindR := e.w.r.toNat, bindClean := true } }

theorem pkSlot_sealedSlot (e : PkEntry) (n other j : Nat) (k : PkPort) :
    pkSlot (sealedSlot e n other k) j = if j = n then { pkSlot k n with
      cls := .withheld, partner := other, bindM := e.w.m.toNat, bindR := e.w.r.toNat, bindClean := true }
      else pkSlot k j := pkSlot_tput ..

/-- Opening slot `n`: it is PUBLIC and holds the value given. -/
def openedSlot (n : Nat) (value : Nat) (k : PkPort) : PkPort :=
  { k with slots := tput k.slots n { value := value, writes := (pkSlot k n).writes } }

theorem pkSlot_openedSlot (n value j : Nat) (k : PkPort) :
    pkSlot (openedSlot n value k) j = if j = n then { value := value, writes := (pkSlot k n).writes } else pkSlot k j :=
  pkSlot_tput ..

section
variable {s : State} {e : PkEntry}

theorem pkRun_store (h : e.op = 0x09) : pkRun e s = (eOk, 0, modPk e.port (fun k => { k with
    buf := leBytes (pkBufSize k) (pkVals (pkPort s e.port) e.w).a }) s) := by
  obtain ⟨entry, port, op, w, seq⟩ := e
  subst h
  rfl

theorem pkRun_compare (h : e.op = 0x0A) : pkRun e s = (eOk,
    (if (pkVals (pkPort s e.port) e.w).a < (pkVals (pkPort s e.port) e.w).b then 1
      else if (pkVals (pkPort s e.port) e.w).a = (pkVals (pkPort s e.port) e.w).b then 2 else 3), s) := by
  obtain ⟨entry, port, op, w, seq⟩ := e
  subst h
  rfl

theorem pkRun_seal (h : e.op = 0x0E) : pkRun e s = (eOk, 0, modPk e.port
    (fun k => sealedSlot e e.w.b.toNat e.w.a.toNat (sealedSlot e e.w.a.toNat e.w.b.toNat k)) s) := by
  obtain ⟨entry, port, op, w, seq⟩ := e
  subst h
  rfl

theorem pkRun_verify (h : e.op = 0x0F) :
    pkRun e s = (if pkVerify (pkVals (pkPort s e.port) e.w) then eOk else eAuth, 0, s) := by
  obtain ⟨entry, port, op, w, seq⟩ := e
  subst h
  rfl

theorem pkRun_gate (h : e.op = 0x10) : pkRun e s =
    if pkVerify (pkVals (pkPort s e.port) e.w) then
      (eOk, 0, modPk e.port (fun k =>
        let k := openedSlot e.w.a.toNat (pkSlot k e.w.a.toNat).value k
        openedSlot e.w.b.toNat (pkSlot k e.w.b.toNat).value k) s)
    else (eAuth, 0, chargePke (journal 0x28 0x0303 true [e.seq, BitVec.ofNat 8 (portNo e.port).val]
      (modPke (fun k => { k with gateFails := satInc k.gateFails }) (modPk e.port
        (fun k => openedSlot e.w.b.toNat 0 (openedSlot e.w.a.toNat 0 k)) s)))) := by
  obtain ⟨entry, port, op, w, seq⟩ := e
  subst h
  rfl
end

theorem modPk_queue (p : Port) (f : PkPort → PkPort) (s : State) : (modPk p f s).pke.queue = s.pke.queue := by
  cases p <;> rfl

/-- Opening a slot with the value it holds changes no value. -/
theorem openedSlot_value (n j : Nat) (k : PkPort) :
    (pkSlot (openedSlot n (pkSlot k n).value k) j).value = (pkSlot k j).value := by
  rw [pkSlot_openedSlot]
  split
  · next h => rw [h]
  · rfl

theorem openedSlot_cls (n value j : Nat) (k : PkPort) (h : j = n ∨ (pkSlot k j).cls = .pub) :
    (pkSlot (openedSlot n value k) j).cls = .pub := by
  rw [pkSlot_openedSlot]
  split
  · rfl
  · next hne => exact h.resolve_left hne

/-- What a command with OK that only changed its own port leaves. -/
theorem pkEnd_ok_port (e : PkEntry) (cmp : Nat) (f : PkPort → PkPort) (s : State) :
    pkPort (pkEnd e eOk cmp (modPk e.port f s)) e.port =
      { f (pkPort s e.port) with result := pkResultWord e.seq eOk cmp } := by
  rw [pkPort_pkEnd_self, pkPort_modPk_self]

theorem pkEnd_ok_rest (e : PkEntry) (cmp : Nat) (f : PkPort → PkPort) (s : State) :
    (pkEnd e eOk cmp (modPk e.port f s)).pke.running = none ∧
      (pkEnd e eOk cmp (modPk e.port f s)).pke.queue = s.pke.queue ∧
      (pkEnd e eOk cmp (modPk e.port f s)).keys = s.keys ∧ (pkEnd e eOk cmp (modPk e.port f s)).chans = s.chans := by
  rw [pkEnd_ok]
  exact ⟨rfl, (modPk_queue e.port _ _).trans (modPk_queue e.port _ s), rfl, rfl⟩

theorem pkSlot_result (k : PkPort) (r : U40) (j : Nat) : pkSlot { k with result := r } j = pkSlot k j := rfl

theorem pkEnd_ok_slot (e : PkEntry) (cmp : Nat) (f : PkPort → PkPort) (s : State) (j : Nat) :
    pkSlot (pkPort (pkEnd e eOk cmp (modPk e.port f s)) e.port) j = pkSlot (f (pkPort s e.port)) j := by
  rw [pkEnd_ok_port, pkSlot_result]

/-- Settles O42: the running command's branch of `pkRun`, and what `pkEnd` makes of its code. -/
theorem pkeCompletes : Obligations.PkeCompletes := by
  unfold Obligations.PkeCompletes
  refine ⟨⟨fun s e x hrun h1 h7 => ?arith, fun s e hrun hop => ?compare, fun s e hrun hop => ?store,
    fun s e hrun hop hinv => ?noInverse⟩, fun s e hrun hop => ?verify, fun s e hrun hop hne => ?sealing,
    fun s e hrun hop => ?gate, fun s => ⟨fun hrun => ?idle, fun e hrun => ?struck⟩⟩
  case arith =>
    dsimp only
    intro hadd hsub hmul hinv hexp hred hcls
    have hvalue := pkArith_value h1 h7 hadd hsub hmul hinv hexp hred
    have hexec : exec .pkCommandComplete s = .next (pkEnd e eOk 0
        (modPk e.port (pkPut e.w.r.toNat x (pkArithClass (pkPort s e.port) e)) s)) := by
      rw [exec_pkCommandComplete_running hrun, pkRun_arith h1 h7, hvalue, pkRunArith]
    obtain ⟨hrunning, hqueue, hkeys, hchans⟩ := pkEnd_ok_rest e 0
      (pkPut e.w.r.toNat x (pkArithClass (pkPort s e.port) e)) s
    refine ⟨_, hexec, ?_, fun n hn => ?_, fun q hq => ?_, ?_, hrunning, hqueue, hkeys, by simp, hchans⟩
    · rw [pkEnd_ok_slot, pkPut_value hcls, if_pos rfl]
    · rw [pkEnd_ok_slot, pkPut_value hcls, if_neg hn]
    · rw [pkPort_pkEnd_other hq, pkPort_modPk_other hq]
    · rw [pkEnd_ok_port]
  case compare => rw [exec_pkCommandComplete_running hrun, pkRun_compare hop]
  case store => rw [exec_pkCommandComplete_running hrun, pkRun_store hop]
  case noInverse =>
    have hnone : pkArith e.op (pkPort s e.port).limbs.toNat (pkVals (pkPort s e.port) e.w) = none := by
      rw [hop]
      exact hinv
    rw [exec_pkCommandComplete_running hrun, pkRun_arith (by omega) (by omega), hnone, pkRunArith]
  case verify => rw [exec_pkCommandComplete_running hrun, pkRun_verify hop]
  case sealing =>
    have hab : ¬ e.w.a.toNat = e.w.b.toNat := fun h => hne (BitVec.eq_of_toNat_eq h)
    have hba : ¬ e.w.b.toNat = e.w.a.toNat := fun h => hab h.symm
    have hexec : exec .pkCommandComplete s = .next (pkEnd e eOk 0 (modPk e.port
        (fun k => sealedSlot e e.w.b.toNat e.w.a.toNat (sealedSlot e e.w.a.toNat e.w.b.toNat k)) s)) := by
      rw [exec_pkCommandComplete_running hrun, pkRun_seal hop]
    refine ⟨_, hexec, ?_, ?_, ?_, ?_, ?_, fun n => ?_, by simp⟩
    · simp only [pkEnd_ok_slot, pkSlot_sealedSlot, hab, if_true, if_false]
    · simp only [pkEnd_ok_slot, pkSlot_sealedSlot, if_true]
    · simp only [pkEnd_ok_slot, pkSlot_sealedSlot, hab, if_true, if_false]
    · simp only [pkEnd_ok_slot, pkSlot_sealedSlot, if_true]
    · simp only [pkGateOk, pkEnd_ok_slot, pkSlot_sealedSlot, hab, if_true, if_false, beq_self_eq_true, Bool.and_self]
    · simp only [pkEnd_ok_slot, pkSlot_sealedSlot, hba, if_false]
      split
      · next h => rw [h]
      · split
        · next h => rw [h]
        · rfl
  case gate =>
    dsimp only
    refine ⟨fun hv => ?_, fun hv => ?_⟩
    · have hexec : exec .pkCommandComplete s = .next (pkEnd e eOk 0 (modPk e.port (fun k =>
          openedSlot e.w.b.toNat (pkSlot (openedSlot e.w.a.toNat (pkSlot k e.w.a.toNat).value k) e.w.b.toNat).value
            (openedSlot e.w.a.toNat (pkSlot k e.w.a.toNat).value k)) s)) := by
        rw [exec_pkCommandComplete_running hrun, pkRun_gate hop, if_pos hv]
      refine ⟨_, hexec, ?_, ?_, ?_, ?_, ?_⟩
      · rw [pkEnd_ok_slot]
        exact openedSlot_cls _ _ _ _ (Or.inr (openedSlot_cls _ _ _ _ (Or.inl rfl)))
      · rw [pkEnd_ok_slot, openedSlot_value, openedSlot_value]
        rfl
      · rw [pkEnd_ok_slot]
        exact openedSlot_cls _ _ _ _ (Or.inl rfl)
      · rw [pkEnd_ok_slot, openedSlot_value, openedSlot_value]
        rfl
      · rw [pkEnd_ok_port]
    · rw [exec_pkCommandComplete_running hrun, pkRun_gate hop, if_neg (by simp [hv])]
      rfl
  case idle =>
    change execPkeParityError s = _
    simp only [execPkeParityError, hrun]
  case struck =>
    change execPkeParityError s = _
    simp only [execPkeParityError, hrun]
end Sys2Proof.Proofs

end

section
/-! Timer units and check-value units (O48) -/

namespace Sys2Proof.Proofs
open Sys2Proof Sys2Proof.Machine Sys2Proof.Laws
set_option maxRecDepth 4000

/-! ### Timer units -/

theorem exec_tuStart_admitted {s : State} {p : Port} {u : Fin 8} (h : admitted s p .exec (0xA100 + u.val) 4 1 = true) :
    exec (.tuStart p u) s = .next (reply p (tuStartRule u s).1 (tuStartRule u s).2) :=
  execOp_admitted (rule := tuStartRule u) h

theorem exec_tuStop_admitted {s : State} {p : Port} {u : Fin 8} (h : admitted s p .exec (0xA100 + u.val) 5 1 = true) :
    exec (.tuStop p u) s = .next (reply p (tuStopRule u s).1 (tuStopRule u s).2) :=
  execOp_admitted (rule := tuStopRule u) h

theorem tuStartRule_unowned {s : State} {u : Fin 8} (h : timerOwner s u = 0) : tuStartRule u s = (eState, s) := if_pos h

theorem tuStartRule_zero {s : State} {u : Fin 8} (h : timerOwner s u ≠ 0) (hr : (s.timers[u]).reload = 0) :
    tuStartRule u s = (eRange, s) := by
  rw [tuStartRule, if_neg h, if_pos hr]

theorem tuStartRule_started {s : State} {u : Fin 8} (h : timerOwner s u ≠ 0) (hr : (s.timers[u]).reload ≠ 0) :
    tuStartRule u s = (eOk, modTimer u (timerLoad s) s) := by
  rw [tuStartRule, if_neg h, if_neg hr]

/-- What an expiry makes of its unit: reloaded in bit 0's mode, stopped otherwise. -/
def expired (s : State) (n : U32) (t : TimerUnit) : TimerUnit :=
  if bit t.mode.toNat 0 then timerLoad s { t with expiries := n } else { t with expiries := n, st := 2, count := 0 }

theorem expired_reload {s : State} {n : U32} {t : TimerUnit} (h : bit t.mode.toNat 0 = true) :
    expired s n t = { t with expiries := n, st := 1, count := t.reload, start := s.now } := if_pos h

theorem expired_stop {s : State} {n : U32} {t : TimerUnit} (h : bit t.mode.toNat 0 = false) :
    expired s n t = { t with expiries := n, st := 2, count := 0 } := if_neg (by simp [h])

theorem expired_expiries (s : State) (n : U32) (t : TimerUnit) : (expired s n t).expiries = n := by
  cases h : bit t.mode.toNat 0
  · rw [expired_stop h]
  · rw [expired_reload h]

theorem exec_tuExpiry_running {s : State} {u : Fin 8} (hst : (s.timers[u]).st = 1) (hclk : s.refclk = true) :
    exec (.tuExpiry u) s = .next
      (if bit (s.timers[u]).mode.toNat 1 then
        notice 0x38 false (0xA100 + u.val) 6 (satInc (s.timers[u]).expiries).toNat 0
          (modTimer u (expired s (satInc (s.timers[u]).expiries)) s)
      else modTimer u (expired s (satInc (s.timers[u]).expiries)) s) := by
  change execTuExpiry u s = _
  unfold execTuExpiry
  dsimp only
  rw [if_pos ⟨hst, hclk⟩]
  rfl

/-! ### Check-value units -/

@[simp] theorem cuAt_modCu_self (u : Fin 8) (f : CheckUnit → CheckUnit) (s : State) :
    cuAt (modCu u f s) u = f (cuAt s u) := modCu_self u f s

theorem cuAt_modCu_other {u v : Fin 8} (h : v ≠ u) (f : CheckUnit → CheckUnit) (s : State) :
    cuAt (modCu u f s) v = cuAt s v := modCu_other (Ne.symm h) f s

theorem modCu_eq_of {u : Fin 8} {f g : CheckUnit → CheckUnit} {s : State} (h : f (cuAt s u) = g (cuAt s u)) :
    modCu u f s = modCu u g s := by
  unfold modCu
  exact congrArg (fun x : CheckUnit => ({ s with cus := s.cus.set u.val x u.isLt } : State)) h

theorem exec_cuAlloc_admitted {s : State} {p : Port} (h : admitted s p .exec 0x8500 1 1 = true) :
    exec (.cuAlloc p) s = .next (reply p (cuAllocRule p s).1 (cuAllocRule p s).2) :=
  execOp_admitted (rule := cuAllocRule p) h

theorem exec_cuFinish_admitted {s : State} {p : Port} {u : Fin 8} (h : admitted s p .exec (0x8510 + u.val) 0xF 1 = true) :
    exec (.cuFinish p u) s = .next (reply p (cuFinishRule u s).1 (cuFinishRule u s).2) :=
  execOp_admitted (rule := cuFinishRule u) h

theorem exec_cuRelease_admitted {s : State} {p : Port} {u : Fin 8}
    (h : admitted s p .exec (0x8510 + u.val) 0x11 1 = true) :
    exec (.cuRelease p u) s = .next (reply p (cuReleaseRule u s).1 (cuReleaseRule u s).2) :=
  execOp_admitted (rule := cuReleaseRule u) h

/-- The general units a port holds. -/
def cuHeld (p : Port) (s : State) : Nat :=
  ([2, 3, 4, 5].filter (fun (u : Fin 8) => (cuAt s u).owner == some p)).length

theorem cuAllocRule_granted {s : State} {p : Port} {u : Fin 8} (hp : p ≠ .l) (hheld : cuHeld p s < 2)
    (hfree : [2, 3, 4, 5].find? (fun u => (cuAt s u).st == 0) = some u) :
    cuAllocRule p s = (eOk, modPort p (fun r => { r with cuGranted := BitVec.ofNat 8 u.val })
      (modCu u (fun k => { k with st := 1, owner := some p }) s)) := by
  have hmay : ¬ (p = .l ∨ 2 ≤ cuHeld p s) := by
    rintro (h | h)
    · exact hp h
    · omega
  unfold cuHeld at hmay
  unfold cuAllocRule
  dsimp only
  rw [if_neg hmay, hfree]

theorem cuAllocRule_busy {s : State} {p : Port} (h : p = .l ∨ 2 ≤ cuHeld p s ∨
    [2, 3, 4, 5].find? (fun (u : Fin 8) => (cuAt s u).st == 0) = none) :
    cuAllocRule p s = (eBusy, modPort p (fun r => { r with cuGranted := 0xFF }) s) := by
  have hpick : (if p = .l ∨ 2 ≤ cuHeld p s then none else
      [2, 3, 4, 5].find? (fun (u : Fin 8) => (cuAt s u).st == 0)) = none := by
    split
    · rfl
    · next hmay => exact (h.resolve_left fun hl => hmay (Or.inl hl)).resolve_left fun hh => hmay (Or.inr hh)
  unfold cuAllocRule
  dsimp only
  unfold cuHeld at hpick
  rw [hpick]

theorem cuFeedRule_idle {s : State} {u : Fin 8} (bs : List Byte) (h : (cuAt s u).st ≠ 2) :
    cuFeedRule u bs s = (eState, s) := if_pos h

theorem cuFeedRule_running {s : State} {u : Fin 8} (bs : List Byte) (h : (cuAt s u).st = 2) :
    cuFeedRule u bs s = (eOk, modCu u (fun k => { k with
      reg := BitVec.ofNat 64 (crcBytes k.width.toNat k.poly.toNat (k.flags.getLsbD 0) k.reg.toNat bs)
      fed := k.fed + BitVec.ofNat 40 bs.length }) s) := if_neg (not_not.mpr h)

theorem cuFinishRule_idle {s : State} {u : Fin 8} (h : (cuAt s u).st ≠ 2) : cuFinishRule u s = (eState, s) := if_pos h

theorem cuFinishRule_plain {s : State} {u : Fin 8} (h : (cuAt s u).st = 2) (hmode : cuAliveMode (cuAt s u) = 0) :
    cuFinishRule u s = (eOk, modCu u (fun k => { k with
      st := 3
      value := BitVec.ofNat 64 (crcEnd k.width.toNat (k.flags.getLsbD 1) k.xorout.toNat k.reg.toNat) }) s) := by
  rw [cuFinishRule, if_neg (not_not.mpr h)]
  refine congrArg (Prod.mk eOk) (modCu_eq_of ?_)
  generalize cuAt s u = k at hmode ⊢
  simp [hmode]

theorem cuFinishRule_alive {s : State} {u : Fin 8} (h : (cuAt s u).st = 2) (hmode : cuAliveMode (cuAt s u) = 2)
    (hflag : (cuAt s u).flags.getLsbD 4 = true) :
    cuFinishRule u s = (eOk, modCu u (fun k => { (cuAbsorb [k.alive] k) with
      st := 3
      alive := k.alive + 1
      value := BitVec.ofNat 64 (crcEnd k.width.toNat (k.flags.getLsbD 1) k.xorout.toNat
        (cuAbsorb [k.alive] k).reg.toNat) }) s) := by
  rw [cuFinishRule, if_neg (not_not.mpr h)]
  refine congrArg (Prod.mk eOk) (modCu_eq_of ?_)
  generalize cuAt s u = k at hmode hflag ⊢
  simp [hmode, hflag, cuAbsorb]

theorem cuReleaseRule_refused {s : State} {u : Fin 8} (h : cuGeneral u = false ∨ (cuAt s u).st = 4) :
    cuReleaseRule u s = (eState, s) := if_pos (by simpa using h)

theorem cuReset_general {u : Fin 8} (h : cuGeneral u = true) : cuReset u.val = {} := by
  simp only [cuGeneral, Bool.and_eq_true, decide_eq_true_eq] at h
  rw [cuReset, if_neg (by omega), if_pos (by omega)]

theorem cuReplace_whole {s : State} (h0 : (cuAt s 0).st ≠ 4) (h1 : (cuAt s 1).st ≠ 4) : cuReplace s = s := by
  have howed : cuOwed s = false := by
    have hnone : List.filter (fun (u : Fin 8) => (cuAt s u).st == 4) [0, 1] = [] := by
      simp only [List.filter_cons, List.filter_nil, beq_false_of_ne h0, beq_false_of_ne h1, Bool.false_eq_true,
        if_false]
    rw [cuOwed, hnone]
    exact decide_eq_false (Nat.not_lt_zero _)
  rw [cuReplace, if_neg (by simp [howed])]

theorem cuReleaseRule_released {s : State} {u : Fin 8} (hg : cuGeneral u = true) (h : (cuAt s u).st ≠ 4)
    (h0 : (cuAt s 0).st ≠ 4) (h1 : (cuAt s 1).st ≠ 4) :
    cuReleaseRule u s = (eOk, modCu u (fun k => { health := k.health }) s) := by
  have hu0 : (0 : Fin 8) ≠ u := fun hu => by subst hu; exact absurd hg (by decide)
  have hu1 : (1 : Fin 8) ≠ u := fun hu => by subst hu; exact absurd hg (by decide)
  rw [cuReleaseRule, if_neg (by simpa [hg] using h), cuReset_general hg]
  exact congrArg (Prod.mk eOk) (cuReplace_whole (by rwa [cuAt_modCu_other hu0]) (by rwa [cuAt_modCu_other hu1]))

/-- What a parity error makes of the unit it strikes. -/
def cuStruck (h : UnitHealth) (k : CheckUnit) : CheckUnit := { k with st := if k.st = 0 then 0 else 1, health := h }

theorem exec_cuParityError_transient {s : State} {u : Fin 8} (hpor : s.porN = true) (hst : (cuAt s u).st ≠ 4)
    (hperm : (chargeHealth s (cuAt s u).health).2 = false) :
    ∃ f : State → State, exec (.cuParityError u) s = .next (f (modCu u
        (cuStruck (chargeHealth s (cuAt s u).health).1) { s with cuTransients := satInc s.cuTransients })) ∧
      (f = id ∧ ((cuAt s u).st ≠ 2 ∨ (cuAt s u).owner = none) ∨
        ∃ p, (cuAt s u).owner = some p ∧ f = modPort p (fun r => { r with lastCode := eIntegrity })) := by
  have hrun : ¬ ((cuAt s u).st = 4 ∨ (!s.porN) = true) := by simpa [hpor] using hst
  change ∃ f : State → State, execCuParityError u s = _ ∧ _
  unfold execCuParityError
  dsimp only
  rw [if_neg hrun, hperm]
  cases ho : (cuAt s u).owner with
  | none => exact ⟨id, rfl, Or.inl ⟨rfl, Or.inr rfl⟩⟩
  | some p =>
    by_cases h2 : (cuAt s u).st = 2
    · refine ⟨_, ?_, Or.inr ⟨p, rfl, rfl⟩⟩
      dsimp only
      rw [if_pos h2]
      rfl
    · refine ⟨id, ?_, Or.inl ⟨rfl, Or.inl h2⟩⟩
      dsimp only
      rw [if_neg h2]
      rfl

theorem modPort_cuTransients (p : Port) (f : PortRegs → PortRegs) (s : State) :
    (modPort p f s).cuTransients = s.cuTransients := rfl

theorem cuAt_modPort (p : Port) (f : PortRegs → PortRegs) (s : State) (u : Fin 8) :
    cuAt (modPort p f s) u = cuAt s u := rfl

/-- Settles O48: each rule by its branch, the expiry by the unit's mode and the parity error by the unit's owner. -/
theorem timersAndCheckUnits : Obligations.TimersAndCheckUnits := by
  unfold Obligations.TimersAndCheckUnits
  refine ⟨fun s p u hadm => ⟨fun h => ?unowned, fun h hr => ?zero, fun h hr => ?started⟩, fun s p u hadm => ?stop,
    fun s u hst hclk => ?expiry, fun s p hadm => ?alloc, fun s p u v8 v16 v40 data x hx hadm => ?feed,
    fun s p u hadm => ⟨fun h => ?idle, fun h hmode => ?plain, fun h hmode hflag => ?alive⟩,
    fun s p u hadm => ⟨fun h => ?kept, fun hg h h0 h1 => ?released⟩, fun s u hpor hst hperm => ?struck⟩
  case unowned => rw [exec_tuStart_admitted hadm, tuStartRule_unowned h]
  case zero => rw [exec_tuStart_admitted hadm, tuStartRule_zero h hr]
  case started =>
    rw [exec_tuStart_admitted hadm, tuStartRule_started h hr]
    rfl
  case stop =>
    rw [exec_tuStop_admitted hadm]
    rfl
  case expiry =>
    refine ⟨_, exec_tuExpiry_running hst hclk, ?_, fun h => ?_, fun h => ?_, fun h => ?_, fun v hv => ?_, ?_, ?_⟩
    · split <;> simp only [notice_timers, modTimer_self, expired_expiries]
    · split <;> simp only [notice_timers, modTimer_self, expired_reload h, and_self]
    · split <;> simp only [notice_timers, modTimer_self, expired_stop h, and_self]
    · rw [if_neg (Bool.eq_false_iff.mp h), modTimer_journal]
    · split <;> simp only [notice_timers, modTimer_other (Ne.symm hv)]
    · split <;> simp only [notice_chans, modTimer_chans]
    · split <;> simp only [notice_ground, modTimer_ground]
  case alloc =>
    refine ⟨fun u hp hheld hfree => ?_, fun h => ?_⟩
    · rw [exec_cuAlloc_admitted hadm, cuAllocRule_granted hp hheld hfree]
    · rw [exec_cuAlloc_admitted hadm, cuAllocRule_busy h]
  case feed =>
    have hexec : exec x.1 s =
        .next (reply p (cuFeedRule u x.2.2.2.2 s).1 (cuFeedRule u x.2.2.2.2 s).2) := by
      simp only [List.mem_cons, List.not_mem_nil, or_false] at hx
      rcases hx with rfl | rfl | rfl | rfl
      · exact execOp_admitted (rule := cuFeedRule u [v8]) hadm
      · exact execOp_admitted (rule := cuFeedRule u (leBytes 2 v16.toNat)) hadm
      · exact execOp_admitted (rule := cuFeedRule u (leBytes 5 v40.toNat)) hadm
      · exact blockOp_admitted (rule := cuFeedRule u data) hadm
    rw [hexec]
    refine ⟨fun h => ?_, fun h => ?_⟩
    · rw [cuFeedRule_idle _ h]
    · rw [cuFeedRule_running _ h]
  case idle => rw [exec_cuFinish_admitted hadm, cuFinishRule_idle h]
  case plain => rw [exec_cuFinish_admitted hadm, cuFinishRule_plain h hmode]
  case alive => rw [exec_cuFinish_admitted hadm, cuFinishRule_alive h hmode hflag]
  case kept => rw [exec_cuRelease_admitted hadm, cuReleaseRule_refused h]
  case released => rw [exec_cuRelease_admitted hadm, cuReleaseRule_released hg h h0 h1]
  case struck =>
    obtain ⟨f, hexec, hf⟩ := exec_cuParityError_transient hpor hst hperm
    refine ⟨_, hexec, ?_, ?_, fun p h2 ho => ?_, fun v hv => ?_, ?_⟩
    · rcases hf with ⟨rfl, -⟩ | ⟨q, -, rfl⟩ <;> rfl
    · rcases hf with ⟨rfl, -⟩ | ⟨q, -, rfl⟩
      · rw [id, cuAt_modCu_self]
        rfl
      · rw [cuAt_modPort, cuAt_modCu_self]
        rfl
    · rcases hf with ⟨rfl, h | h⟩ | ⟨q, hq, rfl⟩
      · exact absurd h2 h
      · exact absurd (h.symm.trans ho) (by simp)
      · obtain rfl : q = p := Option.some.inj (hq.symm.trans ho)
        rw [portRegs_modPort]
    · rcases hf with ⟨rfl, -⟩ | ⟨q, -, rfl⟩
      · rw [id, cuAt_modCu_other hv]
        rfl
      · rw [cuAt_modPort, cuAt_modCu_other hv]
        rfl
    · rcases hf with ⟨rfl, -⟩ | ⟨q, -, rfl⟩ <;> rfl
end Sys2Proof.Proofs

end

section
/-! Life-cycle transitions (O49) -/

namespace Sys2Proof.Proofs
open Sys2Proof Sys2Proof.Machine Sys2Proof.Laws
set_option maxRecDepth 4000

/-! ### The bytes that burns leave as they were (R491) -/

/-- The OTP of `t` is canonical and holds below `a` what the one of `s` holds. -/
def OtpKeptBelow (a : Nat) (s t : State) : Prop :=
  Memory.wf 0 t.lc.otp = true ∧ ∀ b < a, otpByte t b = otpByte s b

namespace OtpKeptBelow

theorem of_otp_eq {a : Nat} {s t u : State} (h : OtpKeptBelow a s t) (hu : u.lc.otp = t.lc.otp) :
    OtpKeptBelow a s u := by
  refine ⟨by rw [hu]; exact h.1, fun b hb => ?_⟩
  rw [otpByte, hu]
  exact h.2 b hb

theorem refl {a : Nat} {s : State} (h : Memory.wf 0 s.lc.otp = true) : OtpKeptBelow a s s := ⟨h, fun _ _ => rfl⟩

theorem burnFlag {a k : Nat} {s t : State} (h : OtpKeptBelow a s t) (hk : a ≤ k) :
    OtpKeptBelow a s (burnFlag k t) := by
  refine ⟨otpBurn_wf k [0xFF] t h.1, fun b hb => ?_⟩
  rw [otpByte_burnFlag h.1, if_neg (by omega), h.2 b hb]

end OtpKeptBelow

/-- Writes at other places leave a byte as it is. -/
theorem read_foldl_write {α : Type} (at_ : α → Nat) (v : List (Nat × Byte) → α → Byte) (b : Nat) (l : List α)
    (hl : ∀ x ∈ l, at_ x ≠ b) (m : List (Nat × Byte)) (hm : Memory.wf 0 m = true) :
    Mem.read 0 (l.foldl (fun m x => Mem.write 0 m (at_ x) (v m x)) m) b = Mem.read 0 m b := by
  induction l generalizing m with
  | nil => rfl
  | cons x l ih =>
    rw [List.foldl_cons, ih (fun y hy => hl y (List.mem_cons_of_mem _ hy)) _ (write_wf _ _ hm), read_write _ _ _ hm,
      if_neg (Ne.symm (hl x List.mem_cons_self))]

theorem burnFlag_wf {s : State} (a : Nat) (h : Memory.wf 0 s.lc.otp = true) :
    Memory.wf 0 (burnFlag a s).lc.otp = true := otpBurn_wf a [0xFF] s h

theorem OtpKeptBelow.otpBurn {a k : Nat} {s t : State} (bs : List Byte) (h : OtpKeptBelow a s t) (hk : a ≤ k) :
    OtpKeptBelow a s (otpBurn k bs t) := by
  refine ⟨otpBurn_wf k bs t h.1, fun b hb => ?_⟩
  rw [← h.2 b hb]
  exact read_foldl_write (fun x : Byte × Nat => k + x.2) (fun m x => ((tget m (k + x.2)).getD 0) ||| x.1) b bs.zipIdx
    (fun x _ => by omega) t.lc.otp h.1

@[simp] theorem otpBurn_keys (a : Nat) (bs : List Byte) (s : State) : (otpBurn a bs s).keys = s.keys := rfl
@[simp] theorem otpBurn_heath (a : Nat) (bs : List Byte) (s : State) : (otpBurn a bs s).heath = s.heath := rfl
@[simp] theorem burnFlag_keys (a : Nat) (s : State) : (burnFlag a s).keys = s.keys := rfl
@[simp] theorem burnFlag_heath (a : Nat) (s : State) : (burnFlag a s).heath = s.heath := rfl

/-! ### A copy of the life cycle (R493) -/

/-- The flags of a copy that decodes to a state below Scrapped. -/
def levels (n : Nat) : List Flag := List.replicate n .set ++ List.replicate (5 - n) .clear

theorem lcPrefix_some {fs : List Flag} {n : Nat} (h : lcPrefix fs = some n) :
    n ≤ 3 ∧ fs.take 3 = List.replicate n .set ++ List.replicate (3 - n) .clear := by
  unfold lcPrefix at h
  split at h
  case h_5 => contradiction
  all_goals
    rename_i hfs
    obtain rfl := Option.some.inj h
    exact ⟨by decide, hfs⟩

theorem lcDecode_levels {fs : List Flag} {n : Nat} (h : lcDecode fs = some n) (hn : n ≤ 3) : fs = levels n := by
  unfold lcDecode at h
  split at h
  · next k hprefix htail =>
    obtain rfl := Option.some.inj h
    obtain ⟨hk, htake⟩ := lcPrefix_some hprefix
    rw [← List.take_append_drop 3 fs, htake, htail, levels, List.append_assoc,
      show (5 - k) = (3 - k) + 2 by omega, List.replicate_add]
    rfl
  · obtain rfl := Option.some.inj h
    omega
  · contradiction

/-- Burning the next flag of a copy brings the next state into it. -/
theorem lcDecode_next {fs : List Flag} {n : Nat} (h : lcDecode fs = some n) (hn : n < 3) :
    lcDecode (fs.set n .set) = some (n + 1) := by
  rw [lcDecode_levels h (by omega)]
  interval_cases n <;> rfl

/-- Burning the fourth flag of a copy scraps it. -/
theorem lcDecode_scrapped {fs : List Flag} {n : Nat} (h : lcDecode fs = some n) (hn : n ≤ 3) :
    lcDecode (fs.set 3 .set) = some 4 := by
  rw [lcDecode_levels h hn]
  interval_cases n <;> rfl

/-! ### The burn of a transition (R495) -/

theorem lcBurn_eq (t : Nat) (s : State) :
    lcBurn t s = burnFlag (0x018 + lcByte t) (burnFlag (0x010 + lcByte t) (burnFlag (0x008 + lcByte t) s)) := rfl

theorem lcBurn_keys (t : Nat) (s : State) : (lcBurn t s).keys = s.keys := by
  rw [lcBurn_eq, burnFlag_keys, burnFlag_keys, burnFlag_keys]

theorem lcBurn_heath (t : Nat) (s : State) : (lcBurn t s).heath = s.heath := by
  rw [lcBurn_eq, burnFlag_heath, burnFlag_heath, burnFlag_heath]

theorem lcBurn_dbgToken (t : Nat) (s : State) : (lcBurn t s).lc.dbgToken = s.lc.dbgToken := by
  rw [lcBurn_eq]
  rfl

theorem otpByte_lcBurn {s : State} (h : Memory.wf 0 s.lc.otp = true) (t b : Nat) :
    otpByte (lcBurn t s) b =
      if b = 0x008 + lcByte t ∨ b = 0x010 + lcByte t ∨ b = 0x018 + lcByte t then 0xFF else otpByte s b := by
  have h1 := burnFlag_wf (0x008 + lcByte t) h
  rw [lcBurn_eq, otpByte_burnFlag (burnFlag_wf (0x010 + lcByte t) h1), otpByte_burnFlag h1, otpByte_burnFlag h]
  rw [ite_or, ite_or]
  split_ifs <;> rfl

theorem lcCopy_length (s : State) (i : Nat) : (lcCopy s i).length = 5 := by simp [lcCopy, otpRead]

theorem lcCopy_getElem (s : State) (i j : Nat) (h : j < (lcCopy s i).length) :
    (lcCopy s i)[j] = flagOf (otpByte s (0x008 + 8 * i + j)) := by simp [lcCopy, otpRead]

theorem lcCopy_lcBurn {s : State} (h : Memory.wf 0 s.lc.otp = true) {t i : Nat} (ht : lcByte t < 5) (hi : i < 3) :
    lcCopy (lcBurn t s) i = (lcCopy s i).set (lcByte t) .set := by
  refine List.ext_getElem (by simp [lcCopy_length]) fun j hj _ => ?_
  rw [lcCopy_length] at hj
  rw [lcCopy_getElem, List.getElem_set, lcCopy_getElem, otpByte_lcBurn h]
  by_cases hb : lcByte t = j
  · rw [if_pos hb, if_pos (by omega), flagOf_burned]
  · rw [if_neg hb, if_neg (by omega)]

theorem lcCopy_of_kept {s t : State} (h : OtpKeptBelow 0x20 s t) {i : Nat} (hi : i < 3) : lcCopy t i = lcCopy s i := by
  refine List.ext_getElem (by rw [lcCopy_length, lcCopy_length]) fun j hj _ => ?_
  rw [lcCopy_length] at hj
  rw [lcCopy_getElem, lcCopy_getElem, h.2 _ (by omega)]

theorem lcAll_iff {s : State} {n : Nat} : lcAll s n = true ↔ ∀ i < 3, lcDecode (lcCopy s i) = some n := by
  have hthree : (∀ i < 3, lcDecode (lcCopy s i) = some n) ↔
      lcDecode (lcCopy s 0) = some n ∧ lcDecode (lcCopy s 1) = some n ∧ lcDecode (lcCopy s 2) = some n :=
    ⟨fun h => ⟨h 0 (by decide), h 1 (by decide), h 2 (by decide)⟩,
      fun h i hi => by interval_cases i; exacts [h.1, h.2.1, h.2.2]⟩
  rw [hthree]
  simp [lcAll]

theorem lcAll_congr {s t : State} (h : t.lc.otp = s.lc.otp) (n : Nat) : lcAll t n = lcAll s n := by
  simp only [lcAll, lcCopy, otpRead, otpByte, h]

theorem lcAgrees_of_lcAll {s : State} {n : Nat} (h : lcAll s n = true) : lcAgrees s n = true := by
  have hcopy := lcAll_iff.mp h
  simp [lcAgrees, hcopy 0 (by decide), hcopy 1 (by decide), hcopy 2 (by decide)]

section
variable {s t : State} (hkept : OtpKeptBelow 0x20 s t)
include hkept

theorem lcAll_lcBurn_next {n : Nat} (hn : n < 3) (hall : lcAll s n = true) : lcAll (lcBurn (n + 1) t) (n + 1) = true := by
  refine lcAll_iff.mpr fun i hi => ?_
  have hbyte : lcByte (n + 1) = n := rfl
  rw [lcCopy_lcBurn hkept.1 (by omega) hi, hbyte, lcCopy_of_kept hkept hi]
  exact lcDecode_next (lcAll_iff.mp hall i hi) hn

theorem lcAll_lcBurn_scrapped {n : Nat} (hn : n ≤ 3) (hall : lcAll s n = true) : lcAll (lcBurn 4 t) 4 = true := by
  refine lcAll_iff.mpr fun i hi => ?_
  have hbyte : lcByte 4 = 3 := rfl
  rw [lcCopy_lcBurn hkept.1 (by omega) hi, hbyte, lcCopy_of_kept hkept hi]
  exact lcDecode_scrapped (lcAll_iff.mp hall i hi) hn

end

/-! ### The entry effects (R499) -/

theorem endSessions_lc (s : State) : (endSessions s).lc = s.lc := congrArg Aside.lc (endSessions_aside s)
theorem endSessions_keys (s : State) : (endSessions s).keys = s.keys := congrArg Aside.keys (endSessions_aside s)
theorem erasePke_lc (s : State) : (erasePke s).lc = s.lc := by
  unfold erasePke
  split
  · rfl
  · rfl

theorem erasePke_keys (s : State) : (erasePke s).keys = s.keys := by
  unfold erasePke
  split
  · rfl
  · rfl

/-- The engines' jobs and the key slots as an erase leaves them. -/
def slotsErased (lost : Bool) (s : State) : State :=
  let s := { s with
    banks := s.banks.map (fun k => if k.st = .free then freeBank k else
      { freeBank k with st := .poisoned, owner := k.owner, absorbed := k.absorbed })
    cxs := s.cxs.map (fun k => if k.st = .free then freeCx k else { freeCx k with st := .poisoned, owner := k.owner }) }
  let lost := lost || custody s != 2
  modKeys (fun k => { k with
    slots := [], erases := satInc k.erases, wrapDue := true, dikPub := zeros 96, aliasPub := zeros 96
    keyState := if k.keyState = 0 then 0 else if lost then 3 else if k.keyState = 1 then 2 else k.keyState }) s

/-- The certificates dropped when the keys are lost. -/
def chainDropped (s : State) : State :=
  if s.keys.keyState = 3 then
    modSpdm (fun x => { x with dikCert := [], chain := [] }) (modVault (fun v => { v with degraded := true }) s)
  else s

theorem eraseKeys_eq (lost : Bool) (s : State) : eraseKeys lost s = eraseRandom (modHeath (fun h => { h with
    cellKey := zeros 32, canary := 0, cellState := 1 }) (chainDropped (slotsErased lost s))) := rfl

theorem chainDropped_lc (s : State) : (chainDropped s).lc = s.lc := by
  unfold chainDropped
  split <;> rfl

theorem chainDropped_keys (s : State) : (chainDropped s).keys = s.keys := by
  unfold chainDropped
  split <;> rfl

theorem slotsErased_lc (lost : Bool) (s : State) : (slotsErased lost s).lc = s.lc := rfl
theorem slotsErased_slots (lost : Bool) (s : State) : (slotsErased lost s).keys.slots = [] := rfl
theorem eraseRandom_lc (s : State) : (eraseRandom s).lc = s.lc := rfl
theorem eraseRandom_keys (s : State) : (eraseRandom s).keys = s.keys := rfl

theorem eraseKeys_lc (lost : Bool) (s : State) : (eraseKeys lost s).lc = s.lc := by
  rw [eraseKeys_eq, eraseRandom_lc, modHeath_lc, chainDropped_lc, slotsErased_lc]

theorem eraseKeys_slots (lost : Bool) (s : State) : (eraseKeys lost s).keys.slots = [] := by
  rw [eraseKeys_eq, eraseRandom_keys, modHeath_keys, chainDropped_keys, slotsErased_slots]

theorem eraseAll_lc (lost : Bool) (s : State) : (eraseAll lost s).lc = s.lc := by
  rw [eraseAll, tamperErase, endSessions_lc, erasePke_lc, eraseKeys_lc]

theorem eraseAll_slots (lost : Bool) (s : State) : (eraseAll lost s).keys.slots = [] := by
  rw [eraseAll, tamperErase, endSessions_keys, erasePke_keys, eraseKeys_slots]

theorem enterReturned_slots (s : State) : (enterReturned s).keys.slots = [] := by
  unfold enterReturned
  dsimp only
  split
  · rw [modHeath_keys, burnFlag_keys, otpBurn_keys, eraseAll_slots]
  · rw [modHeath_keys, eraseAll_slots]

theorem enterReturned_locked (s : State) : (enterReturned s).heath.locked = false := rfl

theorem enterReturned_kept {s : State} (h : Memory.wf 0 s.lc.otp = true) : OtpKeptBelow 0x20 s (enterReturned s) := by
  have herased : OtpKeptBelow 0x20 s (eraseAll true s) := (OtpKeptBelow.refl h).of_otp_eq (by rw [eraseAll_lc])
  unfold enterReturned
  dsimp only
  split
  · next k _ =>
    have hburned := herased.otpBurn (k := 0x230 + 48 * k) (List.replicate 40 0xFF) (by omega)
    have hspent := hburned.burnFlag (k := 0x230 + 48 * k + 41) (by omega)
    exact hspent.of_otp_eq (by rw [modHeath_lc])
  · exact herased.of_otp_eq (by rw [modHeath_lc])

/-- An unused DSS slot burned used and spent. -/
def spendUnused (t : State) (k : Nat) : State :=
  if dssUsed t k then t else burnFlag (0x230 + 48 * k + 41) (burnFlag (0x230 + 48 * k + 40) t)

theorem enterScrapped_eq (s : State) : enterScrapped s =
    spendUnused (spendUnused (spendUnused (spendUnused (enterReturned s) 0) 1) 2) 3 := rfl

theorem spendUnused_keys (t : State) (k : Nat) : (spendUnused t k).keys = t.keys := by
  unfold spendUnused
  split
  · rfl
  · rfl

theorem OtpKeptBelow.spendUnused {s t : State} (k : Nat) (h : OtpKeptBelow 0x20 s t) :
    OtpKeptBelow 0x20 s (spendUnused t k) := by
  unfold Proofs.spendUnused
  split
  · exact h
  · exact (h.burnFlag (by omega)).burnFlag (by omega)

theorem enterScrapped_slots (s : State) : (enterScrapped s).keys.slots = [] := by
  rw [enterScrapped_eq, spendUnused_keys, spendUnused_keys, spendUnused_keys, spendUnused_keys, enterReturned_slots]

theorem enterScrapped_kept {s : State} (h : Memory.wf 0 s.lc.otp = true) : OtpKeptBelow 0x20 s (enterScrapped s) :=
  ((((enterReturned_kept h).spendUnused 0).spendUnused 1).spendUnused 2).spendUnused 3

theorem patternSwitch_lc (on : Bool) (s : State) : (patternSwitch on s).lc = s.lc := by
  simp [patternSwitch, journalDrbg, drbgZero]

theorem patternOff_lc (s : State) : (patternOff s).lc = s.lc := by
  unfold patternOff
  split
  · split
    · exact patternSwitch_lc false s
    · exact patternSwitch_lc false s
  · rfl

theorem lcEffects_kept {s : State} (h : Memory.wf 0 s.lc.otp = true) (t : Nat) : OtpKeptBelow 0x20 s (lcEffects t s) := by
  unfold lcEffects
  split
  · exact (OtpKeptBelow.refl h).of_otp_eq (by rw [patternOff_lc])
  · exact (OtpKeptBelow.refl h).of_otp_eq rfl
  · exact enterReturned_kept h
  · exact enterScrapped_kept h

/-! ### Transitions -/

theorem lcTransit_done {s : State} {t : Nat} (h : lcAll (lcBurn t (lcEffects t s)) t = true) :
    lcTransit t s = (eOk, finishAll (lcSet t (lcBurn t (lcEffects t s)))) := by
  rw [lcTransit]
  exact if_pos (lcAgrees_of_lcAll h)

theorem lcSet_otp (n : Nat) (s : State) : (lcSet n s).lc.otp = s.lc.otp := by
  unfold lcSet
  dsimp only
  split <;> rfl

theorem lcSet_keys (n : Nat) (s : State) : (lcSet n s).keys = s.keys := by
  unfold lcSet
  dsimp only
  split <;> rfl

theorem lcSet_heath (n : Nat) (s : State) : (lcSet n s).heath = s.heath := by
  unfold lcSet
  dsimp only
  split <;> rfl

theorem lcSet_state (n : Nat) (s : State) : (lcSet n s).lc.state = BitVec.ofNat 8 n := by
  unfold lcSet
  dsimp only
  split <;> rfl

theorem lcSet_dbgToken (n : Nat) (s : State) : (lcSet n s).lc.dbgToken = s.lc.dbgToken := by
  unfold lcSet
  dsimp only
  split <;> rfl

theorem lcSet_scrapped_mgmtUp (s : State) : (lcSet 4 s).mgmtUp = false := rfl

/-- What a completed transition leaves. -/
theorem lcTransit_next {s : State} {t : Nat} (h : lcAll (lcBurn t (lcEffects t s)) t = true) :
    ∃ u, lcTransit t s = (eOk, u) ∧ u.lc.state = BitVec.ofNat 8 t ∧ lcAll u t = true ∧
      u.lc.dbgToken = (lcEffects t s).lc.dbgToken ∧ u.keys = (lcEffects t s).keys ∧
      u.heath = (lcEffects t s).heath ∧ (t = 4 → u.mgmtUp = false) ∧ ground u = ground s := by
  have hground := lcTransit_ground t s
  rw [lcTransit_done h] at hground
  refine ⟨_, lcTransit_done h, ?_, ?_, ?_, ?_, ?_, fun ht => ?_, ?_⟩
  · rw [finishAll_lc, lcSet_state]
  · rw [lcAll_congr (s := lcBurn t (lcEffects t s)) (by rw [finishAll_lc, lcSet_otp]), h]
  · rw [finishAll_lc, lcSet_dbgToken, lcBurn_dbgToken]
  · rw [finishAll_keys, lcSet_keys, lcBurn_keys]
  · rw [finishAll_heath, lcSet_heath, lcBurn_heath]
  · rw [finishAll_mgmtUp, ht, lcSet_scrapped_mgmtUp]
  · rw [← hground]

theorem exec_lcAdvance_admitted {s : State} {p : Port} (v : U8) (h : admitted s p .exec 0x1200 2 1 = true) :
    exec (.lcAdvance p v) s = .next (reply p (lcAdvanceRule p v.toNat s).1 (lcAdvanceRule p v.toNat s).2) :=
  execOp_admitted (rule := lcAdvanceRule p v.toNat) h

theorem exec_lcScrap_admitted {s : State} {p : Port} (v : U40) (h : admitted s p .exec 0x1200 3 5 = true) :
    exec (.lcScrap p v) s = .next (reply p (lcScrapRule v.toNat s).1 (lcScrapRule v.toNat s).2) :=
  execOp_admitted (rule := lcScrapRule v.toNat) h

section
variable {s : State} {p : Port} {t : Nat}

theorem lcAdvanceRule_early (h1 : s.phase ≠ .service) (h2 : s.phase ≠ .recovery) :
    lcAdvanceRule p t s = (eNotReady, s) := if_pos ⟨h1, h2⟩

variable (hphase : s.phase = .service ∨ s.phase = .recovery)
include hphase

theorem not_early : ¬ (s.phase ≠ .service ∧ s.phase ≠ .recovery) := fun h => hphase.elim h.1 h.2

theorem lcAdvanceRule_range (h : t ≠ s.lc.state.toNat + 1 ∨ 3 < t) : lcAdvanceRule p t s = (eRange, s) := by
  rw [lcAdvanceRule, if_neg (not_early hphase), if_pos h]

variable (ht : t = s.lc.state.toNat + 1) (h3 : t ≤ 3)
include ht h3

theorem lcAdvanceRule_unprepared (h : lcPrerequisites s t = false) : lcAdvanceRule p t s = (eState, s) := by
  rw [lcAdvanceRule, if_neg (not_early hphase), if_neg (by omega), if_pos (by rw [h]; rfl)]

variable (hpre : lcPrerequisites s t = true)
include hpre

theorem lcAdvanceRule_free (htok : lcToken t = none) : lcAdvanceRule p t s = lcTransit t s := by
  rw [lcAdvanceRule, if_neg (not_early hphase), if_neg (by omega), if_neg (by rw [hpre]; decide), htok]

theorem lcAdvanceRule_token {kind : Nat} (htok : lcToken t = some kind) : lcAdvanceRule p t s =
    if tokenCode s (pathOf p) kind (portRegs s p).token ≠ eOk then (tokenCode s (pathOf p) kind (portRegs s p).token,
      modLc (fun l => { l with nonces := tdel l.nonces (pathOf p) }) s)
    else lcTransit t (modLc (fun l => { l with nonces := tdel l.nonces (pathOf p) }) s) := by
  rw [lcAdvanceRule, if_neg (not_early hphase), if_neg (by omega), if_neg (by rw [hpre]; decide), htok]
  rfl

/-- With its token accepted, where one is needed, the transition runs on a state that only its nonces tell apart. -/
theorem lcAdvanceRule_accepted
    (hcode : ∀ kind, lcToken t = some kind → tokenCode s (pathOf p) kind (portRegs s p).token = eOk) :
    ∃ r, lcAdvanceRule p t s = lcTransit t r ∧ r.lc.otp = s.lc.otp ∧ ground r = ground s := by
  cases htok : lcToken t with
  | none => exact ⟨s, lcAdvanceRule_free hphase ht h3 hpre htok, rfl, rfl⟩
  | some kind =>
    refine ⟨modLc (fun l => { l with nonces := tdel l.nonces (pathOf p) }) s, ?_, rfl, rfl⟩
    rw [lcAdvanceRule_token hphase ht h3 hpre htok, if_neg (not_not.mpr (hcode kind htok))]

end

theorem lcScrapRule_early {s : State} {v : Nat} (h1 : s.phase ≠ .service) (h2 : s.phase ≠ .recovery) :
    lcScrapRule v s = (eNotReady, s) := if_pos ⟨h1, h2⟩

theorem lcScrapRule_refused {s : State} {v : Nat} (h : s.phase = .service ∨ s.phase = .recovery)
    (hv : v ≠ leNat ((uidOf s).take 5)) : lcScrapRule v s = (eRefused, s) := by
  rw [lcScrapRule, if_neg (not_early h), if_pos hv]

theorem lcScrapRule_accepted {s : State} {v : Nat} (h : s.phase = .service ∨ s.phase = .recovery)
    (hv : v = leNat ((uidOf s).take 5)) : lcScrapRule v s = lcTransit 4 s := by
  rw [lcScrapRule, if_neg (not_early h), if_neg (not_not.mpr hv)]

theorem lcEffects_fielded (s : State) : (lcEffects 2 s).lc.dbgToken = false := rfl

/-- Settles O49: the rules by their branches; the burn of one flag takes every copy to the next state, whose entry
effects leave the copies alone. -/
theorem lifeCycleMoves : Obligations.LifeCycleMoves := by
  unfold Obligations.LifeCycleMoves
  refine ⟨fun s p v hadm => ⟨fun h1 h2 => ?early, fun hphase => ⟨fun h => ?range, fun ht h3 hpre => ?unprepared,
    fun kind ht h3 hpre htok hcode => ?token, fun ht h3 hpre hcode hall hwf => ?moved⟩⟩,
    fun s p v hadm => ⟨fun h1 h2 => ?scrapEarly, fun hphase => ⟨fun hv => ?refused, fun st hst hv hall hwf => ?scrapped⟩⟩⟩
  case early => rw [exec_lcAdvance_admitted v hadm, lcAdvanceRule_early h1 h2]
  case range => rw [exec_lcAdvance_admitted v hadm, lcAdvanceRule_range hphase h]
  case unprepared => rw [exec_lcAdvance_admitted v hadm, lcAdvanceRule_unprepared hphase ht h3 hpre]
  case token =>
    rw [exec_lcAdvance_admitted v hadm, lcAdvanceRule_token hphase ht h3 hpre htok, if_pos hcode]
  case moved =>
    obtain ⟨r, hrule, hotp, hground⟩ := lcAdvanceRule_accepted (p := p) hphase ht h3 hpre hcode
    rw [exec_lcAdvance_admitted v hadm, hrule]
    have hnext : lcAll (lcBurn v.toNat (lcEffects v.toNat r)) v.toNat = true := by
      obtain ⟨n, hn⟩ : ∃ n, v.toNat = n + 1 := ⟨_, ht⟩
      rw [hn] at hall h3 ⊢
      refine lcAll_lcBurn_next (lcEffects_kept (by rw [hotp]; exact hwf) _) (by omega) ?_
      rw [lcAll_congr hotp]
      exact hall
    obtain ⟨u, hu, hstate, hcopies, hdebug, hkeys, hheath, -, hg⟩ := lcTransit_next hnext
    rw [hu]
    refine ⟨u, rfl, ?_, hcopies, fun h => ?_, fun h => ?_, hg.trans hground⟩
    · rw [hstate, BitVec.ofNat_toNat, BitVec.setWidth_eq]
    · rw [hdebug, h]
      exact lcEffects_fielded r
    · rw [hkeys, hheath, h]
      exact ⟨enterReturned_slots r, enterReturned_locked r⟩
  case scrapEarly => rw [exec_lcScrap_admitted v hadm, lcScrapRule_early h1 h2]
  case refused => rw [exec_lcScrap_admitted v hadm, lcScrapRule_refused hphase hv]
  case scrapped =>
    rw [exec_lcScrap_admitted v hadm, lcScrapRule_accepted hphase hv]
    obtain ⟨u, hu, hstate, hcopies, -, hkeys, -, hup, hg⟩ :=
      lcTransit_next (lcAll_lcBurn_scrapped (lcEffects_kept hwf 4) hst hall)
    rw [hu]
    refine ⟨u, rfl, hstate, hcopies, hup rfl, ?_, hg⟩
    rw [hkeys]
    exact enterScrapped_slots s
end Sys2Proof.Proofs

end

section
/-! Challenges, tokens and OTP burns (O50) -/

namespace Sys2Proof.Proofs
open Sys2Proof Sys2Proof.Machine Sys2Proof.Laws
set_option maxRecDepth 4000

/-! ### Challenges (R503) -/

theorem drbgThresholds_lc (s : State) : (drbgThresholds s).lc = s.lc :=
  congrArg (f := State.lc) (a₁ := sober _) (a₂ := sober s) (sober_drbgThresholds s)

theorem drbgGenerate_lc {n : Nat} {s t : State} {bs : List Byte} (h : drbgGenerate n s = some (bs, t)) : t.lc = s.lc := by
  unfold drbgGenerate at h
  split at h
  · simp only [Option.some.injEq, Prod.mk.injEq] at h
    obtain ⟨-, rfl⟩ := h
    rw [drbgThresholds_lc, modRandom_lc]
  · contradiction

theorem rawTake_lc (p : Port) (n : Nat) (s : State) : (rawTake p n s).2.lc = s.lc := by
  unfold rawTake
  dsimp only
  split
  · split
    · split
      · next hgen => rw [modRandom_lc, drbgGenerate_lc hgen]
      · rfl
    · split <;> rfl
  · split <;> rfl

theorem uidOf_congr {s t : State} (h : t.lc = s.lc) : uidOf t = uidOf s := by
  simp only [uidOf, otpRead, otpByte, h]

/-- The bytes of a challenge (R503). -/
def challengeBytes (s : State) (nonce : List Byte) : List Byte :=
  leBytes 4 0x48435651 ++ [0x01, s.lc.state, 0, 0] ++ uidOf s ++ nonce ++ zeros 8

theorem newChallenge_drawn {path : Nat} {s t : State} {nonce : List Byte} (h : rawTake .l 32 s = (some nonce, t)) :
    newChallenge path s = (some (challengeBytes s nonce),
      modLc (fun l => { l with nonces := tput l.nonces path nonce }) t) := by
  have hlc : t.lc = s.lc := by rw [← rawTake_lc .l 32 s, h]
  unfold newChallenge
  rw [h]
  dsimp only
  have hbytes : challengeBytes (modLc (fun l => { l with nonces := tput l.nonces path nonce }) t) nonce =
      challengeBytes t nonce := rfl
  rw [challengeBytes, ← hlc, ← uidOf_congr hlc]
  exact congrArg (fun b => (some b, modLc (fun l => { l with nonces := tput l.nonces path nonce }) t)) hbytes

theorem newChallenge_undrawn {path : Nat} {s t : State} (h : rawTake .l 32 s = (none, t)) :
    newChallenge path s = (none, modLc (fun l => { l with nonces := tdel l.nonces path }) t) := by
  rw [newChallenge, h]

theorem exec_challenge_admitted {s : State} {p : Port} (h : admitted s p .read 0x1201 0 0 = true) :
    exec (.challenge p) s =
      .next (answer p (challengeRule p s).1 (challengeRule p s).2.1 (challengeRule p s).2.2) :=
  readOp_admitted (rule := challengeRule p) h

theorem challengeRule_drawn {p : Port} {s t : State} {nonce : List Byte} (h : rawTake .l 32 s = (some nonce, t)) :
    challengeRule p s = (eOk, challengeBytes s nonce,
      modLc (fun l => { l with nonces := tput l.nonces (pathOf p) nonce }) t) := by
  rw [challengeRule, newChallenge_drawn h]

theorem challengeRule_undrawn {p : Port} {s t : State} (h : rawTake .l 32 s = (none, t)) :
    challengeRule p s = (eNotReady, [], modLc (fun l => { l with nonces := tdel l.nonces (pathOf p) }) t) := by
  rw [challengeRule, newChallenge_undrawn h]

/-! ### Tokens (R505, R506) -/

/-- Debug authorised by a token, before the keys of its column are gone. -/
def tokenTaken (path : Nat) (tk : List Byte) (s : State) : State :=
  modLc (fun l => { l with dbgToken := true, dbgEver := true, dbgMaker := l.dbgMaker || byteAt tk 6 == 8 })
    (modLc (fun l => { l with nonces := tdel l.nonces path }) s)

/-- The runtime's keys derived again where the keys are loaded. -/
def aliasAgain (s : State) : State := if s.keys.keyState = 1 then deriveAlias s else s

/-- The runtime's keys derived again without the slots that debug closes. -/
def debugKeys (s : State) : State := aliasAgain ([2, 3, 4].foldl (fun t k => ksDrop k t) s)

theorem unlockRule_refused {path : Nat} {tk : List Byte} {s : State} (h : tokenCode s path 1 tk ≠ eOk) :
    unlockRule path tk s = (tokenCode s path 1 tk, modLc (fun l => { l with nonces := tdel l.nonces path }) s) :=
  if_pos h

theorem unlockRule_accepted {path : Nat} {tk : List Byte} {s : State} (h : tokenCode s path 1 tk = eOk) :
    unlockRule path tk s = (eOk, endSessions (debugKeys (tokenTaken path tk s))) := if_neg (not_not.mpr h)

theorem ksDrop_running (slot : Nat) (s : State) : running (ksDrop slot s) = running s := rfl

theorem debugKeys_running (s : State) : running (debugKeys s) = running s := by
  have halias : ∀ t, running (aliasAgain t) = running t := fun t => by
    unfold aliasAgain
    split
    · rw [deriveAlias_running]
    · rfl
  simp only [debugKeys, halias, List.foldl_cons, List.foldl_nil, ksDrop_running]

theorem foldl_journalSession_spdm (l : List Session) (s : State) :
    (l.foldl (fun t x => journalSession x.id 3 t) s).spdm = s.spdm := by
  induction l generalizing s with
  | nil => rfl
  | cons x l ih => rw [List.foldl_cons, ih, journalSession, journal_spdm]

theorem endSessions_sessions (s : State) : (endSessions s).spdm.sessions = [] := by
  rw [endSessions, foldl_journalSession_spdm]
  rfl

/-- What an accepted debug token leaves. -/
theorem unlockRule_unlocked {path : Nat} {tk : List Byte} {s : State} (h : tokenCode s path 1 tk = eOk) :
    ∃ u, unlockRule path tk s = (eOk, u) ∧ u.lc = (tokenTaken path tk s).lc ∧ u.spdm.sessions = [] ∧
      ground u = ground s := by
  have hground := unlockRule_ground path tk s
  rw [unlockRule_accepted h] at hground
  refine ⟨_, unlockRule_accepted h, ?_, endSessions_sessions _, hground⟩
  rw [endSessions_lc]
  exact congrArg Running.lc (debugKeys_running (tokenTaken path tk s))

theorem exec_dbgUnlock_admitted {s : State} {p : Port} (h : admitted s p .exec 0x1201 2 1 = true) :
    exec (.dbgUnlock p) s = .next (reply p (unlockRule (pathOf p) (portRegs s p).token s).1
      (unlockRule (pathOf p) (portRegs s p).token s).2) :=
  execOp_admitted (rule := fun s => unlockRule (pathOf p) (portRegs s p).token s) h

/-! ### Burns of key hashes and of the option byte (R509, R511) -/

theorem exec_keyBurn_admitted {s : State} {p : Port} (rb : Bool) (h : admitted s p .exec 0x1202 3 1 = true) :
    exec (.keyBurn p rb) s = .next (reply p (keyBurnRule p rb s).1 (keyBurnRule p rb s).2) :=
  execOp_admitted (rule := keyBurnRule p rb) h

theorem exec_fuseBurn_admitted {s : State} {p : Port} (h : admitted s p .exec 0x1202 6 1 = true) :
    exec (.fuseBurn p) s = .next (reply p (fuseBurnRule s).1 (fuseBurnRule s).2) :=
  execOp_admitted (rule := fuseBurnRule) h

section
variable {s : State} {p : Port} {rb : Bool}

theorem keyBurnRule_otherState (h0 : s.lc.state ≠ 0) (h1 : s.lc.state ≠ 1) : keyBurnRule p rb s = (eState, s) :=
  if_pos ⟨h0, h1⟩

variable (hst : s.lc.state = 0 ∨ s.lc.state = 1)
include hst

theorem keyBurnRule_range (h : s.lc.keySel.toNat = 0 ∨ s.lc.keySel.toNat = 4 ∨ s.lc.keySel.toNat = 8 ∨
    9 < s.lc.keySel.toNat) : keyBurnRule p rb s = (eRange, s) := by
  unfold keyBurnRule
  dsimp only
  rw [if_neg fun hno => hst.elim hno.1 hno.2, if_pos h]

variable (hk : s.lc.keySel.toNat ∈ [1, 2, 3, 5, 6, 7, 9])
include hk

theorem keyBurnRule_slot : keyBurnRule p rb s =
    if keyBurned s s.lc.keySel.toNat then (eDuplicate, s)
    else if rb then (eOk, otpBurn (0x050 + 48 * s.lc.keySel.toNat) (portRegs s p).keyHashIn s)
    else (eIntegrity, burnFlag (0x038 + s.lc.keySel.toNat) (otpBurn (0x050 + 48 * s.lc.keySel.toNat)
      (List.zipWith (fun (a b : Byte) => a &&& b) (portRegs s p).keyHashIn (drawBytes 48 s).1) (drawBytes 48 s).2)) := by
  have hslot : ¬ (s.lc.keySel.toNat = 0 ∨ s.lc.keySel.toNat = 4 ∨ s.lc.keySel.toNat = 8 ∨ 9 < s.lc.keySel.toNat) := by
    simp only [List.mem_cons, List.not_mem_nil, or_false] at hk
    omega
  unfold keyBurnRule
  dsimp only
  rw [if_neg fun hno => hst.elim hno.1 hno.2, if_neg hslot]

end

theorem drawBytes_lc (n : Nat) (s : State) : (drawBytes n s).2.lc = s.lc := congrArg Aside.lc (drawBytes_aside n s)

/-- Settles O50: the challenge by what the raw port gives, the token by its code, the burns by their rules' branches. -/
theorem tokensAndBurns : Obligations.TokensAndBurns := by
  unfold Obligations.TokensAndBurns
  refine ⟨fun s p hadm => ⟨fun nonce t htake => ?drawn, fun t htake => ?undrawn⟩,
    fun s p hadm => ⟨fun hcode => ?refused, fun hcode => ?unlocked⟩,
    fun s p rb hadm => ⟨fun h0 h1 => ?otherState, fun hst => ⟨fun hk => ?range, fun hk hb => ?burnedBefore,
      fun hk hb hrb => ?burned, fun hk hb hrb => ?unread⟩⟩,
    fun s p hadm => ⟨fun hst => ?fuse, fun h0 h1 => ?fuseState⟩⟩
  case drawn =>
    have hlc : t.lc = s.lc := by rw [← rawTake_lc .l 32 s, htake]
    rw [exec_challenge_admitted hadm, challengeRule_drawn htake]
    refine ⟨_, rfl, ?_, ?_⟩
    · rw [modLc_lc, tget_tput, if_pos rfl]
    · rw [modLc_lc, hlc]
  case undrawn => rw [exec_challenge_admitted hadm, challengeRule_undrawn htake]
  case refused => rw [exec_dbgUnlock_admitted hadm, unlockRule_refused hcode]
  case unlocked =>
    obtain ⟨u, hu, hlc, hsessions, hground⟩ := unlockRule_unlocked hcode
    rw [exec_dbgUnlock_admitted hadm, hu]
    refine ⟨u, rfl, ?_, ?_, ?_, hsessions, ?_, hground⟩ <;> rw [hlc] <;> rfl
  case otherState => rw [exec_keyBurn_admitted rb hadm, keyBurnRule_otherState h0 h1]
  case range => rw [exec_keyBurn_admitted rb hadm, keyBurnRule_range hst hk]
  case burnedBefore => rw [exec_keyBurn_admitted rb hadm, keyBurnRule_slot hst hk, if_pos hb]
  case burned => rw [exec_keyBurn_admitted rb hadm, keyBurnRule_slot hst hk, if_neg (by simp [hb]), if_pos hrb]
  case unread =>
    refine ⟨List.zipWith (fun (a b : Byte) => a &&& b) (portRegs s p).keyHashIn (drawBytes 48 s).1,
      (drawBytes 48 s).2, ?_, drawBytes_lc 48 s⟩
    rw [exec_keyBurn_admitted rb hadm, keyBurnRule_slot hst hk, if_neg (by simp [hb]), if_neg (by simp [hrb])]
  case fuse => rw [exec_fuseBurn_admitted hadm, fuseBurnRule, if_pos hst]
  case fuseState => rw [exec_fuseBurn_admitted hadm, fuseBurnRule, if_neg fun h => h.elim h0 h1]
end Sys2Proof.Proofs

end

section
/-! The instructions of the test port (O51) -/

namespace Sys2Proof.Proofs
open Sys2Proof Sys2Proof.Machine Sys2Proof.Laws
set_option maxRecDepth 4000

/-! ### The test port (R502 to R507) -/

section
variable {s : State}

theorem exec_tapChallenge_scrapped (hst : s.lc.state = 4) (hk : lcKnown s = true) :
    exec .tapChallenge s = .next (tapBypass 0x10 s) := if_pos ⟨hst, hk⟩

theorem exec_tapToken_scrapped (tk : List Byte) (hst : s.lc.state = 4) (hk : lcKnown s = true) :
    exec (.tapToken tk) s = .next (tapBypass 0x11 s) := if_pos ⟨hst, hk⟩

theorem exec_dbgResult_scrapped (hst : s.lc.state = 4) (hk : lcKnown s = true) :
    exec .dbgResult s = .next (tapBypass 0x12 s) := if_pos ⟨hst, hk⟩

theorem exec_dbgResult_served (h : ¬ (s.lc.state = 4 ∧ lcKnown s = true)) :
    exec .dbgResult s = .next (tapSelect 0x12 [if s.porN then s.tap.dbgResult else 0xFF] s) := if_neg h

theorem exec_coreDebug_closed (h : dbgStatus s = 0) : exec .coreDebug s = .next (tapBypass 0x20 s) := if_pos h

theorem exec_coreDebug_open (h : dbgStatus s ≠ 0) : exec .coreDebug s = .next (tapSelect 0x20 [] s) := if_neg h

theorem not_scrapped_of_served (h : tapServed s = true) : ¬ (s.lc.state = 4 ∧ lcKnown s = true) := by
  simp only [tapServed, Bool.and_eq_true, bne_iff_ne] at h
  exact fun hs => h.2 hs.1

theorem exec_tapChallenge_drawn {t : State} {nonce : List Byte} (h : tapServed s = true)
    (htake : rawTake .l 32 s = (some nonce, t)) : exec .tapChallenge s = .next (tapSelect 0x10 (challengeBytes s nonce)
      (modLc (fun l => { l with nonces := tput l.nonces 3 nonce }) t)) := by
  change execTapChallenge s = _
  rw [execTapChallenge, if_neg (not_scrapped_of_served h), if_pos h, newChallenge_drawn htake]

/-- The test port served, its token shifted in: the token's use on the test port's path. -/
theorem exec_tapToken_served (tk : List Byte) (h : tapServed s = true) : exec (.tapToken tk) s =
    .next (modTap (fun t => { t with dbgResult := (unlockRule 3 (padTo tk 256) (tapSelect 0x11 (padTo tk 256) s)).1 })
      (unlockRule 3 (padTo tk 256) (tapSelect 0x11 (padTo tk 256) s)).2) := by
  have hserved : tapServed (tapSelect 0x11 (padTo tk 256) s) = true := h
  change execTapToken tk s = _
  rw [execTapToken, if_neg (not_scrapped_of_served h)]
  dsimp only
  rw [if_pos hserved]

end

theorem tokenCode_tapSelect (ir : Nat) (dr : List Byte) (s : State) (path want : Nat) (tk : List Byte) :
    tokenCode (tapSelect ir dr s) path want tk = tokenCode s path want tk := rfl

theorem endSessions_tap (s : State) : (endSessions s).tap = s.tap := congrArg Aside.tap (endSessions_aside s)

theorem ksLoad_tap (slot req origin owner : Nat) (key : List Byte) (s : State) :
    (ksLoad slot req origin owner key s).tap = s.tap := rfl

theorem buildAliasCert_tap (s : State) : (buildAliasCert s).tap = s.tap := rfl

theorem deriveAlias_tap (s : State) : (deriveAlias s).tap = s.tap := by
  rw [deriveAlias, buildAliasCert_tap, modKeys_tap, ksLoad_tap, ksLoad_tap]

theorem debugKeys_tap (s : State) : (debugKeys s).tap = s.tap := by
  unfold debugKeys aliasAgain
  split
  · rw [deriveAlias_tap]
    rfl
  · rfl

theorem unlockRule_tap (path : Nat) (tk : List Byte) (s : State) : (unlockRule path tk s).2.tap = s.tap := by
  by_cases h : tokenCode s path 1 tk = eOk
  · rw [unlockRule_accepted h, endSessions_tap, debugKeys_tap]
    rfl
  · rw [unlockRule_refused h]
    rfl

theorem unlockRule_code (path : Nat) (tk : List Byte) (s : State) : (unlockRule path tk s).1 = tokenCode s path 1 tk := by
  by_cases h : tokenCode s path 1 tk = eOk
  · rw [unlockRule_accepted h, h]
  · rw [unlockRule_refused h]

theorem unlockRule_nonces (path : Nat) (tk : List Byte) (s : State) :
    (unlockRule path tk s).2.lc.nonces = tdel s.lc.nonces path := by
  by_cases h : tokenCode s path 1 tk = eOk
  · obtain ⟨u, hu, hlc, -, -⟩ := unlockRule_unlocked h
    rw [hu, hlc]
    rfl
  · rw [unlockRule_refused h]
    rfl

/-- Settles O51: each instruction's branch, and the token's use on the test port's path. -/
theorem testPort : Obligations.TestPort := by
  unfold Obligations.TestPort
  refine ⟨fun s => rfl, fun s c => rfl, fun s => ?idcode, fun s => rfl, fun s tk hk hst x hx => ?scrapped,
    fun s nonce t h htake => ?challenge, fun s tk h => ?token, fun s h => ?result,
    fun s => ⟨fun h => exec_coreDebug_closed h, fun h => exec_coreDebug_open h⟩⟩
  case idcode =>
    have hword : leBytes 4 0x10640763 = [0x63, 0x07, 0x64, 0x10] := by decide
    exact congrArg (fun dr => Host.Outcome.next (tapSelect 0x02 dr s)) hword
  case scrapped =>
    simp only [List.mem_cons, List.not_mem_nil, or_false] at hx
    rcases hx with rfl | rfl | rfl
    · exact exec_tapChallenge_scrapped hst hk
    · exact exec_tapToken_scrapped tk hst hk
    · exact exec_dbgResult_scrapped hst hk
  case challenge =>
    refine ⟨_, exec_tapChallenge_drawn h htake, rfl, ?_, rfl⟩
    have hput : tget (tput t.lc.nonces 3 nonce) 3 = some nonce := by rw [tget_tput, if_pos rfl]
    exact hput
  case token =>
    have htap := unlockRule_tap 3 (padTo tk 256) (tapSelect 0x11 (padTo tk 256) s)
    have hcode := unlockRule_code 3 (padTo tk 256) (tapSelect 0x11 (padTo tk 256) s)
    have hnonces := unlockRule_nonces 3 (padTo tk 256) (tapSelect 0x11 (padTo tk 256) s)
    have hground := unlockRule_ground 3 (padTo tk 256) (tapSelect 0x11 (padTo tk 256) s)
    have hyes : tokenCode s 3 1 (padTo tk 256) = eOk →
        (unlockRule 3 (padTo tk 256) (tapSelect 0x11 (padTo tk 256) s)).2.lc.dbgToken = true := fun hok => by
      obtain ⟨u, hu, hlc, -, -⟩ := unlockRule_unlocked (s := tapSelect 0x11 (padTo tk 256) s) hok
      rw [hu, hlc]
      rfl
    have hno : tokenCode s 3 1 (padTo tk 256) ≠ eOk →
        (unlockRule 3 (padTo tk 256) (tapSelect 0x11 (padTo tk 256) s)).2.lc.dbgToken = s.lc.dbgToken := fun hbad => by
      rw [unlockRule_refused (s := tapSelect 0x11 (padTo tk 256) s) hbad]
      rfl
    rw [exec_tapToken_served tk h]
    generalize unlockRule 3 (padTo tk 256) (tapSelect 0x11 (padTo tk 256) s) = r at *
    refine ⟨_, rfl, ?_, ?_, hcode, hnonces, hyes, hno, hground⟩
    · exact congrArg TestPort.ir htap
    · exact congrArg TestPort.dr htap
  case result => exact exec_dbgResult_served fun hs => h ⟨hs.2, hs.1⟩
end Sys2Proof.Proofs

end

section
/-! The watchdog and the control cores (O47) -/

namespace Sys2Proof.Proofs
open Sys2Proof Sys2Proof.Machine Sys2Proof.Laws
set_option maxRecDepth 4000

/-! ### Check-ins and services (R463 to R469) -/

theorem exec_wdCheckin_admitted {s : State} {p : Port} (k : U8) (h : admitted s p .exec 0xA001 0 1 = true) :
    exec (.wdCheckin p k) s = .next (reply p (wdCheckinRule k.toNat s).1 (wdCheckinRule k.toNat s).2) :=
  execOp_admitted (rule := wdCheckinRule k.toNat) h

theorem exec_wdService_admitted {s : State} {p : Port} (key : U16) (h : admitted s p .exec 0xA001 1 2 = true) :
    exec (.wdService p key) s = .next (reply p (wdServiceRule key s).1 (wdServiceRule key s).2) :=
  execOp_admitted (rule := wdServiceRule key) h

theorem exec_wdLock_admitted {s : State} {p : Port} (h : admitted s p .exec 0xA000 6 1 = true) :
    exec (.wdLock p) s = .next (reply p (wdLockRule s).1 (wdLockRule s).2) :=
  execOp_admitted (rule := wdLockRule) h

/-- A task's check-in: its first sets its presence, a further one its duplicate. -/
def checkedIn (task : Nat) (w : Watchdog) : Watchdog :=
  if w.present.getLsbD task then { w with duplicate := w.duplicate ||| ((1 : U16) <<< task) }
  else { w with present := w.present ||| ((1 : U16) <<< task) }

theorem checkedIn_duplicate {task : Nat} {w : Watchdog} (h : w.present.getLsbD task = true) :
    checkedIn task w = { w with duplicate := w.duplicate ||| ((1 : U16) <<< task) } := if_pos h

theorem checkedIn_first {task : Nat} {w : Watchdog} (h : w.present.getLsbD task = false) :
    checkedIn task w = { w with present := w.present ||| ((1 : U16) <<< task) } := if_neg (Bool.eq_false_iff.mp h)

section
variable {s : State}

theorem wdCheckinRule_stopped (task : Nat) (h : s.refclk = false) : wdCheckinRule task s = (eNotReady, s) :=
  if_pos (by rw [h]; rfl)

theorem wdCheckinRule_idle (task : Nat) (h : s.refclk = true) (hrun : s.wd.running = false) :
    wdCheckinRule task s = (eState, s) := by
  rw [wdCheckinRule, if_neg (by rw [h]; decide), if_pos (by rw [hrun]; rfl)]

variable (h : s.refclk = true) (hrun : s.wd.running = true)
include h hrun

theorem wdCheckinRule_running (task : Nat) : wdCheckinRule task s =
    if 15 < task ∨ (!(wdTaskSet s).getLsbD task) = true then (eRange, s) else (eOk, modWd (checkedIn task) s) := by
  rw [wdCheckinRule, if_neg (by rw [h]; decide), if_neg (by rw [hrun]; decide)]
  rfl

theorem wdServiceRule_running (key : U16) : wdServiceRule key s =
    if key ≠ s.wd.keyNext then (eState, wdBite 4 s)
    else if wdElapsed s < wdClosedEnd s.wd then (eState, wdBite 3 s)
    else if wdOpenEnd s.wd ≤ wdElapsed s then (eState, wdBite (wdOpenCause s) s)
    else if (!s.wd.recovery && (s.wd.tasks &&& ~~~s.wd.present) != 0) = true then
      (eState, modWd (fun w => { w with refused := satInc w.refused }) s)
    else (eOk, wdWindow (modWd (fun w => { w with
      lastUs := s.tbUs, lastEpoch := s.tbEpoch, present := 0, duplicate := 0
      keyNext := if w.keyNext = 0xA55A then 0x5AA5 else 0xA55A }) s)) := by
  rw [wdServiceRule, if_neg (by rw [h]; decide), if_neg (by rw [hrun]; decide)]

end

/-- A bit ORed into a word. -/
theorem getLsbD_or_bit (w : U16) {k : Nat} (hk : k ≤ 15) (n : Nat) :
    (w ||| ((1 : U16) <<< k)).getLsbD n = (w.getLsbD n || n == k) := by
  have hbit : ((1 : U16) <<< k).getLsbD n = (n == k) := by
    have hpow : (1 : U16) <<< k = BitVec.twoPow 16 k := rfl
    rw [hpow, BitVec.getLsbD_twoPow, Bool.eq_iff_iff]
    simp only [Bool.and_eq_true, decide_eq_true_eq, beq_iff_eq]
    omega
  rw [BitVec.getLsbD_or, hbit]

theorem getLsbD_or_bit_self (w : U16) {k : Nat} (hk : k ≤ 15) : (w ||| ((1 : U16) <<< k)).getLsbD k = true := by
  rw [getLsbD_or_bit w hk, beq_self_eq_true, Bool.or_true]

theorem getLsbD_or_bit_other (w : U16) {k n : Nat} (hk : k ≤ 15) (hn : n ≠ k) :
    (w ||| ((1 : U16) <<< k)).getLsbD n = w.getLsbD n := by
  rw [getLsbD_or_bit w hk, beq_false_of_ne hn, Bool.or_false]

theorem checkedIn_present {k : Nat} (hk : k ≤ 15) (w : Watchdog) : (checkedIn k w).present.getLsbD k = true := by
  cases h : w.present.getLsbD k
  · rw [checkedIn_first h, getLsbD_or_bit_self _ hk]
  · rw [checkedIn_duplicate h, h]

theorem checkedIn_other {k n : Nat} (hk : k ≤ 15) (hn : n ≠ k) (w : Watchdog) :
    (checkedIn k w).present.getLsbD n = w.present.getLsbD n ∧
      (checkedIn k w).duplicate.getLsbD n = w.duplicate.getLsbD n := by
  cases h : w.present.getLsbD k
  · rw [checkedIn_first h]
    exact ⟨getLsbD_or_bit_other _ hk hn, rfl⟩
  · rw [checkedIn_duplicate h]
    exact ⟨rfl, getLsbD_or_bit_other _ hk hn⟩

/-! ### Bites and faults of the cores (R470, R471) -/

/-- The evidence in the watchdog's registers; the cores' program counters are not modelled. -/
theorem wdEvidence_wd (cause : Nat) (s : State) : ∃ pc0 pc1, (wdEvidence cause s).wd = { s.wd with
    evCause := BitVec.ofNat 8 cause
    evMissing := wdTaskSet s &&& ~~~s.wd.present
    evDuplicate := s.wd.duplicate
    evPc0 := pc0
    evPc1 := pc1
    evLastUs := s.wd.lastUs
    evLastEpoch := s.wd.lastEpoch
    evTime := s.tbUs } := by
  refine ⟨(draw 40 s).1, (draw 40 (draw 40 s).2).1, ?_⟩
  rw [wdEvidence, journal_wd]
  rfl

theorem wdEvidence_chans (cause : Nat) (s : State) : (wdEvidence cause s).chans = s.chans := by
  rw [wdEvidence, journal_chans]
  rfl

theorem exec_wdBite_running {s : State} (hrun : s.wd.running = true) (hclk : s.refclk = true) (hpor : s.porN = true)
    (hdue : s.deviceResetDue = none) : exec .wdBite s = .next (wdBite (wdOpenCause s) s) :=
  if_pos ⟨hrun, hclk, hpor, hdue⟩

/-- The counted evidence of a bite. -/
def biteEvidence (cause : Nat) (s : State) : State :=
  modWd (fun w => { w with bites := satInc w.bites }) (wdEvidence cause s)

theorem wdBite_device {cause : Nat} {s : State} (h : s.wd.recovery = true ∨ s.wd.response ≠ 0) :
    wdBite cause s = { biteEvidence cause s with coresDown := true, deviceResetDue := some 5 } :=
  if_pos (by simpa using h)

theorem wdBite_core {cause : Nat} {s : State} (hrec : s.wd.recovery = false) (hresp : s.wd.response = 0) :
    wdBite cause s = coreReset 2 (biteEvidence cause s) := if_neg (by simp [hrec, hresp])

theorem coreReset_early {cause : Nat} {s : State} (h : runtimeDone s = false) :
    coreReset cause s = { s with coresDown := true, deviceResetDue := some (BitVec.ofNat 8 cause) } :=
  if_neg (by rw [h]; decide)

theorem runtimeDone_congr {s t : State} (h : t.steps = s.steps) : runtimeDone t = runtimeDone s := by
  rw [runtimeDone, h, runtimeDone]

theorem coreFault_transient {cause code : Nat} {s : State}
    (h : (chargeHealth (wdEvidence cause s) (wdEvidence cause s).coreHealth).2 = false) :
    coreFault cause code s = coreReset code { wdEvidence cause s with
      coreHealth := (chargeHealth (wdEvidence cause s) (wdEvidence cause s).coreHealth).1 } := by
  unfold coreFault
  dsimp only
  rw [if_neg (Bool.eq_false_iff.mp h)]

theorem coreFault_permanent {cause code : Nat} {s t : State}
    (h : (chargeHealth (wdEvidence cause s) (wdEvidence cause s).coreHealth).2 = true)
    (ht : coreReset code { wdEvidence cause s with
      coreHealth := (chargeHealth (wdEvidence cause s) (wdEvidence cause s).coreHealth).1 } = t) :
    coreFault cause code s = { (if t.wd.running then t else wdRecovery t) with coresHeld := true } := by
  unfold coreFault
  dsimp only
  rw [if_pos h, ht]

theorem exec_lockstepMismatch_running {s : State} (h : coresRun s = true) (hdue : s.deviceResetDue = none) :
    exec .lockstepMismatch s = .next (coreFault 5 4 s) := if_pos ⟨h, hdue⟩

theorem exec_sramDed_running {s : State} (h : coresRun s = true) (hdue : s.deviceResetDue = none) :
    exec .sramDed s = .next (coreFault 6 3 (countDed 5 s)) := if_pos ⟨h, hdue⟩

/-- Settles O47: the rules' branches in their order; a bite or a fault by the evidence it leaves and the reset it asks
for. -/
theorem watchdogAndCores : Obligations.WatchdogAndCores := by
  unfold Obligations.WatchdogAndCores
  refine ⟨fun s p k hadm => ⟨fun h => ?stopped, fun h hrun => ?idle, fun h hrun hk => ?range,
      fun h hrun hk hset => ?checkedIn⟩,
    fun s p key hadm h hrun => ⟨fun hkey => ?wrongKey, fun hkey hclosed => ?tooEarly,
      fun hkey hclosed hopen hrec hmissing => ?missing, fun hkey hclosed hopen hall => ?served⟩,
    fun s hrun hclk hpor hdue => ?bite, fun s p hadm => ⟨fun hrun => ?locked, fun hrun => ?unlocked⟩,
    fun s h hdue x hx => ?fault⟩
  case stopped => rw [exec_wdCheckin_admitted k hadm, wdCheckinRule_stopped _ h]
  case idle => rw [exec_wdCheckin_admitted k hadm, wdCheckinRule_idle _ h hrun]
  case range =>
    have hout : 15 < k.toNat ∨ (!(wdTaskSet s).getLsbD k.toNat) = true := by simpa using hk
    rw [exec_wdCheckin_admitted k hadm, wdCheckinRule_running h hrun, if_pos hout]
  case checkedIn =>
    have hin : ¬ (15 < k.toNat ∨ (!(wdTaskSet s).getLsbD k.toNat) = true) := by
      rw [hset]
      simpa using hk
    rw [exec_wdCheckin_admitted k hadm, wdCheckinRule_running h hrun, if_neg hin]
    refine ⟨_, rfl, checkedIn_present hk s.wd, fun hp => ?_, fun hp => ?_, fun n hn => checkedIn_other hk hn s.wd, rfl⟩
    · have hw : (modWd (checkedIn k.toNat) s).wd = _ := checkedIn_duplicate hp
      rw [hw]
      exact ⟨getLsbD_or_bit_self _ hk, rfl⟩
    · have hw : (modWd (checkedIn k.toNat) s).wd = _ := checkedIn_first hp
      rw [hw]
  case wrongKey => rw [exec_wdService_admitted key hadm, wdServiceRule_running h hrun, if_pos hkey]
  case tooEarly =>
    rw [exec_wdService_admitted key hadm, wdServiceRule_running h hrun, if_neg (not_not.mpr hkey), if_pos hclosed]
  case missing =>
    rw [exec_wdService_admitted key hadm, wdServiceRule_running h hrun, if_neg (not_not.mpr hkey),
      if_neg (Nat.not_lt.mpr hclosed), if_neg (Nat.not_le.mpr hopen), if_pos (by simpa [hrec] using hmissing)]
  case served =>
    have hcomplete : ¬ (!s.wd.recovery && (s.wd.tasks &&& ~~~s.wd.present) != 0) = true := by
      rcases hall with hrec | hnone
      · simp [hrec]
      · simp [hnone]
    rw [exec_wdService_admitted key hadm, wdServiceRule_running h hrun, if_neg (not_not.mpr hkey),
      if_neg (Nat.not_lt.mpr hclosed), if_neg (Nat.not_le.mpr hopen), if_neg hcomplete]
    exact ⟨_, rfl, rfl, rfl, rfl, rfl, rfl, rfl, if_pos hrun, rfl⟩
  case bite =>
    obtain ⟨pc0, pc1, hwd⟩ := wdEvidence_wd (wdOpenCause s) s
    have hground : ground (biteEvidence (wdOpenCause s) s) = ground s := by
      rw [biteEvidence, modWd_ground, wdEvidence_ground]
    have hbite : (biteEvidence (wdOpenCause s) s).wd = { (wdEvidence (wdOpenCause s) s).wd with
        bites := satInc (wdEvidence (wdOpenCause s) s).wd.bites } := rfl
    rw [hwd] at hbite
    rw [exec_wdBite_running hrun hclk hpor hdue]
    refine ⟨biteEvidence (wdOpenCause s) s, ?_, ?_, ?_, ?_, ?_, ?_, hground, ?_, fun hdev => ?_, fun hrec hresp => ?_,
      fun hrec hresp hearly => ?_⟩
    · rw [hbite]
    · rw [hbite]
    · rw [hbite]
    · rw [hbite]
    · rw [hbite]
    · rw [hbite]
    · rw [biteEvidence, modWd_chans, wdEvidence_chans]
    · rw [wdBite_device hdev]
    · rw [wdBite_core hrec hresp]
    · rw [coreReset_early ((runtimeDone_congr (ground_steps hground)).trans hearly)]
      rfl
  case locked =>
    rw [exec_wdLock_admitted hadm, wdLockRule, if_pos hrun]
  case unlocked =>
    rw [exec_wdLock_admitted hadm, wdLockRule, if_neg (Bool.eq_false_iff.mp hrun)]
  case fault =>
    have hexec : exec x.1 s = .next (coreFault x.2.1 x.2.2.1 x.2.2.2) := by
      simp only [List.mem_cons, List.not_mem_nil, or_false] at hx
      rcases hx with rfl | rfl
      · exact exec_lockstepMismatch_running h hdue
      · exact exec_sramDed_running h hdue
    obtain ⟨pc0, pc1, hwd⟩ := wdEvidence_wd x.2.1 x.2.2.2
    rw [hexec]
    refine ⟨?_, fun hperm => ?_, fun hperm => ?_⟩
    · rw [hwd]
    · rw [coreFault_transient hperm]
    · rw [coreFault_permanent hperm rfl]
end Sys2Proof.Proofs

end

section
/-! The Heath domain's events and commands (O46) -/

namespace Sys2Proof.Proofs
open Sys2Proof Sys2Proof.Machine Sys2Proof.Laws
set_option maxRecDepth 4000

/-! ### The sample tick (R440 to R446) -/

/-- The monitors a tick samples. -/
def heathWatched (s : State) : BitVec 10 := if s.heath.mainPower then BitVec.allOnes 10 else batteryMask

/-- The counter after a tick's periods. -/
def heathCounter (s : State) : BitVec 47 := s.heath.counter + BitVec.ofNat 47 (if s.heath.mainPower then 33 else 131)

/-- What a tick makes of a monitor, and the alarm it raises. -/
def heathTick (x : HeathSample) (s : State) (y : Monitor × Nat) : Monitor × Option Nat :=
  if bit (monCfg s y.2).toNat 15 && (heathWatched s).getLsbD y.2 then
    monitorTick (monCfg s y.2).toNat ((x.cond &&& heathWatched s).getLsbD y.2) ((heathCounter s).extractLsb' 15 32) y.1
  else (y.1, none)

/-- The state with a tick's periods counted and its conditions sampled. -/
def heathRead (x : HeathSample) (s : State) : State :=
  modHeath (fun h => { h with
    counter := heathCounter s
    condition := x.cond &&& heathWatched s
    vbatMv := if s.heath.mainPower then x.vbatMv else h.vbatMv }) s

/-- A gap of REFCLK counts a tick's periods. -/
def gapCounted (n : Nat) (s : State) : State := if s.porN && !s.refclk then gapCount n s else s

/-- The state after a tick's counting. -/
def heathCounted (x : HeathSample) (s : State) : State :=
  gapCounted (if s.heath.mainPower then 33 else 131) (heathRead x s)

/-- The alarms of a tick. -/
def heathAlarms (x : HeathSample) (s : State) : List (Nat × Nat) :=
  s.heath.monitors.zipIdx.filterMap (fun y => (heathTick x s y).2.map (fun k => (y.2, k)))

/-- The state after a tick's sampling, before its alarms are executed. -/
def heathSampled (x : HeathSample) (s : State) : State :=
  modHeath (fun h => { h with monitors := s.heath.monitors.zipIdx.map (fun y => (heathTick x s y).1) }) (heathCounted x s)

section
variable (x : HeathSample) (s : State)

theorem gapCounted_heath (n : Nat) : (gapCounted n s).heath = s.heath := by
  unfold gapCounted
  split <;> rfl

theorem gapCounted_lc (n : Nat) : (gapCounted n s).lc = s.lc := by
  unfold gapCounted
  split <;> rfl

theorem gapCounted_keys (n : Nat) : (gapCounted n s).keys = s.keys := by
  unfold gapCounted
  split <;> rfl

theorem gapCounted_chans (n : Nat) : (gapCounted n s).chans = s.chans := by
  unfold gapCounted
  split <;> rfl

theorem gapCounted_ground (n : Nat) : ground (gapCounted n s) = ground s := by
  unfold gapCounted
  split <;> rfl

theorem heathCounted_heath : (heathCounted x s).heath = { s.heath with
    counter := heathCounter s
    condition := x.cond &&& heathWatched s
    vbatMv := if s.heath.mainPower then x.vbatMv else s.heath.vbatMv } := by
  rw [heathCounted, gapCounted_heath, heathRead, modHeath_heath]

theorem heathSampled_heath : (heathSampled x s).heath = { s.heath with
    counter := heathCounter s
    condition := x.cond &&& heathWatched s
    vbatMv := if s.heath.mainPower then x.vbatMv else s.heath.vbatMv
    monitors := s.heath.monitors.zipIdx.map (fun y => (heathTick x s y).1) } := by
  rw [heathSampled, modHeath_heath, heathCounted_heath]

theorem heathCounted_lc : (heathCounted x s).lc = s.lc := by
  rw [heathCounted, gapCounted_lc, heathRead, modHeath_lc]

theorem heathSampled_lc : (heathSampled x s).lc = s.lc := by
  rw [heathSampled, modHeath_lc, heathCounted_lc]

theorem heathSampled_keys : (heathSampled x s).keys = s.keys := by
  rw [heathSampled, modHeath_keys, heathCounted, gapCounted_keys, heathRead, modHeath_keys]

theorem heathSampled_chans : (heathSampled x s).chans = s.chans := by
  rw [heathSampled, modHeath_chans, heathCounted, gapCounted_chans, heathRead, modHeath_chans]

theorem heathSampled_ground : ground (heathSampled x s) = ground s := by
  rw [heathSampled, modHeath_ground, heathCounted, gapCounted_ground, heathRead, modHeath_ground]

end

theorem monCfg_congr {s t : State} (hlc : t.lc = s.lc) (hcell : t.heath.cellCfgSet = s.heath.cellCfgSet)
    (hmon : t.heath.monitors = s.heath.monitors) (m : Nat) : monCfg t m = monCfg s m := by
  have hcustody : custody t = custody s := by
    unfold custody flagAt otpByte
    rw [hlc]
  rw [monCfg, hcell, hmon, hcustody, monCfg]

/-- One monitor's step of the tick, as the sampling folds it. -/
def tickStep (x : HeathSample) (s t : State) (a : List Monitor × List (Nat × Nat)) (y : Monitor × Nat) :
    List Monitor × List (Nat × Nat) :=
  let cfg := (monCfg t y.2).toNat
  if bit cfg 15 && (heathWatched s).getLsbD y.2 then
    let (m, al) := monitorTick cfg ((x.cond &&& heathWatched s).getLsbD y.2) (heathSeconds t.heath) y.1
    (a.1 ++ [m], match al with | some k => a.2 ++ [(y.2, k)] | none => a.2)
  else (a.1 ++ [y.1], a.2)

theorem tickStep_eq (x : HeathSample) (s : State) (a : List Monitor × List (Nat × Nat)) (y : Monitor × Nat) :
    tickStep x s (heathCounted x s) a y =
      (a.1 ++ [(heathTick x s y).1], a.2 ++ ((heathTick x s y).2.map (fun k => (y.2, k))).toList) := by
  have hcfg : monCfg (heathCounted x s) y.2 = monCfg s y.2 :=
    monCfg_congr (heathCounted_lc x s) (by rw [heathCounted_heath]) (by rw [heathCounted_heath]) _
  have hsecs : heathSeconds (heathCounted x s).heath = (heathCounter s).extractLsb' 15 32 := by
    rw [heathCounted_heath, heathSeconds]
  unfold tickStep heathTick
  dsimp only
  rw [hcfg, hsecs]
  split
  · cases (monitorTick (monCfg s y.2).toNat ((x.cond &&& heathWatched s).getLsbD y.2)
      ((heathCounter s).extractLsb' 15 32) y.1).2 with
    | none => simp
    | some k => simp
  · simp

theorem foldl_tickStep (x : HeathSample) (s : State) (l : List (Monitor × Nat)) (a : List Monitor × List (Nat × Nat)) :
    l.foldl (tickStep x s (heathCounted x s)) a = (a.1 ++ l.map (fun y => (heathTick x s y).1),
      a.2 ++ l.filterMap (fun y => (heathTick x s y).2.map (fun k => (y.2, k)))) := by
  induction l generalizing a with
  | nil => simp
  | cons y l ih =>
    rw [List.foldl_cons, ih, tickStep_eq]
    cases hk : (heathTick x s y).2 with
    | none => simp [hk]
    | some k => simp [hk]

theorem exec_heathSampleTick_powered (x : HeathSample) {s : State} (h : s.heath.powered = true) :
    exec (.heathSampleTick x) s = .next (if (heathAlarms x s).isEmpty then heathSampled x s
      else heathExecute (heathAlarms x s) (heathSampled x s)) := by
  have hfold : s.heath.monitors.zipIdx.foldl (tickStep x s (heathCounted x s)) ([], []) =
      (s.heath.monitors.zipIdx.map (fun y => (heathTick x s y).1), heathAlarms x s) := foldl_tickStep x s _ _
  have hmon : (heathCounted x s).heath.monitors = s.heath.monitors := by rw [heathCounted_heath]
  change execHeathSampleTick x s = _
  have hshape : execHeathSampleTick x s = if (!s.heath.powered) = true then .next s else
      .next (if ((heathCounted x s).heath.monitors.zipIdx.foldl (tickStep x s (heathCounted x s)) ([], [])).2.isEmpty then
        modHeath (fun h => { h with monitors :=
          ((heathCounted x s).heath.monitors.zipIdx.foldl (tickStep x s (heathCounted x s)) ([], [])).1 }) (heathCounted x s)
      else heathExecute ((heathCounted x s).heath.monitors.zipIdx.foldl (tickStep x s (heathCounted x s)) ([], [])).2
        (modHeath (fun h => { h with monitors :=
          ((heathCounted x s).heath.monitors.zipIdx.foldl (tickStep x s (heathCounted x s)) ([], [])).1 })
          (heathCounted x s))) := rfl
  rw [hshape, hmon, hfold, if_neg (by rw [h]; decide)]
  rfl
theorem exec_heathSampleTick_quiet {x : HeathSample} {s : State} (h : s.heath.powered = true)
    (hnone : heathAlarms x s = []) : exec (.heathSampleTick x) s = .next (heathSampled x s) := by
  rw [exec_heathSampleTick_powered x h, hnone]
  rfl

theorem exec_heathSampleTick_alarm {x : HeathSample} {s : State} {a : Nat × Nat} (h : s.heath.powered = true)
    (hone : heathAlarms x s = [a]) : exec (.heathSampleTick x) s = .next (heathExecute [a] (heathSampled x s)) := by
  rw [exec_heathSampleTick_powered x h, hone]
  rfl

/-! ### The execution of an alarm (R445 to R447) -/

theorem lcInOtp_congr {s t : State} (h : t.lc = s.lc) : lcInOtp t = lcInOtp s := by
  have hcopy : ∀ i, lcCopy t i = lcCopy s i := fun i => by simp only [lcCopy, otpRead, otpByte, h]
  have hmark : otpRead t 0 5 = otpRead s 0 5 := by simp only [otpRead, otpByte, h]
  have hvote : lcVote t = lcVote s := by rw [lcVote, hmark, hcopy, hcopy, hcopy, lcVote]
  rw [lcInOtp, hvote, lcInOtp]

/-- The erase an alarm asks for. -/
def alarmErased (erase : Bool) (s : State) : State :=
  if erase then (if s.heath.mainPower then eraseAll false s else eraseCell s) else s

theorem heathExecute_one {s : State} (m k : Nat) (h : lcInOtp s ≠ 0) : heathExecute [(m, k)] s =
    recordAlarm false false m k (if bit (monCfg s m).toNat 13 then
      heathHold (alarmErased (bit (monCfg s m).toNat 14) s) else alarmErased (bit (monCfg s m).toNat 14) s) := by
  have hmaker : (lcInOtp s == 0) = false := beq_false_of_ne h
  unfold heathExecute
  simp only [hmaker, List.any_cons, List.any_nil, Bool.or_false, Bool.not_false, Bool.and_true, List.foldl_cons,
    List.foldl_nil]
  rfl

theorem alarmErased_main {erase : Bool} {s : State} (h : s.heath.mainPower = true) :
    alarmErased erase s = if erase then eraseAll false s else s := by
  rw [alarmErased, if_pos h]

/-- On battery an alarm erases the cell's key and sets the latch. -/
def batteryActs (erase hold : Bool) (h : Heath) : Heath :=
  { h with
    cellKey := if erase then zeros 32 else h.cellKey
    canary := if erase then 0 else h.canary
    cellState := if erase then 1 else h.cellState
    holdLatch := hold || h.holdLatch }

theorem alarmErased_battery {erase : Bool} {s : State} (h : s.heath.mainPower = false) :
    alarmErased erase s = modHeath (batteryActs erase false) s := by
  unfold alarmErased
  rw [if_neg (Bool.eq_false_iff.mp h)]
  cases erase <;> rfl

theorem heathHold_battery {s : State} (h : s.heath.mainPower = false) :
    heathHold s = modHeath (fun h => { h with holdLatch := true }) s :=
  if_neg (Bool.eq_false_iff.mp h)

theorem recordAlarm_battery {s : State} (m k : Nat) (h : s.heath.mainPower = false) :
    ∃ e : HRec, recordAlarm false false m k s = modHeath (hrecPut e) s ∧ e.monitor = BitVec.ofNat 8 m ∧
      e.count = BitVec.ofNat 8 k ∧ e.battery = true ∧ e.copied = false ∧ e.time = heathSeconds s.heath := by
  refine ⟨_, if_neg (Bool.eq_false_iff.mp h), rfl, rfl, ?_, h, rfl⟩
  exact congrArg (!·) h

theorem batteryHeld {erase hold : Bool} {s : State} (h : s.heath.mainPower = false) :
    (if hold then heathHold (alarmErased erase s) else alarmErased erase s) = modHeath (batteryActs erase hold) s := by
  rw [alarmErased_battery h]
  cases hold
  · exact if_neg Bool.false_ne_true
  · exact (if_pos rfl).trans (heathHold_battery h)

theorem hrecPut_room {e : HRec} {h : Heath} (hroom : h.hrec.length < 16) :
    hrecPut e h = { h with hrec := h.hrec ++ [e] } := if_pos hroom

/-- What an alarm on battery leaves. -/
theorem heathExecute_battery {s : State} (m k : Nat) (h : lcInOtp s ≠ 0) (hmain : s.heath.mainPower = false)
    (hroom : s.heath.hrec.length < 16) : ∃ e : HRec, heathExecute [(m, k)] s = modHeath (fun h => { h with
      hrec := h.hrec ++ [e] }) (modHeath (batteryActs (bit (monCfg s m).toNat 14) (bit (monCfg s m).toNat 13)) s) ∧
      e.monitor = BitVec.ofNat 8 m ∧ e.count = BitVec.ofNat 8 k ∧ e.battery = true ∧ e.copied = false ∧
      e.time = heathSeconds s.heath := by
  rw [heathExecute_one m k h, batteryHeld hmain]
  obtain ⟨e, hrec, hmonitor, hcount, hbattery, hcopied, htime⟩ :=
    recordAlarm_battery (s := modHeath (batteryActs (bit (monCfg s m).toNat 14) (bit (monCfg s m).toNat 13)) s) m k hmain
  refine ⟨e, hrec.trans ?_, hmonitor, hcount, hbattery, hcopied, htime⟩
  exact congrArg (fun g : Heath => ({ s with heath := g } : State)) (hrecPut_room hroom)

/-! ### The managers' commands -/

theorem exec_tamperClear_admitted {s : State} {p : Port} (h : admitted s p .exec 0x9000 4 1 = true) :
    exec (.tamperClear p) s = .next (reply p (tamperClearRule s).1 (tamperClearRule s).2) :=
  execOp_admitted (rule := tamperClearRule) h

theorem exec_heathLock_admitted {s : State} {p : Port} (h : admitted s p .exec 0x9000 3 1 = true) :
    exec (.heathLock p) s = .next (reply p (heathLockRule s).1 (heathLockRule s).2) :=
  execOp_admitted (rule := heathLockRule) h

theorem exec_cellArm_admitted {s : State} {p : Port} (h : admitted s p .exec 0x9002 1 1 = true) :
    exec (.cellArm p) s = .next (reply p (cellArmRule s).1 (cellArmRule s).2) :=
  execOp_admitted (rule := cellArmRule) h

/-- Where CELL_ARM is allowed (R449). -/
def cellArmAllowed (s : State) : Prop :=
  (s.lc.state = 0 ∨ s.lc.state = 1 ∨ s.lc.state = 3) ∧ (s.phase = .service ∨ s.phase = .test) ∧
    ¬(custody s = 1 ∧ s.keys.keyState = 1)

theorem cellArm_closed_iff (s : State) :
    ((!((s.lc.state == 0 || s.lc.state == 1 || s.lc.state == 3) && (s.phase == .service || s.phase == .test))) = true ∨
      (custody s = 1 ∧ s.keys.keyState = 1)) ↔ ¬ cellArmAllowed s := by
  simp only [cellArmAllowed, Bool.not_eq_true', Bool.and_eq_false_iff, Bool.or_eq_false_iff, beq_eq_false_iff_ne]
  tauto

theorem cellArmRule_closed {s : State} (h : ¬ cellArmAllowed s) : cellArmRule s = (eState, s) :=
  if_pos ((cellArm_closed_iff s).mpr h)

theorem cellArmRule_unready {s t : State} (h : cellArmAllowed s) (hw : wireGenerate 0 32 s = (none, t)) :
    cellArmRule s = (eNotReady, t) := by
  rw [cellArmRule, if_neg fun hc => (cellArm_closed_iff s).mp hc h, hw]

theorem cellArmRule_armed {s t : State} {key : List Byte} (h : cellArmAllowed s)
    (hw : wireGenerate 0 32 s = (some key, t)) : cellArmRule s = (eOk,
      if t.lc.state ≠ 0 ∧ (!cellArmed t) = true then
        burnFlag 0x033 (modHeath (fun h => { h with
          cellKey := key, canary := BitVec.ofNat 64 (crc64 key), cellState := cellStateOf key }) t)
      else modHeath (fun h => { h with
          cellKey := key, canary := BitVec.ofNat 64 (crc64 key), cellState := cellStateOf key }) t) := by
  rw [cellArmRule, if_neg fun hc => (cellArm_closed_iff s).mp hc h, hw]
  rfl

theorem wireGenerate_ready {consumer n : Nat} {s : State} (h : s.random.st = 1) :
    ∃ t, wireGenerate consumer n s = (some (drbgBytes s.random n).1, t) ∧ sober t = sober s := by
  have hgen := (drbgGenerate_some (n := n)).mpr ⟨h, rfl⟩
  have hsober := sober_wireGenerate consumer n s
  rw [wireGenerate, hgen] at hsober ⊢
  exact ⟨_, rfl, hsober⟩

theorem wireGenerate_unready {consumer n : Nat} {s : State} (h : s.random.st ≠ 1) :
    ∃ t, wireGenerate consumer n s = (none, t) ∧ sober t = sober s := by
  have hgen : drbgGenerate n s = none := if_neg h
  have hsober := sober_wireGenerate consumer n s
  rw [wireGenerate, hgen] at hsober ⊢
  exact ⟨_, rfl, hsober⟩

theorem cellArmed_congr {s t : State} (h : t.lc = s.lc) : cellArmed t = cellArmed s := by
  rw [cellArmed, flagSet, flagAt, otpByte, h]
  rfl

theorem burnFlag_lc_congr {s t : State} (a : Nat) (h : t.lc = s.lc) : (burnFlag a t).lc = (burnFlag a s).lc := by
  rw [burnFlag, otpBurn, modLc_lc, h]
  rfl

theorem sober_field {α : Type} (f : State → α) {s t : State} (hs : f (sober s) = f s) (ht : f (sober t) = f t)
    (h : sober t = sober s) : f t = f s := by rw [← ht, h, hs]

theorem heathPowerUp_drawn (s : State) (h : s.heath.powered = false) :
    exec .heathPowerUp s = .next { (drawBytes 32 s).2 with
      heath := { heathFresh with mainPower := false, cellKey := (drawBytes 32 s).1 } } :=
  if_neg (Bool.eq_false_iff.mp h)

/-- Settles O46: the tick by its sampling and the alarm's execution, CELL_ARM by what the wire interface gives. -/
theorem heathEvents : Obligations.HeathEvents := by
  unfold Obligations.HeathEvents
  refine ⟨fun s hp hm => ?loss, fun s hp => ?up, fun s x hp => ?tick, fun s m hp => if_pos hp,
    fun s hz hpor hclk hp => if_pos ⟨hpor, hclk, hp⟩,
    fun s p hadm => ⟨fun hc => ?held, fun hs hc => ?cleared⟩,
    fun s p hadm => ⟨fun hno => ?closed, fun hyes hst => ?armed, fun hyes hst => ?unready⟩, fun s p hadm => ?locked⟩
  case loss => exact if_pos ⟨hp, by rw [hm]; rfl⟩
  case up => exact ⟨(drawBytes 32 s).1, _, heathPowerUp_drawn s hp, rfl, drawBytes_ground 32 s⟩
  case tick =>
    have hheath := heathSampled_heath x s
    have hcode : lcInOtp s ≠ 0 → lcInOtp (heathSampled x s) ≠ 0 := fun h => by
      rwa [lcInOtp_congr (heathSampled_lc x s)]
    have hpower : (heathSampled x s).heath.mainPower = s.heath.mainPower := by rw [hheath]
    refine ⟨heathSampled x s, hheath, heathSampled_ground x s, heathSampled_keys x s, heathSampled_chans x s,
      heathSampled_lc x s, fun hnone => ?_, fun m k hone hotp hmain => ?_, fun m k hone hotp hmain hroom => ?_⟩
    · exact exec_heathSampleTick_quiet hp hnone
    · rw [exec_heathSampleTick_alarm hp hone, heathExecute_one m k (hcode hotp),
        alarmErased_main (hpower.trans hmain)]
    · have hhrec : (heathSampled x s).heath.hrec = s.heath.hrec := by rw [hheath]
      have hkey : (heathSampled x s).heath.cellKey = s.heath.cellKey := by rw [hheath]
      have hstate : (heathSampled x s).heath.cellState = s.heath.cellState := by rw [hheath]
      have hlatch : (heathSampled x s).heath.holdLatch = s.heath.holdLatch := by rw [hheath]
      have htime : heathSeconds (heathSampled x s).heath = (heathCounter s).extractLsb' 15 32 := by
        rw [hheath, heathSeconds]
      obtain ⟨e, hact, hmonitor, hcount, hbattery, hcopied, hetime⟩ :=
        heathExecute_battery m k (hcode hotp) (hpower.trans hmain) (by rw [hhrec]; exact hroom)
      have hkeys := heathSampled_keys x s
      have hchans := heathSampled_chans x s
      rw [exec_heathSampleTick_alarm hp hone, hact]
      rw [← hkey, ← hstate, ← hlatch, ← hhrec, ← hkeys, ← hchans]
      have hclock := hetime.trans htime
      generalize heathSampled x s = u
      exact ⟨_, rfl, rfl, rfl, rfl, ⟨e, rfl, hmonitor, hcount, hbattery, hcopied, hclock⟩, rfl, rfl, rfl⟩
  case held =>
    have hrefused : (!inService s) = true ∨ holdCondition s = true := by simpa using hc
    rw [exec_tamperClear_admitted hadm, tamperClearRule, if_pos hrefused]
  case cleared => 
    have hallowed : ¬ ((!inService s) = true ∨ holdCondition s = true) := by simp [hs, hc]
    rw [exec_tamperClear_admitted hadm, tamperClearRule, if_neg hallowed]
  case closed => rw [exec_cellArm_admitted hadm, cellArmRule_closed hno]
  case armed =>
    obtain ⟨t, hw, hsober⟩ := wireGenerate_ready (consumer := 0) (n := 32) hst
    have hlc : t.lc = s.lc := sober_field State.lc rfl rfl hsober
    have hchans : t.chans = s.chans := sober_field State.chans rfl rfl hsober
    have hground := cellArmRule_ground s
    have hrule := cellArmRule_armed hyes hw
    rw [hrule] at hground
    rw [exec_cellArm_admitted hadm, hrule]
    refine ⟨_, rfl, ?_, ?_, ?_, fun h => ?_, fun h0 ha => ?_, ?_, hground⟩
    · split <;> rfl
    · split <;> rfl
    · split <;> rfl
    · rw [if_neg (by rw [hlc, cellArmed_congr hlc]; rcases h with h | h <;> simp [h]), modHeath_lc, hlc]
    · rw [if_pos ⟨by rw [hlc]; exact h0, by rw [cellArmed_congr hlc, ha]; rfl⟩]
      exact burnFlag_lc_congr _ hlc
    · rw [← hchans]
      split <;> rfl
  case unready =>
    obtain ⟨t, hw, hsober⟩ := wireGenerate_unready (consumer := 0) (n := 32) hst
    rw [exec_cellArm_admitted hadm, cellArmRule_unready hyes hw]
    exact ⟨t, rfl, sober_field State.heath rfl rfl hsober⟩
  case locked =>
    rw [exec_heathLock_admitted hadm]
    rfl
end Sys2Proof.Proofs

end

section
/-! The SPDM responder (O45) -/

namespace Sys2Proof.Proofs
open Sys2Proof Sys2Proof.Machine Sys2Proof.Laws
set_option maxRecDepth 4000

/-! ### A request outside a session (R419 to R421, R425) -/

/-- A request on a port that answers, with a credit free: it is served and its response queued. -/
theorem spdmRow_served {s : State} {r : SpdmReq} (hport : servable s (portOfM r.port) = true)
    (hcredit : creditsFree (mportAt s r.port) ≠ 0) (code : Nat) (session : State → Option U32) :
    spdmRow code session r s = .next (spdmHandle r.port (session s) code r 0 0 s) := by
  rw [spdmRow, if_neg (by rw [hport]; decide), spdmReceive, if_neg hcredit]

theorem spdmHandle_plain (m : MPort) (code : Nat) (r : SpdmReq) (s : State) : spdmHandle m none code r 0 0 s =
    queueResponse m none ([0x05] ++ (spdmServe m none code r s).1) 0 0 false (spdmServe m none code r s).2 := rfl

/-- What a connection serves outside a session. -/
def spdmOutside (m : MPort) (code : Nat) (r : SpdmReq) (s : State) : List Byte × State :=
  if code = 0x81 then spdmDigests m r s
  else if code = 0x82 then spdmCertificate m r s
  else if code = 0x83 then spdmChallengeAuth m r s
  else if code = 0xE0 then spdmMeasurements m none r s
  else if code = 0xE4 then spdmKeyExchange m r s
  else spdmError errUnexpected 0 s

/-- What a session serves. -/
def spdmInside (m : MPort) (id : U32) (x : Session) (code : Nat) (r : SpdmReq) (s : State) : List Byte × State :=
  if !spdmInSession x.finished code then spdmError errUnexpected 0 s
  else if code = 0xE0 then spdmMeasurements m (some id) r s
  else if code = 0xE5 then spdmFinish (some id) r s
  else if code = 0xEC then spdmEnd (some id) r s
  else if code = 0x81 then spdmDigests m r s
  else spdmCertificate m r s

section
variable {s : State} {r : SpdmReq} {m : MPort} (hservice : inService s = true) (hversion : r.version = 0x13)
include hservice hversion

theorem spdmServe_unlisted {code : Nat} (h : spdmCodes.contains code = false) :
    spdmServe m none code r s = spdmError errUnsupported code s := by
  rw [spdmServe, if_neg (by rw [hservice]; decide), if_neg fun hv => hv.2 hversion, if_pos (by rw [h]; rfl)]

theorem spdmServe_version : spdmServe m none 0x84 r s = spdmVersion m r s := by
  rw [spdmServe, if_neg (by rw [hservice]; decide), if_neg fun hv => hv.2 hversion, if_neg (by decide),
    if_pos ⟨rfl, rfl⟩]

theorem spdmServe_capabilities : spdmServe m none 0xE1 r s = spdmCapabilities m r s := by
  rw [spdmServe, if_neg (by rw [hservice]; decide), if_neg fun hv => hv.2 hversion, if_neg (by decide),
    if_neg (by decide), if_pos ⟨rfl, rfl⟩]

theorem spdmServe_algorithms : spdmServe m none 0xE3 r s = spdmAlgorithms m r s := by
  rw [spdmServe, if_neg (by rw [hservice]; decide), if_neg fun hv => hv.2 hversion, if_neg (by decide),
    if_neg (by decide), if_neg (by decide), if_pos ⟨rfl, rfl⟩]

section
variable {code : Nat} (hcode : code ∈ [0x81, 0x82, 0x83, 0xE0, 0xE4, 0xE5, 0xEC])
  (hstage : (spdmConn s m).stage = 3)
include hcode hstage

/-- A request beyond the set-up on a connection that is set up. -/
theorem spdmServe_connected (session : Option U32) : spdmServe m session code r s =
    if spdmNeedsIdentity code ∧ (!hasIdentity s) = true then spdmError errUnsupported code s
    else match session.bind (fun id => s.spdm.sessions.find? (fun x => x.id == id)) with
      | some x =>
        if !spdmInSession x.finished code then spdmError errUnexpected 0 s
        else if code = 0xE0 then spdmMeasurements m session r s
        else if code = 0xE5 then spdmFinish session r s
        else if code = 0xEC then spdmEnd session r s
        else if code = 0x81 then spdmDigests m r s
        else spdmCertificate m r s
      | none => spdmOutside m code r s := by
  have hlisted : spdmCodes.contains code = true ∧ code ≠ 0x84 ∧ code ≠ 0xE1 ∧ code ≠ 0xE3 := by
    simp only [List.mem_cons, List.not_mem_nil, or_false] at hcode
    rcases hcode with rfl | rfl | rfl | rfl | rfl | rfl | rfl <;> decide
  obtain ⟨hin, h84, hE1, hE3⟩ := hlisted
  have hsetup : ¬ ((spdmConn s m).stage ≠ 3 ∨ code = 0x84 ∨ code = 0xE1 ∨ code = 0xE3) := by tauto
  rw [spdmServe, if_neg (by rw [hservice]; decide), if_neg fun hv => hv.2 hversion, if_neg (by rw [hin]; decide),
    if_neg fun h => h84 h.1, if_neg fun h => hE1 h.1, if_neg fun h => hE3 h.1, if_neg hsetup]
  rfl

theorem spdmServe_noIdentity (session : Option U32) (hneeds : spdmNeedsIdentity code = true)
    (hid : hasIdentity s = false) : spdmServe m session code r s = spdmError errUnsupported code s := by
  rw [spdmServe_connected hservice hversion hcode hstage, if_pos ⟨hneeds, by rw [hid]; rfl⟩]

theorem spdmServe_outside (h : spdmNeedsIdentity code = false ∨ hasIdentity s = true) :
    spdmServe m none code r s = spdmOutside m code r s := by
  have hmay : ¬ (spdmNeedsIdentity code = true ∧ (!hasIdentity s) = true) := by
    rcases h with h | h <;> simp [h]
  rw [spdmServe_connected hservice hversion hcode hstage, if_neg hmay]
  rfl

theorem spdmServe_inside {x : Session} (hid : hasIdentity s = true)
    (hx : s.spdm.sessions.find? (fun y => y.id == x.id) = some x) :
    spdmServe m (some x.id) code r s = spdmInside m x.id x code r s := by
  have hmay : ¬ (spdmNeedsIdentity code = true ∧ (!hasIdentity s) = true) := by simp [hid]
  rw [spdmServe_connected hservice hversion hcode hstage, if_neg hmay, Option.bind_some, hx]
  rfl

end
end

/-! ### The requests of a connection -/

section
variable {s : State} {r : SpdmReq} {m : MPort}

theorem spdmCapabilities_early (h : (spdmConn s m).stage ≠ 1) : spdmCapabilities m r s = spdmError errUnexpected 0 s :=
  if_pos h

/-- CAPABILITIES: the flags, and 4,096 bytes as the transfer and the message size. -/
def capabilitiesBytes (s : State) : List Byte :=
  spdmHead 0x61 0 0 ++ [0x00, 15, 0x00, 0x00] ++ leBytes 4 (spdmFlags s) ++ leBytes 4 4096 ++ leBytes 4 4096

theorem spdmCapabilities_answered (h : (spdmConn s m).stage = 1) (hlen : r.body.length = 16) :
    spdmCapabilities m r s = (capabilitiesBytes s, modConn m (fun c => { c with
      stage := 2, vca := c.vca ++ spdmBytes 0xE1 r ++ capabilitiesBytes s }) s) := by
  rw [spdmCapabilities, if_neg (not_not.mpr h), if_neg (not_not.mpr hlen)]
  rfl

theorem spdmAlgorithms_early (h : (spdmConn s m).stage ≠ 2) : spdmAlgorithms m r s = spdmError errUnexpected 0 s :=
  if_pos h

theorem spdmAlgorithms_answered (h : (spdmConn s m).stage = 2)
    (hlen : r.body.length = 28 + 4 * (byteAt r.body 24 + byteAt r.body 25) + 4 * r.param1.toNat)
    (hfield : fieldAt r.body 0 2 = 4 + r.body.length) (hasym : bit (fieldAt r.body 4 4) 7 = true)
    (hhash : bit (fieldAt r.body 8 4) 1 = true) : ∃ tail, spdmAlgorithms m r s =
      (spdmHead 0x63 r.param1.toNat 0 ++ tail, modConn m (fun c => { c with
        stage := 3, vca := c.vca ++ spdmBytes 0xE3 r ++ (spdmHead 0x63 r.param1.toNat 0 ++ tail) }) s) := by
  have hmalformed : ¬ (r.body.length ≠ 28 + 4 * (byteAt r.body 24 + byteAt r.body 25) + 4 * r.param1.toNat ∨
      fieldAt r.body 0 2 ≠ 4 + r.body.length) := by tauto
  have hoffered : ¬ ((!bit (fieldAt r.body 4 4) 7) = true ∨ (!bit (fieldAt r.body 8 4) 1) = true) := by
    simp [hasym, hhash]
  unfold spdmAlgorithms
  dsimp only
  rw [if_neg (not_not.mpr h), if_neg hmalformed, if_neg hoffered]
  simp only [List.append_assoc]
  exact ⟨_, rfl⟩

theorem spdmHead_eq (code p1 : U8) : spdmHead code.toNat p1.toNat 0 = [0x13, code, p1, 0x00] := by
  simp [spdmHead, leBytes]

theorem spdmCertificate_answered (hlen : r.body.length = 4) (hslot : r.param1 = 0)
    (hoff : fieldAt r.body 0 2 < s.spdm.chain.length) : spdmCertificate m r s =
      let n := min (min (fieldAt r.body 2 2) 4088) (s.spdm.chain.length - fieldAt r.body 0 2)
      let rsp := spdmHead 0x02 0 0 ++ leBytes 2 n ++ leBytes 2 (s.spdm.chain.length - fieldAt r.body 0 2 - n) ++
        slice s.spdm.chain (fieldAt r.body 0 2) n
      (rsp, spdmKeepM1 m (spdmBytes 0x82 r) rsp s) := by
  have hvalid : ¬ (r.body.length ≠ 4 ∨ r.param1.toNat % 16 ≠ 0 ∨ s.spdm.chain.length ≤ fieldAt r.body 0 2) := by
    rw [hslot]
    rintro (h | h | h)
    · exact h hlen
    · exact h rfl
    · omega
  rw [spdmCertificate, if_neg hvalid]

theorem spdmSummary_none (s : State) : spdmSummary 0 s = (some [], s) := rfl

theorem spdmChallengeAuth_answered {nonce : List Byte} {t : State} (hkey : s.keys.keyState = 1)
    (hlen : r.body.length = 40) (h1 : r.param1 = 0) (h2 : r.param2 = 0) (hn : spdmNonce s = (some nonce, t)) :
    spdmChallengeAuth m r s = spdmRelease "responder-challenge_auth signing"
      ((spdmConn t m).vca ++ (spdmConn t m).m1 ++ spdmBytes 0x83 r)
      (spdmHead 0x03 0x00 0x01 ++ sha384 t.spdm.chain ++ nonce ++ [0x00, 0x00] ++ slice r.body 32 8)
      (fun sig s => (spdmHead 0x03 0x00 0x01 ++ sha384 t.spdm.chain ++ nonce ++ [0x00, 0x00] ++ slice r.body 32 8 ++ sig,
        modConn m (fun c => { c with m1 := [], l1 := [] }) s)) t := by
  have hvalid : ¬ (r.body.length ≠ 40 ∨ r.param1.toNat % 16 ≠ 0 ∨ (!summaryKind r.param2) = true) := by
    rw [h1, h2]
    rintro (h | h | h)
    · exact h hlen
    · exact h rfl
    · exact absurd h (by decide)
  have hloaded : ¬ s.keys.keyState = 2 := by rw [hkey]; decide
  have hnone : spdmSummary r.param2.toNat s = (some [], s) := by rw [h2]; exact spdmSummary_none s
  unfold spdmChallengeAuth
  rw [if_neg hvalid, if_neg hloaded, hnone]
  dsimp only
  rw [hn]
  simp only [List.append_nil]

end
/-! ### Nonces, scalars and signatures (R421) -/

theorem rawTake_sober (p : Port) (n : Nat) (s : State) : sober (rawTake p n s).2 = sober s := by
  unfold rawTake
  dsimp only
  split
  · split
    · split
      · next hgen =>
        exact (sober_modRandom _ _).trans (sober_drbgGenerate hgen)
      · rfl
    · split <;> rfl
  · split <;> rfl

theorem spdmRelease_working {context : String} {transcript body : List Byte}
    {done : List Byte → State → List Byte × State} {s : State} (h : s.pke.health.retired = false) :
    spdmRelease context transcript body done s = match spdmSign 2 (spdmSigned context (transcript ++ body)) s with
      | (.ok sig, s) => done sig s
      | (.busy, s) => spdmError errBusy 0 s
      | (.failed, s) => spdmError errUnspecified 0 s := if_neg (Bool.eq_false_iff.mp h)

section
variable {s : State} {r : SpdmReq} {m : MPort}

theorem spdmMeasurements_unsigned {ks : List Nat} {nonce : List Byte} {t : State} (h1 : r.param1 = 0)
    (hlen : r.body.length = 8) (hblocks : spdmBlocks r.param2.toNat = some ks)
    (hready : ∀ k ∈ ks, k ∉ s.spdm.pendingBlocks) (hn : spdmNonce s = (some nonce, t)) :
    spdmMeasurements m none r s =
      let record := ks.flatMap (spdmBlock t)
      let body := spdmHead 0x60 (if r.param2 = 0 then 25 else 0) 0 ++ leBytes 1 ks.length ++ leBytes 3 record.length ++
        record ++ nonce ++ [0x00, 0x00] ++ slice r.body 0 8
      (body, modConn m (fun c => { c with l1 := (spdmConn t m).l1 ++ spdmBytes 0xE0 r ++ body, m1 := [] }) t) := by
  have hsigned : r.param1.getLsbD 0 = false := by rw [h1]; rfl
  have hpending : ¬ (ks.any (fun k => s.spdm.pendingBlocks.contains k)) = true := by
    simpa using hready
  unfold spdmMeasurements
  dsimp only
  rw [hsigned, hlen, hblocks]
  dsimp only
  rw [if_neg fun h => Bool.false_ne_true h.1,
    if_neg fun h => h.elim (fun h8 => h8 rfl) fun h => Bool.false_ne_true h.1, if_neg fun h => Bool.false_ne_true h.1,
    if_neg hpending,
    hn]
  rfl

end

/-! ### KEY_EXCHANGE (R422) -/

/-- KEY_EXCHANGE_RSP without its signature and its verify data. -/
def keyExchangeBody (rspId : BitVec 16) (nonce : List Byte) (d : Nat) : List Byte :=
  spdmHead 0x64 0 0 ++ leBytes 2 rspId.toNat ++ [0x00, 0x00] ++ nonce ++ pubOf d ++
    leBytes 2 versionOpaque.length ++ versionOpaque

/-- The new session's id. -/
def keyExchangeId (r : SpdmReq) (rspId : BitVec 16) : U32 := BitVec.ofNat 32 (fieldAt r.body 0 2 + rspId.toNat * 2 ^ 16)

/-- The signed exchange: the session opens under its handshake keys. -/
def keyExchangeDone (m : MPort) (id : U32) (dhe before body sig : List Byte) (s : State) : List Byte × State :=
  let t := before ++ body ++ sig
  let (x, fin) := handshakeKeys dhe (sha384 t) { id := id, port := m.val, lastTick := s.now }
  let rsp := body ++ sig ++ hmacSha384 fin (sha384 t)
  (rsp, journalSession id 1 (modConn m (fun c => { c with m1 := [], l1 := [] })
    (modSpdm (fun y => { y with sessions := y.sessions ++ [{ x with transcript := before ++ rsp }] }) s)))

theorem spdmKeyExchange_answered {s : State} {r : SpdmReq} {m : MPort} {nonce dhe : List Byte} {d : Nat} {t u : State}
    (hkey : s.keys.keyState = 1) (hmin : 134 ≤ r.body.length) (hlen : r.body.length = 134 + fieldAt r.body 132 2)
    (h1 : r.param1 = 0) (h2 : r.param2 = 0) (hroom : s.spdm.sessions = []) (hn : spdmNonce (draw 16 s).2 = (some nonce, t))
    (hd : spdmScalar t = (some d, u)) (hdhe : ecdh d (slice r.body 36 96) = some dhe) (hu : u.spdm.sessions = []) :
    spdmKeyExchange m r s = spdmRelease "responder-key_exchange_rsp signing"
      ((spdmConn u m).vca ++ sha384 u.spdm.chain ++ spdmBytes 0xE4 r) (keyExchangeBody (draw 16 s).1 nonce d)
      (keyExchangeDone m (keyExchangeId r (draw 16 s).1) dhe
        ((spdmConn u m).vca ++ sha384 u.spdm.chain ++ spdmBytes 0xE4 r) (keyExchangeBody (draw 16 s).1 nonce d)) u := by
  have hvalid : ¬ (r.body.length < 134 ∨ r.body.length ≠ 134 + fieldAt r.body 132 2 ∨ r.param2 ≠ 0 ∨
      (!summaryKind r.param1) = true) := by
    rw [h1, h2]
    rintro (h | h | h | h)
    · omega
    · exact h hlen
    · exact h rfl
    · exact absurd h (by decide)
  have hloaded : ¬ s.keys.keyState = 2 := by rw [hkey]; decide
  have hspace : sessionRoom s = some s := by rw [sessionRoom, hroom, if_pos (by decide)]
  have hsum : spdmSummary r.param1.toNat (draw 16 s).2 = (some [], (draw 16 s).2) := by
    rw [h1]
    exact spdmSummary_none _
  unfold spdmKeyExchange
  dsimp only
  rw [if_neg hvalid, if_neg hloaded, hspace]
  dsimp only
  rw [hsum]
  dsimp only
  rw [hn]
  dsimp only
  rw [hd]
  dsimp only
  rw [hdhe]
  dsimp only
  rw [hu, List.any_nil, if_neg Bool.false_ne_true]
  simp only [List.append_nil]
  rfl

/-! ### The sessions of a state -/

/-- The session of an id. -/
def sessionOf (s : State) (id : U32) : Option Session := s.spdm.sessions.find? (fun y => y.id == id)

theorem find?_map_id {f : Session → Session} (hf : ∀ y, (f y).id = y.id) (i j : U32) (l : List Session) :
    (l.map (fun y => if y.id = i then f y else y)).find? (fun y => y.id == j) =
      if j = i then (l.find? (fun y => y.id == j)).map f else l.find? (fun y => y.id == j) := by
  have hid : (fun y : Session => y.id == j) ∘ (fun y => if y.id = i then f y else y) = fun y => y.id == j := by
    funext y
    by_cases h : y.id = i
    · simp only [Function.comp_apply, if_pos h, hf]
    · simp only [Function.comp_apply, if_neg h]
  rw [List.find?_map, hid]
  cases hfind : l.find? (fun y => y.id == j) with
  | none => simp
  | some y =>
    have hy : y.id = j := by simpa using List.find?_some hfind
    simp only [Option.map_some, hy]
    split <;> rfl

theorem find?_filter_id (i j : U32) (l : List Session) :
    (l.filter (fun y => y.id != i)).find? (fun y => y.id == j) =
      if j = i then none else l.find? (fun y => y.id == j) := by
  rw [List.find?_filter]
  split
  · next h =>
    subst h
    rw [List.find?_eq_none]
    intro y _
    simp
  · next h =>
    congr 1
    funext y
    by_cases hy : y.id = j
    · simp [hy, h]
    · simp [hy]

theorem sessionOf_mapped {f : Session → Session} (hf : ∀ y, (f y).id = y.id) (i : U32) (s : State) (j : U32) :
    sessionOf (modSpdm (fun d => { d with sessions := d.sessions.map (fun y => if y.id = i then f y else y) }) s) j =
      if j = i then (sessionOf s j).map f else sessionOf s j := find?_map_id hf i j _

theorem journalSession_spdm (id : U32) (event : Nat) (s : State) : (journalSession id event s).spdm = s.spdm := by
  rw [journalSession, journal_spdm]

theorem sessionOf_endSession (i : U32) (event : Nat) (s : State) (j : U32) :
    sessionOf (endSession i event s) j = if j = i then none else sessionOf s j := by
  rw [sessionOf, endSession, journalSession_spdm]
  exact find?_filter_id i j _

/-- A record sealed for a session counts it. -/
theorem sessionOf_queueResponse (m : MPort) (id : U32) (msg : List Byte) (s : State) (j : U32) :
    sessionOf (queueResponse m (some id) msg 0 0 false s) j =
      if j = id then (sessionOf s j).map (fun y => { y with rspCount := y.rspCount + 1 }) else sessionOf s j := by
  unfold queueResponse
  dsimp only
  cases hfind : s.spdm.sessions.find? (fun x => x.id == id) with
  | none =>
    have hseal : sealFor id msg s = (none, s) := by rw [sealFor, hfind]
    rw [hseal]
    dsimp only
    split
    · next h => rw [h, sessionOf, hfind, Option.map_none]
    · rfl
  | some x =>
    have hseal : sealFor id msg s = (some ([0x06] ++ sealRecord x.rspKey x.rspIv id x.rspCount msg),
        modSpdm (fun d => { d with
          sessions := d.sessions.map (fun y => if y.id = id then { y with rspCount := y.rspCount + 1 } else y) }) s) := by
      rw [sealFor, hfind]
    rw [hseal]
    exact sessionOf_mapped (f := fun y => { y with rspCount := y.rspCount + 1 }) (fun y => rfl) id s j

/-! ### FINISH and END_SESSION -/

theorem spdmHandle_session (m : MPort) (id : U32) (code : Nat) (r : SpdmReq) (s : State) :
    spdmHandle m (some id) code r 0 0 s = spdmAfter (some id) code (spdmServe m (some id) code r s).1
      (queueResponse m (some id) ([0x05] ++ (spdmServe m (some id) code r s).1) 0 0 false
        (spdmServe m (some id) code r s).2) := rfl

section
variable {t : State} {id : U32} {x : Session} {rsp : List Byte} (h : sessionOf t id = some x)
include h

theorem spdmAfter_finished (hrsp : byteAt rsp 1 = 0x65) : spdmAfter (some id) 0xE5 rsp t =
    modSpdm (fun y => { y with sessions := y.sessions.map (fun z =>
      if z.id = x.id then applicationKeys (sha384 x.transcript) z else z) }) t := by
  rw [sessionOf] at h
  rw [spdmAfter, Option.bind_some, h]
  exact if_pos ⟨rfl, hrsp⟩

theorem spdmAfter_failed (h1 : byteAt rsp 1 = 0x7F) (h2 : byteAt rsp 2 = 0x06) :
    spdmAfter (some id) 0xE5 rsp t = endSession x.id 3 t := by
  rw [sessionOf] at h
  rw [spdmAfter, Option.bind_some, h]
  dsimp only
  rw [if_neg (by rw [h1]; decide), if_pos ⟨rfl, h1, h2⟩]

theorem spdmAfter_ended (h1 : byteAt rsp 1 = 0x6C) : spdmAfter (some id) 0xEC rsp t = endSession x.id 2 t := by
  rw [sessionOf] at h
  rw [spdmAfter, Option.bind_some, h]
  dsimp only
  rw [if_neg (by simp), if_neg (by simp), if_pos ⟨rfl, h1⟩]

end

/-- The verify data of FINISH are right. -/
abbrev finishRight (x : Session) (r : SpdmReq) : Prop :=
  hmacSha384 x.finishKey (sha384 (x.transcript ++ spdmBytes 0xE5 { r with body := [] })) = r.body

section
variable {s : State} {r : SpdmReq} {m : MPort} {x : Session}

theorem spdmInside_finish (hnew : x.finished = false) :
    spdmInside m x.id x 0xE5 r s = spdmFinish (some x.id) r s := by
  have hadmits : spdmInSession x.finished 0xE5 = true := by rw [hnew]; rfl
  rw [spdmInside, if_neg (by rw [hadmits]; decide), if_neg (by decide), if_pos rfl]

theorem spdmInside_end (hold : x.finished = true) : spdmInside m x.id x 0xEC r s = spdmEnd (some x.id) r s := by
  have hadmits : spdmInSession x.finished 0xEC = true := by rw [hold]; rfl
  rw [spdmInside, if_neg (by rw [hadmits]; decide), if_neg (by decide), if_neg (by decide), if_pos rfl]

theorem spdmFinish_checked (hx : sessionOf s x.id = some x) (hnew : x.finished = false) (hlen : r.body.length = 48)
    (h1 : r.param1 = 0) : spdmFinish (some x.id) r s =
      if ¬ finishRight x r then spdmError 0x06 0 s
      else (spdmHead 0x65 0 0, modSpdm (fun y => { y with sessions := y.sessions.map (fun z =>
        if z.id = x.id then { z with
          transcript := x.transcript ++ spdmBytes 0xE5 { r with body := [] } ++ r.body ++ spdmHead 0x65 0 0 } else z) }) s) := by
  rw [sessionOf] at hx
  rw [spdmFinish, Option.bind_some, hx]
  dsimp only
  rw [if_neg (Bool.eq_false_iff.mp hnew), if_neg fun h => h.elim (fun h => h hlen) fun h => h h1]

theorem spdmEnd_answered (hbody : r.body = []) : spdmEnd (some x.id) r s = (spdmHead 0x6C 0 0, s) := by
  rw [spdmEnd, if_neg (by simp), if_neg (not_not.mpr hbody)]

theorem sessionOf_spdmError (code data : Nat) (s : State) (j : U32) :
    sessionOf (spdmError code data s).2 j = sessionOf s j := rfl

end

/-- The session after a FINISH whose verify data are right, its response sealed and its application keys not yet in force. -/
def finishedSession (x : Session) (r : SpdmReq) : Session :=
  { x with
    transcript := x.transcript ++ spdmBytes 0xE5 { r with body := [] } ++ r.body ++ spdmHead 0x65 0 0
    rspCount := x.rspCount + 1 }

theorem applicationKeys_id (th : List Byte) (y : Session) : (applicationKeys th y).id = y.id := rfl

/-- A FINISH whose verify data are right gives its session the application keys. -/
theorem finish_right {s : State} {r : SpdmReq} {x : Session} (hx : sessionOf s x.id = some x)
    (hserve : spdmServe r.port (some x.id) 0xE5 r s = spdmFinish (some x.id) r s) (hnew : x.finished = false)
    (hlen : r.body.length = 48) (h1 : r.param1 = 0) (hright : finishRight x r) (id : U32) :
    sessionOf (spdmHandle r.port (some x.id) 0xE5 r 0 0 s) id =
      if id = x.id then some (applicationKeys (sha384 (finishedSession x r).transcript) (finishedSession x r))
      else sessionOf s id := by
  have hfinish := spdmFinish_checked hx hnew hlen h1
  rw [if_neg (not_not.mpr hright)] at hfinish
  have hsealed : ∀ j, sessionOf (queueResponse r.port (some x.id) ([0x05] ++ spdmHead 0x65 0 0) 0 0 false
      (modSpdm (fun y => { y with sessions := y.sessions.map (fun z => if z.id = x.id then { z with
        transcript := x.transcript ++ spdmBytes 0xE5 { r with body := [] } ++ r.body ++ spdmHead 0x65 0 0 } else z) }) s)) j =
      if j = x.id then some (finishedSession x r) else sessionOf s j := fun j => by
    rw [sessionOf_queueResponse, sessionOf_mapped (f := fun z => { z with
      transcript := x.transcript ++ spdmBytes 0xE5 { r with body := [] } ++ r.body ++ spdmHead 0x65 0 0 }) fun y => rfl]
    by_cases hj : j = x.id
    · rw [if_pos hj, if_pos hj, if_pos hj, hj, hx]
      rfl
    · rw [if_neg hj, if_neg hj, if_neg hj]
  rw [spdmHandle_session, hserve, hfinish]
  dsimp only
  rw [spdmAfter_finished ((hsealed x.id).trans (if_pos rfl)) (by decide),
    sessionOf_mapped (applicationKeys_id (sha384 (finishedSession x r).transcript)), hsealed]
  by_cases hj : id = x.id
  · rw [if_pos (show id = (finishedSession x r).id from hj), if_pos hj, if_pos hj]
    rfl
  · rw [if_neg (show ¬ id = (finishedSession x r).id from hj), if_neg hj, if_neg hj]

/-- A FINISH whose verify data are wrong ends its session. -/
theorem finish_wrong {s : State} {r : SpdmReq} {x : Session} (hx : sessionOf s x.id = some x)
    (hserve : spdmServe r.port (some x.id) 0xE5 r s = spdmFinish (some x.id) r s) (hnew : x.finished = false)
    (hlen : r.body.length = 48) (h1 : r.param1 = 0) (hwrong : ¬ finishRight x r) (id : U32) :
    sessionOf (spdmHandle r.port (some x.id) 0xE5 r 0 0 s) id = if id = x.id then none else sessionOf s id := by
  have hfinish := spdmFinish_checked hx hnew hlen h1
  rw [if_pos hwrong] at hfinish
  have hhead : byteAt (spdmHead 0x7F 0x06 0) 1 = 0x7F ∧ byteAt (spdmHead 0x7F 0x06 0) 2 = 0x06 := by decide
  have herror : byteAt (spdmError 0x06 0 s).1 1 = 0x7F ∧ byteAt (spdmError 0x06 0 s).1 2 = 0x06 := hhead
  have hsealed : sessionOf (queueResponse r.port (some x.id) ([0x05] ++ (spdmError 0x06 0 s).1) 0 0 false
      (spdmError 0x06 0 s).2) x.id = some { x with rspCount := x.rspCount + 1 } := by
    rw [sessionOf_queueResponse, if_pos rfl, sessionOf_spdmError, hx]
    rfl
  rw [spdmHandle_session, hserve, hfinish, spdmAfter_failed hsealed herror.1 herror.2, sessionOf_endSession]
  by_cases hj : id = x.id
  · rw [if_pos hj, if_pos hj]
  · rw [if_neg hj, if_neg hj, sessionOf_queueResponse, if_neg hj, sessionOf_spdmError]

/-- END_SESSION ends its session. -/
theorem end_session {s : State} {r : SpdmReq} {x : Session} (hx : sessionOf s x.id = some x)
    (hserve : spdmServe r.port (some x.id) 0xEC r s = spdmEnd (some x.id) r s) (hbody : r.body = []) (id : U32) :
    sessionOf (spdmHandle r.port (some x.id) 0xEC r 0 0 s) id = if id = x.id then none else sessionOf s id := by
  have hsealed : sessionOf (queueResponse r.port (some x.id) ([0x05] ++ spdmHead 0x6C 0 0) 0 0 false s) x.id =
      some { x with rspCount := x.rspCount + 1 } := by
    rw [sessionOf_queueResponse, if_pos rfl, hx]
    rfl
  rw [spdmHandle_session, hserve, spdmEnd_answered hbody]
  dsimp only
  rw [spdmAfter_ended hsealed (by decide), sessionOf_endSession]
  by_cases hj : id = x.id
  · rw [if_pos hj, if_pos hj]
  · rw [if_neg hj, if_neg hj, sessionOf_queueResponse, if_neg hj]

/-- An SPDM request outside a session: served, its response queued. -/
theorem spdmRow_plain {s : State} {r : SpdmReq} (hport : servable s (portOfM r.port) = true)
    (hcredit : creditsFree (mportAt s r.port) ≠ 0) (code : Nat) : spdmRow code (fun _ => none) r s =
      .next (queueResponse r.port none ([0x05] ++ (spdmServe r.port none code r s).1) 0 0 false
        (spdmServe r.port none code r s).2) := by
  rw [spdmRow_served hport hcredit, spdmHandle_plain]

/-- What the nonce leaves of a state. -/
theorem spdmNonce_sober {s t : State} {nonce : List Byte} (h : spdmNonce s = (some nonce, t)) : sober t = sober s := by
  have hraw := rawTake_sober .l 32 s
  rw [show rawTake .l 32 s = (some nonce, t) from h] at hraw
  exact hraw

theorem spdmScalar_sober {s t : State} {d : Nat} (h : spdmScalar s = (some d, t)) : sober t = sober s := by
  have hw := sober_wireGenerate 3 58 s
  unfold spdmScalar at h
  split at h
  · next bs u hgen =>
    rw [hgen] at hw
    obtain ⟨-, rfl⟩ := Prod.mk.inj h
    exact hw
  · exact absurd (Prod.mk.inj h).1 (by simp)

/-- Settles O45: outside a session each request by the branch that serves it; inside one FINISH and END_SESSION by what
they leave of the sessions. -/
theorem spdmResponder : Obligations.SpdmResponder := by
  unfold Obligations.SpdmResponder
  refine ⟨fun s r hport hcredit hserv hver => ?outside, fun s r hport hcredit hserv hver hstage hid => ⟨?exchange,
    fun x hlast hx hnew hlen h1 => ?finish, fun x hlast hx hold hbody => ?ended⟩⟩
  case outside =>
    have hplain := spdmRow_plain hport hcredit
    have hserve : ∀ (code : Nat) (x : List Byte × State), spdmServe r.port none code r s = x →
        spdmRow code (fun _ => none) r s = .next (queueResponse r.port none ([0x05] ++ x.1) 0 0 false x.2) :=
      fun code x h => by rw [hplain, h]
    intro out c upTo keep
    refine ⟨fun rsp hrsp => ?version, fun hst hlen => ?capabilities, fun hst => ?capabilitiesEarly,
      fun hst hlen hfield hasym hhash => ?algorithms, fun hst => ?algorithmsEarly, fun hst hid => ?digests,
      fun hst hid hlen h1 hoff => ?certificate, fun hst hid => ⟨?_, ?_, ?_, ?_⟩,
      fun nonce t hst hkey hpke hlen h1 h2 hn => ?challenge,
      fun nonce t ks hst h1 hlen hblocks hready hn => ?measurements, fun code hcode => ?unlisted⟩
    case version =>
      subst hrsp
      exact hserve 0x84 _ (spdmServe_version hserv hver)
    case capabilities =>
      exact hserve 0xE1 _ ((spdmServe_capabilities hserv hver).trans (spdmCapabilities_answered hst hlen))
    case capabilitiesEarly =>
      exact hserve 0xE1 _ ((spdmServe_capabilities hserv hver).trans (spdmCapabilities_early hst))
    case algorithms =>
      obtain ⟨tail, htail⟩ := spdmAlgorithms_answered hst hlen hfield hasym hhash
      refine ⟨_, ?_, hserve 0xE3 _ ((spdmServe_algorithms hserv hver).trans htail)⟩
      rw [show (0x63 : Nat) = (0x63 : U8).toNat from rfl, spdmHead_eq]
      rfl
    case algorithmsEarly =>
      exact hserve 0xE3 _ ((spdmServe_algorithms hserv hver).trans (spdmAlgorithms_early hst))
    case digests =>
      exact hserve 0x81 _ (spdmServe_outside hserv hver (by decide) hst (Or.inr hid))
    case certificate =>
      exact hserve 0x82 _ ((spdmServe_outside hserv hver (by decide) hst (Or.inr hid)).trans
        (spdmCertificate_answered hlen h1 hoff))
    case refine_1 => exact hserve 0x81 _ (spdmServe_noIdentity hserv hver (by decide) hst none (by decide) hid)
    case refine_2 => exact hserve 0x82 _ (spdmServe_noIdentity hserv hver (by decide) hst none (by decide) hid)
    case refine_3 => exact hserve 0x83 _ (spdmServe_noIdentity hserv hver (by decide) hst none (by decide) hid)
    case refine_4 => exact hserve 0xE4 _ (spdmServe_noIdentity hserv hver (by decide) hst none (by decide) hid)
    case challenge =>
      have hsober := spdmNonce_sober hn
      have hspdm : t.spdm = s.spdm := sober_field State.spdm rfl rfl hsober
      have hworks : t.pke.health.retired = false := by rwa [sober_field State.pke rfl rfl hsober]
      have hid : hasIdentity s = true := by rw [hasIdentity, hkey]; rfl
      refine hserve 0x83 _ (((spdmServe_outside (code := 0x83) hserv hver (by decide) hst (Or.inr hid)).trans
        (spdmChallengeAuth_answered hkey hlen h1 h2 hn)).trans ?_)
      rewrite [spdmRelease_working hworks, hspdm]
      rcases spdmSign 2 _ t with ⟨sig | _ | _, u⟩ <;> rfl
    case measurements =>
      exact hserve 0xE0 _ ((spdmServe_outside hserv hver (by decide) hst (Or.inl (by decide))).trans
        (spdmMeasurements_unsigned h1 hlen hblocks hready hn))
    case unlisted =>
      have hout : spdmCodes.contains code.toNat = false := by simpa using hcode
      have hrow : exec (.spdmUnsupportedRequest r code) s = spdmRow code.toNat (fun _ => none) r s :=
        if_neg (Bool.eq_false_iff.mp hout)
      exact hrow.trans (hserve code.toNat _ (spdmServe_unlisted hserv hver hout))
  case exchange =>
    intro nonce d dhe t u hkey hpke hmin hlen h1 h2 hroom hn hd hdhe hnone
    dsimp only
    have hworks : u.pke.health.retired = false := by
      rwa [sober_field State.pke rfl rfl (spdmScalar_sober hd), sober_field State.pke rfl rfl (spdmNonce_sober hn)]
    have hserved := ((spdmServe_outside (code := 0xE4) hserv hver (by decide) hstage (Or.inr hid)).trans
      (spdmKeyExchange_answered hkey hmin hlen h1 h2 hroom hn hd hdhe hnone)).trans (spdmRelease_working hworks)
    have hrow : exec (.keyExchange r) s = _ := spdmRow_plain hport hcredit 0xE4
    rewrite [hrow, hserved]
    unfold keyExchangeDone keyExchangeBody
    rcases spdmSign 2 _ u with ⟨sig | _ | _, v⟩ <;> rfl
  case finish =>
    have hserve : spdmServe r.port (some x.id) 0xE5 r s = spdmFinish (some x.id) r s := by
      rw [spdmServe_inside hserv hver (by decide) hstage hid hx, spdmInside_finish hnew]
    have hrow : exec (.finish r) s = .next (spdmHandle r.port (some x.id) 0xE5 r 0 0 s) := by
      have hrow := spdmRow_served hport hcredit 0xE5 (lastSession r.port false)
      rw [hlast] at hrow
      exact hrow
    dsimp only
    refine ⟨_, hrow, fun hright => ?_, fun hwrong => ?_, fun id hne => ?_, spdmHandle_ground _ _ _ _ _ _ _⟩
    · exact ⟨_, (finish_right hx hserve hnew hlen h1 hright x.id).trans (if_pos rfl), rfl, rfl, rfl, rfl, rfl, rfl⟩
    · exact (finish_wrong hx hserve hnew hlen h1 hwrong x.id).trans (if_pos rfl)
    · by_cases hright : finishRight x r
      · exact (finish_right hx hserve hnew hlen h1 hright id).trans (if_neg hne)
      · exact (finish_wrong hx hserve hnew hlen h1 hright id).trans (if_neg hne)
  case ended =>
    have hserve : spdmServe r.port (some x.id) 0xEC r s = spdmEnd (some x.id) r s := by
      rw [spdmServe_inside hserv hver (by decide) hstage hid hx, spdmInside_end hold]
    have hrow : exec (.endSession r) s = .next (spdmHandle r.port (some x.id) 0xEC r 0 0 s) := by
      have hrow := spdmRow_served hport hcredit 0xEC (lastSession r.port true)
      rw [hlast] at hrow
      exact hrow
    refine ⟨_, hrow, ?_, fun id hne => ?_, spdmHandle_ground _ _ _ _ _ _ _⟩
    · exact (end_session hx hserve hbody x.id).trans (if_pos rfl)
    · exact (end_session hx hserve hbody id).trans (if_neg hne)
end Sys2Proof.Proofs

end

section
/-! Packets, responses and secured messages (O53) -/

namespace Sys2Proof.Proofs
open Sys2Proof Sys2Proof.Machine Sys2Proof.Laws
set_option maxRecDepth 4000

/-! ### The state of a management port -/

@[simp] theorem mportAt_modMport_self (m : MPort) (f : MgmtPort → MgmtPort) (s : State) :
    mportAt (modMport m f s) m = f (mportAt s m) := by
  simp [mportAt, modMport]

theorem modMport_modMport (m : MPort) (f g : MgmtPort → MgmtPort) (s : State) :
    modMport m f (modMport m g s) = modMport m (fun x => f (g x)) s := by
  simp [modMport]

theorem modMport_eq_of {m : MPort} {f g : MgmtPort → MgmtPort} {s : State} (h : f (mportAt s m) = g (mportAt s m)) :
    modMport m f s = modMport m g s := by
  unfold modMport
  exact congrArg (fun x : MgmtPort => ({ s with mports := s.mports.set m.val x m.isLt } : State)) h

theorem modMport_same {m : MPort} {f : MgmtPort → MgmtPort} {s : State} (h : f (mportAt s m) = mportAt s m) :
    modMport m f s = s := by
  have hset : s.mports.set m.val (f s.mports[m]) m.isLt = s.mports := by
    have hf : f s.mports[m] = s.mports[m] := h
    rw [hf]
    simp
  unfold modMport
  rw [hset]

/-- With nothing assembled waiting the runtime takes no message. -/
theorem serveLink_idle {m : MPort} {s : State} (h : (mportAt s m).rx = []) : serveLink m s = s := by
  rw [serveLink, h]
  rfl

/-! ### Packets (R515, R516, R520) -/

theorem exec_mctpPacket_silent {s : State} {m : MPort} (ok : Bool) (pkt : List Byte) (h : portUp s m = false) :
    exec (.mctpPacket m ok pkt) s = .next (nack m s) := if_pos (by rw [h]; rfl)

theorem exec_responseRead_silent {s : State} {m : MPort} (h : portUp s m = false) :
    exec (.responseRead m) s = .next (nack m s) := if_pos (by rw [h]; rfl)

section
variable {s : State} {m : MPort} {pkt : List Byte} (hup : portUp s m = true) (hrx : (mportAt s m).rx = [])
include hup hrx

theorem exec_mctpPacket_corrupt : exec (.mctpPacket m false pkt) s =
    .next (modMport m (fun x => { x with crcErrors := satInc x.crcErrors }) (acks m [] s)) := by
  change execMctpPacket m false pkt s = _
  rw [execMctpPacket, if_neg (by rw [hup]; decide), serveLink_idle hrx]
  dsimp only
  rw [hrx, if_neg (by decide), if_pos (show (!false) = true from rfl)]

theorem exec_mctpPacket_sound (hfits : packetFits s m pkt = true) : exec (.mctpPacket m true pkt) s =
    .next (assemble m (bit (byteAt pkt 3) 7) (bit (byteAt pkt 3) 6) (bits (byteAt pkt 3) 5 4) (byteAt pkt 3 % 8)
      (byteAt pkt 2) (pkt.drop 4) (acks m [] s)) := by
  have hfits' : packetFits (acks m [] s) m pkt = true := by
    rw [packetFits, acks, mportAt_modMport_self]
    exact hfits
  change execMctpPacket m true pkt s = _
  rw [execMctpPacket, if_neg (by rw [hup]; decide), serveLink_idle hrx]
  dsimp only
  rw [hrx, if_neg (by decide), if_neg (by decide), if_neg (by rw [hfits']; decide)]

end

section
variable {s : State} {m : MPort} {seq tag src : Nat} {data : List Byte}

/-- The first packet of a longer message. -/
theorem assemble_first (h : (mportAt s m).partialMsg = none) : assemble m true false seq tag src data s =
    modMport m (fun x => { x with partialMsg := some (data.take 4112, tag, (seq + 1) % 4, src) }) s := by
  rw [assemble, h]
  rfl

/-- A packet that joins its message and does not end it. -/
theorem assemble_joined {bs : List Byte} (h : (mportAt s m).partialMsg = some (bs, tag, seq, src)) :
    assemble m false false seq tag src data s = modMport m (fun x => { x with
      partialMsg := some ((bs ++ data).take 4112, tag, (seq + 1) % 4, src) }) s := by
  simp only [assemble, h, Bool.false_and, Bool.false_eq_true, if_false, and_self, if_true, keepMsg]

/-- A packet out of order discards the partial message. -/
theorem assemble_disordered {bs : List Byte} {q : Nat} (eom : Bool) (h : (mportAt s m).partialMsg = some (bs, tag, q, src))
    (hq : q ≠ seq) : assemble m false eom seq tag src data s = dropPartial m s := by
  simp only [assemble, h, Bool.false_and, Bool.false_eq_true, if_false, hq, false_and, and_false, Option.isSome_some,
    if_true]

end

theorem exec_mgmtAssemblyExpiry_partial {s : State} {m : MPort} (hclk : s.refclk = true) (hpor : s.porN = true)
    (h : (mportAt s m).partialMsg.isSome = true) :
    exec (.mgmtAssemblyExpiry m) s = .next (timeoutExpired 13 (dropPartial m s)) := by
  change execMgmtAssemblyExpiry m s = _
  rw [execMgmtAssemblyExpiry, if_pos ⟨hclk, hpor⟩, assemblyExpire, if_pos h]

/-! ### Responses (R515, R516, R528, R529) -/

section
variable {s : State} {m : MPort} (hup : portUp s m = true) (hrx : (mportAt s m).rx = [])
  (hrefusal : (mportAt s m).refusal = none)
include hup hrx hrefusal

/-- The bytes of a response's next packet on the bus. -/
def responseOut (x : MgmtPort) (r : Response) : List Byte := (busRead x (some (responsePacket x.eid r))).getD []

theorem exec_responseRead_more {r : Response} {rs : List Response} (hresp : (mportAt s m).responses = r :: rs)
    (hmore : 64 * (r.sent + 1) < r.msg.length) : exec (.responseRead m) s =
      .next (modMport m (fun y => { y with responses := { r with sent := r.sent + 1 } :: y.responses.drop 1 })
        (acks m (responseOut (mportAt s m) r) s)) := by
  have hnext : nextResponse (mportAt s m) = some (false, r) := by rw [nextResponse, hrefusal, hresp]
  change execResponseRead m s = _
  rw [execResponseRead, if_neg (by rw [hup]; decide), serveLink_idle hrx]
  dsimp only
  rw [hnext]
  dsimp only
  rw [if_neg (Nat.not_le.mpr hmore)]
  rfl

theorem exec_responseRead_last {r : Response} {rs : List Response} (hresp : (mportAt s m).responses = r :: rs)
    (hlast : r.msg.length ≤ 64 * (r.sent + 1)) (hplain : r.ofCommit = false) : exec (.responseRead m) s =
      .next (modMport m (fun y => { y with responses := y.responses.drop 1 })
        (acks m (responseOut (mportAt s m) r) s)) := by
  have hnext : nextResponse (mportAt s m) = some (false, r) := by rw [nextResponse, hrefusal, hresp]
  have hidle : ∀ bs, (mportAt (modMport m (fun y => { y with responses := y.responses.drop 1 }) (acks m bs s)) m).rx = [] :=
    fun bs => by rw [mportAt_modMport_self, acks, mportAt_modMport_self]; exact hrx
  have hgone : ∀ t, responseGone r t = t := fun t => if_neg (Bool.eq_false_iff.mp hplain)
  change execResponseRead m s = _
  rw [execResponseRead, if_neg (by rw [hup]; decide), serveLink_idle hrx]
  dsimp only
  rw [hnext]
  dsimp only
  rw [if_pos hlast, hgone]
  exact congrArg Host.Outcome.next (serveLink_idle (hidle _))

theorem exec_responseRead_i2c {bs : List Byte} (hresp : (mportAt s m).responses = [])
    (hbus : busRead (mportAt s m) none = some bs) : exec (.responseRead m) s = .next (acks m bs s) := by
  have hnext : nextResponse (mportAt s m) = none := by rw [nextResponse, hrefusal, hresp]
  change execResponseRead m s = _
  rw [execResponseRead, if_neg (by rw [hup]; decide), serveLink_idle hrx]
  dsimp only
  rw [hnext]
  dsimp only
  rw [hbus]

theorem exec_responseRead_i3c (hresp : (mportAt s m).responses = []) (hbus : busRead (mportAt s m) none = none) :
    exec (.responseRead m) s = .next (nack m s) := by
  have hnext : nextResponse (mportAt s m) = none := by rw [nextResponse, hrefusal, hresp]
  change execResponseRead m s = _
  rw [execResponseRead, if_neg (by rw [hup]; decide), serveLink_idle hrx]
  dsimp only
  rw [hnext]
  dsimp only
  rw [hbus]

end

/-- An I2C read with no response pending returns a count of 0 and its PEC. -/
theorem busRead_i2c {x : MgmtPort} (h : x.mode = 0) : ∃ pec, busRead x none = some [0x00, pec] :=
  ⟨_, if_pos h⟩

theorem busRead_i3c {x : MgmtPort} (h : x.mode ≠ 0) : busRead x none = none := if_neg h

theorem exec_responseExpiry_plain {s : State} {m : MPort} {r : Response} {rs : List Response} (hclk : s.refclk = true)
    (hpor : s.porN = true) (hrx : (mportAt s m).rx = []) (hresp : (mportAt s m).responses = r :: rs)
    (hplain : r.ofCommit = false) : exec (.responseExpiry m) s = .next (modMport m (fun x => { x with
      responses := rs, respExpired := satInc x.respExpired }) s) := by
  have hgone : ∀ t, responseGone r t = t := fun t => if_neg (Bool.eq_false_iff.mp hplain)
  change execResponseExpiry m s = _
  rw [execResponseExpiry, if_neg (by rw [hclk, hpor]; decide), hresp]
  dsimp only
  rw [hgone]
  exact congrArg Host.Outcome.next (serveLink_idle (by rw [mportAt_modMport_self]; exact hrx))

/-! ### Secured messages (R422, R423) -/

theorem fieldAt_id (id : U32) (rest : List Byte) :
    BitVec.ofNat 32 (fieldAt ([0x06] ++ leBytes 4 id.toNat ++ rest) 1 4) = id := by
  refine BitVec.eq_of_toNat_eq ?_
  have hid := id.isLt
  simp only [fieldAt, slice, leBytes, leNat, List.cons_append, List.nil_append, List.drop_succ_cons, List.drop_zero,
    List.take_succ_cons, List.take_zero, List.length_cons, List.length_nil, Nat.sub_self, List.replicate_zero,
    List.append_nil, BitVec.toNat_ofNat]
  omega

theorem portBusy_link (s : State) (m : MPort) : portBusy s (portOfM m) = ((portRegs s (portOfM m)).faWait.isSome ||
    s.update.act.any (fun a => a.confirmPort == some (portOfM m)) || (mportAt s m).current.isSome) := by
  have hport : mportOf (portOfM m) = some m := by
    unfold portOfM
    split
    · next h => rw [h]; rfl
    · next h => exact congrArg some (Fin.ext (by have := m.isLt; have : m.val ≠ 0 := fun hv => h (Fin.ext hv); omega))
  rw [portBusy, hport]

theorem portBusy_modMport {m : MPort} {f : MgmtPort → MgmtPort} {s : State}
    (hf : (f (mportAt s m)).current = (mportAt s m).current) :
    portBusy (modMport m f s) (portOfM m) = portBusy s (portOfM m) := by
  rw [portBusy_link, portBusy_link, mportAt_modMport_self, hf]
  rfl

/-- A message on an idle port is taken at once. -/
theorem enqueue_idle {m : MPort} {x : RxMsg} {s : State} (hrx : (mportAt s m).rx = [])
    (hbusy : portBusy s (portOfM m) = false) : enqueue m x s = serveOne m x s := by
  have hone : (mportAt (modMport m (fun y => { y with rx := y.rx ++ [x] }) s) m).rx = [x] := by
    rw [mportAt_modMport_self, hrx]
    rfl
  have hfree : portBusy (modMport m (fun y => { y with rx := y.rx ++ [x] }) s) (portOfM m) = false := by
    rw [portBusy_modMport (by rfl)]
    exact hbusy
  have hback : modMport m (fun y => { y with rx := [] }) (modMport m (fun y => { y with rx := y.rx ++ [x] }) s) = s := by
    rw [modMport_modMport]
    exact modMport_same (by rw [← hrx])
  rw [enqueue, serveLink, hone, List.length_singleton, serveRx, if_neg (by rw [hfree]; decide), hone]
  dsimp only
  rw [hback]
  rfl

theorem exec_securedMessage_served {s : State} {m : MPort} (id : U32) (record : List Byte)
    (hport : servable s (portOfM m) = true) (hrx : (mportAt s m).rx = []) (hcredit : creditsFree (mportAt s m) ≠ 0) :
    exec (.securedMessage m id record) s = .next (securedServe m id record 0 0 s) := by
  have hbusy : portBusy s (portOfM m) = false := by
    simp only [servable, Bool.and_eq_true, Bool.not_eq_true'] at hport
    exact hport.2
  have hserve : serveOne m { msg := [0x06] ++ leBytes 4 id.toNat ++ record, tag := 0, src := 0 } s =
      securedServe m (BitVec.ofNat 32 (fieldAt ([0x06] ++ leBytes 4 id.toNat ++ record) 1 4)) record 0 0 s := rfl
  change execSecuredMessage m id record s = _
  rw [execSecuredMessage, if_neg (by rw [hport]; decide)]
  have hreceive : receiveMsg m { msg := [0x06] ++ leBytes 4 id.toNat ++ record, tag := 0, src := 0 } s =
      if creditsFree (mportAt s m) = 0 then spdmRefuse m 0 0 s
      else enqueue m { msg := [0x06] ++ leBytes 4 id.toNat ++ record, tag := 0, src := 0 } s := rfl
  rw [hreceive, if_neg hcredit, enqueue_idle hrx hbusy, hserve, fieldAt_id]

section
variable {s : State} {m : MPort} {id : U32} {record : List Byte}

theorem securedServe_unknown (h : s.spdm.sessions.find? (fun x => x.id == id && x.port == m.val) = none) :
    securedServe m id record 0 0 s = s := by
  rw [securedServe, h]

variable {x : Session} (h : s.spdm.sessions.find? (fun x => x.id == id && x.port == m.val) = some x)
  (hcipher : s.cipherHealth.retired = false)
include h hcipher

theorem securedServe_closed (hopen : openRecord x record = none) : securedServe m id record 0 0 s = s := by
  rw [securedServe, h]
  dsimp only
  rw [if_neg (Bool.eq_false_iff.mp hcipher), hopen]

theorem securedServe_spdm {v c p1 p2 : Byte} {body : List Byte}
    (hopen : openRecord x record = some (0x05 :: v :: c :: p1 :: p2 :: body)) :
    securedServe m id record 0 0 s = spdmHandle m (some id) c.toNat
      { port := m, version := v, param1 := p1, param2 := p2, body := body } 0 0
      (modSpdm (fun d => { d with sessions := d.sessions.map (fun (y : Session) =>
        if y.id = id then { y with reqCount := y.reqCount + 1, lastTick := s.now } else y) }) s) := by
  rw [securedServe, h]
  dsimp only
  rw [if_neg (Bool.eq_false_iff.mp hcipher), hopen]
  rfl

end

theorem packetFits_length {s : State} {m : MPort} {pkt : List Byte} (h : packetFits s m pkt = true) :
    (pkt.drop 4).length ≤ 4112 := by
  simp only [packetFits, Bool.and_eq_true, decide_eq_true_eq] at h
  obtain ⟨⟨⟨⟨-, hlen⟩, -⟩, -⟩, -⟩ := h
  rw [List.length_drop]
  omega

/-- Settles O53: a packet by what it finds of its message, a read by the response it finds, a secured message by what
its record opens to. -/
theorem linkMessages : Obligations.LinkMessages := by
  unfold Obligations.LinkMessages
  refine ⟨⟨fun s m pkt hup hrx => ⟨?corrupt, fun hfits hsom heom hnone => ?first, fun bs hfits hsom heom hpart => ?joined,
      fun bs q hfits hsom hpart hq => ?disordered⟩,
    fun s m ok pkt hdown => ⟨exec_mctpPacket_silent ok pkt hdown, exec_responseRead_silent hdown⟩,
    fun s m hclk hpor hpart => exec_mgmtAssemblyExpiry_partial hclk hpor hpart,
    fun s m hup hrx hrefusal => ⟨fun r rs hresp => ⟨fun hmore => ?more, fun hlast hplain => ?last⟩,
      fun hresp hmode => ?i2c, fun hresp hmode => ?i3c⟩,
    fun s m r rs hclk hpor hrx hresp hplain => exec_responseExpiry_plain hclk hpor hrx hresp hplain⟩,
    fun s m id record hport hrx hcredit => ⟨fun hnone => ?unknown, fun x hx hcipher => ⟨fun hopen => ?closed,
      fun v c p1 p2 body hopen => ?spdm⟩⟩⟩
  case corrupt => rw [exec_mctpPacket_corrupt hup hrx, acks, modMport_modMport]
  case first =>
    rw [exec_mctpPacket_sound hup hrx hfits, hsom, heom, assemble_first (by rw [acks, mportAt_modMport_self]; exact hnone),
      acks, modMport_modMport, List.take_of_length_le (packetFits_length hfits)]
  case joined =>
    rw [exec_mctpPacket_sound hup hrx hfits, hsom, heom,
      assemble_joined (by rw [acks, mportAt_modMport_self]; exact hpart), acks, modMport_modMport]
  case disordered =>
    rw [exec_mctpPacket_sound hup hrx hfits, hsom,
      assemble_disordered _ (by rw [acks, mportAt_modMport_self]; exact hpart) hq, dropPartial, acks, modMport_modMport]
  case more =>
    rw [exec_responseRead_more hup hrx hrefusal hresp hmore, acks, modMport_modMport]
    exact congrArg Host.Outcome.next (modMport_eq_of (by rw [hresp]; rfl))
  case last =>
    rw [exec_responseRead_last hup hrx hrefusal hresp hlast hplain, acks, modMport_modMport]
    exact congrArg Host.Outcome.next (modMport_eq_of (by rw [hresp]; rfl))
  case i2c =>
    obtain ⟨pec, hbus⟩ := busRead_i2c hmode
    refine ⟨_, exec_responseRead_i2c hup hrx hrefusal hresp hbus, ?_, ?_, ?_, ?_⟩
    · rw [acks, mportAt_modMport_self]
    · rw [acks, mportAt_modMport_self]
      rfl
    · rw [acks, mportAt_modMport_self]
      rfl
    · rw [acks, modMport_ground]
  case i3c => exact exec_responseRead_i3c hup hrx hrefusal hresp (busRead_i3c hmode)
  case unknown => rw [exec_securedMessage_served id record hport hrx hcredit, securedServe_unknown hnone]
  case closed => rw [exec_securedMessage_served id record hport hrx hcredit, securedServe_closed hx hcipher hopen]
  case spdm => rw [exec_securedMessage_served id record hport hrx hcredit, securedServe_spdm hx hcipher hopen]
end Sys2Proof.Proofs

end

section
/-! Field access and the test range (O55) -/

namespace Sys2Proof.Proofs
open Sys2Proof Sys2Proof.Machine Sys2Proof.Laws
set_option maxRecDepth 4000

/-! ### Field access (R24 to R27) -/

/-- An admitted block read goes on where its count is in range. -/
theorem blockRequest_admitted {s : State} {p : Port} {i sub count : Nat} (h : admitted s p .readBlock i sub 0 = true)
    (h1 : 1 ≤ count) (hmax : count ≤ 4094) : blockRequest p i sub count s = (eOk, s) := by
  obtain ⟨-, hwhole, hcheck⟩ := admitted_iff.mp h
  have hrange : ¬ (count = 0 ∨ 4094 < count) := by omega
  have hrequest : request p .readBlock i sub 0 s = (eOk, s) := by
    rw [request, fabricWord_whole hwhole]
    dsimp only
    rw [if_neg Bool.false_ne_true, hcheck]
  rw [blockRequest, hrequest]
  dsimp only
  rw [if_neg fun hbad => hrange hbad.2]

section
variable {s : State} {p : Port} {off : U40} {n : U16} (hadm : admitted s p .readBlock 0xD000 1 0 = true)
  (h1 : 1 ≤ n.toNat) (hmax : n.toNat ≤ 4094)
include hadm h1 hmax

theorem exec_faWindowRead_answered {c : U8} {d : List Byte} {t : State}
    (hrule : faReadRule p off.toNat n.toNat s = (some (c, d), t)) :
    exec (.faWindowRead p off n) s = .next (answer p c d t) := by
  obtain ⟨hport, -, -⟩ := admitted_iff.mp hadm
  change execFaWindowRead p off n s = _
  rw [execFaWindowRead, if_neg (by rw [hport]; decide), blockRequest_admitted hadm h1 hmax]
  dsimp only
  rw [if_neg (not_not.mpr rfl), hrule]

theorem exec_faWindowRead_waits {t : State} (hrule : faReadRule p off.toNat n.toNat s = (none, t)) :
    exec (.faWindowRead p off n) s = .next t := by
  obtain ⟨hport, -, -⟩ := admitted_iff.mp hadm
  change execFaWindowRead p off n s = _
  rw [execFaWindowRead, if_neg (by rw [hport]; decide), blockRequest_admitted hadm h1 hmax]
  dsimp only
  rw [if_neg (not_not.mpr rfl), hrule]

end

section
variable {s : State} {p : Port} {off n : Nat}

theorem faReadRule_outside (h : faAddress s p off n ≠ eOk) :
    faReadRule p off n s = (some (faAddress s p off n, []), s) := if_pos h

variable (ha : faAddress s p off n = eOk)
include ha

theorem faReadRule_denied (hr : faRights s p = false) : faReadRule p off n s = (some (eAccess, []), s) := by
  rw [faReadRule, if_neg (not_not.mpr ha), if_pos (by rw [hr]; rfl)]

variable (hr : faRights s p = true) (hspan : off + n ≤ 2 ^ 32)
include hr hspan

theorem faReadRule_flash (hsp : faSpace (portRegs s p).faBase < 0x0C) : faReadRule p off n s =
    if (chanAt s (spaceChan (faSpace (portRegs s p).faBase))).eff = .off ∨
        (chanAt s (spaceChan (faSpace (portRegs s p).faBase))).eff = .retired then (some (eState, []), s)
    else (none, kickField p (modPort p (fun r => { r with faWait := some (spaceChan (faSpace (portRegs s p).faBase),
      spaceCs (faSpace (portRegs s p).faBase), faOffset (portRegs s p).faBase + off, n) }) s)) := by
  unfold faReadRule
  dsimp only
  rw [if_neg (not_not.mpr ha), if_neg (by rw [hr]; decide), if_neg (Nat.not_lt.mpr hspan), if_pos hsp]

theorem faReadRule_vault (hsp : faSpace (portRegs s p).faBase = 0x10) : faReadRule p off n s =
    if (!vaultOnline s) = true ∨ s.keys.keyState = 2 then (some (eNotReady, []), s)
    else faCount (if (dataFabric s).1 then eIntegrity else eOk, if (dataFabric s).1 then [] else
      Mem.readN 0 (dataFabric s).2.vault.user (faOffset (portRegs s p).faBase * 512 + off) n, (dataFabric s).2) := by
  unfold faReadRule
  dsimp only
  rw [if_neg (not_not.mpr ha), if_neg (by rw [hr]; decide), if_neg (Nat.not_lt.mpr hspan), if_neg (by omega), if_pos hsp]

end

theorem dataFabric_whole {s : State} (h : flipsOf s 6 0 = 0) : dataFabric s = (false, s) := by
  simp [dataFabric, readWord, h]

theorem faReadRule_sectors {s : State} {p : Port} {off n : Nat} (ha : faAddress s p off n = eOk)
    (hr : faRights s p = true) (hspan : off + n ≤ 2 ^ 32) (hsp : faSpace (portRegs s p).faBase = 0x10)
    (hv : vaultOnline s = true) (hk : s.keys.keyState ≠ 2) (hwhole : flipsOf s 6 0 = 0) : faReadRule p off n s =
      (some (eOk, Mem.readN 0 s.vault.user (faOffset (portRegs s p).faBase * 512 + off) n),
        { s with faReads := satInc s.faReads }) := by
  have hready : ¬ ((!vaultOnline s) = true ∨ s.keys.keyState = 2) := by
    rintro (h | h)
    · rw [hv] at h
      exact absurd h (by decide)
    · exact hk h
  rw [faReadRule_vault ha hr hspan hsp, if_neg hready, dataFabric_whole hwhole]
  rfl

/-! ### The end of a waiting read's time -/

theorem queueResponse_ports (m : MPort) (session : Option U32) (msg : List Byte) (tag dest : Nat) (c : Bool) (s : State) :
    (queueResponse m session msg tag dest c s).ports = s.ports := by
  unfold queueResponse
  dsimp only
  split
  · rfl
  · next id =>
    unfold sealFor
    split
    · next hfind =>
      split at hfind
      · exact absurd (Prod.mk.inj hfind).1 (by simp)
      · obtain ⟨-, rfl⟩ := Prod.mk.inj hfind
        rfl
    · next hfind =>
      split at hfind
      · obtain ⟨-, rfl⟩ := Prod.mk.inj hfind
        rfl
      · exact absurd (Prod.mk.inj hfind).1 (by simp)

theorem answerLate_ports (p : Port) (code : U8) (data : List Byte) (s : State) :
    (answerLate p code data s).ports = (answer p code data s).ports := by
  unfold answerLate
  dsimp only
  split
  · rfl
  · split
    · rw [deliver, queueResponse_ports, modMport_ports]
    · rfl

theorem portRegs_congr {s t : State} (h : t.ports = s.ports) (p : Port) : portRegs t p = portRegs s p := by
  rw [portRegs, h, portRegs]

/-- What a waiting read's expiry leaves in its port. -/
theorem portRegs_faReadExpired (p : Port) (s : State) :
    portRegs (finishAll (answerLate p eBusy [] (dropField p s))) p =
      { portRegs (dropField p s) p with lastCode := eBusy, lastData := [] } := by
  rw [portRegs_congr (finishAll_ports _), portRegs_congr (answerLate_ports p eBusy [] (dropField p s)), answer,
    portRegs_modPort]

theorem portRegs_dropField_faWait (p : Port) (s : State) : (portRegs (dropField p s) p).faWait = none := by
  rw [dropField, portRegs_modPort]

theorem exec_faReadExpiry_waiting {s : State} {p : Port} (h : (portRegs s p).faWait.isSome = true) :
    exec (.faReadExpiry p) s = .next (finishAll (answerLate p eBusy [] (dropField p s))) := if_pos h

theorem exec_faReadExpiry_idle {s : State} {p : Port} (h : (portRegs s p).faWait = none) :
    exec (.faReadExpiry p) s = .next s := if_neg (by rw [h]; decide)

/-! ### The test range (R28 to R31) -/

theorem exec_bist_admitted {s : State} {p : Port} {m : Fin 8} (pass : Bool)
    (h : admitted s p .exec (0xE010 + m.val) 0 1 = true) :
    exec (.bist p m pass) s = .next (reply p (bistRule m pass s).1 (bistRule m pass s).2) :=
  execOp_admitted (rule := bistRule m pass) h

theorem exec_inject_admitted {s : State} {p : Port} {m : Fin 8} (h : admitted s p .exec (0xE010 + m.val) 4 1 = true) :
    exec (.inject p m) s = .next (reply p (injectRule m s).1 (injectRule m s).2) :=
  execOp_admitted (rule := injectRule m) h

theorem exec_unitTest_admitted {s : State} {p : Port} (code : U8) (pass : Bool)
    (h : admitted s p .exec 0xE002 1 1 = true) :
    exec (.unitTest p code pass) s = .next (reply p (unitTestRule p code pass s).1 (unitTestRule p code pass s).2) :=
  execOp_admitted (rule := unitTestRule p code pass) h

theorem wipeMemory_upsets (m : Nat) (s : State) :
    (wipeMemory m s).upsets = s.upsets.filter (fun u => u.mem.val != m) := by
  unfold wipeMemory
  dsimp only
  split <;> rfl

theorem wipeMemory_bistResult (m : Nat) (s : State) : (wipeMemory m s).bistResult = s.bistResult := by
  unfold wipeMemory
  dsimp only
  split <;> rfl

theorem wipeMemory_ground (m : Nat) (s : State) : ground (wipeMemory m s) = ground s := by
  unfold wipeMemory
  dsimp only
  split <;> rfl

/-- The memory filled with zeros and its result stored. -/
def bisted (m : Fin 8) (pass : Bool) (s : State) : State :=
  { (if m.val < 6 then wipeMemory m.val s else s) with bistResult :=
      (if m.val < 6 then wipeMemory m.val s else s).bistResult.set m.val (if pass then 0 else 1) }

theorem bistRule_test {m : Fin 8} {pass : Bool} {s : State} (h : s.phase = .test) :
    bistRule m pass s = (if pass then eOk else eIntegrity, bisted m pass s) := if_neg (not_not.mpr h)

theorem bisted_wiped {m : Fin 8} {pass : Bool} {s : State} (h : m.val < 6) :
    bisted m pass s = { wipeMemory m.val s with bistResult := s.bistResult.set m.val (if pass then 0 else 1) } := by
  rw [bisted, if_pos h, wipeMemory_bistResult]

theorem flipsOf_wiped {t : State} {m : Fin 8} {us : List Upset}
    (h : t.upsets = us.filter (fun u => u.mem.val != m.val)) (w : Nat) : flipsOf t m w = 0 := by
  have hnone : t.upsets.filter (fun u => u.mem = m ∧ u.word = w) = [] := by
    rw [h, List.filter_filter, List.filter_eq_nil_iff]
    intro u _ hu
    simp only [Bool.and_eq_true, decide_eq_true_eq, bne_iff_ne] at hu
    exact hu.2 (congrArg Fin.val hu.1.1)
  rw [flipsOf, hnone]
  rfl

section
variable {s : State} {m : Fin 8}

theorem injectRule_state (h : s.phase ≠ .test) : injectRule m s = (eState, s) := if_pos h

theorem injectRule_test (h : s.phase = .test) : injectRule m s =
    if (BitVec.ofNat 72 (leNat (s.injMask.getD m.val [])) : CodeWord) = 0 ∨
        memWords.getD m.val 1 ≤ (s.injWord.getD m.val 0).toNat then (eRange, s)
    else (eOk, strike [{
      mem := m
      word := (s.injWord.getD m.val 0).toNat
      mask := BitVec.ofNat 72 (leNat (s.injMask.getD m.val [])) }] s) := if_neg (not_not.mpr h)

end

section
variable {s : State} {p : Port} {code : U8} {pass : Bool}

theorem unitTestRule_state (h : s.phase ≠ .test) : unitTestRule p code pass s = (eState, s) := if_pos h

variable (h : s.phase = .test)
include h

theorem unitTestRule_range (hfit : testFits (portRegs s p).unitSelect.toNat code.toNat = false) :
    unitTestRule p code pass s = (eRange, s) := by
  rw [unitTestRule, if_neg (not_not.mpr h), if_pos (by rw [hfit]; rfl)]

variable (hfit : testFits (portRegs s p).unitSelect.toNat code.toNat = true)
include hfit

theorem unitTestRule_other (hcode : code ≠ 1) : unitTestRule p code pass s =
    (if pass then eOk else eIntegrity, { s with unitResult := if pass then 0 else code }) := by
  rw [unitTestRule, if_neg (not_not.mpr h), if_neg (by rw [hfit]; decide), if_pos hcode]

/-- A logic test stores its signature and its result and changes no unit. -/
theorem unitTestRule_logic (hcode : code = 1) : ∃ sig free, unitTestRule p code pass s =
    (if pass then eOk else eIntegrity, { s with
      logicSig := sig
      freeCount := free
      unitResult := if pass then 0 else code }) := by
  rw [unitTestRule, if_neg (not_not.mpr h), if_neg (by rw [hfit]; decide), if_neg (not_not.mpr hcode)]
  cases pass
  · exact ⟨_, _, rfl⟩
  · exact ⟨_, s.freeCount, rfl⟩

end

/-- Settles O55: the read by its address, rights and space; the test range by the phase and the rules' branches. -/
theorem fieldService : Obligations.FieldService := by
  unfold Obligations.FieldService
  refine ⟨⟨fun s p off n hadm h1 hmax => ⟨fun ha => ?outside, fun ha hr => ?denied, fun ha hr hspan =>
      ⟨fun hsp he => ?closed, fun hsp hoff hret => ?waits, fun hsp hv hk hwhole => ?sectors, fun hsp hv => ?vaultDown⟩⟩,
    fun s p hw => ?expired, fun s p hw => exec_faReadExpiry_idle hw⟩,
    fun s p m pass hadm => ⟨fun h => ?bistState, fun h => ?bist⟩,
    fun s p m hadm => ⟨fun h => ?injectState, fun h hbad => ?injectRange, fun h hmask hword => ?inject⟩,
    fun s p code pass hadm => ⟨fun h => ?unitState, fun h hfit => ?unitRange, fun h hfit hcode => ?unitOther,
      fun h hfit hcode => ?unitLogic⟩⟩
  case outside => exact exec_faWindowRead_answered hadm h1 hmax (faReadRule_outside ha)
  case denied => exact exec_faWindowRead_answered hadm h1 hmax (faReadRule_denied ha hr)
  case closed =>
    exact exec_faWindowRead_answered hadm h1 hmax ((faReadRule_flash ha hr hspan hsp).trans (if_pos he))
  case waits =>
    exact exec_faWindowRead_waits hadm h1 hmax
      ((faReadRule_flash ha hr hspan hsp).trans (if_neg fun he => he.elim hoff hret))
  case sectors => exact exec_faWindowRead_answered hadm h1 hmax (faReadRule_sectors ha hr hspan hsp hv hk hwhole)
  case vaultDown =>
    have hdown : (!vaultOnline s) = true ∨ s.keys.keyState = 2 := by simpa using hv
    exact exec_faWindowRead_answered hadm h1 hmax ((faReadRule_vault ha hr hspan hsp).trans (if_pos hdown))
  case expired =>
    have hregs := portRegs_faReadExpired p s
    refine ⟨_, exec_faReadExpiry_waiting hw, ?_, ?_, ?_, ?_, ?_⟩
    · rw [hregs]
      exact portRegs_dropField_faWait p s
    · rw [hregs]
    · rw [hregs]
    · rw [finishAll_ground, answerLate_ground, dropField_ground]
    · rw [finishAll_cellsOf, answerLate_cellsOf, dropField_cellsOf]
  case bistState => rw [exec_bist_admitted pass hadm, bistRule, if_pos h]
  case bist =>
    have hground := bistRule_ground m pass s
    rw [bistRule_test h] at hground
    rw [exec_bist_admitted pass hadm, bistRule_test h]
    refine ⟨bisted m pass s, rfl, ?_, fun hm => ?_, fun hm => ?_, fun hm => ?_, fun hm => ?_, fun hm w => ?_, hground⟩
    · by_cases hm : m.val < 6
      · rw [bisted_wiped hm]
      · rw [bisted, if_neg hm]
    · rw [bisted_wiped (by omega), hm]
      rfl
    · rw [bisted_wiped (by omega), hm]
      rfl
    · rw [bisted_wiped (by omega), hm]
      rfl
    · rw [bisted_wiped (by omega), hm]
      rfl
    · rw [bisted_wiped hm]
      exact flipsOf_wiped (us := s.upsets) (wipeMemory_upsets m.val s) w
  case injectState => rw [exec_inject_admitted hadm, injectRule_state h]
  case injectRange => rw [exec_inject_admitted hadm, injectRule_test h, if_pos hbad]
  case inject =>
    rw [exec_inject_admitted hadm, injectRule_test h, if_neg fun hbad => hbad.elim hmask (Nat.not_le.mpr hword)]
    rfl
  case unitState => rw [exec_unitTest_admitted code pass hadm, unitTestRule_state h]
  case unitRange => rw [exec_unitTest_admitted code pass hadm, unitTestRule_range h hfit]
  case unitOther => rw [exec_unitTest_admitted code pass hadm, unitTestRule_other h hfit hcode]
  case unitLogic =>
    obtain ⟨sig, free, hrule⟩ := unitTestRule_logic (pass := pass) h hfit hcode
    rw [exec_unitTest_admitted code pass hadm, hrule]
    exact ⟨_, rfl, rfl, rfl, rfl, rfl⟩
end Sys2Proof.Proofs

end

section
/-! The runtime image in RECOVERY phase (O14) -/

namespace Sys2Proof.Proofs
open Sys2Proof Sys2Proof.Machine Sys2Proof.Laws
set_option maxRecDepth 4000

/-! ### The runtime image (R230, R231) -/

theorem exec_rtImageWrite_admitted {s : State} {p : Port} {off : U40} {data : List Byte}
    (h : admitted s p .writeBlock 0x1103 0 data.length = true) : exec (.rtImageWrite p off data) s =
      .next (reply p (rtImageRule off.toNat data s).1 (rtImageRule off.toNat data s).2) :=
  blockOp_admitted (rule := rtImageRule off.toNat data) h

theorem exec_rtInstall_admitted {s : State} {p : Port} (h : admitted s p .exec 0x1103 1 1 = true) :
    exec (.rtInstall p) s = .next (reply p (rtInstallRule s).1 (rtInstallRule s).2) :=
  execOp_admitted (rule := rtInstallRule) h

theorem rtImageRule_state {s : State} {off : Nat} {data : List Byte} (h : s.phase ≠ .recovery) :
    rtImageRule off data s = (eState, s) := if_pos h

theorem rtImageRule_taken {s : State} {off : Nat} {data : List Byte} (h : s.phase = .recovery)
    (hlen : off + data.length ≤ 0x200000 + 0x40 + 2048) :
    rtImageRule off data s = (eOk, { s with rtImage := if off = 0 then data else patch s.rtImage off data }) := by
  rw [rtImageRule, if_neg (not_not.mpr h), if_neg (Nat.not_lt.mpr hlen)]

theorem rtInstallRule_state {s : State} (h : s.recoveryByRuntime = false) :
    rtInstallRule s = (eState, { s with rtInstallResult := eState }) := by
  rw [rtInstallRule, if_pos (Or.inr (by rw [h]; rfl))]

section
variable {s : State} (hphase : s.phase = .recovery) (hrt : s.recoveryByRuntime = true)
include hphase hrt

theorem rtInstall_open : ¬ (s.phase ≠ .recovery ∨ (!s.recoveryByRuntime) = true) := by
  rw [hphase, hrt]
  decide

theorem rtInstallRule_rejected {d : Nat} {c : U8} (h : rtReject s s.rtImage = some (d, c)) :
    rtInstallRule s = (c, { s with rtInstallResult := c }) := by
  rw [rtInstallRule, if_neg (rtInstall_open hphase hrt), h]

theorem rtInstallRule_installed (h : rtReject s s.rtImage = none) : rtInstallRule s =
    (eOk, { (modVault (fun v => { v with bootA := s.rtImage, bootB := s.rtImage, bootEnable := 1 }) s) with
      rtInstallResult := eOk }) := by
  rw [rtInstallRule, if_neg (rtInstall_open hphase hrt), h]

end

/-- Settles O14: the rules by the phase and by what the image's checks find. -/
theorem runtimeInstall : Obligations.RuntimeInstall := by
  unfold Obligations.RuntimeInstall
  refine ⟨fun s p off data hadm hphase hlen => ?taken, fun s p off data hadm hphase => ?imageState,
    fun s p hadm hphase hrt hok => ?installed, fun s p d c hadm hphase hrt hbad => ?rejected,
    fun s p hadm hrt => ?installState⟩
  case taken =>
    have hzero : off.toNat = 0 ↔ off = 0 := ⟨fun h => BitVec.eq_of_toNat_eq h, fun h => h ▸ rfl⟩
    rw [exec_rtImageWrite_admitted hadm, rtImageRule_taken hphase hlen]
    simp only [hzero]
  case imageState => rw [exec_rtImageWrite_admitted hadm, rtImageRule_state hphase]
  case installed =>
    rw [exec_rtInstall_admitted hadm, rtInstallRule_installed hphase hrt hok]
    refine ⟨_, rfl, rfl, rfl, rfl, rfl, ?_, rfl, rfl, rfl⟩
    rw [portRegs_reply]
  case rejected => rw [exec_rtInstall_admitted hadm, rtInstallRule_rejected hphase hrt hbad]
  case installState => rw [exec_rtInstall_admitted hadm, rtInstallRule_state hrt]
end Sys2Proof.Proofs

end

section
/-! Clocks, time base, pace gauge and sensors (O15) -/

namespace Sys2Proof.Proofs
open Sys2Proof Sys2Proof.Machine Sys2Proof.Laws
set_option maxRecDepth 4000

/-! ### REFCLK and the PLL (R15 to R20) -/

@[simp] theorem stopRead_aside (c : Chan) (s : State) : aside (stopRead c s) = aside s := by
  unfold stopRead
  split <;> simp

@[simp] theorem vaultFollow_aside (ended : Bool) (s : State) : aside (vaultFollow ended s) = aside s := by
  unfold vaultFollow
  dsimp only
  (repeat' split) <;> simp

theorem gapCount_cellsOf (n : Nat) (s : State) : cellsOf (gapCount n s) = cellsOf s := by
  simp [gapCount]

/-- The state in which REFCLK has stopped. -/
def refclkStopped (s : State) : State :=
  { s with refclk := false, pllLock := false, gapPeriods := 0, refclkLosses := satInc s.refclkLosses }

theorem exec_refclkLoss_present {s : State} (hclk : s.refclk = true) (hpor : s.porN = true) :
    exec .refclkLoss s = .next (finishAll (allChans stopRead (refclkStopped s))) := if_pos ⟨hclk, hpor⟩

/-- The gap's length in periods, saturated. -/
def gapLength (n : Nat) (s : State) : U32 := BitVec.ofNat 32 (min (s.gapPeriods + n) (2 ^ 32 - 1))

/-- The state in which REFCLK is back. -/
def refclkBack (n : Nat) (s : State) : State :=
  { gapCount n s with refclk := true, gapPeriods := 0, refclkLastGap := gapLength n s }

theorem exec_refclkReturn_absent {s : State} (n : Nat) (hclk : s.refclk = false) (hpor : s.porN = true)
    (hdone : clockDone s = true) : exec (.refclkReturn n) s = .next (finishAll (vaultFollow false
      (journal 0x30 0x0401 true (leBytes 4 (gapLength n s).toNat) (refclkBack n s)))) :=
  if_pos ⟨by rw [hclk]; rfl, hpor, hdone⟩

/-- The end of a vault command that the loss of the PLL's lock fails. -/
def pllLost (s : State) : State :=
  let busy := vaultReady s && !s.vault.ops.isEmpty
  let s := notice 0x02 false 0x1120 1 0 0 { s with pllLock := false }
  let s := allChans failRead s
  finishAll (if busy then vaultCmdFail s else s)

theorem exec_pllLockLoss_locked {s : State} (hpll : s.pllLock = true) (hclk : s.refclk = true) (hpor : s.porN = true) :
    exec .pllLockLoss s = .next (pllLost s) := if_pos ⟨hpll, hclk, hpor⟩

theorem pllLost_ground (s : State) : ground (pllLost s) = ground { s with pllLock := false } := by
  unfold pllLost
  dsimp only
  split <;> simp

theorem pllLost_cellsOf (s : State) : cellsOf (pllLost s) = cellsOf s := by
  unfold pllLost
  dsimp only
  split <;> simp <;> rfl

theorem exec_pllRelock_unlocked {s : State} (hpll : s.pllLock = false) (hclk : s.refclk = true) (hpor : s.porN = true)
    (hdone : clockDone s = true) : exec .pllRelock s = .next (finishAll { s with pllLock := true }) :=
  if_pos ⟨by rw [hpll]; rfl, hclk, hpor, hdone⟩

/-! ### The time base, the pace gauge and the sensors (R21 to R23) -/

theorem exec_tbUsWrap_last {s : State} (hclk : s.refclk = true) (hpor : s.porN = true) (hlast : s.tbUs = BitVec.allOnes 40) :
    exec .tbUsWrap s = .next { s with tbUs := 0, tbEpoch := s.tbEpoch + 1, subUs := s.subUs - 25 } :=
  if_pos ⟨hclk, hpor, hlast⟩

/-- The pace gauge's reading stored. -/
def paceRead (ps : U16) (s : State) : State :=
  { s with pacePs := ps, paceMaxPs := if s.paceMaxPs.toNat < ps.toNat then ps else s.paceMaxPs }

theorem exec_paceRefresh_live {s : State} (ps : U16) (hclk : s.refclk = true) (hpor : s.porN = true) :
    exec (.paceRefresh ps) s = if 170 < ps.toNat ∧ s.paceArmed = true then
      .next (notice 0x02 false 0x1110 0 ps.toNat 0 { paceRead ps s with paceArmed := false })
    else .next { paceRead ps s with paceArmed := s.paceArmed || ps.toNat < 160 } := if_pos ⟨hclk, hpor⟩

theorem zipIdx_map_getD {α : Type} {l l' : List α} (h : l.length = l'.length) :
    l.zipIdx.map (fun x => l'.getD x.2 x.1) = l' := by
  refine List.ext_getElem (by simp [h]) fun i hi hi' => ?_
  simp [List.getD_eq_getElem?_getD, hi']

theorem getD_zipIdx_map {α β : Type} (f : α × Nat → β) {l : List α} {i : Nat} (hi : i < l.length) (a : α) (b : β) :
    (l.zipIdx.map f).getD i b = f (l.getD i a, i) := by
  simp [List.getD_eq_getElem?_getD, hi]

theorem getD_of_lt {α : Type} {l : List α} {i : Nat} (h : i < l.length) (a b : α) : l.getD i a = l.getD i b := by
  simp [List.getD_eq_getElem?_getD, h]

/-- New temperatures and rails stored with their extremes. -/
def sensed (tj : List Int) (mv : List U16) (s : State) : State :=
  { s with
    tj := tj
    tjMax := s.tjMax.zipIdx.map (fun x => max x.1 (tj.getD x.2 x.1))
    railMv := mv
    railMin := s.railMin.zipIdx.map (fun x => if (mv.getD x.2 x.1).toNat < x.1.toNat then mv.getD x.2 x.1 else x.1)
    railMax := s.railMax.zipIdx.map (fun x => if x.1.toNat < (mv.getD x.2 x.1).toNat then mv.getD x.2 x.1 else x.1) }

theorem exec_sensorRefresh_live {s : State} {tj : List Int} {mv : List U16} (hclk : s.refclk = true)
    (hpor : s.porN = true) (htj : s.tj.length = tj.length) (hmv : s.railMv.length = mv.length) :
    exec (.sensorRefresh tj mv) s = .next (sensed tj mv s) := by
  have hexec : exec (.sensorRefresh tj mv) s = .next (sensed (s.tj.zipIdx.map (fun x => tj.getD x.2 x.1))
    (s.railMv.zipIdx.map (fun x => mv.getD x.2 x.1)) s) := if_pos ⟨hclk, hpor⟩
  rw [hexec, zipIdx_map_getD htj, zipIdx_map_getD hmv]

section
variable {s : State} {tj : List Int} {mv : List U16} {i : Nat}

theorem sensed_tjMax (hi : i < s.tjMax.length) (htj : i < tj.length) :
    (sensed tj mv s).tjMax.getD i 0 = max (s.tjMax.getD i 0) (tj.getD i 0) := by
  have h : (sensed tj mv s).tjMax.getD i 0 = _ := getD_zipIdx_map (fun x => max x.1 (tj.getD x.2 x.1)) hi 0 0
  rw [h, getD_of_lt htj _ 0]

theorem sensed_railMin (hi : i < s.railMin.length) (hmv : i < mv.length) :
    ((sensed tj mv s).railMin.getD i 0).toNat = min (s.railMin.getD i 0).toNat (mv.getD i 0).toNat := by
  have h : (sensed tj mv s).railMin.getD i 0 = _ := getD_zipIdx_map
    (fun x => if (mv.getD x.2 x.1).toNat < x.1.toNat then mv.getD x.2 x.1 else x.1) hi 0 0
  rw [h, getD_of_lt hmv _ 0]
  dsimp only
  split <;> omega

theorem sensed_railMax (hi : i < s.railMax.length) (hmv : i < mv.length) :
    ((sensed tj mv s).railMax.getD i 0).toNat = max (s.railMax.getD i 0).toNat (mv.getD i 0).toNat := by
  have h : (sensed tj mv s).railMax.getD i 0 = _ := getD_zipIdx_map
    (fun x => if x.1.toNat < (mv.getD x.2 x.1).toNat then mv.getD x.2 x.1 else x.1) hi 0 0
  rw [h, getD_of_lt hmv _ 0]
  dsimp only
  split <;> omega

end

/-- Settles O15: each event by its branch; the sensors' registers entry by entry. -/
theorem clocksAndSensors : Obligations.ClocksAndSensors := by
  unfold Obligations.ClocksAndSensors
  refine ⟨⟨fun s hclk hpor => ?loss, fun s n hclk hpor hdone => ?back, fun s hpll hclk hpor => ?unlocked,
      fun s hpll hclk hpor hdone => ?relocked⟩,
    fun s hclk hpor hlast => exec_tbUsWrap_last hclk hpor hlast, fun s ps hclk hpor hps harmed => ?paced,
    fun s ps hclk hpor hquiet => ?quiet, fun s tj mv hclk hpor htj hmv h1 h2 h3 h4 h5 => ?sensed⟩
  case loss =>
    have haside : aside (finishAll (allChans stopRead (refclkStopped s))) = aside (refclkStopped s) := by simp
    have hcells : cellsOf (finishAll (allChans stopRead (refclkStopped s))) = cellsOf (refclkStopped s) := by simp
    refine ⟨_, exec_refclkLoss_present hclk hpor, ?_⟩
    generalize finishAll (allChans stopRead (refclkStopped s)) = t at haside hcells
    exact ⟨congrArg Aside.refclk haside, congrArg Aside.pllLock haside, congrArg Aside.gapPeriods haside,
      congrArg Aside.refclkLosses haside, congrArg Aside.tbUs haside, congrArg Aside.now haside,
      congrArg Aside.phase haside, congrArg Aside.keys haside, congrArg Aside.lc haside, hcells⟩
  case back =>
    have hexec := exec_refclkReturn_absent n hclk hpor hdone
    have haside : aside (finishAll (vaultFollow false (journal 0x30 0x0401 true (leBytes 4 (gapLength n s).toNat)
      (refclkBack n s)))) = aside (refclkBack n s) := by simp
    have hcells : cellsOf (finishAll (vaultFollow false (journal 0x30 0x0401 true (leBytes 4 (gapLength n s).toNat)
      (refclkBack n s)))) = cellsOf (refclkBack n s) := by simp
    refine ⟨_, hexec, ?_⟩
    generalize finishAll (vaultFollow false (journal 0x30 0x0401 true (leBytes 4 (gapLength n s).toNat)
      (refclkBack n s))) = t at haside hcells
    exact ⟨congrArg Aside.refclk haside, congrArg Aside.gapPeriods haside, congrArg Aside.refclkLastGap haside,
      congrArg Aside.tbUs haside, congrArg Aside.pllLock haside, congrArg Aside.phase haside, hcells⟩
  case unlocked =>
    have hground := pllLost_ground s
    have hcells := pllLost_cellsOf s
    refine ⟨_, exec_pllLockLoss_locked hpll hclk hpor, ?_⟩
    generalize pllLost s = t at hground hcells
    exact ⟨congrArg Ground.pllLock hground,
      (congrArg Ground.refclk hground).trans hclk, congrArg Ground.tbUs hground, congrArg Ground.phase hground,
      hcells⟩
  case relocked =>
    have hground := finishAll_ground { s with pllLock := true }
    have hcells := finishAll_cellsOf { s with pllLock := true }
    refine ⟨_, exec_pllRelock_unlocked hpll hclk hpor hdone, ?_⟩
    generalize finishAll { s with pllLock := true } = t at hground hcells
    exact ⟨congrArg Ground.pllLock hground,
      (congrArg Ground.refclk hground).trans hclk, congrArg Ground.tbUs hground, congrArg Ground.phase hground,
      hcells⟩
  case paced =>
    rw [exec_paceRefresh_live ps hclk hpor, if_pos ⟨hps, harmed⟩]
    rfl
  case quiet =>
    have hno : ¬ (170 < ps.toNat ∧ s.paceArmed = true) := by
      rintro ⟨hps, harmed⟩
      rcases hquiet with h | h
      · omega
      · exact absurd (h.symm.trans harmed) (by decide)
    rw [exec_paceRefresh_live ps hclk hpor, if_neg hno]
    rfl
  case sensed =>
    refine ⟨_, exec_sensorRefresh_live hclk hpor (h1.trans htj.symm) (h3.trans hmv.symm), rfl, rfl,
      fun i hi => ?_, fun i hi => ?_, fun i hi => ?_, rfl, rfl, rfl⟩
    · exact sensed_tjMax (by omega) (by omega)
    · exact sensed_railMin (by omega) (by omega)
    · exact sensed_railMax (by omega) (by omega)
end Sys2Proof.Proofs

end

section
/-! Requested states of the nodes (O25) -/

namespace Sys2Proof.Proofs
open Sys2Proof Sys2Proof.Machine Sys2Proof.Laws
set_option maxRecDepth 4000

/-! ### Requested states (R12 to R17) -/

theorem exec_channelReqStateWrite_admitted {s : State} {p : Port} {c : Chan} {v : U8} {low : Bool}
    (h : admitted s p .write (0x3001 + 0x100 * c.val) 0 1 = true) : exec (.channelReqStateWrite p c v low) s =
      .next (reply p (channelReqRule c v low s).1 (channelReqRule c v low s).2) :=
  writeOp_admitted (rule := channelReqRule c v low) h

theorem exec_hayloftReqStateWrite_admitted {s : State} {p : Port} {v : U8} (h : admitted s p .write 0x5001 0 1 = true) :
    exec (.hayloftReqStateWrite p v) s = .next (reply p (hayloftReqRule v s).1 (hayloftReqRule v s).2) :=
  writeOp_admitted (rule := hayloftReqRule v) h

theorem exec_fallowReqStateWrite_admitted {s : State} {p : Port} {v : U8} (h : admitted s p .write 0x3601 0 1 = true) :
    exec (.fallowReqStateWrite p v) s = .next (reply p (fallowReqRule v s).1 (fallowReqRule v s).2) :=
  writeOp_admitted (rule := fallowReqRule v) h

theorem exec_vaultReqStateWrite_admitted {s : State} {p : Port} {v : U8} (h : admitted s p .write 0x6001 0 1 = true) :
    exec (.vaultReqStateWrite p v) s = .next (reply p (vaultReqRule v s).1 (vaultReqRule v s).2) :=
  writeOp_admitted (rule := vaultReqRule v) h

section
variable {s : State} {c : Chan} {v : U8} {low : Bool}

theorem channelReqRule_range (h : ¬(v = 0 ∨ v = 1 ∨ v = 3)) : channelReqRule c v low s = (eRange, s) :=
  if_pos (by simpa using h)

theorem channelReqRule_valid (h : v = 0 ∨ v = 1 ∨ v = 3) : channelReqRule c v low s =
    if (chanAt s c).eff = .retired then (eRetired, s)
    else if lifecycleHolds s then (eState, s)
    else (eOk, finishAll (modChan c (fun x => { x with
      reqState := v
      csLow := low
      pendingReq := if low then some (BitVec.ofNat 8 (reqInForce x)) else none }) s)) :=
  if_neg (by rw [decide_eq_true h]; decide)

end

theorem hayloftReqRule_accepted {s : State} {v : U8} (h : v.toNat ≤ 1) : ∃ t, hayloftReqRule v s = (eOk, t) ∧
    t.hayloft.reqState = v ∧ t.hayloft.ctxs = s.hayloft.ctxs ∧ ground t = ground s ∧ t.chans = s.chans := by
  rw [hayloftReqRule, if_neg (by omega)]
  refine ⟨_, rfl, ?_⟩
  split <;> exact ⟨rfl, rfl, rfl, rfl⟩

theorem fallowReqRule_retired {s : State} {v : U8} (h : v.toNat ≤ 1) (hr : s.fallow.retired = true) :
    fallowReqRule v s = (eRetired, s) := by
  rw [fallowReqRule, if_neg (by omega), if_pos hr]

theorem fallowReqRule_accepted {s : State} {v : U8} (h : v.toNat ≤ 1) (hr : s.fallow.retired = false) :
    ∃ f : Fallow → Fallow, fallowReqRule v s = (eOk, modFallow f s) ∧ (f s.fallow).reqState = v ∧
      (f s.fallow).serving = s.fallow.serving := by
  rw [fallowReqRule, if_neg (by omega), if_neg (Bool.eq_false_iff.mp hr)]
  exact ⟨_, rfl, rfl, rfl⟩

theorem vaultReqRule_retired {s : State} {v : U8} (h : v.toNat ≤ 1) (he : s.vault.eff = 3) :
    vaultReqRule v s = (eRetired, s) := by
  rw [vaultReqRule, if_neg (by omega), if_pos he]

theorem vaultReqRule_offline {s : State} (he : s.vault.eff = 0) (hwork : canWork s = true) (hidle : vaultBusy s = false) :
    vaultReqRule 1 s = (eOk, finishAll (modVault (fun v => { v with reqState := 1, eff := 1, pendingReq := none }) s)) := by
  have hwork' : canWork (modVault (fun v => { v with reqState := 1 }) s) = true := hwork
  have hidle' : vaultBusy (modVault (fun v => { v with reqState := 1 }) s) = false := hidle
  have hfollow : vaultFollow false (modVault (fun v => { v with reqState := 1 }) s) =
      modVault (fun v => { v with reqState := 1, eff := 1, pendingReq := none }) s := by
    unfold vaultFollow
    dsimp only
    rw [hwork', hidle']
    rw [if_neg (by decide), if_neg fun h => absurd (he.symm.trans h.1) (by decide), if_pos ⟨he, rfl⟩,
      if_pos (show false = true ∨ (!false) = true from Or.inr rfl)]
    rfl
  have hdown : vaultReady (modVault (fun v => { v with reqState := 1, eff := 1, pendingReq := none }) s) = false := by
    simp [vaultReady, vaultOnline]
  rw [vaultReqRule, if_neg (by decide), if_neg fun h => absurd (he.symm.trans h) (by decide)]
  dsimp only
  rw [hfollow, if_neg (Bool.eq_false_iff.mp hdown)]

/-- Settles O25: each node's rule by its branches, and the boundary of each node. -/
theorem requestedStates : Obligations.RequestedStates := by
  unfold Obligations.RequestedStates
  refine ⟨fun s p c v low hadm => ⟨fun hv he hlc => ?chan, fun hv => ?chanRange, fun hv he => ?chanRetired⟩,
    fun s p v hadm hv => ?hayloft, fun s p v hadm hv hr => ?fallow, fun s p v hadm hv hr => ?fallowRetired,
    fun s p hadm he hwork hidle => ?vault, fun s p v hadm hv he => ?vaultRetired, fun s n hn => if_pos hn,
    fun s n hn => ?none, fun s => rfl⟩
  case chan =>
    have hlives : lifecycleHolds s = false := beq_false_of_ne hlc
    rw [exec_channelReqStateWrite_admitted hadm, channelReqRule_valid hv, if_neg he,
      if_neg (Bool.eq_false_iff.mp hlives)]
  case chanRange => rw [exec_channelReqStateWrite_admitted hadm, channelReqRule_range hv]
  case chanRetired => rw [exec_channelReqStateWrite_admitted hadm, channelReqRule_valid hv, if_pos he]
  case hayloft =>
    obtain ⟨t, ht, hreq, hctxs, hground, hchans⟩ := hayloftReqRule_accepted (s := s) hv
    rw [exec_hayloftReqStateWrite_admitted hadm, ht]
    refine ⟨reply p eOk t, rfl, hreq, ?_, hctxs, hground, hchans⟩
    rw [portRegs_reply]
  case fallow =>
    obtain ⟨f, hf, hreq, hserving⟩ := fallowReqRule_accepted hv hr
    rw [exec_fallowReqStateWrite_admitted hadm, hf]
    refine ⟨reply p eOk (modFallow f s), rfl, hreq, ?_, hserving, rfl, rfl⟩
    rw [portRegs_reply]
  case fallowRetired => rw [exec_fallowReqStateWrite_admitted hadm, fallowReqRule_retired hv hr]
  case vault => rw [exec_vaultReqStateWrite_admitted hadm, vaultReqRule_offline he hwork hidle]
  case vaultRetired => rw [exec_vaultReqStateWrite_admitted hadm, vaultReqRule_retired hv he]
  case none =>
    have h6 : ¬ n.val < 6 := by omega
    have h8 : ¬ n.val = 8 := by omega
    change execReqStateBoundary n s = _
    rw [execReqStateBoundary, if_neg h6, if_neg h8]
end Sys2Proof.Proofs

end

section
/-! Discovery, power-good, index reload and the Fallow pipeline (O26) -/

namespace Sys2Proof.Proofs
open Sys2Proof Sys2Proof.Machine Sys2Proof.Laws
set_option maxRecDepth 4000

/-! ### Discovery and power-good (R220, R221, R168) -/

theorem exec_rediscovery_due {s : State} {c : Chan} (a b : Found) (hoff : (chanAt s c).eff ≠ .off)
    (hret : (chanAt s c).eff ≠ .retired) (hnew : (chanAt s c).discovered = false) (hwork : canWork s = true)
    (hpll : s.pllLock = true) (hphase : s.phase = .service) : exec (.rediscovery c a b) s =
      .next (finishAll (if (chanAt (discoverChan c a b s) c).eff = .retired ∨
          (chanAt (discoverChan c a b s) c).discFault0 = true ∨ (chanAt (discoverChan c a b s) c).discFault1 = true
        then discoverChan c a b s else recompile c (discoverChan c a b s))) :=
  if_pos ⟨hoff, hret, by rw [hnew]; rfl, hwork, hpll, beq_iff_eq.mpr hphase⟩

theorem exec_platPgFall_up {s : State} {c : Chan} (hpor : s.porN = true) (hpg : (chanAt s c).pg = true) :
    exec (.platPgFall c) s = .next (finishAll (settleDown true c (resetByHold c
      (if bit (resetSense s c) 0 = true ∨ (bit (resetSense s c) 2 = true ∧ (chanAt s c).eff = .running) then
        hostReset c (modChan c (fun x => { x with pg := false }) s)
      else modChan c (fun x => { x with pg := false }) s)))) := by
  have heff : (chanAt (modChan c (fun x => { x with pg := false }) s) c).eff = (chanAt s c).eff := by
    rw [chanAt_modChan]
  change execPlatPgFall c s = _
  rw [execPlatPgFall, if_pos ⟨hpor, hpg⟩]
  dsimp only
  rw [heff]

theorem exec_platPgFall_reset {s : State} {c : Chan} (hpor : s.porN = false) :
    exec (.platPgFall c) s = .next (modChan c (fun x => { x with pg := false }) s) :=
  if_neg fun h => Bool.false_ne_true (hpor.symm.trans h.1)

theorem exec_platPgRise_up {s : State} {c : Chan} (hpor : s.porN = true) :
    exec (.platPgRise c) s = .next (finishAll (modChan c (fun x => { x with pg := true }) s)) :=
  congrArg Host.Outcome.next (if_pos hpor)

theorem exec_platPgRise_reset {s : State} {c : Chan} (hpor : s.porN = false) :
    exec (.platPgRise c) s = .next (modChan c (fun x => { x with pg := true }) s) :=
  congrArg Host.Outcome.next (if_neg (Bool.eq_false_iff.mp hpor))

/-! ### The index's reload (R117) -/

/-- A word of the index reloaded from the configuration. -/
def wordReloaded (m : Fin 8) (w : Nat) (s : State) : State :=
  modHr (fun h => { h with rewritten := h.rewritten ++ [(m.val, w)] })
    (cleanWords m w 1 (modHr (fun h => { h with reloadDue := h.reloadDue.filter (· != (m.val, w)) }) s))

theorem exec_indexWordReload_first {s : State} {m : Fin 8} {w : Nat} (hdue : s.hedgerow.reloadDue.contains (m, w) = true)
    (hrun : Machine.runtimeUp s = true) (hfirst : s.hedgerow.rewritten.contains (m.val, w) = false) :
    exec (.indexWordReload m w) s = .next (wordReloaded m w s) := by
  change execIndexWordReload m w s = _
  unfold execIndexWordReload
  dsimp only
  rw [if_pos ⟨hdue, hrun⟩, if_pos (by rw [hfirst]; rfl)]
  rfl

theorem wordReloaded_hedgerow (m : Fin 8) (w : Nat) (s : State) : (wordReloaded m w s).hedgerow = { s.hedgerow with
    rewritten := s.hedgerow.rewritten ++ [(m.val, w)]
    reloadDue := s.hedgerow.reloadDue.filter (· != (m.val, w)) } := rfl

theorem wordReloaded_chans (m : Fin 8) (w : Nat) (s : State) : (wordReloaded m w s).chans = s.chans := rfl

theorem wordReloaded_ground (m : Fin 8) (w : Nat) (s : State) : ground (wordReloaded m w s) = ground s := by
  simp [wordReloaded]

theorem flipsOf_modHr (f : Hedgerow → Hedgerow) (s : State) (m : Fin 8) (w : Nat) :
    flipsOf (modHr f s) m w = flipsOf s m w := rfl

/-! ### The Fallow pipeline (R170 to R176) -/

theorem exec_hotTakeoverSwitch_pending {s : State} {c : Chan} (h : (chanAt s c).hotPending = true)
    (hr : s.fallow.retired = false) : exec (.hotTakeoverSwitch c) s = .next (finishAll (modFallow (fun f => { f with
      takeoversHot := satInc f.takeoversHot }) (fallowServes c 1 (csRise c s)))) :=
  if_pos ⟨h, by rw [hr]; rfl⟩

theorem exec_coldTakeoverConnect_sound {s : State} {c : Chan} {m : Bool} (h : (chanAt s c).takeover = true)
    (hr : s.fallow.retired = false) (hwork : canWork s = true) (hm : s.fallow.marchDue = false ∨ m = true) :
    exec (.coldTakeoverConnect c m) s = .next (finishAll (modFallow (fun f => { f with
      takeoversCold := satInc f.takeoversCold }) (fallowServes c 2
        (if (chanAt s c).csLow then timeoutExpired 0xA s else timeoutArrived 0xA s)))) := by
  have hmarch : (if (chanAt s c).csLow then timeoutExpired 0xA s else timeoutArrived 0xA s).fallow = s.fallow := by
    split <;> rfl
  change execColdTakeoverConnect c m s = _
  rw [execColdTakeoverConnect, if_pos ⟨h, by rw [hr]; rfl, hwork⟩]
  dsimp only
  rw [hmarch, if_neg fun hbad => by rcases hm with hm | hm <;> simp [hm] at hbad]

theorem exec_fallowHandback_pending {s : State} {c : Chan} (h : (chanAt s c).handbackPending = true) :
    exec (.fallowHandback c) s = .next (finishAll (fallowReturn (modChan c (fun x => { x with
      onFallow := false, handbackPending := false }) (csRise c s)))) := if_pos h

/-- Settles O26: each event by the branch it takes, and what the takeover leaves. -/
theorem channelEvents : Obligations.ChannelEvents := by
  unfold Obligations.ChannelEvents
  refine ⟨⟨fun s c a b hoff hret hnew hwork hpll hphase => exec_rediscovery_due a b hoff hret hnew hwork hpll hphase,
      fun s c hpor hpg => exec_platPgFall_up hpor hpg, fun s c hpor => exec_platPgRise_up hpor,
      fun s c hpor => ⟨exec_platPgRise_reset hpor, exec_platPgFall_reset hpor⟩,
      fun s m w hdue hrun hfirst => ?reload⟩,
    fun s c h hr => exec_hotTakeoverSwitch_pending h hr,
    fun s c m h hr hwork hm => exec_coldTakeoverConnect_sound h hr hwork hm, fun s c k => ?serves,
    fun s c h => ?handback⟩
  case reload =>
    have hflips : flipsOf (wordReloaded m w s) m w = 0 := by
      rw [wordReloaded, flipsOf_modHr, flipsOf_cleanWords]
    refine ⟨wordReloaded m w s, exec_indexWordReload_first hdue hrun hfirst, ?_, ?_, hflips, ?_, ?_,
      wordReloaded_chans m w s, wordReloaded_ground m w s⟩ <;> rw [wordReloaded_hedgerow]
  case serves =>
    have hchan : chanAt (fallowServes c k s) c = { chanAt s c with onFallow := true, takeover := false, hotPending := false } := by
      have hchans : (fallowServes c k s).chans = (modChan c (fun x => { x with
          onFallow := true, takeover := false, hotPending := false }) s).chans := by
        rw [fallowServes, journal_chans, modFallow_chans]
      rw [chanAt, hchans]
      exact chanAt_modChan c _ s
    have hserving : (fallowServes c k s).fallow.serving = some c := by
      rw [fallowServes]
      simp
    rw [hchan]
    exact ⟨hserving, rfl, rfl, rfl⟩
  case handback =>
    rw [exec_fallowHandback_pending h, csRise, modChan_modChan]
end Sys2Proof.Proofs

end

section
/-! FLUSH, CLEAR_HOLD and reinstatement (O27) -/

namespace Sys2Proof.Proofs
open Sys2Proof Sys2Proof.Machine Sys2Proof.Laws
set_option maxRecDepth 4000

/-! ### FLUSH, CLEAR_HOLD and reinstatement (R144, R165, R179 to R183) -/

theorem exec_flush_admitted {s : State} {p : Port} (h : admitted s p .exec 0x5000 6 1 = true) :
    exec (.flush p) s = .next (reply p (flushRule s).1 (flushRule s).2) := execOp_admitted (rule := flushRule) h

theorem exec_clearHold_admitted {s : State} {p : Port} {c : Chan}
    (h : admitted s p .exec (0x3003 + 0x100 * c.val) 0 1 = true) :
    exec (.clearHold p c) s = .next (reply p (clearHoldRule c s).1 (clearHoldRule c s).2) :=
  execOp_admitted (rule := clearHoldRule c) h

theorem exec_reinstate_admitted {s : State} {p : Port} {c : Chan} (f : Option (Fin 5))
    (h : admitted s p .exec (0x3003 + 0x100 * c.val) 1 1 = true) :
    exec (.reinstate p c f) s = .next (reply p (reinstateRule c f s).1 (reinstateRule c f s).2) :=
  execOp_admitted (rule := reinstateRule c f) h

theorem exec_fallowReinstate_admitted {s : State} {p : Port} (f : Option (Fin 5))
    (h : admitted s p .exec 0x3602 0 1 = true) :
    exec (.fallowReinstate p f) s = .next (reply p (fallowReinstateRule f s).1 (fallowReinstateRule f s).2) :=
  execOp_admitted (rule := fallowReinstateRule f) h

theorem exec_vaultReinstate_admitted {s : State} {p : Port} (a : VaultTry) (i : EmmcInfo)
    (h : admitted s p .exec 0x6002 0 1 = true) :
    exec (.vaultReinstate p a i) s = .next (reply p (vaultReinstateRule a i s).1 (vaultReinstateRule a i s).2) :=
  execOp_admitted (rule := vaultReinstateRule a i) h

section
variable {s : State} {c : Chan}

theorem clearHoldRule_held (h : (chanAt s c).eff = .quarantined ∨ ((chanAt s c).eff = .held ∧ (chanAt s c).class4 = true)) :
    clearHoldRule c s = (eOk, finishAll (setEff c .held (dropPoisoned c (modChan c (fun y => { y with
      quarantined := false, class4 := false, holdRegion := [] }) s)))) := if_pos h

theorem clearHoldRule_pending (h : (chanAt s c).eff = .running) (hq : (chanAt s c).quarPending = true) :
    clearHoldRule c s = (eOk, finishAll (dropPoisoned c (modChan c (fun y => { y with
      quarPending := false, holdRegion := [] }) s))) := by
  rw [clearHoldRule, if_neg (by rw [h]; simp), if_pos ⟨h, hq⟩]

theorem clearHoldRule_refused (h : (chanAt s c).eff = .off ∨ (chanAt s c).eff = .retired) :
    clearHoldRule c s = (eState, s) := by
  rw [clearHoldRule]
  rcases h with h | h <;> rw [h, if_neg (by simp), if_neg (by simp)]

end

section
variable {s : State} {c : Chan} (hphase : s.phase = .service) (hclk : s.refclk = true)
include hphase hclk

theorem reinstate_ready : ¬ (!(inService s && s.refclk)) = true := by
  rw [inService, hphase, hclk]
  decide

/-- With none of its units retired the channel has nothing to reinstate. -/
theorem reinstateRule_none (f : Option (Fin 5)) (hh : (chanAt s c).hostPort.retired = false)
    (hf : (chanAt s c).flashPort.retired = false) (hp : (chanAt s c).pipeline.retired = false) :
    reinstateRule c f s = (eState, s) := by
  unfold reinstateRule
  dsimp only
  rw [if_neg (reinstate_ready hphase hclk), hh, hf, hp, if_pos (by decide)]

/-- A self-test of the host port fails. -/
theorem reinstateRule_failed (hh : (chanAt s c).hostPort.retired = true) :
    reinstateRule c (some 3) s = (eIntegrity, modChan c (fun y => { y with selftestResult := 3 }) s) := by
  have hfails : failingTest (chanAt s c) (some 3) = some 3 := by
    simp [failingTest, hh]
  unfold reinstateRule
  dsimp only
  rw [if_neg (reinstate_ready hphase hclk), hh, hfails]
  simp

/-- The host port alone is retired, and its self-tests pass. -/
theorem reinstateRule_hostPort (hh : (chanAt s c).hostPort.retired = true) (hf : (chanAt s c).flashPort.retired = false)
    (hp : (chanAt s c).pipeline.retired = false) (he : (chanAt s c).eff = .retired) : reinstateRule c none s =
      (eOk, finishAll (setEff c .held (modChan c (fun y => { y with
        selftestResult := 0, hostPort := {}, hostBalls := [] }) (unsaved s)))) := by
  have hchan : chanAt (unsaved s) c = chanAt s c := rfl
  have hmod : modChan c (fun y => { y with
      selftestResult := 0
      pipeline := if y.pipeline.retired then healed else y.pipeline
      hostPort := if y.hostPort.retired then healed else y.hostPort
      flashPort := if y.flashPort.retired then healed else y.flashPort
      hostBalls := if y.hostPort.retired then [] else y.hostBalls
      flashBalls := if y.flashPort.retired then [] else y.flashBalls }) (unsaved s) =
      modChan c (fun y => { y with selftestResult := 0, hostPort := {}, hostBalls := [] }) (unsaved s) := by
    refine modChan_eq_of ?_
    rw [hchan]
    simp only [hh, hf, hp, if_true, Bool.false_eq_true, if_false, healed]
  unfold reinstateRule
  dsimp only
  rw [if_neg (reinstate_ready hphase hclk), hh, hp, hf, if_neg (by decide)]
  simp only [failingTest]
  rw [hmod, if_neg Bool.false_ne_true, if_pos he]

theorem fallowReinstateRule_none (f : Option (Fin 5)) (h : s.fallow.retired = false) :
    fallowReinstateRule f s = (eState, s) := by
  unfold fallowReinstateRule
  rw [if_neg (reinstate_ready hphase hclk), if_pos (by rw [h]; rfl)]

theorem fallowReinstateRule_healed (h : s.fallow.retired = true) : fallowReinstateRule none s =
    (eOk, finishAll (fallowReturn (modFallow (fun f => { f with
      retired := false, health := {}, selftestResult := 0 }) (unsaved s)))) := by
  unfold fallowReinstateRule
  rw [if_neg (reinstate_ready hphase hclk), if_neg (by rw [h]; decide)]
  rfl

theorem vaultReinstateRule_up (a b : Bool) (i : EmmcInfo) (he : s.vault.eff = 3) : vaultReinstateRule (.up a b) i s =
    (eOk, finishAll (modVault (fun v => { v with eff := v.reqState, health := {}, selftestResult := 0, retries := 0 })
      (vaultUp 0x20 a b i s))) := by
  rw [vaultReinstateRule, if_neg (not_not.mpr he), if_neg (reinstate_ready hphase hclk)]

end

/-- Settles O27: each rule by the branch that the channel's or the unit's state takes. -/
theorem holdsAndReinstatement : Obligations.HoldsAndReinstatement := by
  unfold Obligations.HoldsAndReinstatement
  refine ⟨fun s p hadm => ?flush, fun s p c hadm => ⟨fun h => ?held, fun h hq => ?pending, fun h => ?refused⟩,
    fun s p c hadm hphase hclk => ⟨fun hh hf hp he => ?healed, fun hh => ?failed, fun hh hf hp f => ?sound⟩,
    fun s p hadm hphase hclk => ⟨fun h => ?fallow, fun h f => ?fallowSound⟩,
    fun s p a b i hadm he hphase hclk => ?vault⟩
  case flush =>
    rw [exec_flush_admitted hadm, flushRule]
  case held => rw [exec_clearHold_admitted hadm, clearHoldRule_held h]
  case pending => rw [exec_clearHold_admitted hadm, clearHoldRule_pending h hq]
  case refused => rw [exec_clearHold_admitted hadm, clearHoldRule_refused h]
  case healed => rw [exec_reinstate_admitted none hadm, reinstateRule_hostPort hphase hclk hh hf hp he]
  case failed => rw [exec_reinstate_admitted (some 3) hadm, reinstateRule_failed hphase hclk hh]
  case sound => rw [exec_reinstate_admitted f hadm, reinstateRule_none hphase hclk f hh hf hp]
  case fallow => rw [exec_fallowReinstate_admitted none hadm, fallowReinstateRule_healed hphase hclk h]
  case fallowSound => rw [exec_fallowReinstate_admitted f hadm, fallowReinstateRule_none hphase hclk f h]
  case vault => rw [exec_vaultReinstate_admitted (.up a b) i hadm, vaultReinstateRule_up hphase hclk a b i he]
end Sys2Proof.Proofs

end

section
/-! What a write stages (O29) -/

namespace Sys2Proof.Proofs
open Sys2Proof Sys2Proof.Machine Sys2Proof.Laws
set_option maxRecDepth 4000

/-! ### Staged rules (R103 to R108) -/

theorem exec_ruleDataWrite_admitted {s : State} {p : Port} {row : RuleRow} (h : admitted s p .write 0x4100 1 16 = true) :
    exec (.ruleDataWrite p row) s = .next (reply p (ruleDataRule p row s).1 (ruleDataRule p row s).2) :=
  writeOp_admitted (rule := ruleDataRule p row) h

theorem exec_ruleDomainWrite_admitted {s : State} {p : Port} {off : U40} {data : List Byte}
    (h : admitted s p .writeBlock 0x4101 0 data.length = true) : exec (.ruleDomainWrite p off data) s =
      .next (reply p (ruleDomainRule p off.toNat data s).1 (ruleDomainRule p off.toNat data s).2) :=
  blockOp_admitted (rule := ruleDomainRule p off.toNat data) h

theorem ruleDataRule_staged {s : State} {p : Port} {row : RuleRow} (h : ruleAcceptable row = true) :
    ruleDataRule p row s = (eOk, modPort p (fun r => { r with
      stagedRules := tput r.stagedRules r.ruleSelect.toNat row }) s) := if_neg (by rw [h]; decide)

theorem ruleDataRule_range {s : State} {p : Port} {row : RuleRow} (h : ruleAcceptable row = false) :
    ruleDataRule p row s = (eRange, s) := if_pos (by rw [h]; rfl)

/-- A block's rules staged under their numbers. -/
def stagedBlock (off : Nat) (data : List Byte) (m : List (Nat × RuleRow)) : List (Nat × RuleRow) :=
  (((List.range (blockRows data).length).map (· + off / 16)).zip (blockRows data)).foldl (fun t x => tput t x.1 x.2) m

/-- Rows put under consecutive numbers. -/
theorem tget_foldl_tput_range {α : Type} (b : Nat) (f : Nat → α) (m : List (Nat × α)) (n k : Nat) :
    tget (((List.range n).map (fun i => (i + b, f i))).foldl (fun t x => tput t x.1 x.2) m) k =
      if b ≤ k ∧ k < b + n then some (f (k - b)) else tget m k := by
  induction n with
  | zero => rw [if_neg (by omega)]; rfl
  | succ n ih =>
    rw [List.range_succ, List.map_append, List.foldl_append, List.map_singleton, List.foldl_cons, List.foldl_nil,
      tget_tput, ih]
    by_cases hk : k = n + b
    · rw [if_pos hk, if_pos (by omega), hk, Nat.add_sub_cancel]
    · rw [if_neg hk]
      exact if_congr (by omega) rfl rfl

theorem tget_stagedBlock (off : Nat) (data : List Byte) (m : List (Nat × RuleRow)) (k : Nat) :
    tget (stagedBlock off data m) k = if off / 16 ≤ k ∧ k < off / 16 + data.length / 16
      then some (rowOfBytes (slice data (16 * (k - off / 16)) 16)) else tget m k := by
  have hlen : (blockRows data).length = data.length / 16 := by simp [blockRows]
  have hzip : ((List.range (data.length / 16)).map (· + off / 16)).zip (blockRows data) =
      (List.range (data.length / 16)).map (fun i => (i + off / 16, rowOfBytes (slice data (16 * i) 16))) := by
    rw [blockRows, List.zip_map']
  rw [stagedBlock, hlen, hzip]
  exact tget_foldl_tput_range (off / 16) (fun i => rowOfBytes (slice data (16 * i) 16)) m (data.length / 16) k

theorem ruleDomainRule_range {s : State} {p : Port} {off : Nat} {data : List Byte}
    (h : off % 16 ≠ 0 ∨ data.length % 16 ≠ 0 ∨ 0x100000 < off + data.length ∨
      ∃ row ∈ blockRows data, ruleAcceptable row = false) : ruleDomainRule p off data s = (eRange, s) := by
  unfold ruleDomainRule
  by_cases hshape : off % 16 ≠ 0 ∨ data.length % 16 ≠ 0 ∨ 0x100000 < off + data.length
  · rw [if_pos hshape]
  · have hbad : (!(blockRows data).all ruleAcceptable) = true := by
      have hrow : ∃ row ∈ blockRows data, ruleAcceptable row = false := by tauto
      simpa using hrow
    rw [if_neg hshape]
    dsimp only
    rw [if_pos hbad]

theorem ruleDomainRule_staged {s : State} {p : Port} {off : Nat} {data : List Byte} (hoff : off % 16 = 0)
    (hlen : data.length % 16 = 0) (hend : off + data.length ≤ 0x100000)
    (hrows : ∀ row ∈ blockRows data, ruleAcceptable row = true) : ruleDomainRule p off data s =
      (eOk, modPort p (fun r => { r with stagedRules := stagedBlock off data r.stagedRules }) s) := by
  have hgood : ¬ (!(blockRows data).all ruleAcceptable) = true := by
    simpa using hrows
  unfold ruleDomainRule
  rw [if_neg (by omega)]
  dsimp only
  rw [if_neg hgood]
  rfl

/-! ### Staged registers (R29 to R33) -/

theorem writeRule_rwc {s : State} {p : Port} {i sub : Nat} {v : List Byte} {e : Entry} (he : entryAt i sub = some e)
    (hacc : e.acc = .rwc) (hi : i ≠ 0x4100) : writeRule p i sub v s = stageRule p i sub v s := by
  rw [writeRule, he]
  dsimp only
  rw [if_pos hacc, if_neg hi]

section
variable {s : State} {p : Port} {i sub : Nat} {v : List Byte}

theorem stageRule_checked (h : rwcCheck s p i sub (leNat v) ≠ eOk) :
    stageRule p i sub v s = (rwcCheck s p i sub (leNat v), s) := if_pos h

variable (h : rwcCheck s p i sub (leNat v) = eOk)
include h

theorem stageRule_staged (hroom : (portRegs s p).staged.length < 1024) : stageRule p i sub v s =
    (eOk, modPort p (fun r => { r with staged := tput r.staged (objKey i sub) v }) s) := by
  unfold stageRule
  dsimp only
  rw [if_neg (not_not.mpr h), if_neg fun hfull => by omega]

theorem stageRule_full (hfull : 1024 ≤ (portRegs s p).staged.length)
    (hnew : tget (portRegs s p).staged (objKey i sub) = none) : stageRule p i sub v s = (eRefused, s) := by
  unfold stageRule
  dsimp only
  rw [if_neg (not_not.mpr h), if_pos ⟨hfull, by rw [hnew]; rfl⟩]

end

theorem exec_writeBlock_admitted {s : State} {p : Port} {i : U16} {sub : U8} {off : U40} {b : Byte} {bs : List Byte}
    (h : admitted s p .writeBlock i.toNat sub.toNat (bs.length + 1) = true) :
    exec (.writeBlock p i sub off (b :: bs)) s = .next (reply p (writeBlockRule p i.toNat off.toNat (b :: bs) s).1
      (writeBlockRule p i.toNat off.toNat (b :: bs) s).2) := by
  change execWriteBlock p i sub off (b :: bs) s = _
  rw [execWriteBlock, if_neg (by simp)]
  exact blockOp_admitted (rule := writeBlockRule p i.toNat off.toNat (b :: bs)) h

/-- Settles O29: the rules' branches; a block's staged rules by number. -/
theorem staging : Obligations.Staging := by
  unfold Obligations.Staging
  refine ⟨fun s p row hadm => ⟨fun h => ?rule, fun h => ?ruleRange⟩,
    fun s p off data hadm => ⟨fun h => ?blockRange, fun hoff hlen hend hrows => ?block⟩,
    fun s p i sub v e hadm he hacc hi => ⟨fun hc hroom => ?staged, fun hc hfull hnew => ?full, fun c hc hne => ?checked⟩,
    fun s p sub off b bs hadm => ?writeBlock⟩
  case rule => rw [exec_ruleDataWrite_admitted hadm, ruleDataRule_staged h]
  case ruleRange => rw [exec_ruleDataWrite_admitted hadm, ruleDataRule_range h]
  case blockRange => rw [exec_ruleDomainWrite_admitted hadm, ruleDomainRule_range h]
  case block =>
    rw [exec_ruleDomainWrite_admitted hadm, ruleDomainRule_staged hoff hlen hend hrows]
    refine ⟨_, rfl, ?_, fun k => ?_, rfl, rfl, rfl⟩
    · rw [portRegs_reply]
    · rw [portRegs_reply, portRegs_modPort]
      exact tget_stagedBlock off.toNat data _ k
  case staged =>
    have hindex : i.toNat ≠ 0x4100 := fun h => hi (BitVec.eq_of_toNat_eq h)
    rw [exec_registerWrite_admitted hadm, writeRule_rwc he hacc hindex, stageRule_staged hc hroom]
  case full =>
    have hindex : i.toNat ≠ 0x4100 := fun h => hi (BitVec.eq_of_toNat_eq h)
    rw [exec_registerWrite_admitted hadm, writeRule_rwc he hacc hindex, stageRule_full hc hfull hnew]
  case checked =>
    have hindex : i.toNat ≠ 0x4100 := fun h => hi (BitVec.eq_of_toNat_eq h)
    rw [exec_registerWrite_admitted hadm, writeRule_rwc he hacc hindex, stageRule_checked (by rw [hc]; exact hne), hc]
  case writeBlock =>
    rw [exec_writeBlock_admitted hadm]
    rfl
end Sys2Proof.Proofs

end

section
/-! Manifest, ADMIT and part data (O34) -/

namespace Sys2Proof.Proofs
open Sys2Proof Sys2Proof.Machine Sys2Proof.Laws
set_option maxRecDepth 4000

/-! ### Rules shared by the update's proofs -/

@[simp] theorem setLast_update (step : Nat) (c : U8) (d : Nat) (s : State) :
    (setLast step c d s).update = { s.update with
      lastResult := BitVec.ofNat 40 (step * 2 ^ 24 + c.toNat * 2 ^ 16 + d) } := by
  rw [setLast, journal_update, modUpd_update]

@[simp] theorem setLast_vault (step : Nat) (c : U8) (d : Nat) (s : State) : (setLast step c d s).vault = s.vault := by
  rw [setLast, journal_vault, modUpd_vault]

@[simp] theorem putRecord_update (typ : Nat) (tf body : List Byte) (e : Bool) (k : Nat) (s : State) :
    (putRecord typ tf body e k s).update = s.update := rfl

theorem storeRecord_update {typ : Nat} {tf body : List Byte} {e : Bool} {s t : State} {k : Nat}
    (h : storeRecord typ tf body e s = .ok (k, t)) : t.update = s.update := by
  obtain ⟨-, -, hput⟩ := storeRecord_ok.mp h
  exact (congrArg State.update hput).symm.trans (putRecord_update typ tf body e k s)

/-! ### The manifest and ADMIT (R286 to R290) -/

section
variable {s : State} {off : Nat} {data : List Byte}

theorem manifestRule_open (h : s.update.state = 0) (hlen : off + data.length ≤ 71744) : manifestRule off data s =
    (eOk, modUpd (fun u => { u with
      manifestBuf := if off = 0 then data else patch u.manifestBuf off data }) s) := by
  rw [manifestRule, if_neg (not_not.mpr h), if_neg (Nat.not_lt.mpr hlen)]

theorem manifestRule_range (h : s.update.state = 0) (hlen : 71744 < off + data.length) :
    manifestRule off data s = (eRange, s) := by
  rw [manifestRule, if_neg (not_not.mpr h), if_pos hlen]

theorem manifestRule_closed (h : s.update.state ≠ 0) : manifestRule off data s = (eState, s) := if_pos h

end

theorem exec_manifestWrite_admitted {s : State} {p : Port} {off : U40} {data : List Byte}
    (h : admitted s p .writeBlock 0x7001 0 data.length = true) : exec (.manifestWrite p off data) s =
    .next (reply p (manifestRule off.toNat data s).1 (manifestRule off.toNat data s).2) :=
  blockOp_admitted (rule := manifestRule off.toNat data) h

theorem exec_admitManifest_admitted {s : State} {p : Port} (h : admitted s p .exec 0x7000 1 1 = true) :
    exec (.admitManifest p) s = .next (reply p (admitRule s).1 (admitRule s).2) := execOp_admitted (rule := admitRule) h

/-- An update that begins with the manifest in the buffer. -/
def updateAdmitted (seq : U32) (u : Update) : Update :=
  { u with
    state := 1
    manifest := u.manifestBuf
    manifestSeq := seq
    manifestDigest := sha384 u.manifestBuf
    partData := []
    partState := []
    currentPart := 0
    applyProgress := 0 }

theorem admitRule_refused {s : State} {c : U8} {d : Nat} (h : admitCheck s s.update.manifestBuf = some (c, d)) :
    admitRule s = (c, setLast 1 c d s) := by
  simp only [admitRule, h]

theorem admitRule_notStored {s : State} {c : U8} (h : admitCheck s s.update.manifestBuf = none)
    (hrecord : storeRecord 3 [] s.update.manifestBuf false s = .error c) :
    admitRule s = (c, setLast 1 c 0xFF00 s) := by
  simp only [admitRule, h, hrecord]

theorem admitRule_stored {s t : State} {k : Nat} (h : admitCheck s s.update.manifestBuf = none)
    (hrecord : storeRecord 3 [] s.update.manifestBuf false s = .ok (k, t)) :
    admitRule s = (eOk, setLast 1 eOk 0 (modUpd (updateAdmitted s.vault.nextSequence) t)) := by
  have hbuf : t.update.manifestBuf = s.update.manifestBuf := congrArg Update.manifestBuf (storeRecord_update hrecord)
  simp only [admitRule, h, hrecord, modUpd, updateAdmitted, hbuf]

/-! ### The data of a part (R291, R292) -/

section
variable {s : State} {part off : Nat} {data : List Byte}

theorem partDataRule_closed (h : s.update.state ≠ 1) : partDataRule part off data s = (eState, s) := by
  unfold partDataRule
  dsimp only
  rw [if_pos (Or.inl h)]

variable (h : s.update.state = 1) (hpart : part < mfCount s.update.manifest)
  (hreceived : (tget s.update.partState part).getD 0 ≠ 2)
include h hpart hreceived

theorem partTaking : ¬ (s.update.state ≠ 1 ∨ mfCount s.update.manifest ≤ part ∨
    (tget s.update.partState part).getD 0 = 2) := by
  rintro (hidle | hnone | hfull)
  · exact hidle h
  · exact Nat.not_le.mpr hpart hnone
  · exact hreceived hfull

theorem partDataRule_offset (hoff : off ≠ ((tget s.update.partData part).getD []).length) :
    partDataRule part off data s = (eRange, s) := by
  unfold partDataRule
  dsimp only
  rw [if_neg (partTaking h hpart hreceived), if_pos hoff]

variable (hoff : off = ((tget s.update.partData part).getD []).length)
include hoff

theorem partDataRule_long (hlen : (partAt s.update.manifest part).deltaLen <
    ((tget s.update.partData part).getD []).length + data.length) : partDataRule part off data s = (eLength, s) := by
  unfold partDataRule
  dsimp only
  rw [if_neg (partTaking h hpart hreceived), if_neg (not_not.mpr hoff), if_pos hlen]

variable (hready : vaultReady s = true) {t : State}
  (hstore : storePart part (data.length / 0x100000 + 1) off data s = .ok t)
include hready hstore

theorem partDataRule_taken (hlen : ((tget s.update.partData part).getD []).length + data.length <
    (partAt s.update.manifest part).deltaLen) : partDataRule part off data s =
    (eOk, setPart part 1 ((tget s.update.partData part).getD [] ++ data) t) := by
  unfold partDataRule
  dsimp only
  rw [if_neg (partTaking h hpart hreceived), if_neg (not_not.mpr hoff), if_neg (Nat.not_lt.mpr hlen.le),
    if_neg (by rw [hready]; decide), hstore]
  dsimp only
  rw [if_neg (by rw [List.length_append]; exact hlen.ne)]

theorem partDataRule_last (hlen : ((tget s.update.partData part).getD []).length + data.length =
    (partAt s.update.manifest part).deltaLen) : partDataRule part off data s =
    partArrived (partAt s.update.manifest part) ((tget s.update.partData part).getD [] ++ data)
      (setPart part 1 ((tget s.update.partData part).getD [] ++ data) t) := by
  unfold partDataRule
  dsimp only
  rw [if_neg (partTaking h hpart hreceived), if_neg (not_not.mpr hoff), if_neg (Nat.not_lt.mpr hlen.le),
    if_neg (by rw [hready]; decide), hstore]
  dsimp only
  rw [if_pos (by rw [List.length_append]; exact hlen)]

end

theorem partArrived_corrupt {x : MPart} {data : List Byte} {s : State} (h : sha384 data ≠ x.deltaDigest) :
    partArrived x data s = (eIntegrity, setLast 2 eIntegrity x.no (setPart x.no 0 [] s)) := if_pos h

@[simp] theorem partAt_no (m : List Byte) (k : Nat) : (partAt m k).no = k := rfl

theorem exec_partDataWrite_admitted {s : State} {p : Port} {off : U40} {data : List Byte}
    (h : admitted s p .writeBlock 0x7002 1 data.length = true) : exec (.partDataWrite p off data) s =
    .next (reply p (partDataRule (portRegs s p).partSelect.toNat off.toNat data s).1
      (partDataRule (portRegs s p).partSelect.toNat off.toNat data s).2) :=
  blockOp_admitted (rule := partDataRule (portRegs s p).partSelect.toNat off.toNat data) h

/-- Settles O34: the branches of the three rules; the record that ADMIT stores changes only the vault. -/
theorem updateManifest : Obligations.UpdateManifest := by
  unfold Obligations.UpdateManifest
  refine ⟨fun s p off data hadm => ⟨fun h hlen => ?write, fun h hlen => ?long, fun h => ?closed⟩,
    fun s p hadm => ⟨fun k t h hrecord => ?stored, fun c d h => ?refuse, fun h c hrecord => ?noRoom⟩,
    fun s p off data hadm => ⟨fun h => ?noUpdate, fun h hpart hreceived => ⟨fun hoff => ?offset,
      fun hoff hlen => ?tooLong, fun hoff hlen hready t hstore => ?taken,
      fun hoff hlen hready t hstore hdigest => ?corrupt⟩⟩⟩
  case write => rw [exec_manifestWrite_admitted hadm, manifestRule_open h hlen]
  case long => rw [exec_manifestWrite_admitted hadm, manifestRule_range h hlen]
  case closed => rw [exec_manifestWrite_admitted hadm, manifestRule_closed h]
  case stored =>
    have hbuf : t.update.manifestBuf = s.update.manifestBuf := congrArg Update.manifestBuf (storeRecord_update hrecord)
    have hground : ground (admitRule s).2 = ground s := admitRule_ground s
    have hcells : cellsOf (admitRule s).2 = cellsOf s := admitRule_cellsOf s
    rw [admitRule_stored h hrecord] at hground hcells
    rw [exec_admitManifest_admitted hadm, admitRule_stored h hrecord]
    refine ⟨_, rfl, ?_⟩
    simp only [portRegs_reply, reply_update, reply_vault, setLast_update, setLast_vault, modUpd_update, modUpd_vault,
      updateAdmitted, hbuf, reply_ground, reply_cellsOf, hground, hcells, true_and, and_true]
    rfl
  case refuse => rw [exec_admitManifest_admitted hadm, admitRule_refused h]
  case noRoom => rw [exec_admitManifest_admitted hadm, admitRule_notStored h hrecord]
  case noUpdate => rw [exec_partDataWrite_admitted hadm, partDataRule_closed h]
  case offset => rw [exec_partDataWrite_admitted hadm, partDataRule_offset h hpart hreceived hoff]
  case tooLong => rw [exec_partDataWrite_admitted hadm, partDataRule_long h hpart hreceived hoff hlen]
  case taken => rw [exec_partDataWrite_admitted hadm, partDataRule_taken h hpart hreceived hoff hready hstore hlen]
  case corrupt =>
    rw [exec_partDataWrite_admitted hadm, partDataRule_last h hpart hreceived hoff hready hstore hlen,
      partArrived_corrupt hdigest, partAt_no]
end Sys2Proof.Proofs

end

section
/-! APPLY, ABORT, ACTIVATE, CONFIRM, REVERT and the trial (O35, O36) -/

namespace Sys2Proof.Proofs
open Sys2Proof Sys2Proof.Machine Sys2Proof.Laws
set_option maxRecDepth 4000

/-! ### APPLY, its parts and ABORT (R293 to R299) -/

@[simp] theorem putProgress_update (s : State) : (putProgress s).update = s.update := by
  unfold putProgress
  dsimp only
  generalize hstore : storeRecord 4 _ _ _ s = r
  rcases r with c | ⟨k, t⟩
  · rfl
  · exact storeRecord_update hstore

theorem applyRule_staged {s : State} (h : s.update.state = 2) : applyRule s =
    (eOk, setLast 3 eOk 0 (putProgress (modUpd (fun u => { u with
      state := 3
      locked := lockBits u.manifest
      currentPart := (nextPart u).getD 0 }) s))) := by
  rw [applyRule, if_neg (not_not.mpr h)]

theorem applyRule_closed {s : State} (h : s.update.state ≠ 2) : applyRule s = (eState, setLast 3 eState 0 s) := if_pos h

theorem exec_apply_admitted {s : State} {p : Port} (h : admitted s p .exec 0x7000 2 1 = true) :
    exec (.apply p) s = .next (reply p (applyRule s).1 (applyRule s).2) := execOp_admitted (rule := applyRule) h

theorem seedHold_other {x : MPart} {s : State} (h : x.kind ≠ 2) : seedHold x s = s := if_neg h

/-- A part of a channel that does not run, and no tree seed, holds nothing while it is rebuilt. -/
theorem exec_applyPart_quiet {s : State} {f : Option (Cs × PhysEnd)} (hstate : s.update.state = 3)
    (hgo : suspended s = false) (hready : vaultReady s = true) (hpll : s.pllLock = true)
    (hkind : (partAt s.update.manifest s.update.currentPart).kind ≠ 2)
    (heff : (chanAt s (chanOf (partAt s.update.manifest s.update.currentPart).chan)).eff ≠ .running) {c : U8} {t : State}
    (hbuild : buildPart (partAt s.update.manifest s.update.currentPart) f (modUpd (fun u => { u with
      partState := tput u.partState (partAt s.update.manifest s.update.currentPart).no 3
      applyProgress := 0 }) s) = (c, t)) :
    exec (.applyPart f) s =
      .next (finishAll (vaultFollow true (partEnd (partAt s.update.manifest s.update.currentPart) c t))) := by
  change execApplyPart f s = _
  rw [execApplyPart, if_pos ⟨hstate, by rw [hgo]; rfl, hready, hpll⟩]
  dsimp only
  rw [seedHold_other hkind]
  have hquiet : ((chanAt s (chanOf (partAt s.update.manifest s.update.currentPart).chan)).eff == .running) = false :=
    beq_false_of_ne heff
  rw [show ∀ (g : Update → Update) (k : Chan), chanAt (modUpd g s) k = chanAt s k from fun _ _ => rfl]
  simp only [hquiet, Bool.false_and, Bool.false_eq_true, if_false, hbuild]

theorem partEnd_verified (x : MPart) (s : State) : tget (partEnd x eOk s).update.partState x.no = some 4 := by
  rw [partEnd, if_pos rfl]
  simp only [setLast_update, putProgress_update, modUpd_update]
  generalize nextPart _ = k
  rcases k with _ | k
  · rw [tget_tput, if_pos rfl]
  · rw [tget_tput, if_pos rfl]

theorem partEnd_failed (x : MPart) {c : U8} (s : State) (h : c ≠ eOk) :
    tget (partEnd x c s).update.partState x.no = some 2 ∧ (partEnd x c s).update.state = 2 := by
  rw [partEnd, if_neg h]
  simp only [setLast_update, putProgress_update, modUpd_update]
  exact ⟨by rw [tget_tput, if_pos rfl], trivial⟩

theorem abortRule_running {s : State} (h1 : 1 ≤ s.update.state.toNat) (h4 : s.update.state.toNat ≤ 4) :
    abortRule s = (eOk, finishAll (setLast 7 eOk 0 (updateIdle (clearActivation s.update.seedHolds s)))) := by
  have hrunning : ¬ (s.update.state.toNat = 0 ∨ 5 ≤ s.update.state.toNat) := by omega
  rw [abortRule, if_neg hrunning]

theorem abortRule_closed {s : State} (h : s.update.state.toNat = 0 ∨ 5 ≤ s.update.state.toNat) :
    abortRule s = (eState, setLast 7 eState 0 s) := if_pos h

theorem exec_abort_admitted {s : State} {p : Port} (h : admitted s p .exec 0x7000 6 1 = true) :
    exec (.abort p) s = .next (reply p (abortRule s).1 (abortRule s).2) := execOp_admitted (rule := abortRule) h

/-- Settles O35: the branches of APPLY, of a part's end and of ABORT. -/
theorem updateApply : Obligations.UpdateApply := by
  unfold Obligations.UpdateApply
  refine ⟨fun s p hadm => ⟨fun h => ?apply, fun h => ?notStaged⟩,
    fun s f c t hstate hgo hready hpll hkind heff hbuild =>
      exec_applyPart_quiet hstate hgo hready hpll hkind heff hbuild,
    fun x s => ⟨partEnd_verified x s, fun c h => partEnd_failed x s h⟩,
    fun s p hadm => ⟨fun h1 h4 => ?abort, fun h => ?notAbortable⟩⟩
  case apply => rw [exec_apply_admitted hadm, applyRule_staged h]
  case notStaged => rw [exec_apply_admitted hadm, applyRule_closed h]
  case abort => rw [exec_abort_admitted hadm, abortRule_running h1 h4]
  case notAbortable => rw [exec_abort_admitted hadm, abortRule_closed h]

/-! ### ACTIVATE, CONFIRM, REVERT and the trial (R300 to R311) -/

theorem activateRule_closed {s : State} (h : s.update.state ≠ 4) : activateRule s = (eState, setLast 4 eState 0 s) :=
  if_pos (Or.inl h)

/-- The activation that a verified update orders. -/
def activationOf (s : State) : Update → Update := fun u =>
  { u with
    state := 5
    affected := affectedBy s.update.manifest
    targetBits := mfBits s.update.manifest
    act := some {
      stage := .stile
      kind := if mfTrial s.update.manifest = 0 then 1
        else if (mfParts s.update.manifest).any (fun p => p.kind == 3) then 3 else 2
      bits := mfBits s.update.manifest
      seedTrees := ((mfParts s.update.manifest).filter (fun p => p.kind == 2)).map (·.target)
      draft := activationDraft s } }

theorem activateRule_verified {s : State} (h : s.update.state = 4) (hwhole : s.vault.degraded = false)
    (hrpmb : rpmbWritable s = true) (hchans : ∀ c ∈ affectedBy s.update.manifest,
      (chanAt s (chanOf c)).eff ≠ .retired ∧ (chanAt s (chanOf c)).eff ≠ .recovering) :
    activateRule s = (eOk, finishAll (setLast 4 eOk 0
      (holdAffected (affectedBy s.update.manifest) (modUpd (activationOf s) s)))) := by
  have hnone (e : ChState) (hall : ∀ c ∈ affectedBy s.update.manifest, (chanAt s (chanOf c)).eff ≠ e) :
      ¬ (affectedBy s.update.manifest).any (fun c => (chanAt s (chanOf c)).eff == e) = true := by
    rw [List.any_eq_true]
    rintro ⟨c, hc, heff⟩
    exact hall c hc (eq_of_beq heff)
  have hopen : ¬ (s.update.state ≠ 4 ∨ s.vault.degraded = true ∨ (!rpmbWritable s) = true) := by
    simp [h, hwhole, hrpmb]
  unfold activateRule
  dsimp only
  rw [if_neg hopen, if_neg (hnone .retired fun c hc => (hchans c hc).1),
    if_neg (hnone .recovering fun c hc => (hchans c hc).2)]
  rfl

theorem exec_activate_admitted {s : State} {p : Port} (h : admitted s p .exec 0x7000 3 1 = true) :
    exec (.activate p) s = .next (reply p (activateRule s).1 (activateRule s).2) := execOp_admitted (rule := activateRule) h

theorem confirmStart_trial {s : State} {p : Port} (h : s.update.state = 6) (hidle : s.update.act = none) :
    confirmStart p s = (none, finishAll (modUpd (fun u => { u with
      act := some { stage := .stile, kind := 4, draft := confirmDraft s, confirmPort := some p } }) s)) := by
  rw [confirmStart, if_neg (not_not.mpr h), if_neg (by rw [hidle]; decide)]

theorem confirmStart_noTrial {s : State} {p : Port} (h : s.update.state ≠ 6) :
    confirmStart p s = (some eState, setLast 5 eState 0 s) := if_pos h

/-- An admitted request passes its checks and leaves the state as it was. -/
theorem request_exec_admitted {s : State} {p : Port} {i sub n : Nat} (h : admitted s p .exec i sub n = true) :
    request p .exec i sub n s = (eOk, s) := by
  obtain ⟨-, hwhole, hcheck⟩ := admitted_iff.mp h
  rw [request, fabricWord_whole hwhole]
  dsimp only
  rw [if_neg Bool.false_ne_true, hcheck]

section
variable {s t : State} {p : Port} (hadm : admitted s p .exec 0x7000 4 1 = true)
include hadm

theorem exec_confirm_waiting (hstart : confirmStart p s = (none, t)) : exec (.confirm p) s = .next t := by
  obtain ⟨hport, -, -⟩ := admitted_iff.mp hadm
  change execConfirm p s = _
  rw [execConfirm, if_neg (by rw [hport]; decide), request_exec_admitted hadm]
  dsimp only
  rw [if_neg (not_not.mpr rfl), hstart]

theorem exec_confirm_answered {c : U8} (hstart : confirmStart p s = (some c, t)) :
    exec (.confirm p) s = .next (reply p c t) := by
  obtain ⟨hport, -, -⟩ := admitted_iff.mp hadm
  change execConfirm p s = _
  rw [execConfirm, if_neg (by rw [hport]; decide), request_exec_admitted hadm]
  dsimp only
  rw [if_neg (not_not.mpr rfl), hstart]

end

/-- With no activation under way a trial's end is the revert alone. -/
theorem endTrial_idle {s : State} (cause c : U8) (h : s.update.act = none) :
    endTrial cause c s = finishAll (startRevert cause s) := by
  unfold endTrial
  dsimp only
  rw [h]

theorem revertRule_trial {s : State} (h : s.update.state = 6) (hidle : s.update.act = none) :
    revertRule s = (eOk, finishAll (startRevert eOk (setLast 6 eOk 0 s))) := by
  have hkept : (setLast 6 eOk 0 s).update.act = none := by rw [setLast_update]; exact hidle
  rw [revertRule, if_neg (not_not.mpr h), endTrial_idle _ _ hkept]

theorem revertRule_noTrial {s : State} (h : s.update.state ≠ 6) : revertRule s = (eState, setLast 6 eState 0 s) := if_pos h

theorem exec_revert_admitted {s : State} {p : Port} (h : admitted s p .exec 0x7000 5 1 = true) :
    exec (.revert p) s = .next (reply p (revertRule s).1 (revertRule s).2) := execOp_admitted (rule := revertRule) h

theorem exec_trialExpiry_trial {s : State} (h : s.update.state = 6) (hstart : s.update.trialStart.isSome = true)
    (hclk : s.refclk = true) (hidle : s.update.act = none) :
    exec .trialExpiry s = .next (finishAll (startRevert eTimeout (timeoutExpired 0xC s))) := by
  have hkept : (timeoutExpired 0xC s).update.act = none := hidle
  change Host.Outcome.next (trialExpire s) = _
  rw [trialExpire, if_pos ⟨h, hstart, hclk⟩, endTrial_idle _ _ hkept]

/-- Settles O36: the branches of ACTIVATE, CONFIRM and REVERT, and the trial's end. -/
theorem updateActivation : Obligations.UpdateActivation := by
  unfold Obligations.UpdateActivation
  refine ⟨fun s p hadm => ⟨fun h => ?notVerified, fun h hwhole hrpmb hchans => ?activate⟩,
    fun s p hadm => ⟨fun h hidle => exec_confirm_waiting hadm (confirmStart_trial h hidle),
      fun h => exec_confirm_answered hadm (confirmStart_noTrial h)⟩,
    fun s p hadm => ⟨fun h hidle => ?revert, fun h => ?noTrial⟩,
    fun s h hstart hclk hidle => exec_trialExpiry_trial h hstart hclk hidle⟩
  case notVerified => rw [exec_activate_admitted hadm, activateRule_closed h]
  case activate =>
    dsimp only
    rw [exec_activate_admitted hadm, activateRule_verified h hwhole hrpmb hchans]
    dsimp only
    unfold activationOf
    rfl
  case revert => rw [exec_revert_admitted hadm, revertRule_trial h hidle]
  case noTrial => rw [exec_revert_admitted hadm, revertRule_noTrial h]
end Sys2Proof.Proofs

end

section
/-! The PKE's areas, the start and the submission of its commands (O40, O41) -/

namespace Sys2Proof.Proofs
open Sys2Proof Sys2Proof.Machine Sys2Proof.Laws
set_option maxRecDepth 4000

/-! ### The PKE's areas (R371 to R375) -/

section
variable {s : State} {p : Port} {v : U8}

theorem pkLimbsRule_range (h : v = 0 ∨ 128 < v.toNat) : pkLimbsRule p v s = (eRange, s) := if_pos h

theorem pkLimbs_fit (h1 : 1 ≤ v.toNat) (hmax : v.toNat ≤ 128) : ¬ (v = 0 ∨ 128 < v.toNat) := by
  rintro (rfl | hbig)
  · exact absurd h1 (by decide)
  · omega

theorem pkLimbsRule_busy (h1 : 1 ≤ v.toNat) (hmax : v.toNat ≤ 128) (h : pkPending s p ≠ 0) :
    pkLimbsRule p v s = (eBusy, s) := by
  rw [pkLimbsRule, if_neg (pkLimbs_fit h1 hmax), if_pos h]

theorem pkLimbsRule_idle (h1 : 1 ≤ v.toNat) (hmax : v.toNat ≤ 128) (h : pkPending s p = 0) :
    pkLimbsRule p v s =
      (eOk, modPk p (fun k => { k with limbs := v, buf := zeros (5 * v.toNat), slots := [] }) s) := by
  rw [pkLimbsRule, if_neg (pkLimbs_fit h1 hmax), if_neg (not_not.mpr h)]
  rfl

theorem pkWipeRule_busy (h : pkPending s p ≠ 0) : pkWipeRule p s = (eBusy, s) := if_pos h

theorem pkWipeRule_idle (h : pkPending s p = 0) :
    pkWipeRule p s = (eOk, modPk p (fun k => { k with slots := [] }) s) := if_neg (not_not.mpr h)

end

section
variable {s : State} {p : Port} {off : Nat} {data : List Byte}

theorem pkBufRule_busy (h : pkPending s p ≠ 0) : pkBufRule p off data s = (eBusy, s) := if_pos h

variable (h : pkPending s p = 0)
include h

theorem pkBufRule_offset (hoff : off ≠ 0) : pkBufRule p off data s = (eRange, s) := by
  rw [pkBufRule, if_neg (not_not.mpr h), if_pos hoff]

theorem pkBufRule_length (hoff : off = 0) (hlen : data.length ≠ 5 * (pkPort s p).limbs.toNat) :
    pkBufRule p off data s = (eLength, s) := by
  rw [pkBufRule, if_neg (not_not.mpr h), if_neg (not_not.mpr hoff), pkBufSize, if_pos hlen]

theorem pkBufRule_whole (hoff : off = 0) (hlen : data.length = 5 * (pkPort s p).limbs.toNat) :
    pkBufRule p off data s = (eOk, modPk p (fun k => { k with buf := data }) s) := by
  rw [pkBufRule, if_neg (not_not.mpr h), if_neg (not_not.mpr hoff), pkBufSize, if_neg (not_not.mpr hlen)]

end

theorem exec_pkSlotLimbsWrite_admitted {s : State} {p : Port} {v : U8} (h : admitted s p .write 0x8401 0 1 = true) :
    exec (.pkSlotLimbsWrite p v) s = .next (reply p (pkLimbsRule p v s).1 (pkLimbsRule p v s).2) :=
  writeOp_admitted (rule := pkLimbsRule p v) h

theorem exec_pkWipe_admitted {s : State} {p : Port} (h : admitted s p .exec 0x8401 9 1 = true) :
    exec (.pkWipe p) s = .next (reply p (pkWipeRule p s).1 (pkWipeRule p s).2) := execOp_admitted (rule := pkWipeRule p) h

theorem exec_pkBufWrite_admitted {s : State} {p : Port} {off : U40} {data : List Byte}
    (h : admitted s p .writeBlock 0x8401 6 data.length = true) : exec (.pkBufWrite p off data) s =
    .next (reply p (pkBufRule p off.toNat data s).1 (pkBufRule p off.toNat data s).2) :=
  blockOp_admitted (rule := pkBufRule p off.toNat data) h

/-! ### The start of a command (R380, R381) -/

section
variable {s : State} {e : PkEntry} (hidle : s.pke.running = none) (hnext : pkNext s = some e)
include hidle hnext

theorem exec_pkCommandDispatch_starts (hcheck : pkCheck (modPke (fun k => { k with
      queue := k.queue.filter (fun x => x.entry != e.entry)
      commands := satInc k.commands
      running := some e }) s) e = eOk) :
    exec .pkCommandDispatch s = .next (modPke (fun k => { k with
      queue := k.queue.filter (fun x => x.entry != e.entry)
      commands := satInc k.commands
      running := some e }) s) := by
  change execPkCommandDispatch s = _
  rw [execPkCommandDispatch, hidle, hnext]
  dsimp only
  rw [if_pos hcheck]

theorem exec_pkCommandDispatch_fails {c : U8} (hcheck : pkCheck (modPke (fun k => { k with
      queue := k.queue.filter (fun x => x.entry != e.entry)
      commands := satInc k.commands
      running := some e }) s) e = c) (hfail : c ≠ eOk) (hstore : ¬ (e.op = 0x09 ∧ c = eWithheld)) :
    exec .pkCommandDispatch s = .next (pkEnd e c 0 (modPke (fun k => { k with
      queue := k.queue.filter (fun x => x.entry != e.entry)
      commands := satInc k.commands
      running := some e }) s)) := by
  change execPkCommandDispatch s = _
  rw [execPkCommandDispatch, hidle, hnext]
  dsimp only
  rw [hcheck, if_neg hfail, if_neg hstore]

end

/-- Settles O40: the branches of the area's rules and of the dispatch. -/
theorem pkeAreas : Obligations.PkeAreas := by
  unfold Obligations.PkeAreas
  refine ⟨⟨fun s p v hadm => ⟨fun h1 hmax h => ?limbs, fun h => ?limbsRange, fun h1 hmax h => ?limbsBusy⟩,
    fun s p hadm => ⟨fun h => ?wipe, fun h => ?wipeBusy⟩,
    fun s p off data hadm => ⟨fun h hoff hlen => ?buf, fun h hoff hlen => ?bufLength, fun h hoff => ?bufOffset,
      fun h => ?bufBusy⟩⟩,
    fun s e hidle hnext => ⟨fun hcheck => exec_pkCommandDispatch_starts hidle hnext hcheck,
      fun hfail hstore => exec_pkCommandDispatch_fails hidle hnext rfl hfail hstore⟩⟩
  case limbs => rw [exec_pkSlotLimbsWrite_admitted hadm, pkLimbsRule_idle h1 hmax h]
  case limbsRange => rw [exec_pkSlotLimbsWrite_admitted hadm, pkLimbsRule_range h]
  case limbsBusy => rw [exec_pkSlotLimbsWrite_admitted hadm, pkLimbsRule_busy h1 hmax h]
  case wipe => rw [exec_pkWipe_admitted hadm, pkWipeRule_idle h]
  case wipeBusy => rw [exec_pkWipe_admitted hadm, pkWipeRule_busy h]
  case buf => rw [exec_pkBufWrite_admitted hadm, pkBufRule_whole h hoff hlen]
  case bufLength => rw [exec_pkBufWrite_admitted hadm, pkBufRule_length h hoff hlen]
  case bufOffset => rw [exec_pkBufWrite_admitted hadm, pkBufRule_offset h hoff]
  case bufBusy => rw [exec_pkBufWrite_admitted hadm, pkBufRule_busy h]

/-! ### Submitting a command (R376 to R379) -/

/-- What makes a command word unfit for the port (R379). -/
def pkUnfit (s : State) (p : Port) (op : Nat) (w : PkWord) : Prop :=
  pkFieldsOk s p op w = false ∨ (pkSigOp op = true ∧ pkOverlap w = true) ∨
    ((pkPort s p).limbs.toNat < 10 ∧ (op = 0x0B ∨ op = 0x0C ∨ pkSigOp op = true ∨ op = 0x11))

section
variable {s : State} {p : Port} {op : Nat} {w : PkWord}

theorem pkSubmitRule_retired (h : s.pke.health.retired = true) : pkSubmitRule p op w s = (eRetired, s) := by
  unfold pkSubmitRule
  dsimp only
  rw [if_pos h]

variable (hwell : s.pke.health.retired = false)
include hwell

theorem pkSubmitRule_unfit (h : pkUnfit s p op w) : pkSubmitRule p op w s = (eRange, s) := by
  unfold pkSubmitRule
  dsimp only
  rw [if_neg (Bool.eq_false_iff.mp hwell)]
  split_ifs with hfields hoverlap hlimbs
  · rfl
  · rfl
  · rfl
  · exfalso
    rcases h with hbad | ⟨hsig, hover⟩ | hsmall
    · exact hfields (by rw [hbad]; rfl)
    · exact hoverlap (by rw [hsig, hover]; rfl)
    · exact hlimbs hsmall

theorem pkSubmitRule_fit (h : ¬ pkUnfit s p op w) : pkSubmitRule p op w s = match pkEntryFor s p with
    | none => (eBusy, s)
    | some n => (eOk, modPk p (fun k => { k with seq := (pkPort s p).seq + 1 })
        (modPke (fun k => { k with queue := k.queue ++ [⟨n, p, op, w, (pkPort s p).seq + 1⟩] }) s)) := by
  have hfields : ¬ (!pkFieldsOk s p op w) = true := fun hbad => h (Or.inl (by simpa using hbad))
  have hoverlap : ¬ (pkSigOp op && pkOverlap w) = true := fun hbad => h (Or.inr (Or.inl (by simpa using hbad)))
  have hlimbs : ¬ ((pkPort s p).limbs.toNat < 10 ∧ (op = 0x0B ∨ op = 0x0C ∨ pkSigOp op = true ∨ op = 0x11)) :=
    fun hbad => h (Or.inr (Or.inr hbad))
  unfold pkSubmitRule
  dsimp only
  rewrite [if_neg (Bool.eq_false_iff.mp hwell), if_neg hfields, if_neg hoverlap, if_neg hlimbs]
  rfl

variable (h : ¬ pkUnfit s p op w)
include h

theorem pkSubmitRule_full (hnone : pkEntryFor s p = none) : pkSubmitRule p op w s = (eBusy, s) := by
  rw [pkSubmitRule_fit hwell h, hnone]

theorem pkSubmitRule_queued {n : Nat} (hentry : pkEntryFor s p = some n) : pkSubmitRule p op w s =
    (eOk, modPk p (fun k => { k with seq := k.seq + 1 })
      (modPke (fun k => { k with queue := k.queue ++ [⟨n, p, op, w, (pkPort s p).seq + 1⟩] }) s)) := by
  rw [pkSubmitRule_fit hwell h, hentry]
  dsimp only
  rw [modPk_eq_of (f := fun k => { k with seq := (pkPort s p).seq + 1 }) (g := fun k => { k with seq := k.seq + 1 })]
  cases p <;> rfl

end

/-- The seventeen commands and their codes. -/
def pkCommands (p : Port) (w : PkWord) : List (Instr × Nat) :=
  [(.add p w, 0x01), (.sub p w, 0x02), (.mul p w, 0x03), (.inv p w, 0x04), (.exp p w, 0x05), (.expv p w, 0x06),
    (.reduce p w, 0x07), (.load p w, 0x08), (.store p w, 0x09), (.compare p w, 0x0A), (.keyload p w, 0x0B),
    (.keypub p w, 0x0C), (.rand p w, 0x0D), (.seal p w, 0x0E), (.verify p w, 0x0F), (.verifyGate p w, 0x10),
    (.toKey p w, 0x11)]

/-- Each of the seventeen instructions submits its own code. -/
theorem exec_pkCommand (s : State) (p : Port) (w : PkWord) : ∀ x ∈ pkCommands p w, exec x.1 s = pkSubmit p x.2 w s := by
  simp only [pkCommands, List.forall_mem_cons]
  exact ⟨rfl, rfl, rfl, rfl, rfl, rfl, rfl, rfl, rfl, rfl, rfl, rfl, rfl, rfl, rfl, rfl, rfl, fun _ hx => absurd hx List.not_mem_nil⟩

theorem exec_pkCommand_admitted {s : State} {p : Port} {w : PkWord} {x : Instr × Nat} (hx : x ∈ pkCommands p w)
    (h : admitted s p .exec 0x8401 2 5 = true) :
    exec x.1 s = .next (reply p (pkSubmitRule p x.2 w s).1 (pkSubmitRule p x.2 w s).2) := by
  rw [exec_pkCommand s p w x hx]
  exact execOp_admitted (rule := pkSubmitRule p x.2 w) h

/-- Settles O41: one rule, with the code of each of the seventeen instructions. -/
theorem pkeSubmits : Obligations.PkeSubmits := by
  unfold Obligations.PkeSubmits
  refine fun s p w hadm x hx => ⟨fun hwell hfit n hentry => ?queued, fun hwell hfit hnone => ?full,
    fun hwell hbad => ?unfit, fun h => ?retired⟩
  case queued => rw [exec_pkCommand_admitted hx hadm, pkSubmitRule_queued hwell hfit hentry]
  case full => rw [exec_pkCommand_admitted hx hadm, pkSubmitRule_full hwell hfit hnone]
  case unfit => rw [exec_pkCommand_admitted hx hadm, pkSubmitRule_unfit hwell hbad]
  case retired => rw [exec_pkCommand_admitted hx hadm, pkSubmitRule_retired h]
end Sys2Proof.Proofs

end

section
/-! Measurement recomputation and FENCE (O56) -/

namespace Sys2Proof.Proofs
open Sys2Proof Sys2Proof.Machine Sys2Proof.Laws
set_option maxRecDepth 4000

/-! ### Recomputation and FENCE (R427, R434) -/

theorem journalCommit_fence (e : JEntry) (s : State) : (journalCommit e s).journal.fence = s.journal.fence := by
  unfold journalCommit
  dsimp only
  split_ifs <;> rfl

theorem journalStage_fence (e : JEntry) (s : State) : (journalStage e s).journal.fence = s.journal.fence := by
  unfold journalStage
  dsimp only
  split_ifs <;> rfl

/-- An entry carries the fence number and leaves it. -/
theorem journal_fence (src code : Nat) (r : Bool) (d : List Byte) (s : State) :
    (journal src code r d s).journal.fence = s.journal.fence := by
  unfold journal
  dsimp only
  split_ifs
  · exact journalCommit_fence _ _
  · exact journalStage_fence _ _

/-- The state with the fence number raised and recorded, before the port takes note of it. -/
def fenceRaised (p : Port) (s : State) : State :=
  journal 0x00 0x0001 false (leBytes 1 (portNo p).val) { s with
    journal := { s.journal with fence := s.journal.fence + 1 } }

/-- The management port of a request notes the fence number. -/
def fenceNoted (p : Port) (f : U40) (s : State) : State :=
  match mportOf p with
  | some m => modMport m (fun x => { x with lastFence := f }) s
  | none => s

theorem fenceRaised_fence (p : Port) (s : State) : (fenceRaised p s).journal.fence = s.journal.fence + 1 :=
  journal_fence 0x00 0x0001 false (leBytes 1 (portNo p).val) _

theorem fenceRaised_ground (p : Port) (s : State) : ground (fenceRaised p s) = ground s := by
  rw [fenceRaised, journal_ground]
  rfl

theorem fenceNoted_journal (p : Port) (f : U40) (s : State) : (fenceNoted p f s).journal = s.journal := by
  cases p <;> rfl

theorem fenceNoted_chans (p : Port) (f : U40) (s : State) : (fenceNoted p f s).chans = s.chans := by
  cases p <;> rfl

theorem fenceNoted_ground (p : Port) (f : U40) (s : State) : ground (fenceNoted p f s) = ground s := by
  cases p <;> rfl

theorem fenceNoted_mport {p : Port} {m : MPort} (h : mportOf p = some m) (f : U40) (s : State) :
    (mportAt (fenceNoted p f s) m).lastFence = f := by
  rw [fenceNoted, h]
  dsimp only
  rw [mportAt_modMport_self]

theorem fenceRule_served {s : State} {p : Port} (h : p = .l ∨ inService s = true) : fenceRule p s =
    (eOk, leBytes 5 (s.journal.fence + 1).toNat, fenceNoted p (s.journal.fence + 1) (fenceRaised p s)) := by
  have hopen : ¬ (p ≠ .l ∧ (!inService s) = true) := by
    rintro ⟨hport, hphase⟩
    rcases h with hl | hserv
    · exact hport hl
    · rw [hserv] at hphase
      exact absurd hphase (by decide)
  rw [fenceRule, if_neg hopen]
  rfl

theorem fenceRule_early {s : State} {p : Port} (hport : p ≠ .l) (h : inService s = false) :
    fenceRule p s = (eNotReady, [], s) := if_pos ⟨hport, by rw [h]; rfl⟩

theorem exec_fence_served {s : State} {p : Port} (hserv : servable s p = true) (hwhole : flipsOf s 7 0 = 0) :
    exec (.fence p) s = .next (answer p (fenceRule p s).1 (fenceRule p s).2.1 (fenceRule p s).2.2) := by
  change execFence p s = _
  rw [execFence, if_neg (by rw [hserv]; decide), fabricWord_whole hwhole]
  dsimp only
  rw [if_neg Bool.false_ne_true]

theorem exec_measurementRecompute_due {s : State} {b : U8} (hdue : s.spdm.pendingBlocks.contains b.toNat = true)
    (hdigest : digestBlock b.toNat = true) (hrun : coresRun s = true) :
    exec (.measurementRecompute b) s = .next (modSpdm (fun x => { x with
      pendingBlocks := x.pendingBlocks.filter (· != b.toNat)
      blocks := tput x.blocks b.toNat (sha384 (blockContent s b.toNat)) }) s) := by
  change execMeasurementRecompute b s = _
  rw [execMeasurementRecompute, if_pos ⟨hdue, hdigest, hrun⟩]

/-- Settles O56: the recomputation that is due; FENCE's two branches. -/
theorem journalOrders : Obligations.JournalOrders := by
  unfold Obligations.JournalOrders
  refine ⟨fun s b hdue hdigest hrun => exec_measurementRecompute_due hdue hdigest hrun,
    fun s p hserv hwhole h => ?fence, fun s p hserv hwhole hport h => ?early⟩
  case fence =>
    rw [exec_fence_served hserv hwhole, fenceRule_served h]
    refine ⟨_, rfl, ?_, fun m hm => fenceNoted_mport hm _ _, ?_, ?_⟩
    · rw [fenceNoted_journal, fenceRaised_fence]
    · rw [fenceNoted_chans, fenceRaised, journal_chans]
    · rw [fenceNoted_ground, fenceRaised_ground]
  case early =>
    rw [exec_fence_served hserv hwhole, fenceRule_early hport h]
    rfl
end Sys2Proof.Proofs

end

section
/-! I3C codes and MCTP control messages (O52) -/

namespace Sys2Proof.Proofs
open Sys2Proof Sys2Proof.Machine Sys2Proof.Laws
set_option maxRecDepth 4000

/-! ### I3C codes (R517, R518) -/

theorem leNat_lt (bs : List Byte) : leNat bs < 256 ^ bs.length := by
  induction bs with
  | nil => exact Nat.one_pos
  | cons b bs ih =>
    have hb : b.toNat < 256 := b.isLt
    rw [leNat, List.length_cons, pow_succ]
    omega

/-- The PID's bytes: its upper half is the constant 1. -/
theorem beBytes_pid {x : Nat} (h : x < 256 ^ 4) : beBytes 6 (2 ^ 32 + x) = [0x00, 0x01] ++ beBytes 4 x := by
  have hbyte (v w : Nat) (heq : v % 256 = w % 256) : BitVec.ofNat 8 v = BitVec.ofNat 8 w := BitVec.eq_of_toNat_eq heq
  simp only [beBytes, leBytes, List.reverse_cons, List.reverse_nil, List.nil_append, List.cons_append]
  rw [hbyte ((2 ^ 32 + x) / 256 / 256 / 256 / 256 / 256) 0 (by omega), hbyte ((2 ^ 32 + x) / 256 / 256 / 256 / 256) 1 (by omega),
    hbyte ((2 ^ 32 + x) / 256 / 256 / 256) (x / 256 / 256 / 256) (by omega),
    hbyte ((2 ^ 32 + x) / 256 / 256) (x / 256 / 256) (by omega), hbyte ((2 ^ 32 + x) / 256) (x / 256) (by omega),
    hbyte (2 ^ 32 + x) x (by omega)]
  rfl

section
variable {s : State} {m : MPort}

theorem directed_addressed {f : State → State} (hup : portUp s m = true) (hmode : (mportAt s m).mode = 1) :
    directed m f s = .next (f s) := by
  rw [directed, hup, hmode]
  rfl

theorem directed_unaddressed {f : State → State} (h : portUp s m = false ∨ (mportAt s m).mode ≠ 1) :
    directed m f s = .next (nack m s) := by
  have hbad : (portUp s m && (mportAt s m).mode == 1) = false := by
    rcases h with hdown | hmode
    · rw [hdown, Bool.false_and]
    · rw [beq_false_of_ne hmode, Bool.and_false]
  rw [directed, hbad]
  rfl

/-- A code that sets values of the port is acknowledged with them set. -/
theorem acks_modMport (f : MgmtPort → MgmtPort) : acks m [] (modMport m f s) =
    modMport m (fun x => { f x with acked := true, driven := [] }) s := modMport_modMport m _ f s

theorem exec_entdaa_taken {a : U8} (hup : portUp s m = true) (hfree : (mportAt s m).da = 0) :
    exec (.entdaa m a) s = .next (takeAddress m a s) := by
  change execEntdaa m a s = _
  rw [execEntdaa, hup, hfree]
  rfl

theorem exec_entdaa_refused {a : U8} (h : portUp s m = false ∨ (mportAt s m).da ≠ 0) :
    exec (.entdaa m a) s = .next (nack m s) := by
  have hbad : (portUp s m && (mportAt s m).da == 0) = false := by
    rcases h with hdown | haddr
    · rw [hdown, Bool.false_and]
    · rw [beq_false_of_ne haddr, Bool.and_false]
  change execEntdaa m a s = _
  rw [execEntdaa, hbad]
  rfl

theorem exec_setdasa_taken {v a : U8} (hup : portUp s m = true) (hfree : (mportAt s m).da = 0)
    (haddr : (mportAt s m).smbAddr = v) : exec (.setdasa m v a) s = .next (takeAddress m a s) := by
  change execSetdasa m v a s = _
  rw [execSetdasa, hup, hfree, haddr, beq_self_eq_true, beq_self_eq_true]
  rfl

theorem exec_setdasa_refused {v a : U8} (h : portUp s m = false ∨ (mportAt s m).da ≠ 0 ∨ (mportAt s m).smbAddr ≠ v) :
    exec (.setdasa m v a) s = .next (nack m s) := by
  have hbad : (portUp s m && (mportAt s m).da == 0 && (mportAt s m).smbAddr == v) = false := by
    rcases h with hdown | hused | haddr
    · rw [hdown, Bool.false_and, Bool.false_and]
    · rw [beq_false_of_ne hused, Bool.and_false, Bool.false_and]
    · rw [beq_false_of_ne haddr, Bool.and_false]
  change execSetdasa m v a s = _
  rw [execSetdasa, hbad]
  rfl

theorem exec_rstdaa_up (hup : portUp s m = true) :
    exec (.rstdaa m) s = .next (acks m [] (modMport m (fun x => { x with mode := 0, da := 0 }) s)) := if_pos hup

theorem exec_rstdaa_down (h : portUp s m = false) : exec (.rstdaa m) s = .next (nack m s) :=
  if_neg (Bool.eq_false_iff.mp h)

/-- A code for a port in I3C mode is not acknowledged by another port. -/
theorem exec_directed_unaddressed (a : U8) (w : U16) (h : portUp s m = false ∨ (mportAt s m).mode ≠ 1) :
    ∀ c ∈ [Instr.setnewda m a, .getpid m, .getbcr m, .getdcr m, .getstatus m, .getmrl m, .getmwl m, .setmrl m w,
      .setmwl m w, .enec m, .disec m], exec c s = .next (nack m s) := by
  simp only [List.forall_mem_cons]
  exact ⟨directed_unaddressed h, directed_unaddressed h, directed_unaddressed h, directed_unaddressed h,
    show execGetstatus m s = _ from directed_unaddressed h, directed_unaddressed h, directed_unaddressed h,
    show execSetmrl m w s = _ from directed_unaddressed h, show execSetmwl m w s = _ from directed_unaddressed h,
    directed_unaddressed h, directed_unaddressed h, fun _ hc => absurd hc List.not_mem_nil⟩

section
variable (hup : portUp s m = true) (hmode : (mportAt s m).mode = 1)
include hup hmode

theorem exec_setnewda_addressed (a : U8) : exec (.setnewda m a) s = .next (takeAddress m a s) :=
  directed_addressed hup hmode

theorem exec_getpid_addressed : exec (.getpid m) s =
    .next (acks m ([0x00, 0x01] ++ beBytes 4 (leNat ((uidOf s).take 4))) s) := by
  have hlen : ((uidOf s).take 4).length = 4 := by simp [uidOf, otpRead]
  have hlt : leNat ((uidOf s).take 4) < 256 ^ 4 := by
    have h := leNat_lt ((uidOf s).take 4)
    rwa [hlen] at h
  rw [← beBytes_pid hlt]
  exact directed_addressed hup hmode

theorem exec_setmrl_long {w : U16} (h : 69 ≤ w.toNat) :
    exec (.setmrl m w) s = .next (acks m [] (modMport m (fun x => { x with mrl := w }) s)) := by
  change execSetmrl m w s = _
  rw [execSetmrl, directed_addressed hup hmode, if_neg (Nat.not_lt.mpr h)]

theorem exec_setmwl_long {w : U16} (h : 69 ≤ w.toNat) :
    exec (.setmwl m w) s = .next (acks m [] (modMport m (fun x => { x with mwl := w }) s)) := by
  change execSetmwl m w s = _
  rw [execSetmwl, directed_addressed hup hmode, if_neg (Nat.not_lt.mpr h)]

theorem exec_setmrl_short {w : U16} (h : w.toNat < 69) : exec (.setmrl m w) s = .next (acks m [] s) := by
  change execSetmrl m w s = _
  rw [execSetmrl, directed_addressed hup hmode, if_pos h]

theorem exec_setmwl_short {w : U16} (h : w.toNat < 69) : exec (.setmwl m w) s = .next (acks m [] s) := by
  change execSetmwl m w s = _
  rw [execSetmwl, directed_addressed hup hmode, if_pos h]

theorem exec_getstatus_addressed :
    exec (.getstatus m) s = .next (acks m (drawBytes 2 s).1 (drawBytes 2 s).2) := by
  change execGetstatus m s = _
  rw [execGetstatus, directed_addressed hup hmode]

end

end

/-- Bytes that the model leaves open cost free values and nothing else. -/
theorem drawBytes_shape (n : Nat) (s : State) :
    (drawBytes n s).1.length = n ∧ ∃ k, (drawBytes n s).2 = { s with freeCount := k } := by
  induction n generalizing s with
  | zero => exact ⟨rfl, s.freeCount, rfl⟩
  | succ n ih =>
    obtain ⟨hlen, k, hrest⟩ := ih (draw 8 s).2
    exact ⟨congrArg (· + 1) hlen, k, hrest⟩

/-! ### MCTP control messages (R519) -/

/-- The response that a control request from EID 0 gets. -/
def controlAnswer (bs : List Byte) : Response := { msg := [0x00, 0x00] ++ bs, tag := 0, dest := 0, credit := false }

/-- The port tells an answer to a control request. -/
def controlTold (m : MPort) (bs : List Byte) (s : State) : State :=
  modMport m (fun x => { x with responses := x.responses ++ [controlAnswer bs], acked := true, driven := [] }) s

theorem controlRow_up {m : MPort} {s t : State} {code : Byte} {data rsp : List Byte} (hup : portUp s m = true)
    (hserve : controlServe m code data s = (rsp, t)) : controlRow m code data s = controlTold m (code :: rsp) t := by
  have hwhole : ¬ (([0x00, 0x80, code] ++ data).length < 3 ∨
      (!(([0x00, 0x80, code] ++ data).getD 1 0).getLsbD 7) = true) := by
    rintro (hshort | hplain)
    · simp only [List.length_append, List.length_cons, List.length_nil] at hshort
      omega
    · exact absurd hplain (by change ¬ (!(0x80 : Byte).getLsbD 7) = true; decide)
  have hreceive : controlReceive m ([0x00, 0x80, code] ++ data) 0 0 s = controlReply m 0x80 code rsp 0 0 t := by
    rw [controlReceive, if_neg hwhole]
    change (if (0x80 : Byte).getLsbD 6 = true then (controlServe m code data s).2
      else controlReply m 0x80 code (controlServe m code data s).1 0 0 (controlServe m code data s).2) = _
    rw [hserve, if_neg (by decide)]
  rw [controlRow, if_pos hup, hreceive, acks, controlReply, modMport_modMport]
  rfl

theorem controlServe_setEid {m : MPort} {op eid : U8} {s : State} (hop : op = 0 ∨ op = 1) (hlow : 8 ≤ eid.toNat)
    (hhigh : eid ≠ 0xFF) : controlServe m 0x01 [op, eid] s =
      ([0x00, 0x00, eid, 0x00], modMport m (fun x => { x with eid := eid }) s) := by
  have hset : op &&& 3 = 0 ∨ op &&& 3 = 1 := by
    rcases hop with rfl | rfl
    · exact Or.inl (by decide)
    · exact Or.inr (by decide)
  change setEid m op eid s = _
  rw [setEid, if_pos hset, if_pos ⟨hlow, hhigh⟩]

theorem controlServe_vendor (m : MPort) (k : Byte) (s : State) : controlServe m 0x06 [k] s = (vendorSupport k, s) := rfl

theorem controlServe_version {m : MPort} {ty : Byte} {s : State}
    (h : ty = 0xFF ∨ ty = 0x00 ∨ ty = 0x05 ∨ ty = 0x06 ∨ ty = 0x7F) :
    controlServe m 0x04 [ty] s = ([0x00, 0x01] ++ (drawBytes 4 s).1, (drawBytes 4 s).2) := by
  have hknown : ty = 0xFF ∨ messageTypes.contains ty = true := by
    rcases h with rfl | rfl | rfl | rfl | rfl
    · exact Or.inl rfl
    all_goals exact Or.inr (by decide)
  change versionSupport ty s = _
  rw [versionSupport, if_pos hknown]

/-- The five codes that the device serves. -/
theorem controlServed_iff {c : Byte} : controlServed c = true ↔ c ∈ [(0x01 : Byte), 0x02, 0x04, 0x05, 0x06] :=
  List.contains_iff_mem

theorem controlServe_unserved {m : MPort} {c : Byte} {s : State} (h : c ∉ [(0x01 : Byte), 0x02, 0x04, 0x05, 0x06]) :
    controlServe m c [] s = ([0x05], s) := by
  have hne (k : Byte) (hk : k ∈ [(0x01 : Byte), 0x02, 0x04, 0x05, 0x06]) : c.toNat ≠ k.toNat :=
    fun heq => h (BitVec.eq_of_toNat_eq heq ▸ hk)
  have h1 : c.toNat ≠ 1 := hne 0x01 (by decide)
  have h2 : c.toNat ≠ 2 := hne 0x02 (by decide)
  have h4 : c.toNat ≠ 4 := hne 0x04 (by decide)
  have h5 : c.toNat ≠ 5 := hne 0x05 (by decide)
  have h6 : c.toNat ≠ 6 := hne 0x06 (by decide)
  unfold controlServe
  dsimp only
  split
  · contradiction
  · contradiction
  · contradiction
  · contradiction
  · contradiction
  · rfl

theorem exec_mctpUnsupportedCommand_told {s : State} {m : MPort} {c : U8} (hup : portUp s m = true)
    (h : c ∉ [(0x01 : Byte), 0x02, 0x04, 0x05, 0x06]) :
    exec (.mctpUnsupportedCommand m c) s = .next (controlTold m [c, 0x05] s) := by
  change execMctpUnsupportedCommand m c s = _
  rw [execMctpUnsupportedCommand, if_neg (mt controlServed_iff.mp h), controlRow_up hup (controlServe_unserved h)]

theorem controlTold_responses (m : MPort) (bs : List Byte) (s : State) :
    (mportAt (controlTold m bs s) m).responses = (mportAt s m).responses ++ [controlAnswer bs] := by
  rw [controlTold, mportAt_modMport_self]

theorem controlTold_ground (m : MPort) (bs : List Byte) (s : State) : ground (controlTold m bs s) = ground s := by
  rw [controlTold, modMport_ground]

/-- Settles O52: the branches of each code, and of each control message. -/
theorem linkControl : Obligations.LinkControl := by
  unfold Obligations.LinkControl
  refine ⟨fun s m a v w => ⟨fun hup => ⟨fun hfree => ?entdaa, fun hused => ⟨exec_entdaa_refused (Or.inr hused),
      exec_setdasa_refused (Or.inr (Or.inl hused))⟩, fun hfree haddr => ?setdasa,
      fun haddr => exec_setdasa_refused (Or.inr (Or.inr haddr)), ?rstdaa⟩,
    fun hup hmode => ⟨?setnewda, exec_getpid_addressed hup hmode, directed_addressed hup hmode,
      directed_addressed hup hmode, directed_addressed hup hmode, directed_addressed hup hmode,
      directed_addressed hup hmode, directed_addressed hup hmode,
      fun h => ⟨?setmrl, ?setmwl⟩, fun h => ⟨exec_setmrl_short hup hmode h, exec_setmwl_short hup hmode h⟩,
      ?getstatus⟩,
    fun h => exec_directed_unaddressed a w h, fun hdown => ?silent⟩,
    fun s m hup => ⟨fun op eid hop hlow hhigh => ?setEid, ?getEid, ?types, ?vendor, fun k hk => ?vendorEnd,
      fun ty h => ?version, fun c h => exec_mctpUnsupportedCommand_told hup h⟩⟩
  case entdaa => rw [exec_entdaa_taken hup hfree, takeAddress, acks_modMport]
  case setdasa => rw [exec_setdasa_taken hup hfree haddr, takeAddress, acks_modMport]
  case rstdaa => rw [exec_rstdaa_up hup, acks_modMport]
  case setnewda => rw [exec_setnewda_addressed hup hmode, takeAddress, acks_modMport]
  case setmrl => rw [exec_setmrl_long hup hmode h, acks_modMport]
  case setmwl => rw [exec_setmwl_long hup hmode h, acks_modMport]
  case getstatus =>
    obtain ⟨hlen, k, hrest⟩ := drawBytes_shape 2 s
    have hground : ground (drawBytes 2 s).2 = ground s := drawBytes_ground 2 s
    refine ⟨_, exec_getstatus_addressed hup hmode, ?_⟩
    rw [acks, mportAt_modMport_self, modMport_ground, modMport_chans, modMport_keys, hground, hrest]
    exact ⟨rfl, hlen, rfl, rfl, rfl, rfl⟩
  case silent =>
    simp only [List.forall_mem_cons]
    exact ⟨exec_entdaa_refused (Or.inl hdown), exec_setdasa_refused (Or.inl hdown), exec_rstdaa_down hdown,
      fun _ hc => absurd hc List.not_mem_nil⟩
  case setEid =>
    refine ⟨controlTold m [0x01, 0x00, 0x00, eid, 0x00] (modMport m (fun x => { x with eid := eid }) s),
      congrArg Host.Outcome.next (controlRow_up hup (controlServe_setEid hop hlow hhigh)), ?_, ?_, ?_, ?_, ?_⟩
    · rw [controlTold, mportAt_modMport_self, mportAt_modMport_self]
    · rw [controlTold_responses, mportAt_modMport_self]
      rfl
    · rw [controlTold, mportAt_modMport_self, mportAt_modMport_self]
    · rw [controlTold_ground, modMport_ground]
    · rw [controlTold, modMport_chans, modMport_chans]
  case getEid => exact congrArg Host.Outcome.next (controlRow_up hup rfl)
  case types => exact congrArg Host.Outcome.next (controlRow_up hup rfl)
  case vendor => exact congrArg Host.Outcome.next (controlRow_up hup (controlServe_vendor m 0 s))
  case vendorEnd =>
    have hserve : controlServe m 0x06 [k] s = ([0x02], s) := by
      rw [controlServe_vendor, vendorSupport, if_neg hk]
    exact congrArg Host.Outcome.next (controlRow_up hup hserve)
  case version =>
    obtain ⟨hlen, k, hrest⟩ := drawBytes_shape 4 s
    refine ⟨_, (drawBytes 4 s).1, congrArg Host.Outcome.next (controlRow_up hup (controlServe_version h)), hlen, ?_, ?_⟩
    · rw [controlTold_responses, hrest]
      rfl
    · rw [controlTold_ground, drawBytes_ground]
end Sys2Proof.Proofs

end

section
/-! READ, READ_BLOCK and POLL (O54) -/

namespace Sys2Proof.Proofs
open Sys2Proof Sys2Proof.Machine Sys2Proof.Laws
set_option maxRecDepth 4000

/-! ### READ (R529, R534) -/

theorem toNat_eq_ofNat {w v : Nat} {i : BitVec w} (hv : v < 2 ^ w) (h : i.toNat = v) : i = BitVec.ofNat w v :=
  BitVec.eq_of_toNat_eq (by rw [h, BitVec.toNat_ofNat, Nat.mod_eq_of_lt hv])

/-- An object that the device keeps is read from it. -/
theorem readRule_kept {s : State} {p : Port} {i sub : Nat} {e : Entry} (he : entryAt i sub = some e)
    (hraw : ¬ (i = 0x8020 ∧ sub = 2)) (hnonce : ¬ (i = 0x1201 ∧ sub = 0)) (hmeas : ¬ (i = 0xB002 ∧ sub = 1)) :
    readRule p i sub s = (eOk, sized e.size (readAny p i sub s), s) := by
  rw [readRule, if_neg hraw, if_neg hnonce, if_neg hmeas, he]

theorem exec_read_admitted {s : State} {p : Port} {i : U16} {sub : U8} (h : admitted s p .read i.toNat sub.toNat 0 = true) :
    exec (.read p i sub) s = .next (answer p (readRule p i.toNat sub.toNat s).1 (readRule p i.toNat sub.toNat s).2.1
      (readRule p i.toNat sub.toNat s).2.2) := readOp_admitted (rule := readRule p i.toNat sub.toNat) h

theorem exec_read_kept {s : State} {p : Port} {i : U16} {sub : U8} {e : Entry}
    (hadm : admitted s p .read i.toNat sub.toNat 0 = true) (he : entryAt i.toNat sub.toNat = some e)
    (hraw : ¬ (i = 0x8020 ∧ sub = 2)) (hnonce : ¬ (i = 0x1201 ∧ sub = 0)) (hmeas : ¬ (i = 0xB002 ∧ sub = 1)) :
    exec (.read p i sub) s = .next (answer p eOk (sized e.size (readAny p i.toNat sub.toNat s)) s) := by
  rw [exec_read_admitted hadm, readRule_kept he
    (fun h => hraw ⟨toNat_eq_ofNat (by decide) h.1, toNat_eq_ofNat (by decide) h.2⟩)
    (fun h => hnonce ⟨toNat_eq_ofNat (by decide) h.1, toNat_eq_ofNat (by decide) h.2⟩)
    (fun h => hmeas ⟨toNat_eq_ofNat (by decide) h.1, toNat_eq_ofNat (by decide) h.2⟩)]

/-! ### The states of a channel -/

/-- The requested and the effective state are objects of one byte each. -/
theorem entryAt_channelState (c : Chan) (sub : Fin 2) :
    ∃ e, entryAt (0x3001 + 0x100 * c.val) sub.val = some e ∧ e.size = 1 := by
  have hsize : ∀ (c : Chan) (sub : Fin 2), (entryAt (0x3001 + 0x100 * c.val) sub.val).map Entry.size = some 1 := by
    decide
  exact Option.map_eq_some_iff.mp (hsize c sub)

theorem readAny_channel {p : Port} {i sub : Nat} {s : State} (hlow : 0x3000 ≤ i) (hhigh : i < 0x3600) :
    readAny p i sub s = readChannel i sub s := by
  rw [readAny, if_neg (by omega), if_neg (by omega), if_pos hhigh]

theorem channelObject_chan (c : Chan) : chanOf ((0x3001 + 0x100 * c.val) / 256 - 0x30) = c := by
  revert c
  decide

theorem channelObject_low (c : Chan) : (0x3001 + 0x100 * c.val) % 256 = 0x01 := by omega

theorem readChannel_reqState (c : Chan) (s : State) :
    readChannel (0x3001 + 0x100 * c.val) 0 s = .inl (chanAt s c).reqState.toNat := by
  unfold readChannel
  rw [channelObject_low, channelObject_chan]
  rfl

theorem readChannel_eff (c : Chan) (s : State) :
    readChannel (0x3001 + 0x100 * c.val) 1 s = .inl (chStateCode (chanAt s c).eff) := by
  unfold readChannel
  rw [channelObject_low, channelObject_chan]
  rfl

theorem exec_read_channelState {s : State} {p : Port} (c : Chan) (sub : Fin 2) {v : Nat}
    (hadm : admitted s p .read (0x3001 + 0x100 * c.val) sub.val 0 = true)
    (hvalue : readChannel (0x3001 + 0x100 * c.val) sub.val s = .inl v) :
    exec (.read p (BitVec.ofNat 16 (0x3001 + 0x100 * c.val)) (BitVec.ofNat 8 sub.val)) s =
      .next (answer p eOk [BitVec.ofNat 8 v] s) := by
  have hindex : (BitVec.ofNat 16 (0x3001 + 0x100 * c.val)).toNat = 0x3001 + 0x100 * c.val := by
    rw [BitVec.toNat_ofNat]
    omega
  have hsub : (BitVec.ofNat 8 sub.val).toNat = sub.val := by
    rw [BitVec.toNat_ofNat]
    omega
  obtain ⟨e, he, hsize⟩ := entryAt_channelState c sub
  have hread : readRule p (0x3001 + 0x100 * c.val) sub.val s = (eOk, [BitVec.ofNat 8 v], s) := by
    rw [readRule_kept he (by omega) (by omega) (by omega), hsize, readAny_channel (by omega) (by omega), hvalue]
    rfl
  rw [exec_read_admitted (by rw [hindex, hsub]; exact hadm), hindex, hsub, hread]

/-! ### READ_BLOCK and POLL (R529, R530) -/

section
variable {s : State} {p : Port} {i n : U16} {sub : U8} {off : U40}
  (hadm : admitted s p .readBlock i.toNat sub.toNat 0 = true) (hfield : ¬ (i = 0xD000 ∧ sub = 1))
include hadm hfield

theorem exec_readBlock_admitted (h1 : 1 ≤ n.toNat) (hmax : n.toNat ≤ 4094) : exec (.readBlock p i sub off n) s =
    .next (answer p (readBlockRule p i.toNat sub.toNat off.toNat n.toNat s).1
      (readBlockRule p i.toNat sub.toNat off.toNat n.toNat s).2.1
      (readBlockRule p i.toNat sub.toNat off.toNat n.toNat s).2.2) := by
  obtain ⟨hport, -, -⟩ := admitted_iff.mp hadm
  change execReadBlock p i sub off n s = _
  rw [execReadBlock, if_neg hfield, if_neg (by rw [hport]; decide), blockRequest_admitted hadm h1 hmax]
  dsimp only
  rw [if_neg (not_not.mpr rfl)]

theorem exec_readBlock_range (h : n = 0 ∨ 4094 < n.toNat) :
    exec (.readBlock p i sub off n) s = .next (reply p eRange s) := by
  obtain ⟨hport, hwhole, hcheck⟩ := admitted_iff.mp hadm
  have hcount : n.toNat = 0 ∨ 4094 < n.toNat := h.imp_left (congrArg BitVec.toNat)
  have hrequest : request p .readBlock i.toNat sub.toNat 0 s = (eOk, s) := by
    rw [request, fabricWord_whole hwhole]
    dsimp only
    rw [if_neg Bool.false_ne_true, hcheck]
  have hblock : blockRequest p i.toNat sub.toNat n.toNat s = (eRange, s) := by
    rw [blockRequest, hrequest]
    dsimp only
    rw [if_pos ⟨by decide, hcount⟩]
  change execReadBlock p i sub off n s = _
  rw [execReadBlock, if_neg hfield, if_neg (by rw [hport]; decide), hblock]
  dsimp only
  rw [if_pos (by decide)]

end

section
variable {s : State} {p : Port} {es : List (U16 × U8)}

theorem exec_poll_served (hserv : servable s p = true) (hwhole : flipsOf s 7 0 = 0) : exec (.poll p es) s =
    .next (answer p (pollRule p es s).1 (pollRule p es s).2.1 (pollRule p es s).2.2) := by
  change execPoll p es s = _
  rw [execPoll, if_neg (by rw [hserv]; decide), fabricWord_whole hwhole]
  dsimp only
  rw [if_neg Bool.false_ne_true]

theorem pollRule_range (h : es = [] ∨ 16 < es.length) : pollRule p es s = (eRange, [], s) := if_pos h

variable (hsome : es ≠ []) (hlen : es.length ≤ 16)
include hsome hlen

theorem pollRule_early (h : ∃ e ∈ es, phaseAdmits s p .poll e.1.toNat e.2.toNat = false) :
    pollRule p es s = (eNotReady, [], s) := by
  obtain ⟨e, he, hphase⟩ := h
  have hany : es.any (fun e => !phaseAdmits s p .poll e.1.toNat e.2.toNat) = true :=
    List.any_eq_true.mpr ⟨e, he, by rw [hphase]; rfl⟩
  rw [pollRule, if_neg (not_or.mpr ⟨hsome, Nat.not_lt.mpr hlen⟩), if_pos hany]

theorem pollRule_admitted (h : ∀ e ∈ es, phaseAdmits s p .poll e.1.toNat e.2.toNat = true) :
    pollRule p es s = pollEntries p es s := by
  have hany : ¬ es.any (fun e => !phaseAdmits s p .poll e.1.toNat e.2.toNat) = true := by
    rw [List.any_eq_true]
    rintro ⟨e, he, hphase⟩
    rw [h e he] at hphase
    exact absurd hphase (by decide)
  rw [pollRule, if_neg (not_or.mpr ⟨hsome, Nat.not_lt.mpr hlen⟩), if_neg hany]

end

/-- Settles O54: an admitted read answers by its object's rule; a channel's two states as examples; POLL's branches. -/
theorem objectReads : Obligations.ObjectReads := by
  unfold Obligations.ObjectReads
  refine ⟨fun s p i sub e hadm he hraw hnonce hmeas => exec_read_kept hadm he hraw hnonce hmeas,
    fun s p c hadm => ?reqState, fun s p c hadm => exec_read_channelState c 1 hadm (readChannel_eff c s),
    fun s p i n sub off hadm hfield => ⟨fun h1 hmax => exec_readBlock_admitted hadm hfield h1 hmax,
      fun h => exec_readBlock_range hadm hfield h⟩,
    fun s p es hserv hwhole => ⟨fun h => ?none, fun hsome hlen h => ?early, fun hsome hlen h => ?poll⟩⟩
  case reqState =>
    have hread := exec_read_channelState c 0 hadm (readChannel_reqState c s)
    rwa [BitVec.ofNat_toNat, BitVec.setWidth_eq] at hread
  case none =>
    rw [exec_poll_served hserv hwhole, pollRule_range h]
    rfl
  case early =>
    rw [exec_poll_served hserv hwhole, pollRule_early hsome hlen h]
    rfl
  case poll => rw [exec_poll_served hserv hwhole, pollRule_admitted hsome hlen h]
end Sys2Proof.Proofs

end
